-- ==== Sys2Proof/Word.lean ====
section
/-! DEFINITION. The words of the AMN-2560 and the shape of its sparse stores. -/
namespace Sys2Proof

/-- A byte of a table, a window or a record. -/
abbrev Byte := BitVec 8
/-- A 32-bit BAR0 register word. -/
abbrev Word := BitVec 32
/-- A 64-bit general register of a routine, or an instruction word (R560, Table JIR-1). -/
abbrev DWord := BitVec 64
/-- The 32 bytes of a queue item (12 Table QUE-2), byte k in bits [8k+7:8k]. -/
abbrev Item256 := BitVec 256

/-- A sparse store: pairs (key, value) with strictly rising keys, holding no value equal to
the default of its key. -/
abbrev Tbl (α : Type) := List (Nat × α)

end Sys2Proof
end

