-- ==== Sys2Proof/Syntax.lean ====
section
/-! DEFINITION. The commands of the block (spec/opcode_table.json) and what they carry: host accesses, descriptors and the parameters of
commands, and what hardware events bring. -/
namespace Sys2Proof
/-- A host access as it arrives: the requester's ID and tag, the BAR, the offset in it, and the length in bytes. -/
structure Access where
  req : Nat
  tag : Nat
  bar : Nat
  off : Nat
  size : Nat
  deriving DecidableEq, Repr

/-- A host write with its access and its value. -/
structure HostStore where
  acc : Access
  v : Nat
  deriving DecidableEq, Repr

/-- What a hardware source pushes (12 R376): one item, or a whole packet of the given length in 32-byte words. -/
inductive HwPush
  | item (d : Item256)
  | packet (len : Nat) (words : List Item256)
  deriving DecidableEq, Repr

/-- A frame received on a Side Street port (12 R396, Table QUE-8): its length in bytes with the FCS, whether the FCS is
good, its destination, EtherType after any tag, VLAN identifier, header fields, payload, and the ticks since its first token reached the edge
FIFO (R374). -/
structure SsFrame where
  len : Nat
  fcsOk : Bool
  dst : Nat
  etype : Nat
  vid : Option Nat
  devid : Nat
  queue : Nat
  kind : Nat
  countOfs : Nat
  last : Bool
  payload : List Byte
  age : Nat
  deriving DecidableEq, Repr

/-- The fields of a Jorm instruction word below MAJOR (20 Table JIR-1). -/
structure JWord where
  dst : BitVec 5
  s1 : BitVec 5
  s2 : BitVec 5
  gp : BitVec 3
  gs : Bool
  minor : BitVec 7
  imm : BitVec 32
  deriving DecidableEq, Repr

/-- What a received frame of an ODU brings to its demapper (06 R189 to R191): nothing of its own; the three justification control values of
AMP; for IMP whether the 257-bit blocks are in lock, and the idle blocks inserted or deleted toward the PHY; for a
client whether its demapper FIFO left its range in this frame, and whether a frame of the client started (R192). -/
inductive MapRx
  | plain
  | amp (a b c : Nat)
  | imp (lock : Bool) (idles : Nat)
  | client (slip start : Bool)
  deriving DecidableEq, Repr

/-- What FRAME_RECEIVED brings: a FlexO frame's GID and PID on an interface; or an OTUC, OTU4 or ODUk frame of a layer
instance (slice n: n; ODU i: 256 + i) with its 64 overhead bytes, the BIP-8 of its OPU area (05 R150), and what it brings to the demapper. -/
inductive FrameRx
  | flexo (lif gid pid : Nat) (map : List Nat)
  | otn (key : Nat) (oh : List Byte) (par : Byte) (map : MapRx)
  deriving DecidableEq, Repr

/-- An insert record of an Overhead Access Port (13 R403): its tag, its bytes, and the DTS at which its last byte was
sampled. -/
structure InsRec where
  tag : Nat
  bytes : List Byte
  at_ : Nat
  deriving DecidableEq, Repr

/-- What GMP_PERIOD_TX finds at the mapper (06 R188 to R190, R196): `fill` the bytes its FIFO asks for in a GMP period; `arcade` the length of
the period in ticks; `amp` the justification its FIFO asks for in an AMP frame (0 none, 1
negative, 2 double positive, 3 positive); `imp` the idle blocks an IMP mapper inserts or deletes; `client` the bytes a 100GBASE-R client's
FIFO asks for in an OPU4 frame. -/
inductive TxSource
  | fill (bytes : Nat)
  | arcade (per : Nat)
  | amp (just : Nat)
  | imp (idles : Nat)
  | client (bytes : Nat)
  deriving DecidableEq, Repr

/-- Where a byte entered the device (01 R31): the ingress port, its offset in bytes within a frame that the port stamped, and how many frames
before the latest stamped one that frame is. -/
structure BytePos where
  port : Nat
  off : Nat
  back : Nat := 0
  deriving DecidableEq, Repr

/-- What CELL_SEND sends (08 R244, R246, R252): an IDLE or a DRAIN cell, or the next data cell of the flow of a receive entry,
with the place where its first payload byte entered and the stream's bytes. -/
inductive CellSrc
  | idle
  | drain
  | data (inst : Nat) (pos : BytePos) (payload : List Byte)
  deriving DecidableEq, Repr

/-- A frame of a Class A path as it reaches the selector (10 R318, R322): its 15,296 bytes, row by row, FRAME_DTS, and whether it carries HW_SF
and a BIP-8 violation. -/
structure PairFrame where
  bytes : List Byte
  fdts : Nat
  hwSf : Bool
  errored : Bool
  deriving DecidableEq, Repr

/-- What the unit of an Underpass read holds for its user (09 Table UND-2): nothing, a frame of a Class A pair's ring (its FRAME_SEQ), a
checkpoint epoch, n items of a queue from a position, a PM bin of an entry, an event record, or a routine image. -/
inductive UndUse
  | none
  | deskew (d x seq : Nat)
  | checkpoint
  | spill (q pos n : Nat)
  | bin (e k : Nat)
  | event (seq : Nat)
  | image
  deriving DecidableEq, Repr

/-- What an Underpass read of a burst meets (09 R275): how many of the burst's 8-bit symbols are in error. -/
structure UndRes where
  symbols : Nat
  deriving DecidableEq, Repr

/-- A token (02): 256 bytes with its side tag: the layer instance (slice n: n; ODU i: 256 + i) and the slice it travels in (256: none),
its direction, the stages of its way behind it (0 to 2), its position, whether it holds what Table PAC-2 stamps, the stamp, the
epoch of the route it was sent on (07 R218), and the six JC bytes its ODU's slice stage or mapper gives it, JC1 highest (06 R174). -/
structure Token where
  key : Nat
  slice : Nat
  tx : Bool
  leg : Nat
  pos : Nat
  mark : Bool
  dts : Option Nat
  data : BitVec 2048
  epoch : Nat := 0
  jc : Option Nat := none
  deriving DecidableEq, Repr

/-- A code wanted for a matched delay of a half: its pipeline (0 receive, 1 transmit), its stage and the code (02 R52). -/
structure DelayCode where
  pipe : Nat
  stage : Nat
  code : Nat
  deriving DecidableEq, Repr

/-- What a TOKEN_TRANSFER moves (02 R45, R46), for Avenue a and pipeline d (0 receive, 1 transmit): a token that no Avenue serves out of
its ingress edge FIFO; the oldest token for (a, d) of an ingress FIFO into its kerb buffer; a token into stage k of half h; the token
of a half's last stage, with the contents the half has given it and whether they hold what Table PAC-2 stamps where it leaves, into its
skew FIFO; the compared token into the kerb buffers of its next stage; the
compared token into the egress FIFO of one port, or of two. -/
inductive Hop
  | localPort (port : Nat)
  | kerb (port a d : Nat)
  | stage (a d h k : Nat)
  | offer (a d h : Nat) (data : BitVec 2048) (mark : Bool)
  | pass (a d : Nat)
  | egress (a d port : Nat) (other : Option Nat)
  deriving DecidableEq, Repr

/-- A command descriptor as it is read from the ring (17 Table HST-6): its tag and HCP version, the lowest byte of PARAMS that is not
named and not zero, and whether a host buffer of it cannot be read. -/
structure Desc where
  tag : Nat
  hcp : Nat
  resv : Option Nat
  fetchFail : Bool
  deriving DecidableEq, Repr

/-- What a MEDIAN_COMPARE compares (16 R461, R462): the two oldest tokens of a pipeline; a half's 65th token against its twin's silence;
the change sets of a context's run, with the outcome. -/
inductive MedWhat
  | token (a d : Nat)
  | skew (a d : Nat)
  | commit (c : Nat) (equal : Bool)
  deriving DecidableEq, Repr

/-- The parameters of ODU_CFG (17 Table HST-9), with the slot numbers and TU numbers of its list. -/
structure OduParams where
  inst : Nat
  type : Nat
  client : Nat
  server : Nat
  cls : Nat
  rank : Nat
  slot : Nat
  rate : Nat
  tsCount : Nat
  jcHold : Nat
  jcResync : Nat
  rateWin : Nat
  fillTarget : Nat
  fillGain : Nat
  pt : Nat
  ts : List Nat
  tu : List Nat
  deriving DecidableEq, Repr

/-- A parameter block of BIND (03 Table JRM-6): its fields, the lowest reserved byte that is not zero, and its ROUTINE_PARAMS. -/
structure BindBlock where
  jabi : Nat
  length : Nat
  routine : Nat
  divLog2 : Nat
  ttCount : Nat
  qCount : Nat
  tt : List (Nat × Nat)
  qs : List (Nat × Nat)
  resv : Option Nat
  params : List Byte
  deriving DecidableEq, Repr

/-- Where the on-die scrub finds an uncorrectable word (18 R522): in half h of Avenue a, in the Plaza maps, or in another structure, with its
word address. -/
inductive SramLoc
  | half (a h : Nat)
  | plaza
  | other (structure_ addr : Nat)
  deriving DecidableEq, Repr

/-- A read of an Underpass page by the Sweeper that is not clean: unit, burst, the symbols in error, the corrections of the stack
itself, and what the unit holds for its user. -/
structure ScrubFind where
  unit : Nat
  burst : Nat
  res : UndRes
  onDie : Nat
  use : UndUse
  deriving DecidableEq, Repr

/-- A routine image as IMAGE_LOAD presents it (03 R100, R563): its header, whether its signature verifies, and its code. -/
structure ImageFile where
  routine : Nat
  jabi : Nat
  wcsc : Nat
  ofs : Nat
  signed : Bool
  code : List DWord
  deriving DecidableEq, Repr

/-- What a start-up stage finds (19 R549 to R552): for stages 2 and 3 the active slot of the boot header and why the image of slot A
and of slot B is rejected (0 key, 1 version, 2 signature); at stage 2 the security version of the firmware that runs, if its
ADVANCE flag is set; at stage 4 the Avenue halves (2 × Avenue + half) that fail their self-test; at stage 5 whether the seal of each
snapshot copy holds, and the routines whose images fail verification. -/
structure StageFind where
  active : Bool
  rejA : Option Nat
  rejB : Option Nat
  advance : Option Nat
  halves : List Nat
  seal0 : Bool
  seal1 : Bool
  badImages : List Nat
  deriving DecidableEq, Repr

end Sys2Proof

namespace Sys2Proof.Machine

/-- A bin (Table PMN-3); the eight classified parameters stand in the order of Table PMN-4. -/
structure BinRec where
  start : Nat := 0
  day : Bool := false
  current : Bool := false
  incomplete : Bool := false
  skipped : Bool := false
  timeUnset : Bool := false
  short : Bool := false
  storeLost : Bool := false
  nUnavail : Bool := false
  fUnavail : Bool := false
  validS : Nat := 0
  lateS : Nat := 0
  par : List Nat := [0, 0, 0, 0, 0, 0, 0, 0]
  nEb : Nat := 0
  psc : Nat := 0
  raised : BitVec 8 := 0
  standing : BitVec 8 := 0
  deriving DecidableEq, Repr

/-- A selection asked of the switch engine (R223, R225): by the fast path or by a COMMIT, and when. -/
structure SelReq where
  fast : Bool
  at_ : Nat
  deriving DecidableEq, Repr

/-- A connection map entry (Table PLZ-2) with the fields of its record that the map does not show (17 Table HST-8), the
selection waiting for a frame start, a committed request held (R226), and whether a change of the entry waits for the
output's frame start (R216). -/
structure ConnH where
  valid : Bool := false
  kind : Nat := 0
  cls : Nat := 0
  bridge : Bool := false
  fastEn : Bool := false
  inhibit : Bool := false
  fwd : Bool := false
  route1 : Bool := false
  sel : Bool := false
  aisFill : Bool := false
  partner : Nat := 0xFFFF
  epoch0 : Nat := 0
  epoch1 : Nat := 0
  slot0 : Nat := 0
  slot1 : Nat := 0
  portA : Nat := 0
  portB : Nat := 0
  switches : Nat := 0
  chg : Nat := 0
  pcrcDrop : Bool := false
  dual : Bool := false
  altValid : Bool := false
  mateGroup : Nat := 0
  peerA : Nat := 0
  peerB : Nat := 0
  playout : Nat := 0
  ddMax : Nat := 0
  req : Option SelReq := none
  held : Bool := false
  changed : Bool := false
  /-- the output route in force at the output: zero none, else PORT_A + 1 -/
  out : Nat := 0
  /-- the second destination in force there: zero none, else PORT_B + 1 -/
  outB : Nat := 0
  /-- while a change waits: the copies of a send flow still in force (group, peer, flow ID), and whether they are dual-plane -/
  outCopies : List (Nat × Nat × Nat) := []
  outDual : Bool := false
  deriving DecidableEq, Repr

/-- One record of a CONN_BATCH (17 Table HST-8). -/
structure ConnRec where
  op : Nat
  tx : Bool
  inst : Nat
  bridge : Bool := false
  fastEn : Bool := false
  pcrcDrop : Bool := false
  dual : Bool := false
  altValid : Bool := false
  working : Bool := false
  mateGroup : Nat := 0
  partner : Nat := 0xFFFF
  portA : Nat := 0
  portB : Nat := 0
  peerA : Nat := 0
  peerB : Nat := 0
  playout : Nat := 0
  ddMax : Nat := 0
  deriving DecidableEq, Repr

/-- What a record of a checkpoint epoch holds (R492): the committed state of a context, a quarter of a trail table entry, a
connection map entry, the end of an APS timer, the current PM bins of an entry, or the latest transmit frame of a slice. -/
inductive LineData
  | ctx (g : List DWord) (p : BitVec 8) (st : List DWord) (scr : List Host.Cell) (ins : List (Nat × Byte))
  | trail (bytes : Nat)
  | conn (c : ConnH)
  | aps (end_ : Nat)
  | pm (b15 b24 : BinRec)
  | tx (dts mfas : Nat)
  deriving DecidableEq, Repr

/-- An epoch on the Mate Link (Table RED-9): a record without data clears its line. -/
structure EpochMsg where
  num : Nat
  base : Nat
  cut : Nat
  continued : Bool
  sweep : Bool
  sweepPos : Nat
  recs : List (Nat × Option LineData)
  deriving DecidableEq, Repr

end Sys2Proof.Machine

/-! ### The commands -/

namespace Sys2Proof
open Sys2Proof.Machine

/-- The commands: one constructor per row of spec/opcode_table.json. `t` is the DTS of the step, `d` the descriptor of an HCP command,
`a` a host access. -/
inductive Instr
  /-- REGISTER_WRITE (R4) -/
  | registerWrite (t : Nat) (a : Access) (v : Nat)
  /-- STATUS_WRITE (R608) -/
  | statusWrite (t : Nat) (a : Access) (v : Nat)
  /-- RC_FIELD_READ (R4) -/
  | rcFieldRead (t : Nat) (a : Access)
  /-- COUNTER_LOWER_WORD_READ (R6) -/
  | counterLowerWordRead (t : Nat) (a : Access)
  /-- BAR2_READ (R505) -/
  | bar2Read (t : Nat) (a : Access)
  /-- EDGE_FIFO_WRITE (R58) -/
  | edgeFifoWrite (t port : Nat) (k : Token)
  /-- EDGE_FIFO_READ (R58) -/
  | edgeFifoRead (t port key : Nat)
  /-- TOKEN_TRANSFER (R46) -/
  | tokenTransfer (t : Nat) (x : Hop)
  /-- PACE_GATE_END (R50) -/
  | paceGateEnd (t a r0 x0 r1 x1 : Nat)
  /-- SHED_RESTORE (R70) -/
  | shedRestore (t a d : Nat)
  /-- CALIBRATION (R52) -/
  | calibration (t a h : Nat) (codes : List DelayCode) (margin : Nat)
  /-- DELAY_CODE_APPLY (R53) -/
  | delayCodeApply (t a h d k : Nat)
  /-- CAL_STALE (R54) -/
  | calStale (t a h : Nat)
  /-- CAL_ABSENT (R54) -/
  | calAbsent (t a h : Nat)
  /-- MEDIAN_COMPARE (R461) -/
  | medianCompare (t : Nat) (x : MedWhat)
  /-- STALL_TIMEOUT (R462) -/
  | stallTimeout (t a d : Nat)
  /-- SELF_ERROR (R462) -/
  | selfError (t a h : Nat)
  /-- SPARE_RELEASE (R466) -/
  | spareRelease (t sl : Nat) (ok0 ok1 : Bool)
  /-- FENCE_FILL_END (R228) -/
  | fenceFillEnd (t d i : Nat)
  /-- AVENUE_REPAIR_COMPLETE (R468) -/
  | avenueRepairComplete (t a : Nat) (ok0 ok1 : Bool)
  /-- CHECKPOINT_SEAL (R464) -/
  | checkpointSeal (t : Nat)
  /-- ENGINE_DISPATCH (R75) -/
  | engineDispatch (t e : Nat)
  /-- CONTEXT_RELEASE (R62) -/
  | contextRelease (t c per next : Nat)
  /-- STALL_RESUME (R82) -/
  | stallResume (t c : Nat)
  /-- ADD (R565) -/
  | add (t c : Nat) (w : JWord)
  /-- SUB (R565) -/
  | sub (t c : Nat) (w : JWord)
  /-- AND (R565) -/
  | and (t c : Nat) (w : JWord)
  /-- OR (R565) -/
  | or (t c : Nat) (w : JWord)
  /-- XOR (R565) -/
  | xor (t c : Nat) (w : JWord)
  /-- SHL (R565) -/
  | shl (t c : Nat) (w : JWord)
  /-- SHR (R565) -/
  | shr (t c : Nat) (w : JWord)
  /-- SAR (R565) -/
  | sar (t c : Nat) (w : JWord)
  /-- MUL (R565) -/
  | mul (t c : Nat) (w : JWord)
  /-- MINU (R565) -/
  | minu (t c : Nat) (w : JWord)
  /-- MAXU (R565) -/
  | maxu (t c : Nat) (w : JWord)
  /-- ADDSU (R565) -/
  | addsu (t c : Nat) (w : JWord)
  /-- SUBSU (R565) -/
  | subsu (t c : Nat) (w : JWord)
  /-- MOV (R565) -/
  | mov (t c : Nat) (w : JWord)
  /-- NOT (R565) -/
  | not (t c : Nat) (w : JWord)
  /-- POPC (R565) -/
  | popc (t c : Nat) (w : JWord)
  /-- CLZ (R565) -/
  | clz (t c : Nat) (w : JWord)
  /-- BSWAP (R565) -/
  | bswap (t c : Nat) (w : JWord)
  /-- LDIH (R565) -/
  | ldih (t c : Nat) (w : JWord)
  /-- BEXT (R565) -/
  | bext (t c : Nat) (w : JWord)
  /-- BINS (R565) -/
  | bins (t c : Nat) (w : JWord)
  /-- CMP (R566) -/
  | cmp (t c : Nat) (w : JWord)
  /-- PAND (R567) -/
  | pand (t c : Nat) (w : JWord)
  /-- POR (R567) -/
  | por (t c : Nat) (w : JWord)
  /-- PXOR (R567) -/
  | pxor (t c : Nat) (w : JWord)
  /-- PANDN (R567) -/
  | pandn (t c : Nat) (w : JWord)
  /-- PSET (R567) -/
  | pset (t c : Nat) (w : JWord)
  /-- PRDV (R567) -/
  | prdv (t c : Nat) (w : JWord)
  /-- PWRV (R567) -/
  | pwrv (t c : Nat) (w : JWord)
  /-- BR (R568) -/
  | br (t c : Nat) (w : JWord)
  /-- CALL (R569) -/
  | call (t c : Nat) (w : JWord)
  /-- RET (R569) -/
  | ret (t c : Nat) (w : JWord)
  /-- LSET (R570) -/
  | lset (t c : Nat) (w : JWord)
  /-- LOOP (R570) -/
  | loop (t c : Nat) (w : JWord)
  /-- LD (R571) -/
  | ld (t c : Nat) (w : JWord)
  /-- ST (R571) -/
  | st (t c : Nat) (w : JWord)
  /-- PRM (R572) -/
  | prm (t c : Nat) (w : JWord)
  /-- TLD (R571) -/
  | tld (t c : Nat) (w : JWord)
  /-- TST (R571) -/
  | tst (t c : Nat) (w : JWord)
  /-- OHR (R571) -/
  | ohr (t c : Nat) (w : JWord)
  /-- OHW (R571) -/
  | ohw (t c : Nat) (w : JWord)
  /-- INTG_STEP (R575) -/
  | intgStep (t c : Nat) (w : JWord)
  /-- INTG_SEED (R576) -/
  | intgSeed (t c : Nat) (w : JWord)
  /-- PMADD (R579) -/
  | pmadd (t c : Nat) (w : JWord)
  /-- PUSH (R580) -/
  | push (t c : Nat) (w : JWord)
  /-- POP (R582) -/
  | pop (t c : Nat) (w : JWord)
  /-- PKTB (R581) -/
  | pktb (t c : Nat) (w : JWord)
  /-- PKTC (R581) -/
  | pktc (t c : Nat) (w : JWord)
  /-- PKTA (R84) -/
  | pkta (t c : Nat) (w : JWord)
  /-- QLEN (R580) -/
  | qlen (t c : Nat) (w : JWord)
  /-- EVT (R583) -/
  | evt (t c : Nat) (w : JWord)
  /-- TSET (R585) -/
  | tset (t c : Nat) (w : JWord)
  /-- TTST (R585) -/
  | ttst (t c : Nat) (w : JWord)
  /-- TCLR (R585) -/
  | tclr (t c : Nat) (w : JWord)
  /-- TRD (R586) -/
  | trd (t c : Nat) (w : JWord)
  /-- SRD (R586) -/
  | srd (t c : Nat) (w : JWord)
  /-- COMMIT (R79) -/
  | commit (t c : Nat) (w : JWord) (t1 : Nat)
  /-- WAIT_ITEM (R587) -/
  | waitItem (t c : Nat) (w : JWord)
  /-- WAIT_ROOM (R587) -/
  | waitRoom (t c : Nat) (w : JWord)
  /-- NOP (R561) -/
  | nop (t c : Nat) (w : JWord)
  /-- ILLEGAL_INSTRUCTION (R558) -/
  | illegalInstruction (t c : Nat)
  /-- SIGNAL_DETECT_CHANGE (R126) -/
  | signalDetectChange (t l : Nat) (on : Bool)
  /-- CDR_LOCK_CHANGE (R127) -/
  | cdrLockChange (t l : Nat) (on : Bool)
  /-- LOS_DECLARE (R126) -/
  | losDeclare (t i : Nat)
  /-- LOS_CLEAR (R126) -/
  | losClear (t i : Nat)
  /-- ALIGNMENT_MARKER (R109) -/
  | alignmentMarker (t i lane num errs : Nat) (spaced : Bool) (mfas : Nat)
  /-- FEC_CODEWORD (R112) -/
  | fecCodeword (t i syms nbits : Nat) (uncorr : Bool)
  /-- FEC_DEG_WINDOW (R115) -/
  | fecDegWindow (t i : Nat)
  /-- GROUP_FORMATION (R119) -/
  | groupFormation (t g : Nat)
  /-- GROUP_FAIL_CLEAR (R123) -/
  | groupFailClear (t g : Nat)
  /-- GROUP_REFORM (R124) -/
  | groupReform (t g : Nat)
  /-- PRBS_LOCK (R134) -/
  | prbsLock (t l : Nat)
  /-- PRBS_LOSS_OF_LOCK (R134) -/
  | prbsLossOfLock (t l errs : Nat)
  /-- LIN_LANE_PRBS_CFG_WRITE (R135) -/
  | linLanePrbsCfgWrite (t : Nat) (a : Access) (v : Nat)
  /-- CANDIDATE_SIGHTING (R143) -/
  | candidateSighting (t k b : Nat) (pat : BitVec 48) (mfas : Nat)
  /-- FRAME_CHECK (R145) -/
  | frameCheck (t k : Nat) (fas : Word) (mfas omfi : Nat)
  /-- DLOF_DECLARE (R147) -/
  | dlofDeclare (t k : Nat)
  /-- DLOF_CLEAR (R147) -/
  | dlofClear (t k : Nat)
  /-- DLOM_DECLARE (R148) -/
  | dlomDeclare (t k : Nat)
  /-- DLOM_CLEAR (R148) -/
  | dlomClear (t k : Nat)
  /-- DLOOMFI_DECLARE (R149) -/
  | dloomfiDeclare (t k : Nat)
  /-- DLOOMFI_CLEAR (R149) -/
  | dloomfiClear (t k : Nat)
  /-- FRAME_RECEIVED (R150) -/
  | frameReceived (t : Nat) (f : FrameRx)
  /-- INSERTION_POINT (R64) -/
  | insertionPoint (t k : Nat) (src : List Byte) (bip : Byte)
  /-- FAST_PATH_AIS_END (R164) -/
  | fastPathAisEnd (t i : Nat)
  /-- GMP_PERIOD_RX (R185) -/
  | gmpPeriodRx (t i jc12 jc45 : Nat) (jc3 jc6 : Byte) (slip : Bool)
  /-- GMP_UNLOCK_DECLARE (R186) -/
  | gmpUnlockDeclare (t i : Nat)
  /-- GMP_UNLOCK_CLEAR (R186) -/
  | gmpUnlockClear (t i : Nat)
  /-- GMP_PERIOD_TX (R188) -/
  | gmpPeriodTx (t i : Nat) (src : TxSource)
  /-- MSI_CHANGE (R179) -/
  | msiChange (t i : Nat)
  /-- CLIENT_SIGNAL_FAIL (R193) -/
  | clientSignalFail (t i : Nat)
  /-- CSF_CLEAR (R193) -/
  | csfClear (t i : Nat)
  /-- RATE_WINDOW (R194) -/
  | rateWindow (t i : Nat) (ppb : Int)
  /-- CN_CLAMP_RATE_OOR (R199) -/
  | cnClampRateOor (t i : Nat)
  /-- FLOW_STARVED (R198) -/
  | flowStarved (t i : Nat)
  /-- EPOCH_INSTANT (R215) -/
  | epochInstant (t : Nat)
  /-- CONNECTION_CHANGE_APPLY (R216) -/
  | connectionChangeApply (t d i : Nat)
  /-- MOVE_INSTALL (R218) -/
  | moveInstall (t m : Nat)
  /-- MOVE_CUTOVER (R218) -/
  | moveCutover (t m : Nat)
  /-- MOVE_RETIRE (R218) -/
  | moveRetire (t m : Nat)
  /-- MOVE_ABORT (R219) -/
  | moveAbort (t m : Nat)
  /-- SELECTION_CHANGE (R227) -/
  | selectionChange (t i : Nat)
  /-- MAP_SCRUB (R229) -/
  | mapScrub (t corr : Nat) (uncorr : Bool)
  /-- AON_FAULT (R491) -/
  | aonFault (t : Nat)
  /-- LINK_FEC_LOCK (R231) -/
  | linkFecLock (t l corr : Nat)
  /-- LINK_FEC_LOCK_LOSS (R231) -/
  | linkFecLockLoss (t l n : Nat)
  /-- LINK_DELINEATED (R239) -/
  | linkDelineated (t l : Nat)
  /-- DELINEATION_LOSS (R239) -/
  | delineationLoss (t l : Nat)
  /-- CELL_TIMEOUT (R239) -/
  | cellTimeout (t l : Nat)
  /-- PEER_RX_DOWN (R239) -/
  | peerRxDown (t l : Nat)
  /-- NEG_TIMEOUT (R239) -/
  | negTimeout (t l : Nat)
  /-- HOLDDOWN_END (R239) -/
  | holddownEnd (t l : Nat)
  /-- CELL_RECEIVED (R234) -/
  | cellReceived (t l corr uncorr : Nat) (c : List Byte)
  /-- OFFSET_ESTIMATE (R267) -/
  | offsetEstimate (t l p : Nat)
  /-- TIME_CELL_STALE (R269) -/
  | timeCellStale (t l p : Nat)
  /-- CELL_SEND (R252) -/
  | cellSend (t l : Nat) (x : CellSrc)
  /-- TIME_CELL_SEND (R264) -/
  | timeCellSend (t l p : Nat)
  /-- LINK_STATE_SEND (R244) -/
  | linkStateSend (t l : Nat)
  /-- NEGOTIATION_CELL_SEND (R240) -/
  | negotiationCellSend (t l : Nat)
  /-- DRAIN_END (R246) -/
  | drainEnd (t l : Nat)
  /-- CELL_PLAYOUT (R259) -/
  | cellPlayout (t i : Nat)
  /-- UNDERPASS_READ (R276) -/
  | underpassRead (t page unit burst : Nat) (res : UndRes) (onDie : Nat) (u : UndUse)
  /-- UNDERPASS_WRITE (R277) -/
  | underpassWrite (t page unit burst : Nat) (b : List Byte)
  /-- PAGE_RETIRE (R278) -/
  | pageRetire (t page : Nat) (bad : List Nat)
  /-- PC_FAIL (R281) -/
  | pcFail (t k cause : Nat)
  /-- SERVICE_WINDOW (R286) -/
  | serviceWindow (t pc : Nat) (demand : List (Nat × Nat))
  /-- HOLDOFF_EXPIRY (R314) -/
  | holdoffExpiry (t c : Nat)
  /-- WTR_EXPIRY (R315) -/
  | wtrExpiry (t c : Nat)
  /-- FOP_NR_DECLARE (R305) -/
  | fopNrDeclare (t c since : Nat)
  /-- SELECTOR_FRAME_ARRIVAL (R318) -/
  | selectorFrameArrival (t d x : Nat) (p : Bool) (f : PairFrame)
  /-- DESCRIPTOR_COMPLETE (R318) -/
  | descriptorComplete (t d x : Nat) (p : Bool)
  /-- PAIR_LOCK (R323) -/
  | pairLock (t d x : Nat)
  /-- PAIR_LOSE_ALIGNMENT (R325) -/
  | pairLoseAlignment (t d x : Nat)
  /-- PAIR_BEYOND (R328) -/
  | pairBeyond (t d x : Nat) (p : Bool)
  /-- PAIR_RETURN_LOCKED (R328) -/
  | pairReturnLocked (t d x : Nat)
  /-- PAIR_IDLE (R321) -/
  | pairIdle (t d x : Nat)
  /-- SELECTOR_OUTPUT (R327) -/
  | selectorOutput (t d x : Nat)
  /-- ACTIVITY_WINDOW (R338) -/
  | activityWindow (t r edges : Nat)
  /-- FREQUENCY_GATE (R339) -/
  | frequencyGate (t r : Nat) (ofs : Int)
  /-- REFERENCE_DISQUALIFY (R338) -/
  | referenceDisqualify (t r : Nat)
  /-- REFERENCE_QUALIFYING (R340) -/
  | referenceQualifying (t r : Nat)
  /-- REFERENCE_QUALIFIED (R340) -/
  | referenceQualified (t r : Nat)
  /-- DRIFT_EVALUATION (R348) -/
  | driftEvaluation (t : Nat)
  /-- DPLL_NARROW (R352) -/
  | dpllNarrow (t d : Nat) (ph : Int)
  /-- DPLL_LOCK (R352) -/
  | dpllLock (t d : Nat) (ph : Int)
  /-- DPLL_PHASE_LOST (R353) -/
  | dpllPhaseLost (t d : Nat) (ph : Int)
  /-- OCXO_LOST (R337) -/
  | ocxoLost (t : Nat)
  /-- PPS_EDGE (R368) -/
  | ppsEdge (t : Nat)
  /-- TOD_MESSAGE (R365) -/
  | todMessage (t : Nat) (b : List Byte) (edge : Nat)
  /-- DP1_HOST_HOLDOVER (R363) -/
  | dp1HostHoldover (t : Nat)
  /-- TIM_DP1_ADJ_FREQ_WRITE (R363) -/
  | timDp1AdjFreqWrite (t : Nat) (w : HostStore)
  /-- TIM_DP1_ADJ_PHASE_WRITE (R368) -/
  | timDp1AdjPhaseWrite (t : Nat) (w : HostStore)
  /-- TIM_DTS_SNAP_WRITE (R371) -/
  | timDtsSnapWrite (t : Nat) (w : HostStore)
  /-- TIM_LREF_MAP_WRITE (R334) -/
  | timLrefMapWrite (t : Nat) (a : Access) (v : Nat)
  /-- HARDWARE_PUSH (R374) -/
  | hardwarePush (t q : Nat) (p : HwPush)
  /-- XOFF_MIN_HOLD_END (R388) -/
  | xoffMinHoldEnd (t pin : Nat)
  /-- POP_SLOT_READ (R383) -/
  | popSlotRead (t : Nat) (a : Access) (coin : Option Item256)
  /-- HOST_STALL_END (R384) -/
  | hostStallEnd (t slot : Nat)
  /-- PUSH_SLOT_WRITE (R386) -/
  | pushSlotWrite (t : Nat) (a : Access) (d : Item256)
  /-- SS_FRAME_RECEIVED (R396) -/
  | ssFrameReceived (t p : Nat) (f : SsFrame)
  /-- SS_FRAME_SEND (R393) -/
  | ssFrameSend (t p : Nat)
  /-- SS_BATCH_TIMEOUT (R393) -/
  | ssBatchTimeout (t p q : Nat)
  /-- SS_BLOCK_LOCK_CHANGE (R395) -/
  | ssBlockLockChange (t p : Nat) (lock : Bool)
  /-- PORT_FRAME_START (R405) -/
  | portFrameStart (t n : Nat) (early : Bool)
  /-- PORT_FRAME_COMPLETE (R408) -/
  | portFrameComplete (t n occ : Nat) (recs : List InsRec)
  /-- FS_MISSING (R401) -/
  | fsMissing (t n : Nat)
  /-- DROP_RECORD_AVAILABLE (R402) -/
  | dropRecordAvailable (t n mfas arr : Nat) (oh : List Byte)
  /-- RATIO_OOR_CLEAR (R406) -/
  | ratioOorClear (t n : Nat)
  /-- RATIO_WINDOW (R407) -/
  | ratioWindow (t n : Nat)
  /-- GO (R414) -/
  | go (t : Nat)
  /-- START_INSTANT (R414) -/
  | startInstant (t n : Nat)
  /-- CLK_LOST (R417) -/
  | clkLost (t n : Nat)
  /-- REALIGN (R419) -/
  | realign (t n : Nat)
  /-- OAP_CFG_WRITE (R420) -/
  | oapCfgWrite (t : Nat) (a : Access) (v : Nat)
  /-- OAP_MASK_WRITE (R403) -/
  | oapMaskWrite (t : Nat) (a : Access) (v : Nat)
  /-- OAP_SRC_WRITE (R420) -/
  | oapSrcWrite (t : Nat) (a : Access) (v : Nat)
  /-- PM_SECOND_END (R424) -/
  | pmSecondEnd (t : Nat)
  /-- EVENT_LOG (R442) -/
  | eventLog (t : Nat)
  /-- LOGBOOK_MIRROR_WRITE (R443) -/
  | logbookMirrorWrite (t : Nat)
  /-- MIRROR_BUCKET_REFILL (R444) -/
  | mirrorBucketRefill (t : Nat)
  /-- CHECK_UNIT_END (R456) -/
  | checkUnitEnd (t n : Nat) (l : List Byte)
  /-- CVU_EXP_GUARD_WRITE (R457) -/
  | cvuExpGuardWrite (t : Nat) (a : Access) (v : Nat)
  /-- CVU_FIFO_GUARD_WRITE (R457) -/
  | cvuFifoGuardWrite (t : Nat) (a : Access) (v : Nat)
  /-- TEST_GO (R459) -/
  | testGo (t n : Nat)
  /-- CVU_FIFO_EMPTY_CMD (R457) -/
  | cvuFifoEmptyCmd (t n : Nat)
  /-- CVU_CFG_WRITE (R460) -/
  | cvuCfgWrite (t : Nat) (a : Access) (v : Nat)
  /-- CVU_TAP_WRITE (R453) -/
  | cvuTapWrite (t : Nat) (a : Access) (v : Nat)
  /-- LEASE_RENEWAL (R474) -/
  | leaseRenewal (t : Nat)
  /-- LEASE_LAPSE (R476) -/
  | leaseLapse (t : Nat)
  /-- LEASE_GRANT (R476) -/
  | leaseGrant (t : Nat) (r0 r1 : Bool)
  /-- KIOSK_RELOAD_COMPLETE (R476) -/
  | kioskReloadComplete (t : Nat) (ok : Bool)
  /-- FOREIGN_WRITE (R475) -/
  | foreignWrite (t k : Nat)
  /-- HEARTBEAT_SEND (R483) -/
  | heartbeatSend (t : Nat)
  /-- MATE_HEARTBEAT_RECORD (R483) -/
  | mateHeartbeatRecord (t : Nat) (b : List Byte)
  /-- HEARTBEAT_WINDOW (R483) -/
  | heartbeatWindow (t : Nat)
  /-- MLP_NEGOTIATION (R17) -/
  | mlpNegotiation (t : Nat) (recs : List Nat) (theirs : Option Nat)
  /-- RENEW (R497) -/
  | renew (t inst : Nat)
  /-- RELEASE (R488) -/
  | release (t inst : Nat)
  /-- PRESENT (R484) -/
  | present (t inst : Nat)
  /-- REF_BAD (R484) -/
  | refBad (t k : Nat)
  /-- ACTIVE_LEASE_LAPSE (R489) -/
  | activeLeaseLapse (t : Nat)
  /-- STANDBY_STALE (R490) -/
  | standbyStale (t : Nat)
  /-- EPOCH_CUT (R492) -/
  | epochCut (t : Nat)
  /-- EPOCH_RECEIVED (R493) -/
  | epochReceived (t : Nat) (m : EpochMsg) (crcOk complete : Bool)
  /-- CMD_PI_WRITE (R508) -/
  | cmdPiWrite (t : Nat) (a : Access) (v : Nat)
  /-- CPL_CI_WRITE (R509) -/
  | cplCiWrite (t : Nat) (a : Access) (v : Nat)
  /-- HCQ_CTL_WRITE (R517) -/
  | hcqCtlWrite (t : Nat) (a : Access) (v : Nat)
  /-- HCQ_BASE_WRITE (R517) -/
  | hcqBaseWrite (t : Nat) (a : Access) (v : Nat)
  /-- SYS_IRQ_ACK_WRITE (R520) -/
  | sysIrqAckWrite (t : Nat) (a : Access) (v : Nat)
  /-- HELLO (R510) -/
  | hello (t : Nat) (d : Desc) (rng : Nat)
  /-- VERSION_RANGE (R25) -/
  | versionRange (t : Nat) (d : Desc) (iface link rng : Nat)
  /-- SET_DEVID (R247) -/
  | setDevid (t : Nat) (d : Desc) (v : Nat)
  /-- SET_TIME (R366) -/
  | setTime (t : Nat) (d : Desc) (secs : Nat) (force : Bool)
  /-- SET_TIME_EFFECT (R364) -/
  | setTimeEffect (t : Nat)
  /-- LINE_IF_CFG (R106) -/
  | lineIfCfg (t : Nat) (d : Desc) (lif ty dpll slice slot : Nat)
  /-- LINE_GRP_CFG (R116) -/
  | lineGrpCfg (t : Nat) (d : Desc) (og base count gid : Nat) (ms : List (Nat × Nat)) (slots : List Nat)
  /-- SYS_PORT_CFG (R515) -/
  | sysPortCfg (t : Nat) (d : Desc) (g mode phy plane dpll : Nat)
  /-- ARC_LINK (R239) -/
  | arcLink (t : Nat) (d : Desc) (l action : Nat)
  /-- ODU_CFG (R171) -/
  | oduCfg (t : Nat) (d : Desc) (p : OduParams)
  /-- ODU_REMOVE (R179) -/
  | oduRemove (t : Nat) (d : Desc) (i : Nat)
  /-- ODU_LCK (R167) -/
  | oduLck (t : Nat) (d : Desc) (i dir on : Nat)
  /-- TRAIL_CFG (R169) -/
  | trailCfg (t : Nat) (d : Desc) (e op : Nat) (b : List Byte)
  /-- PM_CFG (R431) -/
  | pmCfg (t : Nat) (d : Desc) (e : Nat) (en fe : Bool) (prof : Nat)
  /-- CONN_BATCH (R516) -/
  | connBatch (t : Nat) (d : Desc) (count : Nat) (recs : List ConnRec) (resv : Option Nat)
  /-- MOVE (R217) -/
  | move (t : Nat) (d : Desc) (kind dir what new : Nat)
  /-- PROT_CMD (R316) -/
  | protCmd (t : Nat) (d : Desc) (p code : Nat)
  /-- PAIR_RETIME (R331) -/
  | pairRetime (t : Nat) (d : Desc) (dir x anchor : Nat)
  /-- IMAGE_LOAD (R100) -/
  | imageLoad (t : Nat) (d : Desc) (f : ImageFile)
  /-- BIND (R89) -/
  | bind (t : Nat) (d : Desc) (c : Nat) (b : BindBlock)
  /-- UNBIND (R515) -/
  | unbind (t : Nat) (d : Desc) (c : Nat)
  /-- QUEUE_CFG (R372) -/
  | queueCfg (t : Nat) (d : Desc) (q mode group cap prod cons sel : Nat)
  /-- QGROUP_CFG (R286) -/
  | qgroupCfg (t : Nat) (d : Desc) (g cls mb pages : Nat)
  /-- SLOT_CLAIM (R382) -/
  | slotClaim (t : Nat) (d : Desc) (kind slot q on : Nat)
  /-- OAP_START (R414) -/
  | oapStart (t : Nat) (d : Desc)
  /-- PERMIT_TAKE (R530) -/
  | permitTake (t : Nat) (d : Desc) (c x : Nat)
  /-- PERMIT_RELEASE (R533) -/
  | permitRelease (t : Nat) (d : Desc) (c x : Nat)
  /-- TELEMETRY_CFG (R536) -/
  | telemetryCfg (t : Nat) (d : Desc) (set cadence q : Nat)
  /-- PAIR_CFG (R555) -/
  | pairCfg (t : Nat) (d : Desc) (on mate : Nat)
  /-- RESET (R545) -/
  | reset (t : Nat) (d : Desc) (code : Nat)
  /-- UNDEFINED_OPCODE (R515) -/
  | undefinedOpcode (t : Nat) (d : Desc) (op : Nat)
  /-- RESET_BEGIN (R545) -/
  | resetBegin (t : Nat)
  /-- SCRUB_PAGE_READ (R521) -/
  | scrubPageRead (t : Nat) (finds : List ScrubFind)
  /-- SRAM_SCRUB (R522) -/
  | sramScrub (t corr : Nat) (bad : List SramLoc)
  /-- THERMAL_SAMPLE (R525) -/
  | thermalSample (t : Nat) (l : List Int)
  /-- THERMAL_TRIP (R605) -/
  | thermalTrip (t k : Nat)
  /-- SNAPSHOT_WRITE (R527) -/
  | snapshotWrite (t wear : Nat) (ok : Bool)
  /-- LB_CLEAR_COMPLETE (R529) -/
  | lbClearComplete (t : Nat)
  /-- ROTATION_INSTANT (R534) -/
  | rotationInstant (t : Nat)
  /-- ROTATION_RETRY (R535) -/
  | rotationRetry (t : Nat)
  /-- TELEMETRY_PACKET (R536) -/
  | telemetryPacket (t : Nat)
  /-- DOMAIN_FAULT (R540) -/
  | domainFault (t d cause : Nat)
  /-- DOMAIN_RETURN (R540) -/
  | domainReturn (t d : Nat)
  /-- RAIL_UNDERVOLTAGE (R543) -/
  | railUndervoltage (t : Nat)
  /-- POR_RELEASE (R551) -/
  | porRelease (strap : Bool)
  /-- STARTUP_STAGE_COMPLETE (R551) -/
  | startupStageComplete (t k : Nat) (f : StageFind)
  /-- LINK_RESET (R544) -/
  | linkReset (t : Nat)
  /-- STACK_RETRAIN_COMPLETE (R546) -/
  | stackRetrainComplete (t q : Nat)
  /-- CONDITIONED_INPUT_TRANSITION (R592) -/
  | conditionedInputTransition (t i : Nat) (level : Bool)
  /-- STUCK (R593) -/
  | stuck (t i : Nat)
  /-- CHATTER_END (R595) -/
  | chatterEnd (t i : Nat)
  /-- PWR_IN_CFG_WRITE (R597) -/
  | pwrInCfgWrite (t : Nat) (a : Access) (v : Nat)
  /-- POR_N_LOW (R542) -/
  | porNLow (t : Nat)
  /-- LAST_1_MS_EXPIRY (R441) -/
  | last1MsExpiry (t addr b : Nat)
  deriving DecidableEq, Repr

end Sys2Proof
end

