-- ==== Sys2Proof/WellFormed.lean ====
section
/-! DEFINITION. The form of a command: a host access within its address and length fields (17 R503, Table HST-2), a descriptor within
its fields (17 Table HST-6), and data of the length its bearer has. An index out of its range is no matter of form: the command then does
not come about, or is refused as its rule says. -/
namespace Sys2Proof

/-- A string of n bytes. -/
def sized (n : Nat) (l : List Byte) : Bool := decide (l.length = n)
/-- A host access: a 16-bit requester ID, one of two BARs, at least one byte. -/
def Access.wf (a : Access) : Bool := decide (a.req < 65536 ∧ a.bar < 6 ∧ 0 < a.size)
/-- A descriptor: a 32-bit TAG, a 16-bit HCP, a byte of its 64 (17 Table HST-6). -/
def Desc.wf (d : Desc) : Bool := decide (d.tag < 4294967296 ∧ d.hcp < 65536) && d.resv.all fun o => decide (o < 4294967295)
/-- A received frame: the 64 overhead bytes of an OTUC, OTU4 or ODUk frame. -/
def FrameRx.wf : FrameRx → Bool
  | .flexo _ gid pid map => decide (gid < 2 ^ 20 ∧ pid < 256) && map.all fun p => decide (p < 256)
  | .otn _ oh _ _ => sized 64 oh
/-- A Side Street frame: header fields within their widths (12 Table QUE-8). -/
def SsFrame.wf (f : SsFrame) : Bool := decide (f.etype < 65536 ∧ f.devid < 65536 ∧ f.queue < 65536 ∧ f.kind < 256)
/-- A hardware push: a packet fills the words it comes in (12 R376). -/
def HwPush.wf : HwPush → Bool
  | .item _ => true
  | .packet len words => decide (words.length = (len + 31) / 32)
/-- A parameter block: as many timer and queue references as its header counts, at least. -/
def BindBlock.wf (b : BindBlock) : Bool := decide (b.jabi < 65536 ∧ b.length < 65536 ∧ b.routine < 4294967296 ∧ b.ttCount ≤ b.tt.length ∧ b.qCount ≤ b.qs.length)
/-- ODU_CFG's list holds as many slots as TS_COUNT says, at least. -/
def OduParams.wf (p : OduParams) : Bool := decide (p.inst < 65536 ∧ p.rate < 4294967296 ∧ p.tsCount ≤ p.ts.length)

/-- A command of the form its bearer gives it. -/
def Instr.wf (i : Instr) : Bool :=
  match i with
  | .registerWrite _ a _ => a.wf
  | .statusWrite _ a _ => a.wf
  | .rcFieldRead _ a => a.wf
  | .counterLowerWordRead _ a => a.wf
  | .bar2Read _ a => a.wf
  | .edgeFifoWrite _ _ _ => true
  | .edgeFifoRead _ _ _ => true
  | .tokenTransfer _ _ => true
  | .paceGateEnd _ _ _ _ _ _ => true
  | .shedRestore _ _ _ => true
  | .calibration _ _ _ _ _ => true
  | .delayCodeApply _ _ _ _ _ => true
  | .calStale _ _ _ => true
  | .calAbsent _ _ _ => true
  | .medianCompare _ _ => true
  | .stallTimeout _ _ _ => true
  | .selfError _ _ _ => true
  | .spareRelease _ _ _ _ => true
  | .fenceFillEnd _ _ _ => true
  | .avenueRepairComplete _ _ _ _ => true
  | .checkpointSeal _ => true
  | .engineDispatch _ _ => true
  | .contextRelease _ _ _ _ => true
  | .stallResume _ _ => true
  | .add _ _ _ => true
  | .sub _ _ _ => true
  | .and _ _ _ => true
  | .or _ _ _ => true
  | .xor _ _ _ => true
  | .shl _ _ _ => true
  | .shr _ _ _ => true
  | .sar _ _ _ => true
  | .mul _ _ _ => true
  | .minu _ _ _ => true
  | .maxu _ _ _ => true
  | .addsu _ _ _ => true
  | .subsu _ _ _ => true
  | .mov _ _ _ => true
  | .not _ _ _ => true
  | .popc _ _ _ => true
  | .clz _ _ _ => true
  | .bswap _ _ _ => true
  | .ldih _ _ _ => true
  | .bext _ _ _ => true
  | .bins _ _ _ => true
  | .cmp _ _ _ => true
  | .pand _ _ _ => true
  | .por _ _ _ => true
  | .pxor _ _ _ => true
  | .pandn _ _ _ => true
  | .pset _ _ _ => true
  | .prdv _ _ _ => true
  | .pwrv _ _ _ => true
  | .br _ _ _ => true
  | .call _ _ _ => true
  | .ret _ _ _ => true
  | .lset _ _ _ => true
  | .loop _ _ _ => true
  | .ld _ _ _ => true
  | .st _ _ _ => true
  | .prm _ _ _ => true
  | .tld _ _ _ => true
  | .tst _ _ _ => true
  | .ohr _ _ _ => true
  | .ohw _ _ _ => true
  | .intgStep _ _ _ => true
  | .intgSeed _ _ _ => true
  | .pmadd _ _ _ => true
  | .push _ _ _ => true
  | .pop _ _ _ => true
  | .pktb _ _ _ => true
  | .pktc _ _ _ => true
  | .pkta _ _ _ => true
  | .qlen _ _ _ => true
  | .evt _ _ _ => true
  | .tset _ _ _ => true
  | .ttst _ _ _ => true
  | .tclr _ _ _ => true
  | .trd _ _ _ => true
  | .srd _ _ _ => true
  | .commit _ _ _ _ => true
  | .waitItem _ _ _ => true
  | .waitRoom _ _ _ => true
  | .nop _ _ _ => true
  | .illegalInstruction _ _ => true
  | .signalDetectChange _ _ _ => true
  | .cdrLockChange _ _ _ => true
  | .losDeclare _ _ => true
  | .losClear _ _ => true
  | .alignmentMarker _ _ _ _ _ _ _ => true
  | .fecCodeword _ _ _ _ _ => true
  | .fecDegWindow _ _ => true
  | .groupFormation _ _ => true
  | .groupFailClear _ _ => true
  | .groupReform _ _ => true
  | .prbsLock _ _ => true
  | .prbsLossOfLock _ _ _ => true
  | .linLanePrbsCfgWrite _ a _ => a.wf
  | .candidateSighting _ _ _ _ _ => true
  | .frameCheck _ _ _ _ _ => true
  | .dlofDeclare _ _ => true
  | .dlofClear _ _ => true
  | .dlomDeclare _ _ => true
  | .dlomClear _ _ => true
  | .dloomfiDeclare _ _ => true
  | .dloomfiClear _ _ => true
  | .frameReceived _ f => f.wf
  | .insertionPoint _ _ src _ => sized 64 src
  | .fastPathAisEnd _ _ => true
  | .gmpPeriodRx _ _ _ _ _ _ _ => true
  | .gmpUnlockDeclare _ _ => true
  | .gmpUnlockClear _ _ => true
  | .gmpPeriodTx _ _ _ => true
  | .msiChange _ _ => true
  | .clientSignalFail _ _ => true
  | .csfClear _ _ => true
  | .rateWindow _ _ _ => true
  | .cnClampRateOor _ _ => true
  | .flowStarved _ _ => true
  | .epochInstant _ => true
  | .connectionChangeApply _ _ _ => true
  | .moveInstall _ _ => true
  | .moveCutover _ _ => true
  | .moveRetire _ _ => true
  | .moveAbort _ _ => true
  | .selectionChange _ _ => true
  | .mapScrub _ _ _ => true
  | .aonFault _ => true
  | .linkFecLock _ _ _ => true
  | .linkFecLockLoss _ _ _ => true
  | .linkDelineated _ _ => true
  | .delineationLoss _ _ => true
  | .cellTimeout _ _ => true
  | .peerRxDown _ _ => true
  | .negTimeout _ _ => true
  | .holddownEnd _ _ => true
  | .cellReceived _ _ _ _ c => sized 1024 c
  | .offsetEstimate _ _ _ => true
  | .timeCellStale _ _ _ => true
  | .cellSend _ _ _ => true
  | .timeCellSend _ _ _ => true
  | .linkStateSend _ _ => true
  | .negotiationCellSend _ _ => true
  | .drainEnd _ _ => true
  | .cellPlayout _ _ => true
  | .underpassRead _ _ _ _ _ _ _ => true
  | .underpassWrite _ _ _ _ b => sized 64 b
  | .pageRetire _ _ _ => true
  | .pcFail _ _ _ => true
  | .serviceWindow _ _ _ => true
  | .holdoffExpiry _ _ => true
  | .wtrExpiry _ _ => true
  | .fopNrDeclare _ _ _ => true
  | .selectorFrameArrival _ _ _ _ _ => true
  | .descriptorComplete _ _ _ _ => true
  | .pairLock _ _ _ => true
  | .pairLoseAlignment _ _ _ => true
  | .pairBeyond _ _ _ _ => true
  | .pairReturnLocked _ _ _ => true
  | .pairIdle _ _ _ => true
  | .selectorOutput _ _ _ => true
  | .activityWindow _ _ _ => true
  | .frequencyGate _ _ _ => true
  | .referenceDisqualify _ _ => true
  | .referenceQualifying _ _ => true
  | .referenceQualified _ _ => true
  | .driftEvaluation _ => true
  | .dpllNarrow _ _ _ => true
  | .dpllLock _ _ _ => true
  | .dpllPhaseLost _ _ _ => true
  | .ocxoLost _ => true
  | .ppsEdge _ => true
  | .todMessage _ _ _ => true
  | .dp1HostHoldover _ => true
  | .timDp1AdjFreqWrite _ w => w.acc.wf
  | .timDp1AdjPhaseWrite _ w => w.acc.wf
  | .timDtsSnapWrite _ w => w.acc.wf
  | .timLrefMapWrite _ a _ => a.wf
  | .hardwarePush _ _ p => p.wf
  | .xoffMinHoldEnd _ _ => true
  | .popSlotRead _ a _ => a.wf
  | .hostStallEnd _ _ => true
  | .pushSlotWrite _ a _ => a.wf
  | .ssFrameReceived _ _ f => f.wf
  | .ssFrameSend _ _ => true
  | .ssBatchTimeout _ _ _ => true
  | .ssBlockLockChange _ _ _ => true
  | .portFrameStart _ _ _ => true
  | .portFrameComplete _ _ _ _ => true
  | .fsMissing _ _ => true
  | .dropRecordAvailable _ _ _ _ oh => sized 64 oh
  | .ratioOorClear _ _ => true
  | .ratioWindow _ _ => true
  | .go _ => true
  | .startInstant _ _ => true
  | .clkLost _ _ => true
  | .realign _ _ => true
  | .oapCfgWrite _ a _ => a.wf
  | .oapMaskWrite _ a _ => a.wf
  | .oapSrcWrite _ a _ => a.wf
  | .pmSecondEnd _ => true
  | .eventLog _ => true
  | .logbookMirrorWrite _ => true
  | .mirrorBucketRefill _ => true
  | .checkUnitEnd _ _ _ => true
  | .cvuExpGuardWrite _ a _ => a.wf
  | .cvuFifoGuardWrite _ a _ => a.wf
  | .testGo _ _ => true
  | .cvuFifoEmptyCmd _ _ => true
  | .cvuCfgWrite _ a _ => a.wf
  | .cvuTapWrite _ a _ => a.wf
  | .leaseRenewal _ => true
  | .leaseLapse _ => true
  | .leaseGrant _ _ _ => true
  | .kioskReloadComplete _ _ => true
  | .foreignWrite _ _ => true
  | .heartbeatSend _ => true
  | .mateHeartbeatRecord _ b => sized 32 b
  | .heartbeatWindow _ => true
  | .mlpNegotiation _ _ _ => true
  | .renew _ _ => true
  | .release _ _ => true
  | .present _ _ => true
  | .refBad _ _ => true
  | .activeLeaseLapse _ => true
  | .standbyStale _ => true
  | .epochCut _ => true
  | .epochReceived _ _ _ _ => true
  | .cmdPiWrite _ a _ => a.wf
  | .cplCiWrite _ a _ => a.wf
  | .hcqCtlWrite _ a _ => a.wf
  | .hcqBaseWrite _ a _ => a.wf
  | .sysIrqAckWrite _ a _ => a.wf
  | .hello _ d _ => d.wf
  | .versionRange _ d _ _ _ => d.wf
  | .setDevid _ d _ => d.wf
  | .setTime _ d _ _ => d.wf
  | .setTimeEffect _ => true
  | .lineIfCfg _ d _ _ _ _ _ => d.wf
  | .lineGrpCfg _ d _ _ _ _ _ _ => d.wf
  | .sysPortCfg _ d _ _ _ _ _ => d.wf
  | .arcLink _ d _ _ => d.wf
  | .oduCfg _ d p => d.wf && p.wf
  | .oduRemove _ d _ => d.wf
  | .oduLck _ d _ _ _ => d.wf
  | .trailCfg _ d _ _ b => d.wf && sized 64 b
  | .pmCfg _ d _ _ _ _ => d.wf
  | .connBatch _ d _ _ _ => d.wf
  | .move _ d _ _ _ _ => d.wf
  | .protCmd _ d _ _ => d.wf
  | .pairRetime _ d _ _ _ => d.wf
  | .imageLoad _ d _ => d.wf
  | .bind _ d _ b => d.wf && b.wf
  | .unbind _ d _ => d.wf
  | .queueCfg _ d _ _ _ _ _ _ _ => d.wf
  | .qgroupCfg _ d _ _ _ _ => d.wf
  | .slotClaim _ d _ _ _ _ => d.wf
  | .oapStart _ d => d.wf
  | .permitTake _ d _ _ => d.wf
  | .permitRelease _ d _ _ => d.wf
  | .telemetryCfg _ d _ _ _ => d.wf
  | .pairCfg _ d _ _ => d.wf
  | .reset _ d _ => d.wf
  | .undefinedOpcode _ d _ => d.wf
  | .resetBegin _ => true
  | .scrubPageRead _ _ => true
  | .sramScrub _ _ _ => true
  | .thermalSample _ l => decide (l.length = 64)
  | .thermalTrip _ _ => true
  | .snapshotWrite _ _ _ => true
  | .lbClearComplete _ => true
  | .rotationInstant _ => true
  | .rotationRetry _ => true
  | .telemetryPacket _ => true
  | .domainFault _ _ _ => true
  | .domainReturn _ _ => true
  | .railUndervoltage _ => true
  | .porRelease _ => true
  | .startupStageComplete _ _ _ => true
  | .linkReset _ => true
  | .stackRetrainComplete _ _ => true
  | .conditionedInputTransition _ _ _ => true
  | .stuck _ _ => true
  | .chatterEnd _ _ => true
  | .pwrInCfgWrite _ a _ => a.wf
  | .porNLow _ => true
  | .last1MsExpiry _ _ _ => true

end Sys2Proof
end

