-- ==== Sys2Proof/Decode.lean ====
section
/-! DEFINITION. Words that spell commands: the command table gives no row any bits, so there are none. -/
namespace Sys2Proof

/-- The command that a word of nbits spells by the bits of spec/opcode_table.json. No row has bits: a command comes from outside with its
operands, and no word spells one. (DESIGN CHOICE, log entry 7) -/
def decodeTableWord (_nbits _w : Nat) : Option Instr := none

end Sys2Proof
end

