-- ==== Sys2Proof/Machine/JormCode.lean ====
section
/-! DEFINITION. The Jorm instruction word: mnemonics, opcode map, legal fields, step costs (20 R558, Tables JIR-1, JIR-3
to JIR-7), decoder and encoder. -/
namespace Sys2Proof.Machine
open Sys2Proof

/-- The Jorm mnemonics of JABI 1.0; the two minors of INTG and of WAIT stand apart. -/
inductive JOp
  | add | sub | and | or | xor | shl | shr | sar | mul | minu | maxu | addsu | subsu
  | mov | not | popc | clz | bswap | ldih | bext | bins
  | cmp | pand | por | pxor | pandn | pset | prdv | pwrv
  | br | call | ret | lset | loop
  | ld | st | prm | tld | tst | ohr | ohw
  | intgStep | intgSeed | pmadd
  | push | pop | pktb | pktc | pkta | qlen | evt
  | tset | ttst | tclr | trd | srd
  | commit | waitItem | waitRoom | nop
  deriving DecidableEq, Repr

/-- The major opcode of a mnemonic (Table JIR-3). -/
def JOp.major : JOp → BitVec 6
  | .add | .sub | .and | .or | .xor | .shl | .shr | .sar | .mul | .minu | .maxu | .addsu | .subsu
  | .mov | .not | .popc | .clz | .bswap | .ldih | .bext | .bins => 0x01
  | .cmp => 0x04
  | .pand | .por | .pxor | .pandn | .pset | .prdv | .pwrv => 0x05
  | .br => 0x08
  | .call => 0x09
  | .ret => 0x0A
  | .lset => 0x0B
  | .loop => 0x0C
  | .ld => 0x10
  | .st => 0x11
  | .prm => 0x12
  | .tld => 0x14
  | .tst => 0x15
  | .ohr => 0x18
  | .ohw => 0x19
  | .intgStep | .intgSeed => 0x1C
  | .pmadd => 0x1D
  | .push => 0x20
  | .pop => 0x21
  | .pktb => 0x22
  | .pktc => 0x23
  | .pkta => 0x24
  | .qlen => 0x25
  | .evt => 0x28
  | .tset | .ttst | .tclr => 0x2C
  | .trd => 0x2D
  | .srd => 0x2E
  | .commit => 0x30
  | .waitItem | .waitRoom => 0x31
  | .nop => 0x3F

/-- The ALU operation of minor bits [5:0] (Table JIR-4). -/
def aluOp (m : Nat) : Option JOp :=
  match m with
  | 0x00 => some .add | 0x01 => some .sub | 0x02 => some .and | 0x03 => some .or | 0x04 => some .xor
  | 0x05 => some .shl | 0x06 => some .shr | 0x07 => some .sar | 0x08 => some .mul | 0x09 => some .minu
  | 0x0A => some .maxu | 0x0B => some .addsu | 0x0C => some .subsu | 0x10 => some .mov | 0x11 => some .not
  | 0x12 => some .popc | 0x13 => some .clz | 0x14 => some .bswap | 0x19 => some .ldih | 0x1A => some .bext
  | 0x1B => some .bins
  | _ => none

/-- The mnemonic of a major and a minor opcode; none where either is undefined (Table JIR-3, R558, R565 to R587). -/
def JOp.of (maj : BitVec 6) (minor : BitVec 7) : Option JOp :=
  let m := minor.toNat
  match maj.toNat with
  | 0x01 => aluOp (m % 64)
  | 0x04 => if m % 64 ≤ 6 then some .cmp else none
  | 0x05 => match m with
    | 0 => some .pand | 1 => some .por | 2 => some .pxor | 3 => some .pandn | 4 => some .pset | 5 => some .prdv
    | 6 => some .pwrv
    | _ => none
  | 0x08 => if m = 0 then some .br else none
  | 0x09 => if m = 0 then some .call else none
  | 0x0A => if m = 0 then some .ret else none
  | 0x0B => if m = 0 then some .lset else none
  | 0x0C => if m = 0 then some .loop else none
  | 0x10 => if m < 8 then some .ld else none
  | 0x11 => if m < 4 then some .st else none
  | 0x12 => if m < 8 then some .prm else none
  | 0x14 => if m < 8 then some .tld else none
  | 0x15 => if m < 4 then some .tst else none
  | 0x18 => if m < 16 then some .ohr else none
  | 0x19 => if m < 16 ∧ m % 8 < 4 then some .ohw else none
  | 0x1C => if m = 0 then some .intgStep else if m = 1 then some .intgSeed else none
  | 0x1D => if m = 0 then some .pmadd else none
  | 0x20 => if m = 0 then some .push else none
  | 0x21 => if m = 0 then some .pop else none
  | 0x22 => if m = 0 then some .pktb else none
  | 0x23 => if m = 0 then some .pktc else none
  | 0x24 => if m = 0 then some .pkta else none
  | 0x25 => if m = 0 then some .qlen else none
  | 0x28 => if m < 7 then some .evt else none
  | 0x2C => if m = 0 then some .tset else if m = 1 then some .ttst else if m = 2 then some .tclr else none
  | 0x2D => if m < 6 then some .trd else none
  | 0x2E => if m = 0 then some .srd else none
  | 0x30 => if m = 0 then some .commit else none
  | 0x31 => if m = 0 then some .waitItem else if m = 1 then some .waitRoom else none
  | 0x3F => if m = 0 then some .nop else none
  | _ => none

/-- Minor bit [6] of an ALU or CMP word: the immediate form (R565). -/
def jImm (w : JWord) : Bool := w.minor.getLsbD 6

/-- Which of DST, SRC1, SRC2 and IMM an instruction uses. -/
structure JUse where
  d : Bool
  a : Bool
  b : Bool
  i : Bool

/-- The fields a word of each mnemonic uses (R565 to R588). -/
def JOp.use (op : JOp) (imm : Bool) : JUse :=
  match op with
  | .add | .sub | .and | .or | .xor | .shl | .shr | .sar | .mul | .minu | .maxu | .addsu | .subsu | .cmp =>
    ⟨true, true, !imm, imm⟩
  | .mov => ⟨true, !imm, false, imm⟩
  | .not | .popc | .clz | .bswap => ⟨true, true, false, false⟩
  | .ldih => ⟨true, false, false, true⟩
  | .bext | .bins => ⟨true, true, false, true⟩
  | .pand | .por | .pxor | .pandn => ⟨true, true, true, false⟩
  | .pset => ⟨true, false, false, true⟩
  | .prdv => ⟨true, false, false, false⟩
  | .pwrv => ⟨false, true, false, false⟩
  | .br | .call | .pkta | .waitItem | .waitRoom => ⟨false, false, false, true⟩
  | .ret | .commit | .nop => ⟨false, false, false, false⟩
  | .lset | .loop | .intgSeed | .qlen => ⟨true, false, false, true⟩
  | .ld | .prm | .tld | .ohr | .intgStep | .pop | .tset => ⟨true, true, false, true⟩
  | .st | .tst | .ohw | .pktb | .evt => ⟨false, true, true, true⟩
  | .pmadd | .push | .pktc => ⟨false, true, false, true⟩
  | .ttst | .srd => ⟨true, true, false, false⟩
  | .tclr | .trd => ⟨true, false, false, false⟩

/-- The immediate's own zero bits, and the forms and numbers R558 leaves undefined. -/
def JOp.extra (op : JOp) (w : JWord) : Bool :=
  let i := w.imm.toNat
  match op with
  | .not | .popc | .clz | .bswap => !(jImm w)
  | .ldih | .bext | .bins => (jImm w)
  | .cmp => decide (w.dst.toNat < 8)
  | .intgStep | .intgSeed => decide (i < 128)
  | .pmadd => decide (i < 128 ∧ i / 8 % 2 = 0)
  | .push | .pop | .pktb | .pktc | .pkta | .qlen | .waitItem | .waitRoom => decide (i < 4)
  | .evt => decide (i < 2048)
  | .srd => decide (w.s1.toNat < 12 ∧ w.s1.toNat ≠ 3)
  | .commit => decide (w.gp = 0 ∧ w.gs = false)
  | _ => true

/-- A word of a mnemonic that R558 allows: its minor selects the mnemonic and every unused field is zero. -/
def JOp.legal (op : JOp) (w : JWord) : Bool :=
  let u := op.use (jImm w)
  decide (JOp.of op.major w.minor = some op) && (u.d || w.dst == 0) && (u.a || w.s1 == 0) && (u.b || w.s2 == 0)
    && (u.i || w.imm == 0) && op.extra w

/-- The instruction word of a mnemonic and its fields (Table JIR-1). -/
def jenc (op : JOp) (w : JWord) : DWord :=
  op.major ++ (w.dst ++ (w.s1 ++ (w.s2 ++ (w.gp ++ (BitVec.ofBool w.gs ++ (w.minor ++ w.imm))))))

/-- The fields of a word (Table JIR-1). -/
def jfields (d : DWord) : JWord :=
  { dst := d.extractLsb' 53 5, s1 := d.extractLsb' 48 5, s2 := d.extractLsb' 43 5, gp := d.extractLsb' 40 3,
    gs := d.getLsbD 39, minor := d.extractLsb' 32 7, imm := d.extractLsb' 0 32 }

/-- The instruction a word stands for; none where R558 makes it illegal. -/
def jdec (d : DWord) : Option (JOp × JWord) :=
  let w := jfields d
  match JOp.of (d.extractLsb' 58 6) w.minor with
  | some op => if op.legal w then some (op, w) else none
  | none => none

/-- The steps an instruction costs (Table JIR-3). -/
def JOp.cost : JOp → Nat
  | .mul | .br | .loop | .ld | .st | .prm | .ohr | .ohw | .intgSeed | .pmadd | .pkta | .qlen | .waitItem | .waitRoom => 2
  | .call | .ret | .tld | .tst | .push | .pop | .pktb | .pktc => 3
  | .intgStep | .evt => 4
  | .commit => 8
  | _ => 1

end Sys2Proof.Machine
end

