-- ==== Sys2Proof/Config.lean ====
section
/-! DEFINITION. What one part of revision A2 fixes, and the values the spec leaves open. Nothing here has a body: a
statement about one of these holds whatever it is. -/
namespace Sys2Proof.Config

/-- The grade fuse: 0 AMN-2560-N, 1 AMN-2560-E (17 Table HST-4, 18 R525). (DESIGN CHOICE, log entry 12) -/
opaque grade : Bool
/-- The debug lock fuse (17 Table HST-4; 21 R607). -/
opaque debugLock : Bool
/-- Kiosk firmware version of the loaded firmware (17 Table HST-5). -/
opaque fwVer : BitVec 32
/-- Version of the standard routine library (17 Table HST-5). -/
opaque libVer : BitVec 32
/-- The lowest security version the fuses accept (19 R551, PWR_BOOT.SEC_MIN). -/
opaque secMin : BitVec 8
/-- The MSI that ITU-T G.709 lays out for a tributary slot: of the server kind (0 an OPUC, else an ODU type plus one), the slot, and its
tributary (zero: none, else plus one). 06 R181 leaves the layout to G.709. (DESIGN CHOICE, log entry 145) -/
opaque msi : Nat → Nat → Nat → BitVec 16
/-- The settings that SerDes adaptation has given a lane at a DTS: line lanes 0 to 127, then the system lanes (18 R524). (DESIGN CHOICE, log
entry 137) -/
opaque adaptSetting : Nat → Nat → BitVec 256
/-- The number of logical lanes of a FlexO interface of a type code (04 gives none). (DESIGN CHOICE, log entry 12) -/
opaque logicalLanes : Nat → Nat
/-- The items of a queue held on-die, its head and tail, less one (12 gives no number). (DESIGN CHOICE, log entry 12) -/
opaque onDieLess1 : Nat
/-- The handshake stages of an Avenue half's pipeline, less one (02 gives no number). (DESIGN CHOICE, log entry 12) -/
opaque stagesLess1 : Nat
/-- A value the spec leaves open, fresh for every use: the argument is State's count of uses. -/
opaque freeValue : Nat → BitVec 256

end Sys2Proof.Config
end

