-- ==== Sys2Proof/Machine/RegMap.lean ====
section
/-! DEFINITION. The register map of BAR0 (17 Table HST-1 and the address rule of each register chapter): every register word with its fields, their access types (Table SCO-3), reset values and ranges, and one name per field and per counter. -/
namespace Sys2Proof.Machine

/-- The access types of Table SCO-3 (R4). -/
inductive Acc | ro | rw | wo | rws | rw1c | rc
  deriving DecidableEq, Repr

/-- What a write or a read of a register does beside storing (the row of the command table or the rule that says so). -/
inductive Special
  | adjFreq | adjPhase | asym | cmdPi | cplCi | cvuCfg | cvuCmd | cvuExpGuard | cvuFifoGuard | cvuFifoVal | cvuParam | cvuTap | dpCand | dtsSnap | hcqBase | hcqCtl | irqAck | live | lrefMap | msixCtrl | plain | oapCfg | oapGo | oapMask | oapSrc | prbsCfg | pwrInCfg | status | tempCfg
  deriving DecidableEq, Repr

/-- One field of a register: its lowest bit, width, access type, reset value, and the range of R609 where one is stated. -/
structure FieldRow where
  lo : Nat
  w : Nat
  acc : Acc
  reset : Nat
  lim : Option (Nat × Nat)
  deriving DecidableEq, Repr

/-- One register, repeated `n1` times at stride `s1` and within that `n2` times at stride `s2`. -/
structure RegRow where
  name : String
  base : Nat
  n1 : Nat
  s1 : Nat
  n2 : Nat
  s2 : Nat
  special : Special
  rk : Nat
  fields : List FieldRow
  deriving DecidableEq, Repr

/-- A named field: the BAR0 offset of its word, its lowest bit and its width. -/
structure RF where
  addr : Nat
  lo : Nat
  w : Nat
  deriving DecidableEq, Repr

/-- Registers of block SYS, part 1. -/
def rowsSys0 : List RegRow := [
  ⟨"SYS_ID", 0x0, 1, 0x4, 1, 0x4, .plain, 10, [⟨0, 8, .ro, 162, none⟩, ⟨8, 1, .ro, 0, none⟩, ⟨9, 1, .ro, 0, none⟩, ⟨10, 1, .ro, 0, none⟩]⟩,
  ⟨"SYS_IRQ_STATUS", 0x10, 1, 0x4, 1, 0x4, .plain, 0, [⟨0, 32, .ro, 0, none⟩]⟩,
  ⟨"SYS_IRQ_VEC", 0x20, 16, 0x4, 1, 0x4, .plain, 1, [⟨0, 6, .rw, 0, none⟩, ⟨6, 1, .rw, 1, none⟩]⟩,
  ⟨"SYS_IRQ_ACK", 0x60, 1, 0x4, 1, 0x4, .irqAck, 0, [⟨0, 6, .wo, 0, none⟩]⟩,
  ⟨"SYS_APT_BASE", 0x70, 1, 0x4, 1, 0x4, .plain, 0, [⟨0, 9, .rw, 0, none⟩]⟩,
  ⟨"SYS_VIOL_CNT", 0x80, 1, 0x4, 1, 0x4, .plain, 0, [⟨0, 32, .ro, 0, none⟩]⟩,
  ⟨"SYS_LIVE", 0x90, 1, 0x4, 1, 0x4, .live, 0, [⟨0, 1, .ro, 0, none⟩, ⟨1, 1, .ro, 0, none⟩]⟩,
  ⟨"SYS_STATUS", 0x94, 1, 0x4, 1, 0x4, .status, 0, [⟨0, 1, .rws, 0, none⟩, ⟨1, 1, .rws, 0, none⟩]⟩,
  ⟨"SYS_DTS0", 0x98, 1, 0x4, 1, 0x4, .plain, 0, [⟨0, 32, .ro, 0, none⟩]⟩,
  ⟨"SYS_DTS1", 0x9c, 1, 0x4, 1, 0x4, .plain, 0, [⟨0, 32, .ro, 0, none⟩]⟩,
  ⟨"SYS_DTS2", 0xa0, 1, 0x4, 1, 0x4, .plain, 0, [⟨0, 32, .ro, 0, none⟩]⟩,
  ⟨"SYS_ENABLE", 0xa4, 1, 0x4, 1, 0x4, .plain, 0, [⟨0, 1, .rw, 0, none⟩, ⟨1, 1, .rw, 0, none⟩]⟩,
  ⟨"SYS_CDF", 0x1000, 64, 0x4, 1, 0x4, .plain, 9, [⟨0, 32, .ro, 0, none⟩]⟩,
  ⟨"SYS_VIOL_LOG", 0x2000, 64, 0x20, 8, 0x4, .plain, 0, [⟨0, 32, .ro, 0, none⟩]⟩,
  ⟨"MSIX_ADDR_LO", 0x8000, 64, 0x10, 1, 0x4, .plain, 0, [⟨0, 32, .rw, 0, none⟩]⟩,
  ⟨"MSIX_ADDR_HI", 0x8004, 64, 0x10, 1, 0x4, .plain, 0, [⟨0, 32, .rw, 0, none⟩]⟩,
  ⟨"MSIX_DATA", 0x8008, 64, 0x10, 1, 0x4, .plain, 0, [⟨0, 32, .rw, 0, none⟩]⟩,
  ⟨"MSIX_CTRL", 0x800c, 64, 0x10, 1, 0x4, .msixCtrl, 0, [⟨0, 1, .rw, 1, none⟩]⟩,
  ⟨"MSIX_PBA", 0x9000, 2, 0x4, 1, 0x4, .plain, 0, [⟨0, 32, .ro, 0, none⟩]⟩]

/-- Registers of block SYS. -/
def rowsSys : List RegRow := rowsSys0

/-- Registers of block KSK, part 1. -/
def rowsKsk0 : List RegRow := [
  ⟨"KSK_LEASE", 0x10000, 1, 0x4, 1, 0x4, .plain, 0, [⟨0, 1, .ro, 0, none⟩, ⟨1, 1, .ro, 0, none⟩, ⟨2, 1, .ro, 0, none⟩, ⟨3, 1, .ro, 0, none⟩, ⟨4, 16, .ro, 0, none⟩]⟩,
  ⟨"KSK_LEASE_EXP0", 0x10004, 1, 0x4, 1, 0x4, .plain, 0, [⟨0, 32, .ro, 0, none⟩]⟩,
  ⟨"KSK_LEASE_EXP1", 0x10008, 1, 0x4, 1, 0x4, .plain, 0, [⟨0, 32, .ro, 0, none⟩]⟩,
  ⟨"KSK_LEASE_EXP2", 0x1000c, 1, 0x4, 1, 0x4, .plain, 0, [⟨0, 32, .ro, 0, none⟩]⟩,
  ⟨"KSK_PAIR_STAT", 0x10104, 1, 0x4, 1, 0x4, .plain, 0, [⟨0, 3, .ro, 0, none⟩, ⟨3, 1, .ro, 0, none⟩, ⟨4, 1, .ro, 0, none⟩, ⟨5, 1, .ro, 0, none⟩, ⟨6, 1, .ro, 0, none⟩, ⟨7, 1, .ro, 0, none⟩, ⟨8, 1, .ro, 0, none⟩]⟩,
  ⟨"KSK_PAIR_EXP0", 0x10108, 1, 0x4, 1, 0x4, .plain, 0, [⟨0, 32, .ro, 0, none⟩]⟩,
  ⟨"KSK_PAIR_EXP1", 0x1010c, 1, 0x4, 1, 0x4, .plain, 0, [⟨0, 32, .ro, 0, none⟩]⟩,
  ⟨"KSK_PAIR_EXP2", 0x10110, 1, 0x4, 1, 0x4, .plain, 0, [⟨0, 32, .ro, 0, none⟩]⟩,
  ⟨"KSK_PAIR_EPOCH", 0x10114, 1, 0x4, 1, 0x4, .plain, 0, [⟨0, 32, .ro, 0, none⟩]⟩,
  ⟨"KSK_PAIR_LIVE", 0x10120, 1, 0x4, 1, 0x4, .live, 0, [⟨0, 1, .ro, 0, none⟩, ⟨1, 1, .ro, 0, none⟩, ⟨2, 1, .ro, 0, none⟩, ⟨3, 1, .ro, 0, none⟩, ⟨4, 1, .ro, 0, none⟩, ⟨5, 1, .ro, 0, none⟩, ⟨6, 1, .ro, 0, none⟩]⟩,
  ⟨"KSK_PAIR_STATUS", 0x10124, 1, 0x4, 1, 0x4, .status, 0, [⟨0, 1, .rws, 0, none⟩, ⟨1, 1, .rws, 0, none⟩, ⟨2, 1, .rws, 0, none⟩, ⟨3, 1, .rws, 0, none⟩, ⟨4, 1, .rws, 0, none⟩, ⟨5, 1, .rws, 0, none⟩, ⟨6, 1, .rws, 0, none⟩]⟩,
  ⟨"KSK_PAIR_DTS0", 0x10128, 1, 0x4, 1, 0x4, .plain, 0, [⟨0, 32, .ro, 0, none⟩]⟩,
  ⟨"KSK_PAIR_DTS1", 0x1012c, 1, 0x4, 1, 0x4, .plain, 0, [⟨0, 32, .ro, 0, none⟩]⟩,
  ⟨"KSK_PAIR_DTS2", 0x10130, 1, 0x4, 1, 0x4, .plain, 0, [⟨0, 32, .ro, 0, none⟩]⟩,
  ⟨"KSK_PAIR_ENABLE", 0x10134, 1, 0x4, 1, 0x4, .plain, 0, [⟨0, 1, .rw, 0, none⟩, ⟨1, 1, .rw, 0, none⟩, ⟨2, 1, .rw, 0, none⟩, ⟨3, 1, .rw, 0, none⟩, ⟨4, 1, .rw, 0, none⟩, ⟨5, 1, .rw, 0, none⟩, ⟨6, 1, .rw, 0, none⟩]⟩]

/-- Registers of block KSK. -/
def rowsKsk : List RegRow := rowsKsk0

/-- Registers of block HCQ, part 1. -/
def rowsHcq0 : List RegRow := [
  ⟨"HCQ_CTL", 0x20000, 1, 0x4, 1, 0x4, .hcqCtl, 0, [⟨0, 1, .rw, 0, none⟩, ⟨1, 4, .rw, 4, none⟩]⟩,
  ⟨"HCQ_STAT", 0x20004, 1, 0x4, 1, 0x4, .plain, 0, [⟨0, 1, .ro, 0, none⟩, ⟨1, 1, .ro, 0, none⟩, ⟨2, 1, .ro, 0, none⟩, ⟨16, 16, .ro, 0, none⟩]⟩,
  ⟨"CMD_BASE_LO", 0x20010, 1, 0x4, 1, 0x4, .hcqBase, 0, [⟨0, 32, .rw, 0, none⟩]⟩,
  ⟨"CMD_BASE_HI", 0x20014, 1, 0x4, 1, 0x4, .hcqBase, 0, [⟨0, 32, .rw, 0, none⟩]⟩,
  ⟨"CPL_BASE_LO", 0x20018, 1, 0x4, 1, 0x4, .hcqBase, 0, [⟨0, 32, .rw, 0, none⟩]⟩,
  ⟨"CPL_BASE_HI", 0x2001c, 1, 0x4, 1, 0x4, .hcqBase, 0, [⟨0, 32, .rw, 0, none⟩]⟩,
  ⟨"CMD_PI", 0x20020, 1, 0x4, 1, 0x4, .cmdPi, 0, [⟨0, 16, .rw, 0, none⟩]⟩,
  ⟨"CMD_CI", 0x20024, 1, 0x4, 1, 0x4, .plain, 0, [⟨0, 16, .ro, 0, none⟩]⟩,
  ⟨"CPL_PI", 0x20028, 1, 0x4, 1, 0x4, .plain, 0, [⟨0, 16, .ro, 0, none⟩]⟩,
  ⟨"CPL_CI", 0x2002c, 1, 0x4, 1, 0x4, .cplCi, 0, [⟨0, 16, .rw, 0, none⟩]⟩,
  ⟨"HCQ_LIVE", 0x20040, 1, 0x4, 1, 0x4, .live, 0, [⟨0, 1, .ro, 0, none⟩, ⟨1, 1, .ro, 0, none⟩, ⟨2, 1, .ro, 0, none⟩]⟩,
  ⟨"HCQ_STATUS", 0x20044, 1, 0x4, 1, 0x4, .status, 0, [⟨0, 1, .rws, 0, none⟩, ⟨1, 1, .rws, 0, none⟩, ⟨2, 1, .rws, 0, none⟩]⟩,
  ⟨"HCQ_DTS0", 0x20048, 1, 0x4, 1, 0x4, .plain, 0, [⟨0, 32, .ro, 0, none⟩]⟩,
  ⟨"HCQ_DTS1", 0x2004c, 1, 0x4, 1, 0x4, .plain, 0, [⟨0, 32, .ro, 0, none⟩]⟩,
  ⟨"HCQ_DTS2", 0x20050, 1, 0x4, 1, 0x4, .plain, 0, [⟨0, 32, .ro, 0, none⟩]⟩,
  ⟨"HCQ_ENABLE", 0x20054, 1, 0x4, 1, 0x4, .plain, 0, [⟨0, 1, .rw, 0, none⟩, ⟨1, 1, .rw, 0, none⟩, ⟨2, 1, .rw, 0, none⟩]⟩]

/-- Registers of block HCQ. -/
def rowsHcq : List RegRow := rowsHcq0

/-- Registers of block TIM, part 1. -/
def rowsTim0 : List RegRow := [
  ⟨"TIM_MON_CFG", 0x40000, 1, 0x4, 1, 0x4, .plain, 0, [⟨0, 10, .rw, 120, some (10, 1000)⟩, ⟨10, 10, .rw, 90, some (5, 995)⟩, ⟨20, 10, .rw, 10, some (1, 600)⟩]⟩,
  ⟨"TIM_MON_CFG2", 0x40004, 1, 0x4, 1, 0x4, .plain, 0, [⟨0, 7, .rw, 4, some (1, 100)⟩, ⟨7, 8, .rw, 20, some (5, 200)⟩, ⟨15, 7, .rw, 6, some (1, 60)⟩, ⟨22, 5, .rw, 16, some (10, 19)⟩, ⟨27, 1, .rw, 0, none⟩]⟩,
  ⟨"TIM_REF_CFG", 0x41000, 272, 0x10, 1, 0x4, .plain, 0, [⟨0, 1, .rw, 0, none⟩, ⟨1, 4, .rw, 0, some (0, 6)⟩, ⟨5, 1, .rw, 0, none⟩]⟩,
  ⟨"TIM_REF_HZ", 0x41004, 272, 0x10, 1, 0x4, .plain, 0, [⟨0, 30, .rw, 0, some (1000, 750000000)⟩]⟩,
  ⟨"TIM_REF_STAT", 0x41008, 272, 0x10, 1, 0x4, .plain, 0, [⟨0, 2, .ro, 0, none⟩, ⟨2, 1, .ro, 0, none⟩, ⟨3, 1, .ro, 0, none⟩, ⟨4, 1, .ro, 0, none⟩, ⟨5, 2, .ro, 0, none⟩, ⟨16, 1, .rws, 0, none⟩, ⟨17, 1, .rws, 0, none⟩, ⟨18, 1, .rws, 0, none⟩]⟩,
  ⟨"TIM_REF_OFS", 0x4100c, 272, 0x10, 1, 0x4, .plain, 0, [⟨0, 32, .ro, 2147483648, none⟩]⟩,
  ⟨"TIM_LREF_MAP", 0x42400, 128, 0x4, 1, 0x4, .lrefMap, 2, [⟨0, 8, .rw, 0, some (0, 159)⟩]⟩,
  ⟨"TIM_DP_CFG", 0x44000, 8, 0x100, 1, 0x4, .plain, 0, [⟨0, 2, .rw, 0, none⟩, ⟨2, 1, .rw, 1, none⟩, ⟨3, 1, .rw, 0, none⟩, ⟨4, 4, .rw, 0, none⟩, ⟨8, 5, .rw, 6, some (1, 30)⟩, ⟨13, 10, .rw, 100, some (5, 1000)⟩]⟩,
  ⟨"TIM_DP_NARROW", 0x44004, 8, 0x100, 1, 0x4, .plain, 0, [⟨0, 10, .rw, 200, some (10, 1000)⟩, ⟨10, 6, .rw, 5, some (1, 60)⟩]⟩,
  ⟨"TIM_DP_STAT", 0x44008, 8, 0x100, 1, 0x4, .plain, 0, [⟨0, 3, .ro, 0, none⟩, ⟨3, 9, .ro, 511, none⟩, ⟨12, 4, .ro, 0, none⟩, ⟨16, 1, .ro, 0, none⟩, ⟨17, 1, .ro, 0, none⟩, ⟨18, 1, .ro, 0, none⟩]⟩,
  ⟨"TIM_DP_PHASE", 0x4400c, 8, 0x100, 1, 0x4, .plain, 0, [⟨0, 32, .ro, 0, none⟩]⟩,
  ⟨"TIM_DP_FREQ", 0x44010, 8, 0x100, 1, 0x4, .plain, 0, [⟨0, 32, .ro, 0, none⟩]⟩,
  ⟨"TIM_DP_CAND", 0x44040, 8, 0x100, 16, 0x4, .dpCand, 0, [⟨0, 9, .rw, 0, none⟩, ⟨9, 4, .rw, 0, none⟩, ⟨13, 1, .rw, 0, none⟩]⟩,
  ⟨"TIM_TIME_CFG", 0x45000, 1, 0x4, 1, 0x4, .plain, 0, [⟨0, 1, .rw, 0, none⟩, ⟨1, 10, .rw, 1000, some (100, 1000)⟩, ⟨11, 10, .rw, 100, some (1, 1000)⟩, ⟨21, 1, .rw, 1, none⟩]⟩,
  ⟨"TIM_TOD_STAT", 0x45004, 1, 0x4, 1, 0x4, .plain, 0, [⟨0, 1, .ro, 0, none⟩, ⟨1, 1, .ro, 0, none⟩, ⟨2, 1, .ro, 0, none⟩, ⟨3, 1, .ro, 0, none⟩, ⟨4, 2, .ro, 0, none⟩, ⟨6, 1, .ro, 0, none⟩, ⟨16, 16, .ro, 0, none⟩]⟩,
  ⟨"TIM_DTS_SNAP", 0x45010, 1, 0x4, 1, 0x4, .dtsSnap, 0, [⟨0, 1, .wo, 0, none⟩]⟩,
  ⟨"TIM_SNAP0", 0x45014, 1, 0x4, 1, 0x4, .plain, 0, [⟨0, 32, .ro, 0, none⟩]⟩,
  ⟨"TIM_SNAP1", 0x45018, 1, 0x4, 1, 0x4, .plain, 0, [⟨0, 32, .ro, 0, none⟩]⟩,
  ⟨"TIM_SNAP2", 0x4501c, 1, 0x4, 1, 0x4, .plain, 0, [⟨0, 32, .ro, 0, none⟩]⟩,
  ⟨"TIM_DP1_ADJ_FREQ", 0x45020, 1, 0x4, 1, 0x4, .adjFreq, 0, [⟨0, 32, .rw, 0, none⟩]⟩]

/-- Registers of block TIM, part 2. -/
def rowsTim1 : List RegRow := [
  ⟨"TIM_DP1_ADJ_PHASE", 0x45024, 1, 0x4, 1, 0x4, .adjPhase, 0, [⟨0, 32, .wo, 0, none⟩]⟩,
  ⟨"TIM_OUT_CFG", 0x46000, 4, 0x4, 1, 0x4, .plain, 0, [⟨0, 4, .rw, 0, none⟩, ⟨4, 20, .rw, 0, some (1, 750000)⟩, ⟨24, 1, .rw, 1, none⟩, ⟨25, 1, .ro, 0, none⟩]⟩,
  ⟨"TIM_LIVE", 0x47000, 1, 0x4, 1, 0x4, .live, 0, [⟨0, 8, .ro, 255, none⟩, ⟨8, 8, .ro, 0, none⟩, ⟨16, 1, .ro, 0, none⟩, ⟨17, 1, .ro, 0, none⟩, ⟨18, 1, .ro, 0, none⟩, ⟨19, 1, .ro, 0, none⟩, ⟨20, 1, .ro, 0, none⟩, ⟨21, 1, .ro, 0, none⟩, ⟨22, 1, .ro, 0, none⟩, ⟨23, 1, .ro, 0, none⟩]⟩,
  ⟨"TIM_STATUS", 0x47004, 1, 0x4, 1, 0x4, .status, 0, [⟨0, 8, .rws, 0, none⟩, ⟨8, 8, .rws, 0, none⟩, ⟨16, 1, .rws, 0, none⟩, ⟨17, 1, .rws, 0, none⟩, ⟨18, 1, .rws, 0, none⟩, ⟨19, 1, .rws, 0, none⟩, ⟨20, 1, .rws, 0, none⟩, ⟨21, 1, .rws, 0, none⟩, ⟨22, 1, .rws, 0, none⟩, ⟨23, 1, .rws, 0, none⟩]⟩,
  ⟨"TIM_DTS0", 0x47008, 1, 0x4, 1, 0x4, .plain, 0, [⟨0, 32, .ro, 0, none⟩]⟩,
  ⟨"TIM_DTS1", 0x4700c, 1, 0x4, 1, 0x4, .plain, 0, [⟨0, 32, .ro, 0, none⟩]⟩,
  ⟨"TIM_DTS2", 0x47010, 1, 0x4, 1, 0x4, .plain, 0, [⟨0, 32, .ro, 0, none⟩]⟩,
  ⟨"TIM_ENABLE", 0x47014, 1, 0x4, 1, 0x4, .plain, 0, [⟨0, 8, .rw, 0, none⟩, ⟨8, 8, .rw, 0, none⟩, ⟨16, 1, .rw, 0, none⟩, ⟨17, 1, .rw, 0, none⟩, ⟨18, 1, .rw, 0, none⟩, ⟨19, 1, .rw, 0, none⟩, ⟨20, 1, .rw, 0, none⟩, ⟨21, 1, .rw, 0, none⟩, ⟨22, 1, .rw, 0, none⟩, ⟨23, 1, .rw, 0, none⟩]⟩]

/-- Registers of block TIM. -/
def rowsTim : List RegRow := rowsTim0 ++ rowsTim1

/-- Registers of block AVE, part 1. -/
def rowsAve0 : List RegRow := [
  ⟨"AVE_PACE_CFG", 0x80100, 36, 0x1000, 2, 0x800, .plain, 0, [⟨0, 12, .rw, 880, none⟩, ⟨12, 7, .rw, 50, some (10, 90)⟩, ⟨19, 5, .rw, 5, none⟩, ⟨24, 5, .rw, 10, none⟩, ⟨29, 3, .rw, 3, none⟩]⟩,
  ⟨"AVE_PACE", 0x80104, 36, 0x1000, 2, 0x800, .plain, 0, [⟨0, 16, .ro, 0, none⟩, ⟨16, 16, .ro, 0, none⟩]⟩,
  ⟨"AVE_PACE_MIN", 0x80108, 36, 0x1000, 2, 0x800, .plain, 0, [⟨0, 16, .rc, 0, none⟩, ⟨16, 16, .rc, 0, none⟩]⟩,
  ⟨"AVE_PACE_LIVE", 0x80110, 36, 0x1000, 2, 0x800, .live, 0, [⟨0, 1, .ro, 0, none⟩, ⟨1, 1, .ro, 0, none⟩, ⟨2, 1, .ro, 0, none⟩, ⟨3, 1, .ro, 0, none⟩, ⟨4, 1, .ro, 0, none⟩, ⟨5, 1, .ro, 0, none⟩]⟩,
  ⟨"AVE_PACE_STATUS", 0x80114, 36, 0x1000, 2, 0x800, .status, 0, [⟨0, 1, .rws, 0, none⟩, ⟨1, 1, .rws, 0, none⟩, ⟨2, 1, .rws, 0, none⟩, ⟨3, 1, .rws, 0, none⟩, ⟨4, 1, .rws, 0, none⟩, ⟨5, 1, .rws, 0, none⟩]⟩,
  ⟨"AVE_PACE_DTS0", 0x80118, 36, 0x1000, 2, 0x800, .plain, 0, [⟨0, 32, .ro, 0, none⟩]⟩,
  ⟨"AVE_PACE_DTS1", 0x8011c, 36, 0x1000, 2, 0x800, .plain, 0, [⟨0, 32, .ro, 0, none⟩]⟩,
  ⟨"AVE_PACE_DTS2", 0x80120, 36, 0x1000, 2, 0x800, .plain, 0, [⟨0, 32, .ro, 0, none⟩]⟩,
  ⟨"AVE_PACE_ENABLE", 0x80124, 36, 0x1000, 2, 0x800, .plain, 0, [⟨0, 1, .rw, 0, none⟩, ⟨1, 1, .rw, 0, none⟩, ⟨2, 1, .rw, 0, none⟩, ⟨3, 1, .rw, 0, none⟩, ⟨4, 1, .rw, 0, none⟩, ⟨5, 1, .rw, 0, none⟩]⟩,
  ⟨"AVE_CAL", 0x80130, 36, 0x1000, 2, 0x800, .plain, 0, [⟨0, 16, .ro, 0, none⟩, ⟨16, 8, .ro, 0, none⟩, ⟨24, 8, .ro, 0, none⟩]⟩,
  ⟨"AVE_MED_STAT", 0x80000, 36, 0x1000, 1, 0x4, .plain, 0, [⟨0, 3, .ro, 3, none⟩, ⟨3, 5, .ro, 0, none⟩, ⟨8, 4, .ro, 0, none⟩, ⟨12, 1, .ro, 0, none⟩, ⟨13, 1, .ro, 0, none⟩, ⟨14, 7, .rc, 0, none⟩]⟩,
  ⟨"AVE_MED_DTS0", 0x80004, 36, 0x1000, 1, 0x4, .plain, 0, [⟨0, 32, .ro, 0, none⟩]⟩,
  ⟨"AVE_MED_DTS1", 0x80008, 36, 0x1000, 1, 0x4, .plain, 0, [⟨0, 32, .ro, 0, none⟩]⟩,
  ⟨"AVE_MED_DTS2", 0x8000c, 36, 0x1000, 1, 0x4, .plain, 0, [⟨0, 32, .ro, 0, none⟩]⟩,
  ⟨"AVE_POOL", 0xa4000, 1, 0x4, 1, 0x4, .plain, 0, [⟨0, 3, .ro, 0, none⟩, ⟨3, 3, .ro, 0, none⟩, ⟨6, 6, .ro, 0, none⟩, ⟨12, 1, .ro, 0, none⟩]⟩,
  ⟨"AVE_POOL_LIVE", 0xa4010, 1, 0x4, 1, 0x4, .live, 0, [⟨0, 1, .ro, 0, none⟩, ⟨1, 1, .ro, 0, none⟩, ⟨2, 1, .ro, 0, none⟩]⟩,
  ⟨"AVE_POOL_STATUS", 0xa4014, 1, 0x4, 1, 0x4, .status, 0, [⟨0, 1, .rws, 0, none⟩, ⟨1, 1, .rws, 0, none⟩, ⟨2, 1, .rws, 0, none⟩]⟩,
  ⟨"AVE_POOL_DTS0", 0xa4018, 1, 0x4, 1, 0x4, .plain, 0, [⟨0, 32, .ro, 0, none⟩]⟩,
  ⟨"AVE_POOL_DTS1", 0xa401c, 1, 0x4, 1, 0x4, .plain, 0, [⟨0, 32, .ro, 0, none⟩]⟩,
  ⟨"AVE_POOL_DTS2", 0xa4020, 1, 0x4, 1, 0x4, .plain, 0, [⟨0, 32, .ro, 0, none⟩]⟩]

/-- Registers of block AVE, part 2. -/
def rowsAve1 : List RegRow := [
  ⟨"AVE_POOL_ENABLE", 0xa4024, 1, 0x4, 1, 0x4, .plain, 0, [⟨0, 1, .rw, 0, none⟩, ⟨1, 1, .rw, 0, none⟩, ⟨2, 1, .rw, 0, none⟩]⟩]

/-- Registers of block AVE. -/
def rowsAve : List RegRow := rowsAve0 ++ rowsAve1

/-- Registers of block LIN, part 1. -/
def rowsLin0 : List RegRow := [
  ⟨"LIN_LIF_CFG", 0xc0000, 128, 0x200, 1, 0x4, .plain, 0, [⟨0, 4, .ro, 0, none⟩, ⟨4, 1, .ro, 0, none⟩, ⟨5, 1, .ro, 0, none⟩, ⟨6, 6, .ro, 0, none⟩, ⟨12, 8, .ro, 0, none⟩, ⟨20, 8, .ro, 0, none⟩, ⟨28, 1, .ro, 0, none⟩]⟩,
  ⟨"LIN_LIF_LIVE", 0xc0010, 128, 0x200, 1, 0x4, .live, 0, [⟨0, 1, .ro, 0, none⟩, ⟨1, 1, .ro, 0, none⟩, ⟨2, 1, .ro, 0, none⟩, ⟨3, 1, .ro, 0, none⟩, ⟨4, 1, .ro, 0, none⟩, ⟨5, 1, .ro, 0, none⟩, ⟨6, 1, .ro, 0, none⟩, ⟨7, 1, .ro, 0, none⟩, ⟨8, 1, .ro, 0, none⟩, ⟨9, 1, .ro, 0, none⟩, ⟨10, 1, .ro, 0, none⟩]⟩,
  ⟨"LIN_LIF_STATUS", 0xc0014, 128, 0x200, 1, 0x4, .status, 0, [⟨0, 1, .rws, 0, none⟩, ⟨1, 1, .rws, 0, none⟩, ⟨2, 1, .rws, 0, none⟩, ⟨3, 1, .rws, 0, none⟩, ⟨4, 1, .rws, 0, none⟩, ⟨5, 1, .rws, 0, none⟩, ⟨6, 1, .rws, 0, none⟩, ⟨7, 1, .rws, 0, none⟩, ⟨8, 1, .rws, 0, none⟩, ⟨9, 1, .rws, 0, none⟩, ⟨10, 1, .rws, 0, none⟩]⟩,
  ⟨"LIN_LIF_DTS0", 0xc0018, 128, 0x200, 1, 0x4, .plain, 0, [⟨0, 32, .ro, 0, none⟩]⟩,
  ⟨"LIN_LIF_DTS1", 0xc001c, 128, 0x200, 1, 0x4, .plain, 0, [⟨0, 32, .ro, 0, none⟩]⟩,
  ⟨"LIN_LIF_DTS2", 0xc0020, 128, 0x200, 1, 0x4, .plain, 0, [⟨0, 32, .ro, 0, none⟩]⟩,
  ⟨"LIN_LIF_ENABLE", 0xc0024, 128, 0x200, 1, 0x4, .plain, 0, [⟨0, 1, .rw, 0, none⟩, ⟨1, 1, .rw, 0, none⟩, ⟨2, 1, .rw, 0, none⟩, ⟨3, 1, .rw, 0, none⟩, ⟨4, 1, .rw, 0, none⟩, ⟨5, 1, .rw, 0, none⟩, ⟨6, 1, .rw, 0, none⟩, ⟨7, 1, .rw, 0, none⟩, ⟨8, 1, .rw, 0, none⟩, ⟨9, 1, .rw, 0, none⟩, ⟨10, 1, .rw, 0, none⟩]⟩,
  ⟨"LIN_LIF_LOS_CFG", 0xc0030, 128, 0x200, 1, 0x4, .plain, 0, [⟨0, 5, .rw, 0, none⟩, ⟨5, 1, .rw, 0, none⟩, ⟨6, 1, .rw, 0, none⟩, ⟨7, 1, .rw, 1, none⟩, ⟨8, 4, .rw, 5, none⟩, ⟨12, 12, .rw, 100, none⟩]⟩,
  ⟨"LIN_LIF_FEC_CFG", 0xc0034, 128, 0x200, 1, 0x4, .plain, 0, [⟨0, 4, .rw, 1, some (1, 9)⟩, ⟨4, 4, .rw, 4, some (3, 8)⟩, ⟨8, 8, .rw, 100, some (1, 255)⟩, ⟨16, 4, .rw, 1, some (1, 15)⟩, ⟨20, 4, .rw, 3, some (1, 15)⟩]⟩,
  ⟨"LIN_GRP_CFG", 0xd0000, 64, 0x100, 1, 0x4, .plain, 0, [⟨0, 6, .ro, 0, none⟩, ⟨6, 5, .ro, 0, none⟩, ⟨11, 8, .ro, 0, none⟩, ⟨19, 1, .ro, 0, none⟩]⟩,
  ⟨"LIN_GRP_GID", 0xd0004, 64, 0x100, 1, 0x4, .plain, 0, [⟨0, 20, .ro, 0, none⟩]⟩,
  ⟨"LIN_GRP_LIVE", 0xd0010, 64, 0x100, 1, 0x4, .live, 0, [⟨0, 1, .ro, 0, none⟩, ⟨1, 1, .ro, 0, none⟩, ⟨2, 1, .ro, 0, none⟩]⟩,
  ⟨"LIN_GRP_STATUS", 0xd0014, 64, 0x100, 1, 0x4, .status, 0, [⟨0, 1, .rws, 0, none⟩, ⟨1, 1, .rws, 0, none⟩, ⟨2, 1, .rws, 0, none⟩]⟩,
  ⟨"LIN_GRP_DTS0", 0xd0018, 64, 0x100, 1, 0x4, .plain, 0, [⟨0, 32, .ro, 0, none⟩]⟩,
  ⟨"LIN_GRP_DTS1", 0xd001c, 64, 0x100, 1, 0x4, .plain, 0, [⟨0, 32, .ro, 0, none⟩]⟩,
  ⟨"LIN_GRP_DTS2", 0xd0020, 64, 0x100, 1, 0x4, .plain, 0, [⟨0, 32, .ro, 0, none⟩]⟩,
  ⟨"LIN_GRP_ENABLE", 0xd0024, 64, 0x100, 1, 0x4, .plain, 0, [⟨0, 1, .rw, 0, none⟩, ⟨1, 1, .rw, 0, none⟩, ⟨2, 1, .rw, 0, none⟩]⟩,
  ⟨"LIN_GRP_SKEW", 0xd0030, 64, 0x100, 1, 0x4, .plain, 0, [⟨0, 16, .ro, 0, none⟩, ⟨16, 16, .rc, 0, none⟩]⟩,
  ⟨"LIN_GRP_TIMERS", 0xd0034, 64, 0x100, 1, 0x4, .plain, 0, [⟨0, 12, .rw, 3000, some (100, 3000)⟩, ⟨12, 12, .rw, 500, some (0, 3000)⟩, ⟨24, 8, .rw, 100, some (1, 255)⟩]⟩,
  ⟨"LIN_LANE_STAT", 0xd8000, 128, 0x80, 1, 0x4, .plain, 0, [⟨0, 1, .ro, 0, none⟩, ⟨1, 1, .ro, 0, none⟩, ⟨2, 2, .ro, 0, none⟩, ⟨4, 1, .ro, 0, none⟩, ⟨5, 2, .ro, 0, none⟩]⟩]

/-- Registers of block LIN, part 2. -/
def rowsLin1 : List RegRow := [
  ⟨"LIN_LANE_PRBS_CFG", 0xd8010, 128, 0x80, 1, 0x4, .prbsCfg, 0, [⟨0, 4, .rw, 0, none⟩, ⟨4, 1, .rw, 0, none⟩, ⟨5, 1, .rw, 0, none⟩, ⟨6, 1, .rw, 0, none⟩]⟩]

/-- Registers of block LIN. -/
def rowsLin : List RegRow := rowsLin0 ++ rowsLin1

/-- Registers of block SYP, part 1. -/
def rowsSyp0 : List RegRow := [
  ⟨"SYP_AL_CFG", 0x110000, 160, 0x100, 1, 0x4, .asym, 0, [⟨0, 1, .ro, 0, none⟩, ⟨1, 8, .rw, 2, none⟩, ⟨9, 16, .rw, 0, none⟩]⟩,
  ⟨"SYP_AL_STAT", 0x110004, 160, 0x100, 1, 0x4, .plain, 0, [⟨0, 3, .ro, 0, none⟩, ⟨3, 1, .ro, 0, none⟩, ⟨4, 4, .ro, 10, none⟩, ⟨8, 16, .ro, 0, none⟩]⟩,
  ⟨"SYP_AL_PEER", 0x110008, 160, 0x100, 1, 0x4, .plain, 0, [⟨0, 16, .ro, 0, none⟩, ⟨16, 8, .ro, 0, none⟩, ⟨24, 1, .ro, 0, none⟩]⟩,
  ⟨"SYP_AL_ADV", 0x11000c, 160, 0x100, 1, 0x4, .plain, 0, [⟨0, 32, .ro, 16777728, none⟩]⟩,
  ⟨"SYP_AL_LIVE", 0x110010, 160, 0x100, 1, 0x4, .live, 0, [⟨0, 1, .ro, 1, none⟩, ⟨1, 1, .ro, 0, none⟩, ⟨2, 1, .ro, 0, none⟩, ⟨3, 1, .ro, 0, none⟩, ⟨4, 1, .ro, 0, none⟩, ⟨5, 1, .ro, 0, none⟩, ⟨6, 1, .ro, 0, none⟩, ⟨7, 1, .ro, 0, none⟩]⟩,
  ⟨"SYP_AL_STATUS", 0x110014, 160, 0x100, 1, 0x4, .status, 0, [⟨0, 1, .rws, 0, none⟩, ⟨1, 1, .rws, 0, none⟩, ⟨2, 1, .rws, 0, none⟩, ⟨3, 1, .rws, 0, none⟩, ⟨4, 1, .rws, 0, none⟩, ⟨5, 1, .rws, 0, none⟩, ⟨6, 1, .rws, 0, none⟩, ⟨7, 1, .rws, 0, none⟩]⟩,
  ⟨"SYP_AL_DTS0", 0x110018, 160, 0x100, 1, 0x4, .plain, 0, [⟨0, 32, .ro, 0, none⟩]⟩,
  ⟨"SYP_AL_DTS1", 0x11001c, 160, 0x100, 1, 0x4, .plain, 0, [⟨0, 32, .ro, 0, none⟩]⟩,
  ⟨"SYP_AL_DTS2", 0x110020, 160, 0x100, 1, 0x4, .plain, 0, [⟨0, 32, .ro, 0, none⟩]⟩,
  ⟨"SYP_AL_ENABLE", 0x110024, 160, 0x100, 1, 0x4, .plain, 0, [⟨0, 1, .rw, 0, none⟩, ⟨1, 1, .rw, 0, none⟩, ⟨2, 1, .rw, 0, none⟩, ⟨3, 1, .rw, 0, none⟩, ⟨4, 1, .rw, 0, none⟩, ⟨5, 1, .rw, 0, none⟩, ⟨6, 1, .rw, 0, none⟩, ⟨7, 1, .rw, 0, none⟩]⟩,
  ⟨"SYP_AL_TC", 0x110030, 160, 0x100, 1, 0x4, .plain, 0, [⟨0, 16, .rw, 0, none⟩, ⟨16, 1, .ro, 0, none⟩, ⟨17, 4, .rw, 4, some (0, 6)⟩, ⟨21, 6, .rw, 32, some (4, 63)⟩, ⟨27, 5, .rw, 4, some (1, 31)⟩]⟩,
  ⟨"SYP_AL_TC_OFS", 0x110034, 160, 0x100, 1, 0x4, .plain, 0, [⟨0, 32, .ro, 0, none⟩]⟩,
  ⟨"SYP_AL_TC_EPS", 0x110038, 160, 0x100, 1, 0x4, .plain, 0, [⟨0, 32, .ro, 0, none⟩]⟩,
  ⟨"SYP_AL_TC_RTT", 0x11003c, 160, 0x100, 1, 0x4, .plain, 0, [⟨0, 32, .ro, 0, none⟩]⟩,
  ⟨"SYP_ARG_CFG", 0x11c000, 20, 0x40, 1, 0x4, .plain, 0, [⟨0, 1, .ro, 0, none⟩, ⟨1, 1, .ro, 0, none⟩, ⟨2, 11, .ro, 0, none⟩, ⟨13, 8, .ro, 0, none⟩, ⟨21, 1, .ro, 0, none⟩, ⟨22, 1, .ro, 0, none⟩]⟩,
  ⟨"SYP_ARC_ID", 0x11f000, 1, 0x4, 1, 0x4, .plain, 0, [⟨0, 16, .ro, 0, none⟩, ⟨16, 1, .ro, 0, none⟩]⟩]

/-- Registers of block SYP. -/
def rowsSyp : List RegRow := rowsSyp0

/-- Registers of block PLZ, part 1. -/
def rowsPlz0 : List RegRow := [
  ⟨"PLZ_SLOT_MAP", 0x140000, 32, 0x4, 1, 0x4, .plain, 3, [⟨0, 6, .ro, 0, none⟩, ⟨8, 6, .ro, 0, none⟩, ⟨14, 1, .ro, 0, none⟩, ⟨15, 1, .ro, 0, none⟩]⟩,
  ⟨"PLZ_SLICE_SLOT", 0x140080, 64, 0x4, 1, 0x4, .plain, 0, [⟨0, 5, .ro, 0, none⟩, ⟨5, 1, .ro, 0, none⟩, ⟨8, 5, .ro, 0, none⟩, ⟨13, 1, .ro, 0, none⟩, ⟨16, 5, .ro, 0, none⟩, ⟨21, 1, .ro, 0, none⟩, ⟨24, 5, .ro, 0, none⟩, ⟨29, 1, .ro, 0, none⟩]⟩,
  ⟨"PLZ_EPOCH", 0x140180, 1, 0x4, 1, 0x4, .plain, 0, [⟨0, 16, .ro, 0, none⟩, ⟨16, 16, .ro, 0, none⟩]⟩,
  ⟨"PLZ_EPOCH_RX0", 0x140184, 1, 0x4, 1, 0x4, .plain, 0, [⟨0, 32, .ro, 0, none⟩]⟩,
  ⟨"PLZ_EPOCH_RX1", 0x140188, 1, 0x4, 1, 0x4, .plain, 0, [⟨0, 32, .ro, 0, none⟩]⟩,
  ⟨"PLZ_EPOCH_RX2", 0x14018c, 1, 0x4, 1, 0x4, .plain, 0, [⟨0, 32, .ro, 0, none⟩]⟩,
  ⟨"PLZ_EPOCH_TX0", 0x140190, 1, 0x4, 1, 0x4, .plain, 0, [⟨0, 32, .ro, 0, none⟩]⟩,
  ⟨"PLZ_EPOCH_TX1", 0x140194, 1, 0x4, 1, 0x4, .plain, 0, [⟨0, 32, .ro, 0, none⟩]⟩,
  ⟨"PLZ_EPOCH_TX2", 0x140198, 1, 0x4, 1, 0x4, .plain, 0, [⟨0, 32, .ro, 0, none⟩]⟩,
  ⟨"PLZ_MAP_USED", 0x1401a0, 1, 0x4, 1, 0x4, .plain, 0, [⟨0, 15, .ro, 0, none⟩, ⟨16, 15, .ro, 0, none⟩]⟩,
  ⟨"PLZ_LIVE", 0x140200, 1, 0x4, 1, 0x4, .live, 0, [⟨0, 1, .ro, 0, none⟩, ⟨1, 1, .ro, 0, none⟩, ⟨2, 1, .ro, 0, none⟩, ⟨3, 1, .ro, 0, none⟩, ⟨4, 1, .ro, 0, none⟩, ⟨5, 1, .ro, 0, none⟩]⟩,
  ⟨"PLZ_STATUS", 0x140204, 1, 0x4, 1, 0x4, .status, 0, [⟨0, 1, .rws, 0, none⟩, ⟨1, 1, .rws, 0, none⟩, ⟨2, 1, .rws, 0, none⟩, ⟨3, 1, .rws, 0, none⟩, ⟨4, 1, .rws, 0, none⟩, ⟨5, 1, .rws, 0, none⟩]⟩,
  ⟨"PLZ_DTS0", 0x140208, 1, 0x4, 1, 0x4, .plain, 0, [⟨0, 32, .ro, 0, none⟩]⟩,
  ⟨"PLZ_DTS1", 0x14020c, 1, 0x4, 1, 0x4, .plain, 0, [⟨0, 32, .ro, 0, none⟩]⟩,
  ⟨"PLZ_DTS2", 0x140210, 1, 0x4, 1, 0x4, .plain, 0, [⟨0, 32, .ro, 0, none⟩]⟩,
  ⟨"PLZ_ENABLE", 0x140214, 1, 0x4, 1, 0x4, .plain, 0, [⟨0, 1, .rw, 0, none⟩, ⟨1, 1, .rw, 0, none⟩, ⟨2, 1, .rw, 0, none⟩, ⟨3, 1, .rw, 0, none⟩, ⟨4, 1, .rw, 0, none⟩, ⟨5, 1, .rw, 0, none⟩]⟩]

/-- Registers of block PLZ. -/
def rowsPlz : List RegRow := rowsPlz0

/-- Registers of block UND, part 1. -/
def rowsUnd0 : List RegRow := [
  ⟨"UND_CFG", 0x180000, 1, 0x4, 1, 0x4, .plain, 0, [⟨0, 8, .rw, 16, none⟩, ⟨8, 8, .rw, 8, none⟩]⟩,
  ⟨"UND_STACK", 0x180010, 4, 0x4, 1, 0x4, .plain, 0, [⟨0, 1, .ro, 0, none⟩, ⟨1, 1, .ro, 0, none⟩, ⟨2, 1, .ro, 0, none⟩, ⟨3, 8, .ro, 0, none⟩, ⟨11, 6, .ro, 0, none⟩]⟩,
  ⟨"UND_PC_FAIL", 0x180020, 4, 0x4, 1, 0x4, .plain, 0, [⟨0, 32, .ro, 0, none⟩]⟩,
  ⟨"UND_CEIL", 0x180030, 1, 0x4, 1, 0x4, .plain, 0, [⟨0, 16, .ro, 32640, none⟩, ⟨16, 16, .ro, 0, none⟩]⟩,
  ⟨"UND_PAGES", 0x180034, 1, 0x4, 1, 0x4, .plain, 0, [⟨0, 16, .ro, 0, none⟩, ⟨16, 16, .ro, 0, none⟩]⟩,
  ⟨"UND_RSV_BW", 0x180100, 16, 0x8, 1, 0x4, .plain, 0, [⟨0, 16, .ro, 0, none⟩, ⟨16, 2, .ro, 0, none⟩, ⟨18, 1, .ro, 0, none⟩]⟩,
  ⟨"UND_RSV_PG", 0x180104, 16, 0x8, 1, 0x4, .plain, 0, [⟨0, 16, .ro, 0, none⟩]⟩,
  ⟨"UND_LIVE", 0x180200, 1, 0x4, 1, 0x4, .live, 0, [⟨0, 1, .ro, 0, none⟩, ⟨1, 1, .ro, 0, none⟩, ⟨2, 1, .ro, 0, none⟩, ⟨3, 1, .ro, 0, none⟩, ⟨4, 1, .ro, 0, none⟩, ⟨5, 1, .ro, 0, none⟩, ⟨6, 1, .ro, 0, none⟩]⟩,
  ⟨"UND_STATUS", 0x180204, 1, 0x4, 1, 0x4, .status, 0, [⟨0, 1, .rws, 0, none⟩, ⟨1, 1, .rws, 0, none⟩, ⟨2, 1, .rws, 0, none⟩, ⟨3, 1, .rws, 0, none⟩, ⟨4, 1, .rws, 0, none⟩, ⟨5, 1, .rws, 0, none⟩, ⟨6, 1, .rws, 0, none⟩]⟩,
  ⟨"UND_DTS0", 0x180208, 1, 0x4, 1, 0x4, .plain, 0, [⟨0, 32, .ro, 0, none⟩]⟩,
  ⟨"UND_DTS1", 0x18020c, 1, 0x4, 1, 0x4, .plain, 0, [⟨0, 32, .ro, 0, none⟩]⟩,
  ⟨"UND_DTS2", 0x180210, 1, 0x4, 1, 0x4, .plain, 0, [⟨0, 32, .ro, 0, none⟩]⟩,
  ⟨"UND_ENABLE", 0x180214, 1, 0x4, 1, 0x4, .plain, 0, [⟨0, 1, .rw, 0, none⟩, ⟨1, 1, .rw, 0, none⟩, ⟨2, 1, .rw, 0, none⟩, ⟨3, 1, .rw, 0, none⟩, ⟨4, 1, .rw, 0, none⟩, ⟨5, 1, .rw, 0, none⟩, ⟨6, 1, .rw, 0, none⟩]⟩,
  ⟨"UND_UE_ADDR", 0x180400, 1, 0x4, 1, 0x4, .plain, 0, [⟨0, 16, .ro, 0, none⟩, ⟨16, 13, .ro, 0, none⟩]⟩,
  ⟨"UND_UE_USE", 0x180404, 1, 0x4, 1, 0x4, .plain, 0, [⟨0, 4, .ro, 0, none⟩, ⟨4, 1, .ro, 0, none⟩]⟩,
  ⟨"UND_UE_DTS0", 0x180408, 1, 0x4, 1, 0x4, .plain, 0, [⟨0, 32, .ro, 0, none⟩]⟩,
  ⟨"UND_UE_DTS1", 0x18040c, 1, 0x4, 1, 0x4, .plain, 0, [⟨0, 32, .ro, 0, none⟩]⟩,
  ⟨"UND_UE_DTS2", 0x180410, 1, 0x4, 1, 0x4, .plain, 0, [⟨0, 32, .ro, 0, none⟩]⟩]

/-- Registers of block UND. -/
def rowsUnd : List RegRow := rowsUnd0

/-- Registers of block QUE, part 1. -/
def rowsQue0 : List RegRow := [
  ⟨"QUE_CFG", 0x1c0000, 1, 0x4, 1, 0x4, .plain, 0, [⟨0, 6, .rw, 2, none⟩]⟩,
  ⟨"QUE_LIVE", 0x1c0010, 1, 0x4, 1, 0x4, .live, 0, [⟨0, 1, .ro, 0, none⟩, ⟨1, 1, .ro, 1, none⟩, ⟨2, 1, .ro, 1, none⟩, ⟨3, 1, .ro, 0, none⟩, ⟨4, 1, .ro, 0, none⟩]⟩,
  ⟨"QUE_STATUS", 0x1c0014, 1, 0x4, 1, 0x4, .status, 0, [⟨0, 1, .rws, 0, none⟩, ⟨1, 1, .rws, 0, none⟩, ⟨2, 1, .rws, 0, none⟩, ⟨3, 1, .rws, 0, none⟩, ⟨4, 1, .rws, 0, none⟩]⟩,
  ⟨"QUE_DTS0", 0x1c0018, 1, 0x4, 1, 0x4, .plain, 0, [⟨0, 32, .ro, 0, none⟩]⟩,
  ⟨"QUE_DTS1", 0x1c001c, 1, 0x4, 1, 0x4, .plain, 0, [⟨0, 32, .ro, 0, none⟩]⟩,
  ⟨"QUE_DTS2", 0x1c0020, 1, 0x4, 1, 0x4, .plain, 0, [⟨0, 32, .ro, 0, none⟩]⟩,
  ⟨"QUE_ENABLE", 0x1c0024, 1, 0x4, 1, 0x4, .plain, 0, [⟨0, 1, .rw, 0, none⟩, ⟨1, 1, .rw, 0, none⟩, ⟨2, 1, .rw, 0, none⟩, ⟨3, 1, .rw, 0, none⟩, ⟨4, 1, .rw, 0, none⟩]⟩,
  ⟨"QUE_GRP_SUM", 0x1c0040, 8, 0x4, 1, 0x4, .plain, 0, [⟨0, 32, .ro, 0, none⟩]⟩,
  ⟨"QUE_SLOT_MAP", 0x1c0100, 256, 0x4, 1, 0x4, .plain, 4, [⟨0, 12, .ro, 0, none⟩, ⟨12, 1, .ro, 0, none⟩]⟩,
  ⟨"QUE_PUSH_MAP", 0x1c0500, 64, 0x4, 1, 0x4, .plain, 5, [⟨0, 12, .ro, 0, none⟩, ⟨12, 1, .ro, 0, none⟩]⟩,
  ⟨"QUE_GRP_CFG", 0x1c1000, 256, 0x40, 1, 0x4, .plain, 6, [⟨0, 2, .ro, 0, none⟩, ⟨2, 3, .rw, 0, none⟩, ⟨5, 4, .rw, 0, none⟩, ⟨9, 1, .rw, 0, none⟩, ⟨10, 4, .rw, 0, none⟩, ⟨14, 1, .rw, 0, none⟩, ⟨15, 1, .rw, 0, none⟩]⟩,
  ⟨"QUE_GRP_HIGH", 0x1c1004, 256, 0x40, 1, 0x4, .plain, 0, [⟨0, 32, .rw, 4294967295, none⟩]⟩,
  ⟨"QUE_GRP_LOW", 0x1c1008, 256, 0x40, 1, 0x4, .plain, 0, [⟨0, 32, .rw, 0, none⟩]⟩,
  ⟨"QUE_GRP_DEPTH", 0x1c100c, 256, 0x40, 1, 0x4, .plain, 0, [⟨0, 32, .ro, 0, none⟩]⟩,
  ⟨"QUE_GRP_LIVE", 0x1c1010, 256, 0x40, 1, 0x4, .live, 0, [⟨0, 1, .ro, 0, none⟩, ⟨1, 1, .ro, 0, none⟩, ⟨2, 1, .ro, 0, none⟩, ⟨3, 1, .ro, 0, none⟩]⟩,
  ⟨"QUE_GRP_STATUS", 0x1c1014, 256, 0x40, 1, 0x4, .status, 0, [⟨0, 1, .rws, 0, none⟩, ⟨1, 1, .rws, 0, none⟩, ⟨2, 1, .rws, 0, none⟩, ⟨3, 1, .rws, 0, none⟩]⟩,
  ⟨"QUE_GRP_DTS0", 0x1c1018, 256, 0x40, 1, 0x4, .plain, 0, [⟨0, 32, .ro, 0, none⟩]⟩,
  ⟨"QUE_GRP_DTS1", 0x1c101c, 256, 0x40, 1, 0x4, .plain, 0, [⟨0, 32, .ro, 0, none⟩]⟩,
  ⟨"QUE_GRP_DTS2", 0x1c1020, 256, 0x40, 1, 0x4, .plain, 0, [⟨0, 32, .ro, 0, none⟩]⟩,
  ⟨"QUE_GRP_ENABLE", 0x1c1024, 256, 0x40, 1, 0x4, .plain, 0, [⟨0, 1, .rw, 0, none⟩, ⟨1, 1, .rw, 0, none⟩, ⟨2, 1, .rw, 0, none⟩, ⟨3, 1, .rw, 0, none⟩]⟩]

/-- Registers of block QUE, part 2. -/
def rowsQue1 : List RegRow := [
  ⟨"QUE_XOFF_OUT_CFG", 0x1ce000, 1, 0x4, 1, 0x4, .plain, 0, [⟨0, 16, .rw, 0, none⟩, ⟨16, 10, .rw, 100, some (0, 1000)⟩]⟩,
  ⟨"QUE_XOFF_STAT", 0x1ce004, 1, 0x4, 1, 0x4, .plain, 0, [⟨0, 16, .ro, 0, none⟩, ⟨16, 16, .ro, 0, none⟩]⟩,
  ⟨"QUE_XOFF_IN_CFG", 0x1ce008, 1, 0x4, 1, 0x4, .plain, 0, [⟨0, 16, .rw, 0, none⟩, ⟨16, 16, .ro, 0, none⟩]⟩,
  ⟨"QUE_SS_CFG", 0x1cd000, 2, 0x100, 1, 0x4, .plain, 0, [⟨0, 1, .rw, 0, none⟩, ⟨1, 1, .rw, 1, none⟩, ⟨2, 1, .rw, 0, none⟩, ⟨3, 12, .rw, 0, none⟩, ⟨15, 3, .rw, 0, none⟩]⟩,
  ⟨"QUE_SS_FRAME", 0x1cd004, 2, 0x100, 1, 0x4, .plain, 0, [⟨0, 16, .rw, 34997, none⟩, ⟨16, 14, .rw, 1472, some (256, 8192)⟩]⟩,
  ⟨"QUE_SS_BATCH", 0x1cd008, 2, 0x100, 1, 0x4, .plain, 0, [⟨0, 12, .rw, 100, none⟩]⟩,
  ⟨"QUE_SS_SRC_LO", 0x1cd010, 2, 0x100, 1, 0x4, .plain, 0, [⟨0, 32, .rw, 0, none⟩]⟩,
  ⟨"QUE_SS_SRC_HI", 0x1cd014, 2, 0x100, 1, 0x4, .plain, 0, [⟨0, 16, .rw, 0, none⟩]⟩,
  ⟨"QUE_SS_DST_LO", 0x1cd018, 2, 0x100, 1, 0x4, .plain, 0, [⟨0, 32, .rw, 0, none⟩]⟩,
  ⟨"QUE_SS_DST_HI", 0x1cd01c, 2, 0x100, 1, 0x4, .plain, 0, [⟨0, 16, .rw, 0, none⟩]⟩,
  ⟨"QUE_SS_LIVE", 0x1cd020, 2, 0x100, 1, 0x4, .live, 0, [⟨0, 1, .ro, 1, none⟩, ⟨1, 1, .ro, 0, none⟩, ⟨2, 1, .ro, 0, none⟩, ⟨3, 1, .ro, 0, none⟩, ⟨4, 1, .ro, 0, none⟩]⟩,
  ⟨"QUE_SS_STATUS", 0x1cd024, 2, 0x100, 1, 0x4, .status, 0, [⟨0, 1, .rws, 0, none⟩, ⟨1, 1, .rws, 0, none⟩, ⟨2, 1, .rws, 0, none⟩, ⟨3, 1, .rws, 0, none⟩, ⟨4, 1, .rws, 0, none⟩]⟩,
  ⟨"QUE_SS_DTS0", 0x1cd028, 2, 0x100, 1, 0x4, .plain, 0, [⟨0, 32, .ro, 0, none⟩]⟩,
  ⟨"QUE_SS_DTS1", 0x1cd02c, 2, 0x100, 1, 0x4, .plain, 0, [⟨0, 32, .ro, 0, none⟩]⟩,
  ⟨"QUE_SS_DTS2", 0x1cd030, 2, 0x100, 1, 0x4, .plain, 0, [⟨0, 32, .ro, 0, none⟩]⟩,
  ⟨"QUE_SS_ENABLE", 0x1cd034, 2, 0x100, 1, 0x4, .plain, 0, [⟨0, 1, .rw, 0, none⟩, ⟨1, 1, .rw, 0, none⟩, ⟨2, 1, .rw, 0, none⟩, ⟨3, 1, .rw, 0, none⟩, ⟨4, 1, .rw, 0, none⟩]⟩]

/-- Registers of block QUE. -/
def rowsQue : List RegRow := rowsQue0 ++ rowsQue1

/-- Registers of block OAP, part 1. -/
def rowsOap0 : List RegRow := [
  ⟨"OAP_CFG", 0x200000, 8, 0x100, 1, 0x4, .oapCfg, 0, [⟨0, 1, .rw, 0, none⟩, ⟨1, 1, .rw, 0, none⟩, ⟨2, 1, .rw, 0, none⟩, ⟨3, 1, .rw, 0, none⟩, ⟨4, 1, .rw, 0, none⟩, ⟨5, 1, .rw, 0, none⟩, ⟨6, 10, .rw, 63, none⟩]⟩,
  ⟨"OAP_SRC", 0x200004, 8, 0x100, 1, 0x4, .oapSrc, 0, [⟨0, 16, .rw, 0, none⟩]⟩,
  ⟨"OAP_DROP_MASK_LO", 0x200008, 8, 0x100, 1, 0x4, .oapMask, 0, [⟨0, 32, .rw, 0, none⟩]⟩,
  ⟨"OAP_DROP_MASK_HI", 0x20000c, 8, 0x100, 1, 0x4, .oapMask, 0, [⟨0, 32, .rw, 0, none⟩]⟩,
  ⟨"OAP_INS_MASK_LO", 0x200010, 8, 0x100, 1, 0x4, .oapMask, 0, [⟨0, 32, .rw, 0, none⟩]⟩,
  ⟨"OAP_INS_MASK_HI", 0x200014, 8, 0x100, 1, 0x4, .oapMask, 0, [⟨0, 32, .rw, 0, none⟩]⟩,
  ⟨"OAP_STAT", 0x200018, 8, 0x100, 1, 0x4, .plain, 0, [⟨0, 3, .ro, 0, none⟩, ⟨3, 5, .ro, 0, none⟩, ⟨8, 5, .ro, 0, none⟩, ⟨13, 7, .ro, 0, none⟩, ⟨20, 7, .ro, 0, none⟩]⟩,
  ⟨"OAP_RATIO", 0x20001c, 8, 0x100, 1, 0x4, .plain, 0, [⟨0, 16, .ro, 0, none⟩]⟩,
  ⟨"OAP_LIVE", 0x200020, 8, 0x100, 1, 0x4, .live, 0, [⟨0, 1, .ro, 0, none⟩, ⟨1, 1, .ro, 0, none⟩, ⟨2, 1, .ro, 0, none⟩, ⟨3, 1, .ro, 0, none⟩, ⟨4, 1, .ro, 0, none⟩, ⟨5, 1, .ro, 0, none⟩]⟩,
  ⟨"OAP_STATUS", 0x200024, 8, 0x100, 1, 0x4, .status, 0, [⟨0, 1, .rws, 0, none⟩, ⟨1, 1, .rws, 0, none⟩, ⟨2, 1, .rws, 0, none⟩, ⟨3, 1, .rws, 0, none⟩, ⟨4, 1, .rws, 0, none⟩, ⟨5, 1, .rws, 0, none⟩]⟩,
  ⟨"OAP_DTS0", 0x200028, 8, 0x100, 1, 0x4, .plain, 0, [⟨0, 32, .ro, 0, none⟩]⟩,
  ⟨"OAP_DTS1", 0x20002c, 8, 0x100, 1, 0x4, .plain, 0, [⟨0, 32, .ro, 0, none⟩]⟩,
  ⟨"OAP_DTS2", 0x200030, 8, 0x100, 1, 0x4, .plain, 0, [⟨0, 32, .ro, 0, none⟩]⟩,
  ⟨"OAP_ENABLE", 0x200034, 8, 0x100, 1, 0x4, .plain, 0, [⟨0, 1, .rw, 0, none⟩, ⟨1, 1, .rw, 0, none⟩, ⟨2, 1, .rw, 0, none⟩, ⟨3, 1, .rw, 0, none⟩, ⟨4, 1, .rw, 0, none⟩, ⟨5, 1, .rw, 0, none⟩]⟩,
  ⟨"OAP_START", 0x200800, 1, 0x4, 1, 0x4, .oapGo, 0, [⟨0, 6, .rw, 0, none⟩, ⟨6, 1, .rw, 0, none⟩, ⟨7, 1, .wo, 0, none⟩, ⟨8, 1, .ro, 0, none⟩]⟩,
  ⟨"OAP_START_DTS0", 0x200804, 1, 0x4, 1, 0x4, .plain, 0, [⟨0, 32, .ro, 0, none⟩]⟩,
  ⟨"OAP_START_DTS1", 0x200808, 1, 0x4, 1, 0x4, .plain, 0, [⟨0, 32, .ro, 0, none⟩]⟩,
  ⟨"OAP_START_DTS2", 0x20080c, 1, 0x4, 1, 0x4, .plain, 0, [⟨0, 32, .ro, 0, none⟩]⟩]

/-- Registers of block OAP. -/
def rowsOap : List RegRow := rowsOap0

/-- Registers of block CVU, part 1. -/
def rowsCvu0 : List RegRow := [
  ⟨"CVU_CFG", 0x240000, 32, 0x100, 1, 0x4, .cvuCfg, 0, [⟨0, 1, .rw, 0, none⟩, ⟨1, 6, .rw, 31, none⟩, ⟨7, 1, .rw, 0, none⟩, ⟨8, 1, .rw, 0, none⟩, ⟨9, 2, .rw, 1, none⟩, ⟨11, 2, .rw, 3, none⟩, ⟨13, 1, .rw, 0, none⟩, ⟨14, 1, .rw, 0, none⟩, ⟨15, 1, .rw, 0, none⟩, ⟨16, 16, .rw, 255, none⟩]⟩,
  ⟨"CVU_TAP", 0x240004, 32, 0x100, 1, 0x4, .cvuTap, 0, [⟨0, 4, .rw, 0, none⟩, ⟨4, 1, .rw, 0, none⟩, ⟨5, 16, .rw, 0, none⟩]⟩,
  ⟨"CVU_POLY_LO", 0x240008, 32, 0x100, 1, 0x4, .cvuParam, 0, [⟨0, 32, .rw, 79764919, none⟩]⟩,
  ⟨"CVU_POLY_HI", 0x24000c, 32, 0x100, 1, 0x4, .cvuParam, 0, [⟨0, 32, .rw, 0, none⟩]⟩,
  ⟨"CVU_INIT_LO", 0x240010, 32, 0x100, 1, 0x4, .cvuParam, 0, [⟨0, 32, .rw, 4294967295, none⟩]⟩,
  ⟨"CVU_INIT_HI", 0x240014, 32, 0x100, 1, 0x4, .cvuParam, 0, [⟨0, 32, .rw, 0, none⟩]⟩,
  ⟨"CVU_XOROUT_LO", 0x240018, 32, 0x100, 1, 0x4, .cvuParam, 0, [⟨0, 32, .rw, 4294967295, none⟩]⟩,
  ⟨"CVU_XOROUT_HI", 0x24001c, 32, 0x100, 1, 0x4, .cvuParam, 0, [⟨0, 32, .rw, 0, none⟩]⟩,
  ⟨"CVU_EXP_LO", 0x240020, 32, 0x100, 1, 0x4, .plain, 0, [⟨0, 32, .rw, 0, none⟩]⟩,
  ⟨"CVU_EXP_HI", 0x240024, 32, 0x100, 1, 0x4, .plain, 0, [⟨0, 32, .rw, 0, none⟩]⟩,
  ⟨"CVU_EXP_GUARD", 0x240028, 32, 0x100, 1, 0x4, .cvuExpGuard, 0, [⟨0, 8, .rw, 165, none⟩]⟩,
  ⟨"CVU_FIFO_LO", 0x240030, 32, 0x100, 1, 0x4, .cvuFifoVal, 0, [⟨0, 32, .wo, 0, none⟩]⟩,
  ⟨"CVU_FIFO_HI", 0x240034, 32, 0x100, 1, 0x4, .cvuFifoVal, 0, [⟨0, 32, .wo, 0, none⟩]⟩,
  ⟨"CVU_FIFO_GUARD", 0x240038, 32, 0x100, 1, 0x4, .cvuFifoGuard, 0, [⟨0, 8, .wo, 0, none⟩]⟩,
  ⟨"CVU_RESULT_LO", 0x240040, 32, 0x100, 1, 0x4, .plain, 0, [⟨0, 32, .ro, 0, none⟩]⟩,
  ⟨"CVU_RESULT_HI", 0x240044, 32, 0x100, 1, 0x4, .plain, 0, [⟨0, 32, .ro, 0, none⟩]⟩,
  ⟨"CVU_MM_RESULT_LO", 0x240048, 32, 0x100, 1, 0x4, .plain, 0, [⟨0, 32, .ro, 0, none⟩]⟩,
  ⟨"CVU_MM_RESULT_HI", 0x24004c, 32, 0x100, 1, 0x4, .plain, 0, [⟨0, 32, .ro, 0, none⟩]⟩,
  ⟨"CVU_MM_EXP_LO", 0x240050, 32, 0x100, 1, 0x4, .plain, 0, [⟨0, 32, .ro, 0, none⟩]⟩,
  ⟨"CVU_MM_EXP_HI", 0x240054, 32, 0x100, 1, 0x4, .plain, 0, [⟨0, 32, .ro, 0, none⟩]⟩]

/-- Registers of block CVU, part 2. -/
def rowsCvu1 : List RegRow := [
  ⟨"CVU_CHECK_LO", 0x240068, 32, 0x100, 1, 0x4, .plain, 0, [⟨0, 32, .ro, 0, none⟩]⟩,
  ⟨"CVU_CHECK_HI", 0x24006c, 32, 0x100, 1, 0x4, .plain, 0, [⟨0, 32, .ro, 0, none⟩]⟩,
  ⟨"CVU_MM_DTS0", 0x240058, 32, 0x100, 1, 0x4, .plain, 0, [⟨0, 32, .ro, 0, none⟩]⟩,
  ⟨"CVU_MM_DTS1", 0x24005c, 32, 0x100, 1, 0x4, .plain, 0, [⟨0, 32, .ro, 0, none⟩]⟩,
  ⟨"CVU_MM_DTS2", 0x240060, 32, 0x100, 1, 0x4, .plain, 0, [⟨0, 32, .ro, 0, none⟩]⟩,
  ⟨"CVU_MM_INDEX", 0x240064, 32, 0x100, 1, 0x4, .plain, 0, [⟨0, 32, .ro, 0, none⟩]⟩,
  ⟨"CVU_CMD", 0x240070, 32, 0x100, 1, 0x4, .cvuCmd, 0, [⟨0, 2, .wo, 0, none⟩]⟩,
  ⟨"CVU_FIFO_LEVEL", 0x240074, 32, 0x100, 1, 0x4, .plain, 0, [⟨0, 5, .ro, 0, none⟩]⟩,
  ⟨"CVU_LIVE", 0x240080, 32, 0x100, 1, 0x4, .live, 0, [⟨0, 1, .ro, 0, none⟩, ⟨1, 1, .ro, 0, none⟩, ⟨2, 1, .ro, 0, none⟩, ⟨3, 1, .ro, 0, none⟩, ⟨4, 1, .ro, 0, none⟩]⟩,
  ⟨"CVU_STATUS", 0x240084, 32, 0x100, 1, 0x4, .status, 0, [⟨0, 1, .rws, 0, none⟩, ⟨1, 1, .rws, 0, none⟩, ⟨2, 1, .rws, 0, none⟩, ⟨3, 1, .rws, 0, none⟩, ⟨4, 1, .rws, 0, none⟩]⟩,
  ⟨"CVU_DTS0", 0x240088, 32, 0x100, 1, 0x4, .plain, 0, [⟨0, 32, .ro, 0, none⟩]⟩,
  ⟨"CVU_DTS1", 0x24008c, 32, 0x100, 1, 0x4, .plain, 0, [⟨0, 32, .ro, 0, none⟩]⟩,
  ⟨"CVU_DTS2", 0x240090, 32, 0x100, 1, 0x4, .plain, 0, [⟨0, 32, .ro, 0, none⟩]⟩,
  ⟨"CVU_ENABLE", 0x240094, 32, 0x100, 1, 0x4, .plain, 0, [⟨0, 1, .rw, 0, none⟩, ⟨1, 1, .rw, 0, none⟩, ⟨2, 1, .rw, 0, none⟩, ⟨3, 1, .rw, 0, none⟩, ⟨4, 1, .rw, 0, none⟩]⟩]

/-- Registers of block CVU. -/
def rowsCvu : List RegRow := rowsCvu0 ++ rowsCvu1

/-- Registers of block PMN, part 1. -/
def rowsPmn0 : List RegRow := [
  ⟨"PMN_CFG", 0x280000, 1, 0x4, 1, 0x4, .plain, 0, [⟨0, 17, .rw, 0, none⟩]⟩,
  ⟨"PMN_LIVE", 0x280010, 1, 0x4, 1, 0x4, .live, 0, [⟨0, 1, .ro, 0, none⟩, ⟨1, 1, .ro, 0, none⟩, ⟨2, 1, .ro, 0, none⟩, ⟨3, 1, .ro, 0, none⟩, ⟨4, 1, .ro, 0, none⟩]⟩,
  ⟨"PMN_STATUS", 0x280014, 1, 0x4, 1, 0x4, .status, 0, [⟨0, 1, .rws, 0, none⟩, ⟨1, 1, .rws, 0, none⟩, ⟨2, 1, .rws, 0, none⟩, ⟨3, 1, .rws, 0, none⟩, ⟨4, 1, .rws, 0, none⟩]⟩,
  ⟨"PMN_DTS0", 0x280018, 1, 0x4, 1, 0x4, .plain, 0, [⟨0, 32, .ro, 0, none⟩]⟩,
  ⟨"PMN_DTS1", 0x28001c, 1, 0x4, 1, 0x4, .plain, 0, [⟨0, 32, .ro, 0, none⟩]⟩,
  ⟨"PMN_DTS2", 0x280020, 1, 0x4, 1, 0x4, .plain, 0, [⟨0, 32, .ro, 0, none⟩]⟩,
  ⟨"PMN_ENABLE", 0x280024, 1, 0x4, 1, 0x4, .plain, 0, [⟨0, 1, .rw, 0, none⟩, ⟨1, 1, .rw, 0, none⟩, ⟨2, 1, .rw, 0, none⟩, ⟨3, 1, .rw, 0, none⟩, ⟨4, 1, .rw, 0, none⟩]⟩,
  ⟨"PMN_TCA_SET15", 0x281000, 64, 0x80, 8, 0x10, .plain, 0, [⟨0, 32, .rw, 0, none⟩]⟩,
  ⟨"PMN_TCA_RESET15", 0x281004, 64, 0x80, 8, 0x10, .plain, 0, [⟨0, 32, .rw, 0, none⟩]⟩,
  ⟨"PMN_TCA_SET24", 0x281008, 64, 0x80, 8, 0x10, .plain, 0, [⟨0, 32, .rw, 0, none⟩]⟩]

/-- Registers of block PMN. -/
def rowsPmn : List RegRow := rowsPmn0

/-- Registers of block EVL, part 1. -/
def rowsEvl0 : List RegRow := [
  ⟨"EVL_CFG", 0x2c0000, 1, 0x4, 1, 0x4, .plain, 0, [⟨0, 3, .rw, 1, none⟩, ⟨8, 8, .rw, 63, none⟩]⟩,
  ⟨"EVL_SEQ", 0x2c0004, 1, 0x4, 1, 0x4, .plain, 0, [⟨0, 32, .ro, 0, none⟩]⟩,
  ⟨"EVL_LIVE", 0x2c0010, 1, 0x4, 1, 0x4, .live, 0, [⟨0, 1, .ro, 0, none⟩, ⟨1, 1, .ro, 0, none⟩, ⟨2, 1, .ro, 0, none⟩, ⟨3, 1, .ro, 0, none⟩]⟩,
  ⟨"EVL_STATUS", 0x2c0014, 1, 0x4, 1, 0x4, .status, 0, [⟨0, 1, .rws, 0, none⟩, ⟨1, 1, .rws, 0, none⟩, ⟨2, 1, .rws, 0, none⟩, ⟨3, 1, .rws, 0, none⟩]⟩,
  ⟨"EVL_DTS0", 0x2c0018, 1, 0x4, 1, 0x4, .plain, 0, [⟨0, 32, .ro, 0, none⟩]⟩,
  ⟨"EVL_DTS1", 0x2c001c, 1, 0x4, 1, 0x4, .plain, 0, [⟨0, 32, .ro, 0, none⟩]⟩,
  ⟨"EVL_DTS2", 0x2c0020, 1, 0x4, 1, 0x4, .plain, 0, [⟨0, 32, .ro, 0, none⟩]⟩,
  ⟨"EVL_ENABLE", 0x2c0024, 1, 0x4, 1, 0x4, .plain, 0, [⟨0, 1, .rw, 0, none⟩, ⟨1, 1, .rw, 0, none⟩, ⟨2, 1, .rw, 0, none⟩, ⟨3, 1, .rw, 0, none⟩]⟩]

/-- Registers of block EVL. -/
def rowsEvl : List RegRow := rowsEvl0

/-- Registers of block MNT, part 1. -/
def rowsMnt0 : List RegRow := [
  ⟨"MNT_CFG", 0x300000, 1, 0x4, 1, 0x4, .plain, 0, [⟨0, 1, .rw, 1, none⟩, ⟨1, 17, .rw, 10800, none⟩, ⟨18, 1, .rw, 0, none⟩]⟩,
  ⟨"MNT_TEMP_CFG", 0x300004, 1, 0x4, 1, 0x4, .tempCfg, 8, [⟨0, 8, .rw, 100, none⟩]⟩,
  ⟨"MNT_TEMP", 0x300100, 64, 0x4, 1, 0x4, .plain, 0, [⟨0, 12, .ro, 0, none⟩]⟩,
  ⟨"MNT_LB_STAT", 0x300010, 1, 0x4, 1, 0x4, .plain, 0, [⟨0, 7, .ro, 0, none⟩, ⟨7, 1, .ro, 0, none⟩, ⟨8, 8, .ro, 255, none⟩]⟩,
  ⟨"MNT_LIVE", 0x300020, 1, 0x4, 1, 0x4, .live, 0, [⟨0, 1, .ro, 0, none⟩, ⟨1, 1, .ro, 0, none⟩, ⟨2, 1, .ro, 0, none⟩, ⟨3, 1, .ro, 0, none⟩, ⟨4, 1, .ro, 0, none⟩, ⟨5, 1, .ro, 0, none⟩, ⟨6, 1, .ro, 0, none⟩, ⟨7, 1, .ro, 0, none⟩]⟩,
  ⟨"MNT_STATUS", 0x300024, 1, 0x4, 1, 0x4, .status, 0, [⟨0, 1, .rws, 0, none⟩, ⟨1, 1, .rws, 0, none⟩, ⟨2, 1, .rws, 0, none⟩, ⟨3, 1, .rws, 0, none⟩, ⟨4, 1, .rws, 0, none⟩, ⟨5, 1, .rws, 0, none⟩, ⟨6, 1, .rws, 0, none⟩, ⟨7, 1, .rws, 0, none⟩]⟩,
  ⟨"MNT_DTS0", 0x300028, 1, 0x4, 1, 0x4, .plain, 0, [⟨0, 32, .ro, 0, none⟩]⟩,
  ⟨"MNT_DTS1", 0x30002c, 1, 0x4, 1, 0x4, .plain, 0, [⟨0, 32, .ro, 0, none⟩]⟩,
  ⟨"MNT_DTS2", 0x300030, 1, 0x4, 1, 0x4, .plain, 0, [⟨0, 32, .ro, 0, none⟩]⟩,
  ⟨"MNT_ENABLE", 0x300034, 1, 0x4, 1, 0x4, .plain, 0, [⟨0, 1, .rw, 0, none⟩, ⟨1, 1, .rw, 0, none⟩, ⟨2, 1, .rw, 0, none⟩, ⟨3, 1, .rw, 0, none⟩, ⟨4, 1, .rw, 0, none⟩, ⟨5, 1, .rw, 0, none⟩, ⟨6, 1, .rw, 0, none⟩, ⟨7, 1, .rw, 0, none⟩]⟩,
  ⟨"MNT_PERMIT", 0x301000, 512, 0x20, 1, 0x4, .plain, 0, [⟨0, 16, .ro, 0, none⟩, ⟨16, 16, .ro, 0, none⟩]⟩,
  ⟨"MNT_PERMIT_FLAGS", 0x301004, 512, 0x20, 1, 0x4, .plain, 0, [⟨0, 1, .ro, 0, none⟩, ⟨1, 1, .ro, 0, none⟩]⟩,
  ⟨"MNT_PERMIT_DTS0", 0x301008, 512, 0x20, 1, 0x4, .plain, 0, [⟨0, 32, .ro, 0, none⟩]⟩,
  ⟨"MNT_PERMIT_DTS1", 0x30100c, 512, 0x20, 1, 0x4, .plain, 0, [⟨0, 32, .ro, 0, none⟩]⟩,
  ⟨"MNT_PERMIT_DTS2", 0x301010, 512, 0x20, 1, 0x4, .plain, 0, [⟨0, 32, .ro, 0, none⟩]⟩]

/-- Registers of block MNT. -/
def rowsMnt : List RegRow := rowsMnt0

/-- Registers of block PWR, part 1. -/
def rowsPwr0 : List RegRow := [
  ⟨"PWR_DOM", 0x340000, 99, 0x4, 1, 0x4, .plain, 0, [⟨0, 3, .ro, 0, none⟩, ⟨3, 1, .rws, 0, none⟩, ⟨4, 1, .ro, 0, none⟩, ⟨8, 8, .ro, 0, none⟩]⟩,
  ⟨"PWR_BOOT", 0x340200, 1, 0x4, 1, 0x4, .plain, 11, [⟨0, 3, .ro, 0, none⟩, ⟨3, 1, .ro, 0, none⟩, ⟨4, 1, .ro, 0, none⟩, ⟨5, 1, .ro, 0, none⟩, ⟨6, 1, .ro, 0, none⟩, ⟨7, 1, .ro, 0, none⟩, ⟨8, 1, .ro, 0, none⟩, ⟨9, 1, .ro, 0, none⟩, ⟨16, 8, .ro, 0, none⟩, ⟨24, 8, .ro, 0, none⟩]⟩,
  ⟨"PWR_STAGE_MS", 0x340210, 5, 0x4, 1, 0x4, .plain, 0, [⟨0, 16, .ro, 0, none⟩]⟩,
  ⟨"PWR_RAIL", 0x340300, 7, 0x4, 1, 0x4, .plain, 0, [⟨0, 16, .ro, 0, none⟩]⟩,
  ⟨"PWR_LIVE", 0x340400, 1, 0x4, 1, 0x4, .live, 0, [⟨0, 1, .ro, 0, none⟩, ⟨1, 1, .ro, 0, none⟩, ⟨2, 1, .ro, 0, none⟩, ⟨3, 1, .ro, 0, none⟩, ⟨4, 1, .ro, 0, none⟩]⟩,
  ⟨"PWR_STATUS", 0x340404, 1, 0x4, 1, 0x4, .status, 0, [⟨0, 1, .rws, 0, none⟩, ⟨1, 1, .rws, 0, none⟩, ⟨2, 1, .rws, 0, none⟩, ⟨3, 1, .rws, 0, none⟩, ⟨4, 1, .rws, 0, none⟩]⟩,
  ⟨"PWR_DTS0", 0x340408, 1, 0x4, 1, 0x4, .plain, 0, [⟨0, 32, .ro, 0, none⟩]⟩,
  ⟨"PWR_DTS1", 0x34040c, 1, 0x4, 1, 0x4, .plain, 0, [⟨0, 32, .ro, 0, none⟩]⟩,
  ⟨"PWR_DTS2", 0x340410, 1, 0x4, 1, 0x4, .plain, 0, [⟨0, 32, .ro, 0, none⟩]⟩,
  ⟨"PWR_ENABLE", 0x340414, 1, 0x4, 1, 0x4, .plain, 0, [⟨0, 1, .rw, 0, none⟩, ⟨1, 1, .rw, 0, none⟩, ⟨2, 1, .rw, 0, none⟩, ⟨3, 1, .rw, 0, none⟩, ⟨4, 1, .rw, 0, none⟩]⟩,
  ⟨"PWR_IN_CFG", 0x340800, 64, 0x4, 1, 0x4, .pwrInCfg, 7, [⟨0, 1, .rw, 1, none⟩, ⟨1, 4, .rw, 0, none⟩, ⟨5, 6, .rw, 0, none⟩, ⟨11, 4, .rw, 0, none⟩, ⟨15, 4, .rw, 0, none⟩, ⟨19, 5, .rw, 0, none⟩]⟩,
  ⟨"PWR_IN_LEVEL", 0x340a00, 2, 0x4, 1, 0x4, .plain, 0, [⟨0, 32, .ro, 0, none⟩]⟩,
  ⟨"PWR_IN_STUCK", 0x340a08, 2, 0x4, 1, 0x4, .plain, 0, [⟨0, 32, .ro, 0, none⟩]⟩,
  ⟨"PWR_IN_CHATTER", 0x340a10, 2, 0x4, 1, 0x4, .plain, 0, [⟨0, 32, .ro, 0, none⟩]⟩,
  ⟨"PWR_IN_LIVE", 0x340a20, 1, 0x4, 1, 0x4, .live, 0, [⟨0, 1, .ro, 0, none⟩, ⟨1, 1, .ro, 0, none⟩]⟩,
  ⟨"PWR_IN_STATUS", 0x340a24, 1, 0x4, 1, 0x4, .status, 0, [⟨0, 1, .rws, 0, none⟩, ⟨1, 1, .rws, 0, none⟩]⟩,
  ⟨"PWR_IN_DTS0", 0x340a28, 1, 0x4, 1, 0x4, .plain, 0, [⟨0, 32, .ro, 0, none⟩]⟩,
  ⟨"PWR_IN_DTS1", 0x340a2c, 1, 0x4, 1, 0x4, .plain, 0, [⟨0, 32, .ro, 0, none⟩]⟩,
  ⟨"PWR_IN_DTS2", 0x340a30, 1, 0x4, 1, 0x4, .plain, 0, [⟨0, 32, .ro, 0, none⟩]⟩,
  ⟨"PWR_IN_ENABLE", 0x340a34, 1, 0x4, 1, 0x4, .plain, 0, [⟨0, 1, .rw, 0, none⟩, ⟨1, 1, .rw, 0, none⟩]⟩]

/-- Registers of block PWR. -/
def rowsPwr : List RegRow := rowsPwr0

/-- Block k of Table HST-1 that decodes a BAR0 offset; none for the reserved range. -/
def blockOf (a : Nat) : Option Nat :=
  if a < 0x10000 then some 0
  else if a < 0x20000 then some 1
  else if a < 0x40000 then some 2
  else if a < 0x80000 then some 3
  else if a < 0xc0000 then some 4
  else if a < 0x100000 then some 5
  else if a < 0x140000 then some 6
  else if a < 0x180000 then some 7
  else if a < 0x1c0000 then some 8
  else if a < 0x200000 then some 9
  else if a < 0x240000 then some 10
  else if a < 0x280000 then some 11
  else if a < 0x2c0000 then some 12
  else if a < 0x300000 then some 13
  else if a < 0x340000 then some 14
  else if a < 0x380000 then some 15
  else none

/-- The registers of block k. -/
def blockRows : Nat → List RegRow
  | 0 => rowsSys
  | 1 => rowsKsk
  | 2 => rowsHcq
  | 3 => rowsTim
  | 4 => rowsAve
  | 5 => rowsLin
  | 6 => rowsSyp
  | 7 => rowsPlz
  | 8 => rowsUnd
  | 9 => rowsQue
  | 10 => rowsOap
  | 11 => rowsCvu
  | 12 => rowsPmn
  | 13 => rowsEvl
  | 14 => rowsMnt
  | 15 => rowsPwr
  | _ => []

/-- The 48-bit counter families (R5, R6): base of the lower word and the strides of its instances. -/
def ctrRows : List (Nat × Nat × Nat × Nat × Nat) := [
  (0x10200, 1, 0x4, 1, 0x4),
  (0x10208, 1, 0x4, 1, 0x4),
  (0x10210, 1, 0x4, 1, 0x4),
  (0x10218, 1, 0x4, 1, 0x4),
  (0x10220, 1, 0x4, 1, 0x4),
  (0x10228, 1, 0x4, 1, 0x4),
  (0x47100, 1, 0x4, 1, 0x4),
  (0x47108, 1, 0x4, 1, 0x4),
  (0x47110, 1, 0x4, 1, 0x4),
  (0x47118, 1, 0x4, 1, 0x4),
  (0x47120, 1, 0x4, 1, 0x4),
  (0x47128, 1, 0x4, 1, 0x4),
  (0x80140, 36, 0x1000, 1, 0x4),
  (0x80148, 36, 0x1000, 1, 0x4),
  (0x80010, 36, 0x1000, 1, 0x4),
  (0xc0100, 128, 0x200, 1, 0x4),
  (0xc0108, 128, 0x200, 1, 0x4),
  (0xc0110, 128, 0x200, 1, 0x4),
  (0xc0118, 128, 0x200, 1, 0x4),
  (0xc0120, 128, 0x200, 1, 0x4),
  (0xc0128, 128, 0x200, 1, 0x4),
  (0xc0140, 128, 0x200, 16, 0x8),
  (0xd0040, 64, 0x100, 1, 0x4),
  (0xd8020, 128, 0x80, 1, 0x4),
  (0xd8028, 128, 0x80, 1, 0x4),
  (0xd8030, 128, 0x80, 1, 0x4),
  (0x110080, 160, 0x100, 1, 0x4),
  (0x110088, 160, 0x100, 1, 0x4),
  (0x110090, 160, 0x100, 1, 0x4),
  (0x110098, 160, 0x100, 1, 0x4),
  (0x1100a0, 160, 0x100, 1, 0x4),
  (0x1100a8, 160, 0x100, 1, 0x4),
  (0x1100b0, 160, 0x100, 1, 0x4),
  (0x1100b8, 160, 0x100, 1, 0x4),
  (0x1100c0, 160, 0x100, 1, 0x4),
  (0x1100c8, 160, 0x100, 1, 0x4),
  (0x1100d0, 160, 0x100, 1, 0x4),
  (0x1100d8, 160, 0x100, 1, 0x4),
  (0x1100e0, 160, 0x100, 1, 0x4),
  (0x140300, 1, 0x4, 1, 0x4),
  (0x140308, 1, 0x4, 1, 0x4),
  (0x140310, 1, 0x4, 1, 0x4),
  (0x140318, 1, 0x4, 1, 0x4),
  (0x140320, 1, 0x4, 1, 0x4),
  (0x140328, 1, 0x4, 1, 0x4),
  (0x180300, 1, 0x4, 1, 0x4),
  (0x180308, 1, 0x4, 1, 0x4),
  (0x180310, 1, 0x4, 1, 0x4),
  (0x180318, 1, 0x4, 1, 0x4),
  (0x180320, 1, 0x4, 1, 0x4),
  (0x180328, 1, 0x4, 1, 0x4),
  (0x1c1030, 256, 0x40, 1, 0x4),
  (0x1c1038, 256, 0x40, 1, 0x4),
  (0x1cd080, 2, 0x100, 1, 0x4),
  (0x1cd088, 2, 0x100, 1, 0x4),
  (0x1cd090, 2, 0x100, 1, 0x4),
  (0x1cd098, 2, 0x100, 1, 0x4),
  (0x1cd0a0, 2, 0x100, 1, 0x4),
  (0x1cd0a8, 2, 0x100, 1, 0x4),
  (0x1cd0b0, 2, 0x100, 1, 0x4),
  (0x200080, 8, 0x100, 1, 0x4),
  (0x200088, 8, 0x100, 1, 0x4),
  (0x200090, 8, 0x100, 1, 0x4),
  (0x200098, 8, 0x100, 1, 0x4),
  (0x2000a0, 8, 0x100, 1, 0x4),
  (0x2000a8, 8, 0x100, 1, 0x4),
  (0x2000b0, 8, 0x100, 1, 0x4),
  (0x2000b8, 8, 0x100, 1, 0x4),
  (0x200810, 1, 0x4, 1, 0x4),
  (0x2400c0, 32, 0x100, 1, 0x4),
  (0x2400c8, 32, 0x100, 1, 0x4),
  (0x2400d0, 32, 0x100, 1, 0x4),
  (0x2400d8, 32, 0x100, 1, 0x4),
  (0x2400e0, 32, 0x100, 1, 0x4),
  (0x2400e8, 32, 0x100, 1, 0x4),
  (0x280300, 1, 0x4, 1, 0x4),
  (0x280308, 1, 0x4, 1, 0x4),
  (0x2c0300, 1, 0x4, 1, 0x4),
  (0x2c0308, 1, 0x4, 1, 0x4),
  (0x2c0310, 1, 0x4, 1, 0x4),
  (0x2c0318, 1, 0x4, 1, 0x4),
  (0x300300, 1, 0x4, 1, 0x4),
  (0x300308, 1, 0x4, 1, 0x4),
  (0x300310, 1, 0x4, 1, 0x4),
  (0x300318, 1, 0x4, 1, 0x4),
  (0x300320, 1, 0x4, 1, 0x4),
  (0x300328, 1, 0x4, 1, 0x4),
  (0x340500, 1, 0x4, 1, 0x4),
  (0x340508, 1, 0x4, 1, 0x4),
  (0x340510, 1, 0x4, 1, 0x4),
  (0x340a40, 1, 0x4, 1, 0x4),
  (0x340a48, 1, 0x4, 1, 0x4)]

/-- The STATUS registers (R608) by block, family base and strides; LIVE lies 4 below, the companion DTS at +4 to +12, ENABLE at +16. -/
def statusFams : List (Nat × Nat × Nat × Nat × Nat × Nat) := [
  (0, 0x94, 1, 0x4, 1, 0x4),
  (1, 0x10124, 1, 0x4, 1, 0x4),
  (2, 0x20044, 1, 0x4, 1, 0x4),
  (3, 0x47004, 1, 0x4, 1, 0x4),
  (4, 0x80114, 36, 0x1000, 2, 0x800),
  (4, 0xa4014, 1, 0x4, 1, 0x4),
  (5, 0xc0014, 128, 0x200, 1, 0x4),
  (5, 0xd0014, 64, 0x100, 1, 0x4),
  (6, 0x110014, 160, 0x100, 1, 0x4),
  (7, 0x140204, 1, 0x4, 1, 0x4),
  (8, 0x180204, 1, 0x4, 1, 0x4),
  (9, 0x1c0014, 1, 0x4, 1, 0x4),
  (9, 0x1c1014, 256, 0x40, 1, 0x4),
  (9, 0x1cd024, 2, 0x100, 1, 0x4),
  (10, 0x200024, 8, 0x100, 1, 0x4),
  (11, 0x240084, 32, 0x100, 1, 0x4),
  (12, 0x280014, 1, 0x4, 1, 0x4),
  (13, 0x2c0014, 1, 0x4, 1, 0x4),
  (14, 0x300024, 1, 0x4, 1, 0x4),
  (15, 0x340404, 1, 0x4, 1, 0x4),
  (15, 0x340a24, 1, 0x4, 1, 0x4)]

end Sys2Proof.Machine

namespace Sys2Proof.Machine.Reg

/-- SYS_ID (17_host_interface.md R507). -/
def SYS_ID : Nat := 0x0
def SYS_ID_SIL_REV : RF := ⟨0x0, 0, 8⟩
def SYS_ID_GRADE : RF := ⟨0x0, 8, 1⟩
def SYS_ID_DEBUG_LOCK : RF := ⟨0x0, 9, 1⟩
def SYS_ID_KIOSK_READY : RF := ⟨0x0, 10, 1⟩
/-- SYS_IRQ_STATUS (17_host_interface.md R519). -/
def SYS_IRQ_STATUS : Nat := 0x10
def SYS_IRQ_STATUS_V : RF := ⟨0x10, 0, 32⟩
/-- SYS_IRQ_VEC (17_host_interface.md R507). -/
def SYS_IRQ_VEC (i : Nat) : Nat := 0x20 + i * 0x4
def SYS_IRQ_VEC_VEC (i : Nat) : RF := ⟨0x20 + i * 0x4, 0, 6⟩
def SYS_IRQ_VEC_MASK (i : Nat) : RF := ⟨0x20 + i * 0x4, 6, 1⟩
/-- SYS_IRQ_ACK (17_host_interface.md R520). -/
def SYS_IRQ_ACK : Nat := 0x60
def SYS_IRQ_ACK_VEC : RF := ⟨0x60, 0, 6⟩
/-- SYS_APT_BASE (17_host_interface.md R505). -/
def SYS_APT_BASE : Nat := 0x70
def SYS_APT_BASE_BASE : RF := ⟨0x70, 0, 9⟩
/-- SYS_VIOL_CNT (17_host_interface.md R504). -/
def SYS_VIOL_CNT : Nat := 0x80
def SYS_VIOL_CNT_V : RF := ⟨0x80, 0, 32⟩
/-- SYS_LIVE (17_host_interface.md R507). -/
def SYS_LIVE : Nat := 0x90
def SYS_LIVE_VIOLATION : RF := ⟨0x90, 0, 1⟩
def SYS_LIVE_LOG_WRAP : RF := ⟨0x90, 1, 1⟩
/-- SYS_STATUS (17_host_interface.md R507). -/
def SYS_STATUS : Nat := 0x94
def SYS_STATUS_BITS : RF := ⟨0x94, 0, 32⟩
/-- SYS_DTS0 (17_host_interface.md R507). -/
def SYS_DTS0 : Nat := 0x98
def SYS_DTS0_V : RF := ⟨0x98, 0, 32⟩
/-- SYS_DTS1 (17_host_interface.md R507). -/
def SYS_DTS1 : Nat := 0x9c
def SYS_DTS1_V : RF := ⟨0x9c, 0, 32⟩
/-- SYS_DTS2 (17_host_interface.md R507). -/
def SYS_DTS2 : Nat := 0xa0
def SYS_DTS2_V : RF := ⟨0xa0, 0, 32⟩
/-- SYS_ENABLE (17_host_interface.md R507). -/
def SYS_ENABLE : Nat := 0xa4
def SYS_ENABLE_V : RF := ⟨0xa4, 0, 32⟩
/-- SYS_CDF (17_host_interface.md R507). -/
def SYS_CDF (i : Nat) : Nat := 0x1000 + i * 0x4
def SYS_CDF_V (i : Nat) : RF := ⟨0x1000 + i * 0x4, 0, 32⟩
/-- SYS_VIOL_LOG (17_host_interface.md R504). -/
def SYS_VIOL_LOG (i j : Nat) : Nat := 0x2000 + i * 0x20 + j * 0x4
def SYS_VIOL_LOG_V (i j : Nat) : RF := ⟨0x2000 + i * 0x20 + j * 0x4, 0, 32⟩
/-- MSIX_ADDR_LO (17_host_interface.md R507). -/
def MSIX_ADDR_LO (i : Nat) : Nat := 0x8000 + i * 0x10
def MSIX_ADDR_LO_V (i : Nat) : RF := ⟨0x8000 + i * 0x10, 0, 32⟩
/-- MSIX_ADDR_HI (17_host_interface.md R507). -/
def MSIX_ADDR_HI (i : Nat) : Nat := 0x8004 + i * 0x10
def MSIX_ADDR_HI_V (i : Nat) : RF := ⟨0x8004 + i * 0x10, 0, 32⟩
/-- MSIX_DATA (17_host_interface.md R507). -/
def MSIX_DATA (i : Nat) : Nat := 0x8008 + i * 0x10
def MSIX_DATA_V (i : Nat) : RF := ⟨0x8008 + i * 0x10, 0, 32⟩
/-- MSIX_CTRL (17_host_interface.md R507). -/
def MSIX_CTRL (i : Nat) : Nat := 0x800c + i * 0x10
def MSIX_CTRL_MASK (i : Nat) : RF := ⟨0x800c + i * 0x10, 0, 1⟩
/-- MSIX_PBA (17_host_interface.md R507). -/
def MSIX_PBA (i : Nat) : Nat := 0x9000 + i * 0x4
def MSIX_PBA_V (i : Nat) : RF := ⟨0x9000 + i * 0x4, 0, 32⟩
/-- KSK_LEASE (16_redundancy.md R500). -/
def KSK_LEASE : Nat := 0x10000
def KSK_LEASE_HOLDER : RF := ⟨0x10000, 0, 1⟩
def KSK_LEASE_VALID : RF := ⟨0x10000, 1, 1⟩
def KSK_LEASE_K0_FAULT : RF := ⟨0x10000, 2, 1⟩
def KSK_LEASE_K1_FAULT : RF := ⟨0x10000, 3, 1⟩
def KSK_LEASE_GRANTS : RF := ⟨0x10000, 4, 16⟩
/-- KSK_LEASE_EXP0 (16_redundancy.md R500). -/
def KSK_LEASE_EXP0 : Nat := 0x10004
def KSK_LEASE_EXP0_V : RF := ⟨0x10004, 0, 32⟩
/-- KSK_LEASE_EXP1 (16_redundancy.md R500). -/
def KSK_LEASE_EXP1 : Nat := 0x10008
def KSK_LEASE_EXP1_V : RF := ⟨0x10008, 0, 32⟩
/-- KSK_LEASE_EXP2 (16_redundancy.md R500). -/
def KSK_LEASE_EXP2 : Nat := 0x1000c
def KSK_LEASE_EXP2_V : RF := ⟨0x1000c, 0, 32⟩
/-- KSK_PAIR_STAT (16_redundancy.md R500). -/
def KSK_PAIR_STAT : Nat := 0x10104
def KSK_PAIR_STAT_ROLE : RF := ⟨0x10104, 0, 3⟩
def KSK_PAIR_STAT_PAIR_EN : RF := ⟨0x10104, 3, 1⟩
def KSK_PAIR_STAT_HB_LINK : RF := ⟨0x10104, 4, 1⟩
def KSK_PAIR_STAT_HB_PIN : RF := ⟨0x10104, 5, 1⟩
def KSK_PAIR_STAT_REF_PRESENT : RF := ⟨0x10104, 6, 1⟩
def KSK_PAIR_STAT_STANDBY_STALE : RF := ⟨0x10104, 7, 1⟩
def KSK_PAIR_STAT_OWNED : RF := ⟨0x10104, 8, 1⟩
/-- KSK_PAIR_EXP0 (16_redundancy.md R500). -/
def KSK_PAIR_EXP0 : Nat := 0x10108
def KSK_PAIR_EXP0_V : RF := ⟨0x10108, 0, 32⟩
/-- KSK_PAIR_EXP1 (16_redundancy.md R500). -/
def KSK_PAIR_EXP1 : Nat := 0x1010c
def KSK_PAIR_EXP1_V : RF := ⟨0x1010c, 0, 32⟩
/-- KSK_PAIR_EXP2 (16_redundancy.md R500). -/
def KSK_PAIR_EXP2 : Nat := 0x10110
def KSK_PAIR_EXP2_V : RF := ⟨0x10110, 0, 32⟩
/-- KSK_PAIR_EPOCH (16_redundancy.md R500). -/
def KSK_PAIR_EPOCH : Nat := 0x10114
def KSK_PAIR_EPOCH_V : RF := ⟨0x10114, 0, 32⟩
/-- KSK_PAIR_LIVE (16_redundancy.md R500). -/
def KSK_PAIR_LIVE : Nat := 0x10120
def KSK_PAIR_LIVE_ROLE_CHG : RF := ⟨0x10120, 0, 1⟩
def KSK_PAIR_LIVE_PATH_LOST : RF := ⟨0x10120, 1, 1⟩
def KSK_PAIR_LIVE_MATE_LOST : RF := ⟨0x10120, 2, 1⟩
def KSK_PAIR_LIVE_ORPHAN : RF := ⟨0x10120, 3, 1⟩
def KSK_PAIR_LIVE_EPOCH_REJECT : RF := ⟨0x10120, 4, 1⟩
def KSK_PAIR_LIVE_REF_BAD : RF := ⟨0x10120, 5, 1⟩
def KSK_PAIR_LIVE_NO_COMMON_VERSION : RF := ⟨0x10120, 6, 1⟩
/-- KSK_PAIR_STATUS (16_redundancy.md R500). -/
def KSK_PAIR_STATUS : Nat := 0x10124
def KSK_PAIR_STATUS_BITS : RF := ⟨0x10124, 0, 32⟩
/-- KSK_PAIR_DTS0 (16_redundancy.md R500). -/
def KSK_PAIR_DTS0 : Nat := 0x10128
def KSK_PAIR_DTS0_V : RF := ⟨0x10128, 0, 32⟩
/-- KSK_PAIR_DTS1 (16_redundancy.md R500). -/
def KSK_PAIR_DTS1 : Nat := 0x1012c
def KSK_PAIR_DTS1_V : RF := ⟨0x1012c, 0, 32⟩
/-- KSK_PAIR_DTS2 (16_redundancy.md R500). -/
def KSK_PAIR_DTS2 : Nat := 0x10130
def KSK_PAIR_DTS2_V : RF := ⟨0x10130, 0, 32⟩
/-- KSK_PAIR_ENABLE (16_redundancy.md R500). -/
def KSK_PAIR_ENABLE : Nat := 0x10134
def KSK_PAIR_ENABLE_V : RF := ⟨0x10134, 0, 32⟩
/-- HCQ_CTL (17_host_interface.md R517). -/
def HCQ_CTL : Nat := 0x20000
def HCQ_CTL_EN : RF := ⟨0x20000, 0, 1⟩
def HCQ_CTL_RING_LOG2 : RF := ⟨0x20000, 1, 4⟩
/-- HCQ_STAT (17_host_interface.md R517). -/
def HCQ_STAT : Nat := 0x20004
def HCQ_STAT_READY : RF := ⟨0x20004, 0, 1⟩
def HCQ_STAT_BUSY : RF := ⟨0x20004, 1, 1⟩
def HCQ_STAT_HELLO_DONE : RF := ⟨0x20004, 2, 1⟩
def HCQ_STAT_HCP : RF := ⟨0x20004, 16, 16⟩
/-- CMD_BASE_LO (17_host_interface.md R517). -/
def CMD_BASE_LO : Nat := 0x20010
def CMD_BASE_LO_V : RF := ⟨0x20010, 0, 32⟩
/-- CMD_BASE_HI (17_host_interface.md R517). -/
def CMD_BASE_HI : Nat := 0x20014
def CMD_BASE_HI_V : RF := ⟨0x20014, 0, 32⟩
/-- CPL_BASE_LO (17_host_interface.md R517). -/
def CPL_BASE_LO : Nat := 0x20018
def CPL_BASE_LO_V : RF := ⟨0x20018, 0, 32⟩
/-- CPL_BASE_HI (17_host_interface.md R517). -/
def CPL_BASE_HI : Nat := 0x2001c
def CPL_BASE_HI_V : RF := ⟨0x2001c, 0, 32⟩
/-- CMD_PI (17_host_interface.md R508). -/
def CMD_PI : Nat := 0x20020
def CMD_PI_V : RF := ⟨0x20020, 0, 16⟩
/-- CMD_CI (17_host_interface.md R517). -/
def CMD_CI : Nat := 0x20024
def CMD_CI_V : RF := ⟨0x20024, 0, 16⟩
/-- CPL_PI (17_host_interface.md R517). -/
def CPL_PI : Nat := 0x20028
def CPL_PI_V : RF := ⟨0x20028, 0, 16⟩
/-- CPL_CI (17_host_interface.md R509). -/
def CPL_CI : Nat := 0x2002c
def CPL_CI_V : RF := ⟨0x2002c, 0, 16⟩
/-- HCQ_LIVE (17_host_interface.md R517). -/
def HCQ_LIVE : Nat := 0x20040
def HCQ_LIVE_CPL : RF := ⟨0x20040, 0, 1⟩
def HCQ_LIVE_CPL_FULL : RF := ⟨0x20040, 1, 1⟩
def HCQ_LIVE_ERROR : RF := ⟨0x20040, 2, 1⟩
/-- HCQ_STATUS (17_host_interface.md R517). -/
def HCQ_STATUS : Nat := 0x20044
def HCQ_STATUS_BITS : RF := ⟨0x20044, 0, 32⟩
/-- HCQ_DTS0 (17_host_interface.md R517). -/
def HCQ_DTS0 : Nat := 0x20048
def HCQ_DTS0_V : RF := ⟨0x20048, 0, 32⟩
/-- HCQ_DTS1 (17_host_interface.md R517). -/
def HCQ_DTS1 : Nat := 0x2004c
def HCQ_DTS1_V : RF := ⟨0x2004c, 0, 32⟩
/-- HCQ_DTS2 (17_host_interface.md R517). -/
def HCQ_DTS2 : Nat := 0x20050
def HCQ_DTS2_V : RF := ⟨0x20050, 0, 32⟩
/-- HCQ_ENABLE (17_host_interface.md R517). -/
def HCQ_ENABLE : Nat := 0x20054
def HCQ_ENABLE_V : RF := ⟨0x20054, 0, 32⟩
/-- TIM_MON_CFG (11_timing.md R342). -/
def TIM_MON_CFG : Nat := 0x40000
def TIM_MON_CFG_REJECT_DPPM : RF := ⟨0x40000, 0, 10⟩
def TIM_MON_CFG_ACCEPT_DPPM : RF := ⟨0x40000, 10, 10⟩
def TIM_MON_CFG_ACC_DWELL_S : RF := ⟨0x40000, 20, 10⟩
/-- TIM_MON_CFG2 (11_timing.md R342). -/
def TIM_MON_CFG2 : Nat := 0x40004
def TIM_MON_CFG2_REJ_DWELL : RF := ⟨0x40004, 0, 7⟩
def TIM_MON_CFG2_DISPUTE_DPPM : RF := ⟨0x40004, 7, 8⟩
def TIM_MON_CFG2_DRIFT_HOR : RF := ⟨0x40004, 15, 7⟩
def TIM_MON_CFG2_SOFT_PCT5 : RF := ⟨0x40004, 22, 5⟩
def TIM_MON_CFG2_EARLY_FB : RF := ⟨0x40004, 27, 1⟩
/-- TIM_REF_CFG (11_timing.md R335). -/
def TIM_REF_CFG (i : Nat) : Nat := 0x41000 + i * 0x10
def TIM_REF_CFG_EN (i : Nat) : RF := ⟨0x41000 + i * 0x10, 0, 1⟩
def TIM_REF_CFG_RATE (i : Nat) : RF := ⟨0x41000 + i * 0x10, 1, 4⟩
def TIM_REF_CFG_POL (i : Nat) : RF := ⟨0x41000 + i * 0x10, 5, 1⟩
/-- TIM_REF_HZ (11_timing.md R335). -/
def TIM_REF_HZ (i : Nat) : Nat := 0x41004 + i * 0x10
def TIM_REF_HZ_HZ (i : Nat) : RF := ⟨0x41004 + i * 0x10, 0, 30⟩
/-- TIM_REF_STAT (11_timing.md R340). -/
def TIM_REF_STAT (i : Nat) : Nat := 0x41008 + i * 0x10
def TIM_REF_STAT_QSTATE (i : Nat) : RF := ⟨0x41008 + i * 0x10, 0, 2⟩
def TIM_REF_STAT_DISPUTE (i : Nat) : RF := ⟨0x41008 + i * 0x10, 2, 1⟩
def TIM_REF_STAT_DRIFT (i : Nat) : RF := ⟨0x41008 + i * 0x10, 3, 1⟩
def TIM_REF_STAT_SOFT (i : Nat) : RF := ⟨0x41008 + i * 0x10, 4, 1⟩
def TIM_REF_STAT_CAUSE (i : Nat) : RF := ⟨0x41008 + i * 0x10, 5, 2⟩
def TIM_REF_STAT_DISQ_SEEN (i : Nat) : RF := ⟨0x41008 + i * 0x10, 16, 1⟩
def TIM_REF_STAT_DISPUTE_SEEN (i : Nat) : RF := ⟨0x41008 + i * 0x10, 17, 1⟩
def TIM_REF_STAT_DRIFT_SEEN (i : Nat) : RF := ⟨0x41008 + i * 0x10, 18, 1⟩
/-- TIM_REF_OFS (11_timing.md R339). -/
def TIM_REF_OFS (i : Nat) : Nat := 0x4100c + i * 0x10
def TIM_REF_OFS_V (i : Nat) : RF := ⟨0x4100c + i * 0x10, 0, 32⟩
/-- TIM_LREF_MAP (11_timing.md R334). -/
def TIM_LREF_MAP (i : Nat) : Nat := 0x42400 + i * 0x4
def TIM_LREF_MAP_LANE (i : Nat) : RF := ⟨0x42400 + i * 0x4, 0, 8⟩
/-- TIM_DP_CFG (11_timing.md R344). -/
def TIM_DP_CFG (i : Nat) : Nat := 0x44000 + i * 0x100
def TIM_DP_CFG_MODE (i : Nat) : RF := ⟨0x44000 + i * 0x100, 0, 2⟩
def TIM_DP_CFG_REVERTIVE (i : Nat) : RF := ⟨0x44000 + i * 0x100, 2, 1⟩
def TIM_DP_CFG_BEHAV (i : Nat) : RF := ⟨0x44000 + i * 0x100, 3, 1⟩
def TIM_DP_CFG_MAN_CAND (i : Nat) : RF := ⟨0x44000 + i * 0x100, 4, 4⟩
def TIM_DP_CFG_HIST (i : Nat) : RF := ⟨0x44000 + i * 0x100, 8, 5⟩
def TIM_DP_CFG_PSL (i : Nat) : RF := ⟨0x44000 + i * 0x100, 13, 10⟩
/-- TIM_DP_NARROW (11_timing.md R352). -/
def TIM_DP_NARROW (i : Nat) : Nat := 0x44004 + i * 0x100
def TIM_DP_NARROW_NARROW_THR (i : Nat) : RF := ⟨0x44004 + i * 0x100, 0, 10⟩
def TIM_DP_NARROW_NARROW_DWELL (i : Nat) : RF := ⟨0x44004 + i * 0x100, 10, 6⟩
/-- TIM_DP_STAT (11_timing.md R371). -/
def TIM_DP_STAT (i : Nat) : Nat := 0x44008 + i * 0x100
def TIM_DP_STAT_STATE (i : Nat) : RF := ⟨0x44008 + i * 0x100, 0, 3⟩
def TIM_DP_STAT_SEL_REF (i : Nat) : RF := ⟨0x44008 + i * 0x100, 3, 9⟩
def TIM_DP_STAT_SEL_CAND (i : Nat) : RF := ⟨0x44008 + i * 0x100, 12, 4⟩
def TIM_DP_STAT_BRIDGE (i : Nat) : RF := ⟨0x44008 + i * 0x100, 16, 1⟩
def TIM_DP_STAT_MAN_FALLBACK (i : Nat) : RF := ⟨0x44008 + i * 0x100, 17, 1⟩
def TIM_DP_STAT_PIN_SEL (i : Nat) : RF := ⟨0x44008 + i * 0x100, 18, 1⟩
/-- TIM_DP_PHASE (11_timing.md R371). -/
def TIM_DP_PHASE (i : Nat) : Nat := 0x4400c + i * 0x100
def TIM_DP_PHASE_V (i : Nat) : RF := ⟨0x4400c + i * 0x100, 0, 32⟩
/-- TIM_DP_FREQ (11_timing.md R371). -/
def TIM_DP_FREQ (i : Nat) : Nat := 0x44010 + i * 0x100
def TIM_DP_FREQ_V (i : Nat) : RF := ⟨0x44010 + i * 0x100, 0, 32⟩
/-- TIM_DP_CAND (11_timing.md R343). -/
def TIM_DP_CAND (i j : Nat) : Nat := 0x44040 + i * 0x100 + j * 0x4
def TIM_DP_CAND_REF (i j : Nat) : RF := ⟨0x44040 + i * 0x100 + j * 0x4, 0, 9⟩
def TIM_DP_CAND_RANK (i j : Nat) : RF := ⟨0x44040 + i * 0x100 + j * 0x4, 9, 4⟩
def TIM_DP_CAND_EN (i j : Nat) : RF := ⟨0x44040 + i * 0x100 + j * 0x4, 13, 1⟩
/-- TIM_TIME_CFG (11_timing.md R368). -/
def TIM_TIME_CFG : Nat := 0x45000
def TIM_TIME_CFG_STEP_EN : RF := ⟨0x45000, 0, 1⟩
def TIM_TIME_CFG_STEP_THR : RF := ⟨0x45000, 1, 10⟩
def TIM_TIME_CFG_SLEW : RF := ⟨0x45000, 11, 10⟩
def TIM_TIME_CFG_TOD_EN : RF := ⟨0x45000, 21, 1⟩
/-- TIM_TOD_STAT (11_timing.md R366). -/
def TIM_TOD_STAT : Nat := 0x45004
def TIM_TOD_STAT_TIME_SET : RF := ⟨0x45004, 0, 1⟩
def TIM_TOD_STAT_TOD_VALID : RF := ⟨0x45004, 1, 1⟩
def TIM_TOD_STAT_TOD_CONFLICT : RF := ⟨0x45004, 2, 1⟩
def TIM_TOD_STAT_SLEWING : RF := ⟨0x45004, 3, 1⟩
def TIM_TOD_STAT_LEAP : RF := ⟨0x45004, 4, 2⟩
def TIM_TOD_STAT_UTC_OFS_VALID : RF := ⟨0x45004, 6, 1⟩
def TIM_TOD_STAT_UTC_OFS : RF := ⟨0x45004, 16, 16⟩
/-- TIM_DTS_SNAP (11_timing.md R371). -/
def TIM_DTS_SNAP : Nat := 0x45010
def TIM_DTS_SNAP_SNAP : RF := ⟨0x45010, 0, 1⟩
/-- TIM_SNAP0 (11_timing.md R371). -/
def TIM_SNAP0 : Nat := 0x45014
def TIM_SNAP0_V : RF := ⟨0x45014, 0, 32⟩
/-- TIM_SNAP1 (11_timing.md R371). -/
def TIM_SNAP1 : Nat := 0x45018
def TIM_SNAP1_V : RF := ⟨0x45018, 0, 32⟩
/-- TIM_SNAP2 (11_timing.md R371). -/
def TIM_SNAP2 : Nat := 0x4501c
def TIM_SNAP2_V : RF := ⟨0x4501c, 0, 32⟩
/-- TIM_DP1_ADJ_FREQ (11_timing.md R363). -/
def TIM_DP1_ADJ_FREQ : Nat := 0x45020
def TIM_DP1_ADJ_FREQ_V : RF := ⟨0x45020, 0, 32⟩
/-- TIM_DP1_ADJ_PHASE (11_timing.md R368). -/
def TIM_DP1_ADJ_PHASE : Nat := 0x45024
def TIM_DP1_ADJ_PHASE_V : RF := ⟨0x45024, 0, 32⟩
/-- TIM_OUT_CFG (11_timing.md R361). -/
def TIM_OUT_CFG (i : Nat) : Nat := 0x46000 + i * 0x4
def TIM_OUT_CFG_SRC (i : Nat) : RF := ⟨0x46000 + i * 0x4, 0, 4⟩
def TIM_OUT_CFG_FREQ_KHZ (i : Nat) : RF := ⟨0x46000 + i * 0x4, 4, 20⟩
def TIM_OUT_CFG_SQ_FREERUN (i : Nat) : RF := ⟨0x46000 + i * 0x4, 24, 1⟩
def TIM_OUT_CFG_OWNED (i : Nat) : RF := ⟨0x46000 + i * 0x4, 25, 1⟩
/-- TIM_LIVE (11_timing.md R371). -/
def TIM_LIVE : Nat := 0x47000
def TIM_LIVE_NOT_LOCKED : RF := ⟨0x47000, 0, 8⟩
def TIM_LIVE_HOLD : RF := ⟨0x47000, 8, 8⟩
def TIM_LIVE_OCXO_LOST : RF := ⟨0x47000, 16, 1⟩
def TIM_LIVE_REF_CHG : RF := ⟨0x47000, 17, 1⟩
def TIM_LIVE_DISPUTE : RF := ⟨0x47000, 18, 1⟩
def TIM_LIVE_DRIFT : RF := ⟨0x47000, 19, 1⟩
def TIM_LIVE_TOD_ERR : RF := ⟨0x47000, 20, 1⟩
def TIM_LIVE_TIME_STEP : RF := ⟨0x47000, 21, 1⟩
def TIM_LIVE_PIN_FAULT : RF := ⟨0x47000, 22, 1⟩
def TIM_LIVE_SEL_CHG : RF := ⟨0x47000, 23, 1⟩
/-- TIM_STATUS (11_timing.md R371). -/
def TIM_STATUS : Nat := 0x47004
def TIM_STATUS_BITS : RF := ⟨0x47004, 0, 32⟩
/-- TIM_DTS0 (11_timing.md R371). -/
def TIM_DTS0 : Nat := 0x47008
def TIM_DTS0_V : RF := ⟨0x47008, 0, 32⟩
/-- TIM_DTS1 (11_timing.md R371). -/
def TIM_DTS1 : Nat := 0x4700c
def TIM_DTS1_V : RF := ⟨0x4700c, 0, 32⟩
/-- TIM_DTS2 (11_timing.md R371). -/
def TIM_DTS2 : Nat := 0x47010
def TIM_DTS2_V : RF := ⟨0x47010, 0, 32⟩
/-- TIM_ENABLE (11_timing.md R371). -/
def TIM_ENABLE : Nat := 0x47014
def TIM_ENABLE_V : RF := ⟨0x47014, 0, 32⟩
/-- AVE_PACE_CFG (02_clockless_core.md R71). -/
def AVE_PACE_CFG (i j : Nat) : Nat := 0x80100 + i * 0x1000 + j * 0x800
def AVE_PACE_CFG_WARN_MT (i j : Nat) : RF := ⟨0x80100 + i * 0x1000 + j * 0x800, 0, 12⟩
def AVE_PACE_CFG_SHED_PCT (i j : Nat) : RF := ⟨0x80100 + i * 0x1000 + j * 0x800, 12, 7⟩
def AVE_PACE_CFG_SHED_MARGIN_PCT (i j : Nat) : RF := ⟨0x80100 + i * 0x1000 + j * 0x800, 19, 5⟩
def AVE_PACE_CFG_RESTORE_MARGIN_PCT (i j : Nat) : RF := ⟨0x80100 + i * 0x1000 + j * 0x800, 24, 5⟩
def AVE_PACE_CFG_RESTORE_QUIET_MS (i j : Nat) : RF := ⟨0x80100 + i * 0x1000 + j * 0x800, 29, 3⟩
/-- AVE_PACE (02_clockless_core.md R50). -/
def AVE_PACE (i j : Nat) : Nat := 0x80104 + i * 0x1000 + j * 0x800
def AVE_PACE_PACE_MT_RX (i j : Nat) : RF := ⟨0x80104 + i * 0x1000 + j * 0x800, 0, 16⟩
def AVE_PACE_PACE_MT_TX (i j : Nat) : RF := ⟨0x80104 + i * 0x1000 + j * 0x800, 16, 16⟩
/-- AVE_PACE_MIN (02_clockless_core.md R50). -/
def AVE_PACE_MIN (i j : Nat) : Nat := 0x80108 + i * 0x1000 + j * 0x800
def AVE_PACE_MIN_MIN_MT_RX (i j : Nat) : RF := ⟨0x80108 + i * 0x1000 + j * 0x800, 0, 16⟩
def AVE_PACE_MIN_MIN_MT_TX (i j : Nat) : RF := ⟨0x80108 + i * 0x1000 + j * 0x800, 16, 16⟩
/-- AVE_PACE_LIVE (02_clockless_core.md R71). -/
def AVE_PACE_LIVE (i j : Nat) : Nat := 0x80110 + i * 0x1000 + j * 0x800
def AVE_PACE_LIVE_PACE_WARN (i j : Nat) : RF := ⟨0x80110 + i * 0x1000 + j * 0x800, 0, 1⟩
def AVE_PACE_LIVE_SHED_ACTIVE (i j : Nat) : RF := ⟨0x80110 + i * 0x1000 + j * 0x800, 1, 1⟩
def AVE_PACE_LIVE_SHED_EXHAUSTED (i j : Nat) : RF := ⟨0x80110 + i * 0x1000 + j * 0x800, 2, 1⟩
def AVE_PACE_LIVE_CAL_STALE (i j : Nat) : RF := ⟨0x80110 + i * 0x1000 + j * 0x800, 3, 1⟩
def AVE_PACE_LIVE_EDGE_OVF (i j : Nat) : RF := ⟨0x80110 + i * 0x1000 + j * 0x800, 4, 1⟩
def AVE_PACE_LIVE_EDGE_UFL (i j : Nat) : RF := ⟨0x80110 + i * 0x1000 + j * 0x800, 5, 1⟩
/-- AVE_PACE_STATUS (02_clockless_core.md R71). -/
def AVE_PACE_STATUS (i j : Nat) : Nat := 0x80114 + i * 0x1000 + j * 0x800
def AVE_PACE_STATUS_BITS (i j : Nat) : RF := ⟨0x80114 + i * 0x1000 + j * 0x800, 0, 32⟩
/-- AVE_PACE_DTS0 (02_clockless_core.md R71). -/
def AVE_PACE_DTS0 (i j : Nat) : Nat := 0x80118 + i * 0x1000 + j * 0x800
def AVE_PACE_DTS0_V (i j : Nat) : RF := ⟨0x80118 + i * 0x1000 + j * 0x800, 0, 32⟩
/-- AVE_PACE_DTS1 (02_clockless_core.md R71). -/
def AVE_PACE_DTS1 (i j : Nat) : Nat := 0x8011c + i * 0x1000 + j * 0x800
def AVE_PACE_DTS1_V (i j : Nat) : RF := ⟨0x8011c + i * 0x1000 + j * 0x800, 0, 32⟩
/-- AVE_PACE_DTS2 (02_clockless_core.md R71). -/
def AVE_PACE_DTS2 (i j : Nat) : Nat := 0x80120 + i * 0x1000 + j * 0x800
def AVE_PACE_DTS2_V (i j : Nat) : RF := ⟨0x80120 + i * 0x1000 + j * 0x800, 0, 32⟩
/-- AVE_PACE_ENABLE (02_clockless_core.md R71). -/
def AVE_PACE_ENABLE (i j : Nat) : Nat := 0x80124 + i * 0x1000 + j * 0x800
def AVE_PACE_ENABLE_V (i j : Nat) : RF := ⟨0x80124 + i * 0x1000 + j * 0x800, 0, 32⟩
/-- AVE_CAL (02_clockless_core.md R71). -/
def AVE_CAL (i j : Nat) : Nat := 0x80130 + i * 0x1000 + j * 0x800
def AVE_CAL_CAL_COUNT (i j : Nat) : RF := ⟨0x80130 + i * 0x1000 + j * 0x800, 0, 16⟩
def AVE_CAL_LAST_STEPS (i j : Nat) : RF := ⟨0x80130 + i * 0x1000 + j * 0x800, 16, 8⟩
def AVE_CAL_WORST_MARGIN_PCT (i j : Nat) : RF := ⟨0x80130 + i * 0x1000 + j * 0x800, 24, 8⟩
/-- AVE_MED_STAT (16_redundancy.md R462). -/
def AVE_MED_STAT (i : Nat) : Nat := 0x80000 + i * 0x1000
def AVE_MED_STAT_STATE (i : Nat) : RF := ⟨0x80000 + i * 0x1000, 0, 3⟩
def AVE_MED_STAT_SLOT (i : Nat) : RF := ⟨0x80000 + i * 0x1000, 3, 5⟩
def AVE_MED_STAT_LAST_KIND (i : Nat) : RF := ⟨0x80000 + i * 0x1000, 8, 4⟩
def AVE_MED_STAT_BAD_HALF0 (i : Nat) : RF := ⟨0x80000 + i * 0x1000, 12, 1⟩
def AVE_MED_STAT_BAD_HALF1 (i : Nat) : RF := ⟨0x80000 + i * 0x1000, 13, 1⟩
def AVE_MED_STAT_SKEW_PEAK (i : Nat) : RF := ⟨0x80000 + i * 0x1000, 14, 7⟩
/-- AVE_MED_DTS0 (16_redundancy.md R462). -/
def AVE_MED_DTS0 (i : Nat) : Nat := 0x80004 + i * 0x1000
def AVE_MED_DTS0_V (i : Nat) : RF := ⟨0x80004 + i * 0x1000, 0, 32⟩
/-- AVE_MED_DTS1 (16_redundancy.md R462). -/
def AVE_MED_DTS1 (i : Nat) : Nat := 0x80008 + i * 0x1000
def AVE_MED_DTS1_V (i : Nat) : RF := ⟨0x80008 + i * 0x1000, 0, 32⟩
/-- AVE_MED_DTS2 (16_redundancy.md R462). -/
def AVE_MED_DTS2 (i : Nat) : Nat := 0x8000c + i * 0x1000
def AVE_MED_DTS2_V (i : Nat) : RF := ⟨0x8000c + i * 0x1000, 0, 32⟩
/-- AVE_POOL (16_redundancy.md R500). -/
def AVE_POOL : Nat := 0xa4000
def AVE_POOL_SPARES : RF := ⟨0xa4000, 0, 3⟩
def AVE_POOL_IN_TEST : RF := ⟨0xa4000, 3, 3⟩
def AVE_POOL_RETIRED : RF := ⟨0xa4000, 6, 6⟩
def AVE_POOL_EXHAUSTED : RF := ⟨0xa4000, 12, 1⟩
/-- AVE_POOL_LIVE (16_redundancy.md R500). -/
def AVE_POOL_LIVE : Nat := 0xa4010
def AVE_POOL_LIVE_FAILOVER : RF := ⟨0xa4010, 0, 1⟩
def AVE_POOL_LIVE_NO_SPARE : RF := ⟨0xa4010, 1, 1⟩
def AVE_POOL_LIVE_RETIRE : RF := ⟨0xa4010, 2, 1⟩
/-- AVE_POOL_STATUS (16_redundancy.md R500). -/
def AVE_POOL_STATUS : Nat := 0xa4014
def AVE_POOL_STATUS_BITS : RF := ⟨0xa4014, 0, 32⟩
/-- AVE_POOL_DTS0 (16_redundancy.md R500). -/
def AVE_POOL_DTS0 : Nat := 0xa4018
def AVE_POOL_DTS0_V : RF := ⟨0xa4018, 0, 32⟩
/-- AVE_POOL_DTS1 (16_redundancy.md R500). -/
def AVE_POOL_DTS1 : Nat := 0xa401c
def AVE_POOL_DTS1_V : RF := ⟨0xa401c, 0, 32⟩
/-- AVE_POOL_DTS2 (16_redundancy.md R500). -/
def AVE_POOL_DTS2 : Nat := 0xa4020
def AVE_POOL_DTS2_V : RF := ⟨0xa4020, 0, 32⟩
/-- AVE_POOL_ENABLE (16_redundancy.md R500). -/
def AVE_POOL_ENABLE : Nat := 0xa4024
def AVE_POOL_ENABLE_V : RF := ⟨0xa4024, 0, 32⟩
/-- LIN_LIF_CFG (04_line_ports.md R136). -/
def LIN_LIF_CFG (i : Nat) : Nat := 0xc0000 + i * 0x200
def LIN_LIF_CFG_TYPE (i : Nat) : RF := ⟨0xc0000 + i * 0x200, 0, 4⟩
def LIN_LIF_CFG_ENABLED (i : Nat) : RF := ⟨0xc0000 + i * 0x200, 4, 1⟩
def LIN_LIF_CFG_GROUPED (i : Nat) : RF := ⟨0xc0000 + i * 0x200, 5, 1⟩
def LIN_LIF_CFG_GROUP (i : Nat) : RF := ⟨0xc0000 + i * 0x200, 6, 6⟩
def LIN_LIF_CFG_PID (i : Nat) : RF := ⟨0xc0000 + i * 0x200, 12, 8⟩
def LIN_LIF_CFG_OS_FIRST (i : Nat) : RF := ⟨0xc0000 + i * 0x200, 20, 8⟩
def LIN_LIF_CFG_CORR_DIS (i : Nat) : RF := ⟨0xc0000 + i * 0x200, 28, 1⟩
/-- LIN_LIF_LIVE (04_line_ports.md R136). -/
def LIN_LIF_LIVE (i : Nat) : Nat := 0xc0010 + i * 0x200
def LIN_LIF_LIVE_LOS (i : Nat) : RF := ⟨0xc0010 + i * 0x200, 0, 1⟩
def LIN_LIF_LIVE_CDR_LOL (i : Nat) : RF := ⟨0xc0010 + i * 0x200, 1, 1⟩
def LIN_LIF_LIVE_SD_LOS (i : Nat) : RF := ⟨0xc0010 + i * 0x200, 2, 1⟩
def LIN_LIF_LIVE_GEI_LOS (i : Nat) : RF := ⟨0xc0010 + i * 0x200, 3, 1⟩
def LIN_LIF_LIVE_AM_UNLOCK (i : Nat) : RF := ⟨0xc0010 + i * 0x200, 4, 1⟩
def LIN_LIF_LIVE_LANE_DESKEW_FAIL (i : Nat) : RF := ⟨0xc0010 + i * 0x200, 5, 1⟩
def LIN_LIF_LIVE_MEMBER_FAIL (i : Nat) : RF := ⟨0xc0010 + i * 0x200, 6, 1⟩
def LIN_LIF_LIVE_FEC_DEG (i : Nat) : RF := ⟨0xc0010 + i * 0x200, 7, 1⟩
def LIN_LIF_LIVE_FEC_UNCORR (i : Nat) : RF := ⟨0xc0010 + i * 0x200, 8, 1⟩
def LIN_LIF_LIVE_LOOPBACK (i : Nat) : RF := ⟨0xc0010 + i * 0x200, 9, 1⟩
def LIN_LIF_LIVE_PRBS (i : Nat) : RF := ⟨0xc0010 + i * 0x200, 10, 1⟩
/-- LIN_LIF_STATUS (04_line_ports.md R136). -/
def LIN_LIF_STATUS (i : Nat) : Nat := 0xc0014 + i * 0x200
def LIN_LIF_STATUS_BITS (i : Nat) : RF := ⟨0xc0014 + i * 0x200, 0, 32⟩
/-- LIN_LIF_DTS0 (04_line_ports.md R136). -/
def LIN_LIF_DTS0 (i : Nat) : Nat := 0xc0018 + i * 0x200
def LIN_LIF_DTS0_V (i : Nat) : RF := ⟨0xc0018 + i * 0x200, 0, 32⟩
/-- LIN_LIF_DTS1 (04_line_ports.md R136). -/
def LIN_LIF_DTS1 (i : Nat) : Nat := 0xc001c + i * 0x200
def LIN_LIF_DTS1_V (i : Nat) : RF := ⟨0xc001c + i * 0x200, 0, 32⟩
/-- LIN_LIF_DTS2 (04_line_ports.md R136). -/
def LIN_LIF_DTS2 (i : Nat) : Nat := 0xc0020 + i * 0x200
def LIN_LIF_DTS2_V (i : Nat) : RF := ⟨0xc0020 + i * 0x200, 0, 32⟩
/-- LIN_LIF_ENABLE (04_line_ports.md R136). -/
def LIN_LIF_ENABLE (i : Nat) : Nat := 0xc0024 + i * 0x200
def LIN_LIF_ENABLE_V (i : Nat) : RF := ⟨0xc0024 + i * 0x200, 0, 32⟩
/-- LIN_LIF_LOS_CFG (04_line_ports.md R126). -/
def LIN_LIF_LOS_CFG (i : Nat) : Nat := 0xc0030 + i * 0x200
def LIN_LIF_LOS_CFG_GEI_SEL (i : Nat) : RF := ⟨0xc0030 + i * 0x200, 0, 5⟩
def LIN_LIF_LOS_CFG_GEI_EN (i : Nat) : RF := ⟨0xc0030 + i * 0x200, 5, 1⟩
def LIN_LIF_LOS_CFG_GEI_POL (i : Nat) : RF := ⟨0xc0030 + i * 0x200, 6, 1⟩
def LIN_LIF_LOS_CFG_SD_EN (i : Nat) : RF := ⟨0xc0030 + i * 0x200, 7, 1⟩
def LIN_LIF_LOS_CFG_LOS_SET (i : Nat) : RF := ⟨0xc0030 + i * 0x200, 8, 4⟩
def LIN_LIF_LOS_CFG_LOS_CLR_US (i : Nat) : RF := ⟨0xc0030 + i * 0x200, 12, 12⟩
/-- LIN_LIF_FEC_CFG (04_line_ports.md R137). -/
def LIN_LIF_FEC_CFG (i : Nat) : Nat := 0xc0034 + i * 0x200
def LIN_LIF_FEC_CFG_DEG_MANT (i : Nat) : RF := ⟨0xc0034 + i * 0x200, 0, 4⟩
def LIN_LIF_FEC_CFG_DEG_EXP (i : Nat) : RF := ⟨0xc0034 + i * 0x200, 4, 4⟩
def LIN_LIF_FEC_CFG_DEG_WIN (i : Nat) : RF := ⟨0xc0034 + i * 0x200, 8, 8⟩
def LIN_LIF_FEC_CFG_DEG_SET (i : Nat) : RF := ⟨0xc0034 + i * 0x200, 16, 4⟩
def LIN_LIF_FEC_CFG_DEG_CLR (i : Nat) : RF := ⟨0xc0034 + i * 0x200, 20, 4⟩
/-- LIN_GRP_CFG (04_line_ports.md R136). -/
def LIN_GRP_CFG (i : Nat) : Nat := 0xd0000 + i * 0x100
def LIN_GRP_CFG_N_M1 (i : Nat) : RF := ⟨0xd0000 + i * 0x100, 0, 6⟩
def LIN_GRP_CFG_MEMBERS_M1 (i : Nat) : RF := ⟨0xd0000 + i * 0x100, 6, 5⟩
def LIN_GRP_CFG_OS_BASE (i : Nat) : RF := ⟨0xd0000 + i * 0x100, 11, 8⟩
def LIN_GRP_CFG_ENABLED (i : Nat) : RF := ⟨0xd0000 + i * 0x100, 19, 1⟩
/-- LIN_GRP_GID (04_line_ports.md R117). -/
def LIN_GRP_GID (i : Nat) : Nat := 0xd0004 + i * 0x100
def LIN_GRP_GID_GID (i : Nat) : RF := ⟨0xd0004 + i * 0x100, 0, 20⟩
/-- LIN_GRP_LIVE (04_line_ports.md R136). -/
def LIN_GRP_LIVE (i : Nat) : Nat := 0xd0010 + i * 0x100
def LIN_GRP_LIVE_GROUP_FAIL (i : Nat) : RF := ⟨0xd0010 + i * 0x100, 0, 1⟩
def LIN_GRP_LIVE_DESKEW_FAIL (i : Nat) : RF := ⟨0xd0010 + i * 0x100, 1, 1⟩
def LIN_GRP_LIVE_REFORMED (i : Nat) : RF := ⟨0xd0010 + i * 0x100, 2, 1⟩
/-- LIN_GRP_STATUS (04_line_ports.md R136). -/
def LIN_GRP_STATUS (i : Nat) : Nat := 0xd0014 + i * 0x100
def LIN_GRP_STATUS_BITS (i : Nat) : RF := ⟨0xd0014 + i * 0x100, 0, 32⟩
/-- LIN_GRP_DTS0 (04_line_ports.md R136). -/
def LIN_GRP_DTS0 (i : Nat) : Nat := 0xd0018 + i * 0x100
def LIN_GRP_DTS0_V (i : Nat) : RF := ⟨0xd0018 + i * 0x100, 0, 32⟩
/-- LIN_GRP_DTS1 (04_line_ports.md R136). -/
def LIN_GRP_DTS1 (i : Nat) : Nat := 0xd001c + i * 0x100
def LIN_GRP_DTS1_V (i : Nat) : RF := ⟨0xd001c + i * 0x100, 0, 32⟩
/-- LIN_GRP_DTS2 (04_line_ports.md R136). -/
def LIN_GRP_DTS2 (i : Nat) : Nat := 0xd0020 + i * 0x100
def LIN_GRP_DTS2_V (i : Nat) : RF := ⟨0xd0020 + i * 0x100, 0, 32⟩
/-- LIN_GRP_ENABLE (04_line_ports.md R136). -/
def LIN_GRP_ENABLE (i : Nat) : Nat := 0xd0024 + i * 0x100
def LIN_GRP_ENABLE_V (i : Nat) : RF := ⟨0xd0024 + i * 0x100, 0, 32⟩
/-- LIN_GRP_SKEW (04_line_ports.md R119). -/
def LIN_GRP_SKEW (i : Nat) : Nat := 0xd0030 + i * 0x100
def LIN_GRP_SKEW_SKEW_NS (i : Nat) : RF := ⟨0xd0030 + i * 0x100, 0, 16⟩
def LIN_GRP_SKEW_PEAK_NS (i : Nat) : RF := ⟨0xd0030 + i * 0x100, 16, 16⟩
/-- LIN_GRP_TIMERS (04_line_ports.md R119). -/
def LIN_GRP_TIMERS (i : Nat) : Nat := 0xd0034 + i * 0x100
def LIN_GRP_TIMERS_DESKEW_MAX_NS (i : Nat) : RF := ⟨0xd0034 + i * 0x100, 0, 12⟩
def LIN_GRP_TIMERS_HEADROOM_NS (i : Nat) : RF := ⟨0xd0034 + i * 0x100, 12, 12⟩
def LIN_GRP_TIMERS_REFORM_US (i : Nat) : RF := ⟨0xd0034 + i * 0x100, 24, 8⟩
/-- LIN_LANE_STAT (04_line_ports.md R136). -/
def LIN_LANE_STAT (i : Nat) : Nat := 0xd8000 + i * 0x80
def LIN_LANE_STAT_SIG_DET (i : Nat) : RF := ⟨0xd8000 + i * 0x80, 0, 1⟩
def LIN_LANE_STAT_CDR_LOCK (i : Nat) : RF := ⟨0xd8000 + i * 0x80, 1, 1⟩
def LIN_LANE_STAT_CLASS (i : Nat) : RF := ⟨0xd8000 + i * 0x80, 2, 2⟩
def LIN_LANE_STAT_PRBS_LOCK (i : Nat) : RF := ⟨0xd8000 + i * 0x80, 4, 1⟩
def LIN_LANE_STAT_LOOPBACK (i : Nat) : RF := ⟨0xd8000 + i * 0x80, 5, 2⟩
/-- LIN_LANE_PRBS_CFG (04_line_ports.md R135). -/
def LIN_LANE_PRBS_CFG (i : Nat) : Nat := 0xd8010 + i * 0x80
def LIN_LANE_PRBS_CFG_PATTERN (i : Nat) : RF := ⟨0xd8010 + i * 0x80, 0, 4⟩
def LIN_LANE_PRBS_CFG_GEN_EN (i : Nat) : RF := ⟨0xd8010 + i * 0x80, 4, 1⟩
def LIN_LANE_PRBS_CFG_CHK_EN (i : Nat) : RF := ⟨0xd8010 + i * 0x80, 5, 1⟩
def LIN_LANE_PRBS_CFG_INVERT (i : Nat) : RF := ⟨0xd8010 + i * 0x80, 6, 1⟩
/-- SYP_AL_CFG (08_arcade.md R271). -/
def SYP_AL_CFG (i : Nat) : Nat := 0x110000 + i * 0x100
def SYP_AL_CFG_ENABLED (i : Nat) : RF := ⟨0x110000 + i * 0x100, 0, 1⟩
def SYP_AL_CFG_HOLDDOWN (i : Nat) : RF := ⟨0x110000 + i * 0x100, 1, 8⟩
def SYP_AL_CFG_ASYM_PS (i : Nat) : RF := ⟨0x110000 + i * 0x100, 9, 16⟩
/-- SYP_AL_STAT (08_arcade.md R239). -/
def SYP_AL_STAT (i : Nat) : Nat := 0x110004 + i * 0x100
def SYP_AL_STAT_STATE (i : Nat) : RF := ⟨0x110004 + i * 0x100, 0, 3⟩
def SYP_AL_STAT_PLANE (i : Nat) : RF := ⟨0x110004 + i * 0x100, 3, 1⟩
def SYP_AL_STAT_REASON (i : Nat) : RF := ⟨0x110004 + i * 0x100, 4, 4⟩
def SYP_AL_STAT_CHOSEN (i : Nat) : RF := ⟨0x110004 + i * 0x100, 8, 16⟩
/-- SYP_AL_PEER (08_arcade.md R243). -/
def SYP_AL_PEER (i : Nat) : Nat := 0x110008 + i * 0x100
def SYP_AL_PEER_PEER_DEVID (i : Nat) : RF := ⟨0x110008 + i * 0x100, 0, 16⟩
def SYP_AL_PEER_PEER_LINK (i : Nat) : RF := ⟨0x110008 + i * 0x100, 16, 8⟩
def SYP_AL_PEER_PEER_PLANE (i : Nat) : RF := ⟨0x110008 + i * 0x100, 24, 1⟩
/-- SYP_AL_ADV (08_arcade.md R25). -/
def SYP_AL_ADV (i : Nat) : Nat := 0x11000c + i * 0x100
def SYP_AL_ADV_V (i : Nat) : RF := ⟨0x11000c + i * 0x100, 0, 32⟩
/-- SYP_AL_LIVE (08_arcade.md R271). -/
def SYP_AL_LIVE (i : Nat) : Nat := 0x110010 + i * 0x100
def SYP_AL_LIVE_LINK_DOWN (i : Nat) : RF := ⟨0x110010 + i * 0x100, 0, 1⟩
def SYP_AL_LIVE_DELIN_LOSS (i : Nat) : RF := ⟨0x110010 + i * 0x100, 1, 1⟩
def SYP_AL_LIVE_HDR_ERR (i : Nat) : RF := ⟨0x110010 + i * 0x100, 2, 1⟩
def SYP_AL_LIVE_PCRC_ERR (i : Nat) : RF := ⟨0x110010 + i * 0x100, 3, 1⟩
def SYP_AL_LIVE_FEC_UNCORR (i : Nat) : RF := ⟨0x110010 + i * 0x100, 4, 1⟩
def SYP_AL_LIVE_TC_STALE (i : Nat) : RF := ⟨0x110010 + i * 0x100, 5, 1⟩
def SYP_AL_LIVE_NO_COMMON_VERSION (i : Nat) : RF := ⟨0x110010 + i * 0x100, 6, 1⟩
def SYP_AL_LIVE_PEER_HOLD (i : Nat) : RF := ⟨0x110010 + i * 0x100, 7, 1⟩
/-- SYP_AL_STATUS (08_arcade.md R271). -/
def SYP_AL_STATUS (i : Nat) : Nat := 0x110014 + i * 0x100
def SYP_AL_STATUS_BITS (i : Nat) : RF := ⟨0x110014 + i * 0x100, 0, 32⟩
/-- SYP_AL_DTS0 (08_arcade.md R271). -/
def SYP_AL_DTS0 (i : Nat) : Nat := 0x110018 + i * 0x100
def SYP_AL_DTS0_V (i : Nat) : RF := ⟨0x110018 + i * 0x100, 0, 32⟩
/-- SYP_AL_DTS1 (08_arcade.md R271). -/
def SYP_AL_DTS1 (i : Nat) : Nat := 0x11001c + i * 0x100
def SYP_AL_DTS1_V (i : Nat) : RF := ⟨0x11001c + i * 0x100, 0, 32⟩
/-- SYP_AL_DTS2 (08_arcade.md R271). -/
def SYP_AL_DTS2 (i : Nat) : Nat := 0x110020 + i * 0x100
def SYP_AL_DTS2_V (i : Nat) : RF := ⟨0x110020 + i * 0x100, 0, 32⟩
/-- SYP_AL_ENABLE (08_arcade.md R271). -/
def SYP_AL_ENABLE (i : Nat) : Nat := 0x110024 + i * 0x100
def SYP_AL_ENABLE_V (i : Nat) : RF := ⟨0x110024 + i * 0x100, 0, 32⟩
/-- SYP_AL_TC (08_arcade.md R267). -/
def SYP_AL_TC (i : Nat) : Nat := 0x110030 + i * 0x100
def SYP_AL_TC_TC_SEL (i : Nat) : RF := ⟨0x110030 + i * 0x100, 0, 16⟩
def SYP_AL_TC_TC_VALID (i : Nat) : RF := ⟨0x110030 + i * 0x100, 16, 1⟩
def SYP_AL_TC_OFS_WIN_LOG2 (i : Nat) : RF := ⟨0x110030 + i * 0x100, 17, 4⟩
def SYP_AL_TC_FREQ_N (i : Nat) : RF := ⟨0x110030 + i * 0x100, 21, 6⟩
def SYP_AL_TC_OFS_SLEW (i : Nat) : RF := ⟨0x110030 + i * 0x100, 27, 5⟩
/-- SYP_AL_TC_OFS (08_arcade.md R267). -/
def SYP_AL_TC_OFS (i : Nat) : Nat := 0x110034 + i * 0x100
def SYP_AL_TC_OFS_V (i : Nat) : RF := ⟨0x110034 + i * 0x100, 0, 32⟩
/-- SYP_AL_TC_EPS (08_arcade.md R267). -/
def SYP_AL_TC_EPS (i : Nat) : Nat := 0x110038 + i * 0x100
def SYP_AL_TC_EPS_V (i : Nat) : RF := ⟨0x110038 + i * 0x100, 0, 32⟩
/-- SYP_AL_TC_RTT (08_arcade.md R267). -/
def SYP_AL_TC_RTT (i : Nat) : Nat := 0x11003c + i * 0x100
def SYP_AL_TC_RTT_V (i : Nat) : RF := ⟨0x11003c + i * 0x100, 0, 32⟩
/-- SYP_ARG_CFG (08_arcade.md R253). -/
def SYP_ARG_CFG (i : Nat) : Nat := 0x11c000 + i * 0x40
def SYP_ARG_CFG_ENABLED (i : Nat) : RF := ⟨0x11c000 + i * 0x40, 0, 1⟩
def SYP_ARG_CFG_PLANE (i : Nat) : RF := ⟨0x11c000 + i * 0x40, 1, 1⟩
def SYP_ARG_CFG_LOAD_GBPS (i : Nat) : RF := ⟨0x11c000 + i * 0x40, 2, 11⟩
def SYP_ARG_CFG_UP_LINKS (i : Nat) : RF := ⟨0x11c000 + i * 0x40, 13, 8⟩
def SYP_ARG_CFG_SHORTAGE (i : Nat) : RF := ⟨0x11c000 + i * 0x40, 21, 1⟩
def SYP_ARG_CFG_TC_HOLD (i : Nat) : RF := ⟨0x11c000 + i * 0x40, 22, 1⟩
/-- SYP_ARC_ID (08_arcade.md R247). -/
def SYP_ARC_ID : Nat := 0x11f000
def SYP_ARC_ID_DEVID : RF := ⟨0x11f000, 0, 16⟩
def SYP_ARC_ID_VALID : RF := ⟨0x11f000, 16, 1⟩
/-- PLZ_SLOT_MAP (07_plaza.md R206). -/
def PLZ_SLOT_MAP (i : Nat) : Nat := 0x140000 + i * 0x4
def PLZ_SLOT_MAP_PHYS (i : Nat) : RF := ⟨0x140000 + i * 0x4, 0, 6⟩
def PLZ_SLOT_MAP_PEND (i : Nat) : RF := ⟨0x140000 + i * 0x4, 8, 6⟩
def PLZ_SLOT_MAP_PEND_VALID (i : Nat) : RF := ⟨0x140000 + i * 0x4, 14, 1⟩
def PLZ_SLOT_MAP_FENCED (i : Nat) : RF := ⟨0x140000 + i * 0x4, 15, 1⟩
/-- PLZ_SLICE_SLOT (07_plaza.md R207). -/
def PLZ_SLICE_SLOT (i : Nat) : Nat := 0x140080 + i * 0x4
def PLZ_SLICE_SLOT_SLOT_0 (i : Nat) : RF := ⟨0x140080 + i * 0x4, 0, 5⟩
def PLZ_SLICE_SLOT_USED_0 (i : Nat) : RF := ⟨0x140080 + i * 0x4, 5, 1⟩
def PLZ_SLICE_SLOT_SLOT_1 (i : Nat) : RF := ⟨0x140080 + i * 0x4, 8, 5⟩
def PLZ_SLICE_SLOT_USED_1 (i : Nat) : RF := ⟨0x140080 + i * 0x4, 13, 1⟩
def PLZ_SLICE_SLOT_SLOT_2 (i : Nat) : RF := ⟨0x140080 + i * 0x4, 16, 5⟩
def PLZ_SLICE_SLOT_USED_2 (i : Nat) : RF := ⟨0x140080 + i * 0x4, 21, 1⟩
def PLZ_SLICE_SLOT_SLOT_3 (i : Nat) : RF := ⟨0x140080 + i * 0x4, 24, 5⟩
def PLZ_SLICE_SLOT_USED_3 (i : Nat) : RF := ⟨0x140080 + i * 0x4, 29, 1⟩
/-- PLZ_EPOCH (07_plaza.md R215). -/
def PLZ_EPOCH : Nat := 0x140180
def PLZ_EPOCH_EPOCH_RX : RF := ⟨0x140180, 0, 16⟩
def PLZ_EPOCH_EPOCH_TX : RF := ⟨0x140180, 16, 16⟩
/-- PLZ_EPOCH_RX0 (07_plaza.md R215). -/
def PLZ_EPOCH_RX0 : Nat := 0x140184
def PLZ_EPOCH_RX0_V : RF := ⟨0x140184, 0, 32⟩
/-- PLZ_EPOCH_RX1 (07_plaza.md R215). -/
def PLZ_EPOCH_RX1 : Nat := 0x140188
def PLZ_EPOCH_RX1_V : RF := ⟨0x140188, 0, 32⟩
/-- PLZ_EPOCH_RX2 (07_plaza.md R215). -/
def PLZ_EPOCH_RX2 : Nat := 0x14018c
def PLZ_EPOCH_RX2_V : RF := ⟨0x14018c, 0, 32⟩
/-- PLZ_EPOCH_TX0 (07_plaza.md R215). -/
def PLZ_EPOCH_TX0 : Nat := 0x140190
def PLZ_EPOCH_TX0_V : RF := ⟨0x140190, 0, 32⟩
/-- PLZ_EPOCH_TX1 (07_plaza.md R215). -/
def PLZ_EPOCH_TX1 : Nat := 0x140194
def PLZ_EPOCH_TX1_V : RF := ⟨0x140194, 0, 32⟩
/-- PLZ_EPOCH_TX2 (07_plaza.md R215). -/
def PLZ_EPOCH_TX2 : Nat := 0x140198
def PLZ_EPOCH_TX2_V : RF := ⟨0x140198, 0, 32⟩
/-- PLZ_MAP_USED (07_plaza.md R230). -/
def PLZ_MAP_USED : Nat := 0x1401a0
def PLZ_MAP_USED_USED_RX : RF := ⟨0x1401a0, 0, 15⟩
def PLZ_MAP_USED_USED_TX : RF := ⟨0x1401a0, 16, 15⟩
/-- PLZ_LIVE (07_plaza.md R230). -/
def PLZ_LIVE : Nat := 0x140200
def PLZ_LIVE_MOVE_ACTIVE : RF := ⟨0x140200, 0, 1⟩
def PLZ_LIVE_MOVE_ABORT : RF := ⟨0x140200, 1, 1⟩
def PLZ_LIVE_FAST_SWITCH : RF := ⟨0x140200, 2, 1⟩
def PLZ_LIVE_FENCE_FILL : RF := ⟨0x140200, 3, 1⟩
def PLZ_LIVE_ECC_CORR : RF := ⟨0x140200, 4, 1⟩
def PLZ_LIVE_ECC_UNCORR : RF := ⟨0x140200, 5, 1⟩
/-- PLZ_STATUS (07_plaza.md R230). -/
def PLZ_STATUS : Nat := 0x140204
def PLZ_STATUS_BITS : RF := ⟨0x140204, 0, 32⟩
/-- PLZ_DTS0 (07_plaza.md R230). -/
def PLZ_DTS0 : Nat := 0x140208
def PLZ_DTS0_V : RF := ⟨0x140208, 0, 32⟩
/-- PLZ_DTS1 (07_plaza.md R230). -/
def PLZ_DTS1 : Nat := 0x14020c
def PLZ_DTS1_V : RF := ⟨0x14020c, 0, 32⟩
/-- PLZ_DTS2 (07_plaza.md R230). -/
def PLZ_DTS2 : Nat := 0x140210
def PLZ_DTS2_V : RF := ⟨0x140210, 0, 32⟩
/-- PLZ_ENABLE (07_plaza.md R230). -/
def PLZ_ENABLE : Nat := 0x140214
def PLZ_ENABLE_V : RF := ⟨0x140214, 0, 32⟩
/-- UND_CFG (09_underpass.md R297). -/
def UND_CFG : Nat := 0x180000
def UND_CFG_RETIRE_CE : RF := ⟨0x180000, 0, 8⟩
def UND_CFG_PCFAIL_UE : RF := ⟨0x180000, 8, 8⟩
/-- UND_STACK (09_underpass.md R297). -/
def UND_STACK (i : Nat) : Nat := 0x180010 + i * 0x4
def UND_STACK_TRAINED (i : Nat) : RF := ⟨0x180010 + i * 0x4, 0, 1⟩
def UND_STACK_FAILED (i : Nat) : RF := ⟨0x180010 + i * 0x4, 1, 1⟩
def UND_STACK_HOT_REFRESH (i : Nat) : RF := ⟨0x180010 + i * 0x4, 2, 1⟩
def UND_STACK_TEMP_C (i : Nat) : RF := ⟨0x180010 + i * 0x4, 3, 8⟩
def UND_STACK_PC_WORKING (i : Nat) : RF := ⟨0x180010 + i * 0x4, 11, 6⟩
/-- UND_PC_FAIL (09_underpass.md R281). -/
def UND_PC_FAIL (i : Nat) : Nat := 0x180020 + i * 0x4
def UND_PC_FAIL_V (i : Nat) : RF := ⟨0x180020 + i * 0x4, 0, 32⟩
/-- UND_CEIL (09_underpass.md R284). -/
def UND_CEIL : Nat := 0x180030
def UND_CEIL_CEIL_GBPS : RF := ⟨0x180030, 0, 16⟩
def UND_CEIL_RSV_GBPS : RF := ⟨0x180030, 16, 16⟩
/-- UND_PAGES (09_underpass.md R274). -/
def UND_PAGES : Nat := 0x180034
def UND_PAGES_FREE_PAGES : RF := ⟨0x180034, 0, 16⟩
def UND_PAGES_RETIRED : RF := ⟨0x180034, 16, 16⟩
/-- UND_RSV_BW (09_underpass.md R285). -/
def UND_RSV_BW (i : Nat) : Nat := 0x180100 + i * 0x8
def UND_RSV_BW_BW_GBPS (i : Nat) : RF := ⟨0x180100 + i * 0x8, 0, 16⟩
def UND_RSV_BW_CLASS (i : Nat) : RF := ⟨0x180100 + i * 0x8, 16, 2⟩
def UND_RSV_BW_BROKEN (i : Nat) : RF := ⟨0x180100 + i * 0x8, 18, 1⟩
/-- UND_RSV_PG (09_underpass.md R285). -/
def UND_RSV_PG (i : Nat) : Nat := 0x180104 + i * 0x8
def UND_RSV_PG_PAGES (i : Nat) : RF := ⟨0x180104 + i * 0x8, 0, 16⟩
/-- UND_LIVE (09_underpass.md R297). -/
def UND_LIVE : Nat := 0x180200
def UND_LIVE_ECC_CORR : RF := ⟨0x180200, 0, 1⟩
def UND_LIVE_ECC_UNCORR : RF := ⟨0x180200, 1, 1⟩
def UND_LIVE_PAGE_RETIRED : RF := ⟨0x180200, 2, 1⟩
def UND_LIVE_NO_SPARE_PAGE : RF := ⟨0x180200, 3, 1⟩
def UND_LIVE_PC_FAIL : RF := ⟨0x180200, 4, 1⟩
def UND_LIVE_SHORTAGE : RF := ⟨0x180200, 5, 1⟩
def UND_LIVE_STACK_FAIL : RF := ⟨0x180200, 6, 1⟩
/-- UND_STATUS (09_underpass.md R297). -/
def UND_STATUS : Nat := 0x180204
def UND_STATUS_BITS : RF := ⟨0x180204, 0, 32⟩
/-- UND_DTS0 (09_underpass.md R297). -/
def UND_DTS0 : Nat := 0x180208
def UND_DTS0_V : RF := ⟨0x180208, 0, 32⟩
/-- UND_DTS1 (09_underpass.md R297). -/
def UND_DTS1 : Nat := 0x18020c
def UND_DTS1_V : RF := ⟨0x18020c, 0, 32⟩
/-- UND_DTS2 (09_underpass.md R297). -/
def UND_DTS2 : Nat := 0x180210
def UND_DTS2_V : RF := ⟨0x180210, 0, 32⟩
/-- UND_ENABLE (09_underpass.md R297). -/
def UND_ENABLE : Nat := 0x180214
def UND_ENABLE_V : RF := ⟨0x180214, 0, 32⟩
/-- UND_UE_ADDR (09_underpass.md R279). -/
def UND_UE_ADDR : Nat := 0x180400
def UND_UE_ADDR_PAGE : RF := ⟨0x180400, 0, 16⟩
def UND_UE_ADDR_UNIT : RF := ⟨0x180400, 16, 13⟩
/-- UND_UE_USE (09_underpass.md R279). -/
def UND_UE_USE : Nat := 0x180404
def UND_UE_USE_ROW : RF := ⟨0x180404, 0, 4⟩
def UND_UE_USE_POISON : RF := ⟨0x180404, 4, 1⟩
/-- UND_UE_DTS0 (09_underpass.md R279). -/
def UND_UE_DTS0 : Nat := 0x180408
def UND_UE_DTS0_V : RF := ⟨0x180408, 0, 32⟩
/-- UND_UE_DTS1 (09_underpass.md R279). -/
def UND_UE_DTS1 : Nat := 0x18040c
def UND_UE_DTS1_V : RF := ⟨0x18040c, 0, 32⟩
/-- UND_UE_DTS2 (09_underpass.md R279). -/
def UND_UE_DTS2 : Nat := 0x180410
def UND_UE_DTS2_V : RF := ⟨0x180410, 0, 32⟩
/-- QUE_CFG (12_queues_side_street.md R384). -/
def QUE_CFG : Nat := 0x1c0000
def QUE_CFG_HOST_STALL_US : RF := ⟨0x1c0000, 0, 6⟩
/-- QUE_LIVE (12_queues_side_street.md R398). -/
def QUE_LIVE : Nat := 0x1c0010
def QUE_LIVE_GRP_EVENT : RF := ⟨0x1c0010, 0, 1⟩
def QUE_LIVE_SS0_DOWN : RF := ⟨0x1c0010, 1, 1⟩
def QUE_LIVE_SS1_DOWN : RF := ⟨0x1c0010, 2, 1⟩
def QUE_LIVE_XOFF_IN_FAULT : RF := ⟨0x1c0010, 3, 1⟩
def QUE_LIVE_SLOT_VIOL : RF := ⟨0x1c0010, 4, 1⟩
/-- QUE_STATUS (12_queues_side_street.md R398). -/
def QUE_STATUS : Nat := 0x1c0014
def QUE_STATUS_BITS : RF := ⟨0x1c0014, 0, 32⟩
/-- QUE_DTS0 (12_queues_side_street.md R398). -/
def QUE_DTS0 : Nat := 0x1c0018
def QUE_DTS0_V : RF := ⟨0x1c0018, 0, 32⟩
/-- QUE_DTS1 (12_queues_side_street.md R398). -/
def QUE_DTS1 : Nat := 0x1c001c
def QUE_DTS1_V : RF := ⟨0x1c001c, 0, 32⟩
/-- QUE_DTS2 (12_queues_side_street.md R398). -/
def QUE_DTS2 : Nat := 0x1c0020
def QUE_DTS2_V : RF := ⟨0x1c0020, 0, 32⟩
/-- QUE_ENABLE (12_queues_side_street.md R398). -/
def QUE_ENABLE : Nat := 0x1c0024
def QUE_ENABLE_V : RF := ⟨0x1c0024, 0, 32⟩
/-- QUE_GRP_SUM (12_queues_side_street.md R398). -/
def QUE_GRP_SUM (i : Nat) : Nat := 0x1c0040 + i * 0x4
def QUE_GRP_SUM_V (i : Nat) : RF := ⟨0x1c0040 + i * 0x4, 0, 32⟩
/-- QUE_SLOT_MAP (12_queues_side_street.md R382). -/
def QUE_SLOT_MAP (i : Nat) : Nat := 0x1c0100 + i * 0x4
def QUE_SLOT_MAP_QUEUE (i : Nat) : RF := ⟨0x1c0100 + i * 0x4, 0, 12⟩
def QUE_SLOT_MAP_BOUND (i : Nat) : RF := ⟨0x1c0100 + i * 0x4, 12, 1⟩
/-- QUE_PUSH_MAP (12_queues_side_street.md R382). -/
def QUE_PUSH_MAP (i : Nat) : Nat := 0x1c0500 + i * 0x4
def QUE_PUSH_MAP_QUEUE (i : Nat) : RF := ⟨0x1c0500 + i * 0x4, 0, 12⟩
def QUE_PUSH_MAP_BOUND (i : Nat) : RF := ⟨0x1c0500 + i * 0x4, 12, 1⟩
/-- QUE_GRP_CFG (12_queues_side_street.md R387). -/
def QUE_GRP_CFG (i : Nat) : Nat := 0x1c1000 + i * 0x40
def QUE_GRP_CFG_CLASS (i : Nat) : RF := ⟨0x1c1000 + i * 0x40, 0, 2⟩
def QUE_GRP_CFG_SS_PRIO (i : Nat) : RF := ⟨0x1c1000 + i * 0x40, 2, 3⟩
def QUE_GRP_CFG_XOFF_OUT_SEL (i : Nat) : RF := ⟨0x1c1000 + i * 0x40, 5, 4⟩
def QUE_GRP_CFG_XOFF_OUT_EN (i : Nat) : RF := ⟨0x1c1000 + i * 0x40, 9, 1⟩
def QUE_GRP_CFG_XOFF_IN_SEL (i : Nat) : RF := ⟨0x1c1000 + i * 0x40, 10, 4⟩
def QUE_GRP_CFG_XOFF_IN_EN (i : Nat) : RF := ⟨0x1c1000 + i * 0x40, 14, 1⟩
def QUE_GRP_CFG_WM_EN (i : Nat) : RF := ⟨0x1c1000 + i * 0x40, 15, 1⟩
/-- QUE_GRP_HIGH (12_queues_side_street.md R387). -/
def QUE_GRP_HIGH (i : Nat) : Nat := 0x1c1004 + i * 0x40
def QUE_GRP_HIGH_V (i : Nat) : RF := ⟨0x1c1004 + i * 0x40, 0, 32⟩
/-- QUE_GRP_LOW (12_queues_side_street.md R387). -/
def QUE_GRP_LOW (i : Nat) : Nat := 0x1c1008 + i * 0x40
def QUE_GRP_LOW_V (i : Nat) : RF := ⟨0x1c1008 + i * 0x40, 0, 32⟩
/-- QUE_GRP_DEPTH (12_queues_side_street.md R387). -/
def QUE_GRP_DEPTH (i : Nat) : Nat := 0x1c100c + i * 0x40
def QUE_GRP_DEPTH_V (i : Nat) : RF := ⟨0x1c100c + i * 0x40, 0, 32⟩
/-- QUE_GRP_LIVE (12_queues_side_street.md R389). -/
def QUE_GRP_LIVE (i : Nat) : Nat := 0x1c1010 + i * 0x40
def QUE_GRP_LIVE_XOFF (i : Nat) : RF := ⟨0x1c1010 + i * 0x40, 0, 1⟩
def QUE_GRP_LIVE_LOW_CROSS (i : Nat) : RF := ⟨0x1c1010 + i * 0x40, 1, 1⟩
def QUE_GRP_LIVE_MARKER (i : Nat) : RF := ⟨0x1c1010 + i * 0x40, 2, 1⟩
def QUE_GRP_LIVE_SPILL_FULL (i : Nat) : RF := ⟨0x1c1010 + i * 0x40, 3, 1⟩
/-- QUE_GRP_STATUS (12_queues_side_street.md R389). -/
def QUE_GRP_STATUS (i : Nat) : Nat := 0x1c1014 + i * 0x40
def QUE_GRP_STATUS_BITS (i : Nat) : RF := ⟨0x1c1014 + i * 0x40, 0, 32⟩
/-- QUE_GRP_DTS0 (12_queues_side_street.md R389). -/
def QUE_GRP_DTS0 (i : Nat) : Nat := 0x1c1018 + i * 0x40
def QUE_GRP_DTS0_V (i : Nat) : RF := ⟨0x1c1018 + i * 0x40, 0, 32⟩
/-- QUE_GRP_DTS1 (12_queues_side_street.md R389). -/
def QUE_GRP_DTS1 (i : Nat) : Nat := 0x1c101c + i * 0x40
def QUE_GRP_DTS1_V (i : Nat) : RF := ⟨0x1c101c + i * 0x40, 0, 32⟩
/-- QUE_GRP_DTS2 (12_queues_side_street.md R389). -/
def QUE_GRP_DTS2 (i : Nat) : Nat := 0x1c1020 + i * 0x40
def QUE_GRP_DTS2_V (i : Nat) : RF := ⟨0x1c1020 + i * 0x40, 0, 32⟩
/-- QUE_GRP_ENABLE (12_queues_side_street.md R389). -/
def QUE_GRP_ENABLE (i : Nat) : Nat := 0x1c1024 + i * 0x40
def QUE_GRP_ENABLE_V (i : Nat) : RF := ⟨0x1c1024 + i * 0x40, 0, 32⟩
/-- QUE_XOFF_OUT_CFG (12_queues_side_street.md R388). -/
def QUE_XOFF_OUT_CFG : Nat := 0x1ce000
def QUE_XOFF_OUT_CFG_POL : RF := ⟨0x1ce000, 0, 16⟩
def QUE_XOFF_OUT_CFG_MIN_HOLD : RF := ⟨0x1ce000, 16, 10⟩
/-- QUE_XOFF_STAT (12_queues_side_street.md R388). -/
def QUE_XOFF_STAT : Nat := 0x1ce004
def QUE_XOFF_STAT_OUT_LEVEL : RF := ⟨0x1ce004, 0, 16⟩
def QUE_XOFF_STAT_IN_LEVEL : RF := ⟨0x1ce004, 16, 16⟩
/-- QUE_XOFF_IN_CFG (12_queues_side_street.md R394). -/
def QUE_XOFF_IN_CFG : Nat := 0x1ce008
def QUE_XOFF_IN_CFG_POL : RF := ⟨0x1ce008, 0, 16⟩
def QUE_XOFF_IN_CFG_FAULT : RF := ⟨0x1ce008, 16, 16⟩
/-- QUE_SS_CFG (12_queues_side_street.md R390). -/
def QUE_SS_CFG (i : Nat) : Nat := 0x1cd000 + i * 0x100
def QUE_SS_CFG_EN (i : Nat) : RF := ⟨0x1cd000 + i * 0x100, 0, 1⟩
def QUE_SS_CFG_RSFEC (i : Nat) : RF := ⟨0x1cd000 + i * 0x100, 1, 1⟩
def QUE_SS_CFG_VLAN_EN (i : Nat) : RF := ⟨0x1cd000 + i * 0x100, 2, 1⟩
def QUE_SS_CFG_VID (i : Nat) : RF := ⟨0x1cd000 + i * 0x100, 3, 12⟩
def QUE_SS_CFG_PCP (i : Nat) : RF := ⟨0x1cd000 + i * 0x100, 15, 3⟩
/-- QUE_SS_FRAME (12_queues_side_street.md R391). -/
def QUE_SS_FRAME (i : Nat) : Nat := 0x1cd004 + i * 0x100
def QUE_SS_FRAME_ETYPE (i : Nat) : RF := ⟨0x1cd004 + i * 0x100, 0, 16⟩
def QUE_SS_FRAME_FRAG_MAX (i : Nat) : RF := ⟨0x1cd004 + i * 0x100, 16, 14⟩
/-- QUE_SS_BATCH (12_queues_side_street.md R393). -/
def QUE_SS_BATCH (i : Nat) : Nat := 0x1cd008 + i * 0x100
def QUE_SS_BATCH_BATCH_NS (i : Nat) : RF := ⟨0x1cd008 + i * 0x100, 0, 12⟩
/-- QUE_SS_SRC_LO (12_queues_side_street.md R396). -/
def QUE_SS_SRC_LO (i : Nat) : Nat := 0x1cd010 + i * 0x100
def QUE_SS_SRC_LO_V (i : Nat) : RF := ⟨0x1cd010 + i * 0x100, 0, 32⟩
/-- QUE_SS_SRC_HI (12_queues_side_street.md R396). -/
def QUE_SS_SRC_HI (i : Nat) : Nat := 0x1cd014 + i * 0x100
def QUE_SS_SRC_HI_V (i : Nat) : RF := ⟨0x1cd014 + i * 0x100, 0, 16⟩
/-- QUE_SS_DST_LO (12_queues_side_street.md R391). -/
def QUE_SS_DST_LO (i : Nat) : Nat := 0x1cd018 + i * 0x100
def QUE_SS_DST_LO_V (i : Nat) : RF := ⟨0x1cd018 + i * 0x100, 0, 32⟩
/-- QUE_SS_DST_HI (12_queues_side_street.md R391). -/
def QUE_SS_DST_HI (i : Nat) : Nat := 0x1cd01c + i * 0x100
def QUE_SS_DST_HI_V (i : Nat) : RF := ⟨0x1cd01c + i * 0x100, 0, 16⟩
/-- QUE_SS_LIVE (12_queues_side_street.md R398). -/
def QUE_SS_LIVE (i : Nat) : Nat := 0x1cd020 + i * 0x100
def QUE_SS_LIVE_LINK_DOWN (i : Nat) : RF := ⟨0x1cd020 + i * 0x100, 0, 1⟩
def QUE_SS_LIVE_RX_DROP (i : Nat) : RF := ⟨0x1cd020 + i * 0x100, 1, 1⟩
def QUE_SS_LIVE_FCS_ERR (i : Nat) : RF := ⟨0x1cd020 + i * 0x100, 2, 1⟩
def QUE_SS_LIVE_PAUSED (i : Nat) : RF := ⟨0x1cd020 + i * 0x100, 3, 1⟩
def QUE_SS_LIVE_CTRL_RX (i : Nat) : RF := ⟨0x1cd020 + i * 0x100, 4, 1⟩
/-- QUE_SS_STATUS (12_queues_side_street.md R398). -/
def QUE_SS_STATUS (i : Nat) : Nat := 0x1cd024 + i * 0x100
def QUE_SS_STATUS_BITS (i : Nat) : RF := ⟨0x1cd024 + i * 0x100, 0, 32⟩
/-- QUE_SS_DTS0 (12_queues_side_street.md R398). -/
def QUE_SS_DTS0 (i : Nat) : Nat := 0x1cd028 + i * 0x100
def QUE_SS_DTS0_V (i : Nat) : RF := ⟨0x1cd028 + i * 0x100, 0, 32⟩
/-- QUE_SS_DTS1 (12_queues_side_street.md R398). -/
def QUE_SS_DTS1 (i : Nat) : Nat := 0x1cd02c + i * 0x100
def QUE_SS_DTS1_V (i : Nat) : RF := ⟨0x1cd02c + i * 0x100, 0, 32⟩
/-- QUE_SS_DTS2 (12_queues_side_street.md R398). -/
def QUE_SS_DTS2 (i : Nat) : Nat := 0x1cd030 + i * 0x100
def QUE_SS_DTS2_V (i : Nat) : RF := ⟨0x1cd030 + i * 0x100, 0, 32⟩
/-- QUE_SS_ENABLE (12_queues_side_street.md R398). -/
def QUE_SS_ENABLE (i : Nat) : Nat := 0x1cd034 + i * 0x100
def QUE_SS_ENABLE_V (i : Nat) : RF := ⟨0x1cd034 + i * 0x100, 0, 32⟩
/-- OAP_CFG (13_overhead_access_ports.md R420). -/
def OAP_CFG (i : Nat) : Nat := 0x200000 + i * 0x100
def OAP_CFG_EN (i : Nat) : RF := ⟨0x200000 + i * 0x100, 0, 1⟩
def OAP_CFG_DROP_EN (i : Nat) : RF := ⟨0x200000 + i * 0x100, 1, 1⟩
def OAP_CFG_INS_EN (i : Nat) : RF := ⟨0x200000 + i * 0x100, 2, 1⟩
def OAP_CFG_CLK_POL (i : Nat) : RF := ⟨0x200000 + i * 0x100, 3, 1⟩
def OAP_CFG_FS_POL (i : Nat) : RF := ⟨0x200000 + i * 0x100, 4, 1⟩
def OAP_CFG_START_ARM (i : Nat) : RF := ⟨0x200000 + i * 0x100, 5, 1⟩
def OAP_CFG_SLOTS_M1 (i : Nat) : RF := ⟨0x200000 + i * 0x100, 6, 10⟩
/-- OAP_SRC (13_overhead_access_ports.md R420). -/
def OAP_SRC (i : Nat) : Nat := 0x200004 + i * 0x100
def OAP_SRC_ENTRY (i : Nat) : RF := ⟨0x200004 + i * 0x100, 0, 16⟩
/-- OAP_DROP_MASK_LO (13_overhead_access_ports.md R403). -/
def OAP_DROP_MASK_LO (i : Nat) : Nat := 0x200008 + i * 0x100
def OAP_DROP_MASK_LO_V (i : Nat) : RF := ⟨0x200008 + i * 0x100, 0, 32⟩
/-- OAP_DROP_MASK_HI (13_overhead_access_ports.md R403). -/
def OAP_DROP_MASK_HI (i : Nat) : Nat := 0x20000c + i * 0x100
def OAP_DROP_MASK_HI_V (i : Nat) : RF := ⟨0x20000c + i * 0x100, 0, 32⟩
/-- OAP_INS_MASK_LO (13_overhead_access_ports.md R403). -/
def OAP_INS_MASK_LO (i : Nat) : Nat := 0x200010 + i * 0x100
def OAP_INS_MASK_LO_V (i : Nat) : RF := ⟨0x200010 + i * 0x100, 0, 32⟩
/-- OAP_INS_MASK_HI (13_overhead_access_ports.md R403). -/
def OAP_INS_MASK_HI (i : Nat) : Nat := 0x200014 + i * 0x100
def OAP_INS_MASK_HI_V (i : Nat) : RF := ⟨0x200014 + i * 0x100, 0, 32⟩
/-- OAP_STAT (13_overhead_access_ports.md R420). -/
def OAP_STAT (i : Nat) : Nat := 0x200018 + i * 0x100
def OAP_STAT_STATE (i : Nat) : RF := ⟨0x200018 + i * 0x100, 0, 3⟩
def OAP_STAT_DROP_FIFO (i : Nat) : RF := ⟨0x200018 + i * 0x100, 3, 5⟩
def OAP_STAT_INS_FIFO (i : Nat) : RF := ⟨0x200018 + i * 0x100, 8, 5⟩
def OAP_STAT_K_DROP (i : Nat) : RF := ⟨0x200018 + i * 0x100, 13, 7⟩
def OAP_STAT_K_INS (i : Nat) : RF := ⟨0x200018 + i * 0x100, 20, 7⟩
/-- OAP_RATIO (13_overhead_access_ports.md R407). -/
def OAP_RATIO (i : Nat) : Nat := 0x20001c + i * 0x100
def OAP_RATIO_V (i : Nat) : RF := ⟨0x20001c + i * 0x100, 0, 16⟩
/-- OAP_LIVE (13_overhead_access_ports.md R420). -/
def OAP_LIVE (i : Nat) : Nat := 0x200020 + i * 0x100
def OAP_LIVE_CLK_LOST (i : Nat) : RF := ⟨0x200020 + i * 0x100, 0, 1⟩
def OAP_LIVE_RATIO_OOR (i : Nat) : RF := ⟨0x200020 + i * 0x100, 1, 1⟩
def OAP_LIVE_FS_ERR (i : Nat) : RF := ⟨0x200020 + i * 0x100, 2, 1⟩
def OAP_LIVE_INS_UNDERRUN (i : Nat) : RF := ⟨0x200020 + i * 0x100, 3, 1⟩
def OAP_LIVE_INS_LATE (i : Nat) : RF := ⟨0x200020 + i * 0x100, 4, 1⟩
def OAP_LIVE_STARTED (i : Nat) : RF := ⟨0x200020 + i * 0x100, 5, 1⟩
/-- OAP_STATUS (13_overhead_access_ports.md R420). -/
def OAP_STATUS (i : Nat) : Nat := 0x200024 + i * 0x100
def OAP_STATUS_BITS (i : Nat) : RF := ⟨0x200024 + i * 0x100, 0, 32⟩
/-- OAP_DTS0 (13_overhead_access_ports.md R420). -/
def OAP_DTS0 (i : Nat) : Nat := 0x200028 + i * 0x100
def OAP_DTS0_V (i : Nat) : RF := ⟨0x200028 + i * 0x100, 0, 32⟩
/-- OAP_DTS1 (13_overhead_access_ports.md R420). -/
def OAP_DTS1 (i : Nat) : Nat := 0x20002c + i * 0x100
def OAP_DTS1_V (i : Nat) : RF := ⟨0x20002c + i * 0x100, 0, 32⟩
/-- OAP_DTS2 (13_overhead_access_ports.md R420). -/
def OAP_DTS2 (i : Nat) : Nat := 0x200030 + i * 0x100
def OAP_DTS2_V (i : Nat) : RF := ⟨0x200030 + i * 0x100, 0, 32⟩
/-- OAP_ENABLE (13_overhead_access_ports.md R420). -/
def OAP_ENABLE (i : Nat) : Nat := 0x200034 + i * 0x100
def OAP_ENABLE_V (i : Nat) : RF := ⟨0x200034 + i * 0x100, 0, 32⟩
/-- OAP_START (13_overhead_access_ports.md R414). -/
def OAP_START : Nat := 0x200800
def OAP_START_GROUP : RF := ⟨0x200800, 0, 6⟩
def OAP_START_PIN_EN : RF := ⟨0x200800, 6, 1⟩
def OAP_START_GO : RF := ⟨0x200800, 7, 1⟩
def OAP_START_PENDING : RF := ⟨0x200800, 8, 1⟩
/-- OAP_START_DTS0 (13_overhead_access_ports.md R414). -/
def OAP_START_DTS0 : Nat := 0x200804
def OAP_START_DTS0_V : RF := ⟨0x200804, 0, 32⟩
/-- OAP_START_DTS1 (13_overhead_access_ports.md R414). -/
def OAP_START_DTS1 : Nat := 0x200808
def OAP_START_DTS1_V : RF := ⟨0x200808, 0, 32⟩
/-- OAP_START_DTS2 (13_overhead_access_ports.md R414). -/
def OAP_START_DTS2 : Nat := 0x20080c
def OAP_START_DTS2_V : RF := ⟨0x20080c, 0, 32⟩
/-- CVU_CFG (15_check_value_units.md R460). -/
def CVU_CFG (i : Nat) : Nat := 0x240000 + i * 0x100
def CVU_CFG_EN (i : Nat) : RF := ⟨0x240000 + i * 0x100, 0, 1⟩
def CVU_CFG_WIDTH_M1 (i : Nat) : RF := ⟨0x240000 + i * 0x100, 1, 6⟩
def CVU_CFG_REFIN (i : Nat) : RF := ⟨0x240000 + i * 0x100, 7, 1⟩
def CVU_CFG_REFOUT (i : Nat) : RF := ⟨0x240000 + i * 0x100, 8, 1⟩
def CVU_CFG_FRAMING (i : Nat) : RF := ⟨0x240000 + i * 0x100, 9, 2⟩
def CVU_CFG_EXP_SRC (i : Nat) : RF := ⟨0x240000 + i * 0x100, 11, 2⟩
def CVU_CFG_TRAIL_LE (i : Nat) : RF := ⟨0x240000 + i * 0x100, 13, 1⟩
def CVU_CFG_TRAIL_GUARD (i : Nat) : RF := ⟨0x240000 + i * 0x100, 14, 1⟩
def CVU_CFG_FREEZE (i : Nat) : RF := ⟨0x240000 + i * 0x100, 15, 1⟩
def CVU_CFG_BLK_LEN_M1 (i : Nat) : RF := ⟨0x240000 + i * 0x100, 16, 16⟩
/-- CVU_TAP (15_check_value_units.md R453). -/
def CVU_TAP (i : Nat) : Nat := 0x240004 + i * 0x100
def CVU_TAP_TAP (i : Nat) : RF := ⟨0x240004 + i * 0x100, 0, 4⟩
def CVU_TAP_DIR (i : Nat) : RF := ⟨0x240004 + i * 0x100, 4, 1⟩
def CVU_TAP_SEL (i : Nat) : RF := ⟨0x240004 + i * 0x100, 5, 16⟩
/-- CVU_POLY_LO (15_check_value_units.md R460). -/
def CVU_POLY_LO (i : Nat) : Nat := 0x240008 + i * 0x100
def CVU_POLY_LO_V (i : Nat) : RF := ⟨0x240008 + i * 0x100, 0, 32⟩
/-- CVU_POLY_HI (15_check_value_units.md R460). -/
def CVU_POLY_HI (i : Nat) : Nat := 0x24000c + i * 0x100
def CVU_POLY_HI_V (i : Nat) : RF := ⟨0x24000c + i * 0x100, 0, 32⟩
/-- CVU_INIT_LO (15_check_value_units.md R460). -/
def CVU_INIT_LO (i : Nat) : Nat := 0x240010 + i * 0x100
def CVU_INIT_LO_V (i : Nat) : RF := ⟨0x240010 + i * 0x100, 0, 32⟩
/-- CVU_INIT_HI (15_check_value_units.md R460). -/
def CVU_INIT_HI (i : Nat) : Nat := 0x240014 + i * 0x100
def CVU_INIT_HI_V (i : Nat) : RF := ⟨0x240014 + i * 0x100, 0, 32⟩
/-- CVU_XOROUT_LO (15_check_value_units.md R460). -/
def CVU_XOROUT_LO (i : Nat) : Nat := 0x240018 + i * 0x100
def CVU_XOROUT_LO_V (i : Nat) : RF := ⟨0x240018 + i * 0x100, 0, 32⟩
/-- CVU_XOROUT_HI (15_check_value_units.md R460). -/
def CVU_XOROUT_HI (i : Nat) : Nat := 0x24001c + i * 0x100
def CVU_XOROUT_HI_V (i : Nat) : RF := ⟨0x24001c + i * 0x100, 0, 32⟩
/-- CVU_EXP_LO (15_check_value_units.md R457). -/
def CVU_EXP_LO (i : Nat) : Nat := 0x240020 + i * 0x100
def CVU_EXP_LO_V (i : Nat) : RF := ⟨0x240020 + i * 0x100, 0, 32⟩
/-- CVU_EXP_HI (15_check_value_units.md R457). -/
def CVU_EXP_HI (i : Nat) : Nat := 0x240024 + i * 0x100
def CVU_EXP_HI_V (i : Nat) : RF := ⟨0x240024 + i * 0x100, 0, 32⟩
/-- CVU_EXP_GUARD (15_check_value_units.md R457). -/
def CVU_EXP_GUARD (i : Nat) : Nat := 0x240028 + i * 0x100
def CVU_EXP_GUARD_V (i : Nat) : RF := ⟨0x240028 + i * 0x100, 0, 8⟩
/-- CVU_FIFO_LO (15_check_value_units.md R457). -/
def CVU_FIFO_LO (i : Nat) : Nat := 0x240030 + i * 0x100
def CVU_FIFO_LO_V (i : Nat) : RF := ⟨0x240030 + i * 0x100, 0, 32⟩
/-- CVU_FIFO_HI (15_check_value_units.md R457). -/
def CVU_FIFO_HI (i : Nat) : Nat := 0x240034 + i * 0x100
def CVU_FIFO_HI_V (i : Nat) : RF := ⟨0x240034 + i * 0x100, 0, 32⟩
/-- CVU_FIFO_GUARD (15_check_value_units.md R457). -/
def CVU_FIFO_GUARD (i : Nat) : Nat := 0x240038 + i * 0x100
def CVU_FIFO_GUARD_V (i : Nat) : RF := ⟨0x240038 + i * 0x100, 0, 8⟩
/-- CVU_RESULT_LO (15_check_value_units.md R460). -/
def CVU_RESULT_LO (i : Nat) : Nat := 0x240040 + i * 0x100
def CVU_RESULT_LO_V (i : Nat) : RF := ⟨0x240040 + i * 0x100, 0, 32⟩
/-- CVU_RESULT_HI (15_check_value_units.md R460). -/
def CVU_RESULT_HI (i : Nat) : Nat := 0x240044 + i * 0x100
def CVU_RESULT_HI_V (i : Nat) : RF := ⟨0x240044 + i * 0x100, 0, 32⟩
/-- CVU_MM_RESULT_LO (15_check_value_units.md R460). -/
def CVU_MM_RESULT_LO (i : Nat) : Nat := 0x240048 + i * 0x100
def CVU_MM_RESULT_LO_V (i : Nat) : RF := ⟨0x240048 + i * 0x100, 0, 32⟩
/-- CVU_MM_RESULT_HI (15_check_value_units.md R460). -/
def CVU_MM_RESULT_HI (i : Nat) : Nat := 0x24004c + i * 0x100
def CVU_MM_RESULT_HI_V (i : Nat) : RF := ⟨0x24004c + i * 0x100, 0, 32⟩
/-- CVU_MM_EXP_LO (15_check_value_units.md R460). -/
def CVU_MM_EXP_LO (i : Nat) : Nat := 0x240050 + i * 0x100
def CVU_MM_EXP_LO_V (i : Nat) : RF := ⟨0x240050 + i * 0x100, 0, 32⟩
/-- CVU_MM_EXP_HI (15_check_value_units.md R460). -/
def CVU_MM_EXP_HI (i : Nat) : Nat := 0x240054 + i * 0x100
def CVU_MM_EXP_HI_V (i : Nat) : RF := ⟨0x240054 + i * 0x100, 0, 32⟩
/-- CVU_CHECK_LO (15_check_value_units.md R460). -/
def CVU_CHECK_LO (i : Nat) : Nat := 0x240068 + i * 0x100
def CVU_CHECK_LO_V (i : Nat) : RF := ⟨0x240068 + i * 0x100, 0, 32⟩
/-- CVU_CHECK_HI (15_check_value_units.md R460). -/
def CVU_CHECK_HI (i : Nat) : Nat := 0x24006c + i * 0x100
def CVU_CHECK_HI_V (i : Nat) : RF := ⟨0x24006c + i * 0x100, 0, 32⟩
/-- CVU_MM_DTS0 (15_check_value_units.md R460). -/
def CVU_MM_DTS0 (i : Nat) : Nat := 0x240058 + i * 0x100
def CVU_MM_DTS0_V (i : Nat) : RF := ⟨0x240058 + i * 0x100, 0, 32⟩
/-- CVU_MM_DTS1 (15_check_value_units.md R460). -/
def CVU_MM_DTS1 (i : Nat) : Nat := 0x24005c + i * 0x100
def CVU_MM_DTS1_V (i : Nat) : RF := ⟨0x24005c + i * 0x100, 0, 32⟩
/-- CVU_MM_DTS2 (15_check_value_units.md R460). -/
def CVU_MM_DTS2 (i : Nat) : Nat := 0x240060 + i * 0x100
def CVU_MM_DTS2_V (i : Nat) : RF := ⟨0x240060 + i * 0x100, 0, 32⟩
/-- CVU_MM_INDEX (15_check_value_units.md R460). -/
def CVU_MM_INDEX (i : Nat) : Nat := 0x240064 + i * 0x100
def CVU_MM_INDEX_V (i : Nat) : RF := ⟨0x240064 + i * 0x100, 0, 32⟩
/-- CVU_CMD (15_check_value_units.md R459). -/
def CVU_CMD (i : Nat) : Nat := 0x240070 + i * 0x100
def CVU_CMD_V (i : Nat) : RF := ⟨0x240070 + i * 0x100, 0, 2⟩
/-- CVU_FIFO_LEVEL (15_check_value_units.md R460). -/
def CVU_FIFO_LEVEL (i : Nat) : Nat := 0x240074 + i * 0x100
def CVU_FIFO_LEVEL_V (i : Nat) : RF := ⟨0x240074 + i * 0x100, 0, 5⟩
/-- CVU_LIVE (15_check_value_units.md R460). -/
def CVU_LIVE (i : Nat) : Nat := 0x240080 + i * 0x100
def CVU_LIVE_MISMATCH (i : Nat) : RF := ⟨0x240080 + i * 0x100, 0, 1⟩
def CVU_LIVE_EXPECT_CORRUPT (i : Nat) : RF := ⟨0x240080 + i * 0x100, 1, 1⟩
def CVU_LIVE_NO_EXPECT (i : Nat) : RF := ⟨0x240080 + i * 0x100, 2, 1⟩
def CVU_LIVE_FIFO_EMPTY (i : Nat) : RF := ⟨0x240080 + i * 0x100, 3, 1⟩
def CVU_LIVE_FROZEN (i : Nat) : RF := ⟨0x240080 + i * 0x100, 4, 1⟩
/-- CVU_STATUS (15_check_value_units.md R460). -/
def CVU_STATUS (i : Nat) : Nat := 0x240084 + i * 0x100
def CVU_STATUS_BITS (i : Nat) : RF := ⟨0x240084 + i * 0x100, 0, 32⟩
/-- CVU_DTS0 (15_check_value_units.md R460). -/
def CVU_DTS0 (i : Nat) : Nat := 0x240088 + i * 0x100
def CVU_DTS0_V (i : Nat) : RF := ⟨0x240088 + i * 0x100, 0, 32⟩
/-- CVU_DTS1 (15_check_value_units.md R460). -/
def CVU_DTS1 (i : Nat) : Nat := 0x24008c + i * 0x100
def CVU_DTS1_V (i : Nat) : RF := ⟨0x24008c + i * 0x100, 0, 32⟩
/-- CVU_DTS2 (15_check_value_units.md R460). -/
def CVU_DTS2 (i : Nat) : Nat := 0x240090 + i * 0x100
def CVU_DTS2_V (i : Nat) : RF := ⟨0x240090 + i * 0x100, 0, 32⟩
/-- CVU_ENABLE (15_check_value_units.md R460). -/
def CVU_ENABLE (i : Nat) : Nat := 0x240094 + i * 0x100
def CVU_ENABLE_V (i : Nat) : RF := ⟨0x240094 + i * 0x100, 0, 32⟩
/-- PMN_CFG (14_pm_event_log.md R429). -/
def PMN_CFG : Nat := 0x280000
def PMN_CFG_DAY_OFS : RF := ⟨0x280000, 0, 17⟩
/-- PMN_LIVE (14_pm_event_log.md R448). -/
def PMN_LIVE : Nat := 0x280010
def PMN_LIVE_TCA : RF := ⟨0x280010, 0, 1⟩
def PMN_LIVE_BIN15_DONE : RF := ⟨0x280010, 1, 1⟩
def PMN_LIVE_BIN24_DONE : RF := ⟨0x280010, 2, 1⟩
def PMN_LIVE_SKIP : RF := ⟨0x280010, 3, 1⟩
def PMN_LIVE_STORE_BROKEN : RF := ⟨0x280010, 4, 1⟩
/-- PMN_STATUS (14_pm_event_log.md R448). -/
def PMN_STATUS : Nat := 0x280014
def PMN_STATUS_BITS : RF := ⟨0x280014, 0, 32⟩
/-- PMN_DTS0 (14_pm_event_log.md R448). -/
def PMN_DTS0 : Nat := 0x280018
def PMN_DTS0_V : RF := ⟨0x280018, 0, 32⟩
/-- PMN_DTS1 (14_pm_event_log.md R448). -/
def PMN_DTS1 : Nat := 0x28001c
def PMN_DTS1_V : RF := ⟨0x28001c, 0, 32⟩
/-- PMN_DTS2 (14_pm_event_log.md R448). -/
def PMN_DTS2 : Nat := 0x280020
def PMN_DTS2_V : RF := ⟨0x280020, 0, 32⟩
/-- PMN_ENABLE (14_pm_event_log.md R448). -/
def PMN_ENABLE : Nat := 0x280024
def PMN_ENABLE_V : RF := ⟨0x280024, 0, 32⟩
/-- PMN_TCA_SET15 (14_pm_event_log.md R437). -/
def PMN_TCA_SET15 (i j : Nat) : Nat := 0x281000 + i * 0x80 + j * 0x10
def PMN_TCA_SET15_V (i j : Nat) : RF := ⟨0x281000 + i * 0x80 + j * 0x10, 0, 32⟩
/-- PMN_TCA_RESET15 (14_pm_event_log.md R437). -/
def PMN_TCA_RESET15 (i j : Nat) : Nat := 0x281004 + i * 0x80 + j * 0x10
def PMN_TCA_RESET15_V (i j : Nat) : RF := ⟨0x281004 + i * 0x80 + j * 0x10, 0, 32⟩
/-- PMN_TCA_SET24 (14_pm_event_log.md R437). -/
def PMN_TCA_SET24 (i j : Nat) : Nat := 0x281008 + i * 0x80 + j * 0x10
def PMN_TCA_SET24_V (i j : Nat) : RF := ⟨0x281008 + i * 0x80 + j * 0x10, 0, 32⟩
/-- EVL_CFG (14_pm_event_log.md R443). -/
def EVL_CFG : Nat := 0x2c0000
def EVL_CFG_LOGBOOK_SEV : RF := ⟨0x2c0000, 0, 3⟩
def EVL_CFG_Q_MASK : RF := ⟨0x2c0000, 8, 8⟩
/-- EVL_SEQ (14_pm_event_log.md R442). -/
def EVL_SEQ : Nat := 0x2c0004
def EVL_SEQ_V : RF := ⟨0x2c0004, 0, 32⟩
/-- EVL_LIVE (14_pm_event_log.md R448). -/
def EVL_LIVE : Nat := 0x2c0010
def EVL_LIVE_Q_DROP : RF := ⟨0x2c0010, 0, 1⟩
def EVL_LIVE_LB_SKIP : RF := ⟨0x2c0010, 1, 1⟩
def EVL_LIVE_RING_OFF : RF := ⟨0x2c0010, 2, 1⟩
def EVL_LIVE_CRITICAL : RF := ⟨0x2c0010, 3, 1⟩
/-- EVL_STATUS (14_pm_event_log.md R448). -/
def EVL_STATUS : Nat := 0x2c0014
def EVL_STATUS_BITS : RF := ⟨0x2c0014, 0, 32⟩
/-- EVL_DTS0 (14_pm_event_log.md R448). -/
def EVL_DTS0 : Nat := 0x2c0018
def EVL_DTS0_V : RF := ⟨0x2c0018, 0, 32⟩
/-- EVL_DTS1 (14_pm_event_log.md R448). -/
def EVL_DTS1 : Nat := 0x2c001c
def EVL_DTS1_V : RF := ⟨0x2c001c, 0, 32⟩
/-- EVL_DTS2 (14_pm_event_log.md R448). -/
def EVL_DTS2 : Nat := 0x2c0020
def EVL_DTS2_V : RF := ⟨0x2c0020, 0, 32⟩
/-- EVL_ENABLE (14_pm_event_log.md R448). -/
def EVL_ENABLE : Nat := 0x2c0024
def EVL_ENABLE_V : RF := ⟨0x2c0024, 0, 32⟩
/-- MNT_CFG (18_background_maintenance.md R534). -/
def MNT_CFG : Nat := 0x300000
def MNT_CFG_ROT_EN : RF := ⟨0x300000, 0, 1⟩
def MNT_CFG_ROT_SEC : RF := ⟨0x300000, 1, 17⟩
def MNT_CFG_ADAPT_FREEZE : RF := ⟨0x300000, 18, 1⟩
/-- MNT_TEMP_CFG (18_background_maintenance.md R525). -/
def MNT_TEMP_CFG : Nat := 0x300004
def MNT_TEMP_CFG_TEMP_WARN : RF := ⟨0x300004, 0, 8⟩
/-- MNT_TEMP (18_background_maintenance.md R525). -/
def MNT_TEMP (i : Nat) : Nat := 0x300100 + i * 0x4
def MNT_TEMP_V (i : Nat) : RF := ⟨0x300100 + i * 0x4, 0, 12⟩
/-- MNT_LB_STAT (18_background_maintenance.md R526). -/
def MNT_LB_STAT : Nat := 0x300010
def MNT_LB_STAT_WEAR_PCT : RF := ⟨0x300010, 0, 7⟩
def MNT_LB_STAT_SNAP_VALID : RF := ⟨0x300010, 7, 1⟩
def MNT_LB_STAT_SNAP_AGE_S : RF := ⟨0x300010, 8, 8⟩
/-- MNT_LIVE (18_background_maintenance.md R538). -/
def MNT_LIVE : Nat := 0x300020
def MNT_LIVE_PERMIT_CHG : RF := ⟨0x300020, 0, 1⟩
def MNT_LIVE_ROT_DONE : RF := ⟨0x300020, 1, 1⟩
def MNT_LIVE_ROT_DEFER : RF := ⟨0x300020, 2, 1⟩
def MNT_LIVE_TEMP_WARN : RF := ⟨0x300020, 3, 1⟩
def MNT_LIVE_TEMP_SLEW : RF := ⟨0x300020, 4, 1⟩
def MNT_LIVE_LB_WEAR : RF := ⟨0x300020, 5, 1⟩
def MNT_LIVE_SNAP_FAIL : RF := ⟨0x300020, 6, 1⟩
def MNT_LIVE_TELE_DROP : RF := ⟨0x300020, 7, 1⟩
/-- MNT_STATUS (18_background_maintenance.md R538). -/
def MNT_STATUS : Nat := 0x300024
def MNT_STATUS_BITS : RF := ⟨0x300024, 0, 32⟩
/-- MNT_DTS0 (18_background_maintenance.md R538). -/
def MNT_DTS0 : Nat := 0x300028
def MNT_DTS0_V : RF := ⟨0x300028, 0, 32⟩
/-- MNT_DTS1 (18_background_maintenance.md R538). -/
def MNT_DTS1 : Nat := 0x30002c
def MNT_DTS1_V : RF := ⟨0x30002c, 0, 32⟩
/-- MNT_DTS2 (18_background_maintenance.md R538). -/
def MNT_DTS2 : Nat := 0x300030
def MNT_DTS2_V : RF := ⟨0x300030, 0, 32⟩
/-- MNT_ENABLE (18_background_maintenance.md R538). -/
def MNT_ENABLE : Nat := 0x300034
def MNT_ENABLE_V : RF := ⟨0x300034, 0, 32⟩
/-- MNT_PERMIT (18_background_maintenance.md R538). -/
def MNT_PERMIT (i : Nat) : Nat := 0x301000 + i * 0x20
def MNT_PERMIT_CODE (i : Nat) : RF := ⟨0x301000 + i * 0x20, 0, 16⟩
def MNT_PERMIT_TARGET (i : Nat) : RF := ⟨0x301000 + i * 0x20, 16, 16⟩
/-- MNT_PERMIT_FLAGS (18_background_maintenance.md R538). -/
def MNT_PERMIT_FLAGS (i : Nat) : Nat := 0x301004 + i * 0x20
def MNT_PERMIT_FLAGS_VALID (i : Nat) : RF := ⟨0x301004 + i * 0x20, 0, 1⟩
def MNT_PERMIT_FLAGS_DEVICE (i : Nat) : RF := ⟨0x301004 + i * 0x20, 1, 1⟩
/-- MNT_PERMIT_DTS0 (18_background_maintenance.md R538). -/
def MNT_PERMIT_DTS0 (i : Nat) : Nat := 0x301008 + i * 0x20
def MNT_PERMIT_DTS0_V (i : Nat) : RF := ⟨0x301008 + i * 0x20, 0, 32⟩
/-- MNT_PERMIT_DTS1 (18_background_maintenance.md R538). -/
def MNT_PERMIT_DTS1 (i : Nat) : Nat := 0x30100c + i * 0x20
def MNT_PERMIT_DTS1_V (i : Nat) : RF := ⟨0x30100c + i * 0x20, 0, 32⟩
/-- MNT_PERMIT_DTS2 (18_background_maintenance.md R538). -/
def MNT_PERMIT_DTS2 (i : Nat) : Nat := 0x301010 + i * 0x20
def MNT_PERMIT_DTS2_V (i : Nat) : RF := ⟨0x301010 + i * 0x20, 0, 32⟩
/-- PWR_DOM (19_power_reset_boot.md R540). -/
def PWR_DOM (i : Nat) : Nat := 0x340000 + i * 0x4
def PWR_DOM_STATE (i : Nat) : RF := ⟨0x340000 + i * 0x4, 0, 3⟩
def PWR_DOM_FAULT (i : Nat) : RF := ⟨0x340000 + i * 0x4, 3, 1⟩
def PWR_DOM_RETIRED (i : Nat) : RF := ⟨0x340000 + i * 0x4, 4, 1⟩
def PWR_DOM_FAULTS_24H (i : Nat) : RF := ⟨0x340000 + i * 0x4, 8, 8⟩
/-- PWR_BOOT (19_power_reset_boot.md R557). -/
def PWR_BOOT : Nat := 0x340200
def PWR_BOOT_STAGE : RF := ⟨0x340200, 0, 3⟩
def PWR_BOOT_FW_SLOT : RF := ⟨0x340200, 3, 1⟩
def PWR_BOOT_LIB_SLOT : RF := ⟨0x340200, 4, 1⟩
def PWR_BOOT_BOOT_FAIL : RF := ⟨0x340200, 5, 1⟩
def PWR_BOOT_LIB_FAIL : RF := ⟨0x340200, 6, 1⟩
def PWR_BOOT_RESTORE_REQ : RF := ⟨0x340200, 7, 1⟩
def PWR_BOOT_RESTORED : RF := ⟨0x340200, 8, 1⟩
def PWR_BOOT_RESTORE_SKIPPED : RF := ⟨0x340200, 9, 1⟩
def PWR_BOOT_LAST_RESET : RF := ⟨0x340200, 16, 8⟩
def PWR_BOOT_SEC_MIN : RF := ⟨0x340200, 24, 8⟩
/-- PWR_STAGE_MS (19_power_reset_boot.md R551). -/
def PWR_STAGE_MS (i : Nat) : Nat := 0x340210 + i * 0x4
def PWR_STAGE_MS_V (i : Nat) : RF := ⟨0x340210 + i * 0x4, 0, 16⟩
/-- PWR_RAIL (19_power_reset_boot.md R557). (DESIGN CHOICE, log entry 110) -/
def PWR_RAIL (i : Nat) : Nat := 0x340300 + i * 0x4
def PWR_RAIL_V (i : Nat) : RF := ⟨0x340300 + i * 0x4, 0, 16⟩
/-- PWR_LIVE (19_power_reset_boot.md R557). -/
def PWR_LIVE : Nat := 0x340400
def PWR_LIVE_DOM_FAULT : RF := ⟨0x340400, 0, 1⟩
def PWR_LIVE_DOM_RETIRED : RF := ⟨0x340400, 1, 1⟩
def PWR_LIVE_RAIL_LOW : RF := ⟨0x340400, 2, 1⟩
def PWR_LIVE_STAGE_DONE : RF := ⟨0x340400, 3, 1⟩
def PWR_LIVE_RESTORE_SKIPPED : RF := ⟨0x340400, 4, 1⟩
/-- PWR_STATUS (19_power_reset_boot.md R557). -/
def PWR_STATUS : Nat := 0x340404
def PWR_STATUS_BITS : RF := ⟨0x340404, 0, 32⟩
/-- PWR_DTS0 (19_power_reset_boot.md R557). -/
def PWR_DTS0 : Nat := 0x340408
def PWR_DTS0_V : RF := ⟨0x340408, 0, 32⟩
/-- PWR_DTS1 (19_power_reset_boot.md R557). -/
def PWR_DTS1 : Nat := 0x34040c
def PWR_DTS1_V : RF := ⟨0x34040c, 0, 32⟩
/-- PWR_DTS2 (19_power_reset_boot.md R557). -/
def PWR_DTS2 : Nat := 0x340410
def PWR_DTS2_V : RF := ⟨0x340410, 0, 32⟩
/-- PWR_ENABLE (19_power_reset_boot.md R557). -/
def PWR_ENABLE : Nat := 0x340414
def PWR_ENABLE_V : RF := ⟨0x340414, 0, 32⟩
/-- PWR_IN_CFG (21_pins_package_electrical.md R597). -/
def PWR_IN_CFG (i : Nat) : Nat := 0x340800 + i * 0x4
def PWR_IN_CFG_STUCK_LVL (i : Nat) : RF := ⟨0x340800 + i * 0x4, 0, 1⟩
def PWR_IN_CFG_GLITCH_M1 (i : Nat) : RF := ⟨0x340800 + i * 0x4, 1, 4⟩
def PWR_IN_CFG_CH_N (i : Nat) : RF := ⟨0x340800 + i * 0x4, 5, 6⟩
def PWR_IN_CFG_CH_W (i : Nat) : RF := ⟨0x340800 + i * 0x4, 11, 4⟩
def PWR_IN_CFG_QUIET (i : Nat) : RF := ⟨0x340800 + i * 0x4, 15, 4⟩
def PWR_IN_CFG_STUCK (i : Nat) : RF := ⟨0x340800 + i * 0x4, 19, 5⟩
/-- PWR_IN_LEVEL (21_pins_package_electrical.md R607). -/
def PWR_IN_LEVEL (i : Nat) : Nat := 0x340a00 + i * 0x4
def PWR_IN_LEVEL_V (i : Nat) : RF := ⟨0x340a00 + i * 0x4, 0, 32⟩
/-- PWR_IN_STUCK (21_pins_package_electrical.md R607). -/
def PWR_IN_STUCK (i : Nat) : Nat := 0x340a08 + i * 0x4
def PWR_IN_STUCK_V (i : Nat) : RF := ⟨0x340a08 + i * 0x4, 0, 32⟩
/-- PWR_IN_CHATTER (21_pins_package_electrical.md R607). -/
def PWR_IN_CHATTER (i : Nat) : Nat := 0x340a10 + i * 0x4
def PWR_IN_CHATTER_V (i : Nat) : RF := ⟨0x340a10 + i * 0x4, 0, 32⟩
/-- PWR_IN_LIVE (21_pins_package_electrical.md R607). -/
def PWR_IN_LIVE : Nat := 0x340a20
def PWR_IN_LIVE_STUCK : RF := ⟨0x340a20, 0, 1⟩
def PWR_IN_LIVE_CHATTER : RF := ⟨0x340a20, 1, 1⟩
/-- PWR_IN_STATUS (21_pins_package_electrical.md R607). -/
def PWR_IN_STATUS : Nat := 0x340a24
def PWR_IN_STATUS_BITS : RF := ⟨0x340a24, 0, 32⟩
/-- PWR_IN_DTS0 (21_pins_package_electrical.md R607). -/
def PWR_IN_DTS0 : Nat := 0x340a28
def PWR_IN_DTS0_V : RF := ⟨0x340a28, 0, 32⟩
/-- PWR_IN_DTS1 (21_pins_package_electrical.md R607). -/
def PWR_IN_DTS1 : Nat := 0x340a2c
def PWR_IN_DTS1_V : RF := ⟨0x340a2c, 0, 32⟩
/-- PWR_IN_DTS2 (21_pins_package_electrical.md R607). -/
def PWR_IN_DTS2 : Nat := 0x340a30
def PWR_IN_DTS2_V : RF := ⟨0x340a30, 0, 32⟩
/-- PWR_IN_ENABLE (21_pins_package_electrical.md R607). -/
def PWR_IN_ENABLE : Nat := 0x340a34
def PWR_IN_ENABLE_V : RF := ⟨0x340a34, 0, 32⟩

end Sys2Proof.Machine.Reg

namespace Sys2Proof.Machine.Ctr

/-- KSK_FOREIGN (16_redundancy.md R500). -/
def KSK_FOREIGN : Nat := 0x10200
/-- KSK_EPOCHS_SENT (16_redundancy.md R500). -/
def KSK_EPOCHS_SENT : Nat := 0x10208
/-- KSK_EPOCHS_APPLIED (16_redundancy.md R500). -/
def KSK_EPOCHS_APPLIED : Nat := 0x10210
/-- KSK_EPOCH_REJECT (16_redundancy.md R500). -/
def KSK_EPOCH_REJECT : Nat := 0x10218
/-- KSK_REF_BAD (16_redundancy.md R500). -/
def KSK_REF_BAD : Nat := 0x10220
/-- KSK_HB_MISSED (16_redundancy.md R500). -/
def KSK_HB_MISSED : Nat := 0x10228
/-- TIM_SEL_CHANGES (11_timing.md R371). -/
def TIM_SEL_CHANGES : Nat := 0x47100
/-- TIM_HOLDOVER_ENTRIES (11_timing.md R371). -/
def TIM_HOLDOVER_ENTRIES : Nat := 0x47108
/-- TIM_DISQUALIFICATIONS (11_timing.md R371). -/
def TIM_DISQUALIFICATIONS : Nat := 0x47110
/-- TIM_TOD_ERR (11_timing.md R371). -/
def TIM_TOD_ERR : Nat := 0x47118
/-- TIM_TOD_MISMATCH (11_timing.md R371). -/
def TIM_TOD_MISMATCH : Nat := 0x47120
/-- TIM_TIME_STEPS (11_timing.md R371). -/
def TIM_TIME_STEPS : Nat := 0x47128
/-- AVE_EDGE_OVF (02_clockless_core.md R58). -/
def AVE_EDGE_OVF (i : Nat) : Nat := 0x80140 + i * 0x1000
/-- AVE_EDGE_UFL (02_clockless_core.md R58). -/
def AVE_EDGE_UFL (i : Nat) : Nat := 0x80148 + i * 0x1000
/-- AVE_MISMATCHES (16_redundancy.md R500). -/
def AVE_MISMATCHES (i : Nat) : Nat := 0x80010 + i * 0x1000
/-- LIN_CW_TOTAL (04_line_ports.md R114). -/
def LIN_CW_TOTAL (i : Nat) : Nat := 0xc0100 + i * 0x200
/-- LIN_CW_CORR (04_line_ports.md R114). -/
def LIN_CW_CORR (i : Nat) : Nat := 0xc0108 + i * 0x200
/-- LIN_CW_UNCORR (04_line_ports.md R114). -/
def LIN_CW_UNCORR (i : Nat) : Nat := 0xc0110 + i * 0x200
/-- LIN_SYM_CORR (04_line_ports.md R114). -/
def LIN_SYM_CORR (i : Nat) : Nat := 0xc0118 + i * 0x200
/-- LIN_BIT_CORR (04_line_ports.md R114). -/
def LIN_BIT_CORR (i : Nat) : Nat := 0xc0120 + i * 0x200
/-- LIN_BIT_CORR_WIN (04_line_ports.md R114). -/
def LIN_BIT_CORR_WIN (i : Nat) : Nat := 0xc0128 + i * 0x200
/-- LIN_HIST (04_line_ports.md R114). -/
def LIN_HIST (i j : Nat) : Nat := 0xc0140 + i * 0x200 + j * 0x8
/-- LIN_GRP_FAILS (04_line_ports.md R123). -/
def LIN_GRP_FAILS (i : Nat) : Nat := 0xd0040 + i * 0x100
/-- LIN_LANE_PRBS_ERR (04_line_ports.md R134). -/
def LIN_LANE_PRBS_ERR (i : Nat) : Nat := 0xd8020 + i * 0x80
/-- LIN_LANE_PRBS_LOL (04_line_ports.md R134). -/
def LIN_LANE_PRBS_LOL (i : Nat) : Nat := 0xd8028 + i * 0x80
/-- LIN_LANE_CDR_LOL (04_line_ports.md R134). -/
def LIN_LANE_CDR_LOL (i : Nat) : Nat := 0xd8030 + i * 0x80
/-- SYP_CELLS_TX (08_arcade.md R271). -/
def SYP_CELLS_TX (i : Nat) : Nat := 0x110080 + i * 0x100
/-- SYP_CELLS_RX (08_arcade.md R271). -/
def SYP_CELLS_RX (i : Nat) : Nat := 0x110088 + i * 0x100
/-- SYP_HDR_ERR (08_arcade.md R271). -/
def SYP_HDR_ERR (i : Nat) : Nat := 0x110090 + i * 0x100
/-- SYP_PCRC_ERR (08_arcade.md R271). -/
def SYP_PCRC_ERR (i : Nat) : Nat := 0x110098 + i * 0x100
/-- SYP_VER_DROP (08_arcade.md R271). -/
def SYP_VER_DROP (i : Nat) : Nat := 0x1100a0 + i * 0x100
/-- SYP_MISDELIVERED (08_arcade.md R271). -/
def SYP_MISDELIVERED (i : Nat) : Nat := 0x1100a8 + i * 0x100
/-- SYP_UNKNOWN_FLOW (08_arcade.md R271). -/
def SYP_UNKNOWN_FLOW (i : Nat) : Nat := 0x1100b0 + i * 0x100
/-- SYP_MISROUTE (08_arcade.md R271). -/
def SYP_MISROUTE (i : Nat) : Nat := 0x1100b8 + i * 0x100
/-- SYP_FEC_CW_CORR (08_arcade.md R271). -/
def SYP_FEC_CW_CORR (i : Nat) : Nat := 0x1100c0 + i * 0x100
/-- SYP_FEC_CW_UNCORR (08_arcade.md R271). -/
def SYP_FEC_CW_UNCORR (i : Nat) : Nat := 0x1100c8 + i * 0x100
/-- SYP_DELIN_LOSS (08_arcade.md R271). -/
def SYP_DELIN_LOSS (i : Nat) : Nat := 0x1100d0 + i * 0x100
/-- SYP_TIME_RX (08_arcade.md R271). -/
def SYP_TIME_RX (i : Nat) : Nat := 0x1100d8 + i * 0x100
/-- SYP_STORE_DROP (08_arcade.md R271). -/
def SYP_STORE_DROP (i : Nat) : Nat := 0x1100e0 + i * 0x100
/-- PLZ_OVERLAP_DROP (07_plaza.md R230). -/
def PLZ_OVERLAP_DROP : Nat := 0x140300
/-- PLZ_FAST_SWITCHES (07_plaza.md R230). -/
def PLZ_FAST_SWITCHES : Nat := 0x140308
/-- PLZ_CMD_SWITCHES (07_plaza.md R230). -/
def PLZ_CMD_SWITCHES : Nat := 0x140310
/-- PLZ_MOVES (07_plaza.md R230). -/
def PLZ_MOVES : Nat := 0x140318
/-- PLZ_MOVE_ABORTS (07_plaza.md R230). -/
def PLZ_MOVE_ABORTS : Nat := 0x140320
/-- PLZ_ECC_CORR (07_plaza.md R230). -/
def PLZ_ECC_CORR : Nat := 0x140328
/-- UND_CORR (09_underpass.md R297). -/
def UND_CORR : Nat := 0x180300
/-- UND_UNCORR (09_underpass.md R297). -/
def UND_UNCORR : Nat := 0x180308
/-- UND_ON_DIE_CORR (09_underpass.md R297). -/
def UND_ON_DIE_CORR : Nat := 0x180310
/-- UND_SCRUB_CORR (09_underpass.md R297). -/
def UND_SCRUB_CORR : Nat := 0x180318
/-- UND_PAGE_RETIRE (09_underpass.md R297). -/
def UND_PAGE_RETIRE : Nat := 0x180320
/-- UND_PC_FAILS (09_underpass.md R297). -/
def UND_PC_FAILS : Nat := 0x180328
/-- QUE_GRP_CROSSINGS (12_queues_side_street.md R389). -/
def QUE_GRP_CROSSINGS (i : Nat) : Nat := 0x1c1030 + i * 0x40
/-- QUE_GRP_DROPS (12_queues_side_street.md R398). -/
def QUE_GRP_DROPS (i : Nat) : Nat := 0x1c1038 + i * 0x40
/-- QUE_SS_FRAMES_TX (12_queues_side_street.md R398). -/
def QUE_SS_FRAMES_TX (i : Nat) : Nat := 0x1cd080 + i * 0x100
/-- QUE_SS_FRAMES_RX (12_queues_side_street.md R398). -/
def QUE_SS_FRAMES_RX (i : Nat) : Nat := 0x1cd088 + i * 0x100
/-- QUE_SS_BYTES_TX (12_queues_side_street.md R398). -/
def QUE_SS_BYTES_TX (i : Nat) : Nat := 0x1cd090 + i * 0x100
/-- QUE_SS_BYTES_RX (12_queues_side_street.md R398). -/
def QUE_SS_BYTES_RX (i : Nat) : Nat := 0x1cd098 + i * 0x100
/-- QUE_SS_FCS_ERR (12_queues_side_street.md R398). -/
def QUE_SS_FCS_ERR (i : Nat) : Nat := 0x1cd0a0 + i * 0x100
/-- QUE_SS_RX_DROP (12_queues_side_street.md R398). -/
def QUE_SS_RX_DROP (i : Nat) : Nat := 0x1cd0a8 + i * 0x100
/-- QUE_SS_CTRL_DROP (12_queues_side_street.md R398). -/
def QUE_SS_CTRL_DROP (i : Nat) : Nat := 0x1cd0b0 + i * 0x100
/-- OAP_DROP_RECORDS (13_overhead_access_ports.md R420). -/
def OAP_DROP_RECORDS (i : Nat) : Nat := 0x200080 + i * 0x100
/-- OAP_DROP_OVF (13_overhead_access_ports.md R420). -/
def OAP_DROP_OVF (i : Nat) : Nat := 0x200088 + i * 0x100
/-- OAP_INS_RECORDS (13_overhead_access_ports.md R420). -/
def OAP_INS_RECORDS (i : Nat) : Nat := 0x200090 + i * 0x100
/-- OAP_INS_UNDERRUN (13_overhead_access_ports.md R420). -/
def OAP_INS_UNDERRUN (i : Nat) : Nat := 0x200098 + i * 0x100
/-- OAP_INS_LATE (13_overhead_access_ports.md R420). -/
def OAP_INS_LATE (i : Nat) : Nat := 0x2000a0 + i * 0x100
/-- OAP_INS_FRAME_ERR (13_overhead_access_ports.md R420). -/
def OAP_INS_FRAME_ERR (i : Nat) : Nat := 0x2000a8 + i * 0x100
/-- OAP_FS_ERR (13_overhead_access_ports.md R420). -/
def OAP_FS_ERR (i : Nat) : Nat := 0x2000b0 + i * 0x100
/-- OAP_CLK_LOSSES (13_overhead_access_ports.md R420). -/
def OAP_CLK_LOSSES (i : Nat) : Nat := 0x2000b8 + i * 0x100
/-- OAP_START_IGNORED (13_overhead_access_ports.md R416). -/
def OAP_START_IGNORED : Nat := 0x200810
/-- CVU_UNITS (15_check_value_units.md R460). -/
def CVU_UNITS (i : Nat) : Nat := 0x2400c0 + i * 0x100
/-- CVU_MATCHES (15_check_value_units.md R460). -/
def CVU_MATCHES (i : Nat) : Nat := 0x2400c8 + i * 0x100
/-- CVU_MISMATCHES (15_check_value_units.md R460). -/
def CVU_MISMATCHES (i : Nat) : Nat := 0x2400d0 + i * 0x100
/-- CVU_EXPECT_CORRUPT (15_check_value_units.md R460). -/
def CVU_EXPECT_CORRUPT (i : Nat) : Nat := 0x2400d8 + i * 0x100
/-- CVU_NO_EXPECT (15_check_value_units.md R460). -/
def CVU_NO_EXPECT (i : Nat) : Nat := 0x2400e0 + i * 0x100
/-- CVU_FIFO_OVF (15_check_value_units.md R460). -/
def CVU_FIFO_OVF (i : Nat) : Nat := 0x2400e8 + i * 0x100
/-- PMN_TCA_EVENTS (14_pm_event_log.md R448). -/
def PMN_TCA_EVENTS : Nat := 0x280300
/-- PMN_BINS_INCOMPLETE (14_pm_event_log.md R448). -/
def PMN_BINS_INCOMPLETE : Nat := 0x280308
/-- EVL_LOGGED (14_pm_event_log.md R448). -/
def EVL_LOGGED : Nat := 0x2c0300
/-- EVL_LB_WRITTEN (14_pm_event_log.md R448). -/
def EVL_LB_WRITTEN : Nat := 0x2c0308
/-- EVL_LB_SKIPPED (14_pm_event_log.md R448). -/
def EVL_LB_SKIPPED : Nat := 0x2c0310
/-- EVL_RING_SKIPPED (14_pm_event_log.md R448). -/
def EVL_RING_SKIPPED : Nat := 0x2c0318
/-- MNT_HBM_PASSES (18_background_maintenance.md R538). -/
def MNT_HBM_PASSES : Nat := 0x300300
/-- MNT_SRAM_CORR (18_background_maintenance.md R538). -/
def MNT_SRAM_CORR : Nat := 0x300308
/-- MNT_SRAM_UNCORR (18_background_maintenance.md R538). -/
def MNT_SRAM_UNCORR : Nat := 0x300310
/-- MNT_ROTATIONS (18_background_maintenance.md R538). -/
def MNT_ROTATIONS : Nat := 0x300318
/-- MNT_TELE_PACKETS (18_background_maintenance.md R538). -/
def MNT_TELE_PACKETS : Nat := 0x300320
/-- MNT_TELE_DROP (18_background_maintenance.md R538). -/
def MNT_TELE_DROP : Nat := 0x300328
/-- PWR_DOM_FAULTS (19_power_reset_boot.md R557). -/
def PWR_DOM_FAULTS : Nat := 0x340500
/-- PWR_RESETS (19_power_reset_boot.md R557). -/
def PWR_RESETS : Nat := 0x340508
/-- PWR_IMG_REJECT (19_power_reset_boot.md R557). -/
def PWR_IMG_REJECT : Nat := 0x340510
/-- PWR_IN_STUCKS (21_pins_package_electrical.md R607). -/
def PWR_IN_STUCKS : Nat := 0x340a40
/-- PWR_IN_CHATTERS (21_pins_package_electrical.md R607). -/
def PWR_IN_CHATTERS : Nat := 0x340a48

end Sys2Proof.Machine.Ctr
end

