-- ==== Sys2Proof/Machine/State.lean ====
section
/-! DEFINITION. The state of the AMN-2560 as plain data: every register, counter, table and record of the spec, what
the spec's hardware must remember between two steps, and the queue of waiting commands. -/
namespace Sys2Proof.Machine
open Sys2Proof

/-! ### Numbers -/

/-- A fraction num ÷ den; den is above zero. -/
structure Q where
  num : Int := 0
  den : Nat := 1
  deriving DecidableEq, Repr

/-- What stops a run of the model: nothing does. Every row of the command table has an effect the spec gives, or
does not come about; the type has no constructor, so no meaning can answer with a fault. (DEDUCED, log entry 5) -/
inductive Fault
  deriving DecidableEq, Repr

/-- Why a command is refused by the model. -/
inductive Refusal
  /-- Raised by an arm of exec whose command has no meaning yet. Safe: nothing can be proved of its effect. -/
  | notModelled (mnemonic : String)
  deriving DecidableEq, Repr

/-! ### Interrupts, events -/

/-- The settings of a STATUS register not yet cleared, as (bit, DTS), and the DTS of the latest write of a one to each
bit (R608). -/
structure StatRec where
  sets : List (Nat × Nat) := []
  clrs : List (Nat × Nat) := []
  deriving DecidableEq, Repr

/-- A LIVE bit that shows what happened in a window just passed, with the end of its window. -/
structure Pulse where
  addr : Nat
  bit : Nat
  until_ : Nat
  deriving DecidableEq, Repr

/-- The interrupt roll-up (R519, R520): SYS_IRQ_STATUS, the cause of each vector, the vectors that may send, and the
MSI-X pending bits. -/
structure Irq where
  status : BitVec 16 := 0
  cause : BitVec 64 := 0
  armed : BitVec 64 := BitVec.allOnes 64
  pba : BitVec 64 := 0
  deriving DecidableEq, Repr

/-- An event before it is numbered (14 Table PMN-6); detail holds bytes 26 to 31, byte 26 lowest. -/
structure EvRec where
  dts : Nat
  sev : Nat
  code : Nat
  src : Nat
  detail : Nat
  deriving DecidableEq, Repr

/-- A numbered record as it is filed. -/
structure LogRec where
  ev : EvRec
  seq : Nat
  devid : Nat
  timeUnset : Bool
  timeHold : Bool
  mirrored : Bool
  deriving DecidableEq, Repr

/-- The event logger (14 R442 to R445). -/
structure EvlState where
  /-- records offered to the logger, oldest first -/
  pend : List EvRec := []
  /-- the Underpass ring by SEQ mod 2^26 -/
  ring : List (Nat × LogRec) := []
  /-- mirrored records not yet in the Logbook, with their last instant -/
  mirror : List (Nat × LogRec) := []
  /-- the Logbook event area, newest first -/
  book : List LogRec := []
  /-- records left in the mirroring bucket -/
  bucket : Nat := 20000
  lastRefill : Nat := 0
  skipped : Nat := 0
  skipSeq : Nat := 0
  deriving DecidableEq, Repr

/-! ### Queues (12) -/

/-- An item in a queue: its 32 bytes, kind (Table QUE-2), enqueue DTS, packet length, and when it became visible. -/
structure QItem where
  data : Item256
  kind : Nat
  dts : Nat
  plen : Nat := 0
  vis : Nat := 0
  deriving DecidableEq, Repr

/-- An open gap marker (Table QUE-3). -/
structure Marker where
  full : Bool := false
  pkt : Bool := false
  spill : Bool := false
  ue : Bool := false
  count : Nat
  first : Nat
  last : Nat
  deriving DecidableEq, Repr

/-- A queue: its configuration, its visible items and sealed markers (head first), the words of a packet being built,
the items popped by a run that has not committed, and the counts of its status record (Table QUE-9). -/
structure QueH where
  mode : Nat := 0
  producer : Nat := 0
  consumer : Nat := 0
  group : Nat := 0
  cap : Nat := 0
  sel : Nat := 0
  items : List QItem := []
  build : List QItem := []
  taken : Nat := 0
  marker : Option Marker := none
  spillFull : Bool := false
  ssSeq : Nat := 0
  fragOfs : Nat := 0
  /-- bytes of the packet a Side Street ingress is building -/
  frag : List Byte := []
  pushed : Nat := 0
  popped : Nat := 0
  dropped : Nat := 0
  markers : Nat := 0
  peak : Nat := 0
  /-- the host's producer or consumer code stands for a claim on a code of 0 (R382) -/
  lentP : Bool := false
  lentC : Bool := false
  deriving DecidableEq, Repr

/-- A read of a pop slot that waits for a push (R384). -/
structure PopWait where
  slot : Nat
  queue : Nat
  arrival : Nat
  tag : Nat
  deriving DecidableEq, Repr

/-- A Side Street port. -/
structure SsPort where
  lock : Bool := false
  /-- the queue served last in each priority, for the round robin -/
  last : Tbl Nat := []
  /-- a queue whose items frame may leave before it holds 30 items -/
  due : List Nat := []
  deriving DecidableEq, Repr

/-- Queues and Side Street. -/
structure QueState where
  qs : Tbl QueH := []
  waits : List PopWait := []
  /-- the DTS at which each XOFF_OUT pin was asserted -/
  xoffAt : Tbl Nat := []
  ports : Tbl SsPort := []
  /-- consumer code 5 is served by SS1 -/
  code5 : Bool := true
  deriving DecidableEq, Repr

/-! ### Routines (03, 20) -/

/-- What BIND fixed for a context (R98, Table JRM-6). -/
structure CtxBind where
  routine : Nat := 0
  jabi : Nat := 0
  wcsc : Nat := 0
  divLog2 : Nat := 0
  param : List Byte := []
  /-- (trail table entry, role) of window slots 0 up -/
  tt : List (Nat × Nat) := []
  /-- (queue, mode) of queue slots 0 up -/
  qs : List (Nat × Nat) := []
  code : List DWord := []
  deriving DecidableEq, Repr

/-- What a stalled context waits for (R76, R82): an item for POP into scratch at an offset, an item, or room; the queue
slot, and for POP the destination register. -/
inductive Stall
  | pop (slot ofs dst : Nat)
  | item (slot : Nat)
  | room (slot : Nat)
  deriving DecidableEq, Repr

/-- One staged act on a queue (R78). -/
inductive QueAct
  | push (q : Nat) (d : Item256)
  | pktBegin (q len : Nat) (d : Item256)
  | pktWord (q : Nat) (d : Item256)
  | pktAbort (q : Nat)
  deriving DecidableEq, Repr

/-- The hardware accumulators of the overhead read window (05 Table OVH-3). -/
structure OhAcc where
  frames : Nat := 0
  lost : Nat := 0
  bipViol : Nat := 0
  bipBlocks : Nat := 0
  beiSum : Nat := 0
  beiBlocks : Nat := 0
  alignAny : BitVec 8 := 0
  statLast : Nat := 0
  statRun : Nat := 0
  bdi : Bool := false
  bdiRun : Nat := 0
  biaeRun : Nat := 0
  iae : Bool := false
  iaeRun : Nat := 0
  ttiStable : Nat := 0
  ptLast : Nat := 0
  ptRun : Nat := 0
  csf : Bool := false
  csfRun : Nat := 0
  tti : List Byte := []
  /-- the multiframe being gathered -/
  ttiNew : List Byte := []
  deriving DecidableEq, Repr

/-- The overhead read window as a release shows it (Table JRM-1). -/
structure OhWin where
  now : List Byte := []
  prev : List Byte := []
  acc : OhAcc := {}
  alignNow : BitVec 8 := 0
  deriving DecidableEq, Repr

/-- A run: everything it has staged, and where it stands. -/
structure RunSt where
  rel : Nat
  per : Nat
  steps : Nat := 0
  started : Bool := false
  pc : Nat := 0
  g : List DWord
  p : BitVec 8
  sl : List (BitVec 16) := [0, 0, 0, 0]
  st : List DWord
  stack : List Nat := []
  /-- staged bytes: scratch by offset, trail table by entry × 256 + offset, insertion window by offset -/
  scr : List (Nat × Byte) := []
  tab : List (Nat × Byte) := []
  oh : List (Nat × Byte) := []
  /-- staged PM additions: (entry, parameter, value) -/
  pm : List (Nat × Nat × Nat) := []
  acts : List QueAct := []
  /-- items popped, newest first -/
  pops : List (Nat × QItem) := []
  evs : List EvRec := []
  /-- integrator records stepped or seeded: (entry, record) -/
  intg : List (Nat × Nat) := []
  stall : Option Stall := none
  deriving DecidableEq, Repr

/-- A packet a context has open on a queue: its length and the words committed. -/
structure PktOpen where
  queue : Nat
  len : Nat
  words : Nat
  /-- the packet met a full queue: its later words go nowhere (R379) -/
  dead : Bool := false
  /-- its words, held invisible in the queue (R84) -/
  held : List QItem := []
  deriving DecidableEq, Repr

/-- A context (R72): its status record (Table JRM-4), binding and committed state. -/
structure CtxH where
  state : Nat := 0
  trapCode : Nat := 0
  late : Nat := 0
  trapAddr : Nat := 0
  trapDts : Nat := 0
  commits : Nat := 0
  worst : Nat := 0
  bind : CtxBind := {}
  g : List DWord := []
  p : BitVec 8 := 0
  st : List DWord := []
  scr : List Host.Cell := []
  /-- bytes of the insertion window some committed run has written (R86), and the number of the COMMIT that wrote each last -/
  ins : List (Nat × Byte) := []
  insNo : List (Nat × Nat) := []
  pkts : List PktOpen := []
  rels : Nat := 0
  seed : Bool := false
  /-- its runs are shadow runs (07 R613) -/
  shadow : Bool := false
  prevLate : Bool := false
  /-- for a move's new context, the release instant that follows its first on-time COMMIT (07 R218) -/
  readyAt : Option Nat := none
  /-- one half's COMMIT came too late in the period now ending (03 R83) -/
  halfLate : Bool := false
  win : OhWin := {}
  acc : OhAcc := {}
  nextRel : Nat := 0
  run : Option RunSt := none
  /-- first and last bytes of the latest two frames, for the next release -/
  fnow : List Byte := []
  fprev : List Byte := []
  /-- the DTS of the latest frame of its layer (02 R60) -/
  fAt : Option Nat := none
  deriving DecidableEq, Repr

/-- A routine image (R100). -/
structure ImageH where
  valid : Bool := false
  jabi : Nat := 0
  wcsc : Nat := 0
  code : List DWord := []
  deriving DecidableEq, Repr

/-- The routine machine. -/
structure JrmState where
  ctx : Tbl CtxH := []
  /-- the context each engine executes, plus one (zero: idle), by slot × 8 + engine -/
  cur : Tbl Nat := []
  images : Tbl ImageH := []
  /-- trail table entries, by entry × 256 + offset (05 Table OVH-9) -/
  trail : List Host.Cell := []
  /-- COMMITs published so far, for the order of those that write one insertion byte (R86) -/
  commitNo : Nat := 0
  deriving DecidableEq, Repr

/-! ### Performance monitoring (14) -/

/-- What one second of an entry has gathered (R421 to R423), and whether it is unclassified (R428). -/
structure SecAcc where
  s : Nat
  nEb : Nat := 0
  nDef : Bool := false
  fEb : Nat := 0
  fDef : Bool := false
  psc : Nat := 0
  late : Nat := 0
  blocks : Nat := 0
  bad : Bool := false
  deriving DecidableEq, Repr

/-- The PM of one entry: its control word (R431), when PM_EN was last set, its unsettled seconds and its bins. -/
structure PmH where
  en : Bool := false
  fe : Bool := false
  profile : Nat := 0
  since : Nat := 0
  secs : List SecAcc := []
  nUnavail : Bool := false
  fUnavail : Bool := false
  /-- fifteen-minute TCAs standing (R438) -/
  stand : BitVec 8 := 0
  cur15 : BinRec := {}
  hist15 : List BinRec := []
  cur24 : BinRec := {}
  hist24 : List BinRec := []
  deriving DecidableEq, Repr

/-- The PM engine. -/
structure PmState where
  ent : Tbl PmH := []
  /-- DAY_OFS in force for each kind of bin, the value last seen written, and the second it was written in (R436) -/
  ofs15 : Nat := 0
  ofs24 : Nat := 0
  ofsSeen : Nat := 0
  ofsSec : Nat := 0
  /-- seconds below this one have settled -/
  settled : Nat := 0
  /-- the 24-hour bins in the Logbook, newest first (18 Table MNT-2) -/
  daily : List (Nat × BinRec) := []
  deriving DecidableEq, Repr

/-! ### Line ports (04) -/

/-- A logical lane of an interface (R109, R110): AM lock, consecutive valid and invalid markers, and the latest marker's
number and arrival. -/
structure AmLane where
  lock : Bool := false
  good : Nat := 0
  bad : Nat := 0
  num : Nat := 0
  arr : Nat := 0
  deriving DecidableEq, Repr

/-- A line interface: since when each LOS source is present (signal detect, CDR, GEI), since when all are absent, its
logical lanes, its degrade windows, its member checks and, for an OTU4, its slice. -/
structure LifH where
  sd : Option Nat := none
  cdr : Option Nat := none
  gei : Option Nat := none
  clear : Nat := 0
  lanes : Tbl AmLane := []
  degAbove : Nat := 0
  degBelow : Nat := 0
  losInWin : Bool := false
  winBits : Nat := 0
  gidBad : Nat := 0
  gidGood : Nat := 0
  pidBad : Nat := 0
  pidGood : Nat := 0
  gidMis : Bool := false
  pidMis : Bool := false
  /-- a FlexO frame with the configured GID and PID has come since the interface started, or since a mismatch (R118) -/
  flexOk : Bool := false
  /-- the MAP last received: the PIDs it marks (R107) -/
  mapRx : List Nat := []
  /-- outside DESKEW_MAX_NS of its group's release point -/
  out : Bool := false
  slot : Nat := 0
  dpll : Nat := 0
  deriving DecidableEq, Repr

/-- A member of a group: its interface, PID, latest marker's MFAS and arrival, and the delay it is given (ticks) while it
is aligned. -/
structure MemberH where
  lif : Nat
  pid : Nat
  mfas : Nat := 0
  arr : Nat := 0
  seen : Bool := false
  aligned : Bool := false
  late : Bool := false
  delay : Nat := 0
  deriving DecidableEq, Repr

/-- An OTUCn group: members in ascending PID order, whether a release point is fixed, since when every member is aligned,
since when a member has been late, the release offset (ns), whether GROUP_FAIL has first cleared, and the timers taken at
formation. -/
structure GrpH where
  members : List MemberH := []
  formed : Bool := false
  okSince : Option Nat := none
  lateSince : Option Nat := none
  relOfs : Nat := 0
  everClear : Bool := false
  clearedAt : Option Nat := none
  deskewMax : Nat := 3000
  reform : Nat := 100
  deriving DecidableEq, Repr

/-- The line ports. -/
structure LinState where
  lifs : Tbl LifH := []
  grps : Tbl GrpH := []
  deriving DecidableEq, Repr

/-! ### Frame alignment (05) -/

/-- The three states of an aligner (05 R141). -/
inductive AlignState | hunt | inFrame | oof
  deriving DecidableEq, Repr

/-- A multiframe check (R148, R149): the reference, consecutive unexpected and consecutive good frames, and whether the
instance is out of multiframe, since when. -/
structure MfH where
  ref : Nat := 0
  have_ : Bool := false
  err : Nat := 0
  good : Nat := 0
  out : Bool := false
  since : Nat := 0
  dec : Bool := false
  deriving DecidableEq, Repr

/-- An aligner (R141 to R149): candidates as (byte of the latest sighting, repeats), the confirmed one held, the byte within the frame period at
which frames begin, the counts, since when it is in frame or out of it, dLOF, MFAS and OMFI, and the realignments so far (R152). -/
structure AlignerH where
  on : Bool := false
  st : AlignState := .hunt
  cands : List (Nat × Nat) := []
  held : Option Nat := none
  pos : Nat := 0
  err : Nat := 0
  good : Nat := 0
  since : Nat := 0
  dlof : Bool := false
  mfas : MfH := {}
  omfi : MfH := {}
  realigns : Nat := 0
  /-- frames received since the latest realignment (05 R152) -/
  frames : Nat := 0
  deriving DecidableEq, Repr

/-- What the receive side of an entry's field passes to its transmit side (R138, R151): violations of the latest frame,
and whether IAE was in it. -/
structure BackH where
  viol : Nat := 0
  biae : Bool := false
  deriving DecidableEq, Repr

/-- Framing. -/
structure FrmState where
  al : Tbl AlignerH := []
  /-- the BIP-8 of the OPU areas of an instance's latest two frames, newest first (R150) -/
  par : Tbl (List Byte) := []
  /-- an instance's latest frame as the overhead window has it: the DTS of its last overhead byte, and its 64 bytes (R139) -/
  rx : Tbl (Nat × List Byte) := []
  back : Tbl BackH := []
  /-- the MFAS last sent for an instance, plus one (zero: none sent) -/
  txMfas : Tbl Nat := []
  /-- the DTS of the frame last sent for an instance -/
  txAt : Tbl Nat := []
  /-- the OMFI of the next frame of an instance (R149) -/
  txOmfi : Tbl Nat := []
  deriving DecidableEq, Repr

/-! ### Mapping (06) -/

/-- A break of the class ladder: its trigger, the class it protected (0xFF for none) and its place in the order of breaking. -/
structure BrokenBy where
  trig : Nat
  prot : Nat
  order : Nat
  deriving DecidableEq, Repr

/-- An ODU instance as ODU_CFG configured it (17 Table HST-9), and what the device does to it. -/
structure OduH where
  conf : Bool := false
  type : Nat := 0
  client : Nat := 0
  server : Nat := 0
  cls : Nat := 0
  rank : Nat := 8
  slot : Nat := 0
  rate : Nat := 0
  ts : List Nat := []
  tu : List Nat := []
  jcHold : Nat := 5
  jcResync : Nat := 3
  rateWin : Nat := 8
  fillTarget : Nat := 50
  fillGain : Nat := 0
  pt : Nat := 0
  lckRx : Bool := false
  lckTx : Bool := false
  /-- replaced by the fast path (R163, R164) -/
  fast : Bool := false
  /-- the stream that carries it is lost (R141) -/
  lost : Bool := false
  /-- the new MSI and bytes wait for the next server multiframe (R179) -/
  msiWait : Bool := false
  /-- broken by the class ladder (01 R40, R41) -/
  broken : Option BrokenBy := none
  deriving DecidableEq, Repr

/-- The demapper of a 100GBASE-R client in an ODU4, one period to a frame (06 R190): the Cm in use, the one last read, consecutive held and
accepted periods, GMP_UNLOCK. -/
structure ClientRx where
  cm : Nat := 0
  cmRx : Nat := 0
  held : Nat := 0
  okRun : Nat := 0
  unlock : Bool := false
  deriving DecidableEq, Repr

/-- A demapper or mapper: its status record (Table MAP-7) and its counts. -/
structure MapH where
  unlock : Bool := false
  rateOor : Bool := false
  csf : Bool := false
  cm : Nat := 0
  scnd : Nat := 0
  jcErr : Nat := 0
  cmOor : Nat := 0
  scndErr : Nat := 0
  ampErr : Nat := 0
  slips : Nat := 0
  clamps : Nat := 0
  /-- consecutive held and accepted periods -/
  held : Nat := 0
  okRun : Nat := 0
  /-- output replaced after a slip until the next frame start (R192) -/
  slip : Bool := false
  outRun : Nat := 0
  inRun : Nat := 0
  /-- RATE_OOR set by the rate windows, and by the clamp -/
  oorRate : Bool := false
  oorClamp : Bool := false
  clampSince : Option Nat := none
  freeSince : Option Nat := none
  /-- the justification of the latest AMP frame (R189): 0 none, 1 negative, 2 double positive, 3 positive -/
  just : Nat := 0
  /-- the six JC bytes where they begin, at the slice stage or the mapper, and as the side tags have brought them to the other stage (R174) -/
  jc : Option Nat := none
  jcAt : Option Nat := none
  /-- the Cm that a received JC pair with indicators was last read as (R184) -/
  cmRx : Nat := 0
  /-- the Cm and the JC bytes of a 100GBASE-R client's own GMP (R190) -/
  cmC : Nat := 0
  jcC : Nat := 0
  dresC : Nat := 0
  /-- the demapper of such a client; the output of a client's demapper replaced after a slip until the client's next frame start (R192) -/
  rxC : ClientRx := {}
  slipC : Bool := false
  /-- loss of 257-bit block lock (R191) -/
  unblock : Bool := false
  /-- the mapper sends local fault in place of its client (R193) -/
  lf : Bool := false
  /-- the cause of R193 stands at the client's PHY -/
  cause : Bool := false
  /-- remainders of R196: acc, dres, and the last rate in bytes per local tick -/
  acc : Q := {}
  dres : Nat := 0
  rate : Q := {}
  starved : Bool := false
  deriving DecidableEq, Repr

/-- Mapping. -/
structure MapState where
  odu : Tbl OduH := []
  ms : Tbl MapH := []
  /-- breaks made since reset, for the order of restoring (01 R41) -/
  breaks : Nat := 0
  /-- removed instances whose slots the MSI still shows (R179) -/
  gone : List (Nat × OduH) := []
  deriving DecidableEq, Repr

/-! ### The Plaza (07) -/

/-- What a batch will do at its epoch instant (R215): apply connection records; begin a move of a tributary to a
slot; begin the slot move of a rotation. -/
inductive BatchWork
  | conn (recs : List ConnRec)
  | move (tx : Bool) (inst new : Nat)
  | rotate (slot new : Nat)
  deriving DecidableEq, Repr

/-- Where a move stands (R218): waiting for its install, in overlap, cut over, or, for a part of a slot move, retired before the whole slot has
cut over. -/
inductive MovePhase | waiting | overlap | cut | retired
  deriving DecidableEq, Repr

/-- A move of a tributary or a slice (R217 to R220): its work (0 tributary, 1 slice), instance, direction, slots, epoch,
phase, install instant, period, the pairs (old, new) of its contexts, and the slot move it belongs to. -/
structure MoveH where
  slice : Bool := false
  tx : Bool := false
  inst : Nat := 0
  old : Nat := 0
  new : Nat := 0
  epoch : Nat := 0
  /-- the transmit epoch of a slot move -/
  epochTx : Nat := 0
  phase : MovePhase := .waiting
  install : Nat := 0
  period : Nat := 0
  ctxs : List (Nat × Nat) := []
  cutAt : Nat := 0
  slotMove : Option Nat := none
  live : Bool := false
  /-- the old Avenue is fenced: cutover is at the next frame start (R221) -/
  forced : Bool := false
  /-- it brings a part of an aborted slot move back (R220) -/
  back : Bool := false
  deriving DecidableEq, Repr

/-- The Plaza. -/
structure PlzState where
  conn : Tbl ConnH := []
  moves : Tbl MoveH := []
  /-- the batches that wait for their epoch instant, oldest first -/
  batch : List BatchWork := []
  deriving DecidableEq, Repr

/-! ### Conditioned inputs (21) -/

/-- A conditioned input (R592 to R597): whether its first G samples have agreed since POR_N was released, its transitions
(newest first), since when its stuck and quiet timers run, and the level its consumers took before a fault. -/
structure PinH where
  seen : Bool := false
  trans : List Nat := []
  since : Nat := 0
  held : Bool := false
  deriving DecidableEq, Repr

/-! ### Overhead Access Ports (13) -/

/-- A drop record: the instant it became available, the arrival of its frame, its tag and bytes. -/
structure DropRec where
  avail : Nat
  tag : Nat
  bytes : List Byte
  deriving DecidableEq, Repr

/-- A port: its FIFOs, the port frame in progress (records placed in it; whether FS_ERR struck it), the last record
inserted, the start instant it waits past, the latest loss of its clock or, once that is over, the end of the 1 ms after it, the counts of the ratio window and the latest drop
for want of room. -/
structure OapPort where
  drop : List DropRec := []
  ins : List InsRec := []
  open_ : Bool := false
  placed : Nat := 0
  lastIns : Option InsRec := none
  start : Option Nat := none
  realign : Nat := 0
  frames : Nat := 0
  pframes : Nat := 0
  lastDrop : Nat := 0
  deriving DecidableEq, Repr

/-- The ports, and the latest start trigger. -/
structure OapState where
  ports : Tbl OapPort := []
  trig : Nat := 0
  deriving DecidableEq, Repr

/-! ### The Arcade (08) -/

/-- What a link keeps of one time peer (R265 to R269): the time cells sent (next SEQ, latest departure, the last eight as
(SEQ, departure)), the latest received (arrival, SEQ, what it echoes), the window of exchanges as (t4, θ, d), the estimates as
(t4, Θ), the results, the parameters of the window, and whether the peer is stale. Times in ticks. -/
structure TimePeer where
  txSeq : Nat := 0
  txLast : Nat := 0
  txLog : List (Nat × Nat) := []
  heard : Bool := false
  rxAt : Nat := 0
  rxSeq : Nat := 0
  rxEchoAt : Nat := 0
  rxEchoSeq : Nat := 0
  ex : List (Nat × Q × Int) := []
  est : List (Nat × Q) := []
  theta : Q := {}
  eps : Q := {}
  rtt : Nat := 0
  valid : Bool := false
  win : Nat := 16
  freqN : Nat := 32
  slew : Nat := 4
  dp1 : Nat := 0
  stale : Bool := false
  deriving DecidableEq, Repr

/-- An Arcade link: lane CDR lock, the entry into its present state, the end of its hold-down, the latest valid cell, runs of invalid
cells and of LINK_STATE cells that report the peer's receiver down, a drain in progress, a DRAIN heard, and its negotiation:
the record advertised in this bring-up
(00 R25), its choice, whether it has sent ACK with that choice, the choice an ACK of the peer carried, the latest sender heard, and the
peer's record. -/
structure ArcLink where
  cdr : Bool := false
  since : Nat := 0
  hold : Nat := 0
  lastValid : Nat := 0
  bad : Nat := 0
  rxDown : Nat := 0
  drainAt : Option Nat := none
  drainRx : Bool := false
  adv : Nat := 0
  choice : Option Nat := none
  acked : Bool := false
  peerAck : Option Nat := none
  negDevid : Option Nat := none
  peerLink : Nat := 0
  peerPlane : Bool := false
  peers : Tbl TimePeer := []
  deriving DecidableEq, Repr

/-- A held cell: SEQ, source DTS S, payload bytes. -/
structure HeldCell where
  seq : Nat
  src : Nat
  bytes : List Byte
  deriving DecidableEq, Repr

/-- A flow (R250): STATE as IDLE, ACTIVE or STARVED, its counts, the cells with FIRST still to send, the cells held, the
numbers played among the 1,024 below NEXT_SEQ, the played-out cells (SEQ, S) since the start, the latest playout, Θp at a time,
ε with the time it took force and the ε before, the designated link, whether the alternative source has been heard since the
last restart and the source in use, and the latest two cells' bytes of the playout buffer (R260). -/
structure FlowH where
  state : Nat := 0
  next : Nat := 0
  cells : Nat := 0
  late : Nat := 0
  missing : Nat := 0
  dup : Nat := 0
  first : Nat := 16
  held : List HeldCell := []
  played : List Nat := []
  hist : List (Nat × Nat) := []
  lastPlay : Nat := 0
  thp : Q := {}
  thpAt : Nat := 0
  thpSet : Bool := false
  eps : Q := {}
  epsAt : Nat := 0
  epsOld : Q := {}
  desig : Option Nat := none
  /-- the peer whose ε the flow takes from it -/
  desigPeer : Nat := 0
  alt : Bool := false
  source : Nat := 0
  /-- the playout buffer, until when its reader has drawn from it, and the fraction of a byte still due to it (R260) -/
  buf : List Byte := []
  bufAt : Nat := 0
  owed : Q := {}
  deriving DecidableEq, Repr

/-- The Arcade: links; flows by direction × 20,480 + instance; the link each group sent its last data cell on, plus one. -/
structure ArcState where
  links : Tbl ArcLink := []
  flows : Tbl FlowH := []
  last : Tbl Nat := []
  deriving DecidableEq, Repr

/-! ### Check-value units (15) -/

/-- A unit: the committed expected value and guard with the DTS of the commit and the pair before it, the FIFO (value, guard,
DTS of the push), and the check units ended since EN was set. -/
structure CvuH where
  exp : Nat := 0
  guard : Nat := 0xA5
  expAt : Option Nat := none
  expOld : Nat := 0
  guardOld : Nat := 0xA5
  fifo : List (Nat × Nat × Nat) := []
  index : Nat := 0
  deriving DecidableEq, Repr


/-! ### The Underpass (09) -/

/-- A reservation of a row of Table UND-3: its bandwidth in Mb/s, the pages of its region in striping order, whether it is
broken with the break's protected class and order, and whether a service window left it waiting. -/
structure RsvH where
  bw : Q := {}
  pages : List Nat := []
  broken : Bool := false
  prot : Nat := 0xFF
  order : Nat := 0
  short : Bool := false
  deriving DecidableEq, Repr

/-- The unreadable units of a page: poisoned ones (R280), and those lost with a failed pseudo-channel and not yet written
(R281): `lost` the whole page was, `fresh` the units written since. -/
structure PageH where
  poison : List Nat := []
  lost : Bool := false
  fresh : List Nat := []
  /-- DTS of the corrected reads of the last 24 h -/
  ce : List Nat := []
  deriving DecidableEq, Repr

/-- The Underpass: reservations by row × 65,536 + pair or queue group, pages, retired pages, the bytes stored, the uncorrectable
reads of each pseudo-channel within the last second, breaks made, and the (page, unit) of images whose reload waits for lent bandwidth
(R289). -/
structure UndState where
  rsv : Tbl RsvH := []
  pages : Tbl PageH := []
  retired : List Nat := []
  mem : List Host.Cell := []
  ue : Tbl (List Nat) := []
  breaks : Nat := 0
  reloads : List (Nat × Nat) := []
  deriving DecidableEq, Repr

/-! ### Hitless selection (10) -/

/-- A frame of a path as the selector keeps it (R318, R322): arrival, MFAS, OMFI, OPU signature, PM STAT, FRAME_DTS, FRAME_SEQ, HW_SF,
whether its BIP-8 found errors, whether the descriptor is complete, whether it is in the ring, whether its ring read is bad, whether it has found
its partner (R325), and its bytes as the hold keeps them. -/
structure SelFrame where
  arr : Nat
  mfas : Nat
  omfi : Nat
  sig : Nat
  stat : Nat
  fdts : Nat
  seq : Nat := 0
  hwSf : Bool
  errored : Bool
  done : Bool := false
  ring : Bool := false
  bad : Bool := false
  mated : Bool := false
  bytes : List Byte := []
  deriving DecidableEq, Repr

/-- A path of a pair: its frames, oldest first, whether it is aligned, outputs in a row at which it was out of reach, since when
it has been in reach, and its latest usable frame. -/
structure PathH where
  frames : List SelFrame := []
  aligned : Bool := false
  out : Nat := 0
  inSince : Option Nat := none
  usable : Nat := 0
  deriving DecidableEq, Repr

/-- A Class A pair (Table PRT-8) and what its selector holds: the output timing (last O(k), A), the search, Δ in ticks, frames
written to the ring, the paths, the path in BEYOND, whether its last output frame was ODU-AIS, a retime that waits, the MFAS
that a frame of ODU-AIS sent next would carry (05 R166), and the sent bytes of a transmit pair that fill no token yet. -/
structure PairH where
  state : Nat := 0
  sel : Bool := false
  anchor : Bool := false
  ring : Bool := false
  unbuf : Bool := false
  relocks : Nat := 0
  delta : Option Int := none
  switches : Nat := 0
  ais : Nat := 0
  gap : Nat := 0
  skipped : Nat := 0
  chg : Nat := 0
  lastO : Nat := 0
  aConst : Int := 0
  hits : Nat := 0
  dlast : Int := 0
  written : Nat := 0
  x : PathH := {}
  y : PathH := {}
  beyond : Bool := false
  noReach : Nat := 0
  aisOut : Bool := true
  retime : Option Bool := none
  mfas : Nat := 0
  rest : List Byte := []
  deriving DecidableEq, Repr



/-! ### Kiosks and the mated pair (16) -/

/-- A heartbeat path (R483): a heartbeat seen in the window now open, windows missed and windows held in a row, whether the path
is present and whether it is lost. -/
structure HbPath where
  seen : Bool := false
  missed : Nat := 0
  good : Nat := 0
  up : Bool := false
  lost : Bool := false
  deriving DecidableEq, Repr

/-- The Kiosks and the pair: FENCE_OUT, crash records of the Logbook; the Kiosk held in reset or reloading, the holder of the
last lease, the latest lapse; the advertised range records of HCP, JABI and MLP; PAIR_CFG for the next reset; the Mate Link's MLP
version; the latest RENEW and PRESENT; heartbeats; epochs sent (number, latest acknowledged, images since, series in progress)
and received (last applied, when, its cut, series in progress, whether the series or the buffer is bad); the sweep position. -/
structure RedState where
  fenceOut : Bool := true
  crash : List Nat := []
  kReset : List Nat := []
  kPrev : Option Nat := none
  kLapse : Nat := 0
  hcpRange : Nat := 0x01000000
  jabiRange : Nat := 0x01000000
  mlpRange : Nat := 0x01000000
  pairNext : Bool := false
  mate : Nat := 0
  mlp : Option Nat := none
  present : Option Nat := none
  hbSeq : Nat := 0
  hbPin : Bool := false
  hbLast : Option Nat := none
  hbLink : HbPath := {}
  hbPins : HbPath := {}
  epochNo : Nat := 0
  acked : Nat := 0
  images : List (Nat × Tbl LineData) := []
  series : Option (Tbl LineData) := none
  sweepAt : Nat := 0
  applied : Nat := 0
  appliedAt : Nat := 0
  appliedCut : Nat := 0
  rxSeries : List (Nat × Option LineData) := []
  rxBad : Bool := false
  bufBad : Bool := false
  deriving DecidableEq, Repr



/-! ### Timing (11) -/

/-- A reference's monitors (R338 to R349): bad and good activity windows in a row, gates outside REJECT in a row, since when the accept
dwell runs, the gates of the present second (sum and count, in 10^-12), the latest one-second offset and the last 60 of them, newest
first, and the evaluations below REJECT in a row. -/
structure RefH where
  bad : Nat := 0
  good : Nat := 0
  rej : Nat := 0
  acc : Nat := 0
  sum : Int := 0
  n : Nat := 0
  ofs : Option Int := none
  hist : List Int := []
  calm : Nat := 0
  deriving DecidableEq, Repr

/-- A DPLL (R343 to R357): since when it is in its state, since when it bridges, the seconds spent in NARROW or LOCKED with the output
offset in each (second, 10^-12), newest first, and the references early fall-back has made ineligible. -/
structure DpllH where
  since : Nat := 0
  dwell : Nat := 0
  /-- since when its filtered phase error has stayed above 10 × NARROW_THR (11 R353) -/
  above : Option Nat := none
  bridge : Nat := 0
  hist : List (Nat × Int) := []
  soft : List Nat := []
  deriving DecidableEq, Repr

/-- A status output as it was at its latest change, none before the first (11 R359). -/
structure StatPin where
  level : Bool := false
  since : Option Nat := none
  deriving DecidableEq, Repr

/-- An accepted ToD message (Table TIM-5) that waits for its edge. -/
structure TodMsg where
  secs : Nat
  edge : Nat
  deriving DecidableEq, Repr

/-- Timing: references, DPLLs, pairs in DISPUTE, the latest steering write of host mode, the end of a host-mode slew, the message
waiting for its edge, and the latest difference of SECONDS with how often it came in a row. -/
structure TimState where
  refs : Tbl RefH := []
  dps : Tbl DpllH := []
  disputes : List (Nat × Nat) := []
  /-- the reference DP0 had when the present CHATTER of REF_SEL began (11 R346) -/
  kept : Option Nat := none
  steer : Option Nat := none
  slewEnd : Nat := 0
  tod : Option TodMsg := none
  diff : Int := 0
  diffRun : Nat := 0
  stat : Tbl StatPin := []
  deriving DecidableEq, Repr



/-! ### The Avenues (02, 16) -/

/-- A system lane group as SYS_PORT_CFG configured it (17 Table HST-9). -/
structure SysGrp where
  mode : Nat := 0
  phy : Nat := 0
  plane : Nat := 0
  dpll : Nat := 0
  deriving DecidableEq, Repr

/-- A pipeline that a token is bound for, with the layer instance it travels for there and the epoch of its route (07 R212, R218). -/
structure Dest where
  pipe : Nat
  key : Nat
  epoch : Nat
  deriving DecidableEq, Repr

/-- An ingress port as its stamps show it (01 R31): the latest stamp, those before it (newest first, of 64 frames), the bytes that have come
since the latest, and the byte period that the two latest stamps measured, in ticks; zero before two have come. -/
structure MarkH where
  at_ : Option Nat := none
  before : List Nat := []
  bytes : Nat := 0
  period : Q := {}
  deriving DecidableEq, Repr

/-- A pipeline of an Avenue: its kerb buffer with how many of its tokens each half has taken, the tokens in the stages of its halves (stage
× 2 + half), the two skew FIFOs, the compared token the Plaza has not taken, the tokens it holds back for pipelines whose kerb buffers are
full (02 R46), since when tokens are offered and none delivered, and its shedding: the tributaries broken (latest first), gates since the
latest decision, since when the restore margin holds, and the latest restoration. -/
structure PipeH where
  kerb : List Token := []
  ta : Nat := 0
  tb : Nat := 0
  st : List (Nat × Token) := []
  skA : List Token := []
  skB : List Token := []
  out : Option Token := none
  held : List (Token × List Dest) := []
  since : Nat := 0
  shed : List Nat := []
  dec : Option Nat := none
  quiet : Option Nat := none
  restored : Option Nat := none
  deriving DecidableEq, Repr

/-- A half: its latest completed calibration, the delay codes in force and wanted of its matched delays (stage × 2 + pipeline), and whether
AVE_PACE_MIN has been loaded since it was read. -/
structure HalfH where
  calAt : Nat := 0
  cur : Tbl Nat := []
  tgt : Tbl Nat := []
  rxLd : Bool := false
  txLd : Bool := false
  deriving DecidableEq, Repr

/-- An Avenue: tokens dropped and fill tokens sent in the gate now open, when it joined the pool, when it entered service, and its
fences of the last 24 h. -/
structure AveH where
  ovf : Bool := false
  ufl : Bool := false
  spareSince : Nat := 0
  inSince : Nat := 0
  fences : List Nat := []
  deriving DecidableEq, Repr

/-- A sealed bank of a slot's checkpoint store (16 R464): its instant, contexts, trail table entries (as 256-byte numbers),
aligners with the DTS of their latest frames, transmit frames (DTS, MFAS plus one) and mappers. -/
structure BankH where
  at_ : Nat
  ctxs : List (Nat × CtxH) := []
  trail : List (Nat × Nat) := []
  als : List (Nat × AlignerH) := []
  lasts : List (Nat × Nat) := []
  txs : List (Nat × Nat × Nat) := []
  maps : List (Nat × MapH) := []
  deriving DecidableEq, Repr

/-- A slot's checkpoint store: two banks and the one now open. -/
structure StoreH where
  b0 : Option BankH := none
  b1 : Option BankH := none
  open1 : Bool := false
  deriving DecidableEq, Repr

/-- A slot under spare exhaustion (16 R470 to R473): the slices re-homed, evicted or unserved with the slot each came from, the
tributaries re-homed, and those broken, in their order. -/
structure ExhH where
  slot : Nat
  slices : List (Nat × Nat) := []
  tribs : List Nat := []
  broken : List Nat := []
  deriving DecidableEq, Repr

/-- A daily rotation in progress (18 R534): its slot, the Avenue it frees and the spare it fills. -/
structure RotH where
  slot : Nat
  old : Nat
  new : Nat
  deriving DecidableEq, Repr

/-- The Avenues, the edge FIFOs (direction × 1,024 + port; an ingress token with the pipelines it still waits for) and the
checkpoint stores. -/
structure AveState where
  fifos : Tbl (List (Token × List Dest)) := []
  marks : Tbl MarkH := []
  pipes : Tbl PipeH := []
  halves : Tbl HalfH := []
  aves : Tbl AveH := []
  stores : Tbl StoreH := []
  exh : List ExhH := []
  rot : Option RotH := none
  deriving DecidableEq, Repr



/-! ### The command ring (17) -/

/-- A completion record before it has a ring position (17 Table HST-7). -/
structure CplRec where
  tag : Nat
  status : Nat
  op : Nat
  ofs : Nat
  dts : Nat
  result : Nat
  deriving DecidableEq, Repr

/-- A command in execution whose effect instant is still to come: a batch that waits for its epoch instant, with the directions it
changes; a time to be set (seconds, FORCE). -/
inductive ExecKind
  | batch (rx tx : Bool)
  | setTime (secs : Nat) (force : Bool)
  deriving DecidableEq, Repr

/-- The command in execution. -/
structure ExecH where
  tag : Nat
  op : Nat
  kind : ExecKind
  deriving DecidableEq, Repr

/-- The ring: the command in execution, whether EN was cleared during it, whether a link reset took its ring away, completions journalled
for a later ring (19 R544), and a reset asked for (code, the DTS it begins). -/
structure HcqState where
  exec : Option ExecH := none
  closing : Bool := false
  cut : Bool := false
  journal : List CplRec := []
  reset : Option (Nat × Nat) := none
  deriving DecidableEq, Repr


/-! ### Background work, snapshots and power (18, 19) -/

/-- An interface in a snapshot: TYPE, transmit DPLL, and for an OTU4 its slice and slot. -/
structure SnapLif where
  lif : Nat
  type : Nat
  dpll : Nat
  slice : Nat
  slot : Nat
  deriving DecidableEq, Repr

/-- An OTUCn group in a snapshot: OS_BASE, GID, members (LIF, PID) and slice-stage slots. -/
structure SnapGrp where
  grp : Nat
  base : Nat
  gid : Nat
  members : List (Nat × Nat)
  slots : List Nat
  deriving DecidableEq, Repr

/-- The PM control word of an entry in a snapshot. -/
structure SnapPm where
  entry : Nat
  en : Bool
  fe : Bool
  profile : Nat
  deriving DecidableEq, Repr

/-- A queue group in a snapshot: class, and bandwidth and pages of its spill share. -/
structure SnapQg where
  grp : Nat
  cls : Nat
  bw : Q
  pages : Nat
  deriving DecidableEq, Repr

/-- A configuration snapshot (18 R527, 19 R553): when it was sealed, the HCP and JABI major versions it was written under, the register
words host software writes, and what the commands have configured. -/
structure SnapH where
  at_ : Nat
  hcp : Nat
  jabi : Nat
  devid : Option Nat := none
  regs : List (Nat × Word) := []
  lifs : List SnapLif := []
  grps : List SnapGrp := []
  sysg : List (Nat × SysGrp) := []
  links : List Nat := []
  odus : List (Nat × OduH) := []
  /-- bytes 0x00 to 0x3F of each trail table entry in use -/
  trail : List (Nat × List Byte) := []
  pm : List SnapPm := []
  conns : List (Nat × ConnH) := []
  /-- queue, with its items and counts left out -/
  queues : List (Nat × QueH) := []
  /-- pop slots and push slots claimed -/
  pops : List (Nat × Nat) := []
  pushes : List (Nat × Nat) := []
  qgrps : List SnapQg := []
  images : List (Nat × ImageH) := []
  binds : List (Nat × CtxBind) := []
  pairEn : Bool := false
  mate : Nat := 0
  deriving DecidableEq, Repr

/-- Telemetry (18 R536, R537): record set, cadence (ms), queue, packets formed, and the counters at the previous packet by their
register offset. -/
structure TeleH where
  set : Nat := 0
  cadence : Nat := 0
  queue : Nat := 0
  count : Nat := 0
  base : Tbl Nat := []
  deriving DecidableEq, Repr

/-- Background work: telemetry, the page the Sweeper reads next, each sensor's readings of the last 10 ms (instant, 0.25 °C), since when
each has been at 125 °C, the two snapshot copies and
when the latest was sealed, a deferred rotation's next retry and the whole seconds it belongs to. -/
structure MntState where
  tele : TeleH := {}
  sweep : Nat := 0
  temps : Tbl (List (Nat × Int)) := []
  hot : Tbl Nat := []
  snap0 : Option SnapH := none
  snap1 : Option SnapH := none
  sealedAt : Option Nat := none
  retry : Option Nat := none
  rotUntil : Nat := 0
  frozen : List (Nat × Nat × Nat) := []
  /-- the instant of the latest page read (0), on-die scrub (1), map scrub (2) and sensor sample (3), plus one -/
  last : Tbl Nat := []
  deriving DecidableEq, Repr

/-- The power controller: the device is held in power-on reset, BOOT_RESTORE as sampled, when start-up began, each domain's faults of
the last 24 h, a minimum security version raised since manufacture, whether start-up has mapped the slots, the stacks in retraining,
and the firmware version that will raise the minimum. -/
structure PwrState where
  held : Bool := true
  strap : Bool := false
  began : Nat := 0
  faults : Tbl (List Nat) := []
  secMin : Option Nat := none
  retrain : List Nat := []
  advance : Option Nat := none
  deriving DecidableEq, Repr


/-! ### Outputs -/

/-- What stands in place of a signal at an output. -/
inductive FillKind | lck | ais | oci | localFault
  deriving DecidableEq, Repr

/-- What leaves the device, in the order it leaves: the model's own record of its outputs. -/
inductive Out
  /-- an MSI-X message (R520) -/
  | msix (vec : Nat) (addr data : Nat)
  /-- a completion record at a ring position (17 Table HST-7) -/
  | completion (pos : Nat) (rec : Nat)
  /-- the data a read returns: requester tag, bytes, value -/
  | readData (tag bytes value : Nat)
  /-- an access completed with UR or CA (R503) -/
  | refused (tag : Nat) (ca : Bool)
  /-- a Side Street frame (12 R391): its port and its bytes, from the destination address to the FCS -/
  | ssFrame (port : Nat) (bytes : List Byte)
  /-- a port frame that begins on an Overhead Access Port: the bytes of its slots (13 R404) -/
  | oapFrame (port : Nat) (slots : List Byte)
  /-- the 64 overhead bytes of a transmitted frame of a layer instance (03 R86) -/
  | overhead (key : Nat) (bytes : List Byte)
  /-- a cell sent on an Arcade link: its 1,024 bytes (08 R232) -/
  | cell (link : Nat) (bytes : List Byte)
  /-- a frame the hitless selector of pair (direction, X) sends: of a receive pair to the port in force as its PORT_A, zero for none, else plus
  one (07 R214), of a transmit pair, with port zero, to the tributary stages of both partners (10 R300); the path (none: ODU-AIS), its MFAS, its
  ingress DTS (10 R320, R327) and its bytes -/
  | selected (d x port : Nat) (path : Option Bool) (mfas ts : Nat) (bytes : List Byte)
  /-- what an Underpass read gives the user of a row: its bytes, or none (09 R276, R279) -/
  | underpass (row : Nat) (bytes : Option (List Byte))
  /-- the bits each reservation was served in a window of a pseudo-channel (09 R286) -/
  | service (pc : Nat) (grants : List (Nat × Nat))
  /-- a heartbeat record on the Mate Link (16 Table RED-6), and the new level of the MATE_ALIVE_OUT pins -/
  | heartbeat (bytes : Option (List Byte)) (level : Bool)
  /-- an epoch on the Mate Link (16 R492) -/
  | epoch (m : EpochMsg)
  /-- what a port sends in place of stream `key`: ODU-LCK, ODU-AIS, ODU-OCI (05 R166, R167), or local fault (05 R168) -/
  | fill (port key : Nat) (kind : FillKind)
  /-- a token that pass 2 delivers to the hitless selector of receive instance i (07 R214) -/
  | toSelector (i : Nat) (tok : Token)
  /-- a token read from an egress edge FIFO: its port, and the token, or none for the all-ones token of R58 (02 R58) -/
  | token (port : Nat) (tok : Option Token)
  deriving DecidableEq, Repr

/-- The machine. -/
structure State where
  /-- the device count (00 R8), in ticks -/
  dts : Nat
  /-- the register words of BAR0 by offset (17 Table HST-1); an unlisted word holds its reset value -/
  regs : Tbl Word
  /-- the 48-bit counters by the offset of their lower word (00 R5) -/
  ctrs : Tbl Nat
  /-- what each STATUS register has seen, by its offset (00 R608) -/
  stat : Tbl StatRec
  /-- LIVE bits with a window still open (14 R441) -/
  pulses : List Pulse
  /-- the interrupt roll-up (17 R519, R520) -/
  irq : Irq
  /-- the model's count of open values used -/
  freeCtr : Nat
  /-- what has left the device, newest first -/
  out : List Out
  /-- the event logger (14 R442 to R445) -/
  evl : EvlState
  /-- the violation log entries the host has not read since they were written (17 SYS_LIVE.LOG_WRAP) -/
  violUnread : BitVec 64
  /-- queues and Side Street ports (12) -/
  que : QueState
  /-- the routine machine (03, 20) and the trail table (05) -/
  jrm : JrmState
  /-- the PM engine (14 R421 to R440) -/
  pm : PmState
  /-- line interfaces and groups (04) -/
  lin : LinState
  /-- frame alignment (05) -/
  frm : FrmState
  /-- ODU instances, mappers and demappers (06) -/
  map : MapState
  /-- the Plaza (07) -/
  plz : PlzState
  /-- the conditioned inputs by PWR_IN index (21 R592 to R597) -/
  pins : Tbl PinH
  /-- the Overhead Access Ports (13) -/
  oap : OapState
  /-- the Arcade (08) -/
  arc : ArcState
  /-- the check-value units (15 R449 to R460) -/
  cvu : Tbl CvuH
  /-- the Underpass (09) -/
  und : UndState
  /-- Class A pairs by direction × 20,480 + X (10 R332) -/
  pair : Tbl PairH
  /-- the end of the running APS_LIN timer by context (10 R314, R315) -/
  apsEnd : Tbl Nat
  /-- the Kiosks and the mated pair (16 R474 to R500) -/
  red : RedState
  /-- references, DPLLs and device time (11) -/
  tim : TimState
  /-- the system lane groups (17 Table HST-9) -/
  sysg : Tbl SysGrp
  /-- the Avenues, edge FIFOs and checkpoint stores (02, 16) -/
  ave : AveState
  /-- the command ring (17 R508 to R518) -/
  hcq : HcqState
  /-- background work and snapshots (18) -/
  mnt : MntState
  /-- the power controller (19) -/
  pwr : PwrState
  /-- the commands waiting, first in first out -/
  pending : List Instr
  deriving DecidableEq, Repr

/-- The machine at the end of a power-on reset: each register word and counter reads its reset value while none is
listed, and no command waits. (DEDUCED, log entry 6; DESIGN CHOICE, log entry 8) -/
def State.reset : State :=
  { dts := 0
    regs := []
    ctrs := []
    stat := []
    pulses := []
    irq := {}
    freeCtr := 0
    out := []
    evl := {}
    violUnread := 0
    que := {}
    jrm := {}
    pm := {}
    lin := {}
    frm := {}
    map := {}
    plz := {}
    pins := []
    oap := {}
    arc := {}
    cvu := []
    und := {}
    pair := []
    apsEnd := []
    red := {}
    tim := {}
    sysg := []
    ave := {}
    hcq := {}
    mnt := {}
    pwr := {}
    pending := [] }

end Sys2Proof.Machine
end

