-- ==== Sys2Proof/Machine/Tbl.lean ====
section
/-! DEFINITION. The operations on a sparse store. A store is kept in one canonical form, so equal contents are
equal data. -/
namespace Sys2Proof.Machine

/-- The value at key `k`; an unlisted key has its default. -/
def tget {α : Type} (d : Nat → α) : Tbl α → Nat → α
  | [], k => d k
  | (j, v) :: r, k => if j = k then v else if k < j then d k else tget d r k

/-- The listing of `v` at `k` before `r`, left out when `v` is the default of `k`. -/
def tcons {α : Type} [DecidableEq α] (d : Nat → α) (k : Nat) (v : α) (r : Tbl α) : Tbl α :=
  if v = d k then r else (k, v) :: r

/-- `t` from its first key above `k` on. -/
def tcut {α : Type} (k : Nat) : Tbl α → Tbl α
  | [] => []
  | (j, v) :: r => if j ≤ k then tcut k r else (j, v) :: r

/-- `t` with `v` at key `k`, in canonical form. -/
def tput {α : Type} [DecidableEq α] (d : Nat → α) : Tbl α → Nat → α → Tbl α
  | [], k, v => tcons d k v []
  | (j, w) :: r, k, v =>
    if k < j then tcons d k v ((j, w) :: r)
    else if j = k then tcons d k v (tcut k r)
    else (j, w) :: tput d r k v

/-- Every key of `t` is above `b`, the keys rise strictly, and no listed value is its key's default. -/
def tcanonAbove {α : Type} [DecidableEq α] (d : Nat → α) : Option Nat → Tbl α → Bool
  | _, [] => true
  | b, (j, v) :: r => (match b with | none => true | some n => decide (n < j)) && decide (v ≠ d j) && tcanonAbove d (some j) r

/-- The canonical form of a store. -/
def tcanon {α : Type} [DecidableEq α] (d : Nat → α) (t : Tbl α) : Bool := tcanonAbove d none t

/-- The value at `k` changed by `f`. -/
def tmod {α : Type} [DecidableEq α] (d : Nat → α) (t : Tbl α) (k : Nat) (f : α → α) : Tbl α :=
  tput d t k (f (tget d t k))

/-- The keys listed, in rising order. -/
def tkeys {α : Type} (t : Tbl α) : List Nat := t.map (·.1)

end Sys2Proof.Machine
end

