-- ==== Sys2Proof/Machine/Ops.lean ====
section
/-! DEFINITION. The named operations over State: time, registers, counters, table memory, events and outputs. -/
namespace Sys2Proof.Machine

/-! ### Time (00 R8): a DTS is counted in ticks of 2^-16 ns since second zero -/

/-- n nanoseconds in ticks. -/
def ns (n : Nat) : Nat := n * 65536
/-- n microseconds in ticks. -/
def us (n : Nat) : Nat := n * 65536000
/-- n milliseconds in ticks. -/
def ms (n : Nat) : Nat := n * 65536000000
/-- n seconds in ticks. -/
def sec (n : Nat) : Nat := n * 65536000000000
/-- The seconds field of a DTS. -/
def secOf (t : Nat) : Nat := t / 65536000000000
/-- The nanoseconds field of a DTS. -/
def nsOf (t : Nat) : Nat := t / 65536 % 1000000000
/-- The 96-bit form of a DTS (R8): seconds, nanoseconds, fraction. -/
def dts96 (t : Nat) : Nat := secOf t * 2 ^ 48 + nsOf t * 65536 + t % 65536
/-- The ticks of a 96-bit DTS. -/
def ofDts96 (d : Nat) : Nat := sec (d / 2 ^ 48) + (d % 2 ^ 48)
/-- A time written with fewer fraction bits is extended with zeros (R9): here, whole nanoseconds. -/
def secNs (s n : Nat) : Nat := sec s + ns n

/-- The device count reaches the DTS of a step; it never goes back (00 R8; 11 R364). (DESIGN CHOICE, log entry 1) -/
def State.at_ (s : State) (t : Nat) : State := { s with dts := max s.dts t }

/-! ### Bit fields -/

/-- The w bits of x from bit lo. -/
def bits (x lo w : Nat) : Nat := x / 2 ^ lo % 2 ^ w
/-- Bit b of x. -/
def bit (x b : Nat) : Bool := x.testBit b
/-- A Bool as a bit. -/
def b2n (b : Bool) : Nat := if b then 1 else 0
/-- x with its w bits from bit lo replaced by v. -/
def setBits (x lo w v : Nat) : Nat :=
  x % 2 ^ lo + (v % 2 ^ w) * 2 ^ lo + x / 2 ^ (lo + w) * 2 ^ (lo + w)
/-- The signed value of a w-bit field. -/
def sext (x w : Nat) : Int := if x % 2 ^ w < 2 ^ (w - 1) then (x % 2 ^ w : Nat) else (x % 2 ^ w : Nat) - (2 ^ w : Nat)
/-- The w-bit field of a signed value. -/
def toField (x : Int) (w : Nat) : Nat := (x % (2 ^ w : Nat)).toNat
/-- The n bytes of x, least significant first. -/
def leBytes : Nat → Nat → List Byte
  | 0, _ => []
  | n + 1, x => BitVec.ofNat 8 x :: leBytes n (x / 256)
/-- The value of bytes, least significant first. -/
def ofLe : List Byte → Nat
  | [] => 0
  | b :: r => b.toNat + 256 * ofLe r
/-- The value of bytes, most significant first (R7). -/
def ofBe (l : List Byte) : Nat := l.foldl (fun a b => a * 256 + b.toNat) 0
/-- The n bytes of x, most significant first (R7). -/
def beBytes (n x : Nat) : List Byte := (leBytes n x).reverse
/-- The bytes [o, o + n) of a little-endian record. -/
def recBytes (x o n : Nat) : Nat := bits x (8 * o) (8 * n)
/-- A value placed at byte o of a little-endian record. -/
def atByte (o v : Nat) : Nat := v * 2 ^ (8 * o)
/-- x held at m, the top of a saturating count. -/
def sat (m x : Nat) : Nat := min m x

/-! ### Registers (00 R3, R4) -/

/-- The instance numbers of an offset within a family at base, n1 × s1 and n2 × s2; none where it names no word. -/
def famIndex (a base n1 s1 n2 s2 : Nat) : Option (Nat × Nat) :=
  if a < base then none else
  let o := a - base
  let i := if n1 = 1 then 0 else o / s1
  let r := o - i * s1
  let j := if n2 = 1 then 0 else r / s2
  if i < n1 ∧ j < n2 ∧ r = j * s2 then some (i, j) else none

/-- The register at a BAR0 offset, with its instance numbers. -/
def rowAt (a : Nat) : Option (RegRow × Nat × Nat) :=
  match blockOf a with
  | none => none
  | some k => (blockRows k).findSome? fun r =>
      (famIndex a r.base r.n1 r.s1 r.n2 r.s2).map fun (i, j) => (r, i, j)

/-- The reset value of a row's word from its fields. -/
def rowReset (r : RegRow) : Nat := r.fields.foldl (fun x f => setBits x f.lo f.w f.reset) 0

/-- The PWR_IN_CFG word of Table PKG-2 (21 R597) for a conditioned input: STUCK_LVL, G minus 1, N, W, QUIET, STUCK. -/
def pwrInReset (n : Nat) : Nat :=
  let w (m nn ww q st : Nat) := 1 + m * 2 ^ 1 + nn * 2 ^ 5 + ww * 2 ^ 11 + q * 2 ^ 15 + st * 2 ^ 19
  if n < 32 then w 2 16 7 10 0
  else if n < 48 then w 2 16 2 3 11
  else if n < 53 then w 15 4 10 10 0
  else if n = 53 then w 2 4 7 10 5
  else 0

/-- A word of the capability descriptor (17 Table HST-5). -/
def cdfWord (i : Nat) : Nat :=
  match i with
  | 0 => 0x01000000
  | 1 => 0xA2 + 2 ^ 8 * b2n Config.grade + 2 ^ 9 * b2n Config.debugLock
  | 2 => Config.fwVer.toNat
  | 3 => Config.libVer.toNat
  | 4 => 4
  | 6 => 0x01000000
  | 7 => 1
  | 8 => 0x01000000
  | 9 => 2
  | 10 => 0x01000200
  | 11 => 3
  | 12 => 0x01000000
  | 32 => 36
  | 33 => 131072
  | 34 => 65536
  | 35 => 4096
  | 36 => 256
  | 37 => 40960
  | 38 => 32
  | 39 => 8
  | _ => 0

/-- The reset value of the register word at a BAR0 offset: its map's, with the words whose reset depends on the instance or a fuse (SYS_ID,
SYS_CDF, PWR_BOOT, MNT_TEMP_CFG, SYS_IRQ_VEC, TIM_LREF_MAP, PLZ_SLOT_MAP, QUE_SLOT_MAP, QUE_PUSH_MAP, QUE_GRP_CFG, PWR_IN_CFG). (PRESUMED,
log entry 9) -/
def resetWord (a : Nat) : Word :=
  BitVec.ofNat 32 <|
  match rowAt a with
  | none => 0
  | some (r, i, _) =>
    let x := rowReset r
    match r.rk with
    | 1 => x + i
    | 2 => i
    | 3 => setBits x 0 6 i
    | 4 => if i < 12 then i + 2 ^ 12 else 0
    | 5 => if i < 4 then 12 + i + 2 ^ 12 else 0
    | 6 => setBits x 0 2 (if i < 2 then 2 else if i < 128 then 1 else 0)
    | 7 => pwrInReset i
    | 8 => 100 + 5 * b2n Config.grade
    | 9 => cdfWord i
    | 10 => x + 2 ^ 8 * b2n Config.grade + 2 ^ 9 * b2n Config.debugLock
    | 11 => x + 2 ^ 24 * Config.secMin.toNat
    | _ => x

/-- The stored word at a BAR0 offset. -/
def State.word (s : State) (a : Nat) : Word := tget resetWord s.regs a
/-- The stored word at a BAR0 offset, as a number. -/
def State.wordN (s : State) (a : Nat) : Nat := (s.word a).toNat
/-- The word at an offset replaced. -/
def State.setWord (s : State) (a : Nat) (w : Nat) : State :=
  { s with regs := tput resetWord s.regs a (BitVec.ofNat 32 w) }
/-- A register field's value. -/
def State.rget (s : State) (f : RF) : Nat := bits (s.wordN f.addr) f.lo f.w
/-- A one-bit register field. -/
def State.rbit (s : State) (f : RF) : Bool := s.rget f ≠ 0
/-- A register field replaced, its word's other bits kept. -/
def State.rset (s : State) (f : RF) (v : Nat) : State := s.setWord f.addr (setBits (s.wordN f.addr) f.lo f.w v)
/-- A one-bit field set to a Bool. -/
def State.rsetb (s : State) (f : RF) (b : Bool) : State := s.rset f (b2n b)
/-- A DTS written into three consecutive words, low word first. (DEDUCED, log entry 13) -/
def State.setDtsWords (s : State) (a t : Nat) : State :=
  let d := dts96 t
  ((s.setWord a (bits d 0 32)).setWord (a + 4) (bits d 32 32)).setWord (a + 8) (bits d 64 32)
/-- A DTS read from three consecutive words. (DEDUCED, log entry 13) -/
def State.dtsWords (s : State) (a : Nat) : Nat :=
  s.wordN a + s.wordN (a + 4) * 2 ^ 32 + s.wordN (a + 8) * 2 ^ 64

/-- A 48-bit counter (R5). -/
def State.cget (s : State) (a : Nat) : Nat := tget (fun _ => 0) s.ctrs a
/-- A counter advanced by n, wrapping at 48 bits (R5). -/
def State.cadd (s : State) (a n : Nat) : State :=
  { s with ctrs := tput (fun _ => 0) s.ctrs a ((s.cget a + n) % 2 ^ 48) }
/-- A counter advanced by one. -/
def State.cinc (s : State) (a : Nat) : State := s.cadd a 1

/-! ### Outputs, free values -/

/-- Something leaves the device. (DESIGN CHOICE, log entry 11) -/
def State.emit (s : State) (o : Out) : State := { s with out := o :: s.out }
/-- A value the spec leaves open: the model's count of uses advances and the value is whatever Config gives it.
(DESIGN CHOICE, log entry 10; DESIGN CHOICE, log entry 37) -/
def State.fresh (s : State) (w : Nat) : State × Nat :=
  ({ s with freeCtr := s.freeCtr + 1 }, (Config.freeValue s.freeCtr).toNat % 2 ^ w)

/-! ### Table memory: bytes, canonical, a byte nothing has written reads zero -/

/-- A byte of a memory. -/
def mget (m : List Host.Cell) (a : Nat) : Byte := tget (fun _ => 0) m a
/-- A byte of a memory written. -/
def mput (m : List Host.Cell) (a : Nat) (b : Byte) : List Host.Cell := tput (fun _ => 0) m a b
/-- n bytes from a, little-endian. -/
def mread (m : List Host.Cell) (a n : Nat) : Nat := ofLe ((List.range n).map fun k => mget m (a + k))
/-- A run of bytes written from a. -/
def mputs : List Host.Cell → Nat → List Byte → List Host.Cell
  | m, _, [] => m
  | m, a, b :: r => mputs (mput m a b) (a + 1) r
/-- n bytes of v written from a, little-endian. -/
def mwrite (m : List Host.Cell) (a n v : Nat) : List Host.Cell := mputs m a (leBytes n v)

/-- The canonical form of a byte memory: rising addresses, no listed zero. -/
def Memory.wf (m : List Host.Cell) : Bool := tcanon (fun _ => (0 : Byte)) m

/-! ### Staged bytes: a write stays listed whatever its value -/

/-- The staged byte at a key, if the run wrote one. -/
def sget (l : List (Nat × Byte)) (k : Nat) : Option Byte := (l.find? fun p => p.1 = k).map (·.2)
/-- A staged byte. -/
def sput (l : List (Nat × Byte)) (k : Nat) (b : Byte) : List (Nat × Byte) := (k, b) :: l.filter fun p => p.1 ≠ k
/-- Staged bytes from key k. -/
def sputs : List (Nat × Byte) → Nat → List Byte → List (Nat × Byte)
  | l, _, [] => l
  | l, k, b :: r => sputs (sput l k b) (k + 1) r

/-! ### Events (14 R441) -/

/-- The default SEV of a code (14 Table PMN-7); the codes of 0x8000 up carry theirs at each place. -/
def defaultSev (code : Nat) : Nat :=
  if code < 0x1000 then 5
  else if code < 0x2000 then
    (if bit code 10 then (if bit code 11 then 1 else 3) else 4)
  else if code < 0x3000 then 3
  else if code < 0x4000 then 1
  else if code = 0x4001 then 2 else if code = 0x4002 then 4 else if code = 0x4003 then 2
  else if code = 0x4010 then 3
  else if code < 0x5800 then 2
  else if code < 0x6000 then 5
  else if code = 0x6001 ∨ code = 0x6002 then 5 else if code = 0x6003 then 3
  else if code = 0x6010 then 5 else if code = 0x6011 then 2
  else if code = 0x6020 then 3 else if code = 0x6021 then 2
  else if code = 0x6030 then 2 else if code = 0x6031 then 4 else if code = 0x6032 then 3
  else if code = 0x7001 then 3
  else 5

/-- A record is offered to the event logger; it is numbered by a later EVENT_LOG (R442). -/
def State.offer (s : State) (e : EvRec) : State := { s with evl := { s.evl with pend := s.evl.pend ++ [e] } }
/-- An event with the default SEV of its code. -/
def State.log (s : State) (t code src detail : Nat) : State := s.offer ⟨t, defaultSev code, code, src, detail % 2 ^ 48⟩
/-- An event with a stated SEV. -/
def State.logSev (s : State) (t sev code src detail : Nat) : State := s.offer ⟨t, sev, code, src, detail % 2 ^ 48⟩

/-! ### The pair role (16 Table RED-8) -/

/-- The pair role: 0 SOLO, 1 STANDBY, 2 ACTIVE, 3 ORPHAN, 4 FENCED. -/
def State.role (s : State) : Nat := s.rget Reg.KSK_PAIR_STAT_ROLE
/-- The contexts of a logical slot are held: its Avenue is fenced, and no slot move goes on without it (07 R221), or it is seeding
(16 R466). -/
def State.slotHeld (s : State) (sl : Nat) : Bool :=
  decide (sl < 32) && ((s.rbit (Reg.PLZ_SLOT_MAP_FENCED sl) && !s.plz.moves.any fun p => p.2.live && p.2.slotMove == some sl) ||
    s.rget (Reg.AVE_MED_STAT_STATE (s.rget (Reg.PLZ_SLOT_MAP_PHYS sl))) == 5)
/-- The device transmits and its contexts run. -/
def State.roleRuns (s : State) : Bool := s.role != 1 && s.role != 4

end Sys2Proof.Machine
end

