-- ==== Sys2Proof/Machine/Arith.lean ====
section
/-! DEFINITION. Fractions, and the cyclic redundancy check of 15 R450. -/
namespace Sys2Proof.Machine
open Sys2Proof

/-- A fraction in lowest terms. -/
def qmk (n : Int) (d : Nat) : Q :=
  let g := Nat.gcd n.natAbs d
  if g = 0 then ⟨n, 1⟩ else ⟨n / (g : Int), d / g⟩
/-- A whole number. -/
def qint (n : Int) : Q := ⟨n, 1⟩
/-- Sum. -/
def qadd (a b : Q) : Q := qmk (a.num * b.den + b.num * a.den) (a.den * b.den)
/-- Difference. -/
def qsub (a b : Q) : Q := qmk (a.num * b.den - b.num * a.den) (a.den * b.den)
/-- Product. -/
def qmul (a b : Q) : Q := qmk (a.num * b.num) (a.den * b.den)
/-- Quotient; zero where b is zero. -/
def qdiv (a b : Q) : Q :=
  if b.num = 0 then qint 0 else qmk (a.num * b.den * (if b.num < 0 then -1 else 1)) (a.den * b.num.natAbs)
/-- The greatest whole number not above a. -/
def qfloor (a : Q) : Int := a.num / (a.den : Int)
/-- Order. -/
def qle (a b : Q) : Bool := decide (a.num * b.den ≤ b.num * a.den)
/-- a below b. -/
def qlt (a b : Q) : Bool := decide (a.num * b.den < b.num * a.den)
/-- Magnitude. -/
def qabs (a : Q) : Q := ⟨a.num.natAbs, a.den⟩
/-- The sum of a list. -/
def qsum (l : List Q) : Q := l.foldl qadd (qint 0)

/-- The slope of the least-squares line through points (x, y); none where it is not determined. -/
def lsqSlope (l : List (Int × Q)) : Option Q :=
  let n : Int := l.length
  let sx := l.foldl (fun a p => a + p.1) 0
  let sxx := l.foldl (fun a p => a + p.1 * p.1) 0
  let sy := qsum (l.map (·.2))
  let sxy := qsum (l.map fun p => qmul (qint p.1) p.2)
  let den := n * sxx - sx * sx
  if den = 0 then none else some (qdiv (qsub (qmul (qint n) sxy) (qmul (qint sx) sy)) (qint den))

/-- The w bits of x in reverse order. -/
def reflect (w x : Nat) : Nat := (List.range w).foldl (fun a i => 2 * a + b2n (x.testBit i)) 0

/-- The parameters of R450. -/
structure CrcP where
  w : Nat
  poly : Nat
  init : Nat
  refin : Bool
  refout : Bool
  xorout : Nat
  deriving DecidableEq, Repr

/-- One bit of R450. -/
def crcStep (w poly r : Nat) (b : Bool) : Nat :=
  let x := (2 * r) % 2 ^ w
  if r.testBit (w - 1) != b then x ^^^ (poly % 2 ^ w) else x
/-- One byte of R450. -/
def crcByte (p : CrcP) (r : Nat) (b : Byte) : Nat :=
  let x := if p.refin then reflect 8 b.toNat else b.toNat
  [7, 6, 5, 4, 3, 2, 1, 0].foldl (fun r i => crcStep p.w p.poly r (x.testBit i)) r
/-- The value of a check unit (R450, R451). -/
def crc (p : CrcP) (l : List Byte) : Nat :=
  let r := l.foldl (crcByte p) (p.init % 2 ^ p.w)
  (if p.refout then reflect p.w r else r) ^^^ (p.xorout % 2 ^ p.w)

/-- CRC-16 of 08 R233. -/
def crc16 : CrcP := ⟨16, 0x1021, 0xFFFF, false, false, 0⟩
/-- CRC-32 of 08 R233. -/
def crc32 : CrcP := ⟨32, 0x04C11DB7, 0xFFFFFFFF, true, true, 0xFFFFFFFF⟩
/-- CRC-8 of 11 Table TIM-5. -/
def crc8 : CrcP := ⟨8, 0x07, 0, false, false, 0⟩

end Sys2Proof.Machine
end

