-- ==== Sys2Proof/Machine/Flags.lean ====
section
/-! DEFINITION. LIVE, STATUS and ENABLE registers (00 R608), the interrupt roll-up (17 R519) and the MSI-X causes
(17 R520), and how a step ends. -/
namespace Sys2Proof.Machine
open Sys2Proof

/-- What a STATUS register has seen. -/
def State.statRec (s : State) (a : Nat) : StatRec := tget (fun _ => {}) s.stat a

/-- The block of a STATUS register's offset; none for any other offset. -/
def statusBlock (a : Nat) : Option Nat :=
  statusFams.findSome? fun (k, base, n1, s1, n2, s2) => (famIndex a base n1 s1 n2 s2).map fun _ => k

/-- The earliest DTS of a list of settings. -/
def firstSet (l : List (Nat × Nat)) : Option Nat :=
  l.foldl (fun m p => match m with | none => some p.2 | some x => some (min x p.2)) none

/-- The word of a list of settings. -/
def setsWord (l : List (Nat × Nat)) : Nat := l.foldl (fun x p => x ||| 2 ^ p.1) 0

/-- What a STATUS register has seen, replaced. -/
def State.setStat (s : State) (a : Nat) (r : StatRec) : State := { s with stat := tput (fun _ => {}) s.stat a r }

/-- Hardware sets bit b of the STATUS register at a, at DTS t (R608). A setting earlier than a write that has a one in the
bit counts as cleared, in whichever order the two are seen. (DEDUCED, log entry 14) -/
def State.statSet (s : State) (a b t : Nat) : State :=
  let r := s.statRec a
  if r.clrs.any (fun p => p.1 = b ∧ t < p.2) then s else
  let was := s.wordN a
  let s1 := s.setStat a { r with sets := (b, t) :: r.sets }
  let s2 := s1.setWord a (was ||| 2 ^ b)
  if was = 0 ∨ t < ofDts96 (s.dtsWords (a + 4)) then s2.setDtsWords (a + 4) t else s2

/-- A host write of v to the STATUS register at a, at DTS t (R608): a bit written with one shows only settings at or after t, every other
bit stays. (DEDUCED, log entry 14) -/
def State.statWrite (s : State) (a v t : Nat) : State :=
  let r := s.statRec a
  let keep := r.sets.filter fun p => ¬ (bit v p.1 ∧ p.2 < t)
  let ones := (List.range 32).filter fun b => bit v b
  let clrs := ones.map (fun b => (b, (r.clrs.find? fun p => p.1 = b).elim t fun p => max t p.2))
    ++ r.clrs.filter fun p => ¬ bit v p.1
  let s1 := s.setStat a ⟨keep, clrs⟩
  let s2 := s1.setWord a ((s.wordN a &&& (2 ^ 32 - 1 - v % 2 ^ 32)) ||| (setsWord keep &&& v))
  match firstSet keep with
  | some m => if t ≤ m then s2.setDtsWords (a + 4) m else s2
  | none => s2

/-- The event code of bit b of a LIVE register of block k (14 Table PMN-7). -/
def liveCode (k b : Nat) (on : Bool) : Nat := 0x2000 + k * 256 + b2n on * 128 + b

/-- A LIVE bit takes a level at DTS t: a change is logged with the instance and the BAR0 offset of the register, and a
rise sets the STATUS bit. -/
def State.liveRaw (s : State) (t : Nat) (f : RF) (src : Nat) (on : Bool) : State :=
  if s.rbit f = on then s else
  let s1 := (s.rsetb f on).log t (liveCode ((blockOf f.addr).getD 0) f.lo on) src f.addr
  if on then s1.statSet (f.addr + 4) f.lo t else s1

/-- QUE_GRP_SUM and QUE_LIVE.GRP_EVENT follow the STATUS register of queue group g (12 R398). -/
def State.grpSum (s : State) (t g : Nat) : State :=
  let f : RF := ⟨Reg.QUE_GRP_SUM (g / 32), g % 32, 1⟩
  let s1 := s.rsetb f (s.wordN (Reg.QUE_GRP_STATUS g) ≠ 0)
  s1.liveRaw t Reg.QUE_LIVE_GRP_EVENT 0 ((List.range 8).any fun w => s1.wordN (Reg.QUE_GRP_SUM w) ≠ 0)

/-- What follows a change of the STATUS register at a: the group summary, for a queue group. -/
def State.statFollow (s : State) (t a : Nat) : State :=
  match famIndex a (Reg.QUE_GRP_STATUS 0) 256 0x40 1 4 with
  | some (g, _) => s.grpSum t g
  | none => s

/-- A LIVE bit takes a level at DTS t. -/
def State.live (s : State) (t : Nat) (f : RF) (src : Nat) (on : Bool) : State :=
  (s.liveRaw t f src on).statFollow t (f.addr + 4)

/-- A STATUS bit that has no LIVE level is set. -/
def State.sticky (s : State) (t : Nat) (f : RF) : State := (s.statSet (f.addr + 4) f.lo t).statFollow t (f.addr + 4)

/-- A LIVE bit that shows a happening of the last d ticks: it rises, or stays up longer; each happening is a setting of
the STATUS bit. (DEDUCED, log entry 15) -/
def State.pulseFor (s : State) (t : Nat) (f : RF) (src d : Nat) : State :=
  let s1 := (s.live t f src true).statSet (f.addr + 4) f.lo t
  { s1 with pulses := ⟨f.addr, f.lo, t + d⟩ :: s1.pulses.filter fun p => ¬ (p.addr = f.addr ∧ p.bit = f.lo) }

/-- A LIVE bit of the "in the last 1 ms" kind. -/
def State.pulse (s : State) (t : Nat) (f : RF) (src : Nat) : State := s.pulseFor t f src (ms 1)

/-- A refusal is recorded (R504): entry SYS_VIOL_CNT mod 64 of the log takes Table HST-2, the count advances, and the
host sees VIOLATION, with LOG_WRAP where the entry overwritten was unread. (DEDUCED, log entry 15) -/
def State.violate (s : State) (t : Nat) (a : Access) (write : Bool) (reason : Nat) (ca : Bool) : State :=
  let c := s.wordN Reg.SYS_VIOL_CNT
  let n := c % 64
  let e := Reg.SYS_VIOL_LOG n 0
  let c1 := (c + 1) % 2 ^ 32
  let s1 := (((s.setWord e (bits a.off 0 32)).setWord (e + 4) (bits a.off 32 32)).setWord (e + 8)
    (a.req % 65536 + (a.bar % 4 + b2n write * 4) * 2 ^ 16 + reason * 2 ^ 24)).setWord (e + 12)
    (a.size % 65536 + b2n ca * 2 ^ 16)
  let s2 := ((s1.setDtsWords (e + 16) t).setWord (e + 28) c1).setWord Reg.SYS_VIOL_CNT c1
  let s3 := s2.pulse t Reg.SYS_LIVE_VIOLATION 0
  let s4 := if s.violUnread.getLsbD n then s3.pulse t Reg.SYS_LIVE_LOG_WRAP 0 else s3
  { s4 with violUnread := s4.violUnread ||| (1 <<< n) }

/-- A refused access completes with UR or CA and is recorded (R503, R504). -/
def State.refuse (s : State) (t : Nat) (a : Access) (write : Bool) (reason : Nat) (ca : Bool) : State :=
  (s.violate t a write reason ca).emit (.refused a.tag ca)

/-- The power domain that holds a register: Overhead Access and Side Street ports in PX0, check-value units in PX1, line lanes in their
SerDes block, pace registers in their Avenue half (19 Table PWR-1). (DESIGN CHOICE, log entry 93) -/
def regDomain (off : Nat) : Option Nat :=
  if 0x200000 ≤ off ∧ off < 0x240000 then some 97
  else if 0x1CD000 ≤ off ∧ off < 0x1CD200 then some 97
  else if 0x240000 ≤ off ∧ off < 0x280000 then some 98
  else if 0xD8000 ≤ off ∧ off < 0xDC000 then some (72 + (off - 0xD8000) / 0x800)
  else if 0x80000 ≤ off ∧ off < 0xA4000 ∧ 0x100 ≤ off % 0x800 ∧ off % 0x800 < 0x140 then some ((off - 0x80000) / 0x1000 * 2 + off % 0x1000 / 0x800)
  else none
/-- A power domain is ON (19 R539). -/
def State.domOn (s : State) (d : Nat) : Bool := s.rget (Reg.PWR_DOM_STATE d) == 2

/-- Why R503 refuses an access to BAR0 or a write to BAR2: the REASON of Table HST-2, and whether with CA. -/
def State.accessFault (s : State) (a : Access) : Option (Nat × Bool) :=
  if a.bar ≠ 0 then some (2, false)
  else if 0x380000 ≤ a.off then some (1, false)
  else if ¬ (a.size = 4 ∨ a.size = 8) ∨ a.off % a.size ≠ 0 then some (3, true)
  else match regDomain a.off with
    | some d => if s.domOn d then none else some (7, true)
    | none => none
/-- A host access acts as f unless R503 refuses it. -/
def hostAccess (t : Nat) (a : Access) (write : Bool) (f : State → State) (s : State) : State :=
  match s.accessFault a with
  | some (r, ca) => s.refuse t a write r ca
  | none => f s

/-- SYS_IRQ_STATUS as R519 defines it: bit k while a STATUS bit of block k is set whose ENABLE bit is set. -/
def rollup (regs : Tbl Word) : BitVec 16 :=
  regs.foldl (fun x p =>
    match statusBlock p.1 with
    | some k => if p.2 &&& tget resetWord regs (p.1 + 0x10) = 0 then x else x ||| (1 <<< k)
    | none => x) 0

/-- The cause of each vector (R520) under a roll-up: the OR of the blocks that name it and are not masked. -/
def causes (regs : Tbl Word) (st : BitVec 16) : BitVec 64 :=
  (List.range 16).foldl (fun x k =>
    let w := (tget resetWord regs (Reg.SYS_IRQ_VEC k)).toNat
    if st.getLsbD k ∧ ¬ bit w 6 then x ||| (1 <<< (w % 64)) else x) 0

/-- The MSI-X table masks vector v. -/
def State.vecMasked (s : State) (v : Nat) : Bool := s.rbit (Reg.MSIX_CTRL_MASK v)

/-- The message of vector v. -/
def State.msixOut (s : State) (v : Nat) : Out :=
  .msix v (s.wordN (Reg.MSIX_ADDR_LO v) + s.wordN (Reg.MSIX_ADDR_HI v) * 2 ^ 32) (s.wordN (Reg.MSIX_DATA v))

/-- Vector v's message is sent, or its pending bit set while it is masked (R520). -/
def State.msixSend (s : State) (v : Nat) : State :=
  if s.vecMasked v then { s with irq := { s.irq with pba := s.irq.pba ||| (1 <<< v) } } else s.emit (s.msixOut v)

/-- The end of every step: the roll-up and the causes follow the registers, and every armed vector whose cause is 1 sends
and is armed no more (R519, R520). -/
def State.settle (s : State) : State :=
  let st := rollup s.regs
  let c := causes s.regs st
  let fire := c &&& s.irq.armed
  let s1 := if fire = 0 then s else ((List.range 64).filter fun v => fire.getLsbD v).foldl State.msixSend s
  { s1 with irq := { s1.irq with status := st, cause := c, armed := s.irq.armed &&& ~~~fire } }

/-! ### The end of a step -/

/-- A store in its canonical form: itself, or one built again that reads the same at every key. -/
def tidyT {α : Type} [DecidableEq α] (d : Nat → α) (t : Tbl α) : Tbl α := if tcanon d t then t else (tkeys t).foldl (fun m k => tput d m k (tget d t k)) []
/-- The canonical form of the stores: registers, counters, the trail table, the Underpass memory, the contexts. -/
def State.wf (s : State) : Bool :=
  tcanon resetWord s.regs && tcanon (fun _ => 0) s.ctrs && Memory.wf s.jrm.trail && Memory.wf s.und.mem &&
    tcanon (fun _ => ({} : CtxH)) s.jrm.ctx
/-- The state with its stores in canonical form: equal contents are equal data after every step. -/
def State.tidy (s : State) : State :=
  if s.wf then s else
  { s with regs := tidyT resetWord s.regs, ctrs := tidyT (fun _ => 0) s.ctrs,
           jrm := { s.jrm with trail := tidyT (fun _ => 0) s.jrm.trail, ctx := tidyT (fun _ => {}) s.jrm.ctx },
           und := { s.und with mem := tidyT (fun _ => 0) s.und.mem } }
/-- A step from s whose effect has made z ends at count n: the interrupts settle, and the waiting commands are no business of a step. -/
def State.ended (s z : State) (n : Nat) : State := { z.tidy.settle with dts := n, pending := s.pending }
/-- A step at DTS t with effect f: the count reaches t, f acts, the step ends. No step but those that set the time moves the count
otherwise. (DESIGN CHOICE, log entry 1; DESIGN CHOICE, log entry 2; DESIGN CHOICE, log entry 121) -/
def event (t : Nat) (f : State → State) (s : State) : Host.Outcome State Fault Refusal := .next (s.ended (f (s.at_ t)) (s.at_ t).dts)
/-- A step that sets the device count itself (11 R364, 19 R542): f says what it becomes. -/
def timeEvent (t : Nat) (f : State → State) (s : State) : Host.Outcome State Fault Refusal := .next (s.ended (f (s.at_ t)) (f (s.at_ t)).dts)

end Sys2Proof.Machine
end

