-- ==== Sys2Proof/Machine/Queues.lean ====
section
/-! DEFINITION. Queues, host slots, watermarks and XOFF (12 R372 to R389). -/
namespace Sys2Proof.Machine
open Sys2Proof

/-- The queues of fixed role before any command (12 R372, Table QUE-1, Table QUE-7); every other queue is unused. -/
def QueH.dflt (q : Nat) : QueH :=
  if q < 8 then { mode := 1, producer := 6, consumer := 2, group := 0, cap := 262144 }
  else if q < 12 then { mode := 1, producer := 6, consumer := 2, group := 1, cap := 4096 }
  else if q < 16 then { mode := 1, producer := 3, consumer := 6, group := 1, cap := 4096 }
  else {}

/-- A queue. -/
def State.q (s : State) (q : Nat) : QueH := tget QueH.dflt s.que.qs q

/-- Depth (R372): visible items and sealed markers, words of packets being built, items popped by an uncommitted run. -/
def QueH.depth (h : QueH) : Nat := h.items.length + h.build.length + h.taken
/-- Full (R372), or behaving as full (R287). -/
def QueH.full (h : QueH) : Bool := h.spillFull || decide (h.cap ≤ h.depth + 1)

/-! ### Watermarks and XOFF (R387 to R389) -/

/-- LOW as the device takes it (R387). -/
def State.lowMark (s : State) (g : Nat) : Nat :=
  let hi := s.wordN (Reg.QUE_GRP_HIGH g)
  let lo := s.wordN (Reg.QUE_GRP_LOW g)
  if hi ≤ lo then hi - 1 else lo

/-- Some group holds pin n asserted (R388). -/
def State.xoffHeld (s : State) (n : Nat) : Bool :=
  (List.range 256).any fun g => s.rbit (Reg.QUE_GRP_LIVE_XOFF g) && s.rbit (Reg.QUE_GRP_CFG_XOFF_OUT_EN g) &&
    s.rget (Reg.QUE_GRP_CFG_XOFF_OUT_SEL g) == n

/-- The assertion bit of XOFF_OUTn. -/
def xoffOutBit (n : Nat) : RF := ⟨Reg.QUE_XOFF_STAT, n % 16, 1⟩

/-- XOFF_OUTn asserts (R388). -/
def State.xoffAssert (s : State) (t n : Nat) : State :=
  if s.rbit (xoffOutBit n) then s else
  let s1 := s.rsetb (xoffOutBit n) true
  { s1 with que := { s1.que with xoffAt := tput (fun _ => 0) s1.que.xoffAt n t } }

/-- XOFF_OUTn deasserts if no group holds it and MIN_HOLD has passed since its assertion (R388). -/
def State.xoffRelease (s : State) (t n : Nat) : State :=
  let hold := max 1 (s.rget Reg.QUE_XOFF_OUT_CFG_MIN_HOLD)
  if s.xoffHeld n ∨ t < tget (fun _ => 0) s.que.xoffAt n + ns (10 * hold) then s else s.rsetb (xoffOutBit n) false

/-- XOFF_OUTn follows its groups (R388). -/
def State.xoffFollow (s : State) (t n : Nat) : State := if s.xoffHeld n then s.xoffAssert t n else s.xoffRelease t n
/-- Every XOFF_OUT pin follows its groups. -/
def State.xoffFollowAll (s : State) (t : Nat) : State := (List.range 16).foldl (fun z n => z.xoffFollow t n) s

/-- A group's depth, `was` before, is held against its watermarks: it rises to HIGH or falls to LOW (R387, R389).
(DEDUCED, log entry 39) -/
def State.watermark (s : State) (t g was : Nat) : State :=
  if ¬ s.rbit (Reg.QUE_GRP_CFG_WM_EN g) then s else
  let d := s.wordN (Reg.QUE_GRP_DEPTH g)
  let pin := s.rget (Reg.QUE_GRP_CFG_XOFF_OUT_SEL g)
  let out := s.rbit (Reg.QUE_GRP_CFG_XOFF_OUT_EN g)
  if s.rbit (Reg.QUE_GRP_LIVE_XOFF g) then
    if d < was ∧ d ≤ s.lowMark g then
      let s1 := (s.live t (Reg.QUE_GRP_LIVE_XOFF g) g false).sticky t (Reg.QUE_GRP_LIVE_LOW_CROSS g)
      if out then s1.xoffRelease t pin else s1
    else s
  else if was < d ∧ s.wordN (Reg.QUE_GRP_HIGH g) ≤ d then
    let s1 := (s.live t (Reg.QUE_GRP_LIVE_XOFF g) g true).cinc (Ctr.QUE_GRP_CROSSINGS g)
    if out then s1.xoffAssert t pin else s1
  else s

/-! ### Spill (09 R286, R287, R289) -/

/-- A reservation of the Underpass by row and pair or queue group. -/
def State.rsv (s : State) (row k : Nat) : RsvH := tget (fun _ => {}) s.und.rsv (row * 65536 + k)
/-- The row of a queue group's spill reservation (Table UND-3): groups 0 and 1 row 4, then by class. -/
def State.spillRow (s : State) (g : Nat) : Nat :=
  if g < 2 then 4 else if s.rget (Reg.QUE_GRP_CFG_CLASS g) = 0 then 8 else if s.rget (Reg.QUE_GRP_CFG_CLASS g) = 1 then 7 else 4
/-- The items of a queue held on-die. (DESIGN CHOICE, log entry 41) -/
def onDie : Nat := Config.onDieLess1 + 1
/-- The items of group g beyond the on-die head and tail of their queues. (DESIGN CHOICE, log entry 41) -/
def State.spilled (s : State) (g : Nat) : Nat := ((s.que.qs.filter fun p => p.2.group == g).map fun p => p.2.depth - onDie).sum
/-- The share of group g is exhausted: its reservation is broken, short of bandwidth, or out of pages. -/
def State.shareOut (s : State) (g : Nat) : Bool :=
  let r := s.rsv (s.spillRow g) g
  r.broken || r.short || decide (65536 * r.pages.length ≤ s.spilled g)
/-- A queue behaves as full under R287: its on-die head and tail are full and its group's share is exhausted. -/
def State.spillOut (s : State) (h : QueH) : Bool := decide (onDie ≤ h.depth) && s.shareOut h.group

/-- Some queue of group g has a marker open. -/
def State.grpMarker (s : State) (g : Nat) : Bool := s.que.qs.any fun p => p.2.group = g ∧ p.2.marker.isSome
/-- Some queue of group g behaves as full under R287. -/
def State.grpSpill (s : State) (g : Nat) : Bool := s.que.qs.any fun p => p.2.group = g ∧ p.2.spillFull

/-- Queue q becomes h: the one place a queue changes. Its peak, its group's depth, watermarks and LIVE bits, and the event
logger's Q_DROP follow. (DEDUCED, log entry 39) -/
def State.qset (s : State) (t q : Nat) (h : QueH) : State :=
  let old := s.q q
  let s0 := { s with que := { s.que with qs := tput QueH.dflt s.que.qs q h } }
  let h1 := { h with peak := max h.peak h.depth, spillFull := s0.spillOut h }
  let g := h.group
  let s1 := { s with que := { s.que with qs := tput QueH.dflt s.que.qs q h1 } }
  let s2 := s1.setWord (Reg.QUE_GRP_DEPTH g) (s1.wordN (Reg.QUE_GRP_DEPTH g) + h1.depth - old.depth)
  let s3 := s2.watermark t g (s1.wordN (Reg.QUE_GRP_DEPTH g))
  let s4 := (s3.live t (Reg.QUE_GRP_LIVE_MARKER g) g (s3.grpMarker g)).live t (Reg.QUE_GRP_LIVE_SPILL_FULL g) g (s3.grpSpill g)
  if q < 8 then
    s4.live t Reg.EVL_LIVE_Q_DROP 0 (s4.que.qs.any fun p => p.1 < 8 ∧ p.2.marker.isSome)
  else s4

/-! ### Gap markers (R377 to R379) -/

/-- The marker item of Table QUE-3. (DEDUCED, log entry 38) -/
def Marker.item (m : Marker) : QItem :=
  { data := BitVec.ofNat 256 (6 + atByte 1 (b2n m.full + 2 * b2n m.pkt + 4 * b2n m.spill + 8 * b2n m.ue)
      + atByte 4 m.count + atByte 8 (dts96 m.first) + atByte 20 (dts96 m.last)),
    kind := 6, dts := m.first, vis := m.last }

/-- A drop at a full queue opens or extends the marker (R377). (DEDUCED, log entry 38) -/
def QueH.mark (h : QueH) (t : Nat) (pkt : Bool) : QueH :=
  let m : Marker := match h.marker with
    | none => { full := ¬ h.spillFull, pkt := pkt, spill := h.spillFull, count := 1, first := t, last := t }
    | some m => { m with full := m.full || ¬ h.spillFull, pkt := m.pkt || pkt, spill := m.spill || h.spillFull,
                         count := sat 0xFFFFFFFF (m.count + 1), last := t }
  { h with marker := some m, dropped := (h.dropped + 1) % 2 ^ 32 }

/-- A slot is released: an open marker is sealed into it (R378). -/
def QueH.release (h : QueH) : QueH :=
  match h.marker with
  | none => h
  | some m => { h with items := h.items ++ [m.item], marker := none, markers := (h.markers + 1) % 2 ^ 32 }

/-- A drop is counted for the queue's group (R389, DROPS). -/
def State.countDrop (s : State) (t g : Nat) : State :=
  (s.cinc (Ctr.QUE_GRP_DROPS g)).sticky t (Reg.QUE_GRP_LIVE_MARKER g)

/-- A wrong kind of push is counted in DROPPED (R376). -/
def State.qwrong (s : State) (t q : Nat) : State :=
  let h := s.q q
  (s.qset t q { h with dropped := (h.dropped + 1) % 2 ^ 32 }).countDrop t h.group

/-- The number of 32-byte words of a packet of n bytes. -/
def pktWords (n : Nat) : Nat := (n + 31) / 32
/-- The kind of word k of a packet of n words (Table QUE-2). -/
def pktKind (k n : Nat) : Nat := if n ≤ 1 then 5 else if k = 0 then 2 else if k + 1 = n then 4 else 3
/-- The items of a packet whose words are given, enqueued at d and visible at v. -/
def pktItems (len : Nat) (ws : List Item256) (d v : Nat) : List QItem :=
  ws.zipIdx.map fun (w, k) => { data := w, kind := pktKind k (pktWords len), dts := d, plen := if k = 0 then len else 0, vis := v }

/-- n words of a packet that is being built leave a queue unseen (R84, R379). -/
def QueH.unbuild (h : QueH) (n : Nat) : QueH := { h with build := h.build.take (h.build.length - n) }
/-- A packet word met a full queue: the whole packet is dropped and its n stored words are rewound (R379). -/
def State.qdropPacket (s : State) (t q n : Nat) : State :=
  let h := s.q q
  let h1 := ({ h.unbuild n with frag := [] } : QueH).mark t true
  let h2 := if n = 0 then h1 else h1.release
  (s.qset t q h2).countDrop t h.group

/-! ### Pops -/

/-- An item counts in POPPED when it is a single item or the last word of a packet. -/
def QItem.counts (i : QItem) : Bool := i.kind == 1 || i.kind == 4 || i.kind == 5

/-- The head item leaves and its slot is released. -/
def QueH.pop (h : QueH) : Option (QItem × QueH) :=
  match h.items with
  | [] => none
  | i :: r => some (i, ({ h with items := r, popped := if i.counts then (h.popped + 1) % 2 ^ 32 else h.popped } : QueH).release)

/-- The host pop record of Table QUE-5. -/
def popRecord (i : QItem) (depth : Nat) : Nat :=
  i.data.toNat + atByte 32 (dts96 i.dts) + atByte 44 i.kind + atByte 46 (i.plen % 2 ^ 15) + atByte 48 depth

/-- A host read takes the head item (R383). -/
def State.hostPop (s : State) (t q tag : Nat) : State :=
  match (s.q q).pop with
  | none => s
  | some (i, h) => (s.qset t q h).emit (.readData tag 64 (popRecord i h.depth))

/-- HOST_STALL_US as the device takes it (R384). -/
def State.hostStall (s : State) : Nat := us (min 40 (s.rget Reg.QUE_CFG_HOST_STALL_US))

/-- A push at t serves the first read that waits on the queue, if it falls inside the read's window or on its arrival (R384). -/
def State.qserve1 (s : State) (t q : Nat) : State :=
  if (s.q q).items = [] then s else
  match s.que.waits.find? fun w => w.queue = q ∧ (t = w.arrival ∨ t < w.arrival + s.hostStall) with
  | none => s
  | some w =>
    let s1 := { s with que := { s.que with waits := s.que.waits.filter fun x => x ≠ w } }
    s1.hostPop t q w.tag
/-- A push at t serves the reads that wait on the queue, the oldest first, an item each (R384). -/
def State.qserve (s : State) (t q : Nat) : State := s.que.waits.foldl (fun z _ => z.qserve1 t q) s

/-! ### Pushes (R374) -/

/-- A single item is pushed, or dropped into the marker of a full queue (R377). -/
def State.qpush (s : State) (t q : Nat) (i : QItem) : State :=
  let h := s.q q
  if h.mode ≠ 1 then s.qwrong t q
  else if h.full then (s.qset t q (h.mark t false)).countDrop t h.group
  else (s.qset t q { h with items := h.items ++ [i], pushed := (h.pushed + 1) % 2 ^ 32 }).qserve t q

/-- A whole packet is pushed word by word, or dropped whole (R376, R379). -/
def State.qpacket (s : State) (t q d len : Nat) (ws : List Item256) : State :=
  let h := s.q q
  if h.mode ≠ 2 ∨ len = 0 ∨ 16384 < len then s.qwrong t q
  else if h.spillFull ∨ h.cap < h.depth + ws.length + 1 then
    let h1 := h.mark t true
    let h2 := if h.full then h1 else h1.release
    (s.qset t q h2).countDrop t h.group
  else (s.qset t q { h with items := h.items ++ pktItems len ws d t, pushed := (h.pushed + 1) % 2 ^ 32 }).qserve t q

/-- HARDWARE_PUSH (R374, R376): a hardware source, the event logger or a Kiosk pushes to the queue it feeds. -/
def hardwarePushEffect (t q : Nat) (p : HwPush) (s : State) : State :=
  let h := s.q q
  if h.mode = 0 ∨ (h.producer ≠ 2 ∧ h.producer ≠ 6) then s else
  match p with
  | .item d => s.qpush t q { data := d, kind := 1, dts := t, vis := t }
  | .packet len ws => if h.mode = 2 then s.qpacket t q t len ws else s.qwrong t q

/-! ### Host slots (R382 to R386) -/

/-- The queue bound to pop slot i. -/
def State.popSlot (s : State) (i : Nat) : Option Nat :=
  if s.rbit (Reg.QUE_SLOT_MAP_BOUND i) then some (s.rget (Reg.QUE_SLOT_MAP_QUEUE i)) else none
/-- The queue bound to push slot i. -/
def State.pushSlot (s : State) (i : Nat) : Option Nat :=
  if s.rbit (Reg.QUE_PUSH_MAP_BOUND i) then some (s.rget (Reg.QUE_PUSH_MAP_QUEUE i)) else none

/-- A misuse of a slot: CA, the violation log, SLOT_VIOL (R383, R386). -/
def State.slotViol (s : State) (t : Nat) (a : Access) (write : Bool) : State :=
  (s.refuse t a write 5 true).pulse t Reg.QUE_LIVE_SLOT_VIOL 0

/-- A push coincident with a pop takes effect after it (R381, every depth but zero). (DEDUCED, log entry 30) -/
def State.coinPush (s : State) (t q : Nat) (c : Option Item256) : State :=
  match c with
  | none => s
  | some d => s.qpush t q { data := d, kind := 1, dts := t, vis := t }

/-- POP_SLOT_READ (R383, R384, R381): `coin` is the item of a push whose request overlaps the read's in the queue's
mutual-exclusion element. (DEDUCED, log entry 30) -/
def popSlotReadEffect (t : Nat) (a : Access) (coin : Option Item256) (s : State) : State :=
  let i := (a.off - 0x1C8000) / 0x40
  if a.bar ≠ 0 ∨ a.off < 0x1C8000 ∨ 0x1CC000 ≤ a.off then s
  else if a.off % 0x40 ≠ 0 ∨ a.size ≠ 64 then s.slotViol t a false else
  match s.popSlot i with
  | none => s.slotViol t a false
  | some q =>
    if (s.q q).consumer ≠ 2 then s.slotViol t a false
    else if (s.q q).items ≠ [] then (s.hostPop t q a.tag).coinPush t q coin
    else State.coinPush { s with que := { s.que with waits := s.que.waits ++ [⟨i, q, t, a.tag⟩] } } t q coin

/-- HOST_STALL_END (R384): the window of a waiting read ends without a push; the read returns EMPTY. -/
def hostStallEndEffect (t slot : Nat) (s : State) : State :=
  match s.que.waits.find? fun w => w.slot = slot ∧ w.arrival + s.hostStall ≤ t with
  | none => s
  | some w =>
    let s1 := { s with que := { s.que with waits := s.que.waits.filter fun x => x ≠ w } }
    s1.emit (.readData w.tag 64 (atByte 48 (s.q w.queue).depth))

/-- PUSH_SLOT_WRITE (R386): a write of exactly 32 bytes at offset 0 of a push slot pushes an ITEM. -/
def pushSlotWriteEffect (t : Nat) (a : Access) (d : Item256) (s : State) : State :=
  if a.bar ≠ 0 ∨ a.off < 0x1CC000 ∨ 0x1CD000 ≤ a.off then s
  else if a.off % 0x40 ≠ 0 ∨ a.size ≠ 32 then s.slotViol t a true else
  match s.pushSlot ((a.off - 0x1CC000) / 0x40) with
  | none => s.slotViol t a true
  | some q =>
    if (s.q q).producer ≠ 3 then s.slotViol t a true
    else s.qpush t q { data := d, kind := 1, dts := t, vis := t }

/-- XOFF_MIN_HOLD_END (R388). -/
def xoffMinHoldEndEffect (t pin : Nat) (s : State) : State :=
  if pin < 16 then s.xoffRelease t pin else s

/-- Queue group of a fixed or configured queue, as the host sees a status record (Table QUE-9). -/
def queueRecord (h : QueH) : Nat :=
  h.mode + 4 * b2n h.marker.isSome + 8 * b2n h.spillFull + atByte 1 (h.producer + 16 * h.consumer) + atByte 2 h.group
    + atByte 4 h.depth + atByte 8 h.cap + atByte 12 h.pushed + atByte 16 h.popped + atByte 20 h.dropped
    + atByte 24 h.markers + atByte 28 h.peak

/-- HARDWARE_PUSH (R374). -/
def execHardwarePush (t q : Nat) (p : HwPush) : State → Host.Outcome State Fault Refusal := event t (hardwarePushEffect t q p)
/-- POP_SLOT_READ (R383). -/
def execPopSlotRead (t : Nat) (a : Access) (coin : Option Item256) : State → Host.Outcome State Fault Refusal :=
  event t (popSlotReadEffect t a coin)
/-- HOST_STALL_END (R384). -/
def execHostStallEnd (t slot : Nat) : State → Host.Outcome State Fault Refusal := event t (hostStallEndEffect t slot)
/-- PUSH_SLOT_WRITE (R386). -/
def execPushSlotWrite (t : Nat) (a : Access) (d : Item256) : State → Host.Outcome State Fault Refusal :=
  event t (pushSlotWriteEffect t a d)
/-- XOFF_MIN_HOLD_END (R388). -/
def execXoffMinHoldEnd (t pin : Nat) : State → Host.Outcome State Fault Refusal := event t (xoffMinHoldEndEffect t pin)

end Sys2Proof.Machine
end

