-- ==== Sys2Proof/Machine/SideStreet.lean ====
section
/-! DEFINITION. The Side Street ports SS0 and SS1 (12 R390 to R396). -/
namespace Sys2Proof.Machine
open Sys2Proof

/-- A Side Street port's hidden state. -/
def State.ssp (s : State) (p : Nat) : SsPort := tget (fun _ => {}) s.que.ports p
/-- A Side Street port replaced. -/
def State.setSsp (s : State) (p : Nat) (h : SsPort) : State :=
  { s with que := { s.que with ports := tput (fun _ => {}) s.que.ports p h } }

/-- The port that serves a queue's consumer code (Table QUE-7, R395). -/
def State.ssConsumer (s : State) (c : Nat) : Option Nat :=
  if c = 3 then some 0 else if c = 4 then some 1 else if c = 5 then some (b2n s.que.code5) else none

/-- Group g may not send while its XOFF_IN pin is asserted after conditioning (R394). -/
def State.xoffInHeld (s : State) (g : Nat) : Bool :=
  s.rbit (Reg.QUE_GRP_CFG_XOFF_IN_EN g) &&
  bit (s.rget Reg.QUE_XOFF_STAT_IN_LEVEL) (s.rget (Reg.QUE_GRP_CFG_XOFF_IN_SEL g))

/-- PAUSED follows the groups a port serves (R394). -/
def State.ssPaused (s : State) (t p : Nat) : State :=
  s.live t (Reg.QUE_SS_LIVE_PAUSED p) p
    (s.que.qs.any fun x => s.ssConsumer x.2.consumer = some p ∧ s.xoffInHeld x.2.group)

/-- BATCH_NS in ticks. -/
def State.ssBatch (s : State) (p : Nat) : Nat := ns (10 * s.rget (Reg.QUE_SS_BATCH_BATCH_NS p))

/-- The leading single items of a queue, at most 30 (R392). -/
def leadItems (l : List QItem) : List QItem := (l.takeWhile fun i => i.kind = 1).take 30

/-- Whether a queue has a frame to send: a marker, a packet, 30 items, or items whose first has waited BATCH_NS (R393). -/
def State.ssReady (s : State) (p q : Nat) : Bool :=
  match (s.q q).items with
  | [] => false
  | i :: r => i.kind ≠ 1 ∨ (leadItems (i :: r)).length = 30 ∨ (s.ssp p).due.contains q

/-- The queues a port may serve now, with their groups' priority (R393, R394). -/
def State.ssEligible (s : State) (p : Nat) : List (Nat × Nat) :=
  (s.que.qs.filter fun x => s.ssConsumer x.2.consumer = some p ∧ ¬ s.xoffInHeld x.2.group ∧ s.ssReady p x.1).map
    fun x => (s.rget (Reg.QUE_GRP_CFG_SS_PRIO x.2.group), x.1)

/-- The queue served next: the highest priority, and in it the first number after the queue served last in it, round robin
(R393). -/
def State.ssPick (s : State) (p : Nat) : Option Nat :=
  let l := s.ssEligible p
  let top := l.foldl (fun m x => max m x.1) 0
  let c := (l.filter fun x => x.1 = top).map (·.2)
  let last := tget (fun _ => 0) (s.ssp p).last top
  match c.filter fun q => last < q with
  | q :: _ => some q
  | [] => c.head?

/-- What a Side Street header says of its frame (Table QUE-8). -/
structure SsHead where
  queue : Nat
  kind : Nat
  seq : Nat
  dts : Nat
  countOfs : Nat
  last : Bool
  deriving DecidableEq, Repr

/-- The 24 bytes of a header (Table QUE-8), big-endian as on every wire (00 R7). -/
def SsHead.bytes (h : SsHead) (devid : Nat) : List Byte :=
  beBytes 2 devid ++ beBytes 2 (h.kind * 2 ^ 12 + h.queue) ++ beBytes 4 h.seq ++ beBytes 12 (dts96 h.dts) ++ beBytes 2 h.countOfs
    ++ [BitVec.ofNat 8 (b2n h.last), 0]
/-- The widths in bytes of the fields of an event's DETAIL, by its code (14 Table PMN-7, 16 Table RED-9, 18 and 19); a byte no table
names stands alone. (DEDUCED, log entry 140) -/
def detailFields (code : Nat) : List Nat :=
  if code < 0x2000 ∨ 0x5800 ≤ code ∧ code < 0x6000 then [1, 1, 1, 1, 1, 1]
  else if code < 0x3000 ∨ 0x5000 ≤ code ∧ code < 0x5800 then [4, 1, 1]
  else if code = 0x4001 ∨ code = 0x4002 ∨ code = 0x4003 then [1, 1, 4]
  else if code = 0x4010 then [6]
  else if code = 0x6010 ∨ code = 0x6021 ∨ code = 0x7001 ∨ code = 0x8110 ∨ code = 0x8401 then [4, 1, 1]
  else if code = 0x6011 then [2, 2, 1, 1]
  else if code = 0x6020 then [3, 3]
  else if code = 0x6001 ∨ code = 0x6002 ∨ code = 0x6003 ∨ code = 0x8420 ∨ code = 0x8421 ∨ code = 0x8510 then [2, 1, 1, 1, 1]
  else [1, 1, 1, 1, 1, 1]
/-- The widths in bytes of the fields of an item of queue q: a gap marker (Table QUE-3), an event record (14 Table PMN-6), or an item
whose bytes no rule divides. -/
def itemFields (q : Nat) (i : QItem) : List Nat :=
  if i.kind = 6 then [1, 1, 2, 4, 12, 12]
  else if q < 8 then [12, 2, 4, 1, 1, 2, 4] ++ detailFields (recBytes i.data.toNat 20 2)
  else List.replicate 32 1
/-- A record with each of its fields turned big-endian (00 R7, 14 R441). -/
def wireFields : List Nat → List Byte → List Byte
  | [], l => l
  | n :: r, l => (l.take n).reverse ++ wireFields r (l.drop n)
/-- An item record of 48 bytes: the item, its enqueue DTS, KIND and zeros (R392). -/
def QItem.record (q : Nat) (i : QItem) : List Byte :=
  wireFields (itemFields q i) (leBytes 32 i.data.toNat) ++ beBytes 12 (dts96 i.dts) ++ [BitVec.ofNat 8 i.kind, 0, 0, 0]
/-- A MAC address register pair: its first byte on the wire is bits [47:40]. (DEDUCED, log entry 147) -/
def State.ssMac (s : State) (lo hi : Nat) : Nat := s.wordN lo + s.wordN hi % 65536 * 2 ^ 32
/-- A frame without its FCS, padded to the 60 bytes of the shortest (R391). (PRESUMED, log entry 139) -/
def State.ssBody (s : State) (p : Nat) (h : SsHead) (payload : List Byte) : List Byte :=
  let tag := if s.rbit (Reg.QUE_SS_CFG_VLAN_EN p) then
      beBytes 2 0x8100 ++ beBytes 2 (s.rget (Reg.QUE_SS_CFG_PCP p) * 2 ^ 13 + s.rget (Reg.QUE_SS_CFG_VID p)) else []
  let b := beBytes 6 (s.ssMac (Reg.QUE_SS_DST_LO p) (Reg.QUE_SS_DST_HI p)) ++ beBytes 6 (s.ssMac (Reg.QUE_SS_SRC_LO p) (Reg.QUE_SS_SRC_HI p))
    ++ tag ++ beBytes 2 (s.rget (Reg.QUE_SS_FRAME_ETYPE p)) ++ h.bytes (s.rget Reg.SYP_ARC_ID_DEVID) ++ payload
  b ++ List.replicate (60 - b.length) 0
/-- The frame as it leaves: its FCS is the CRC-32 of IEEE 802.3, lowest byte first (R391). (PRESUMED, log entry 139) -/
def State.ssWire (s : State) (p : Nat) (h : SsHead) (payload : List Byte) : List Byte :=
  let b := s.ssBody p h payload
  b ++ leBytes 4 (crc crc32 b)

/-- Pops n head items, releasing their slots in order. -/
def QueH.popN : Nat → QueH → QueH
  | 0, h => h
  | n + 1, h => match h.pop with
    | none => h
    | some (_, h1) => QueH.popN n h1

/-- The words of the packet at the head of a queue. -/
def headPacket (l : List QItem) : List QItem :=
  match l with
  | [] => []
  | i :: r => if i.kind = 5 then [i] else i :: (r.takeWhile fun x => x.kind = 3) ++ ((r.dropWhile fun x => x.kind = 3).take 1)

/-- The scheduler of port p has served queue q, whose state becomes h, with a frame of these bytes: the round robin moves on, and the
frame is counted (R393, Table QUE-10). -/
def State.ssSent (s : State) (t p q : Nat) (h : QueH) (w : List Byte) : State :=
  let s1 := s.qset t q h
  let s2 := s1.setSsp p { s1.ssp p with last := tput (fun _ => 0) (s1.ssp p).last (s.rget (Reg.QUE_GRP_CFG_SS_PRIO h.group)) q,
                                        due := (s1.ssp p).due.filter fun x => x ≠ q }
  ((s2.cinc (Ctr.QUE_SS_FRAMES_TX p)).cadd (Ctr.QUE_SS_BYTES_TX p) w.length).emit (.ssFrame p w)

/-- A frame of queue q leaves port p: an items frame, a marker frame or the next fragment of the packet (R391 to R393). -/
def State.ssSend (s : State) (t p q : Nat) : State :=
  let h := s.q q
  let seq1 := (h.ssSeq + 1) % 2 ^ 32
  match h.items with
  | [] => s
  | i :: _ =>
    if i.kind = 1 then
      let l := leadItems h.items
      s.ssSent t p q { (h.popN l.length) with ssSeq := seq1 } (s.ssWire p ⟨q, 1, h.ssSeq, i.dts, l.length, false⟩ (l.flatMap (QItem.record q)))
    else if i.kind = 6 then
      s.ssSent t p q { (h.popN 1) with ssSeq := seq1 } (s.ssWire p ⟨q, 3, h.ssSeq, i.dts, 1, false⟩ (i.record q))
    else
      let len := i.plen
      let n := min (s.rget (Reg.QUE_SS_FRAME_FRAG_MAX p)) (len - h.fragOfs)
      let done := h.fragOfs + n
      let bytes := ((headPacket h.items).flatMap fun x => leBytes 32 x.data.toNat).drop h.fragOfs |>.take n
      let last := decide (len ≤ done)
      let h1 := if last then { (h.popN (pktWords len)) with fragOfs := 0, ssSeq := seq1 }
                else { h with fragOfs := done, ssSeq := seq1 }
      s.ssSent t p q h1 (s.ssWire p ⟨q, 2, h.ssSeq, i.dts, h.fragOfs, last⟩ bytes)

/-- SS_FRAME_SEND (R393 to R395): the scheduler of an enabled port with block lock sends a frame of the queue it picks. -/
def ssFrameSendEffect (t p : Nat) (s : State) : State :=
  if p < 2 ∧ s.rbit (Reg.QUE_SS_CFG_EN p) ∧ (s.ssp p).lock then
    match s.ssPick p with
    | some q => s.ssSend t p q
    | none => s
  else s

/-- SS_BATCH_TIMEOUT (R393): the first item of queue q has waited BATCH_NS, so its items frame may leave. -/
def ssBatchTimeoutEffect (t p q : Nat) (s : State) : State :=
  match (s.q q).items with
  | [] => s
  | i :: _ =>
    if p < 2 ∧ s.ssConsumer (s.q q).consumer = some p ∧ i.kind = 1 ∧ i.vis + s.ssBatch p ≤ t ∧ ¬ (s.ssp p).due.contains q then
      s.setSsp p { s.ssp p with due := q :: (s.ssp p).due }
    else s

/-- SS_BLOCK_LOCK_CHANGE (R395). -/
def ssBlockLockChangeEffect (t p : Nat) (lock : Bool) (s : State) : State :=
  if 2 ≤ p then s else
  let s1 := s.setSsp p { s.ssp p with lock := lock }
  let s2 := s1.live t (Reg.QUE_SS_LIVE_LINK_DOWN p) p (!lock)
  let s3 := if p = 0 then { (s2.live t Reg.QUE_LIVE_SS0_DOWN 0 (!lock)) with que := { s2.que with code5 := !lock } }
            else s2.live t Reg.QUE_LIVE_SS1_DOWN 0 (!lock)
  (s3.ssPaused t 0).ssPaused t 1

/-- A received frame is discarded and counted (R396). -/
def State.ssDrop (s : State) (t p : Nat) : State :=
  (s.cinc (Ctr.QUE_SS_RX_DROP p)).pulse t (Reg.QUE_SS_LIVE_RX_DROP p) p

/-- 32-byte words of a byte string, the last padded with zeros. -/
def toWords : Nat → List Byte → List Item256
  | 0, _ => []
  | _, [] => []
  | n + 1, l => BitVec.ofNat 256 (ofLe (l.take 32)) :: toWords n (l.drop 32)

/-- The words of a packet's bytes. -/
def wordsOf (l : List Byte) : List Item256 := toWords (pktWords l.length) l

/-- An accepted items frame pushes its items in order (R396); they carry the DTS e at which the frame's first token reached the edge FIFO
(R374). (DEDUCED, log entry 42) -/
def State.ssItems (s : State) (t e q : Nat) : Nat → List Byte → State
  | 0, _ => s
  | n + 1, l => if l.length < 48 then s else State.ssItems (s.qpush t q { data := BitVec.ofNat 256 (ofLe (l.take 32)), kind := 1, dts := e, vis := t }) t e q n (l.drop 48)

/-- A fragment of a packet is stored; the last one commits the packet (R396), which carries the DTS e of its first fragment's first token (R374).
A fragment out of order rewinds it. -/
def State.ssFragment (s : State) (t e p q ofs : Nat) (last : Bool) (l : List Byte) : State :=
  let h := s.q q
  if h.mode ≠ 2 then s.qwrong t q
  else if (ofs ≠ 0 ∧ ofs ≠ h.frag.length) ∨ (ofs = 0 ∧ h.frag ≠ []) then
    let s1 := (s.qdropPacket t q h.build.length).ssDrop t p
    if ofs = 0 ∧ ¬ last then
      let h1 := s1.q q
      s1.qset t q { h1 with frag := l, build := pktItems l.length (wordsOf l) e t }
    else if ofs = 0 then s1.qpacket t q e l.length (wordsOf l)
    else s1
  else if ofs ≠ 0 ∧ h.frag = [] then s.ssDrop t p
  else
    let all := h.frag ++ l
    let ws := wordsOf all
    let d := (h.build.head?.map (·.dts)).getD e
    let room := h.cap - 1 - (h.depth - h.build.length)
    if 16384 < all.length then (s.qdropPacket t q h.build.length).ssDrop t p
    else if h.spillFull ∨ room < ws.length then
      s.qdropPacket t q h.build.length
    else if last then
      let s1 := s.qset t q { h with build := [], frag := [] }
      s1.qpacket t q d all.length ws
    else s.qset t q { h with frag := all, build := pktItems all.length ws d t }

/-- SS_FRAME_RECEIVED (R390, R396). (DEDUCED, log entry 42) -/
def ssFrameReceivedEffect (t p : Nat) (f : SsFrame) (s : State) : State :=
  if ¬ (p < 2 ∧ s.rbit (Reg.QUE_SS_CFG_EN p) ∧ (s.ssp p).lock) then s
  else
    let s1 := if f.fcsOk then s else (s.cinc (Ctr.QUE_SS_FCS_ERR p)).pulse t (Reg.QUE_SS_LIVE_FCS_ERR p) p
    if f.etype = 0x8808 then (s1.cinc (Ctr.QUE_SS_CTRL_DROP p)).pulse t (Reg.QUE_SS_LIVE_CTRL_RX p) p else
    let own := s.ssMac (Reg.QUE_SS_SRC_LO p) (Reg.QUE_SS_SRC_HI p)
    let tagOk := if s.rbit (Reg.QUE_SS_CFG_VLAN_EN p) then f.vid = some (s.rget (Reg.QUE_SS_CFG_VID p)) else f.vid = none
    let h := s.q f.queue
    if f.fcsOk ∧ f.dst = own ∧ tagOk ∧ f.etype = s.rget (Reg.QUE_SS_FRAME_ETYPE p) ∧
        f.devid = s.rget Reg.SYP_ARC_ID_DEVID ∧ h.mode ≠ 0 ∧ h.producer = 4 + p ∧ (f.kind = 1 ∨ f.kind = 2) then
      let s2 := (s1.cinc (Ctr.QUE_SS_FRAMES_RX p)).cadd (Ctr.QUE_SS_BYTES_RX p) f.len
      if f.kind = 1 then s2.ssItems t (t - f.age) f.queue f.countOfs f.payload
      else s2.ssFragment t (t - f.age) p f.queue f.countOfs f.last f.payload
    else s1.ssDrop t p

/-- SS_FRAME_RECEIVED (R396). -/
def execSsFrameReceived (t p : Nat) (f : SsFrame) : State → Host.Outcome State Fault Refusal := event t (ssFrameReceivedEffect t p f)
/-- SS_FRAME_SEND (R393). -/
def execSsFrameSend (t p : Nat) : State → Host.Outcome State Fault Refusal := event t (ssFrameSendEffect t p)
/-- SS_BATCH_TIMEOUT (R393). -/
def execSsBatchTimeout (t p q : Nat) : State → Host.Outcome State Fault Refusal := event t (ssBatchTimeoutEffect t p q)
/-- SS_BLOCK_LOCK_CHANGE (R395), while the domain of the ports is ON (19 R539). -/
def execSsBlockLockChange (t p : Nat) (lock : Bool) : State → Host.Outcome State Fault Refusal :=
  event t fun s => if s.domOn 97 then ssBlockLockChangeEffect t p lock s else s

end Sys2Proof.Machine
end

