-- ==== Sys2Proof/Machine/Evlog.lean ====
section
/-! DEFINITION. The event logger and the Logbook (14 R441 to R445). -/
namespace Sys2Proof.Machine
open Sys2Proof

/-- The 32 bytes of a record (14 Table PMN-6), little-endian. -/
def LogRec.bytes (r : LogRec) : Nat :=
  dts96 r.ev.dts + atByte 12 r.devid + atByte 14 r.seq
    + atByte 18 (r.ev.sev + 8 * b2n r.timeUnset + 16 * b2n r.timeHold + 32 * b2n r.mirrored)
    + atByte 20 (r.ev.code % 65536) + atByte 22 (r.ev.src % 2 ^ 32) + atByte 26 (r.ev.detail % 2 ^ 48)

/-- The queue a record goes to (R443). -/
def evQueue (e : EvRec) : Nat := if 0x4000 ≤ e.code ∧ e.code < 0x5000 then 7 else e.sev

/-- Whether the SEV of a record selects it for the Logbook (R443). -/
def State.bookSev (s : State) (e : EvRec) : Bool :=
  s.rget Reg.EVL_CFG_LOGBOOK_SEV ≠ 7 && decide (e.sev ≤ s.rget Reg.EVL_CFG_LOGBOOK_SEV)

/-- LB_SKIP follows the bucket (R444). -/
def State.lbSkip (s : State) (t : Nat) : State := s.live t Reg.EVL_LIVE_LB_SKIP 0 (s.evl.bucket = 0)

/-- EVENT_LOG (R442, R443, R445): the logger takes the oldest record offered, gives it the next SEQ, and files it in the
ring, in its queue, and, where it is mirrored, for the Logbook. `t` is the instant of logging. -/
def eventLogEffect (t : Nat) (s : State) : State :=
  match s.evl.pend with
  | [] => s
  | e :: rest =>
    let seq := s.wordN Reg.EVL_SEQ
    let skipNote := decide (e.code = 0x7001)
    let want := s.bookSev e || (skipNote && s.rget Reg.EVL_CFG_LOGBOOK_SEV ≠ 7)
    let take := want && decide (0 < s.evl.bucket)
    let r : LogRec := { ev := e, seq := seq, devid := s.rget Reg.SYP_ARC_ID_DEVID,
                        timeUnset := ¬ s.rbit Reg.TIM_TOD_STAT_TIME_SET,
                        timeHold := s.rget (Reg.TIM_DP_STAT_STATE 1) ≠ 3, mirrored := take }
    let off := s.rbit Reg.EVL_LIVE_RING_OFF
    let ring := if off then s.evl.ring else (seq % 2 ^ 26, r) :: s.evl.ring.filter fun p => p.1 ≠ seq % 2 ^ 26
    let s1 := { s with evl := { s.evl with
      pend := rest, ring := ring
      mirror := if take then s.evl.mirror ++ [(t + ms 100, r)] else s.evl.mirror
      bucket := if take then s.evl.bucket - 1 else s.evl.bucket
      skipSeq := if want ∧ ¬ take ∧ s.evl.skipped = 0 then seq else s.evl.skipSeq
      skipped := if want ∧ ¬ take then s.evl.skipped + 1 else s.evl.skipped } }
    let s2 := (s1.setWord Reg.EVL_SEQ ((seq + 1) % 2 ^ 32)).cinc Ctr.EVL_LOGGED
    let s3 := if off then s2.cinc Ctr.EVL_RING_SKIPPED else s2
    let s4 := if want ∧ ¬ take then s3.cinc Ctr.EVL_LB_SKIPPED else s3
    let s5 := if bit (s.rget Reg.EVL_CFG_Q_MASK) e.sev then
        s4.qpush t (evQueue e) { data := BitVec.ofNat 256 r.bytes, kind := 1, dts := t, vis := t } else s4
    let s6 := if e.sev = 0 then s5.pulse t Reg.EVL_LIVE_CRITICAL 0 else s5
    s6.lbSkip t

/-- LOGBOOK_MIRROR_WRITE (R443): the oldest mirrored record reaches the Logbook event area, which keeps the latest
2,097,152. -/
def logbookMirrorWriteEffect (_t : Nat) (s : State) : State :=
  match s.evl.mirror with
  | [] => s
  | (_, r) :: rest =>
    ({ s with evl := { s.evl with mirror := rest, book := (r :: s.evl.book).take 2097152 } }).cinc Ctr.EVL_LB_WRITTEN

/-- MIRROR_BUCKET_REFILL (R444): the bucket gains the records of 2,000 a second since its last refill, up to 20,000, and a
code 0x7001 record tells of those skipped: the logger takes it next, so that it has its record of the bucket. -/
def mirrorBucketRefillEffect (t : Nat) (s : State) : State :=
  let n := (t - s.evl.lastRefill) / us 500
  let b := min 20000 (s.evl.bucket + n)
  let s1 := { s with evl := { s.evl with bucket := b, lastRefill := s.evl.lastRefill + n * us 500 } }
  let s2 := if 0 < b ∧ 0 < s.evl.skipped then
      { s1 with evl := { s1.evl with
          skipped := 0, pend := ⟨t, defaultSev 0x7001, 0x7001, s.evl.skipSeq, s.evl.skipped % 2 ^ 32⟩ :: s1.evl.pend } }
    else s1
  s2.lbSkip t

/-- LAST_1_MS_EXPIRY (14 R441): a LIVE bit whose window has run out falls, at the end of its window. (DEDUCED, log entry 15) -/
def last1MsExpiryEffect (t addr b : Nat) (s : State) : State :=
  match s.pulses.find? fun p => p.addr = addr ∧ p.bit = b ∧ p.until_ ≤ t with
  | none => s
  | some p =>
    let s1 := { s with pulses := s.pulses.filter fun x => x ≠ p }
    let src := match rowAt addr with
      | some (r, i, j) => if 1 < r.n2 then i * r.n2 + j else i
      | none => 0
    s1.live p.until_ ⟨addr, b, 1⟩ src false

/-- EVENT_LOG (R442). -/
def execEventLog (t : Nat) : State → Host.Outcome State Fault Refusal := event t (eventLogEffect t)
/-- LOGBOOK_MIRROR_WRITE (R443). -/
def execLogbookMirrorWrite (t : Nat) : State → Host.Outcome State Fault Refusal := event t (logbookMirrorWriteEffect t)
/-- MIRROR_BUCKET_REFILL (R444). -/
def execMirrorBucketRefill (t : Nat) : State → Host.Outcome State Fault Refusal := event t (mirrorBucketRefillEffect t)
/-- LAST_1_MS_EXPIRY (R441). -/
def execLast1MsExpiry (t addr b : Nat) : State → Host.Outcome State Fault Refusal := event t (last1MsExpiryEffect t addr b)

end Sys2Proof.Machine
end

