-- ==== Sys2Proof/Machine/Pm.lean ====
section
/-! DEFINITION. The PM engine: seconds, bins and threshold crossing alerts (14 R421 to R440). -/
namespace Sys2Proof.Machine
open Sys2Proof

/-- The PM of an entry. -/
def State.pmE (s : State) (e : Nat) : PmH := tget (fun _ => {}) s.pm.ent e
/-- The PM of an entry replaced. -/
def State.setPmE (s : State) (e : Nat) (h : PmH) : State :=
  { s with pm := { s.pm with ent := tput (fun _ => {}) s.pm.ent e h } }

/-- The second x of an entry's gathered seconds. -/
def PmH.sec (h : PmH) (x : Nat) : SecAcc := (h.secs.find? fun a => a.s = x).getD { s := x }
/-- Second x changed by f. -/
def PmH.modSec (h : PmH) (x : Nat) (f : SecAcc → SecAcc) : PmH :=
  { h with secs := f (h.sec x) :: h.secs.filter fun a => a.s ≠ x }

/-- Something is gathered into second x of entry e, while it has PM_EN and the second has not settled. -/
def State.pmSec (s : State) (e x : Nat) (f : SecAcc → SecAcc) : State :=
  let h := s.pmE e
  if h.en ∧ s.pm.settled ≤ x then s.setPmE e (h.modSec x f) else s

/-- A committed PMADD (R422, Table PMN-1). -/
def SecAcc.add (p v : Nat) (a : SecAcc) : SecAcc :=
  match p with
  | 0 => { a with nEb := sat 0xFFFFFFFF (a.nEb + v) }
  | 1 => { a with nDef := a.nDef || decide (v ≠ 0) }
  | 2 => { a with fEb := sat 0xFFFFFFFF (a.fEb + v) }
  | 3 => { a with fDef := a.fDef || decide (v ≠ 0) }
  | 4 => { a with psc := sat 0xFFFFFFFF (a.psc + v) }
  | _ => a

/-- Whether an entry carries PM parameter p (R421, Table PMN-1), given its LAYER. -/
def PmH.carries (h : PmH) (layer p : Nat) : Bool :=
  h.en && (p == 0 || p == 1 || ((p == 2 || p == 3) && h.fe) || (p == 4 && layer == 4))

/-! ### Classification (R424, R425) -/

/-- SES of one end (Table PMN-2). (DEDUCED, log entry 32) -/
def sesOf (dfct : Bool) (eb blocks : Nat) : Bool := dfct || decide (3 * blocks ≤ 20 * eb)
/-- Near-end SES of a second. -/
def SecAcc.nSes (a : SecAcc) : Bool := sesOf a.nDef a.nEb a.blocks
/-- Far-end SES of a second; none while the near end has a defect (R425). -/
def SecAcc.fSes (a : SecAcc) : Bool := !a.nDef && sesOf a.fDef a.fEb a.blocks

/-- The ten seconds from x are classified and all satisfy p (R426). -/
def PmH.ten (h : PmH) (x : Nat) (p : SecAcc → Bool) : Bool :=
  (List.range 10).all fun k => !(h.sec (x + k)).bad && p (h.sec (x + k))

/-- The availability of one end at second x from its state before (R426). -/
def unavailAt (h : PmH) (x : Nat) (was : Bool) (ses : SecAcc → Bool) : Bool :=
  if was then !(h.ten x fun a => !ses a) else h.ten x ses

/-- A saturating 32-bit bin counter (00 R5). -/
def addSat (x v : Nat) : Nat := sat 0xFFFFFFFF (x + v)

/-- One end's parameters (ES, SES, BBE, UAS) of a settled second (R426, Table PMN-2). (DEDUCED, log entry 33) -/
def endPar (unav ses : Bool) (eb : Nat) : List Nat :=
  if unav then [0, 0, 0, 1]
  else if ses then [1, 1, 0, 0]
  else if 0 < eb then [1, 0, eb, 0]
  else [0, 0, 0, 0]

/-- A settled second enters a bin (R427, R428). (DEDUCED, log entry 33) -/
def BinRec.addSec (b : BinRec) (a : SecAcc) (nU fU : Bool) : BinRec :=
  let b0 := { b with lateS := addSat b.lateS a.late, nUnavail := nU, fUnavail := fU }
  if a.bad then { b0 with incomplete := true } else
  let fEb := if a.nDef then 0 else a.fEb
  let p := endPar nU a.nSes a.nEb ++ endPar fU a.fSes fEb
  { b0 with
    validS := addSat b0.validS 1
    par := List.zipWith addSat b0.par p
    nEb := if nU then b0.nEb else addSat b0.nEb a.nEb
    psc := addSat b0.psc a.psc }

/-- Start of the bin of length len that contains second x, for a day offset (R429). -/
def binStart (x ofs len : Nat) : Nat := x - (x + len * 86400 - ofs % len) % len

/-! ### Threshold crossing alerts (R437 to R440) -/

/-- A threshold of profile p for parameter i: 0 SET15, 1 RESET15, 2 SET24. (DEDUCED, log entry 34) -/
def State.tca (s : State) (p i k : Nat) : Nat :=
  s.wordN ((if k = 0 then Reg.PMN_TCA_SET15 p i else if k = 1 then Reg.PMN_TCA_RESET15 p i else Reg.PMN_TCA_SET24 p i))
/-- RESET15 as the device takes it (R437). -/
def State.tcaReset (s : State) (p i : Nat) : Nat :=
  let st := s.tca p i 0
  let rs := s.tca p i 1
  if st ≤ rs then st - 1 else rs

/-- Bit i of an eight-bit set. -/
def bit8 (b : BitVec 8) (i : Nat) : Bool := b.getLsbD i

/-- A TCA event (R440): byte 0 the parameter, bytes 2 to 5 the count. -/
def State.tcaEvent (s : State) (t code e i cnt : Nat) : State :=
  let s1 := s.log t code e (i + cnt * 65536)
  if code = 0x4002 then s1.pulse t Reg.PMN_LIVE_TCA 0
  else (s1.cinc Ctr.PMN_TCA_EVENTS).pulse t Reg.PMN_LIVE_TCA 0

/-- The alerts of entry e on parameter i after a second settled (R438, R439). (DEDUCED, log entry 34) -/
def State.tcaCheck (s : State) (t e i : Nat) : State :=
  let h := s.pmE e
  let c15 := h.cur15.par.getD i 0
  let c24 := h.cur24.par.getD i 0
  let s15 := s.tca h.profile i 0
  let s24 := s.tca h.profile i 2
  let s1 := if 0 < s15 ∧ s15 ≤ c15 ∧ ¬ bit8 h.cur15.raised i ∧ ¬ bit8 h.stand i then
      (s.setPmE e { h with cur15 := { h.cur15 with raised := h.cur15.raised ||| (1 <<< i) } }).tcaEvent t 0x4001 e i c15
    else s
  let h1 := s1.pmE e
  if 0 < s24 ∧ s24 ≤ c24 ∧ ¬ bit8 h1.cur24.raised i then
    (s1.setPmE e { h1 with cur24 := { h1.cur24 with raised := h1.cur24.raised ||| (1 <<< i) } }).tcaEvent t 0x4003 e i c24
  else s1

/-- At completion of a fifteen-minute bin, parameter i: a TCA raised in it or still standing clears at or below RESET15,
or stands into the next (R438). (DEDUCED, log entry 34) -/
def State.tcaClose (s : State) (t e i : Nat) : State :=
  let h := s.pmE e
  if bit8 h.cur15.raised i ∨ bit8 h.stand i then
    let c := h.cur15.par.getD i 0
    if c ≤ s.tcaReset h.profile i then
      (s.setPmE e { h with stand := h.stand &&& ~~~((1 : BitVec 8) <<< i) }).tcaEvent t 0x4002 e i c
    else s.setPmE e { h with stand := h.stand ||| (1 <<< i) }
  else s

/-- A completed bin is counted when it is flagged INCOMPLETE. -/
def State.binDone (s : State) (b : BinRec) : State := if b.incomplete then s.cinc Ctr.PMN_BINS_INCOMPLETE else s

/-- A new current bin. (DEDUCED, log entry 36) -/
def freshBin (day unset inc : Bool) (start : Nat) : BinRec :=
  { start := start, day := day, current := true, timeUnset := unset, incomplete := inc }

/-- The time has not been set (11 R366). -/
def State.timeUnset (s : State) : Bool := !s.rbit Reg.TIM_TOD_STAT_TIME_SET

/-- The current fifteen-minute bin of entry e completes, and its successor starts at second y (R430, R438). -/
def State.close15 (s : State) (t e y : Nat) (short inc : Bool) : State :=
  let s1 := (List.range 8).foldl (fun x i => x.tcaClose t e i) s
  let h := s1.pmE e
  let b := { h.cur15 with current := false, short := short, incomplete := h.cur15.incomplete || short || inc, standing := h.stand }
  ((s1.setPmE e { h with cur15 := freshBin false s.timeUnset inc y, hist15 := (b :: h.hist15).take 96 }).binDone b).pulse t
    Reg.PMN_LIVE_BIN15_DONE 0

/-- A completed 24-hour bin is written to the Logbook, which keeps 32 days of them (18 Table MNT-2). -/
def State.dailyPm (s : State) (e : Nat) (b : BinRec) : State :=
  { s with pm := { s.pm with daily := (e, b) :: s.pm.daily.filter fun p => decide (b.start < p.2.start + 32 * 86400) } }

/-- The current 24-hour bin of entry e completes, and its successor starts at second y (R430). -/
def State.close24 (s : State) (t e y : Nat) (short inc : Bool) : State :=
  let h := s.pmE e
  let b := { h.cur24 with current := false, short := short, incomplete := h.cur24.incomplete || short || inc, standing := h.stand }
  (((s.setPmE e { h with cur24 := freshBin true s.timeUnset inc y, hist24 := (b :: h.hist24).take 7 }).dailyPm e b).binDone b).pulse t
    Reg.PMN_LIVE_BIN24_DONE 0

/-! ### Seconds -/

/-- A context that binds entry e is halted or awaits a seed, so the entry's second is unclassified (R428). -/
def State.pmBlind (s : State) (e : Nat) : Bool :=
  s.jrm.ctx.any fun p => (p.2.bind.tt.any fun x => x.1 = e) && p.2.state ≠ 0 && (p.2.state = 2 || p.2.seed)
/-- Some context binds entry e. -/
def State.pmBound (s : State) (e : Nat) : Bool :=
  s.jrm.ctx.any fun p => (p.2.bind.tt.any fun x => x.1 = e) && p.2.state ≠ 0

/-- Entry e at the end of second x: the second is unclassified where R428 says so, and so is the next where its context does not run at
its start. -/
def State.pmEnd (s : State) (e x : Nat) : State :=
  let h := s.pmE e
  let off := s.pmBlind e || !s.pmBound e
  let bad := decide (sec x < h.since) || off
  s.setPmE e ((h.modSec x fun a => { a with bad := a.bad || bad }).modSec (x + 1) fun a => { a with bad := a.bad || off })
/-- An entry that no context binds any longer at t: its second is unclassified (R428). -/
def State.pmUnbound (s : State) (t : Nat) (l : List Nat) : State :=
  l.foldl (fun z e => if z.pmBound e then z else z.pmSec e (secOf t) fun a => { a with bad := true }) s

/-- Second x of entry e settles at t: its availability, its bins, its alerts, and the bins that end with it (R426 to
R439). -/
def State.pmSettle (s : State) (t x e : Nat) : State :=
  let h := s.pmE e
  if sec (x + 1) ≤ h.since then s else
  let a := h.sec x
  let nU := if a.bad then h.nUnavail else unavailAt h x h.nUnavail SecAcc.nSes
  let fU := if a.bad then h.fUnavail else unavailAt h x h.fUnavail SecAcc.fSes
  let lost := s.rbit Reg.PMN_LIVE_STORE_BROKEN
  let c15 := if h.cur15.current then h.cur15 else freshBin false s.timeUnset true (binStart x s.pm.ofs15 900)
  let c24 := if h.cur24.current then h.cur24 else freshBin true s.timeUnset true (binStart x s.pm.ofs24 86400)
  let b15 := c15.addSec a nU fU
  let b24 := c24.addSec a nU fU
  let h1 := { h with nUnavail := nU, fUnavail := fU, secs := h.secs.filter fun y => x < y.s,
                     cur15 := { b15 with incomplete := b15.incomplete || lost },
                     cur24 := { b24 with incomplete := b24.incomplete || lost } }
  let s1 := (List.range 8).foldl (fun z i => z.tcaCheck t e i) (s.setPmE e h1)
  let y := x + 1
  let new := s.pm.ofsSeen
  let due := decide (s.pm.ofsSec < y)
  let e15 := decide (y % 900 = s.pm.ofs15 % 900)
  let n15 := due && decide (new ≠ s.pm.ofs15 ∧ y % 900 = new % 900)
  let e24 := decide (y % 86400 = s.pm.ofs24 % 86400)
  let n24 := due && decide (new ≠ s.pm.ofs24 ∧ y % 86400 = new % 86400)
  let s2 := if n15 || e15 then s1.close15 t e y (n15 && !e15) false else s1
  if n24 || e24 then s2.close24 t e y (n24 && !e24) false else s2

/-- The entries with PM_EN. -/
def State.pmEntries (s : State) : List Nat := (s.pm.ent.filter fun p => p.2.en).map (·.1)

/-- The day offsets in force after second x has settled (R436). -/
def State.pmOfs (s : State) (x : Nat) : State :=
  let y := x + 1
  let new := s.pm.ofsSeen
  let due := decide (s.pm.ofsSec < y)
  { s with pm := { s.pm with
      ofs15 := if due ∧ y % 900 = new % 900 then new else s.pm.ofs15
      ofs24 := if due ∧ y % 86400 = new % 86400 then new else s.pm.ofs24
      settled := y } }

/-- DAY_OFS as the device takes it (14 PMN_CFG). -/
def State.dayOfs (s : State) : Nat := min 86399 (s.rget Reg.PMN_CFG_DAY_OFS)

/-- PM_SECOND_END (R424 to R440): at a whole second of DTS the second just over ends for every entry with PM_EN, and the
second ten before settles. -/
def pmSecondEndEffect (t : Nat) (s : State) : State :=
  if t % sec 1 ≠ 0 ∨ secOf t = 0 then s else
  let x := secOf t - 1
  let s1 := s.pmEntries.foldl (fun z e => z.pmEnd e x) s
  let s2 := if s.dayOfs ≠ s.pm.ofsSeen then { s1 with pm := { s1.pm with ofsSeen := s.dayOfs, ofsSec := x } } else s1
  if secOf t < 10 ∨ secOf t - 10 < s.pm.settled then s2 else
  let y := secOf t - 10
  (s2.pmEntries.foldl (fun z e => z.pmSettle t y e) s2).pmOfs y

/-! ### Time that jumps (R434, R435) -/

/-- A step skips a part of second x: it is unclassified for every entry (R428). -/
def State.pmPart (s : State) (x : Nat) : State := s.pmEntries.foldl (fun z e => z.pmSec e x fun a => { a with bad := true }) s

/-- The time jumps at t: no second from the present one on can join a run of R426, so the seconds that still wait for that run settle now,
into the bins that contain them (R426 to R428). (DEDUCED, log entry 35) -/
def State.pmFlush (s : State) (t : Nat) : State :=
  let a := secOf t
  let s1 := (List.range 10).foldl (fun z k => z.pmPart (a + k)) s
  ((List.range 10).filter fun k => decide (10 ≤ a + k ∧ s.pm.settled ≤ a + k - 10)).foldl
    (fun z k => (z.pmEntries.foldl (fun y e => y.pmSettle t (a + k - 10) e) z).pmOfs (a + k - 10)) s1

/-- The current bins of entry e end at a forward step from second a to second b: skipped bins are created, and the bins
at both ends of the step are flagged (R434). -/
def State.pmSkipEntry (s : State) (t a b e : Nat) : State :=
  let mk (day : Bool) (st : Nat) : BinRec := { start := st, day := day, skipped := true, incomplete := true }
  let h := s.pmE e
  let n15 := binStart b s.pm.ofs15 900
  let o15 := binStart a s.pm.ofs15 900
  let n24 := binStart b s.pm.ofs24 86400
  let o24 := binStart a s.pm.ofs24 86400
  let k15 := (n15 - o15) / 900 - 1
  let k24 := (n24 - o24) / 86400 - 1
  let s1 := if h.cur15.current then s.close15 t e n15 false true else s
  let s2 := if h.cur24.current then s1.close24 t e n24 false true else s1
  let h2 := s2.pmE e
  s2.setPmE e { h2 with
    hist15 := ((List.range (min k15 96)).map (fun i => mk false (n15 - 900 * (i + 1))) ++ h2.hist15).take 96
    hist24 := ((List.range (min k24 7)).map (fun i => mk true (n24 - 86400 * (i + 1))) ++ h2.hist24).take 7
    secs := [] }

/-- PM_SKIP_STEP (R434): a forward step from ticks `old` to ticks `new`, made at t: the seconds skipped wholly or in part
are unclassified, and code 0x4010 names them. (DEDUCED, log entry 35) -/
def State.pmForward (s : State) (t old new : Nat) : State :=
  let a := secOf old
  let b := secOf new
  if b ≤ a then (if old < new then s.pmPart a else s) else
  let s0 := s.pmFlush old
  let s1 := s0.pmEntries.foldl (fun z e => z.pmSkipEntry t a b e) s0
  let s2 := (s1.log t 0x4010 (b - a) ((b - 1) % 2 ^ 48)).pulse t Reg.PMN_LIVE_SKIP 0
  let s3 : State := { s2 with pm := { s2.pm with settled := b } }
  if sec b < new then s3.pmPart b else s3

/-- The first time set, and a backward step (R435, R366): the current bins end INCOMPLETE, and the bins of the new time
start flagged INCOMPLETE. (DEDUCED, log entry 35) -/
def State.pmRestart (s : State) (t new : Nat) : State :=
  let y := secOf new
  let s1 := s.pmEntries.foldl (fun z e =>
      let z1 := if (z.pmE e).cur15.current then z.close15 t e (binStart y z.pm.ofs15 900) false true else z
      let z2 := if (z1.pmE e).cur24.current then z1.close24 t e (binStart y z.pm.ofs24 86400) false true else z1
      z2.setPmE e { z2.pmE e with secs := [] }) s
  let s2 : State := { s1 with pm := { s1.pm with settled := y } }
  if sec y < new then s2.pmPart y else s2

/-! ### The records host software reads -/

/-- The 64 bytes of a bin (Table PMN-3). -/
def BinRec.bytes (b : BinRec) : Nat :=
  b.start % 2 ^ 48
    + atByte 6 (b2n b.day + 2 * b2n b.current + 4 * b2n b.incomplete + 8 * b2n b.skipped + 16 * b2n b.timeUnset
        + 32 * b2n b.short + 64 * b2n b.storeLost)
    + atByte 7 (b2n b.nUnavail + 2 * b2n b.fUnavail) + atByte 8 b.validS + atByte 12 b.lateS
    + (b.par.zipIdx.map fun (v, i) => atByte (16 + 4 * i) v).sum
    + atByte 48 b.nEb + atByte 52 b.psc + atByte 56 b.raised.toNat + atByte 57 b.standing.toNat

/-- The PM control word of an entry (R431). -/
def PmH.control (h : PmH) : Nat := b2n h.en + 2 * b2n h.fe + h.profile % 64 * 256

/-- Bin k of entry e (R431). -/
def PmH.bin (h : PmH) (k : Nat) : BinRec :=
  if k = 0 then h.cur15
  else if k ≤ 96 then h.hist15.getD (k - 1) {}
  else if k = 97 then h.cur24
  else h.hist24.getD (k - 98) {}

/-- PM_SECOND_END (R424). -/
def execPmSecondEnd (t : Nat) : State → Host.Outcome State Fault Refusal := event t (pmSecondEndEffect t)

end Sys2Proof.Machine
end

