-- ==== Sys2Proof/Machine/Jorm.lean ====
section
/-! DEFINITION. Contexts, runs, staging, traps and the common course of every Jorm instruction (03 R72 to R101, 20 R558 to
R563). -/
namespace Sys2Proof.Machine
open Sys2Proof

/-- A context. -/
def State.cx (s : State) (c : Nat) : CtxH := tget (fun _ => {}) s.jrm.ctx c
/-- A context replaced. -/
def State.setCx (s : State) (c : Nat) (h : CtxH) : State :=
  { s with jrm := { s.jrm with ctx := tput (fun _ => {}) s.jrm.ctx c h } }
/-- The engine of a context: logical slot × 8 + engine (R72). -/
def engineOf (c : Nat) : Nat := c / 512
/-- The context an engine executes. -/
def State.curCx (s : State) (e : Nat) : Option Nat :=
  match tget (fun _ => 0) s.jrm.cur e with
  | 0 => none
  | n + 1 => some n
/-- The context an engine executes replaced. -/
def State.setCur (s : State) (e : Nat) (c : Option Nat) : State :=
  { s with jrm := { s.jrm with cur := tput (fun _ => 0) s.jrm.cur e (c.elim 0 (· + 1)) } }

/-! ### Registers of a run -/

/-- A general register; g0 reads zero (R560). -/
def RunSt.reg (r : RunSt) (n : BitVec 5) : DWord := if n = 0 then 0 else r.g.getD n.toNat 0
/-- A general register written; a write to g0 is discarded (R560). -/
def RunSt.setReg (r : RunSt) (n : BitVec 5) (v : DWord) : RunSt := if n = 0 then r else { r with g := r.g.set n.toNat v }
/-- A predicate. -/
def RunSt.pred (r : RunSt) (n : Nat) : Bool := r.p.getLsbD (n % 8)
/-- A predicate written. -/
def RunSt.setPred (r : RunSt) (n : Nat) (v : Bool) : RunSt :=
  { r with p := (r.p &&& ~~~((1 : BitVec 8) <<< (n % 8))) ||| ((if v then (1 : BitVec 8) else 0) <<< (n % 8)) }
/-- An immediate sign-extended to 64 bits (R565). -/
def jSext (w : JWord) : DWord := w.imm.signExtend 64
/-- The second operand b of an ALU or CMP word (R565). -/
def RunSt.opB (r : RunSt) (w : JWord) : DWord := if jImm w then jSext w else r.reg w.s2

/-! ### Time a run sees (R81, Table JIR-2): its release instant -/

/-- sdtsn. -/
def sdtsn (rel : Nat) : DWord := BitVec.ofNat 64 (secOf rel * 1000000000 + nsOf rel)
/-- sdtsm. -/
def sdtsm (rel : Nat) : Nat := (secOf rel * 1000 + nsOf rel / 1000000) % 2 ^ 32

/-! ### Memory a run sees -/

/-- A scratch byte: staged, or committed. -/
def scrByte (h : CtxH) (r : RunSt) (o : Nat) : Byte := (sget r.scr o).getD (mget h.scr o)
/-- A trail table byte as the run sees it. -/
def State.tabByte (s : State) (r : RunSt) (k : Nat) : Byte := (sget r.tab k).getD (mget s.jrm.trail k)
/-- n bytes read through f, little-endian. -/
def readLe (f : Nat → Byte) (o n : Nat) : Nat := ofLe ((List.range n).map fun k => f (o + k))
/-- n bytes read through f, big-endian. -/
def readBe (f : Nat → Byte) (o n : Nat) : Nat := ofBe ((List.range n).map fun k => f (o + k))
/-- A 32-byte item in scratch. -/
def scrItem (h : CtxH) (r : RunSt) (o : Nat) : Item256 := BitVec.ofNat 256 (readLe (scrByte h r) o 32)
/-- A byte of a committed trail table entry. -/
def State.trailByte (s : State) (e o : Nat) : Nat := (mget s.jrm.trail (e * 256 + o)).toNat
/-- n bytes of a committed trail table entry, little-endian. -/
def State.trailGet (s : State) (e o n : Nat) : Nat := mread s.jrm.trail (e * 256 + o) n
/-- Bytes of a trail table entry written. -/
def State.trailSet (s : State) (e o n v : Nat) : State :=
  { s with jrm := { s.jrm with trail := mwrite s.jrm.trail (e * 256 + o) n v } }
/-- The LAYER of an entry; 0 while the entry is free (05 Table OVH-9). -/
def State.layer (s : State) (e : Nat) : Nat := s.trailByte e 0 % 16
/-- The INSTANCE of an entry. -/
def State.instanceOf (s : State) (e : Nat) : Nat := s.trailGet e 2 2

/-! ### The overhead read window (05 R139, R140, Table OVH-3) -/

/-- Byte o of the overhead read window; 0x80 to 0xBF hold the accumulators. R140 lets the run counts saturate and says nothing of FRAMES,
FRAMES_LOST and the 32-bit sums: they wrap. (DESIGN CHOICE, log entry 130) -/
def OhWin.byte (w : OhWin) (o : Nat) : Byte :=
  if o < 0x40 then w.now.getD o 0
  else if o < 0x80 then w.prev.getD (o - 0x40) 0
  else if 0xC0 ≤ o then w.acc.tti.getD (o - 0xC0) 0
  else
    let a := w.acc
    let v := (a.frames % 2 ^ 16) + atByte 2 (a.lost % 2 ^ 16) + atByte 4 (a.bipViol % 2 ^ 32) + atByte 8 (a.bipBlocks % 2 ^ 32)
      + atByte 12 (a.beiSum % 2 ^ 32) + atByte 16 (a.beiBlocks % 2 ^ 32) + atByte 0x14 w.alignNow.toNat
      + atByte 0x15 (a.alignAny ||| w.alignNow).toNat + atByte 0x16 a.statLast + atByte 0x17 (sat 255 a.statRun)
      + atByte 0x18 (128 * b2n a.bdi + sat 127 a.bdiRun) + atByte 0x19 (sat 255 a.biaeRun)
      + atByte 0x1A (128 * b2n a.iae + sat 127 a.iaeRun) + atByte 0x1B (sat 255 a.ttiStable) + atByte 0x1C a.ptLast
      + atByte 0x1D (sat 255 a.ptRun) + atByte 0x1E (128 * b2n a.csf + sat 127 a.csfRun)
    BitVec.ofNat 8 (v / 2 ^ (8 * (o - 0x80)))

/-- The consecutive counts of the accumulators begin anew, as a seeded context's do (05 R162). -/
def OhAcc.anew (a : OhAcc) : OhAcc :=
  { a with statRun := 0, bdiRun := 0, biaeRun := 0, iaeRun := 0, ttiStable := 0, ttiNew := [], ptRun := 0, csfRun := 0 }

/-! ### Ends of runs -/

/-- Items popped by a run go back to the head of their queues in their order (R80). `l` lists them newest first. -/
def State.unpop (s : State) (t : Nat) : List (Nat × QItem) → State
  | [] => s
  | (q, i) :: r =>
    let h := s.q q
    State.unpop (s.qset t q { h with items := i :: h.items, taken := h.taken - 1 }) t r

/-- A run that ends without an on-time COMMIT adds 1 to LATE_S of its second in every entry it binds that has PM_EN
(14 R422). -/
def State.lateSec (s : State) (h : CtxH) (r : RunSt) : State :=
  (h.bind.tt.map (·.1)).eraseDups.foldl (fun z e => z.pmSec e (secOf r.rel) fun a => { a with late := a.late + 1 }) s

/-- The engine is free of context c. -/
def State.idle (s : State) (c : Nat) : State :=
  if s.curCx (engineOf c) = some c then s.setCur (engineOf c) none else s

/-- A run ends with its staged work discarded (R80). -/
def State.discard (s : State) (t c : Nat) : State :=
  let h := s.cx c
  match h.run with
  | none => s
  | some r =>
    let s1 := (s.unpop t r.pops).lateSec h r
    (s1.setCx c { h with run := none, worst := max h.worst r.steps }).idle c

/-- The open packets of a context are discarded (R84): their own committed words are rewound. -/
def State.dropPackets (s : State) (t c : Nat) : State :=
  let h := s.cx c
  let s1 := h.pkts.foldl (fun z p =>
      if p.held = [] then z
      else z.qset t p.queue ((z.q p.queue).unbuild p.held.length).release) s
  s1.setCx c { s1.cx c with pkts := [] }

/-- A trap (R91): the run is discarded, the context halts with the trap recorded, and one event is logged with the
release instant of the run and the CTX; a slot move's copy has the CTX of the context it copies. -/
def State.trap (s : State) (t c code addr : Nat) : State :=
  let h := s.cx c
  match h.run with
  | none => s
  | some r =>
    let s1 := (s.discard t c).dropPackets t c
    let h1 := s1.cx c
    let s2 := s1.setCx c { h1 with state := 2, trapCode := code, trapAddr := addr % 2 ^ 32, trapDts := r.rel }
    let s3 := (h.bind.tt.map (·.1)).foldl (fun z e =>
      (z.pmSec e (secOf r.rel) fun a => { a with bad := true }).pmSec e (secOf t) fun a => { a with bad := true }) s2
    s3.log r.rel (0x5000 + code) (c % 131072) (addr % 2 ^ 32)

/-! ### The common course of an instruction -/

/-- What an instruction's own action answers: the state and run it leaves with the next offset, a trap with its code and
address, or a stall. -/
inductive JRes
  | ok (s : State) (r : RunSt) (next : Nat)
  | trap (code addr : Nat)
  | stall (w : Stall)

/-- The run a context is in, when the engine executes it, at t before its next release (R61, R75, R94). -/
def State.running (s : State) (t c : Nat) : Option RunSt :=
  let h := s.cx c
  if h.state = 1 ∧ s.curCx (engineOf c) = some c ∧ t < h.nextRel then
    match h.run with
    | some r => if r.stall = none ∧ r.started then some r else none
    | none => none
  else none

/-- The word at a run's offset is the instruction op with fields w. (DEDUCED, log entry 16; DEDUCED, log entry 28) -/
def atWord (h : CtxH) (r : RunSt) (op : JOp) (w : JWord) : Bool :=
  decide (h.bind.code[r.pc]? = some (jenc op w)) && op.legal w

/-- The guard of a word holds (R559). -/
def guardHolds (r : RunSt) (w : JWord) : Bool := (w.gp == 0 && !w.gs) || (r.pred w.gp.toNat == w.gs)

/-- One Jorm instruction of context c at t (R559, R561, R562): it comes about when the engine executes the context and the
word at its offset is this instruction. A false guard costs one step; a run over its WCSC traps with BUDGET unless the
instruction meets a lower trap code; otherwise its own action `f` decides. (DEDUCED, log entry 25) -/
def jstep (t c : Nat) (op : JOp) (w : JWord) (f : State → CtxH → RunSt → JRes) (s : State) : State :=
  match s.running t c with
  | none => s
  | some r =>
    let h := s.cx c
    if ¬ atWord h r op w then s
    else if ¬ guardHolds r w then
      if h.bind.wcsc < r.steps + 1 then s.trap t c 0x0A r.pc
      else s.setCx c { h with run := some { r with steps := r.steps + 1, pc := r.pc + 1 } }
    else
      let excess := decide (h.bind.wcsc < r.steps + op.cost)
      match f s h r with
      | .trap code a => (if excess then s else s.setCx c { h with run := some { r with steps := r.steps + op.cost } }).trap t c code a
      | .ok s1 r1 n =>
        if excess then s.trap t c 0x0A r.pc
        else s1.setCx c { s1.cx c with run := some { r1 with steps := r.steps + op.cost, pc := n } }
      | .stall st =>
        if excess then s.trap t c 0x0A r.pc
        else (s.setCx c { h with run := some { r with steps := r.steps + op.cost, stall := some st } }).idle c

/-- An action that changes only the run and goes on to the next offset. -/
def JRes.run (s : State) (r : RunSt) : JRes := .ok s r (r.pc + 1)

/-! ### Dispatch and release (R59 to R62, R75 to R82) -/

/-- The contexts of an engine that are ready: released, not stalled. -/
def State.ready (s : State) (e : Nat) : List (Nat × CtxH) :=
  s.jrm.ctx.filter fun p => engineOf p.1 = e ∧ p.2.state = 1 ∧ p.2.run.any (fun r => r.stall.isNone)

/-- The context an engine dispatches: the earliest next release instant, then the lower index (R75). -/
def pickReady (l : List (Nat × CtxH)) : Option Nat :=
  (l.foldl (fun m p => match m with
    | none => some p
    | some b => if p.2.nextRel < b.2.nextRel then some p else some b) none).map (·.1)

/-- ENGINE_DISPATCH (R75): an idle engine dispatches; the first dispatch of a run is charged 6 steps. -/
def engineDispatchEffect (_t e : Nat) (s : State) : State :=
  match s.curCx e with
  | some _ => s
  | none =>
    match pickReady (s.ready e) with
    | none => s
    | some c =>
      let h := s.cx c
      match h.run with
      | none => s
      | some r =>
        let r1 := if r.started then r else { r with started := true, steps := r.steps + 6 }
        (s.setCx c { h with run := some r1 }).setCur e (some c)

/-- g3 at a release (Table JRM-5). -/
def CtxH.g3 (h : CtxH) : Nat :=
  b2n (decide (h.rels = 0)) + 2 * b2n h.seed + 4 * b2n h.prevLate + 8 * b2n (decide (h.acc.lost ≠ 0))

/-- The accumulators as a release leaves them: sums start again, runs and latest values stay (05 R140). -/
def OhAcc.restart (a : OhAcc) : OhAcc :=
  { a with frames := 0, lost := 0, bipViol := 0, bipBlocks := 0, beiSum := 0, beiBlocks := 0, alignAny := 0 }

/-- A run at its release (R77, R564). -/
def newRun (t per : Nat) (h : CtxH) : RunSt :=
  { rel := t, per := per, st := h.st, p := h.p,
    g := ((h.g.set 1 (BitVec.ofNat 64 (h.rels + 1))).set 2 0x40).set 3 (BitVec.ofNat 64 h.g3) }

/-- The body of CONTEXT_RELEASE for context c, whose next release instant is `next` and whose overhead window shows
`alignNow`. (DEDUCED, log entry 31) -/
def State.release (s : State) (t c per next : Nat) (alignNow : BitVec 8) : State :=
  let h := s.cx c
  let late := h.run.isSome
  let s1 := s.discard t c
  let h1 := s1.cx c
  let h2 := { h1 with late := if late then sat 0xFFFF (h1.late + 1) else h1.late, prevLate := late || h1.halfLate, halfLate := false }
  s1.setCx c { h2 with
    run := some (newRun t per h2)
    rels := h2.rels + 1
    seed := false
    nextRel := next
    win := { now := h2.fnow, prev := h2.fprev, acc := h2.acc, alignNow := alignNow }
    acc := { h2.acc.restart with alignAny := alignNow } }

/-- The trail table entry a context serves: that of window slot 0 (R59). -/
def CtxH.entry0 (h : CtxH) : Nat := (h.bind.tt.head?.map (·.1)).getD 0

/-! ### COMMIT (R79, R612, 20 R577): what a run publishes -/

/-- Committed words of packets: one staged act becomes committed (R84, R374, R379). -/
def State.publishAct (s : State) (t c rel : Nat) (a : QueAct) : State :=
  let word (s : State) (p : PktOpen) (d : Item256) : State :=
    let h := s.q p.queue
    let hc := s.cx c
    let others := hc.pkts.filter fun x => x.queue ≠ p.queue
    let p1 := { p with words := p.words + 1 }
    let fin := decide (pktWords p.len ≤ p1.words)
    let keep (z : State) (p : PktOpen) : State := z.setCx c { z.cx c with pkts := if fin then others else p :: others }
    if p.dead then keep s p1
    else if h.full then keep (s.qdropPacket t p.queue p.held.length) { p1 with dead := true, held := [] }
    else
      let i : QItem := { data := d, kind := 1, dts := rel }
      if fin then
        let s1 := s.qset t p.queue (h.unbuild p.held.length)
        keep (s1.qpacket t p.queue rel p.len ((p.held ++ [i]).map (·.data))) p1
      else keep (s.qset t p.queue { h with build := h.build ++ [i] }) { p1 with held := p.held ++ [i] }
  match a with
  | .push q d => s.qpush t q { data := d, kind := 1, dts := rel, vis := t }
  | .pktBegin q len d => word s { queue := q, len := len, words := 0 } d
  | .pktWord q d =>
    match (s.cx c).pkts.find? fun x => x.queue = q with
    | none => s
    | some p => word s p d
  | .pktAbort q =>
    let n := (((s.cx c).pkts.find? fun x => x.queue = q).map fun p => p.held.length).getD 0
    let s1 := if n = 0 then s else s.qset t q ((s.q q).unbuild n).release
    s1.setCx c { s1.cx c with pkts := (s1.cx c).pkts.filter fun x => x.queue ≠ q }

/-- The slot of an item a run popped is released at its COMMIT (R375, R378). -/
def State.releasePop (s : State) (t : Nat) (q : Nat) (i : QItem) : State :=
  let h := s.q q
  s.qset t q ({ h with taken := h.taken - 1, popped := if i.counts then (h.popped + 1) % 2 ^ 32 else h.popped } : QueH).release

/-- The byte of integrator record r in an entry (20 INTG). -/
def intgOfs (r : Nat) : Nat := if r ≤ 5 then 0xC0 + 8 * r else 0xA8 + 8 * (r - 6)

/-- A record the run stepped or seeded copies its DX and FX into DEFECTS and FAILURES of its entry (R577). -/
def State.copyIntg (s : State) (e r : Nat) : State :=
  let b0 := s.trailByte e (intgOfs r)
  let d := s.trailByte e (intgOfs r + 1)
  if 11 < d then s else
  (s.trailSet e 0x80 4 (setBits (s.trailGet e 0x80 4) d 1 (b2n (bit b0 2)))).trailSet e 0x84 4
    (setBits (s.trailGet e 0x84 4) d 1 (b2n (bit b0 3)))

/-- CONTROLS of an entry merged at COMMIT (R612). (DEDUCED, log entry 50) -/
def State.mergeControls (s : State) (r : RunSt) (e : Nat) : State :=
  match sget r.tab (e * 256 + 0xA0) with
  | none => s
  | some st =>
    let m := ((sget r.tab (e * 256 + 0xA1)).getD 0xFF)
    let c := BitVec.ofNat 8 (s.trailByte e 0x89)
    s.trailSet e 0x89 1 ((c &&& ~~~m) ||| (st &&& m)).toNat

/-- COMMIT publishes all staged work of the run as one change and ends the run (R79); a shadow run publishes the context's own
state only (07 R613). -/
def State.publish (s : State) (t c : Nat) (r : RunSt) : State :=
  let h := s.cx c
  let n := s.jrm.commitNo + 1
  let own (y : State) : State :=
    let z : State := { y with jrm := { y.jrm with commitNo := n } }
    z.setCx c { z.cx c with
    run := none, g := r.g, p := r.p, st := r.st, commits := (h.commits + 1) % 2 ^ 32, worst := max h.worst r.steps
    readyAt := some (h.readyAt.getD h.nextRel)
    scr := r.scr.foldl (fun m (p : Nat × Byte) => mput m p.1 p.2) h.scr
    ins := r.oh.foldr (fun (p : Nat × Byte) m => sput m p.1 p.2) h.ins
    insNo := r.oh.foldl (fun m (p : Nat × Byte) => tput (fun _ => 0) m p.1 n) h.insNo }
  if h.shadow then (own s).idle c else
  let entries := (h.bind.tt.map (·.1)).eraseDups
  let s1 := { s with jrm := { s.jrm with trail := r.tab.foldl (fun m (p : Nat × Byte) => mput m p.1 p.2) s.jrm.trail } }
  let s2 := (r.intg.reverse.eraseDups).foldl (fun z p => z.copyIntg p.1 p.2) s1
  let s3 := entries.foldl (fun z e => z.mergeControls r e) s2
  let s4 := own s3
  let s5 := r.pops.reverse.foldl (fun z p => z.releasePop t p.1 p.2) s4
  let s6 := r.acts.foldl (fun z a => z.publishAct t c r.rel a) s5
  let s7 := r.pm.foldl (fun z p => z.pmSec p.1 (secOf r.rel) (SecAcc.add p.2.1 p.2.2)) s6
  (r.evs.foldl State.offer s7).idle c

/-! ### The standard routines (R99) -/

/-- A standard routine (03 Table JRM-7): its WCSC, the base-2 logarithm of its divider, and the layers it serves. -/
structure StdRow where
  wcsc : Nat
  div : Nat
  layers : List Nat
  /-- TX_TTI stands at bytes 64 to 127 of its block (05 R156) -/
  tti : Bool
  /-- it steps INTG records of its slot-0 entry, or writes it: role 1 or 2 (05 Table OVH-10) -/
  intg : Bool
  deriving DecidableEq, Repr
/-- The standard routines by ROUTINE_ID. (DESIGN CHOICE, log entry 27) -/
def stdRow (r : Nat) : Option StdRow :=
  match r with
  | 0x01 => some ⟨540, 0, [1, 2], true, true⟩
  | 0x02 => some ⟨520, 0, [3], true, true⟩
  | 0x03 => some ⟨160, 0, [3, 4], false, true⟩
  | 0x10 => some ⟨610, 0, [4], true, true⟩
  | 0x11 => some ⟨480, 0, [5], true, true⟩
  | 0x20 => some ⟨900, 3, [4], false, true⟩
  | 0x30 => some ⟨300, 0, [1, 2, 3, 4], false, false⟩
  | _ => none

/-! ### Resuming a stall (R82, R582) -/

/-- A stalled context becomes ready when its item or condition is there; a POP completes with the head item. -/
def stallResumeEffect (t c : Nat) (s : State) : State :=
  let h := s.cx c
  if ¬ (h.state = 1 ∧ t < h.nextRel) then s else
  match h.run with
  | none => s
  | some r =>
    match r.stall with
    | none => s
    | some (.item sl) =>
      let q := (h.bind.qs.getD sl (0, 0)).1
      if (s.q q).items = [] then s
      else s.setCx c { h with run := some { r with stall := none, pc := r.pc + 1 } }
    | some (.room sl) =>
      let q := (h.bind.qs.getD sl (0, 0)).1
      if (s.q q).full then s
      else s.setCx c { h with run := some { r with stall := none, pc := r.pc + 1 } }
    | some (.pop sl ofs dst) =>
      let q := (h.bind.qs.getD sl (0, 0)).1
      let hq := s.q q
      match hq.items with
      | [] => s
      | i :: rest =>
        let r1 := { (r.setReg (BitVec.ofNat 5 dst) (BitVec.ofNat 64 (i.kind + i.plen * 2 ^ 16))) with
                    scr := sputs r.scr ofs (leBytes 32 i.data.toNat), pops := (q, i) :: r.pops, stall := none, pc := r.pc + 1 }
        (s.qset t q { hq with items := rest, taken := hq.taken + 1 }).setCx c { h with run := some r1 }

/-- The status record of a context (Table JRM-4). -/
def ctxRecord (h : CtxH) : Nat :=
  h.state + atByte 1 h.trapCode + atByte 2 h.late + atByte 4 h.trapAddr + atByte 8 (dts96 h.trapDts)
    + atByte 20 h.bind.routine + atByte 24 h.commits + atByte 28 (h.worst % 2 ^ 32)

/-- ILLEGAL_INSTRUCTION (R558, R563): the word at the offset is illegal, or the code has ended; a standard routine meets neither. (DEDUCED,
log entry 28) -/
def illegalInstructionEffect (t c : Nat) (s : State) : State :=
  match s.running t c with
  | none => s
  | some r =>
    if (stdRow (s.cx c).bind.routine).isSome then s else
    match (s.cx c).bind.code[r.pc]? with
    | none => s.trap t c 0x01 r.pc
    | some d => if jdec d = none then s.trap t c 0x01 r.pc else s

/-- ENGINE_DISPATCH (R75). -/
def execEngineDispatch (t e : Nat) : State → Host.Outcome State Fault Refusal := event t (engineDispatchEffect t e)
/-- STALL_RESUME (R82). -/
def execStallResume (t c : Nat) : State → Host.Outcome State Fault Refusal := event t (stallResumeEffect t c)
/-- ILLEGAL_INSTRUCTION (R558). -/
def execIllegalInstruction (t c : Nat) : State → Host.Outcome State Fault Refusal := event t (illegalInstructionEffect t c)

end Sys2Proof.Machine
end

