-- ==== Sys2Proof/Machine/Layers.lean ====
section
/-! DEFINITION. Layer instances across the stages: which slice, ODU and entry belong together, the hardware triggers of
the fast path (05 R163 to R167), the class ladder's breaks (01 R37 to R41) and the switch engine (07 R223 to R227). -/
namespace Sys2Proof.Machine
open Sys2Proof

/-! ### Instances: slice n has key n, ODU instance i has key 256 + i -/

/-- The key of a slice or of an OTU4 interface's slice. -/
def sliceKey (n : Nat) : Nat := n
/-- The key of an ODU instance. -/
def oduKey (i : Nat) : Nat := 256 + i

/-- The layer instance a trail table entry belongs to (Table OVH-9, INSTANCE). -/
def State.entryKey (s : State) (e : Nat) : Option Nat :=
  let l := s.layer e
  if l = 1 ∨ l = 2 ∨ l = 3 then some (sliceKey (s.instanceOf e % 256))
  else if l = 4 ∨ l = 5 then some (oduKey (s.instanceOf e)) else none

/-- The trail table entries in use. -/
def State.entriesUsed (s : State) : List Nat := (s.jrm.trail.filter fun c => c.1 % 256 = 0 ∧ c.2.toNat % 16 ≠ 0).map fun c => c.1 / 256
/-- The entries of a layer instance. -/
def State.entriesOf (s : State) (k : Nat) : List Nat := s.entriesUsed.filter fun e => s.entryKey e = some k

/-- An aligner. -/
def State.al (s : State) (k : Nat) : AlignerH := tget (fun _ => {}) s.frm.al k
/-- An aligner replaced. -/
def State.setAl (s : State) (k : Nat) (a : AlignerH) : State :=
  { s with frm := { s.frm with al := tput (fun _ => {}) s.frm.al k a } }
/-- The BIP-8 of the OPU areas of an instance's latest two frames (05 R150). -/
def State.par (s : State) (k : Nat) : List Byte := tget (fun _ => []) s.frm.par k
/-- Those replaced. -/
def State.setPar (s : State) (k : Nat) (l : List Byte) : State :=
  { s with frm := { s.frm with par := tput (fun _ => []) s.frm.par k l } }
/-- The latest frame of an instance (05 R139): the DTS of its last overhead byte, and its bytes. -/
def State.rxFrame (s : State) (k : Nat) : Nat × List Byte := tget (fun _ => (0, [])) s.frm.rx k
/-- That frame replaced. -/
def State.setRx (s : State) (k t : Nat) (oh : List Byte) : State :=
  { s with frm := { s.frm with rx := tput (fun _ => (0, [])) s.frm.rx k (t, oh) } }
/-- An ODU instance. -/
def State.odu (s : State) (i : Nat) : OduH := tget (fun _ => {}) s.map.odu i
/-- An ODU instance replaced. -/
def State.setOdu (s : State) (i : Nat) (o : OduH) : State :=
  { s with map := { s.map with odu := tput (fun _ => {}) s.map.odu i o } }
/-- A demapper (d 0) or mapper (d 1) of an instance (Table MAP-7). -/
def State.mp (s : State) (i d : Nat) : MapH := tget (fun _ => {}) s.map.ms (i * 2 + d)
/-- A demapper or mapper replaced. -/
def State.setMp (s : State) (i d : Nat) (m : MapH) : State :=
  { s with map := { s.map with ms := tput (fun _ => {}) s.map.ms (i * 2 + d) m } }
/-- A connection map entry: direction d, instance i (R208). -/
def State.cn (s : State) (d i : Nat) : ConnH := tget (fun _ => {}) s.plz.conn (d * 20480 + i)
/-- A connection map entry replaced. -/
def State.setCn (s : State) (d i : Nat) (c : ConnH) : State :=
  { s with plz := { s.plz with conn := tput (fun _ => {}) s.plz.conn (d * 20480 + i) c } }
/-- A line interface. -/
def State.lif (s : State) (i : Nat) : LifH := tget (fun _ => {}) s.lin.lifs i
/-- A line interface replaced. -/
def State.setLif (s : State) (i : Nat) (h : LifH) : State :=
  { s with lin := { s.lin with lifs := tput (fun _ => {}) s.lin.lifs i h } }
/-- An OTUCn group. -/
def State.grp (s : State) (g : Nat) : GrpH := tget (fun _ => {}) s.lin.grps g
/-- An OTUCn group replaced. -/
def State.setGrp (s : State) (g : Nat) (h : GrpH) : State :=
  { s with lin := { s.lin with grps := tput (fun _ => {}) s.lin.grps g h } }

/-- A system lane group. -/
def State.sysGrp (s : State) (g : Nat) : SysGrp := tget (fun _ => {}) s.sysg g
/-- A system lane group replaced. -/
def State.setSysGrp (s : State) (g : Nat) (h : SysGrp) : State := { s with sysg := tput (fun _ => {}) s.sysg g h }

/-- Instances of an interface type (Table LIN-2). -/
def lifInst (ty : Nat) : Nat :=
  match ty with
  | 1 | 2 | 15 => 1
  | 3 | 4 | 5 => 2
  | 6 | 7 | 8 => 4
  | 9 => 8
  | _ => 0
/-- Lanes of an interface type (Table LIN-2). -/
def lifLanes (ty : Nat) : Nat :=
  match ty with
  | 1 | 3 => 1
  | 2 | 4 | 6 => 2
  | 5 | 7 | 9 | 15 => 4
  | 8 => 8
  | _ => 0
/-- Lane rate of an interface type, in kb/s (Table LIN-2). -/
def lifLaneRate (ty : Nat) : Nat :=
  match ty with
  | 1 | 4 | 7 => 111810000
  | 2 | 5 | 8 => 55905000
  | 3 | 6 | 9 => 223620000
  | 15 => 27952000
  | _ => 0
/-- Rate class of an interface type (Table LIN-2). -/
def lifClass (ty : Nat) : Nat :=
  match ty with
  | 2 | 5 | 8 => 0
  | 3 | 6 | 9 => 2
  | 15 => 3
  | _ => 1

/-- TYPE of an interface; 0 where none is configured. -/
def State.lifType (s : State) (i : Nat) : Nat := s.rget (Reg.LIN_LIF_CFG_TYPE i)
/-- The interfaces configured. -/
def State.lifsUsed (s : State) : List Nat := (List.range 128).filter fun i => s.lifType i ≠ 0
/-- The groups formed. -/
def State.grpsUsed (s : State) : List Nat := (List.range 64).filter fun g => s.rbit (Reg.LIN_GRP_CFG_ENABLED g)
/-- n of a group. -/
def State.grpN (s : State) (g : Nat) : Nat := s.rget (Reg.LIN_GRP_CFG_N_M1 g) + 1
/-- The slices of a group (R117). -/
def State.grpSlices (s : State) (g : Nat) : List Nat :=
  (List.range (s.grpN g)).map fun k => s.rget (Reg.LIN_GRP_CFG_OS_BASE g) + k
/-- The interface that carries slice n: a group's member, or an OTU4 interface. -/
def State.sliceLif (s : State) (n : Nat) : Option Nat :=
  s.lifsUsed.find? fun i => (s.rbit (Reg.LIN_LIF_CFG_GROUPED i) || s.lifType i == 15) &&
    decide (s.rget (Reg.LIN_LIF_CFG_OS_FIRST i) ≤ n ∧ n < s.rget (Reg.LIN_LIF_CFG_OS_FIRST i) + lifInst (s.lifType i))
/-- The group that slice n belongs to. -/
def State.sliceGrp (s : State) (n : Nat) : Option Nat :=
  s.grpsUsed.find? fun g => s.rget (Reg.LIN_GRP_CFG_OS_BASE g) ≤ n ∧ n < s.rget (Reg.LIN_GRP_CFG_OS_BASE g) + s.grpN g

/-! ### ODU types (Table MAP-1, Table MAP-2), rates in units of 100 bit/s -/

/-- Nominal rate of an ODU type; an ODUflex has its configured rate, in kb/s. -/
def oduRate (ty flex : Nat) : Nat :=
  match ty with
  | 0 => 12441600
  | 1 => 24987750
  | 2 => 100372740
  | 3 => 103995250
  | 4 => 403192190
  | 5 => 1047944450
  | _ => flex * 10
/-- Tolerance of an ODU type in ppm. -/
def oduTol (ty : Nat) : Nat := if ty = 3 ∨ 6 ≤ ty then 100 else 20
/-- The rate of an instance. -/
def OduH.bps100 (o : OduH) : Nat := oduRate o.type o.rate
/-- A frame of 122,368 bits at a rate in 100 bit/s, in ticks (Table PAC-3). (DEDUCED, log entry 47) -/
def frameTicks (r : Nat) : Nat := if r = 0 then 0 else 122368 * 65536 * 10000000 / r
/-- The frame period of a layer instance in ticks (Table PAC-3). (DEDUCED, log entry 47) -/
def State.framePeriod (s : State) (k : Nat) : Nat :=
  if k < 256 then
    (match s.sliceLif k with
    | some i => if s.lifType i = 15 then frameTicks 1047944450 else frameTicks 1052580000
    | none => frameTicks 1052580000)
  else frameTicks (s.odu (k - 256)).bps100

/-- SERVER of an instance: a group, or a higher-order instance. -/
def OduH.inGrp (o : OduH) : Option Nat := if o.server < 32768 then some o.server else none
/-- The higher-order instance an instance is carried in. -/
def OduH.inHo (o : OduH) : Option Nat := if 32768 ≤ o.server then some (o.server - 32768) else none
/-- The group that carries an instance, directly or through its servers. -/
def State.rootGrp (s : State) : Nat → Nat → Option Nat
  | 0, _ => none
  | f + 1, i => match (s.odu i).inHo with
    | some h => s.rootGrp f h
    | none => some (s.odu i).server
/-- The ODU instances configured. -/
def State.odusUsed (s : State) : List Nat := (s.map.odu.filter fun p => p.2.conf).map (·.1)
/-- A SERVER of [15] 0 that names the ODU4 of an OTU4's slice: 256 + the slice number. (DESIGN CHOICE, log entry 150) -/
def otu4Server (v : Nat) : Option Nat := if 256 ≤ v ∧ v < 512 then some (v - 256) else none
/-- The slice of TS5 #k of group g (R173), or of an OTU4 (04 R131). -/
def State.tsSlice (s : State) (g k : Nat) : Nat :=
  match otu4Server g with
  | some n => n
  | none => s.rget (Reg.LIN_GRP_CFG_OS_BASE g) + (k - 1) / 20
/-- The TS5 that a server of [15] 0 has: those of its group, or the 20 of an OTU4 (04 R131). -/
def State.tsTop (s : State) (g : Nat) : Nat := if (otu4Server g).isSome then 20 else 20 * s.grpN g
/-- An ODU4 that stands in an OTU4 itself: no GMP maps it. -/
def OduH.direct (o : OduH) : Bool := (otu4Server o.server).isSome
/-- The slices that carry an instance, in the order of its time slots, directly or through its servers. -/
def State.oduSlices (s : State) : Nat → Nat → List Nat
  | 0, _ => []
  | f + 1, i => match (s.odu i).inHo with
    | some h => s.oduSlices f h
    | none => ((s.odu i).ts.map (s.tsSlice (s.odu i).server)).eraseDups
/-- The TU count of an instance (R175). -/
def OduH.tus (o : OduH) : Nat := if o.server < 32768 then 4 * o.ts.length else o.ts.length

/-! ### Hardware triggers (05 R163, Table OVH-7) -/

/-- dLOF or dLOM of an instance. -/
def State.lofLom (s : State) (k : Nat) : Bool := (s.al k).dlof || (s.al k).mfas.dec
/-- A hardware trigger of a group: GROUP_FAIL, or dLOF or dLOM on any slice of it. -/
def State.grpTrig (s : State) (g : Nat) : Bool :=
  s.rbit (Reg.LIN_GRP_LIVE_GROUP_FAIL g) || (s.grpSlices g).any fun n => s.lofLom (sliceKey n)
/-- A hardware trigger of a slice: that of its group, or LOS, dLOF or dLOM of its OTU4 interface. -/
def State.sliceTrig (s : State) (n : Nat) : Bool :=
  match s.sliceGrp n with
  | some g => s.grpTrig g
  | none => (match s.sliceLif n with
    | some i => s.rbit (Reg.LIN_LIF_LIVE_LOS i) || s.lofLom (sliceKey n)
    | none => false)
/-- A hardware trigger of what a SERVER of [15] 0 names: a group, or an OTU4's slice. -/
def State.serverTrig (s : State) (g : Nat) : Bool :=
  match otu4Server g with
  | some n => s.sliceTrig n
  | none => s.grpTrig g
/-- A hardware trigger of an ODU instance: its own, or that of what carries it. -/
def State.oduTrig (s : State) : Nat → Nat → Bool
  | 0, _ => false
  | f + 1, i =>
    s.lofLom (oduKey i) || (s.al (oduKey i)).omfi.dec ||
      (match (s.odu i).inHo with
      | some h => s.oduTrig f h
      | none => s.serverTrig (s.odu i).server)
/-- Fuel for the chain of servers of an instance: an ODU in a higher-order ODU in a group. -/
def chain : Nat := 4
/-- A hardware trigger stands on an instance (R163). -/
def State.trig (s : State) (k : Nat) : Bool := if k < 256 then s.sliceTrig k else s.oduTrig chain (k - 256)
/-- The fast path replaces an instance (HW_DEFECTS [5]). -/
def State.fastOn (s : State) (k : Nat) : Bool := if k < 256 then s.sliceTrig k else (s.odu (k - 256)).fast
/-- Fast-path BDI of a layer instance (R163): its own declared trigger. -/
def State.fastBdi (s : State) (k : Nat) : Bool :=
  if k < 256 then s.sliceTrig k else s.lofLom k || (s.al k).omfi.dec
/-- LOS or GROUP_FAIL of what carries an instance (ALIGN_NOW [7]). -/
def State.carrierFail (s : State) (k : Nat) : Bool :=
  if k < 256 then
    (match s.sliceGrp k with
    | some g => s.rbit (Reg.LIN_GRP_LIVE_GROUP_FAIL g)
    | none => (s.sliceLif k).any fun i => s.rbit (Reg.LIN_LIF_LIVE_LOS i))
  else (s.rootGrp chain (k - 256)).any fun g => s.rbit (Reg.LIN_GRP_LIVE_GROUP_FAIL g)

/-- ALIGN_NOW of an instance (Table OVH-3). -/
def State.alignNow (s : State) (k : Nat) : BitVec 8 :=
  let a := s.al k
  BitVec.ofNat 8 (b2n (decide (a.st ≠ .inFrame)) + 2 * b2n a.dlof + 4 * b2n a.mfas.out + 8 * b2n a.mfas.dec + 16 * b2n a.omfi.out
    + 32 * b2n a.omfi.dec + 64 * b2n (s.fastOn k) + 128 * b2n (s.carrierFail k))

/-- The bound contexts that serve an instance (R59), by CTX. -/
def State.ctxOf (s : State) (k : Nat) : List Nat :=
  (s.jrm.ctx.filter fun p => p.2.state ≠ 0 ∧ s.entryKey p.2.entry0 = some k).map (·.1)

/-- The alignment conditions standing now enter ALIGN_ANY of every context of the instance (R140). -/
def State.noteAlign (s : State) (k : Nat) : State :=
  (s.ctxOf k).foldl (fun z c =>
    let h := z.cx c
    z.setCx c { h with acc := { h.acc with alignAny := h.acc.alignAny ||| z.alignNow k } }) s

/-- The multiframe in progress is interrupted and TTI_STABLE is zero: OOF or OOM has begun (05 R153). -/
def State.ttiBreak (s : State) (k : Nat) : State :=
  (s.ctxOf k).foldl (fun z c =>
    let h := z.cx c
    z.setCx c { h with acc := { h.acc with ttiStable := 0, ttiNew := [] } }) s

/-- An aligner goes to HUNT, which is OOF for defect purposes (05 R141): its runs of frames end, OOM holds. -/
def State.huntAl (s : State) (t k : Nat) : State :=
  let a := s.al k
  (((s.setAl k { a with on := true, st := .hunt, cands := [], held := none, err := 0, good := 0,
                         mfas := { a.mfas with err := 0, good := 0 }, omfi := { a.omfi with err := 0, good := 0 },
                         since := if a.st = .inFrame ∨ ¬ a.on then t else a.since }).setPar k []).ttiBreak k).noteAlign k

/-! ### HW_DEFECTS (05 R159, R170) -/

/-- HW_DEFECTS bit b of one entry takes a value: HW_DTS_NS and the event (Table PMN-7) follow a change. -/
def State.hwEntry (s : State) (t e b : Nat) (on : Bool) : State :=
  let v := s.trailByte e 0x88
  if bit v b = on then s else
  ((s.trailSet e 0x88 1 (setBits v b 1 (b2n on))).trailSet e 0x8C 4 (nsOf t)).log t (0x1200 + b2n on * 0x400 + b) e 0
/-- HW_DEFECTS bit b of an instance's entries takes a value: where an instance has several, as a PM entry and those of its TCM levels, the
spec does not say which one takes it; each does, and logs its own event. (DESIGN CHOICE, log entry 130) -/
def State.hwSet (s : State) (t k b : Nat) (on : Bool) : State := (s.entriesOf k).foldl (fun z e => z.hwEntry t e b on) s

/-! ### The switch engine (07 R223 to R227; 10 R311 to R313) -/

/-- Hardware signal fail of a receive entry (R224). -/
def State.hwSf (s : State) (i : Nat) : Bool := s.trig (oduKey i) || (s.mp i 0).unlock || (s.cn 0 i).aisFill

/-- The partner of an entry, when each names the other. -/
def State.partnerOf (s : State) (d i : Nat) : Option Nat :=
  let c := s.cn d i
  if c.valid ∧ c.partner ≠ 0xFFFF ∧ (s.cn d c.partner).valid ∧ (s.cn d c.partner).partner = i then some c.partner else none
/-- The other instance of a protection pair of a class, 2 A or 1 B: partners that name each other and carry it both (10 R298). -/
def State.mateOf (s : State) (cls d i : Nat) : Option Nat :=
  (s.partnerOf d i).filter fun p => (s.cn d i).cls == cls && (s.cn d p).cls == cls
/-- The receive partner of a Class B pair that shares PORT_A (R213). -/
def State.switchPartner (s : State) (i : Nat) : Option Nat :=
  (s.mateOf 1 0 i).filter fun p => (s.cn 0 p).portA == (s.cn 0 i).portA

/-- A selection of receive entry i is asked for at t (R225, R226, R311). -/
def State.askSel (s : State) (t i : Nat) (fast : Bool) : State :=
  let c := s.cn 0 i
  s.setCn 0 i { c with req := some ⟨fast, t⟩, held := false }

/-- The fast path on the receive pair whose selected entry is i (R225); it replaces the standing committed selection
(R312). -/
def State.fastPair (s : State) (t i : Nat) : State :=
  match s.switchPartner i with
  | none => s
  | some p =>
    let c := s.cn 0 i
    let o := s.cn 0 p
    if c.sel ∧ ¬ o.req.any (·.fast) ∧ s.hwSf i ∧ ¬ s.hwSf p ∧ c.fastEn ∧ o.fastEn ∧ ¬ o.inhibit then
      (s.setCn 0 i { c with req := none, held := false }).askSel t p true
    else s

/-- A held committed request is asked for when nothing stands against it any more (R226). (DEDUCED, log entry 53) -/
def State.heldPair (s : State) (t i : Nat) : State :=
  let o := s.cn 0 i
  if ¬ o.held then s else
  match s.switchPartner i with
  | none => s
  | some p => if s.hwSf i ∧ (s.hwSf p ∨ ¬ (s.cn 0 p).inhibit) then s else s.askSel t i false

/-- The receive entries of the connection map in use. -/
def State.rxConns (s : State) : List Nat := (s.plz.conn.filter fun p => p.1 < 20480 ∧ p.2.valid).map (·.1)

/-- The frames of a path that are passing at t, for each no longer than a frame period tf, carry a hardware signal fail (10 R318). -/
def PathH.sfPassing (h : PathH) (t tf : Nat) : PathH :=
  { h with frames := h.frames.map fun f => if t < f.arr + tf then { f with hwSf := true } else f }
/-- HW_SF is set in the frames that pass through receive pairs while their path has a hardware signal fail (10 R318). -/
def State.sfMark (s : State) (t : Nat) : State :=
  { s with pair := s.pair.map fun e =>
      if e.1 < 20480 then
        let tf := frameTicks (s.odu e.1).bps100
        (e.1, { e.2 with x := if s.hwSf e.1 then e.2.x.sfPassing t tf else e.2.x,
                         y := if s.hwSf (s.cn 0 e.1).partner then e.2.y.sfPassing t tf else e.2.y })
      else e }
/-- The switch engine looks at every pair (R225, R226), and the hitless selectors at the frames that pass. -/
def State.switchAll (s : State) (t : Nat) : State :=
  s.rxConns.foldl (fun z i => (z.fastPair t i).heldPair t i) (s.sfMark t)

/-- A COMMIT of the pair's APS routine selects receive entry i (R311, R226): a selection that stands already changes
nothing; one against a hardware signal fail is held. -/
def State.commitSel (s : State) (t i : Nat) : State :=
  match s.switchPartner i with
  | none => s
  | some p =>
    let o := s.cn 0 i
    let c := s.cn 0 p
    let s1 := s.setCn 0 p { c with held := false, req := if c.req.any (·.fast) then c.req else none }
    if o.sel then s1
    else if s.hwSf i ∧ (s.hwSf p ∨ ¬ c.inhibit) then s1.setCn 0 i { o with held := true }
    else if o.req.isSome then s1
    else s1.askSel t i false

/-- SEL of an entry takes a value; a change is counted and stamped (Table PLZ-2). -/
def State.setSel (s : State) (t d i : Nat) (v : Bool) : State :=
  let c := s.cn d i
  if c.sel = v then s else s.setCn d i { c with sel := v, switches := (c.switches + 1) % 2 ^ 32, chg := t }

/-! ### The fast path (05 R163, R164) -/

/-- What carries ODU i has a hardware trigger: its stream is lost (R141). -/
def State.carrierTrig (s : State) (i : Nat) : Bool :=
  match (s.odu i).inHo with
  | some h => s.oduTrig chain h
  | none => s.serverTrig (s.odu i).server
/-- The aligner of a demapped ODU loses the stream that carries it: from there on it hunts (R141). -/
def State.carrierLost (s : State) (t i : Nat) : State :=
  let on := s.carrierTrig i
  let o := s.odu i
  if o.lost = on then s else
  let s1 := s.setOdu i { o with lost := on }
  if on then s1.huntAl t (oduKey i) else s1
/-- Every affected slice and ODU follows the triggers: a trigger begins the replacement of an ODU; the end waits for the
ODU's next frame start (FAST_PATH_AIS_END). (DEDUCED, log entry 48) -/
def State.fastPath (s : State) (t : Nat) : State :=
  let slices := s.grpsUsed.flatMap s.grpSlices ++ s.lifsUsed.filterMap fun i =>
    if s.lifType i = 15 then some (s.rget (Reg.LIN_LIF_CFG_OS_FIRST i)) else none
  let s1 := slices.foldl (fun z n => (z.hwSet t (sliceKey n) 5 (z.sliceTrig n)).noteAlign (sliceKey n)) s
  let s2 := s1.odusUsed.foldl (fun y i =>
    let z := y.carrierLost t i
    if z.trig (oduKey i) ∧ ¬ (z.odu i).fast then
      ((z.setOdu i { z.odu i with fast := true }).hwSet t (oduKey i) 5 true).noteAlign (oduKey i)
    else z.noteAlign (oduKey i)) s1
  s2.switchAll t

/-- FAST_PATH_AIS_END (R164): ODU instance i starts a frame after its trigger has cleared. -/
def fastPathAisEndEffect (t i : Nat) (s : State) : State :=
  if (s.odu i).fast ∧ ¬ s.trig (oduKey i) then
    ((s.setOdu i { s.odu i with fast := false }).hwSet t (oduKey i) 5 false).switchAll t
  else s

/-! ### Replacement (05 R166 to R168, R191, R195) -/

/-- CONTROLS bit b of an entry of the instance whose level acts on the signal: PM, or an operational TCM (R156). -/
def State.control (s : State) (k b : Nat) : Bool :=
  (s.entriesOf k).any fun e => (s.layer e ≠ 5 || s.trailByte e 1 % 4 == 2) && bit (s.trailByte e 0x89) b
/-- The class ladder has broken an instance, or an ODU that carries it (01 R39). -/
def State.brokenIn (s : State) : Nat → Nat → Bool
  | 0, _ => false
  | f + 1, i => (s.odu i).broken.isSome || (match (s.odu i).inHo with | some h => s.brokenIn f h | none => false)
/-- The class ladder has broken tributary i. -/
def State.tribBroken (s : State) (i : Nat) : Bool := s.brokenIn chain i
/-- The server of an instance has aAIS or aSSF: committed for its slices (TS5) or its higher-order ODU (TS1G25), or the higher-order
ODU's own demapper raises aSSF or replaces its output (06 R186, R191). -/
def State.serverControl (s : State) (i : Nat) : Bool :=
  let o := s.odu i
  match o.inHo with
  | some h => s.control (oduKey h) 0 || s.control (oduKey h) 4 || (s.mp h 0).unlock || (s.mp h 0).slip
  | none => o.ts.any fun k => s.control (sliceKey (s.tsSlice o.server k)) 0 || s.control (sliceKey (s.tsSlice o.server k)) 4

/-- What replaces an ODU. -/
inductive Replacement | none | lck | ais | oci
  deriving DecidableEq, Repr

/-- An entry's route in force has no endpoint (07 R210, R216): no entry, or one whose PORT_A is TYPE 0. The entry of a demultiplexed
higher-order ODU needs none. -/
def ConnH.noEnd (c : ConnH) : Bool := c.out == 0 || (c.out == 1 && c.kind != 1)
/-- What replaces ODU instance i in direction d, the first present in the order of R167; d 0 receive, 1 transmit. -/
def State.replaced (s : State) (d i : Nat) : Replacement :=
  let o := s.odu i
  let m := s.mp i d
  if (if d = 0 then o.lckRx else o.lckTx) then .lck
  else if s.tribBroken i then .ais
  else if (s.cn d i).aisFill then .ais
  else if d = 0 then
    if o.fast || m.unlock || m.slip then .ais
    else if s.control (oduKey i) 0 || s.serverControl i then .ais else .none
  else if m.rateOor && o.client == 0 || m.starved then .ais
  else if (s.cn 1 i).noEnd then .oci
  else .none

/-- dCSF stands on an instance (R158). -/
def State.dcsf (s : State) (i : Nat) : Bool := (s.entriesOf (oduKey i)).any fun e => bit (s.trailGet e 0x80 4) 11
/-- The Ethernet client of an instance leaves its PHY as local fault (R168, 06 R191). -/
def State.localFault (s : State) (i : Nat) : Bool :=
  decide (s.replaced 0 i ≠ .none) || s.control (oduKey i) 4 || s.dcsf i || (s.mp i 0).unblock || (s.mp i 0).rxC.unlock || (s.mp i 0).slipC
/-- A demapper or mapper replaces its output (06 Table MAP-7): the ODU, or its Ethernet client, which a mapper does for a client that
has failed (06 R193, R195). -/
def State.replacing (s : State) (d i : Nat) : Bool :=
  decide (s.replaced d i ≠ .none) || ((s.odu i).client != 0 && (if d = 0 then s.localFault i else (s.mp i 1).lf))

/-! ### The class ladder (01 R35 to R44) -/

/-- Triggers of the class ladder (Table TOU-8, Table PMN-7). -/
def trigPace : Nat := 1
/-- Underpass shortage. -/
def trigUnd : Nat := 2
/-- Spare exhaustion. -/
def trigSpare : Nat := 3
/-- Arcade group shortage. -/
def trigArc : Nat := 4

/-- One tributary is broken by trigger g to protect class p, or none (R39, R40, R44): one already broken is left as it
is. -/
def State.breakOdu (s : State) (t i g : Nat) (p : Option Nat) : State :=
  let o := s.odu i
  if o.broken.isSome then s else
  let s1 := s.setOdu i { o with broken := some ⟨g, p.getD 0xFF, s.map.breaks⟩ }
  ({ s1 with map := { s1.map with breaks := s1.map.breaks + 1 } }).logSev t 1 (0x3000 + g * 256 + o.cls) i (p.getD 0xFF)
/-- A broken tributary is restored; the event carries the break's fields (R40, R41). -/
def State.restoreOdu (s : State) (t i : Nat) : State :=
  let o := s.odu i
  match o.broken with
  | none => s
  | some b => (s.setOdu i { o with broken := none }).logSev t 1 (0x3000 + b.trig * 256 + 128 + o.cls) i b.prot

/-- a is broken before b (R37, R38): the lower class, then the higher rank, then the higher instance. CLASS counts 0 Class
C, 1 Class B, 2 Class A. -/
def ladderBefore (s : State) (a b : Nat) : Bool :=
  let x := s.odu a
  let y := s.odu b
  x.cls < y.cls || (x.cls == y.cls && (y.rank < x.rank || (x.rank == y.rank && decide (b ≤ a))))
/-- An instance in its place of a ladder. -/
def ladderInsert (s : State) (i : Nat) : List Nat → List Nat
  | [] => [i]
  | j :: r => if ladderBefore s i j then i :: j :: r else j :: ladderInsert s i r
/-- Instances in the order they are broken. -/
def ladder (s : State) (l : List Nat) : List Nat := l.foldr (ladderInsert s) []
/-- The highest class of a list of instances. -/
def topClass (s : State) (l : List Nat) : Option Nat :=
  l.foldl (fun m i => some (max (m.getD 0) (s.odu i).cls)) none

/-- The tributary restored first of a list (R41): class A before B before C, then the last broken. -/
def nextRestore (s : State) (l : List Nat) : Option Nat :=
  l.foldl (fun m i => match m with
    | none => some i
    | some j =>
      let a := s.odu i
      let b := s.odu j
      if b.cls < a.cls ∨ (a.cls = b.cls ∧ (b.broken.map (·.order)).getD 0 < (a.broken.map (·.order)).getD 0) then some i else some j) none

/-- The Class A sum of a direction in TU (R36): each pair once, and each instance without a partner once. -/
def State.classATu (s : State) (d : Nat) : Nat :=
  ((s.odusUsed.filter fun i => (s.odu i).cls = 2).map fun i =>
    match s.partnerOf d i with
    | some p => if p < i ∧ (s.odu p).conf ∧ (s.odu p).cls = 2 then 0 else (s.odu i).tus
    | none => (s.odu i).tus).sum

/-- FAST_PATH_AIS_END (R164). -/
def execFastPathAisEnd (t i : Nat) : State → Host.Outcome State Fault Refusal := event t (fastPathAisEndEffect t i)

end Sys2Proof.Machine
end

