-- ==== Sys2Proof/Machine/Line.lean ====
section
/-! DEFINITION. Line ports: LOS, alignment markers, FEC, OTUCn groups and PRBS (04 R102 to R137). -/
namespace Sys2Proof.Machine
open Sys2Proof

/-! ### Conditioned inputs as their consumers take them (21 R595, Table PKG-3) -/

/-- A conditioned input. -/
def State.pin (s : State) (i : Nat) : PinH := tget (fun _ => {}) s.pins i
/-- A conditioned input replaced. -/
def State.setPin (s : State) (i : Nat) (p : PinH) : State := { s with pins := tput (fun _ => {}) s.pins i p }
/-- The bit of input i in a pair of words. -/
def pinBit (w : Nat → Nat) (i : Nat) : RF := ⟨w (i / 32), i % 32, 1⟩
/-- The sampled level of an input. -/
def State.pinLevel (s : State) (i : Nat) : Bool := s.rbit (pinBit Reg.PWR_IN_LEVEL i)
/-- An input is taken at its safe state (R595). -/
def State.pinSafe (s : State) (i : Nat) : Bool :=
  s.rbit (pinBit Reg.PWR_IN_STUCK i) || s.rbit (pinBit Reg.PWR_IN_CHATTER i) || !(s.pin i).seen
/-- The settings of a conditioned input: G, N, W, T (ticks), and the stuck limit with its level; a limit at either level has no level. -/
structure Conditioning where
  g : Nat
  n : Nat
  w : Nat
  quiet : Nat
  stuck : Option (Nat × Option Bool)
  deriving DecidableEq, Repr

/-- Index i names a conditioned input (Table PKG-2). -/
def pinNamed (i : Nat) : Bool := decide (i < 58)
/-- The settings in force: those of PWR_IN_CFG, or the fixed ones of Table PKG-2. -/
def State.conditioning (s : State) (i : Nat) : Conditioning :=
  if 54 ≤ i then
    if i < 56 then { g := 3, n := 24, w := us 10, quiet := us 100, stuck := some (us 1, some true) }
    else { g := 3, n := 8, w := us 10, quiet := us 100, stuck := some (us 60, none) }
  else
    let k := s.rget (Reg.PWR_IN_CFG_STUCK i)
    { g := s.rget (Reg.PWR_IN_CFG_GLITCH_M1 i) + 1, n := s.rget (Reg.PWR_IN_CFG_CH_N i), w := us (10 * 2 ^ s.rget (Reg.PWR_IN_CFG_CH_W i)),
      quiet := us (100 * 2 ^ s.rget (Reg.PWR_IN_CFG_QUIET i)),
      stuck := if k = 0 then none else some (ms (2 ^ (k - 1)), some (s.rbit (Reg.PWR_IN_CFG_STUCK_LVL i))) }

/-- A conditioned transition of input i to `level` changes something: the input's first level, or another level. -/
def State.pinMoves (s : State) (i : Nat) (level : Bool) : Bool :=
  pinNamed i && !s.pwr.held && !((s.pin i).seen && s.pinLevel i == level)
/-- Input i has stayed at its stuck level for its stuck limit at t (21 R593). -/
def State.stuckDue (s : State) (t i : Nat) : Bool :=
  match (s.conditioning i).stuck with
  | none => false
  | some (lim, lvl) => pinNamed i && (s.pin i).seen && !s.rbit (pinBit Reg.PWR_IN_STUCK i) && decide ((s.pin i).since + lim ≤ t) &&
      (lvl.isNone || lvl == some (s.pinLevel i))
/-- Input i is in CHATTER and has had no transition for its quiet time at t (21 R595). -/
def State.chatterPast (s : State) (t i : Nat) : Bool :=
  pinNamed i && s.rbit (pinBit Reg.PWR_IN_CHATTER i) && decide ((s.pin i).since + (s.conditioning i).quiet ≤ t)
/-- GEI n is at its asserting level, 0 high or 1 low (R129). -/
def State.geiOn (s : State) (n : Nat) (low : Bool) : Bool := s.pinSafe n || (s.pinLevel n != low)

/-- XOFF_INn is asserted as the Side Street ports take it: deasserted in its safe state (12 R394). -/
def State.xoffIn (s : State) (n : Nat) : Bool :=
  !s.pinSafe (32 + n) && (s.pinLevel (32 + n) != bit (s.rget Reg.QUE_XOFF_IN_CFG_POL) n)
/-- QUE_XOFF_STAT.IN_LEVEL, the FAULT bits and PAUSED follow the XOFF_IN pins (12 R394). (DEDUCED, log entry 120) -/
def State.xoffInShow (s : State) (t : Nat) : State :=
  let w (f : Nat → Bool) := ((List.range 16).map fun n => b2n (f n) * 2 ^ n).sum
  let flt (n : Nat) := s.rbit (pinBit Reg.PWR_IN_STUCK (32 + n)) || s.rbit (pinBit Reg.PWR_IN_CHATTER (32 + n))
  let s1 := (s.rset Reg.QUE_XOFF_STAT_IN_LEVEL (w s.xoffIn)).rset Reg.QUE_XOFF_IN_CFG_FAULT (w flt)
  ((s1.live t Reg.QUE_LIVE_XOFF_IN_FAULT 0 (w flt ≠ 0)).ssPaused t 0).ssPaused t 1

/-- A permit is held (18 R530). -/
def State.permitHeld (s : State) (code target : Nat) : Bool :=
  (List.range 512).any fun n => s.rbit (Reg.MNT_PERMIT_FLAGS_VALID n) && s.rget (Reg.MNT_PERMIT_CODE n) == code &&
    s.rget (Reg.MNT_PERMIT_TARGET n) == target

/-- A permit is given up: its entry clears (18 R529, R532, R538), and the adaptation it held goes on (R524). -/
def State.dropPermit (s : State) (code target : Nat) : State :=
  let s1 : State := { s with mnt := { s.mnt with frozen := s.mnt.frozen.filter fun p => p.1 != code || p.2.1 != target } }
  (List.range 512).foldl (fun z n =>
    if z.rbit (Reg.MNT_PERMIT_FLAGS_VALID n) ∧ z.rget (Reg.MNT_PERMIT_CODE n) = code ∧ z.rget (Reg.MNT_PERMIT_TARGET n) = target then
      (((z.setWord (Reg.MNT_PERMIT n) 0).setWord (Reg.MNT_PERMIT_FLAGS n) 0).setDtsWords (Reg.MNT_PERMIT_DTS0 n) 0)
    else z) s1
/-- A permit is released, with its event (18 R533). -/
def State.releasePermit (s : State) (t code target : Nat) : State :=
  if ¬ s.permitHeld code target then s else
  ((s.dropPermit code target).logSev t 5 0x8400 0 (code + target * 2 ^ 16 + 2 ^ 32)).pulse t Reg.MNT_LIVE_PERMIT_CHG 0

/-! ### Lanes and interfaces -/

/-- The interface that holds lane l. -/
def State.laneLif (s : State) (l : Nat) : Option Nat := s.lifsUsed.find? fun i => i ≤ l ∧ l < i + lifLanes (s.lifType i)
/-- The lanes of an interface. -/
def State.lifLaneList (s : State) (i : Nat) : List Nat := (List.range (lifLanes (s.lifType i))).map fun k => i + k
/-- The logical lanes of an interface: 20 for an OTU4 (R130). (DESIGN CHOICE, log entry 44) -/
def State.logical (s : State) (i : Nat) : Nat := if s.lifType i = 15 then 20 else Config.logicalLanes (s.lifType i)
/-- A logical lane. -/
def LifH.lane (h : LifH) (n : Nat) : AmLane := tget (fun _ => {}) h.lanes n
/-- Every logical lane has AM lock. -/
def State.amLocked (s : State) (i : Nat) : Bool := (List.range (s.logical i)).all fun n => ((s.lif i).lane n).lock
/-- LOS is declared. -/
def State.losOn (s : State) (i : Nat) : Bool := s.rbit (Reg.LIN_LIF_LIVE_LOS i)
/-- The slices of an interface. -/
def State.lifSlices (s : State) (i : Nat) : List Nat :=
  if s.rbit (Reg.LIN_LIF_CFG_GROUPED i) ∨ s.lifType i = 15 then
    (List.range (lifInst (s.lifType i))).map fun k => s.rget (Reg.LIN_LIF_CFG_OS_FIRST i) + k
  else []
/-- A loopback code stands on a lane of the interface (Table LIN-4). -/
def State.looped (s : State) (i code : Nat) : Bool := (s.lifLaneList i).any fun l => s.rget (Reg.LIN_LANE_STAT_LOOPBACK l) == code

/-- LOS_SET as the device takes it: 1 to 8; other values act as 8 (LIN_LIF_LOS_CFG). -/
def State.losSet (s : State) (i : Nat) : Nat :=
  let v := s.rget (Reg.LIN_LIF_LOS_CFG_LOS_SET i)
  ns (100 * if 1 ≤ v ∧ v ≤ 8 then v else 8)
/-- LOS_CLR_US as the device takes it: 0 acts as 1. -/
def State.losClr (s : State) (i : Nat) : Nat := us (max 1 (s.rget (Reg.LIN_LIF_LOS_CFG_LOS_CLR_US i)))

/-- A source of LOS is present since t, or since it was already. -/
def since (on : Bool) (t : Nat) (was : Option Nat) : Option Nat := if on then some (was.getD t) else none

/-- The three sources of Table LIN-3 as they stand. -/
def State.sdOn (s : State) (i : Nat) : Bool :=
  s.rbit (Reg.LIN_LIF_LOS_CFG_SD_EN i) && (s.lifLaneList i).any fun l => !s.rbit (Reg.LIN_LANE_STAT_SIG_DET l)
/-- CDR loss of lock on a lane. -/
def State.cdrOn (s : State) (i : Nat) : Bool := (s.lifLaneList i).any fun l => !s.rbit (Reg.LIN_LANE_STAT_CDR_LOCK l)
/-- The selected general event input asserts. -/
def State.lifGei (s : State) (i : Nat) : Bool :=
  s.rbit (Reg.LIN_LIF_LOS_CFG_GEI_EN i) && s.geiOn (s.rget (Reg.LIN_LIF_LOS_CFG_GEI_SEL i)) (s.rbit (Reg.LIN_LIF_LOS_CFG_GEI_POL i))

/-- The sources of interface i are looked at again at t (R126); under a terminal loopback line reception is ignored (Table LIN-4). -/
def State.lifSources (s : State) (t i : Nat) : State :=
  if s.lifType i = 0 then s else
  let h := s.lif i
  let on := !s.looped i 2
  let was := h.sd.isSome || h.cdr.isSome || h.gei.isSome
  let now := on && (s.sdOn i || s.cdrOn i || s.lifGei i)
  s.setLif i { h with sd := since (on && s.sdOn i) t h.sd, cdr := since (on && s.cdrOn i) t h.cdr, gei := since (on && s.lifGei i) t h.gei,
                      clear := if was ∧ ¬ now then t else h.clear }

/-- Every interface that takes GEI n as a source is looked at again. -/
def State.geiChanged (s : State) (t n : Nat) : State :=
  (s.lifsUsed.filter fun i => s.rbit (Reg.LIN_LIF_LOS_CFG_GEI_EN i) && s.rget (Reg.LIN_LIF_LOS_CFG_GEI_SEL i) == n).foldl
    (fun z i => z.lifSources t i) s

/-- The bits that R128 keeps down while LOS is declared. (DEDUCED, log entry 43) -/
def State.lifQuiet (s : State) (t i : Nat) : State :=
  (((s.live t (Reg.LIN_LIF_LIVE_AM_UNLOCK i) i false).live t (Reg.LIN_LIF_LIVE_LANE_DESKEW_FAIL i) i false).live t
    (Reg.LIN_LIF_LIVE_FEC_DEG i) i false).live t (Reg.LIN_LIF_LIVE_FEC_UNCORR i) i false

/-! ### Groups (R116 to R125) -/

/-- A member fails (R121), its alignment to the release point apart; one that no FlexO frame has shown to be the configured one is not
accepted (R118). (DEDUCED, log entry 45) -/
def State.memberBad (s : State) (m : MemberH) : Bool :=
  let i := m.lif
  let h := s.lif i
  s.losOn i || !s.amLocked i || s.rbit (Reg.LIN_LIF_LIVE_LANE_DESKEW_FAIL i) || h.gidMis || h.pidMis || !h.flexOk

/-- A member is aligned anew to the standing release point, against an aligned member with the same MFAS (R123, R124). (DEDUCED, log entry 45) -/
def MemberH.align (m : MemberH) (dmax : Nat) (ref : Option MemberH) : MemberH :=
  match ref with
  | none => m
  | some r =>
    let rel := r.arr + r.delay
    if rel < m.arr then { m with late := true }
    else if ns dmax < rel - m.arr then { m with late := false }
    else { m with late := false, aligned := true, delay := rel - m.arr }

/-- A member cannot be delayed to the release point within DESKEW_MAX_NS. -/
def MemberH.beyond (m : MemberH) (dmax : Nat) (ref : Option MemberH) : Bool :=
  match ref with
  | none => false
  | some r => decide (m.arr + ns dmax < r.arr + r.delay)

/-- The instant to which an aligned member is delayed. -/
def MemberH.release (m : MemberH) : Nat := m.arr + m.delay
/-- The aligned member that shows the release point for the MFAS member m last showed: of several, the one whose release is the middle one, so
that no member's own drift is taken for the release point. (DEDUCED, log entry 45) -/
def GrpH.ref (h : GrpH) (m : MemberH) : Option MemberH :=
  let l := h.members.filter fun r => r.aligned ∧ r.mfas = m.mfas
  l.find? fun r => decide ((l.filter fun x => x.release < r.release).length ≤ (l.length - 1) / 2 ∧
    (l.length - 1) / 2 < (l.filter fun x => x.release ≤ r.release).length)

/-- The positions, in ascending PID order, of the members that are not aligned. -/
def GrpH.failMask (h : GrpH) : Nat := (h.members.zipIdx.filter fun p => ¬ p.1.aligned).foldl (fun x p => x ||| 2 ^ p.2) 0

/-- The 0x6021 record of a declaration; a second member that fails at the same DTS joins it (R121, R125). -/
def State.failEvent (s : State) (t g mask : Nat) : State :=
  if s.evl.pend.any fun e => e.dts = t ∧ e.code = 0x6021 ∧ e.src = g then
    { s with evl := { s.evl with pend := s.evl.pend.map fun e =>
        if e.dts = t ∧ e.code = 0x6021 ∧ e.src = g then { e with detail := mask } else e } }
  else s.log t 0x6021 g mask

/-- The largest delay of a group's members enters LIN_GRP_SKEW. -/
def State.grpSkew (s : State) (g : Nat) : State :=
  let d := (s.grp g).members.foldl (fun x m => if m.aligned then max x m.delay else x) 0 / 65536 % 65536
  let s1 := s.rset (Reg.LIN_GRP_SKEW_SKEW_NS g) d
  s1.rset (Reg.LIN_GRP_SKEW_PEAK_NS g) (max d (s1.rget (Reg.LIN_GRP_SKEW_PEAK_NS g)))

/-- GROUP_FAIL is declared, or a further failure is added to it (R121, R123, R125). -/
def State.grpFail (s : State) (t g : Nat) : State :=
  let h := s.grp g
  let s1 := s.setGrp g { h with okSince := none }
  if s.rbit (Reg.LIN_GRP_LIVE_GROUP_FAIL g) then
    if s.evl.pend.any fun e => e.dts = t ∧ e.code = 0x6021 ∧ e.src = g then s1.failEvent t g h.failMask else s1
  else
    let s2 := s1.live t (Reg.LIN_GRP_LIVE_GROUP_FAIL g) g true
    if h.everClear ∧ h.clearedAt ≠ some t then (s2.cinc (Ctr.LIN_GRP_FAILS g)).failEvent t g h.failMask else s2

/-- The state of a group's members is drawn up again at t (R121 to R125): a member that is aligned, like one that recovers, is held against
the standing release point, which an aligned member with the same MFAS shows. (DEDUCED, log entry 45) -/
def State.grpCheck (s : State) (t g : Nat) : State :=
  if ¬ s.rbit (Reg.LIN_GRP_CFG_ENABLED g) then s else
  let h := s.grp g
  let ms1 : List MemberH := h.members.map fun m => if s.memberBad m then { m with aligned := false, late := false } else m
  let h1 : GrpH := { h with members := ms1 }
  let ms2 : List MemberH := ms1.map fun (m : MemberH) =>
    if m.seen ∧ ¬ s.memberBad m ∧ h.formed ∧ decide ((h1.ref m).map (fun (r : MemberH) => r.lif) ≠ some m.lif) then
      (match h1.ref m with
      | none => m
      | r => ({ m with aligned := false } : MemberH).align h.deskewMax r)
    else m
  let beyond (m : MemberH) : Bool := !m.aligned && m.seen && !s.memberBad m && h.formed && m.beyond h.deskewMax (h1.ref m)
  let s1 := s.setGrp g { h with members := ms2 }
  let s2 := ms2.foldl (fun z m =>
    (z.setLif m.lif { z.lif m.lif with out := beyond m }).live t (Reg.LIN_LIF_LIVE_MEMBER_FAIL m.lif) m.lif
      ((z.lif m.lif).gidMis || (z.lif m.lif).pidMis || beyond m)) s1
  let late := ms2.any (·.late)
  let s3 := s2.live t (Reg.LIN_GRP_LIVE_DESKEW_FAIL g) g late
  let h3 := s3.grp g
  let s4 := s3.setGrp g { h3 with lateSince := since (late && ms2.all fun m => m.aligned || m.late) t h3.lateSince }
  let s5 := s4.grpSkew g
  if ms2.all (·.aligned) then
    s5.setGrp g { s5.grp g with okSince := some ((s5.grp g).okSince.getD t) }
  else (s5.grpFail t g).fastPath t

/-- The group of an interface. -/
def State.lifGrp (s : State) (i : Nat) : Option Nat :=
  if s.rbit (Reg.LIN_LIF_CFG_GROUPED i) then some (s.rget (Reg.LIN_LIF_CFG_GROUP i)) else none

/-- An interface's state has changed: its group, or its own slice for an OTU4, follows. -/
def State.lifFollow (s : State) (t i : Nat) : State :=
  match s.lifGrp i with
  | some g => s.grpCheck t g
  | none => s.fastPath t

/-- LOS is declared on interface i at t, with a cause bit for each source present (R126 to R128); the aligners of its
slices lose the stream that carries them (05 R141). (DEDUCED, log entry 43) -/
def State.losDeclare (s : State) (t i : Nat) : State :=
  let h := s.lif i
  let s1 := (((s.live t (Reg.LIN_LIF_LIVE_LOS i) i true).live t (Reg.LIN_LIF_LIVE_CDR_LOL i) i
      (h.cdr.isSome || s.rbit (Reg.LIN_LIF_LIVE_CDR_LOL i))).live t (Reg.LIN_LIF_LIVE_SD_LOS i) i
      (h.sd.isSome || s.rbit (Reg.LIN_LIF_LIVE_SD_LOS i))).live t (Reg.LIN_LIF_LIVE_GEI_LOS i) i
      (h.gei.isSome || s.rbit (Reg.LIN_LIF_LIVE_GEI_LOS i))
  let s2 := (s1.setLif i { s1.lif i with losInWin := true }).lifQuiet t i
  ((s2.lifSlices i).foldl (fun z n => z.huntAl t (sliceKey n)) s2).lifFollow t i

/-- A further source of LOS, present for LOS_SET while LOS stands, sets its cause bit (R126, R127). -/
def State.losCause (s : State) (t i : Nat) : State :=
  let h := s.lif i
  let due (x : Option Nat) : Bool := x.any fun a => decide (a + s.losSet i ≤ t)
  ((s.live t (Reg.LIN_LIF_LIVE_CDR_LOL i) i (due h.cdr || s.rbit (Reg.LIN_LIF_LIVE_CDR_LOL i))).live t (Reg.LIN_LIF_LIVE_SD_LOS i) i
    (due h.sd || s.rbit (Reg.LIN_LIF_LIVE_SD_LOS i))).live t (Reg.LIN_LIF_LIVE_GEI_LOS i) i (due h.gei || s.rbit (Reg.LIN_LIF_LIVE_GEI_LOS i))

/-- Some source has been present for LOS_SET (R126); a terminal loopback raises no LOS (Table LIN-4). -/
def State.losDue (s : State) (t i : Nat) : Bool :=
  let h := s.lif i
  let old (x : Option Nat) : Bool := x.any fun a => decide (a + s.losSet i ≤ t)
  s.lifType i ≠ 0 && !s.looped i 2 && (old h.sd || old h.cdr || old h.gei)

/-- LOS_CLEAR (R126): all sources have been absent for LOS_CLR_US. -/
def losClearEffect (t i : Nat) (s : State) : State :=
  let h := s.lif i
  if ¬ s.losOn i ∨ h.sd.isSome ∨ h.cdr.isSome ∨ h.gei.isSome ∨ t < h.clear + s.losClr i then s else
  let s1 := (((s.live t (Reg.LIN_LIF_LIVE_LOS i) i false).live t (Reg.LIN_LIF_LIVE_CDR_LOL i) i false).live t
    (Reg.LIN_LIF_LIVE_SD_LOS i) i false).live t (Reg.LIN_LIF_LIVE_GEI_LOS i) i false
  (s1.live t (Reg.LIN_LIF_LIVE_AM_UNLOCK i) i (!s1.amLocked i)).lifFollow t i

/-- SIGNAL_DETECT_CHANGE (R126, Table LIN-3): the energy of lane l crosses its detect threshold. -/
def signalDetectChangeEffect (t l : Nat) (on : Bool) (s : State) : State :=
  if 128 ≤ l then s else
  let s1 := s.rsetb (Reg.LIN_LANE_STAT_SIG_DET l) on
  match s1.laneLif l with
  | some i => s1.lifSources t i
  | none => s1

/-- A line lane's CDR gains or loses lock (R127); the receiver of a lane of no interface is ignored (R105). -/
def State.lineCdr (s : State) (t l : Nat) (on : Bool) : State :=
  let lost := s.rbit (Reg.LIN_LANE_STAT_CDR_LOCK l) && !on
  let s1 := s.rsetb (Reg.LIN_LANE_STAT_CDR_LOCK l) on
  match s1.laneLif l with
  | some i => (if lost then s1.cinc (Ctr.LIN_LANE_CDR_LOL l) else s1).lifSources t i
  | none => s1

/-! ### Alignment markers (R109, R110) -/

/-- A marker on a logical lane: valid with at most 3 errored fixed bits. Lock is gained by two consecutive valid markers
at the marker spacing, and lost by four consecutive invalid ones at the expected positions; one elsewhere is none of these. A lane that keeps its
lock has its marker at the expected position, whose arrival tells its skew, errored or not. -/
def AmLane.mark (a : AmLane) (t num errs : Nat) (spaced : Bool) : AmLane :=
  if errs ≤ 3 ∧ (spaced ∨ ¬ a.lock) then
    let good := if spaced then a.good + 1 else 1
    { a with good := min 2 good, bad := 0, lock := a.lock || decide (2 ≤ good), num := num, arr := t }
  else if ¬ spaced then a
  else
    let bad := a.bad + 1
    { a with good := 0, bad := (if 4 ≤ bad then 0 else bad), lock := a.lock && decide (bad < 4), num := if a.lock then num else a.num,
             arr := if a.lock then t else a.arr }

/-- The skew of the lanes at marker `num`, once every lane has shown it (R110). -/
def State.laneSkew (s : State) (i num : Nat) : Option Nat :=
  let ls := (List.range (s.logical i)).map (s.lif i).lane
  if ls.all fun a => a.lock ∧ a.num = num then
    some (ls.foldl (fun m a => max m a.arr) 0 - ls.foldl (fun m a => min m a.arr) (ls.headD {}).arr)
  else none

/-- The lanes' skew as their latest markers show it: it stands above 200 ns when a marker that the first lane has shown is still missing on
another 200 ns later, or when a lane is two markers behind, whose spacing is longer than that (R110). None while it cannot be told.
(DEDUCED, log entry 45) -/
def State.skewOver (s : State) (t i num : Nat) : Option Bool :=
  let ls := (List.range (s.logical i)).map (s.lif i).lane
  if ¬ ls.all (·.lock) then none else
  match s.laneSkew i num with
  | some d => some (decide (ns 200 < d))
  | none =>
    let hi := ls.foldl (fun m a => max m a.num) (0 : Nat)
    let lo := ls.foldl (fun m a => min m a.num) hi
    let lead := (ls.filter fun a => a.num = hi).foldl (fun m a => min m a.arr) t
    if lo + 2 ≤ hi ∨ (lo < hi ∧ lead + ns 200 < t) then some true else none

/-- ALIGNMENT_MARKER (R109 to R111, R119): marker `num` of logical lane `lane` of interface i with `errs` errored fixed bits, `spaced` when
it comes at the marker spacing from the lane's last, in a FlexO frame of the given MFAS. LOS keeps AM_UNLOCK and LANE_DESKEW_FAIL down
(R128), and a terminal loopback has line reception ignored (Table LIN-4). (DEDUCED, log entry 45) -/
def alignmentMarkerEffect (t i lane num errs : Nat) (spaced : Bool) (mfas : Nat) (s : State) : State :=
  if s.lifType i = 0 ∨ s.logical i ≤ lane ∨ s.looped i 2 then s else
  let h := s.lif i
  let s1 := s.setLif i { h with lanes := tput (fun _ => {}) h.lanes lane ((h.lane lane).mark t num errs spaced) }
  let s2 := s1.live t (Reg.LIN_LIF_LIVE_AM_UNLOCK i) i (!s1.amLocked i && !s1.losOn i)
  let s2 := if s.amLocked i ∧ ¬ s2.amLocked i then (s2.lifSlices i).foldl (fun z n => z.huntAl t (sliceKey n)) s2 else s2
  let s3 := match s2.skewOver t i num with
    | none => s2
    | some x => s2.live t (Reg.LIN_LIF_LIVE_LANE_DESKEW_FAIL i) i (x && !s2.losOn i)
  let s4 := if (s3.laneSkew i num).isSome then
      match s3.lifGrp i with
      | some g =>
        let gh := s3.grp g
        s3.setGrp g { gh with members := gh.members.map fun m => if m.lif = i then { m with seen := true, mfas := mfas, arr := t } else m }
      | none => s3
    else s3
  s4.lifFollow t i

/-! ### Formation, clearing, re-formation (R119, R123, R124) -/

/-- The release point is fixed by the latest member's marker plus HEADROOM_NS, and every member is delayed to it (R119);
the timers are those in force now (LIN_GRP_TIMERS). -/
def State.formGrp (s : State) (t g : Nat) : State :=
  let h := s.grp g
  let dmax := s.rget (Reg.LIN_GRP_TIMERS_DESKEW_MAX_NS g)
  let head := min dmax (s.rget (Reg.LIN_GRP_TIMERS_HEADROOM_NS g))
  let last := h.members.foldl (fun x m => max x m.arr) 0
  let first := h.members.foldl (fun x m => min x m.arr) last
  let rel := last + ns head
  let ms := h.members.map fun m =>
    { m with late := false, aligned := decide (rel - m.arr ≤ ns dmax), delay := rel - m.arr }
  (s.setGrp g { h with members := ms, formed := true, relOfs := (rel - first) / 65536, deskewMax := dmax,
                       reform := max 1 (s.rget (Reg.LIN_GRP_TIMERS_REFORM_US g)), okSince := none, lateSince := none }).grpCheck t g

/-- Every member has been seen, fails in nothing but its alignment, and shows one MFAS. -/
def State.grpReady (s : State) (g : Nat) : Bool :=
  let ms := (s.grp g).members
  ms.all fun m => m.seen && !s.memberBad m && m.mfas == (ms.headD m).mfas

/-- GROUP_FORMATION (R119): the latest member's marker has come, and no aligned member holds a release point. -/
def groupFormationEffect (t g : Nat) (s : State) : State :=
  if s.rbit (Reg.LIN_GRP_CFG_ENABLED g) ∧ s.grpReady g ∧ (¬ (s.grp g).formed ∨ (s.grp g).members.all fun m => !m.aligned) then
    s.formGrp t g
  else s

/-- GROUP_FAIL_CLEAR (R123): every member has stayed aligned for REFORM_US. -/
def groupFailClearEffect (t g : Nat) (s : State) : State :=
  let h := s.grp g
  match h.okSince with
  | none => s
  | some a =>
    if s.rbit (Reg.LIN_GRP_LIVE_GROUP_FAIL g) ∧ a + us h.reform ≤ t then
      ((s.setGrp g { h with everClear := true, clearedAt := some t }).live t (Reg.LIN_GRP_LIVE_GROUP_FAIL g) g false).fastPath t
    else s

/-- GROUP_REFORM (R124): DESKEW_FAIL has persisted for 10 ms while every member was otherwise aligned. -/
def groupReformEffect (t g : Nat) (s : State) : State :=
  let h := s.grp g
  match h.lateSince with
  | none => s
  | some a =>
    if a + ms 10 ≤ t ∧ s.grpReady g then
      let s1 := s.formGrp t g
      let s2 := s1.log t 0x6020 g (h.relOfs % 2 ^ 24 + (s1.grp g).relOfs % 2 ^ 24 * 2 ^ 24)
      let s3 := s2.pulse t (Reg.LIN_GRP_LIVE_REFORMED g) g
      (s3.grpSlices g).foldl (fun z n => z.huntAl t (sliceKey n)) s3
    else s

/-! ### FEC (R112 to R115, R132) -/

/-- FEC_CODEWORD (R112 to R114, R132): a codeword of interface i with `syms` symbols and `nbits` bits corrected, or
uncorrectable; none is received under a terminal loopback (Table LIN-4). -/
def fecCodewordEffect (t i syms nbits : Nat) (uncorr : Bool) (s : State) : State :=
  let top := if s.lifType i = 15 then 8 else 15
  if s.lifType i = 0 ∨ s.losOn i ∨ s.looped i 2 ∨ (¬ uncorr ∧ top < syms) then s else
  let s1 := s.cinc (Ctr.LIN_CW_TOTAL i)
  if uncorr then (s1.cinc (Ctr.LIN_CW_UNCORR i)).pulseFor t (Reg.LIN_LIF_LIVE_FEC_UNCORR i) i (us 10)
  else
    let s2 := s1.cinc (Ctr.LIN_HIST i syms)
    if syms = 0 then s2 else
    let s3 := ((s2.cinc (Ctr.LIN_CW_CORR i)).cadd (Ctr.LIN_SYM_CORR i) syms).cadd (Ctr.LIN_BIT_CORR i) nbits
    s3.setLif i { s3.lif i with winBits := (s3.lif i).winBits + nbits }

/-- FEC_DEG_WINDOW (R115): a degrade window of interface i ends. One that contains LOS changes nothing, and the runs of windows go on past it.
(DESIGN CHOICE, log entry 151) -/
def fecDegWindowEffect (t i : Nat) (s : State) : State :=
  let win := max 1 (s.rget (Reg.LIN_LIF_FEC_CFG_DEG_WIN i))
  if s.lifType i = 0 ∨ t % ms (10 * win) ≠ 0 then s else
  let h := s.lif i
  let rate := lifLanes (s.lifType i) * lifLaneRate (s.lifType i) * 1000
  let above := decide (s.rget (Reg.LIN_LIF_FEC_CFG_DEG_MANT i) * rate * win < h.winBits * 10 ^ s.rget (Reg.LIN_LIF_FEC_CFG_DEG_EXP i) * 100)
  let s1 := { s with ctrs := tput (fun _ => 0) s.ctrs (Ctr.LIN_BIT_CORR_WIN i) (h.winBits % 2 ^ 48) }
  let h1 := if h.losInWin then h
    else if above then { h with degAbove := h.degAbove + 1, degBelow := 0 } else { h with degAbove := 0, degBelow := h.degBelow + 1 }
  let s2 := s1.setLif i { h1 with winBits := 0, losInWin := s.losOn i }
  if h.losInWin ∨ s.losOn i then s2
  else if s.rget (Reg.LIN_LIF_FEC_CFG_DEG_SET i) ≤ h1.degAbove then s2.live t (Reg.LIN_LIF_LIVE_FEC_DEG i) i true
  else if s.rget (Reg.LIN_LIF_FEC_CFG_DEG_CLR i) ≤ h1.degBelow then s2.live t (Reg.LIN_LIF_LIVE_FEC_DEG i) i false
  else s2

/-! ### Test facilities (R105, R113, R133 to R135) -/

/-- The generator polynomial of a pattern code: the exponents below the constant term (IEEE 802.3); none for SSPRBS, a fixed sequence.
(PRESUMED, log entry 129) -/
def prbsPoly (p : Nat) : List Nat :=
  match p with
  | 0 => [7, 6]
  | 1 => [9, 5]
  | 2 | 6 => [13, 12, 2, 1]
  | 3 => [15, 14]
  | 4 => [23, 18]
  | 5 | 7 => [31, 28]
  | _ => []
/-- What a line lane sends: nothing but a squelched output (R105), a PRBS pattern (its code, whether inverted), the lanes it receives, sent
back (Table LIN-4), or the core's data. -/
inductive LaneTx
  | squelched
  | prbs (pattern : Nat) (invert : Bool)
  | turned
  | data
  deriving DecidableEq, Repr
/-- What lane l sends (R105, R133, R134). -/
def State.laneTx (s : State) (l : Nat) : LaneTx :=
  if (s.laneLif l).isNone ∨ s.rget (Reg.LIN_LANE_STAT_LOOPBACK l) = 3 then .squelched
  else if s.rbit (Reg.LIN_LANE_PRBS_CFG_GEN_EN l) then .prbs (s.rget (Reg.LIN_LANE_PRBS_CFG_PATTERN l)) (s.rbit (Reg.LIN_LANE_PRBS_CFG_INVERT l))
  else if s.rget (Reg.LIN_LANE_STAT_LOOPBACK l) = 1 then .turned
  else .data
/-- The FlexO overhead a member of a group sends (R107, R118): MFAS, GID, PID, and MAP, which marks the PIDs of the group. (PRESUMED, log entry
129) -/
structure FlexoOh where
  mfas : Nat
  gid : Nat
  pid : Nat
  map : List Nat
  deriving DecidableEq, Repr
/-- The FlexO overhead of the n-th frame that interface i sends; none where it is no member. -/
def State.flexoTx (s : State) (i n : Nat) : Option FlexoOh :=
  (s.lifGrp i).map fun g => ⟨n % 256, s.rget (Reg.LIN_GRP_GID_GID g), s.rget (Reg.LIN_LIF_CFG_PID i), (s.grp g).members.map (·.pid)⟩
/-- A loopback begins on every lane of an interface, or ends (code 0). -/
def State.loopSet (s : State) (t i code : Nat) : State :=
  let s1 := (s.lifLaneList i).foldl (fun z l => z.rset (Reg.LIN_LANE_STAT_LOOPBACK l) code) s
  (s1.live t (Reg.LIN_LIF_LIVE_LOOPBACK i) i (code ≠ 0)).lifSources t i

/-- The interface of lane l holds a PRBS permit (Table MNT-3). -/
def State.prbsPermit (s : State) (l : Nat) : Bool := (s.laneLif l).any fun i => s.permitHeld 0x0104 i

/-- PRBS_LOCK (R134): 128 consecutive bits of lane l match. -/
def prbsLockEffect (_t l : Nat) (s : State) : State :=
  if l < 128 ∧ s.rbit (Reg.LIN_LANE_PRBS_CFG_CHK_EN l) ∧ s.prbsPermit l then s.rsetb (Reg.LIN_LANE_STAT_PRBS_LOCK l) true else s

/-- PRBS_LOSS_OF_LOCK (R134): 1,024 consecutive bits of lane l end with `errs` mismatches; each is counted, and lock is
lost above 32. -/
def prbsLossOfLockEffect (_t l errs : Nat) (s : State) : State :=
  if 128 ≤ l ∨ ¬ s.rbit (Reg.LIN_LANE_STAT_PRBS_LOCK l) then s else
  let s1 := s.cadd (Ctr.LIN_LANE_PRBS_ERR l) (min errs 1024)
  if 32 < errs then (s1.cinc (Ctr.LIN_LANE_PRBS_LOL l)).rsetb (Reg.LIN_LANE_STAT_PRBS_LOCK l) false else s1

/-- PRBS activity of an interface shows in LIN_LIF_LIVE. -/
def State.prbsLive (s : State) (t i : Nat) : State :=
  s.live t (Reg.LIN_LIF_LIVE_PRBS i) i ((s.lifLaneList i).any fun l =>
    s.rbit (Reg.LIN_LANE_PRBS_CFG_GEN_EN l) || s.rbit (Reg.LIN_LANE_PRBS_CFG_CHK_EN l))

/-- What a line permit starts on interface i (R113, R133, R137): its loopback; PRBS with its counters clear; no FEC correction. -/
def State.lineTestOn (s : State) (t c i : Nat) : State :=
  if 0x0101 ≤ c ∧ c ≤ 0x0103 then s.loopSet t i (c - 0x0100)
  else if c = 0x0104 then
    { s with ctrs := (s.lifLaneList i).foldl (fun m l => tput (fun _ => 0) (tput (fun _ => 0) m (Ctr.LIN_LANE_PRBS_ERR l) 0) (Ctr.LIN_LANE_PRBS_LOL l) 0) s.ctrs }
  else if c = 0x0105 then s.rsetb (Reg.LIN_LIF_CFG_CORR_DIS i) true
  else s
/-- What the end of a line permit stops on interface i: its loopback; generators and checkers; FEC goes on to correct. -/
def State.lineTestOff (s : State) (t c i : Nat) : State :=
  if 0x0101 ≤ c ∧ c ≤ 0x0103 then s.loopSet t i 0
  else if c = 0x0104 then
    ((s.lifLaneList i).foldl (fun z l =>
      ((z.rsetb (Reg.LIN_LANE_PRBS_CFG_GEN_EN l) false).rsetb (Reg.LIN_LANE_PRBS_CFG_CHK_EN l) false).rsetb (Reg.LIN_LANE_STAT_PRBS_LOCK l) false) s).prbsLive t i
  else if c = 0x0105 then s.rsetb (Reg.LIN_LIF_CFG_CORR_DIS i) false
  else s

/-- Why a write of v to LIN_LANE_PRBS_CFG of lane l is refused (R135): a reserved pattern; no PRBS permit, for which the spec names no
REASON. (DESIGN CHOICE, log entry 46) -/
def State.prbsFault (s : State) (l v : Nat) : Option (Option Nat) :=
  if 8 < v % 16 then some (some 6) else if ¬ s.prbsPermit l then some none else none
/-- A write of v to LIN_LANE_PRBS_CFG of lane l that is taken (R134, R135). -/
def State.prbsStore (s : State) (t l v : Nat) : State :=
  let s1 := s.setWord (Reg.LIN_LANE_PRBS_CFG l) (v % 128)
  let s2 := if bit v 5 then s1 else s1.rsetb (Reg.LIN_LANE_STAT_PRBS_LOCK l) false
  match s2.laneLif l with
  | some i => s2.prbsLive t i
  | none => s2

/-- The adaptation of a PRBS permit's lanes stops at t, where MNT_CFG asks for it (18 R524). -/
def State.adaptHold (s : State) (t c x : Nat) : State :=
  if s.rbit Reg.MNT_CFG_ADAPT_FREEZE ∧ (c = 0x0104 ∨ c = 0x0114) ∧ ¬ s.mnt.frozen.any (fun p => p.1 == c && p.2.1 == x) then
    { s with mnt := { s.mnt with frozen := s.mnt.frozen ++ [(c, x, t)] } }
  else s
/-- MNT_CFG has been written: the PRBS permits held stop the adaptation of their lanes. -/
def State.adaptFollow (s : State) (t : Nat) : State :=
  (List.range 512).foldl (fun z n => if s.rbit (Reg.MNT_PERMIT_FLAGS_VALID n) then
    z.adaptHold t (s.rget (Reg.MNT_PERMIT_CODE n)) (s.rget (Reg.MNT_PERMIT_TARGET n)) else z) s
/-- The lanes of a PRBS permit: line lanes 0 to 127, then the system lanes. -/
def State.permitLanes (s : State) (c x : Nat) : List Nat :=
  if c = 0x0104 then s.lifLaneList x else if c = 0x0114 then (List.range 8).map fun k => 128 + 8 * x + k else []
/-- The adaptation settings of a lane at t: those at which a permit holds them, else those that adaptation has reached (R524). -/
def State.adaptOf (s : State) (l t : Nat) : BitVec 256 :=
  Config.adaptSetting l (((s.mnt.frozen.find? fun p => (s.permitLanes p.1 p.2.1).contains l).map fun p => p.2.2).getD t)

/-! ### What the configuration commands do to interfaces and groups -/

/-- An interface starts with LOS declared, a cause bit for each source present, and no logical lane in AM lock (R126). -/
def State.lifStart (s : State) (t i : Nat) : State :=
  let h := s.lif i
  let s1 := (s.setLif i { slot := h.slot, dpll := h.dpll, clear := t }).lifSources t i
  s1.losDeclare t i

/-- SIGNAL_DETECT_CHANGE (R126) of a lane whose domain is ON (19 R539). -/
def execSignalDetectChange (t l : Nat) (on : Bool) : State → Host.Outcome State Fault Refusal :=
  event t fun s => if s.domOn (72 + l / 16) then signalDetectChangeEffect t l on s else s
/-- LOS_CLEAR (R126). -/
def execLosClear (t i : Nat) : State → Host.Outcome State Fault Refusal := event t (losClearEffect t i)
/-- ALIGNMENT_MARKER (R109). -/
def execAlignmentMarker (t i lane num errs : Nat) (spaced : Bool) (mfas : Nat) : State → Host.Outcome State Fault Refusal :=
  event t (alignmentMarkerEffect t i lane num errs spaced mfas)
/-- FEC_CODEWORD (R112). -/
def execFecCodeword (t i syms nbits : Nat) (uncorr : Bool) : State → Host.Outcome State Fault Refusal :=
  event t (fecCodewordEffect t i syms nbits uncorr)
/-- FEC_DEG_WINDOW (R115). -/
def execFecDegWindow (t i : Nat) : State → Host.Outcome State Fault Refusal := event t (fecDegWindowEffect t i)
/-- GROUP_FORMATION (R119). -/
def execGroupFormation (t g : Nat) : State → Host.Outcome State Fault Refusal := event t (groupFormationEffect t g)
/-- GROUP_FAIL_CLEAR (R123). -/
def execGroupFailClear (t g : Nat) : State → Host.Outcome State Fault Refusal := event t (groupFailClearEffect t g)
/-- GROUP_REFORM (R124). -/
def execGroupReform (t g : Nat) : State → Host.Outcome State Fault Refusal := event t (groupReformEffect t g)
/-- PRBS_LOCK (R134). -/
def execPrbsLock (t l : Nat) : State → Host.Outcome State Fault Refusal := event t (prbsLockEffect t l)
/-- PRBS_LOSS_OF_LOCK (R134). -/
def execPrbsLossOfLock (t l errs : Nat) : State → Host.Outcome State Fault Refusal := event t (prbsLossOfLockEffect t l errs)
end Sys2Proof.Machine
end

