-- ==== Sys2Proof/Machine/Gmp.lean ====
section
/-! DEFINITION. The parameters of GMP and AMP, the JC bytes, and the MSI (06 R171 to R191). -/
namespace Sys2Proof.Machine
open Sys2Proof

/-! ### GMP parameters (R182, R183, Table MAP-2, Table MAP-3) -/

/-- Capacity of a tributary slot in 100 bit/s: of an OPUC (`ho` none), or of a higher-order ODU's type. -/
def slotRate (ho : Option Nat) : Nat :=
  match ho with
  | none => 52408864
  | some 5 => 13017092
  | some 4 => 12547050
  | some _ => 12494096
/-- Tributary slots of a server: 20 in an OPUC slice, 80, 32 or 8. -/
def slotCount (ho : Option Nat) : Nat :=
  match ho with
  | none => 20
  | some 5 => 80
  | some 4 => 32
  | some _ => 8
/-- The type of the higher-order ODU an instance is carried in. -/
def State.hoType (s : State) (i : Nat) : Option Nat := (s.odu i).inHo.map fun h => (s.odu h).type
/-- P: words of a GMP period. -/
def gmpP (ho : Option Nat) : Nat :=
  match ho with
  | none => 952
  | some 5 => 15200
  | some _ => 15232
/-- M: bytes of a GMP word of ts slots. -/
def gmpM (ho : Option Nat) (ts : Nat) : Nat := match ho with | none => 16 * ts | some _ => ts
/-- Cmin of a tributary of rate r (100 bit/s) and tolerance tol (ppm) in ts slots (R183). -/
def cMin (p r tol cap ts : Nat) : Nat := p * (r * (1000000 - tol)) / (cap * ts * 1000020)
/-- Cmax (R183). -/
def cMax (p r tol cap ts : Nat) : Nat := (p * (r * (1000000 + tol)) + cap * ts * 999980 - 1) / (cap * ts * 999980)
/-- The period of the GMP of an ODU, in frames of its server (Table MAP-3); a client's is one OPU4 frame. -/
def gmpFrames (ho : Option Nat) : Nat := slotCount ho
/-- P of 100GBASE-R in an OPU4 (Table MAP-3). -/
def clientP : Nat := 950
/-- M of 100GBASE-R in an OPU4 (Table MAP-3). -/
def clientM : Nat := 16
/-- Cmin and Cmax of 100GBASE-R in an OPU4: 103.125 Gb/s ± 100 ppm in all 80 slots (R183, Table MAP-4). -/
def clientRange : Nat × Nat := (cMin clientP 1031250000 100 (slotRate (some 5)) 80, cMax clientP 1031250000 100 (slotRate (some 5)) 80)
/-- Cmin and Cmax of an instance. -/
def State.cRange (s : State) (i : Nat) : Nat × Nat :=
  let o := s.odu i
  let ho := s.hoType i
  let n := o.ts.length
  (cMin (gmpP ho) o.bps100 (oduTol o.type) (slotRate ho) n, cMax (gmpP ho) o.bps100 (oduTol o.type) (slotRate ho) n)
/-- The procedure of an ODU type in a server (Table MAP-1): 1 GMP, 2 AMP; 0 where the device does not carry it. -/
def mapProc (ty : Nat) (ho : Option Nat) : Nat :=
  match ho with
  | none => 1
  | some 5 => if ty = 5 then 0 else 1
  | some 4 => if ty = 0 ∨ ty = 3 ∨ ty = 6 then 1 else if ty = 1 ∨ ty = 2 then 2 else 0
  | some 2 => if ty = 0 ∨ ty = 6 then 1 else if ty = 1 then 2 else 0
  | some _ => 0
/-- The slots of a fixed-rate ODU type in a server (Table MAP-1). -/
def mapSlots (ty : Nat) (ho : Option Nat) : Nat :=
  match ho, ty with
  | none, 0 | none, 1 => 1
  | none, 2 | none, 3 => 2
  | none, 4 => 8
  | none, 5 => 20
  | some _, 0 => 1
  | some _, 1 => 2
  | some _, 2 => 8
  | some 4, 3 => 9
  | some _, 3 => 8
  | some _, 4 => 31
  | _, _ => 0
/-- The smallest slot count for an ODUflex of a rate in kb/s (R172). -/
def flexSlots (rate : Nat) (ho : Option Nat) : Nat :=
  let need := rate * 10 * 1000100
  let per := slotRate ho * 999980
  (need + per - 1) / per
/-- The most slots an ODUflex may take (R172). -/
def flexMax (ho : Option Nat) : Nat := match ho with | none => 160 | some h => slotCount (some h)

/-! ### JC bytes (R174, R184, R189)

ITU-T G.709 Annex D gives their code and their places, which the spec only names. The six bytes stand as one 48-bit number, JC1 highest.
(PRESUMED, log entry 131) -/

/-- The inversion patterns of the 14 bits for a change by +1, −1, +2 and −2. -/
def jcPlus1 : Nat := 0x2AAA
/-- By −1. -/
def jcMinus1 : Nat := 0x1555
/-- By +2. -/
def jcPlus2 : Nat := 0x1999
/-- By −2. -/
def jcMinus2 : Nat := 0x2666
/-- JC1 and JC2 for Cm after the value `old`: 14 bits, the increment and the decrement indicator. -/
def jcPair (old cm : Nat) : Nat :=
  (if cm = old then 4 * cm
  else if cm = old + 1 then 4 * (old ^^^ jcPlus1) + 2
  else if cm + 1 = old then 4 * (old ^^^ jcMinus1) + 1
  else if cm = old + 2 then 4 * (old ^^^ jcPlus2) + 2
  else if cm + 2 = old then 4 * (old ^^^ jcMinus2) + 1
  else 4 * cm + 3) % 65536
/-- Of two readings of a pair, the one whose base is nearer the value last read. -/
def jcNear (last a b : Nat) (x y : Nat) : Nat := if ((a : Int) - last).natAbs ≤ ((b : Int) - last).natAbs then x else y
/-- The Cm that JC1 and JC2 carry, after the value `last`. -/
def jcCm (last jc12 : Nat) : Nat :=
  let c := bits jc12 2 14
  if bit jc12 1 = bit jc12 0 then c
  else if bit jc12 1 then
    let a := c ^^^ jcPlus1
    let b := c ^^^ jcPlus2
    jcNear last a b (a + 1) (b + 2)
  else
    let a := c ^^^ jcMinus1
    let b := c ^^^ jcMinus2
    jcNear last a b (a - 1) (b - 2)
/-- CRC-8 over JC1 and JC2. -/
def jcCrc8 (jc12 : Nat) : Nat := crc ⟨8, 0x0D, 0, false, false, 0⟩ [BitVec.ofNat 8 (jc12 / 256), BitVec.ofNat 8 jc12]
/-- CRC-5 over the 10 bits of ΣCnD. -/
def jcCrc5 (v : Nat) : Nat := [9, 8, 7, 6, 5, 4, 3, 2, 1, 0].foldl (fun r k => crcStep 5 0x03 r (v.testBit k)) 0
/-- The six bytes for Cm after `old`, and ΣCnD: JC4 and JC5 carry five bits each, JC6 the CRC-5. -/
def jcEncode (old cm scnd : Nat) : Nat :=
  let p := jcPair old cm
  p * 2 ^ 32 + jcCrc8 p * 2 ^ 24 + bits scnd 5 5 * 2 ^ 16 + bits scnd 0 5 * 2 ^ 8 + jcCrc5 (scnd % 1024)
/-- The six bytes as GMP_PERIOD_RX names them. -/
def jcWord (jc12 jc45 : Nat) (jc3 jc6 : Byte) : Nat := jc12 % 65536 * 2 ^ 32 + jc3.toNat * 2 ^ 24 + jc45 % 65536 * 2 ^ 8 + jc6.toNat
/-- JC1 and JC2 of six bytes. -/
def jc12Of (w : Nat) : Nat := bits w 32 16
/-- ΣCnD of six bytes. -/
def jcScnd (w : Nat) : Nat := bits w 16 5 * 32 + bits w 8 5
/-- The CRC-8 of six bytes passes. -/
def jcOk8 (w : Nat) : Bool := bits w 24 8 == jcCrc8 (jc12Of w)
/-- The CRC-5 of six bytes passes. -/
def jcOk5 (w : Nat) : Bool := bits w 0 5 == jcCrc5 (jcScnd w)
/-- The overhead offsets of JC1 to JC6. -/
def jcOffsets : List Nat := [0x0F, 0x1F, 0x2F, 0x0E, 0x1E, 0x2E]
/-- The six JC bytes of an overhead. -/
def jcOf (oh : List Byte) : Nat := jcOffsets.foldl (fun n o => n * 256 + (oh.getD o 0).toNat) 0
/-- The six JC bytes put into an overhead. -/
def jcPut (w : Nat) (oh : List Byte) : List Byte :=
  jcOffsets.zipIdx.foldl (fun (l : List Byte) p => l.set p.1 (BitVec.ofNat 8 (bits w (40 - 8 * p.2) 8))) oh
/-- AMP: JC1 to JC3 each carry the justification (R189). -/
def jcAmp (just : Nat) : Nat := (just % 4) * (2 ^ 40 + 2 ^ 32 + 2 ^ 24)

/-- The tributary slot whose JC bytes stand in a frame of a server, from 0: by the OMFI of an OPUC or an OPU4, by the MFAS of another. -/
def jcSlot (ho : Option Nat) (oh : List Byte) : Nat :=
  match ho with
  | none | some 5 => (oh.getD 0x3F 0).toNat % slotCount ho
  | _ => (oh.getD 6 0).toNat % slotCount ho
/-- The ODU whose JC bytes stand in slot `slot` (from 0) of slice n, or of higher-order ODU k − 256: that whose last tributary slot it is. -/
def State.jcOdu (s : State) (k slot : Nat) : Option Nat :=
  s.odusUsed.find? fun i =>
    let o := s.odu i
    let last := o.ts.foldl max 0
    if k < 256 then o.inHo.isNone && decide (0 < last) && (last - 1) % 20 == slot && s.tsSlice o.server last == k
    else o.inHo == some (k - 256) && last == slot + 1
/-- The server type of a layer instance's tributaries: an OPUC, or a higher-order ODU. -/
def State.jcServer (s : State) (k : Nat) : Option Nat := if k < 256 then none else some (s.odu (k - 256)).type
/-- AMP decides a frame's justification by majority; when all differ it is none, which is counted (R189). -/
def MapH.amp (m : MapH) (a b c : Nat) : MapH :=
  if a = b ∨ a = c then { m with just := a % 4 }
  else if b = c then { m with just := b % 4 }
  else { m with just := 0, ampErr := (m.ampErr + 1) % 2 ^ 32 }
/-- The JC bytes of the tributary whose slot a received frame of instance k shows: the slice stage keeps them for the side tags of its
tokens; those of a lower-order ODU are where they are needed (R174), and decide the justification of one mapped by AMP (R189). -/
def State.jcExtract (s : State) (k : Nat) (oh : List Byte) : State :=
  match s.jcOdu k (jcSlot (s.jcServer k) oh) with
  | none => s
  | some i =>
    let m := s.mp i 0
    let w := jcOf oh
    if k < 256 then s.setMp i 0 { m with jc := some w }
    else
      let m1 : MapH := { m with jcAt := some w }
      s.setMp i 0 (if mapProc (s.odu i).type (s.hoType i) = 2 then m1.amp (bits w 40 2) (bits w 32 2) (bits w 24 2) else m1)
/-- The JC bytes that a side tag brings to the other stage (R174). -/
def State.jcArrive (s : State) (i d : Nat) (w : Option Nat) : State :=
  match w with
  | none => s
  | some x => s.setMp i d { s.mp i d with jcAt := some x }

/-- The idle blocks that IMP has inserted or deleted are counted (Table MAP-7). -/
def MapH.idles (m : MapH) (n : Nat) : MapH := { m with ampErr := (m.ampErr + n) % 2 ^ 32 }
/-- An ODUflex whose client is mapped by IMP (R190). -/
def OduH.imp (o : OduH) : Bool := o.type == 6 && decide (1 < o.client)
/-- A GMP period of a 100GBASE-R client, one OPU4 frame, at its demapper (R190): its Cm is accepted or held as an ODU's is (R185, R201). -/
def ClientRx.period (c : ClientRx) (w : Nat) (replaced : Bool) : ClientRx :=
  let cm := jcCm c.cmRx (jc12Of w)
  let c1 := if jcOk8 w && !replaced then { c with cmRx := cm } else c
  if jcOk8 w ∧ ¬ replaced ∧ clientRange.1 ≤ cm ∧ cm ≤ clientRange.2 then { c1 with cm := cm, held := 0, okRun := c.okRun + 1 }
  else { c1 with held := c.held + 1, okRun := 0 }
/-- Word j of a GMP period of p words carries data where Cm words do: those at which j × Cm passes a multiple of p (R184). (PRESUMED, log
entry 131) -/
def gmpDataAt (p cm j : Nat) : Bool := decide (j * cm % p < cm)
/-- Word j of the GMP period that now runs at instance i's demapper is data: the Cm used last governs it (R184). -/
def State.dataAt (s : State) (i j : Nat) : Bool := gmpDataAt (gmpP (s.hoType i)) (s.mp i 0).cm j
/-- Word j of the present OPU4 frame is data of a 100GBASE-R client. -/
def State.clientDataAt (s : State) (i j : Nat) : Bool := gmpDataAt clientP (s.mp i 0).rxC.cm j
/-- A client's demapper FIFO leaves its range (R192). -/
def State.clientSlip (s : State) (t i : Nat) : State :=
  let m := s.mp i 0
  (s.setMp i 0 { m with slipC := true, slips := (m.slips + 1) % 2 ^ 32 }).log t 0x6032 i 0
/-- What a received frame of ODU i with overhead `oh` brings to its demapper (R189 to R191); a slip of the ODU's demapper ends at it, one of its
client's at the client's next frame start (R192). -/
def State.demapFrame (s : State) (t i : Nat) (repl : Bool) (oh : List Byte) (x : MapRx) : State :=
  let o := s.odu i
  let m := s.mp i 0
  let m0 : MapH := if o.client = 1 then { m with rxC := m.rxC.period (jcOf oh) repl } else m
  let m1 := match x with
    | .plain => m0
    | .amp a b c => if mapProc o.type (s.hoType i) = 2 ∧ m0.jcAt = none then m0.amp a b c else m0
    | .imp lock n => if o.imp then ({ m0 with unblock := !lock } : MapH).idles n else m0
    | .client _ start => { m0 with slipC := m0.slipC && !start }
  let s1 := s.setMp i 0 { m1 with slip := false }
  match x with
  | .client true _ => if o.client ≠ 0 then s1.clientSlip t i else s1
  | _ => s1

/-! ### MSI (R178, R179) -/

/-- The bytes of one MSI entry: two in an OPUC, one in an OPUk. (PRESUMED, log entry 131) -/
def msiWidth (ho : Option Nat) : Nat := if ho = none then 2 else 1
/-- The tributary that a slot (from 1) of a server is allocated to: a removed one keeps it until the server multiframe that follows its
removal, and an added one has it from the multiframe that follows its configuration (R179). -/
def State.slotOwner (s : State) (k slot : Nat) : Option Nat :=
  let inSrv (o : OduH) : Bool := if k < 256 then o.inHo.isNone && o.ts.any fun x => s.tsSlice o.server x == k && (x - 1) % 20 + 1 == slot
    else o.inHo == some (k - 256) && o.ts.contains slot
  match s.odusUsed.find? fun i => inSrv (s.odu i) && !(s.odu i).msiWait with
  | some i => some i
  | none => (s.map.gone.find? fun p => inSrv p.2).map (·.1)
/-- What a byte of a tributary slot of a server is sent as: its tributary's, or zero where none is allocated; what such a slot brings is
ignored, since no tributary stands in it (R177). -/
def State.slotByte (s : State) (k slot : Nat) (b : Byte) : Byte := if (s.slotOwner k slot).isSome then b else 0
/-- Byte m of the PSI, from 2 up, of a server with tributary slots: the MSI from configuration, whose code G.709 gives. (DESIGN CHOICE,
log entry 145) -/
def State.msiByte (s : State) (k m : Nat) : Option Nat :=
  let ho := s.jcServer k
  let w := msiWidth ho
  let j := (m - 2) / w
  if m < 2 ∨ slotCount ho ≤ j then none
  else
    let v := Config.msi (ho.elim 0 (· + 1)) (j + 1) ((s.slotOwner k (j + 1)).elim 0 (· + 1))
    some (bits v.toNat (if w = 2 ∧ (m - 2) % 2 = 0 then 8 else 0) 8)

end Sys2Proof.Machine
end

