-- ==== Sys2Proof/Machine/Oap.lean ====
section
/-! DEFINITION. Overhead Access Ports (13 R399 to R420). -/
namespace Sys2Proof.Machine
open Sys2Proof

/-- A port. -/
def State.port (s : State) (n : Nat) : OapPort := tget (fun _ => {}) s.oap.ports n
/-- A port replaced; OAP_STAT shows its FIFOs. -/
def State.setPort (s : State) (n : Nat) (p : OapPort) : State :=
  let s1 := { s with oap := { s.oap with ports := tput (fun _ => {}) s.oap.ports n p } }
  (s1.rset (Reg.OAP_STAT_DROP_FIFO n) p.drop.length).rset (Reg.OAP_STAT_INS_FIFO n) p.ins.length

/-- States of OAP_STAT. -/
def oapArmed : Nat := 1
/-- RUNNING. -/
def oapRunning : Nat := 2
/-- CLK_LOST. -/
def oapLost : Nat := 3
/-- REALIGN. -/
def oapRealign : Nat := 4

/-- STATE of a port. -/
def State.oapState (s : State) (n : Nat) : Nat := s.rget (Reg.OAP_STAT_STATE n)
/-- STATE of a port takes a value; LIVE.CLK_LOST shows CLK_LOST and REALIGN (R417, R419). -/
def State.setOapState (s : State) (t n v : Nat) : State :=
  (s.rset (Reg.OAP_STAT_STATE n) v).live t (Reg.OAP_LIVE_CLK_LOST n) n (v == oapLost || v == oapRealign)
/-- A port enters RUNNING (R415, R419). -/
def State.oapRun (s : State) (t n : Nat) : State :=
  ((s.setOapState t n oapRunning).rsetb (Reg.OAP_CFG_START_ARM n) false).pulse t (Reg.OAP_LIVE_STARTED n) n

/-- Slots of a port frame. -/
def State.oapL (s : State) (n : Nat) : Nat := s.rget (Reg.OAP_CFG_SLOTS_M1 n) + 1
/-- A 64-bit mask. -/
def State.dropMask (s : State) (n : Nat) : Nat := s.wordN (Reg.OAP_DROP_MASK_LO n) + s.wordN (Reg.OAP_DROP_MASK_HI n) * 2 ^ 32
/-- INS_MASK. -/
def State.insMask (s : State) (n : Nat) : Nat := s.wordN (Reg.OAP_INS_MASK_LO n) + s.wordN (Reg.OAP_INS_MASK_HI n) * 2 ^ 32
/-- Mask bits set. -/
def ones64 (m : Nat) : Nat := ((List.range 64).filter fun b => bit m b).length
/-- R_max of a mask in a port frame of l slots (R404). -/
def rMax (l m : Nat) : Nat := (l - 1) / (ones64 m + 1)
/-- The bytes a mask selects, in ascending offset order (R402). -/
def selectBytes (m : Nat) (oh : List Byte) : List Byte := ((List.range 64).filter fun b => bit m b).map fun b => oh.getD b 0

/-- The slots of a port frame (R399, R404): OCC, the records, then zeros. -/
def State.oapSlots (s : State) (n occ : Nat) (l : List DropRec) : List Byte :=
  let b := BitVec.ofNat 8 occ :: l.flatMap fun r => BitVec.ofNat 8 r.tag :: r.bytes
  b ++ List.replicate (s.oapL n - b.length) 0

/-- An FS_ERR is counted (R401). -/
def State.fsErr (s : State) (t n : Nat) : State := (s.cinc (Ctr.OAP_FS_ERR n)).pulse t (Reg.OAP_LIVE_FS_ERR n) n

/-- The port frame in progress never completes: in the insert direction it is discarded and counted (R408). -/
def State.insCut (s : State) (n : Nat) : State :=
  if (s.port n).open_ ∧ s.rbit (Reg.OAP_CFG_INS_EN n) then s.cinc (Ctr.OAP_INS_FRAME_ERR n) else s

/-- PORT_FRAME_START (R399, R401, R404, R405, R408, R415, R419): OAn_FS asserts on port n, `early` when fewer than 8L bits have
passed since the last frame started. An ARMED or realigning port runs with the first frame that carries a record; one without a drop
direction has no first record to wait for: past the start instant, or in REALIGN, it runs. -/
def portFrameStartEffect (t n : Nat) (early : Bool) (s : State) : State :=
  if 8 ≤ n ∨ ¬ s.rbit (Reg.OAP_CFG_EN n) then s else
  let p := s.port n
  let s1 := if early && p.open_ then (s.insCut n).fsErr t n else s
  let st := s.oapState n
  if st = oapLost then
    (s1.setPort n { p with open_ := false, placed := 0, pframes := p.pframes + 1 }).emit (.oapFrame n (s.oapSlots n 0xFF []))
  else
    let rm := rMax (s.oapL n) (s.dropMask n)
    let ready := (p.drop.filter fun r => r.avail < t).take rm
    let s2 := s1.setPort n { p with open_ := true, placed := ready.length, pframes := p.pframes + 1 }
    if s.rbit (Reg.OAP_CFG_DROP_EN n) then
      (if (st = oapArmed ∨ st = oapRealign) ∧ ready ≠ [] then s2.oapRun t n else s2).emit
        (.oapFrame n (s.oapSlots n ready.length ready))
    else (if (st = oapArmed ∧ p.start.any fun x => decide (x < t)) ∨ st = oapRealign then s2.oapRun t n else s2).emit (.oapFrame n (s.oapSlots n 0 []))

/-- The insert records of a complete port frame enter the FIFO of 16; the newest is dropped when it is full (R408). -/
def State.insPush (s : State) (t n : Nat) (r : InsRec) : State :=
  let p := s.port n
  if p.ins.length < 16 then s.setPort n { p with ins := p.ins ++ [r] }
  else (s.cinc (Ctr.OAP_INS_LATE n)).pulse t (Reg.OAP_LIVE_INS_LATE n) n

/-- PORT_FRAME_COMPLETE (R405, R408): a port frame ends after 8L bits; `occ` and `recs` are what OAn_DIN carried. OCC 0xFF marks a fill
frame at every R_max. Before its start instant an ARMED port discards every record (R415). (DEDUCED, log entry 72) -/
def portFrameCompleteEffect (t n occ : Nat) (recs : List InsRec) (s : State) : State :=
  let p := s.port n
  if 8 ≤ n ∨ ¬ p.open_ then s else
  let s1 := (s.setPort n { p with open_ := false, placed := 0, drop := p.drop.drop p.placed }).cadd (Ctr.OAP_DROP_RECORDS n) p.placed
  if ¬ s.rbit (Reg.OAP_CFG_INS_EN n) then s1
  else if rMax (s.oapL n) (s.insMask n) < occ ∨ occ = 0xFF ∨ recs.length ≠ occ then s1.cinc (Ctr.OAP_INS_FRAME_ERR n)
  else if s.oapState n = oapArmed ∧ p.start = none then s1
  else recs.foldl (fun z r => z.insPush t n r) s1

/-- FS_MISSING (R401): 8L bits of port n have passed without OAn_FS; what OAn_DIN carries is ignored until the next. -/
def fsMissingEffect (t n : Nat) (s : State) : State :=
  if 8 ≤ n ∨ ¬ s.rbit (Reg.OAP_CFG_EN n) ∨ s.oapState n = oapLost then s else
  (s.setPort n { s.port n with open_ := false, placed := 0 }).fsErr t n

/-- The latest frame of port n's source is one of these bytes, and t is its receive release instant (R402; 02 R60; 05 R139). -/
def State.oapSource (s : State) (t n : Nat) (oh : List Byte) : Bool :=
  match s.entryKey (s.rget (Reg.OAP_SRC_ENTRY n)) with
  | some k => s.rxFrame k == (t, oh)
  | none => false

/-- DROP_RECORD_AVAILABLE (R402, R406, R407, R415, R419): the record of the source's frame of the given MFAS and overhead bytes, which
arrived at `arr`, becomes available; the frame counts for the ratio in either direction. -/
def dropRecordAvailableEffect (t n mfas arr : Nat) (oh : List Byte) (s : State) : State :=
  if 8 ≤ n ∨ ¬ s.rbit (Reg.OAP_CFG_EN n) ∨ ¬ s.oapSource t n oh ∨ (oh.getD 6 0).toNat ≠ mfas ∨ t < arr then s else
  let p := s.port n
  let st := s.oapState n
  let s0 := s.setPort n { p with frames := p.frames + 1 }
  let r : DropRec := { avail := t, tag := mfas, bytes := selectBytes (s.dropMask n) oh }
  let take (z : State) : State :=
    let q := z.port n
    if q.drop.length < 16 then z.setPort n { q with drop := q.drop ++ [r] }
    else ((z.setPort n { q with lastDrop := t }).cinc (Ctr.OAP_DROP_OVF n)).live t (Reg.OAP_LIVE_RATIO_OOR n) n true
  if ¬ s.rbit (Reg.OAP_CFG_DROP_EN n) then s0
  else if st = oapRunning then take s0
  else if st = oapArmed then
    (match p.start with
    | some a => if a ≤ arr then take s0 else s0
    | none => s0)
  else if st = oapRealign ∧ (p.drop ≠ [] ∨ mfas = 0 ∧ p.realign < arr) then take s0
  else s0

/-- RATIO_OOR_CLEAR (R406): 1 ms without a drop. -/
def ratioOorClearEffect (t n : Nat) (s : State) : State :=
  if n < 8 ∧ (s.port n).lastDrop + ms 1 ≤ t then s.live t (Reg.OAP_LIVE_RATIO_OOR n) n false else s

/-- RATIO_WINDOW (R407): source frames per port frame of an enabled port over the 1 ms just ended, in units of 1/256. With no port frame in
the window, or a ratio that 16 bits do not hold, the spec states no value: it is free. (DESIGN CHOICE, log entry 71) -/
def ratioWindowEffect (t n : Nat) (s : State) : State :=
  if 8 ≤ n ∨ t % ms 1 ≠ 0 ∨ ¬ s.rbit (Reg.OAP_CFG_EN n) then s else
  let p := s.port n
  let s1 := s.setPort n { p with frames := 0, pframes := 0 }
  let r := p.frames * 256 / p.pframes
  if p.pframes = 0 ∨ 0xFFFF < r then
    let (s2, v) := s1.fresh 16
    s2.rset (Reg.OAP_RATIO_V n) v
  else s1.rset (Reg.OAP_RATIO_V n) r

/-! ### Common start (R414 to R416) -/

/-- A start trigger at t: ignored and counted while a start instant is pending; two at one DTS are one (R416). -/
def State.startTrigger (s : State) (t : Nat) : State :=
  if s.rbit Reg.OAP_START_PENDING then (if s.oap.trig = t then s else s.cinc Ctr.OAP_START_IGNORED)
  else { s.rsetb Reg.OAP_START_PENDING true with oap := { s.oap with trig := t } }

/-- GO (R414): a write of one to GO. -/
def goEffect (t : Nat) (s : State) : State := if s.domOn 97 then s.startTrigger t else s

/-- START_INSTANT (R414, R415, R419): an OTUC frame of slice n arrives at t; its aligner has found it in frame and its MFAS 0. (DEDUCED,
log entry 73) -/
def startInstantEffect (t n : Nat) (s : State) : State :=
  let g := s.rget Reg.OAP_START_GROUP
  let a := s.al (sliceKey n)
  if s.rbit Reg.OAP_START_PENDING ∧ s.sliceGrp n = some g ∧ s.oap.trig ≤ t ∧ a.on ∧ a.st = .inFrame ∧ a.mfas.have_ ∧ ¬ a.mfas.out ∧ a.mfas.ref = 0 then
    let s1 := (s.rsetb Reg.OAP_START_PENDING false).setDtsWords Reg.OAP_START_DTS0 t
    (List.range 8).foldl (fun z k =>
      if z.rbit (Reg.OAP_CFG_EN k) ∧ z.rbit (Reg.OAP_CFG_START_ARM k) ∧ z.oapState k = oapArmed then
        z.setPort k { z.port k with start := some t }
      else z) s1
  else s

/-! ### Clock loss (R417 to R419) -/

/-- CLK_LOST (R408, R417, R418): 8 missing edges or fast periods of port n's clock; a clock loss at the DTS of the start instant
prevails (R419). -/
def clkLostEffect (t n : Nat) (s : State) : State :=
  if 8 ≤ n ∨ ¬ s.rbit (Reg.OAP_CFG_EN n) ∨ s.oapState n = oapLost then s else
  let p := s.port n
  let s1 := ((s.insCut n).setPort n { p with drop := [], ins := [], open_ := false, placed := 0, start := none, realign := t }).cadd (Ctr.OAP_DROP_OVF n) p.drop.length
  (s1.cinc (Ctr.OAP_CLK_LOSSES n)).setOapState t n oapLost

/-- REALIGN (R419): the clock has been good for 1 ms since it was lost, and the domain of the ports is ON (19 R539). -/
def realignEffect (t n : Nat) (s : State) : State :=
  if n < 8 ∧ s.domOn 97 ∧ s.oapState n = oapLost ∧ (s.port n).realign + ms 1 ≤ t then (s.setPort n { s.port n with realign := t }).setOapState t n oapRealign else s

/-! ### Insertion (R409 to R411) -/

/-- The head of an insert FIFO is examined for a frame of MFAS x at t: records too old leave and are counted; the record
inserted, if any, is the last component. -/
def insHead (t x : Nat) : List InsRec → Nat × List InsRec × Option InsRec
  | [] => (0, [], none)
  | r :: rest =>
    let d := (r.tag + 256 - x % 256) % 256
    if d = 0 then (if r.at_ + us 1 ≤ t then (0, rest, some r) else (0, r :: rest, none))
    else if d < 128 then (0, r :: rest, none)
    else
      let (c, l, o) := insHead t x rest
      (c + 1, l, o)

/-- The bytes of a record laid over a frame's overhead under a mask; a BIP-8 byte is hardware's (R403). -/
def insLay (m : Nat) (bips : List Nat) (oh : List Byte) (bytes : List Byte) : List Byte :=
  let offs := (List.range 64).filter fun b => bit m b
  (List.range 64).map fun b =>
    if bit m b ∧ ¬ bips.contains b then bytes.getD (offs.idxOf b) 0 else oh.getD b 0

/-- Port n inserts into a frame of MFAS x of its source's layer at t (R409 to R411). -/
def State.oapInsert (s : State) (t n x : Nat) (bips : List Nat) (oh : List Byte) : State × List Byte :=
  let p := s.port n
  let m := s.insMask n
  let (late, rest, got) := insHead t x p.ins
  let s1 := s.setPort n { p with ins := rest, lastIns := if got.isSome then got else p.lastIns }
  let s2 := if late = 0 then s1 else (s1.cadd (Ctr.OAP_INS_LATE n) late).pulse t (Reg.OAP_LIVE_INS_LATE n) n
  let s3 := if got.isSome then s2.cinc (Ctr.OAP_INS_RECORDS n)
    else (s2.cinc (Ctr.OAP_INS_UNDERRUN n)).pulse t (Reg.OAP_LIVE_INS_UNDERRUN n) n
  match (if got.isSome then got else p.lastIns) with
  | some r => (s3, insLay m bips oh r.bytes)
  | none => (s3, oh)

/-- The ports that insert into a layer instance. -/
def State.insPorts (s : State) (k : Nat) : List Nat :=
  (List.range 8).filter fun n => s.rbit (Reg.OAP_CFG_EN n) && s.rbit (Reg.OAP_CFG_INS_EN n) &&
    s.entryKey (s.rget (Reg.OAP_SRC_ENTRY n)) == some k

/-! ### Port registers (R420) -/

/-- Two ports would insert overlapping bytes into one source (R412), port n with mask m and source e. -/
def State.insClash (s : State) (n e m : Nat) : Bool :=
  (List.range 8).any fun k => k != n && s.rbit (Reg.OAP_CFG_INS_EN k) && s.rget (Reg.OAP_SRC_ENTRY k) == e && (s.insMask k &&& m) != 0

/-- Why a write of v to OAP_CFG of port n is refused (R404, R412, R420), the other words being what the same access leaves in z: while EN is
set only a write that clears EN alone or changes START_ARM alone is taken; a clash has no REASON of its own. (DEDUCED, log entry 73) -/
def State.oapCfgFault (s z : State) (n v : Nat) : Option (Option Nat) :=
  let v := v % 2 ^ 16
  let old := s.wordN (Reg.OAP_CFG n) % 2 ^ 16
  let l := bits v 6 10 + 1
  if bit old 0 then (if v = setBits old 0 1 0 ∨ setBits v 5 1 0 = setBits old 5 1 0 then none else some (some 4))
  else if (bit v 1 ∧ rMax l (z.dropMask n) = 0) ∨ (bit v 2 ∧ rMax l (z.insMask n) = 0) then some (some 9)
  else if bit v 2 ∧ z.insClash n (z.rget (Reg.OAP_SRC_ENTRY n)) (z.insMask n) then some none else none
/-- A write of v to OAP_CFG of port n that is taken (R414, R420). (DEDUCED, log entry 73) -/
def State.oapCfgStore (s : State) (t n v : Nat) : State :=
  let v := v % 2 ^ 16
  let old := s.wordN (Reg.OAP_CFG n) % 2 ^ 16
  let s1 := s.setWord (Reg.OAP_CFG n) v
  if bit old 0 then
    if ¬ bit v 0 then (s1.setPort n {}).setOapState t n 0
    else if bit v 5 then (if s.oapState n = oapRunning then (s1.setPort n { s1.port n with start := none }).setOapState t n oapArmed else s1)
    else if s.oapState n = oapArmed then s1.setOapState t n oapRunning else s1
  else if bit v 0 then (s1.setPort n {}).setOapState t n (if bit v 5 then oapArmed else oapRunning) else s1

/-- The port and the place of a mask word. -/
def oapMaskAt (a : Nat) : Nat × Nat := ((a - 0x200000) / 0x100, (a - 0x200000) % 0x100)
/-- Why a write of v to the mask word at a is refused (R403, R404, R412, R420), the masks being what the same access leaves in z. -/
def State.oapMaskFault (s z : State) (a v : Nat) : Option (Option Nat) :=
  let n := (oapMaskAt a).1
  let o := (oapMaskAt a).2
  if s.rbit (Reg.OAP_CFG_EN n) then some (some 4)
  else if o = 0x10 ∧ v % 128 ≠ 0 then some (some 9)
  else if (o < 0x10 ∧ s.rbit (Reg.OAP_CFG_DROP_EN n) ∧ rMax (s.oapL n) (z.dropMask n) = 0) ∨
      (0x10 ≤ o ∧ s.rbit (Reg.OAP_CFG_INS_EN n) ∧ rMax (s.oapL n) (z.insMask n) = 0) then some (some 9)
  else if 0x10 ≤ o ∧ s.rbit (Reg.OAP_CFG_INS_EN n) ∧ z.insClash n (z.rget (Reg.OAP_SRC_ENTRY n)) (z.insMask n) then some none else none
/-- A mask word that is taken: K_DROP and K_INS follow the masks. -/
def State.oapMaskStore (s : State) (a v : Nat) : State :=
  let n := (oapMaskAt a).1
  let s1 := s.setWord a v
  (s1.rset (Reg.OAP_STAT_K_DROP n) (ones64 (s1.dropMask n))).rset (Reg.OAP_STAT_K_INS n) (ones64 (s1.insMask n))

/-- Why a write of v to OAP_SRC of port n is refused (R412, R420), INS_EN being what the same access leaves in z. -/
def State.oapSrcFault (s z : State) (n v : Nat) : Option (Option Nat) :=
  let e := v % 65536
  if s.rbit (Reg.OAP_CFG_EN n) then some (some 4)
  else if s.layer e < 1 ∨ 4 < s.layer e then some (some 9)
  else if z.rbit (Reg.OAP_CFG_INS_EN n) ∧ z.insClash n e (z.insMask n) then some none else none

/-- PORT_FRAME_START (R405). -/
def execPortFrameStart (t n : Nat) (early : Bool) : State → Host.Outcome State Fault Refusal := event t (portFrameStartEffect t n early)
/-- PORT_FRAME_COMPLETE (R408). -/
def execPortFrameComplete (t n occ : Nat) (recs : List InsRec) : State → Host.Outcome State Fault Refusal :=
  event t (portFrameCompleteEffect t n occ recs)
/-- FS_MISSING (R401). -/
def execFsMissing (t n : Nat) : State → Host.Outcome State Fault Refusal := event t (fsMissingEffect t n)
/-- DROP_RECORD_AVAILABLE (R402). -/
def execDropRecordAvailable (t n mfas arr : Nat) (oh : List Byte) : State → Host.Outcome State Fault Refusal :=
  event t (dropRecordAvailableEffect t n mfas arr oh)
/-- RATIO_OOR_CLEAR (R406). -/
def execRatioOorClear (t n : Nat) : State → Host.Outcome State Fault Refusal := event t (ratioOorClearEffect t n)
/-- RATIO_WINDOW (R407). -/
def execRatioWindow (t n : Nat) : State → Host.Outcome State Fault Refusal := event t (ratioWindowEffect t n)
/-- GO (R414). -/
def execGo (t : Nat) : State → Host.Outcome State Fault Refusal := event t (goEffect t)
/-- START_INSTANT (R414). -/
def execStartInstant (t n : Nat) : State → Host.Outcome State Fault Refusal := event t (startInstantEffect t n)
/-- CLK_LOST (R417). -/
def execClkLost (t n : Nat) : State → Host.Outcome State Fault Refusal := event t (clkLostEffect t n)
/-- REALIGN (R419). -/
def execRealign (t n : Nat) : State → Host.Outcome State Fault Refusal := event t (realignEffect t n)
end Sys2Proof.Machine
end

