-- ==== Sys2Proof/Machine/Framing.lean ====
section
/-! DEFINITION. Frame alignment, received and transmitted overhead, and the release of contexts (05 R138 to R170; 03 R59 to
R64, R86). -/
namespace Sys2Proof.Machine
open Sys2Proof

/-! ### Aligners (R141 to R149) -/

/-- The entries whose aligner parameters an instance uses: its SM or PM entry. -/
def State.alignEntries (s : State) (k : Nat) : List Nat := (s.entriesOf k).filter fun e => s.layer e = 1 ∨ s.layer e = 2 ∨ s.layer e = 4
/-- IF_FRAMES of an instance (Table OVH-4). -/
def State.ifFrames (s : State) (k : Nat) : Nat :=
  match s.alignEntries k with
  | e :: _ => s.trailByte e 4 % 8
  | [] => 2
/-- OOF_FRAMES of an instance. -/
def State.oofFrames (s : State) (k : Nat) : Nat :=
  match s.alignEntries k with
  | e :: _ => bits (s.trailByte e 4) 3 4
  | [] => 5
/-- LOF_MS of an instance, in ticks. -/
def State.lofTicks (s : State) (k : Nat) : Nat :=
  match s.alignEntries k with
  | e :: _ => ms (s.trailByte e 5 % 16)
  | [] => ms 3

/-- The frame alignment signal (R142). -/
def fas48 : BitVec 48 := 0xF6F6F6282828
/-- The 32 bits of it that R145 checks. -/
def fas32 : Word := 0xF6F62828
/-- Bytes of a frame period of instance k (R143): 4 rows of 4,080 columns for an OTU4, of 3,824 otherwise. -/
def State.frameBytes (s : State) (k : Nat) : Nat :=
  if k < 256 ∧ (s.sliceLif k).any (fun i => s.lifType i = 15) then 16320 else 15296

/-- A multiframe check starts again from the frame that comes next, or from value m. -/
def MfH.restart (f : MfH) (m : Option Nat) : MfH := { f with ref := m.getD 0, have_ := m.isSome, err := 0, good := 0 }
/-- An aligner enters IF at position b, with MFAS m and OMFI o as the references where the frame there has shown them (R144, R146, R149).
(DEDUCED, log entry 48) -/
def AlignerH.enterIf (a : AlignerH) (t b : Nat) (m o : Option Nat) : AlignerH :=
  { a with st := .inFrame, cands := [], held := none, pos := b, err := 0, good := 0, since := t,
           mfas := a.mfas.restart m, omfi := a.omfi.restart o }
/-- A realignment (R152): into IF from HUNT, or a move to a new position. -/
def AlignerH.realign (a : AlignerH) (t b : Nat) (m : Option Nat) : AlignerH :=
  { a.enterIf t b m none with realigns := a.realigns + 1, frames := 0 }
/-- The candidate whose next sighting is due at byte b, one frame period of n bytes after its last (R143). -/
def AlignerH.due (a : AlignerH) (n b : Nat) : Option (Nat × Nat) := a.cands.find? fun c => c.1 + n = b
/-- A candidate that byte b has passed one frame period after its last sighting, without a sighting, mismatched there (R143). -/
def AlignerH.pass (a : AlignerH) (n b : Nat) : AlignerH := { a with cands := a.cands.filter fun c => b ≤ c.1 + n }

/-- A candidate position that could not be tracked counts in ALIGN_OVF (R142). -/
def State.alignOvf (s : State) (k : Nat) : State :=
  (s.alignEntries k).foldl (fun z e => z.trailSet e 0x8A 2 (sat 0xFFFF (z.trailGet e 0x8A 2 + 1))) s

/-- A candidate has reached IF_FRAMES repeats (R144, R146). -/
def State.confirm (s : State) (t k b mfas : Nat) : State :=
  let a := s.al k
  let pos := b % s.frameBytes k
  if a.st = .hunt then ((s.setAl k (a.realign t pos (some mfas))).setPar k []).noteAlign k
  else s.setAl k { a with cands := [], held := some pos }

/-- CANDIDATE_SIGHTING (R142 to R144): the 48 bits of instance k's stream at byte b, counted from any byte of it, are `pat`. A candidate is
compared one frame period after its last sighting; elsewhere the pattern starts one. mfas is the MFAS of the frame at b. (DEDUCED, log
entry 48) -/
def candidateSightingEffect (t k b : Nat) (pat : BitVec 48) (mfas : Nat) (s : State) : State :=
  let n := s.frameBytes k
  let a := (s.al k).pass n b
  if ¬ a.on ∨ a.st = .inFrame then s else
  match a.due n b with
  | some c =>
    if pat ≠ fas48 then s.setAl k { a with cands := a.cands.filter fun x => x ≠ c }
    else
      let s1 := s.setAl k { a with cands := a.cands.map fun x => if x = c then (b, c.2 + 1) else x }
      if s.ifFrames k ≤ c.2 + 1 then s1.confirm t k b (mfas % 256) else s1
  | none =>
    if pat ≠ fas48 ∨ a.held.isSome then s.setAl k a
    else if a.cands.length < 8 then s.setAl k { a with cands := a.cands ++ [(b, 0)] }
    else (s.setAl k a).alignOvf k

/-- One frame of a multiframe check of modulus n against IF_FRAMES and OOF_FRAMES (R148, R149). (DEDUCED, log entry 48) -/
def MfH.check (m : MfH) (t n v ifF oofF : Nat) : MfH :=
  if m.out then
    let good := if m.good ≠ 0 ∧ v = (m.ref + 1) % n then m.good + 1 else 1
    if ifF ≤ good then { m with ref := v, good := 0, err := 0, out := false, since := t, have_ := true }
    else { m with ref := v, good := good }
  else if ¬ m.have_ then { m with ref := v, have_ := true, err := 0 }
  else if v = (m.ref + 1) % n then { m with ref := v, err := 0 }
  else
    let e := m.err + 1
    if oofF ≤ e then { m with ref := (m.ref + 1) % n, err := 0, good := 0, out := true, since := t }
    else { m with ref := (m.ref + 1) % n, err := e }

/-- Instance i is a higher-order ODU (R177). -/
def State.isHo (s : State) (i : Nat) : Bool := s.odusUsed.any fun j => (s.odu j).inHo = some i

/-- Instance i is an OPU4 that carries TS1G25: its frames hold an OMFI (R149). -/
def State.hasOmfi (s : State) (i : Nat) : Bool := (s.odu i).type == 5 && s.isHo i
/-- FRAME_CHECK (R145 to R149): the check of the frame of instance k at its position; `fas` holds its bytes 0x01 to 0x04, and with it come
the MFAS and, for an OPU4 carrying TS1G25, the OMFI it carries. -/
def frameCheckEffect (t k : Nat) (fas : Word) (mfas omfi : Nat) (s : State) : State :=
  let a := s.al k
  if ¬ a.on ∨ a.st = .hunt then s else
  let a1 := if fas ≠ fas32 then { a with err := a.err + 1, good := 0 } else { a with err := 0, good := a.good + 1 }
  if a.st = .oof then
    if s.ifFrames k ≤ a1.good then ((s.setAl k (a1.enterIf t a1.pos (some (mfas % 256)) (some (omfi % 80)))).setPar k []).noteAlign k
    else match a1.held with
      | some b => ((s.setAl k (a1.realign t b none)).setPar k []).noteAlign k
      | none => s.setAl k a1
  else if s.oofFrames k ≤ a1.err then
    ((s.setAl k { a1 with st := .oof, good := 0, cands := [], held := none, since := t }).ttiBreak k).noteAlign k
  else
    let mf := a1.mfas.check t 256 (mfas % 256) (s.ifFrames k) (s.oofFrames k)
    let om := if 256 ≤ k ∧ s.hasOmfi (k - 256) then
      a1.omfi.check t 80 omfi (s.ifFrames k) (s.oofFrames k) else a1.omfi
    let s1 := s.setAl k { a1 with mfas := mf, omfi := om }
    (if mf.out ∧ ¬ a1.mfas.out then s1.ttiBreak k else s1).noteAlign k

/-- A hardware-declared alignment defect of instance k has changed (R163, R170). (DEDUCED, log entry 49) -/
def State.alignDefect (s : State) (t k b : Nat) (on : Bool) : State := ((s.hwSet t k b on).noteAlign k).fastPath t

/-- DLOF_DECLARE (R147). -/
def dlofDeclareEffect (t k : Nat) (s : State) : State :=
  let a := s.al k
  if a.on ∧ a.st ≠ .inFrame ∧ ¬ a.dlof ∧ a.since + s.lofTicks k ≤ t then
    (s.setAl k { a with dlof := true }).alignDefect t k 0 true
  else s
/-- DLOF_CLEAR (R147). -/
def dlofClearEffect (t k : Nat) (s : State) : State :=
  let a := s.al k
  if a.dlof ∧ a.st = .inFrame ∧ a.since + s.lofTicks k ≤ t then
    (s.setAl k { a with dlof := false }).alignDefect t k 0 false
  else s
/-- DLOM_DECLARE (R148). -/
def dlomDeclareEffect (t k : Nat) (s : State) : State :=
  let a := s.al k
  if a.mfas.out ∧ ¬ a.mfas.dec ∧ a.mfas.since + s.lofTicks k ≤ t then
    (s.setAl k { a with mfas := { a.mfas with dec := true } }).alignDefect t k 1 true
  else s
/-- DLOM_CLEAR (R148). -/
def dlomClearEffect (t k : Nat) (s : State) : State :=
  let a := s.al k
  if a.mfas.dec ∧ ¬ a.mfas.out ∧ a.mfas.since + s.lofTicks k ≤ t then
    (s.setAl k { a with mfas := { a.mfas with dec := false } }).alignDefect t k 1 false
  else s
/-- DLOOMFI_DECLARE (R149). -/
def dloomfiDeclareEffect (t k : Nat) (s : State) : State :=
  let a := s.al k
  if a.omfi.out ∧ ¬ a.omfi.dec ∧ a.omfi.since + s.lofTicks k ≤ t then
    (s.setAl k { a with omfi := { a.omfi with dec := true } }).alignDefect t k 2 true
  else s
/-- DLOOMFI_CLEAR (R149). -/
def dloomfiClearEffect (t k : Nat) (s : State) : State :=
  let a := s.al k
  if a.omfi.dec ∧ ¬ a.omfi.out ∧ a.omfi.since + s.lofTicks k ≤ t then
    (s.setAl k { a with omfi := { a.omfi with dec := false } }).alignDefect t k 2 false
  else s

/-! ### Fields of the overhead (Table OVH-2) -/

/-- The offset of the TTI byte of an entry's field: SM, PM or a TCM level. -/
def State.fieldOf (s : State) (e : Nat) : Nat :=
  match s.layer e with
  | 1 | 2 => 0x07
  | 5 => (match bits (s.trailByte e 0) 4 3 with
    | 1 => 0x26 | 2 => 0x23 | 3 => 0x20 | 4 => 0x1A | 5 => 0x17 | _ => 0x14)
  | _ => 0x29
/-- A TCM entry in transparent mode: its field is neither checked nor written (R156). -/
def State.transparent (s : State) (e : Nat) : Bool := s.layer e == 5 && s.trailByte e 1 % 4 == 0

/-- The bytes of a frame of replacement: FAS, MFAS, zeros at 0x07 to 0x0D, and the fill elsewhere with STAT in the PM
field (R166). (DEDUCED, log entry 51) -/
def replBytes (fill stat mfas : Nat) : List Byte :=
  (List.range 64).map fun o => BitVec.ofNat 8 <|
    if o < 3 then 0xF6 else if o < 6 then 0x28 else if o = 6 then mfas
    else if o < 0x0E then 0 else if o = 0x2B then setBits fill 0 3 stat else fill

/-- The run count of a value. -/
def runOf (same : Bool) (n : Nat) : Nat := if same then n + 1 else 1

/-- One frame enters the accumulators of a context whose field starts at f (R140, R150, R153). -/
def OhAcc.frame (a : OhAcc) (f viol : Nat) (sm lost : Bool) (oh : List Byte) : OhAcc :=
  let b := (oh.getD (f + 2) 0).toNat
  let bei := bits b 4 4
  let bdi := bit b 3
  let iae := sm && bit b 2
  let stat := b % 8
  let first := decide (a.statRun = 0)
  let m := (oh.getD 6 0).toNat
  let tti := oh.getD f 0
  let col := if m % 64 = 0 then [tti] else if a.ttiNew.length = m % 64 then a.ttiNew ++ [tti] else []
  let full := decide (col.length = 64)
  let psi := (oh.getD 0x3E 0).toNat
  { a with
    frames := a.frames + 1
    lost := a.lost + b2n lost
    bipViol := a.bipViol + viol
    bipBlocks := a.bipBlocks + b2n (decide (0 < viol))
    beiSum := a.beiSum + if bei ≤ 8 then bei else 0
    beiBlocks := a.beiBlocks + b2n (decide (1 ≤ bei ∧ bei ≤ 8))
    statLast := stat
    statRun := runOf (!first && stat == a.statLast) a.statRun
    bdi := bdi
    bdiRun := runOf (bdi == a.bdi) a.bdiRun
    biaeRun := if bei = 11 then a.biaeRun + 1 else 0
    iae := iae
    iaeRun := runOf (iae == a.iae) a.iaeRun
    ttiNew := if full then [] else col
    ttiStable := if full then (if col = a.tti then a.ttiStable + 1 else 1) else a.ttiStable
    tti := if full then col else a.tti
    ptLast := if m = 0 then psi else a.ptLast
    ptRun := if m = 0 then runOf (psi == a.ptLast && a.ptRun != 0) a.ptRun else a.ptRun
    csf := if m = 1 then bit psi 7 else a.csf
    csfRun := if m = 1 then runOf (bit psi 7 == a.csf) a.csfRun else a.csfRun }

/-- The BIP-8 violations of the field at f (R150): the bits in which its BIP-8 differs from `par`, that computed over the frame two
before; none where that frame is not known. -/
def violOf (par : Option Byte) (oh : List Byte) (f : Nat) : Nat :=
  match par with
  | some p => ((List.range 8).map fun i => b2n ((p ^^^ oh.getD (f + 1) 0).getLsbD i)).sum
  | none => 0

/-- Out of frame or out of multiframe: no multiframe is compared, and none counts as stable (R153). -/
def OhAcc.noTti (a old : OhAcc) : OhAcc := { a with ttiStable := 0, ttiNew := [], tti := old.tti }
/-- The frames of a transparent TCM level are counted, and nothing of its field is looked at (R156). -/
def OhAcc.count (a : OhAcc) (lost : Bool) : OhAcc := { a with frames := a.frames + 1, lost := a.lost + b2n lost }
/-- A context takes a frame of its layer instance k at t. (DEDUCED, log entry 51) -/
def State.ctxFrame (s : State) (t k c : Nat) (lost : Bool) (oh : List Byte) (par : Option Byte) : State :=
  let h := s.cx c
  let e := h.entry0
  let f := s.fieldOf e
  let a := h.acc.frame f (violOf par oh f) (s.layer e == 1 || s.layer e == 2) lost oh
  let a1 := if (s.al k).on ∧ ((s.al k).st ≠ .inFrame ∨ (s.al k).mfas.out) then a.noTti h.acc else a
  s.setCx c { h with acc := if s.transparent e then h.acc.count lost else a1, fprev := h.fnow, fnow := oh, fAt := some t }

/-- What an entry's field passes back to its transmit side (R138, R151). -/
def State.backFrame (s : State) (e : Nat) (oh : List Byte) (par : Option Byte) : State :=
  if s.transparent e then s else
  let f := s.fieldOf e
  let b := (oh.getD (f + 2) 0).toNat
  let iae := if s.layer e = 1 ∨ s.layer e = 2 then bit b 2 else s.layer e = 5 && b % 8 == 2
  { s with frm := { s.frm with back := tput (fun _ => {}) s.frm.back e ⟨violOf par oh f, iae⟩ } }
/-- A frame of an entry's layer counts as a block of its second (14 R423); a transparent TCM level counts none (R156). -/
def State.pmBlock (s : State) (t e : Nat) : State :=
  if s.transparent e then s else s.pmSec e (secOf t) fun a => { a with blocks := a.blocks + 1 }

/-- A FlexO frame's GID or PID differs from the configured value in 3 consecutive frames, or agrees again in 3, as dGIDM and dPMM ask; so
long a mismatch must last before it fails the member (R118). (DESIGN CHOICE, log entry 152) -/
def misRun (mis : Bool) (badRun goodRun : Nat) (eq : Bool) : Bool × Nat × Nat :=
  let b := if eq then 0 else badRun + 1
  let g := if eq then goodRun + 1 else 0
  (if mis then decide (g < 3) else decide (3 ≤ b), min b 3, min g 3)

/-- A FlexO frame of a group's member, with the PIDs its MAP marks (R107, R118); under a terminal loopback line reception is ignored (Table LIN-4). -/
def State.flexoFrame (s : State) (t i gid pid : Nat) (map : List Nat) : State :=
  if s.looped i 2 then s else
  match s.lifGrp i with
  | none => s
  | some g =>
    let h := s.lif i
    let (gm, gb, gg) := misRun h.gidMis h.gidBad h.gidGood (gid == s.rget (Reg.LIN_GRP_GID_GID g))
    let (pm, pb, pg) := misRun h.pidMis h.pidBad h.pidGood (pid == s.rget (Reg.LIN_LIF_CFG_PID i))
    let same := gid == s.rget (Reg.LIN_GRP_GID_GID g) && pid == s.rget (Reg.LIN_LIF_CFG_PID i)
    let s1 := s.setLif i { h with gidMis := gm, gidBad := gb, gidGood := gg, pidMis := pm, pidBad := pb, pidGood := pg,
                                  flexOk := same || (h.flexOk && !gm && !pm), mapRx := map }
    let s2 := (s1.lifSlices i).foldl (fun z n => (z.hwSet t (sliceKey n) 3 gm).hwSet t (sliceKey n) 4 pm) s1
    if gm = h.gidMis ∧ pm = h.pidMis ∧ (s1.lif i).flexOk = h.flexOk then s2 else s2.grpCheck t g

/-- The stage of instance k sees ODU-AIS in place of a received frame, since the stage before replaces it (R163, R166, R191). -/
def State.seenRepl (s : State) (k : Nat) : Bool :=
  decide (256 ≤ k) && ((s.odu (k - 256)).fast || (s.mp (k - 256) 0).unlock || (s.mp (k - 256) 0).slip || s.serverControl (k - 256))
/-- What it sees: the frame itself, or ODU-AIS that continues the MFAS. -/
def State.seenFrame (s : State) (k : Nat) (oh : List Byte) : List Byte :=
  if s.seenRepl k then
    let m := match (s.ctxOf k).head?.map fun c => (s.cx c).fnow with
      | some (f :: fs) => (((f :: fs).getD 6 0).toNat + 1) % 256
      | _ => 0
    replBytes 0xFF 7 m
  else oh

/-- A frame of instance k is received: it counts since the latest realignment. -/
def State.frameCount (s : State) (k : Nat) : State :=
  if (s.al k).on then s.setAl k { s.al k with frames := (s.al k).frames + 1 } else s

/-- FRAME_RECEIVED (R118, R150 to R153, R174, R189 to R192; 14 R423): the last overhead byte of a frame is written into the overhead window
at t. Its BIP-8 is held against that of the OPU area two frames before; a replaced frame's area is all ones, whose parity is zero.
(DESIGN CHOICE, log entry 52) -/
def frameReceivedEffect (t : Nat) (f : FrameRx) (s : State) : State :=
  match f with
  | .flexo i gid pid map => s.flexoFrame t i gid pid map
  | .otn k oh par x =>
    let lost := s.fastOn k
    let old := s.par k
    let oh1 := s.seenFrame k oh
    let s1 := (s.ctxOf k).foldl (fun z c => z.ctxFrame t k c lost oh1 old[1]?) s
    let s2 := (s1.entriesOf k).foldl (fun z e => (z.backFrame e oh1 old[1]?).pmBlock t e) s1
    let s3 := (((s2.frameCount k).setRx k t oh1).setPar k ((if s.seenRepl k then 0 else par) :: old.take 1)).jcExtract k oh1
    if 256 ≤ k then s3.demapFrame t (k - 256) (s.seenRepl k) oh1 x else s3

/-! ### Release (03 R59 to R62) -/

/-- The Avenue that executes context c: its slot's; in a slot move, of a part's pair of contexts, the Avenue that receives the slot
executes the new one. An old context that a finished slot move has still to unbind is on none that serves (36). -/
def State.ctxAve (s : State) (c : Nat) : Nat :=
  let k := c % 131072
  let sl := k / 4096
  let away := s.plz.moves.any fun p => p.2.live && p.2.slotMove == some sl && (p.2.ctxs.any fun x => x.1 % 131072 == k) &&
    ((p.2.phase == .cut || p.2.phase == .retired) != p.2.back)
  if s.rbit (Reg.PLZ_SLOT_MAP_PEND_VALID sl) then
    s.rget (if decide (131072 ≤ c) != away then Reg.PLZ_SLOT_MAP_PEND sl else Reg.PLZ_SLOT_MAP_PHYS sl)
  else if c < 131072 then s.rget (Reg.PLZ_SLOT_MAP_PHYS sl)
  else 36
/-- The logical slot of a context (R72). -/
def slotOfCtx (c : Nat) : Nat := c / 4096
/-- The runs of context c are held: its slot's are, or the Avenue that would execute it is fenced. -/
def State.ctxHeld (s : State) (c : Nat) : Bool := s.slotHeld (slotOfCtx c) || s.rget (Reg.AVE_MED_STAT_STATE (s.ctxAve c)) == 2

/-- Instance k has a frame at t that releases a context of divider d (02 R59, R60): the one just received, or, where none is received, the
one whose insertion point leaves the stage. (DEDUCED, log entry 148) -/
def State.frameDue (s : State) (t k : Nat) (h : CtxH) : Bool :=
  let d := 2 ^ h.bind.divLog2
  match h.fnow with
  | [] => (match tget (fun _ => 0) s.frm.txMfas k with
    | 0 => false
    | n + 1 => n % d == 0 && tget (fun _ => 0) s.frm.txAt k == t)
  | l => (l.getD 6 0).toNat % d == 0 && h.fAt == some t
/-- CONTEXT_RELEASE (R59 to R62): a release instant of context c; `per` is the measured frame period of its layer in ticks, and `next` its
next release instant; one frame releases it once. A halted context is not released (R92), nor one whose slot is fenced or seeding (16
R466). (DESIGN CHOICE, log entry 29) -/
def contextReleaseEffect (t c per next : Nat) (s : State) : State :=
  let h := s.cx c
  match s.entryKey h.entry0 with
  | none => s
  | some k =>
    if h.state = 1 ∧ t < next ∧ (h.rels = 0 ∨ h.nextRel ≤ t) ∧ s.frameDue t k h ∧ s.roleRuns ∧ ¬ s.ctxHeld c then
      s.release t c (per * 2 ^ h.bind.divLog2) next (s.alignNow k)
    else s

/-! ### Transmission (R64, R86, R151, R152, R166; 10 R303; 13 R409) -/

/-- The device originates the layer of an instance (R86). -/
def State.originates (s : State) (k : Nat) : Bool := decide (k < 256) || (s.odu (k - 256)).client != 0 || s.isHo (k - 256)

/-- What a context has committed for byte o of the insertion window, with the number of the COMMIT that wrote it; what an APS_LIN context has
committed for APS/PCC acts in frames with MFAS[2:0] zero (10 R303). -/
def CtxH.insAt (h : CtxH) (mfas o : Nat) : Option (Byte × Nat) :=
  if h.bind.routine = 0x20 ∧ 0x34 ≤ o ∧ o < 0x38 ∧ mfas % 8 ≠ 0 then none else (sget h.ins o).map fun b => (b, tget (fun _ => 0) h.insNo o)
/-- The bytes of the insertion staging window committed for an instance: of the contexts that have written a byte, the one whose COMMIT is the
latest has it (03 R86). -/
def State.committedBytes (s : State) (k mfas : Nat) (oh : List Byte) : List Byte :=
  let l := ((s.ctxOf k).map s.cx).filter fun h => ¬ h.shadow
  (List.range 64).map fun o =>
    ((l.filterMap fun h => h.insAt mfas o).foldl (fun (m : Byte × Nat) x => if m.2 ≤ x.2 then x else m) (oh.getD o 0, 0)).1

/-- The entries whose field the device writes in the transmit direction: SM and ODUC PM, the PM of an ODU it originates, and
an operational TCM (R156). -/
def State.sourceEntries (s : State) (k : Nat) : List Nat :=
  (s.entriesOf k).filter fun e =>
    let l := s.layer e
    l = 1 ∨ l = 2 ∨ l = 3 ∨ (l = 4 ∧ s.originates k) ∨ (l = 5 ∧ s.trailByte e 1 % 4 = 2)

/-- BEI or BIAE of an entry's field (R151). -/
def State.beiOf (s : State) (e : Nat) : Nat :=
  let b : BackH := tget (fun _ => {}) s.frm.back e
  let c := s.trailByte e 1
  if ¬ bit c 5 then 0 else if bit c 6 ∧ b.biae then 11 else min 8 b.viol

/-- The bound context of a standard trail routine that serves an entry and has committed: its TX_TTI is what the field's source writes
(R156). -/
def State.ttiSource (s : State) (e : Nat) : Option CtxH :=
  (s.jrm.ctx.find? fun p => p.2.state != 0 && !p.2.shadow && p.2.commits != 0 && p.2.entry0 == e && [0x01, 0x02, 0x10, 0x11].contains p.2.bind.routine).map (·.2)
/-- The bytes of a source's field in a frame of MFAS m: BIP-8, BEI or BIAE, and BDI, which hardware owns (R150 to R152); the TTI byte from
TX_TTI, and the STAT of an operational TCM level (R156, R157). -/
def State.fieldBytes (s : State) (k m : Nat) (bip : Byte) (oh : List Byte) (e : Nat) : List Byte :=
  let f := s.fieldOf e
  let fast := (s.layer e = 1 ∨ s.layer e = 2 ∨ s.layer e = 4) && s.fastBdi k
  let bdi := bit (s.trailByte e 0x89) 1 || fast
  let v := (oh.getD (f + 2) 0).toNat
  let w := if s.layer e = 5 then setBits v 0 3 (b2n (!bit (s.trailByte e 1) 7)) else v
  let tti := match s.ttiSource e with
    | some h => oh.set f (h.bind.param.getD (64 + m % 64) 0)
    | none => oh
  (tti.set (f + 1) bip).set (f + 2) (BitVec.ofNat 8 (setBits (setBits w 4 4 (s.beiOf e)) 3 1 (b2n bdi)))

/-- The BDI bit of the PM field of an ODU the device carries on: it is set for the committed aBDI of its PM entry and for the fast path
(R152, R163), and otherwise stays as the source delivered it. -/
def State.carriedBdi (s : State) (k : Nat) (l : List Byte) : List Byte :=
  let own := s.fastBdi k || (s.entriesOf k).any fun e => s.layer e == 4 && bit (s.trailByte e 0x89) 1
  if 256 ≤ k ∧ ¬ s.originates k ∧ own then l.set 0x2B (l.getD 0x2B 0 ||| 8) else l

/-- The MFAS of the next transmitted frame of an instance: the one after the last sent, or 0 when none was sent. -/
def State.nextMfas (s : State) (k : Nat) : Nat :=
  match tget (fun _ => 0) s.frm.txMfas k with
  | 0 => 0
  | n + 1 => (n + 1) % 256

/-- Slice k carries an OPUC. -/
def State.opuc (s : State) (k : Nat) : Bool := decide (k < 256) && (s.sliceLif k).any fun i => s.lifType i != 15
/-- The OPU of instance k has tributary slots that the device fills: an OPUC, or that of a higher-order ODU. -/
def State.slotted (s : State) (k : Nat) : Bool := s.opuc k || (decide (256 ≤ k) && s.isHo (k - 256))
/-- The PSI byte of MFAS m that the device writes from configuration in an OPU it originates (06 R178, R179, R193): PSI[0] is the PT, then
comes the MSI; for a client PSI[1] carries CSF. None where no rule has it written. -/
def State.psiByte (s : State) (k m : Nat) : Option Nat :=
  let o := s.odu (k - 256)
  if s.slotted k then (if m = 0 then some (if k < 256 then 0x22 else 0x21) else s.msiByte k m)
  else if 256 ≤ k ∧ o.client ≠ 0 then (if m = 0 then some o.pt else if m = 1 then some (128 * b2n (s.mp (k - 256) 1).csf) else none)
  else none
/-- The next OMFI of an instance (R149; 06 R174). -/
def State.nextOmfi (s : State) (k : Nat) : Nat := tget (fun _ => 0) s.frm.txOmfi k
/-- The OPU overhead that the device writes in an OPU it originates, every other byte as it stands: the PSI byte; the OMFI of an OPUC or an
OPU4 with slots; and the JC bytes of the tributary whose slot the frame shows (06 R174, R184, R189), or of a 100GBASE-R client (06 R190).
The data byte that AMP puts into NJO is a free value. (PRESUMED, log entry 131) -/
def State.opuBytes (s : State) (k m : Nat) (oh : List Byte) : State × List Byte :=
  let psi := match s.psiByte k m with
    | some x => oh.set 0x3E (BitVec.ofNat 8 x)
    | none => oh
  if s.slotted k then
    let ho := s.jcServer k
    let l := if ho = none ∨ ho = some 5 then psi.set 0x3F (BitVec.ofNat 8 (s.nextOmfi k)) else psi
    match (s.jcOdu k (jcSlot ho l)).filter fun i => !(s.odu i).msiWait with
    | none => (s, l)
    | some i =>
      let h := s.mp i 1
      if mapProc (s.odu i).type ho = 2 then
        (let (s1, v) := s.fresh 8
        (s1, let x := jcPut (jcAmp h.just) l; if h.just = 1 then x.set 0x3F (BitVec.ofNat 8 v) else x))
      else (s, jcPut ((if k < 256 then h.jcAt else h.jc).getD 0) l)
  else if 256 ≤ k ∧ (s.odu (k - 256)).client = 1 then (s, jcPut (s.mp (k - 256) 1).jcC psi)
  else (s, psi)

/-- A transmitted frame of an ODU with a mapped client, of MFAS m: while the client has failed the mapper sends local fault in its place and
CSF in the PSI, which clears when a multiframe begins without the cause (06 R193, R195). -/
def State.clientFrame (s : State) (k m : Nat) : State :=
  let i := k - 256
  let h := s.mp i 1
  let fail := h.cause || h.rateOor
  if k < 256 ∨ (s.odu i).client = 0 then s else s.setMp i 1 { h with lf := fail, csf := fail || (h.csf && m != 0) }
/-- The protection path of a 1:1 group whose bridge is open carries a null payload: SEL of its transmit entry is clear (10 R313). -/
def State.nullSent (s : State) (k : Nat) : Bool :=
  decide (256 ≤ k) && (s.partnerOf 1 (k - 256)).any fun p => (s.cn 1 p).portA == (s.cn 1 (k - 256)).portA && !(s.cn 1 (k - 256)).sel
/-- INSERTION_POINT (R64): a frame of instance k leaves its stage; `src` is its overhead as its source delivered it, `bip` the
parity computed for it. A device that does not transmit (16 Table RED-8) only keeps the phase; an ODU just added sends nothing before
its server's next multiframe (06 R179). (DESIGN CHOICE, log entry 52) -/
def insertionPointEffect (t k : Nat) (src : List Byte) (bip : Byte) (z : State) : State :=
  if 256 ≤ k ∧ (z.odu (k - 256)).msiWait then z else
  let s := z.clientFrame k (z.nextMfas k)
  let null := s.nullSent k
  let orig := s.originates k || null
  let next := s.nextMfas k
  let m := if orig then next else (src.getD 6 0).toNat
  let carried (o : Nat) : Bool := !orig || (decide (k < 256) && !s.opuc k && decide (0x0E ≤ o))
  let base := (List.range 64).map fun o => if carried o then src.getD o 0 else 0
  let com := s.committedBytes k m base
  let bips := (s.sourceEntries k).map fun e => s.fieldOf e + 1
  let (s1, ins) := (s.insPorts k).foldl (fun (z : State × List Byte) n => z.1.oapInsert t n m bips z.2) (s, com)
  let fas := if orig then (List.range 64).map fun o => if o < 7 then (replBytes 0 0 m).getD o 0 else ins.getD o 0 else ins
  let (s1, opu) := if orig ∧ ¬ null then s1.opuBytes k m fas else (s1, fas)
  let full := s1.carriedBdi k ((s1.sourceEntries k).foldl (fun l e => s1.fieldBytes k m bip l e) opu)
  let out := if k < 256 then full else
    match s1.replaced 1 (k - 256) with
    | .none => full
    | .lck => replBytes 0x55 5 next
    | .ais => replBytes 0xFF 7 next
    | .oci => replBytes 0x66 6 next
  let sent := (out.getD 6 0).toNat
  let s2 := { s1 with frm := { s1.frm with txMfas := tput (fun _ => 0) s1.frm.txMfas k (sent + 1),
                                           txAt := tput (fun _ => 0) s1.frm.txAt k t
                                           txOmfi := tput (fun _ => 0) s1.frm.txOmfi k ((s1.nextOmfi k + 1) % slotCount (s1.jcServer k)) } }
  if s2.roleRuns then s2.emit (.overhead k out) else s2

/-- CANDIDATE_SIGHTING (R143). -/
def execCandidateSighting (t k b : Nat) (pat : BitVec 48) (mfas : Nat) : State → Host.Outcome State Fault Refusal :=
  event t (candidateSightingEffect t k b pat mfas)
/-- FRAME_CHECK (R145). -/
def execFrameCheck (t k : Nat) (fas : Word) (mfas omfi : Nat) : State → Host.Outcome State Fault Refusal :=
  event t (frameCheckEffect t k fas mfas omfi)
/-- DLOF_DECLARE (R147). -/
def execDlofDeclare (t k : Nat) : State → Host.Outcome State Fault Refusal := event t (dlofDeclareEffect t k)
/-- DLOF_CLEAR (R147). -/
def execDlofClear (t k : Nat) : State → Host.Outcome State Fault Refusal := event t (dlofClearEffect t k)
/-- DLOM_DECLARE (R148). -/
def execDlomDeclare (t k : Nat) : State → Host.Outcome State Fault Refusal := event t (dlomDeclareEffect t k)
/-- DLOM_CLEAR (R148). -/
def execDlomClear (t k : Nat) : State → Host.Outcome State Fault Refusal := event t (dlomClearEffect t k)
/-- DLOOMFI_DECLARE (R149). -/
def execDloomfiDeclare (t k : Nat) : State → Host.Outcome State Fault Refusal := event t (dloomfiDeclareEffect t k)
/-- DLOOMFI_CLEAR (R149). -/
def execDloomfiClear (t k : Nat) : State → Host.Outcome State Fault Refusal := event t (dloomfiClearEffect t k)
/-- FRAME_RECEIVED (R150). -/
def execFrameReceived (t : Nat) (f : FrameRx) : State → Host.Outcome State Fault Refusal := event t (frameReceivedEffect t f)
/-- CONTEXT_RELEASE (R62). -/
def execContextRelease (t c per next : Nat) : State → Host.Outcome State Fault Refusal := event t (contextReleaseEffect t c per next)
/-- INSERTION_POINT (R64). -/
def execInsertionPoint (t k : Nat) (src : List Byte) (bip : Byte) : State → Host.Outcome State Fault Refusal :=
  event t (insertionPointEffect t k src bip)

end Sys2Proof.Machine
end

