-- ==== Sys2Proof/Machine/Mapping.lean ====
section
/-! DEFINITION. GMP mappers and demappers, clients, rates (06 R171 to R203). -/
namespace Sys2Proof.Machine
open Sys2Proof

/-! ### The demapper (R184 to R187, R191, R192, R201) -/

/-- GMP_UNLOCK of a demapper takes a value: one event for each (R186). -/
def State.gmpUnlock (s : State) (t i : Nat) (on : Bool) : State :=
  let m := s.mp i 0
  ((s.setMp i 0 { m with unlock := on, held := 0, okRun := 0 }).log t (if on then 0x6030 else 0x6031) i 0).switchAll t

/-- A demapper's FIFO leaves its range (R192). -/
def State.fifoSlip (s : State) (t i : Nat) : State :=
  let m := s.mp i 0
  (s.setMp i 0 { m with slip := true, slips := (m.slips + 1) % 2 ^ 32 }).log t 0x6032 i 0

/-- A GMP period at a demapper: its Cm is accepted or held (R185, R187, R201); one in a replaced frame has ΣCnD taken as zero, with no
SCND_ERR. (DESIGN CHOICE, log entry 155) -/
def MapH.rxPeriod (m : MapH) (lo hi cm scnd : Nat) (crc8 crc5 replaced : Bool) : MapH :=
  let inRange := decide (lo ≤ cm ∧ cm ≤ hi)
  let ok := crc8 && inRange && !replaced
  let m1 := { m with scnd := if crc5 && !replaced then scnd % 1024 else 0,
                     scndErr := if crc5 || replaced then m.scndErr else (m.scndErr + 1) % 2 ^ 32 }
  if ok then { m1 with cm := cm, held := 0, okRun := m.okRun + 1 }
  else if replaced then { m1 with held := m.held + 1, okRun := 0 }
  else { m1 with held := m.held + 1, okRun := 0, jcErr := (m.jcErr + 1) % 2 ^ 32,
                 cmOor := if crc8 && !inRange then (m.cmOor + 1) % 2 ^ 32 else m.cmOor }

/-- GMP_PERIOD_RX (R184 to R187, R192, R201): a GMP period begins at instance i's demapper. Its six JC bytes are those the side tags have
brought (R174); without any, the operands. `slip` when its FIFO leaves its range, which is all that acts on an ODU mapped by AMP. A
period that comes in a frame the fast path has replaced holds Cm without JC_ERR. -/
def gmpPeriodRxEffect (t i jc12 jc45 : Nat) (jc3 jc6 : Byte) (slip : Bool) (s : State) : State :=
  let o := s.odu i
  if ¬ o.conf ∨ o.direct then s else
  let m := s.mp i 0
  let repl := match o.inHo with
    | some h => (s.odu h).fast
    | none => s.serverTrig o.server
  let w := m.jcAt.getD (jcWord jc12 jc45 jc3 jc6)
  let cm := jcCm m.cmRx (jc12Of w)
  let (lo, hi) := s.cRange i
  let m1 := { m.rxPeriod lo hi cm (jcScnd w) (jcOk8 w) (jcOk5 w) repl with cmRx := if jcOk8 w && !repl then cm else m.cmRx }
  let s1 := if mapProc o.type (s.hoType i) = 1 then s.setMp i 0 m1 else s
  if slip then s1.fifoSlip t i else s1

/-- GMP_UNLOCK of the demapper of an ODU's client takes a value (R186, R190). -/
def State.clientUnlock (s : State) (t i : Nat) (on : Bool) : State :=
  let m := s.mp i 0
  (s.setMp i 0 { m with rxC := { m.rxC with unlock := on, held := 0, okRun := 0 } }).log t (if on then 0x6030 else 0x6031) i 0
/-- GMP_UNLOCK_DECLARE (R186): of the ODU's demapper, or, where that is not due, of its 100GBASE-R client's. -/
def gmpUnlockDeclareEffect (t i : Nat) (s : State) : State :=
  let m := s.mp i 0
  if (s.odu i).conf ∧ ¬ m.unlock ∧ (s.odu i).jcHold ≤ m.held then s.gmpUnlock t i true
  else if (s.odu i).conf ∧ ¬ m.rxC.unlock ∧ (s.odu i).jcHold ≤ m.rxC.held then s.clientUnlock t i true
  else s
/-- GMP_UNLOCK_CLEAR (R186). -/
def gmpUnlockClearEffect (t i : Nat) (s : State) : State :=
  let m := s.mp i 0
  if m.unlock ∧ (s.odu i).jcResync ≤ m.okRun then s.gmpUnlock t i false
  else if m.rxC.unlock ∧ (s.odu i).jcResync ≤ m.rxC.okRun then s.clientUnlock t i false
  else s

/-! ### The mapper (R188, R194 to R199) -/

/-- RATE_OOR of a mapper follows its two causes. -/
def MapH.oor (m : MapH) : MapH := { m with rateOor := m.oorRate || m.oorClamp }

/-- Cm kept within Cmin to Cmax. -/
def clampC (lo hi c : Nat) : Nat := if c < lo then lo else if hi < c then hi else c

/-- A port names an Arcade flow (Table PLZ-3). -/
def arcPort (p : Nat) : Bool := p / 2 ^ 28 == 2
/-- The group of an Arcade port. -/
def arcGroup (p : Nat) : Nat := bits p 20 5
/-- The flow ID of an Arcade port. -/
def arcFlowId (p : Nat) : Nat := bits p 0 20

/-- An entry has an Arcade flow. -/
def ConnH.arcade (c : ConnH) : Bool := c.valid && (arcPort c.portA || arcPort c.portB)
/-- The copies of each cell of a send entry: group, peer and flow ID (R211, 08 R255). -/
def ConnH.copies (c : ConnH) : List (Nat × Nat × Nat) :=
  let way (p peer : Nat) : List (Nat × Nat × Nat) :=
    if arcPort p then (arcGroup p, peer, arcFlowId p) :: (if c.dual then [(c.mateGroup, peer, arcFlowId p)] else []) else []
  way c.portA c.peerA ++ (if c.bridge then way c.portB c.peerB else [])
/-- The copies that a send entry's flow still goes out in: while a change waits for its frame start, those from before it (07 R216). -/
def ConnH.sends (c : ConnH) : List (Nat × Nat × Nat) := if c.changed then c.outCopies else if c.arcade then c.copies else []
/-- They are dual-plane. -/
def ConnH.sendsDual (c : ConnH) : Bool := if c.changed then c.outDual else c.dual
/-- The route an entry puts in force at its output: zero for none. -/
def ConnH.route (c : ConnH) : Nat := if c.valid then c.portA + 1 else 0
/-- The second destination an entry puts in force at its output (07 R211): zero for none. -/
def ConnH.routeB (c : ConnH) : Nat := if c.valid ∧ c.bridge then c.portB + 1 else 0
/-- The route in force: while a change waits for its frame start, the one before it. -/
def ConnH.inForce (c : ConnH) : Nat := if c.changed then c.out else c.route

/-- A flow (08 R250). -/
def State.flow (s : State) (d i : Nat) : FlowH := tget (fun _ => {}) s.arc.flows (d * 20480 + i)
/-- A flow replaced. -/
def State.setFlow (s : State) (d i : Nat) (f : FlowH) : State :=
  { s with arc := { s.arc with flows := tput (fun _ => {}) s.arc.flows (d * 20480 + i) f } }
/-- The instance whose flow an entry uses: partners that share PORT_A have one flow (R209, R212 to R214). (DEDUCED, log entry 62) -/
def State.flowOwner (s : State) (d i : Nat) : Nat :=
  match s.partnerOf d i with
  | some p => if (s.cn d p).portA = (s.cn d i).portA then min i p else i
  | none => i
/-- a − b modulo 2^32. -/
def seqDiff (a b : Nat) : Nat := (a + 2 ^ 32 - b % 2 ^ 32) % 2 ^ 32

/-- The played-out cell whose source DTS is nearest x, the earliest on equal distance. -/
def nearestCell (x : Int) (l : List (Nat × Nat)) : Option (Nat × Nat) :=
  l.foldl (fun m p => match m with
    | none => some p
    | some q => if ((p.2 : Int) - x).natAbs < ((q.2 : Int) - x).natAbs then some p else some q) none

/-- The rate of R196 in bytes per local tick, from the cells played out over RATE_WIN of source time and ε; none before two
cells stand apart in source time. -/
def FlowH.rate (f : FlowH) (win : Nat) (eps : Q) : Option Q :=
  match f.hist.getLast? with
  | none => none
  | some (b1, s1) =>
    match nearestCell ((s1 : Int) - win) f.hist with
    | none => none
    | some (b0, s0) =>
      if s1 ≤ s0 then none
      else some (qdiv (qmul (qint (seqDiff b1 b0 * 992 : Nat)) (qadd (qint 1) eps)) (qint ((s1 : Int) - s0)))

/-- ε as the mapper applies it to a period that starts at t (R197). -/
def FlowH.mapEps (f : FlowH) (t : Nat) : Q := if f.epsAt < t then f.eps else f.epsOld

/-- A flow carries Ethernet blocks. (PRESUMED, log entry 59) -/
def State.flowEth (s : State) (i : Nat) : Bool := (s.odu i).client != 0
/-- LEN of a flow's data cells (R236). -/
def State.flowLen (s : State) (i : Nat) : Nat := if s.flowEth i then 990 else 992
/-- The rate of a flow in 100 bit/s. (PRESUMED, log entry 59) -/
def State.flowRate (s : State) (i : Nat) : Nat :=
  match (s.odu i).client with
  | 0 => (s.odu i).bps100
  | 1 => 1031250000
  | 2 => 4125000000
  | _ => 8250000000

/-- The reader of a playout buffer draws from it until t at `rate` bytes a tick; one that runs empty gives fill (R260). -/
def FlowH.drain (f : FlowH) (t : Nat) (rate : Q) : FlowH :=
  let x := qadd f.owed (qmul rate (qint (t - f.bufAt : Nat)))
  let n := (qfloor x).toNat
  { f with buf := f.buf.drop n, owed := qsub x (qint (qfloor x)), bufAt := t }
/-- The bytes a tick that a flow's mapper draws: the rate it has recovered, before the first period the nominal one (R196, R260).
(DESIGN CHOICE, log entry 64) -/
def State.drawRate (s : State) (i : Nat) : Q :=
  if (s.mp i 1).rate = {} then qmk (100 * s.flowRate i : Nat) (8 * sec 1) else (s.mp i 1).rate
/-- A receive flow's playout buffer at t. A client mapped by IMP is matched by idle blocks, which keeps it at FILL_TARGET (R260, R270). -/
def State.bufNow (s : State) (t i : Nat) : FlowH :=
  let f := s.flow 1 i
  if 2 ≤ (s.odu i).client then { f with buf := f.buf.drop (f.buf.length - 1984 * (s.odu i).fillTarget / 100), bufAt := t } else f.drain t (s.drawRate i)

/-- RATE_WIN of an instance in ticks (Table MAP-6). -/
def OduH.rateWinTicks (o : OduH) : Nat := us (125 * o.rateWin)

/-- The source of an instance's mapper is an Arcade flow: the route in force of its transmit entry (R188; 07 R216). -/
def State.fromArcade (s : State) (i : Nat) : Bool := (s.cn 1 i).out != 0 && ((s.cn 1 i).out - 1) / 2 ^ 28 == 2
/-- Cm and ΣCnD for cn bytes of a period (R196), within lo to hi, and the JC bytes that carry them. -/
def MapH.sendCn (m : MapH) (lo hi mm cn : Nat) : MapH :=
  let cm := clampC lo hi ((cn + m.dres) / mm)
  let r := (cn + m.dres) % mm
  { m with cm := cm, dres := r, scnd := r % 1024, jc := some (jcEncode m.cm cm (r % 1024)) }
/-- A period of a mapper fed over Arcade (R196): its rate, the period in ticks, the fill error in bytes, FILL_GAIN 2^-g (none
when 0), M bytes a word. (DEDUCED, log entry 54) -/
def MapH.txArcade (m : MapH) (lo hi : Nat) (rate : Q) (per : Nat) (ferr : Q) (g mm : Nat) : MapH :=
  let corr := if g = 0 then qint 0 else qmul ferr ⟨1, 2 ^ g⟩
  let cnr := qsub (qadd (qmul rate (qint per)) m.acc) corr
  let cn := (qfloor cnr).toNat
  let m1 := m.sendCn lo hi mm cn
  { m1 with acc := qsub cnr (qint (qfloor cnr)), rate := rate,
            clamps := if m1.cm = (cn + m.dres) / mm then m.clamps else (m.clamps + 1) % 2 ^ 32 }

/-- The run of clamped or unclamped periods (R199). -/
def MapH.clampRun (m : MapH) (t : Nat) (clamped : Bool) : MapH :=
  if clamped then { m with clampSince := some (m.clampSince.getD t), freeSince := none }
  else { m with clampSince := none, freeSince := some (m.freeSince.getD t) }

/-- The mapper of a 100GBASE-R client seen as one of R188: its own Cm and remainder. -/
def MapH.asClient (m : MapH) : MapH := { m with cm := m.cmC, dres := m.dresC }
/-- What a period of the client's mapper, worked out on `z`, leaves in the mapper: the ODU's own Cm, ΣCnD, remainder and JC bytes stay. -/
def MapH.ofClient (m z : MapH) : MapH :=
  { z with cm := m.cm, scnd := m.scnd, dres := m.dres, jc := m.jc, cmC := z.cm, dresC := z.dres, jcC := z.jc.getD m.jcC }

/-- GMP_PERIOD_TX (R188 to R190, R196 to R199): instance i's mapper chooses Cm for a GMP period, the justification of an AMP frame, or the
idle blocks of IMP; `client` is the GMP of a 100GBASE-R client in its ODU4, whose source is a PHY; one that arrives over Arcade takes Cn
from the recovered rate, and the ODU it is mapped into has the device's clock. A mapper whose flow is starved keeps its last rate (R198).
(DESIGN CHOICE, log entry 55) -/
def gmpPeriodTxEffect (t i : Nat) (src : TxSource) (s : State) : State :=
  let o := s.odu i
  if ¬ o.conf then s else
  let proc := if o.direct then 0 else mapProc o.type (s.hoType i)
  let (lo, hi) := s.cRange i
  let mm := gmpM (s.hoType i) o.ts.length
  let m := s.mp i 1
  match src with
  | .fill n => if proc = 1 ∧ (o.client ≠ 0 ∨ ¬ s.fromArcade i) then s.setMp i 1 (m.sendCn lo hi mm n) else s
  | .arcade per =>
    if ¬ s.fromArcade i ∨ (if o.client = 0 then proc ≠ 1 else o.client ≠ 1) then s else
    let f := s.flow 1 (s.flowOwner 1 i)
    let rate := if m.starved then m.rate else (f.rate o.rateWinTicks (f.mapEps t)).getD m.rate
    let b := s.bufNow t (s.flowOwner 1 i)
    let ferr := qsub (qint b.buf.length) ⟨1984 * o.fillTarget, 100⟩
    let m1 := if o.client = 1 then m.ofClient (m.asClient.txArcade clientRange.1 clientRange.2 rate per ferr o.fillGain clientM)
      else m.txArcade lo hi rate per ferr o.fillGain mm
    (s.setFlow 1 (s.flowOwner 1 i) b).setMp i 1 (m1.clampRun t (m1.clamps ≠ m.clamps))
  | .amp just => if proc = 2 then s.setMp i 1 { m with just := just % 4 } else s
  | .imp n => if o.imp then s.setMp i 1 (m.idles n) else s
  | .client n =>
    if o.client ≠ 1 ∨ s.fromArcade i then s
    else s.setMp i 1 (m.ofClient (m.asClient.sendCn clientRange.1 clientRange.2 clientM n))

/-- CN_CLAMP_RATE_OOR (R199): Cm has been clamped, or unclamped, for 10 ms continuously. -/
def cnClampRateOorEffect (t i : Nat) (s : State) : State :=
  let m := s.mp i 1
  let for10 (x : Option Nat) : Bool := x.any fun a => decide (a + ms 10 ≤ t)
  if for10 m.clampSince then s.setMp i 1 ({ m with oorClamp := true } : MapH).oor
  else if for10 m.freeSince then s.setMp i 1 ({ m with oorClamp := false } : MapH).oor
  else s

/-- RATE_WINDOW (R194, R195): a 1 ms window of instance i's mapper ends with the source's rate `ppb` parts per 10^9 from its
nominal. The spec does not say where the windows begin: they end at whole milliseconds of DTS, and what ends elsewhere is none. A client
outside counts as failed. (DESIGN CHOICE, log entry 132) -/
def rateWindowEffect (t i : Nat) (ppb : Int) (s : State) : State :=
  let o := s.odu i
  if ¬ o.conf ∨ t % ms 1 ≠ 0 then s else
  let m := s.mp i 1
  let tol : Nat := if o.client = 0 then oduTol o.type else 100
  let outside := decide ((tol + 50) * 1000 < ppb.natAbs)
  let m1 := if outside then { m with outRun := m.outRun + 1, inRun := 0 } else { m with inRun := m.inRun + 1, outRun := 0 }
  let m2 := ({ m1 with oorRate := if 3 ≤ m1.outRun then true else if 3 ≤ m1.inRun then false else m1.oorRate } : MapH).oor
  s.setMp i 1 { m2 with csf := m2.csf || (o.client != 0 && m2.rateOor) }

/-- CLIENT_SIGNAL_FAIL (R193): the PHY of instance i's client has LOS, or loss of block or alignment-marker lock: CSF is set, and from the
next ODU frame on (INSERTION_POINT) local fault goes in place of the client. -/
def clientSignalFailEffect (_t i : Nat) (s : State) : State :=
  let m := s.mp i 1
  if (s.odu i).client = 0 then s else s.setMp i 1 { m with cause := true, csf := true }

/-- CSF_CLEAR (R193): the cause at the PHY has cleared, and a block begins: local fault ends, unless RATE_OOR keeps the client failed
(R195). CSF itself clears in the next multiframe (INSERTION_POINT). -/
def csfClearEffect (_t i : Nat) (s : State) : State :=
  let m := s.mp i 1
  if (s.odu i).client = 0 then s else s.setMp i 1 { m with cause := false, lf := m.lf && m.rateOor }

/-- MSI_CHANGE (R179): the first server multiframe after an allocation command begins: the MSI shows an added ODU, whose bytes begin, and
no longer one that was removed. -/
def msiChangeEffect (_t i : Nat) (s : State) : State :=
  let o := s.odu i
  let s1 := { s with map := { s.map with gone := s.map.gone.filter fun p => p.1 ≠ i } }
  if o.msiWait then s1.setOdu i { o with msiWait := false } else s1

/-- The mapper status record (R203, Table MAP-7). -/
def State.mapRecord (s : State) (i d : Nat) : Nat :=
  let m := s.mp i d
  let o := s.odu i
  if ¬ o.conf then 0 else
  let proc := if o.direct then 0 else if o.imp then 3 else mapProc o.type (s.hoType i)
  (if d = 0 then b2n m.unlock else 2 * b2n m.rateOor + 4 * b2n m.csf)
    + 8 * b2n (s.replacing d i) + atByte 1 proc + atByte 2 (m.cm % 2 ^ 14) + atByte 4 (m.scnd % 2 ^ 10)
    + atByte 8 m.jcErr + atByte 12 m.cmOor + atByte 16 m.scndErr + atByte 20 m.ampErr + atByte 24 m.slips + atByte 28 m.clamps

/-- GMP_PERIOD_RX (R185). -/
def execGmpPeriodRx (t i jc12 jc45 : Nat) (jc3 jc6 : Byte) (slip : Bool) : State → Host.Outcome State Fault Refusal :=
  event t (gmpPeriodRxEffect t i jc12 jc45 jc3 jc6 slip)
/-- GMP_UNLOCK_DECLARE (R186). -/
def execGmpUnlockDeclare (t i : Nat) : State → Host.Outcome State Fault Refusal := event t (gmpUnlockDeclareEffect t i)
/-- GMP_UNLOCK_CLEAR (R186). -/
def execGmpUnlockClear (t i : Nat) : State → Host.Outcome State Fault Refusal := event t (gmpUnlockClearEffect t i)
/-- GMP_PERIOD_TX (R188). -/
def execGmpPeriodTx (t i : Nat) (src : TxSource) : State → Host.Outcome State Fault Refusal := event t (gmpPeriodTxEffect t i src)
/-- MSI_CHANGE (R179). -/
def execMsiChange (t i : Nat) : State → Host.Outcome State Fault Refusal := event t (msiChangeEffect t i)
/-- CLIENT_SIGNAL_FAIL (R193). -/
def execClientSignalFail (t i : Nat) : State → Host.Outcome State Fault Refusal := event t (clientSignalFailEffect t i)
/-- CSF_CLEAR (R193). -/
def execCsfClear (t i : Nat) : State → Host.Outcome State Fault Refusal := event t (csfClearEffect t i)
/-- RATE_WINDOW (R194). -/
def execRateWindow (t i : Nat) (ppb : Int) : State → Host.Outcome State Fault Refusal := event t (rateWindowEffect t i ppb)
/-- CN_CLAMP_RATE_OOR (R199). -/
def execCnClampRateOor (t i : Nat) : State → Host.Outcome State Fault Refusal := event t (cnClampRateOorEffect t i)

end Sys2Proof.Machine
end

