-- ==== Sys2Proof/Machine/Plaza.lean ====
section
/-! DEFINITION. The Plaza: epochs, connection changes, moves and selections (07 R204 to R230), and the admission of contexts to
engines (03 R88 to R90). -/
namespace Sys2Proof.Machine
open Sys2Proof

/-! ### Admission (03 R88 to R90) -/

/-- Nominal rate of a layer instance in 100 bit/s (Table PAC-3). -/
def State.layerRate (s : State) (k : Nat) : Nat :=
  if k < 256 then (if (s.sliceLif k).any fun i => s.lifType i == 15 then 1047944450 else 1052580000)
  else (s.odu (k - 256)).bps100
/-- A context's rate and divider: its admission period is proportional to 2^divider ÷ rate. -/
def State.ctxRate (s : State) (h : CtxH) : Nat := ((s.entryKey h.entry0).map s.layerRate).getD 0
/-- A context as admission sees it: its rate, divider and WCSC. -/
structure AdmitItem where
  rate : Nat
  div : Nat
  wcsc : Nat
  deriving DecidableEq, Repr
/-- The admission period of a is not above that of b. -/
def AdmitItem.within (a b : AdmitItem) : Bool := decide (2 ^ a.div * b.rate ≤ 2 ^ b.div * a.rate)
/-- The load of an item, scaled so that 0.85 is `admitMax`. -/
def AdmitItem.load (a : AdmitItem) : Nat := a.wcsc * a.rate * 2 ^ (8 - a.div) * 100
/-- 0.85 × 1.6 steps/ns × 0.9999 in the scale of `AdmitItem.load`. -/
def admitMax : Nat := 256 * 122368 * 1359864 * 1000
/-- The first class of a list of items whose sum would exceed 0.85 (R89). Where several do, the spec does not say which one RESULT names: it is
the first of the list, the new context's own class, then the engine's by rising context number. (DESIGN CHOICE, log entry 135) -/
def overClass (l : List AdmitItem) : Option AdmitItem :=
  l.find? fun a => decide (admitMax < ((l.filter fun b => b.within a).map AdmitItem.load).sum)
/-- A bound context as an item. -/
def State.admitItem (s : State) (h : CtxH) : AdmitItem := ⟨s.ctxRate h, h.bind.divLog2, h.bind.wcsc⟩
/-- The items of an engine, context c left out. -/
def State.engineItems (s : State) (e c : Nat) : List AdmitItem :=
  (s.jrm.ctx.filter fun p => engineOf p.1 = e ∧ p.1 ≠ c ∧ p.2.state ≠ 0).map fun p => s.admitItem p.2

/-- A context is unbound: its run ends, its open packets are discarded (R84), and it is FREE. -/
def State.unbind (s : State) (t c : Nat) : State := ((s.discard t c).dropPackets t c).setCx c {}

/-! ### Epochs (R215) and the map's counts -/

/-- The epoch after e: it counts from 1 and wraps from 0xFFFF to 1. -/
def epochAfter (e : Nat) : Nat := if 0xFFFF ≤ e then 1 else e + 1
/-- The latest epoch of a direction. -/
def State.epochOf (s : State) (d : Nat) : Nat := s.rget (if d = 0 then Reg.PLZ_EPOCH_EPOCH_RX else Reg.PLZ_EPOCH_EPOCH_TX)
/-- A direction's next epoch is applied at t. -/
def State.applyEpoch (s : State) (t d : Nat) : State :=
  (s.rset (if d = 0 then Reg.PLZ_EPOCH_EPOCH_RX else Reg.PLZ_EPOCH_EPOCH_TX) (epochAfter (s.epochOf d))).setDtsWords
    (if d = 0 then Reg.PLZ_EPOCH_RX0 else Reg.PLZ_EPOCH_TX0) t
/-- PLZ_MAP_USED and FENCE_FILL follow the map. -/
def State.mapUsed (s : State) (t : Nat) : State :=
  let rx := (s.plz.conn.filter fun p => p.1 < 20480 ∧ p.2.valid).length
  let tx := (s.plz.conn.filter fun p => 20480 ≤ p.1 ∧ p.2.valid).length
  ((s.rset Reg.PLZ_MAP_USED_USED_RX rx).rset Reg.PLZ_MAP_USED_USED_TX tx).live t Reg.PLZ_LIVE_FENCE_FILL 0
    (s.plz.conn.any fun p => p.2.aisFill)

/-- The connection map entry as bytes (Table PLZ-2). -/
def ConnH.record (c : ConnH) : Nat :=
  b2n c.valid + 2 * c.kind + 8 * c.cls + 32 * b2n c.bridge + 64 * b2n c.fastEn + 128 * b2n c.inhibit
    + atByte 1 (b2n c.fwd + 2 * b2n c.route1 + 4 * b2n c.sel + 8 * b2n c.aisFill) + atByte 2 c.partner
    + atByte 4 c.epoch0 + atByte 6 c.epoch1 + atByte 8 c.slot0 + atByte 9 c.slot1 + atByte 12 c.portA + atByte 16 c.portB
    + atByte 20 c.switches + atByte 24 (nsOf c.chg) + atByte 28 (secOf c.chg % 65536)

/-- The send flow that entry i takes over where its change takes effect: the cells of an entry that still goes out in the same copies go on
under it; and one that its own change ends starts anew, unless a waiting entry takes its copies over (08 R250). -/
def State.flowApply (s : State) (i : Nat) : State :=
  let c := s.cn 0 i
  let others := s.plz.conn.filter fun p => decide (p.1 < 20480) && p.1 != i && p.2.changed
  let s1 := if c.outCopies = [] ∨ c.outCopies = c.copies then s
    else match others.find? fun p => p.2.arcade && p.2.copies == c.outCopies with
      | some p => (s.setFlow 0 (s.flowOwner 0 p.1) (s.flow 0 i)).setFlow 0 i {}
      | none => s.setFlow 0 i {}
  match others.find? fun p => c.arcade && p.2.outCopies == c.copies with
  | some p => (s1.setFlow 0 (s1.flowOwner 0 i) (s1.flow 0 p.1)).setFlow 0 p.1 {}
  | none => s1
/-- Other entries whose change waits give up the outputs that entry (d, i) now has: no output carries tokens from before and after a change. -/
def State.endOthers (s : State) (d i : Nat) : State :=
  let c := s.cn d i
  let mine : Nat → Bool := fun r => r != 0 && (r == c.route || r == c.routeB)
  (s.plz.conn.filter fun p => decide (p.1 / 20480 = d) && p.1 % 20480 != i && p.2.changed && s.partnerOf d i != some (p.1 % 20480)
    && (mine p.2.out || mine p.2.outB)).foldl
    (fun z p => z.setCn d (p.1 % 20480) { p.2 with out := if mine p.2.out then 0 else p.2.out, outB := if mine p.2.outB then 0 else p.2.outB,
                                                   outCopies := p.2.outCopies.filter fun x => !c.copies.contains x }) s
/-- What the change of an entry puts in force. -/
def ConnH.applied (c : ConnH) : ConnH := { c with changed := false, out := c.route, outB := c.routeB, outCopies := [], outDual := false }
/-- CONNECTION_CHANGE_APPLY (R216): the tributary of entry (d, i) starts a frame at the output; a change that waits for it
takes effect there. -/
def connectionChangeApplyEffect (_t d i : Nat) (s : State) : State :=
  if d < 2 ∧ i < 20480 ∧ (s.cn d i).changed then
    let s1 := (if d = 0 then s.flowApply i else s).endOthers d i
    s1.setCn d i (s.cn d i).applied
  else s

/-! ### Selection (R227) -/

/-- SELECTION_CHANGE (R227): receive entry i's tributary starts a frame at pass 2 (or reaches a block boundary) after the trigger; a
selection of it that waits takes effect, unless R226 stands against it there: a committed request is then held, a fast one ends.
(DEDUCED, log entry 53) -/
def selectionChangeEffect (t i : Nat) (s : State) : State :=
  match s.switchPartner i, (s.cn 0 i).req with
  | some p, some r =>
    if t ≤ r.at_ then s else
    let c := s.cn 0 i
    let s1 := s.setCn 0 i { c with req := none }
    if s.hwSf i ∧ (s.hwSf p ∨ ¬ (s.cn 0 p).inhibit) then s1.setCn 0 i { s1.cn 0 i with held := ¬ r.fast }
    else
      let s2 := (s1.setSel t 0 i true).setSel t 0 p false
      let o := s2.cn 0 p
      let s3 := s2.setCn 0 p { o with req := none, held := false }
      if r.fast then (s3.cinc Ctr.PLZ_FAST_SWITCHES).pulse t Reg.PLZ_LIVE_FAST_SWITCH 0
      else s3.cinc Ctr.PLZ_CMD_SWITCHES
  | _, _ => s

/-! ### Moves (R217 to R222, R613) -/

/-- A move. -/
def State.mv (s : State) (m : Nat) : MoveH := tget (fun _ => {}) s.plz.moves m
/-- A move replaced. -/
def State.setMv (s : State) (m : Nat) (h : MoveH) : State :=
  { s with plz := { s.plz with moves := tput (fun _ => {}) s.plz.moves m h } }
/-- The key a move is kept under: its direction and its instance or slice. -/
def moveKey (slice tx : Bool) (inst : Nat) : Nat := (if slice then 40960 else 0) + b2n tx * 20480 + inst
/-- A move of an instance or slice stands, in any direction. -/
def State.moving (s : State) (slice : Bool) (inst : Nat) : Bool :=
  (s.mv (moveKey slice false inst)).live || (s.mv (moveKey slice true inst)).live

/-- MOVE_ACTIVE: at least one move is in its overlap. -/
def State.moveLive (s : State) (t : Nat) : State :=
  s.live t Reg.PLZ_LIVE_MOVE_ACTIVE 0 (s.plz.moves.any fun p => p.2.live ∧ p.2.phase = .overlap)

/-- The layer instances a move carries: a slice, or an ODU and all the lower-order ODUs it carries (R177). -/
def State.moveKeys (s : State) (h : MoveH) : List Nat :=
  if h.slice then [sliceKey h.inst]
  else oduKey h.inst :: (s.odusUsed.filter fun j => (s.odu j).inHo = some h.inst).map oduKey
/-- The contexts a move carries: those of its instances in the old slot, in service. -/
def State.moveCtxs (s : State) (h : MoveH) : List Nat :=
  ((s.moveKeys h).flatMap s.ctxOf).filter fun c => slotOfCtx c = h.old ∧ (s.cx c).state = 1

/-- The move period P (R217): the longest release period of the contexts, or the layer's frame period. -/
def State.movePeriod (s : State) (h : MoveH) : Nat :=
  let k := if h.slice then sliceKey h.inst else oduKey h.inst
  (s.moveCtxs h).foldl (fun p c => max p (2 ^ (s.cx c).bind.divLog2 * s.framePeriod (((s.entryKey (s.cx c).entry0)).getD k))) (s.framePeriod k)

/-- The context that takes over from c: beside it for a slot move, whose logical slot stays; else the same engine and index of
the new slot, or the lowest free context there. (DEDUCED, log entry 56) -/
def State.newCtx (s : State) (h : MoveH) (c : Nat) : Option Nat :=
  if h.slotMove.isSome then some (c + 131072)
  else
    let n := h.new * 4096 + c % 4096
    if (s.cx n).state = 0 then some n
    else ((List.range 4096).find? fun k => (s.cx (h.new * 4096 + k)).state = 0).map fun k => h.new * 4096 + k

/-- A context is seeded from another's committed state, with release flag g3 bit 1 (R218; 16 R465). The spec does not say whether it
counts as newly bound, nor what packet state it starts with: it does, with no packet open. (DESIGN CHOICE, log entry 125) -/
def CtxH.seeded (h : CtxH) : CtxH :=
  { h with seed := true, shadow := true, run := none, late := 0, commits := 0, worst := 0, trapCode := 0, trapAddr := 0, trapDts := 0,
           pkts := [], rels := 0, prevLate := false, readyAt := none, acc := h.acc.anew }

/-- The contexts of a move are copied one after another; none where a copy finds no place or no admission (R89). (DEDUCED, log entry 56) -/
def State.copyCtxs (s : State) (h : MoveH) : List Nat → Option (State × List (Nat × Nat))
  | [] => some (s, [])
  | c :: r =>
    match s.newCtx h c with
    | none => none
    | some n =>
      let x := (s.cx c).seeded
      if (overClass (s.admitItem x :: s.engineItems (engineOf n) n)).isSome then none
      else (State.copyCtxs (s.setCx n x) h r).map fun p => (p.1, (c, n) :: p.2)

/-- The event of a move (R220): SRC the instance or slice, DETAIL the epoch and both slots. -/
def State.moveEvent (s : State) (t code : Nat) (h : MoveH) (extra : Nat) : State :=
  s.log t code h.inst (h.epoch % 65536 + h.old * 2 ^ 16 + h.new * 2 ^ 24 + extra * 2 ^ 32)

/-- The direction of a move's entry. -/
def MoveH.dir (h : MoveH) : Nat := b2n h.tx

/-- The epoch of a move's new route in a direction: `epoch` in the move's own, `epochTx` in the other. -/
def MoveH.epochR (h : MoveH) (d : Nat) : Nat := if d = h.dir then h.epoch else h.epochTx
/-- The entries of a move's work changed by direction, in both, since one Avenue stage serves a layer instance in both (05 R138), those of the
lower-order ODUs it carries with its own (R217); a slice has none. (DEDUCED, log entry 57) -/
def State.moveEntry (s : State) (h : MoveH) (f : Nat → ConnH → ConnH) : State :=
  if h.slice then s
  else [0, 1].foldl (fun z d => (z.moveKeys h).foldl (fun y k =>
    let c := y.cn d (k - 256)
    if c.valid then y.setCn d (k - 256) (f d c) else y) z) s
/-- Route 1 of an entry is removed, FWD unchanged (R219). -/
def ConnH.noRoute1 (c : ConnH) : ConnH := { c with route1 := false, epoch1 := 0, slot1 := 0 }

/-- A move aborts: route 1 is removed, FWD stays, and the new contexts are unbound (R219). One that was bringing a part of a slot move
back begins anew. (DEDUCED, log entry 56) -/
def State.abortOne (s : State) (t m : Nat) : State :=
  let h := s.mv m
  if ¬ h.live then s else
  let s1 := h.ctxs.foldl (fun z p => z.unbind t p.2) s
  let s2 := if h.back then s1.setMv m { h with phase := .waiting, install := t } else (s1.moveEntry h fun _ c => c.noRoute1).setMv m {}
  let s3 := s2.moveEvent t 0x6003 h 0
  ((s3.cinc Ctr.PLZ_MOVE_ABORTS).pulse t Reg.PLZ_LIVE_MOVE_ABORT 0).moveLive t

/-- Two contexts change places, with what their engines execute. -/
def State.swapCtx (s : State) (a b : Nat) : State :=
  let s1 := (s.setCx a (s.cx b)).setCx b (s.cx a)
  let ra := s.curCx (engineOf a) = some a
  let rb := s.curCx (engineOf b) = some b
  let s2 := if ra then s1.setCur (engineOf a) none else s1
  let s3 := if rb then s2.setCur (engineOf b) none else s2
  let s4 := if ra then s3.setCur (engineOf b) (some b) else s3
  if rb then s4.setCur (engineOf a) (some a) else s4

/-- A further move brings a part of an aborted slot move back (R220): the old contexts, which ran as shadows, are unbound, the route in force is
route 1 with FWD set, and it waits for its install at t, with the next epoch of each direction. (DEDUCED, log entry 56) -/
def State.moveBack (s : State) (t m : Nat) : State :=
  let h := s.mv m
  let s0 := h.ctxs.foldl (fun z p => z.unbind t p.1) ((s.applyEpoch t 0).applyEpoch t 1)
  let s1 := if h.phase = .retired then s0.moveEntry h fun _ c => { c with route1 := true, fwd := true, slot1 := h.new, epoch1 := c.epoch0 } else s0
  s1.setMv m { slice := h.slice, tx := h.tx, inst := h.inst, old := h.old, new := h.new, epoch := s1.epochOf h.dir, epochTx := s1.epochOf (1 - h.dir),
               install := t, live := true, slotMove := h.slotMove, back := true, ctxs := h.ctxs.map fun p => (p.2, p.1) }
/-- The moves of a slot move. -/
def State.slotParts (s : State) (slot : Nat) : List Nat := (s.plz.moves.filter fun p => p.2.live ∧ p.2.slotMove = some slot).map (·.1)

/-- STATE of an Avenue (AVE_MED_STAT) with its SLOT. -/
def State.aveTo (s : State) (a st sl : Nat) : State := (s.rset (Reg.AVE_MED_STAT_STATE a) st).rset (Reg.AVE_MED_STAT_SLOT a) sl
/-- STATE of an Avenue: 0 IN_SERVICE, 1 SPARE, 2 FENCED, 3 SELF_TEST, 4 RETIRED, 5 SEEDING. -/
def State.aveState (s : State) (a : Nat) : Nat := s.rget (Reg.AVE_MED_STAT_STATE a)
/-- An Avenue. -/
def State.av (s : State) (a : Nat) : AveH := tget (fun _ => {}) s.ave.aves a
/-- An Avenue replaced. -/
def State.setAv (s : State) (a : Nat) (h : AveH) : State := { s with ave := { s.ave with aves := tput (fun _ => {}) s.ave.aves a h } }
/-- AVE_POOL and NO_SPARE follow the Avenues (16 R500). -/
def State.poolShow (s : State) (t : Nat) : State :=
  let n (p : Nat → Bool) : Nat := ((List.range 36).filter fun a => p (s.aveState a)).length
  let sp := n (· == 1)
  ((((s.rset Reg.AVE_POOL_SPARES sp).rset Reg.AVE_POOL_IN_TEST (n fun x => x == 2 || x == 3)).rset Reg.AVE_POOL_RETIRED (n (· == 4))).rsetb
    Reg.AVE_POOL_EXHAUSTED (s.ave.exh != [])).live t Reg.AVE_POOL_LIVE_NO_SPARE 0 (sp == 0)
/-- The Avenue a slot move was filling goes back to the pool, with its time there (16 R469). (DEDUCED, log entry 89) -/
def State.pendFree (s : State) (t slot : Nat) : State :=
  let a := s.rget (Reg.PLZ_SLOT_MAP_PEND slot)
  if s.rbit (Reg.PLZ_SLOT_MAP_PEND_VALID slot) ∧ s.aveState a = 5 then (s.aveTo a 1 0).poolShow t else s

/-- A rotation whose slot move aborts is logged, and ROTATE released (18 R535). -/
def State.rotAbort (s : State) (t slot : Nat) : State :=
  match s.ave.rot with
  | none => s
  | some r =>
    if r.slot ≠ slot then s else
    (({ s with ave := { s.ave with rot := none } } : State).logSev t 2 0x8412 slot (r.old + r.new * 256)).releasePermit t 0x0201 slot

/-- The Avenue of an aborted slot move is given up once no part of the slot is left on it (R220). -/
def State.slotFree (s : State) (t slot : Nat) : State :=
  if s.slotParts slot ≠ [] then s
  else (((s.pendFree t slot).rsetb (Reg.PLZ_SLOT_MAP_PEND_VALID slot) false).rset (Reg.PLZ_SLOT_MAP_PEND slot) 0).rotAbort t slot
/-- A slot move is aborted as a whole: the parts in overlap abort, and those that have cut over are moved back by further moves (R220). -/
def State.abortSlot (s : State) (t slot : Nat) : State :=
  ((s.slotParts slot).foldl (fun z m =>
    if (z.mv m).back then (if (z.mv m).phase = .overlap then z.abortOne t m else z)
    else if (z.mv m).phase = .cut ∨ (z.mv m).phase = .retired then z.moveBack t m
    else z.abortOne t m) s).slotFree t slot
/-- A part of a slot move ends at once on the Avenue the slot has, because a fence has taken one of the two (R221): there its old contexts
still run, or, where they do not, those that acted, seeded; one that had retired has no Avenue until the slot's serves it (R228). (DEDUCED,
log entry 56) -/
def State.partHome (s : State) (t m : Nat) : State :=
  let h := s.mv m
  let s1 : State := match h.phase, h.back with
    | .cut, false => h.ctxs.foldl (fun y p => let z := y.swapCtx p.1 p.2; (z.setCx p.2 { z.cx p.2 with shadow := false }).unbind t p.1) s
    | .cut, true => h.ctxs.foldl (fun y p => y.unbind t p.1) s
    | .retired, _ => h.ctxs.foldl (fun y p => let z := y.discard t p.2; z.setCx p.2 { z.cx p.2 with seed := true }) s
    | _, _ => h.ctxs.foldl (fun y p => y.unbind t (max p.1 p.2)) s
  let s2 := (s1.moveEntry h fun _ c => { c.noRoute1 with fwd := false, aisFill := c.aisFill || (h.phase == .retired && c.cls != 2) }).setMv m {}
  ((((s2.moveEvent t 0x6003 h 0).cinc Ctr.PLZ_MOVE_ABORTS).pulse t Reg.PLZ_LIVE_MOVE_ABORT 0).moveLive t).mapUsed t
/-- A slot move ends at once because a fence has taken one of its Avenues. -/
def State.slotHome (s : State) (t slot : Nat) : State := ((s.slotParts slot).foldl (fun z m => z.partHome t m) s).slotFree t slot

/-- A move aborts, and its whole slot move with it (R219, R220). -/
def State.moveAbort (s : State) (t m : Nat) : State :=
  match (s.mv m).slotMove with
  | some slot => s.abortSlot t slot
  | none => s.abortOne t m

/-- The routes a move's install writes: route 1 with the new slot and epoch (R218); for a move back, route 0 is the way it leads to. -/
def MoveH.installed (h : MoveH) (d : Nat) (c : ConnH) : ConnH :=
  if h.back then { c with epoch0 := h.epochR d } else { c with route1 := true, slot1 := h.new, epoch1 := h.epochR d }
/-- MOVE_INSTALL (R218): a release instant of move m's work at or after its epoch instant. -/
def moveInstallEffect (t m : Nat) (s : State) : State :=
  let h := s.mv m
  if ¬ h.live ∨ h.phase ≠ .waiting ∨ t < h.install then s else
  let p := s.movePeriod h
  match s.copyCtxs h (s.moveCtxs h) with
  | none => s.moveAbort t m
  | some (s1, l) =>
    let h1 := { h with phase := .overlap, install := t, period := p, ctxs := l }
    let s2 := (s1.setMv m h1).moveEntry h1 fun d c => h1.installed d c
    (s2.moveEvent t 0x6001 h1 0).moveLive t

/-- Every new context of a move has made an on-time COMMIT. -/
def State.moveReady (s : State) (h : MoveH) : Bool := h.ctxs.all fun p => (s.cx p.2).state == 1 && (s.cx p.2).readyAt.isSome
/-- The release instant after each of those COMMITs has come (R218); a move with no bound context waits for none. (DESIGN CHOICE, log entry
156) -/
def State.releasesPast (s : State) (t : Nat) (h : MoveH) : Bool := h.ctxs.all fun p => (s.cx p.2).readyAt.all fun x => decide (x ≤ t)

/-- A context's runs become shadow runs; what its run has popped goes back to its queue, so that the context that now acts pops it, and a POP or
WAIT on which it stalls completes at once, the POP with its register cleared (R613). -/
def State.toShadow (s : State) (t c : Nat) : State :=
  let h := s.cx c
  match h.run with
  | none => s.setCx c { h with shadow := true }
  | some r =>
    let s1 := s.unpop t r.pops
    let r1 := match r.stall with
      | none => r
      | some (.pop _ _ dst) => { (r.setReg (BitVec.ofNat 5 dst) 0) with stall := none, pc := r.pc + 1 }
      | some _ => { r with stall := none, pc := r.pc + 1 }
    s1.setCx c { h with shadow := true, run := some { r1 with pops := [] } }
/-- A pipeline: Avenue a, direction d (0 receive, 1 transmit). -/
def State.pipe (s : State) (a d : Nat) : PipeH := tget (fun _ => {}) s.ave.pipes (a * 2 + d)
/-- A pipeline replaced. -/
def State.setPipe (s : State) (a d : Nat) (h : PipeH) : State :=
  { s with ave := { s.ave with pipes := tput (fun _ => {}) s.ave.pipes (a * 2 + d) h } }
/-- SHED_ACTIVE of both halves follows the tributaries the Avenue has shed. -/
def State.shedShow (s : State) (t a : Nat) : State :=
  let on := (s.pipe a 0).shed ≠ [] ∨ (s.pipe a 1).shed ≠ []
  [0, 1].foldl (fun z h => z.live t (Reg.AVE_PACE_LIVE_SHED_ACTIVE a h) (2 * a + h) (decide on)) s
/-- SHED_EXHAUSTED of both halves. (DEDUCED, log entry 22) -/
def State.shedOut (s : State) (t a : Nat) (on : Bool) : State :=
  [0, 1].foldl (fun z h => z.live t (Reg.AVE_PACE_LIVE_SHED_EXHAUSTED a h) (2 * a + h) on) s
/-- What an Avenue has shed goes with its slot to another Avenue: there the shedding is restored (02 R70, R71). (DEDUCED, log entry 23) -/
def State.shedSlot (s : State) (t a b : Nat) : State :=
  let s1 := [0, 1].foldl (fun z d =>
    let x := z.pipe a d
    let y := z.pipe b d
    (z.setPipe a d { x with shed := [], dec := none, quiet := none, restored := none }).setPipe b d
      { y with shed := x.shed ++ y.shed, dec := none, quiet := none, restored := none }) s
  let ex := s1.rbit (Reg.AVE_PACE_LIVE_SHED_EXHAUSTED a 0)
  let s2 := ((s1.shedShow t a).shedShow t b).shedOut t a false
  if ex then s2.shedOut t b true else s2
/-- A tributary leaves the shed lists of Avenue a. -/
def State.unshed (s : State) (t a i : Nat) : State :=
  if ([0, 1].any fun d => (s.pipe a d).shed.contains i) then
    let s1 := [0, 1].foldl (fun z d => z.setPipe a d { z.pipe a d with shed := (z.pipe a d).shed.filter fun x => x ≠ i }) s
    let s2 := if (s1.pipe a 0).shed = [] ∧ (s1.pipe a 1).shed = [] then s1.shedOut t a false else s1
    s2.shedShow t a
  else s
/-- A tributary that is shed goes from Avenue a to Avenue b with its slot. (DEDUCED, log entry 23) -/
def State.shedTrib (s : State) (t a b i : Nat) : State :=
  if a = b then s else
  let s1 := [0, 1].foldl (fun z d =>
    if (s.pipe a d).shed.contains i then z.setPipe b d { z.pipe b d with shed := i :: (z.pipe b d).shed } else z) (s.unshed t a i)
  s1.shedShow t b

/-- A lease is valid at t (00 R13). -/
def State.leaseAt (s : State) (t : Nat) : Bool := s.rbit Reg.KSK_LEASE_VALID && decide (dts96 t < s.dtsWords Reg.KSK_LEASE_EXP0)
/-- A part of a slot move, none that is moved back, has cut over. -/
def State.partOver (s : State) (m : Nat) : Bool := ((s.mv m).phase == .cut || (s.mv m).phase == .retired) && !(s.mv m).back
/-- A slot move completes when every part has cut over (R220): the slot has its new Avenue, which is in service, and the old one goes to its
self-test (18 R534), unless a fence has taken it; parts that have retired are at their end. The primary Kiosk changes the map: with no valid
lease the slot move waits for one (R206). -/
def State.slotDone (s : State) (t slot : Nat) : State :=
  if s.leaseAt t ∧ s.rbit (Reg.PLZ_SLOT_MAP_PEND_VALID slot) ∧ (s.slotParts slot).all s.partOver then
    let o := s.rget (Reg.PLZ_SLOT_MAP_PHYS slot)
    let a := s.rget (Reg.PLZ_SLOT_MAP_PEND slot)
    let s0 := ((s.slotParts slot).filter fun m => (s.mv m).phase == .retired).foldl (fun z m => z.setMv m {}) s
    let s1 := (((s0.rset (Reg.PLZ_SLOT_MAP_PHYS slot) a).rsetb (Reg.PLZ_SLOT_MAP_PEND_VALID slot) false).rset (Reg.PLZ_SLOT_MAP_PEND slot) 0).rsetb
      (Reg.PLZ_SLOT_MAP_FENCED slot) false
    let s2 := if s1.aveState o = 0 then s1.aveTo o 3 0 else s1
    (((s2.aveTo a 0 slot).setAv a { s2.av a with inSince := t }).poolShow t).shedSlot t o a
  else s
/-- FWD changes: the new contexts act and the old ones run as shadows (R218, R613); `cause` names the fence that hastened it (R221). -/
def State.cutover (s : State) (t m cause : Nat) : State :=
  let h := s.mv m
  let s1 := h.ctxs.foldl (fun z p =>
    let z0 := z.toShadow t p.1
    let z1 := z0.setCx p.2 { z0.cx p.2 with shadow := false }
    if h.slotMove.isSome then z1.swapCtx p.1 p.2 else z1) s
  let l := if h.slotMove.isSome then h.ctxs.map fun p => (p.2, p.1) else h.ctxs
  let s2 := (s1.setMv m { h with phase := .cut, cutAt := t, ctxs := l, forced := false }).moveEntry h fun _ c => { c with fwd := !h.back, chg := t }
  ((s2.cinc Ctr.PLZ_MOVES).moveEvent t 0x6002 h cause).moveLive t

/-- MOVE_CUTOVER (R218, R221): the first frame start that reaches the merge point at or after the release that follows the new contexts'
on-time COMMITs; after a fence of the old Avenue, the next one. A slot move completes with its last part. -/
def moveCutoverEffect (t m : Nat) (s : State) : State :=
  let h := s.mv m
  if h.live ∧ h.phase = .overlap ∧ s.moveReady h ∧ h.install < t ∧ (h.forced ∨ (s.releasesPast t h ∧ t ≤ h.install + 2 * h.period)) then
    let s1 := s.cutover t m (b2n h.forced)
    match h.slotMove with
    | some slot => s1.slotDone t slot
    | none => s1
  else s

/-- Route 1 of an entry becomes route 0 (R218). -/
def ConnH.onRoute1 (c : ConnH) : ConnH := { c with slot0 := c.slot1, epoch0 := c.epoch1, slot1 := 0, epoch1 := 0, route1 := false, fwd := false }
/-- The old contexts of a move are unbound and route 1 becomes route 0 (R218); a move back leaves route 0. -/
def State.retire (s : State) (t m : Nat) : State :=
  let h := s.mv m
  let s1 := h.ctxs.foldl (fun z p => z.unbind t p.1) s
  let s2 := s1.moveEntry h fun _ c => if h.back then c.noRoute1 else c.onRoute1
  let s3 := s2.setMv m {}
  if h.slice then s3 else
  let s4 := (s.moveKeys h).foldl (fun z k => z.setOdu (k - 256) { z.odu (k - 256) with slot := h.new }) s3
  (s.moveKeys h).foldl (fun z k => z.shedTrib t (s.rget (Reg.PLZ_SLOT_MAP_PHYS h.old)) (s.rget (Reg.PLZ_SLOT_MAP_PHYS h.new)) (k - 256)) s4
/-- A part of a slot move retires before the whole slot has cut over: from now on its route 0 leads to the Avenue that receives the slot. -/
def State.retirePart (s : State) (t m : Nat) : State :=
  let h := s.mv m
  let s1 := h.ctxs.foldl (fun z p => z.unbind t p.1) s
  (s1.moveEntry h fun _ c => c.onRoute1).setMv m { h with phase := .retired }

/-- MOVE_RETIRE (R218): the next release instant after cutover, for each part of a slot move on its own, and for one that is moved back (R220);
a slot move that waited for a lease to complete does so. -/
def moveRetireEffect (t m : Nat) (s : State) : State :=
  let h := s.mv m
  if ¬ (h.live ∧ (h.phase = .cut ∨ h.phase = .retired) ∧ h.cutAt < t) then s else
  match h.slotMove with
  | some slot =>
    if h.back then (s.retire t m).slotFree t slot
    else
      let s1 := s.slotDone t slot
      if s1.rbit (Reg.PLZ_SLOT_MAP_PEND_VALID slot) then (if h.phase = .cut then s1.retirePart t m else s1)
      else if h.phase = .cut then s1.retire t m else s1
  | none => s.retire t m

/-- Where APS_LIN keeps the nanosecond at which its timer ends. (DESIGN CHOICE, log entry 133) -/
def apsEndAt : Nat := 0x70
/-- The end of the timer an APS_LIN context has committed (10 R314, R315), t the release instant of its run. -/
def State.apsTimer (s : State) (t c : Nat) : State :=
  let h := s.cx c
  let run := decide (bits (s.trailByte h.entry0 0xF2) 3 2 ≠ 0)
  { s with apsEnd := tput (fun _ => 0) s.apsEnd c (if run then t + ns (mread h.scr apsEndAt 8 - (sdtsn t).toNat) else 0) }

/-- COMMIT_SELECT: the switch engine reads APS_LIN's committed byte 0xF0 (10 R311, R313): SELECT_P over the receive pair, and
BRIDGE_P over P's transmit entry in a 1:1 group, while W's, and in a 1+1 group both, stay set; `rel` is the release instant of the run. -/
def State.apsCommit (s : State) (rel t c : Nat) : State :=
  let h := s.cx c
  if h.bind.routine ≠ 0x20 ∨ h.shadow then s else
  let b := s.trailByte h.entry0 0xF0
  let p := s.instanceOf h.entry0
  let arch := (h.bind.param.getD 64 0).toNat % 4
  match s.mateOf 1 0 p with
  | none => s
  | some w =>
    let s1 := (s.apsTimer rel c).commitSel t (if bit b 0 then p else w)
    let s2 := if (s1.cn 1 p).valid then s1.setSel t 1 p (if 2 ≤ arch then bit b 1 else true) else s1
    if (s2.cn 1 w).valid then s2.setSel t 1 w true else s2

/-- MOVE_ABORT (R219): cutover has not happened at install + 2 × P. -/
def moveAbortEffect (t m : Nat) (s : State) : State :=
  let h := s.mv m
  if h.live ∧ h.phase = .overlap ∧ ¬ h.forced ∧ h.install + 2 * h.period ≤ t then s.moveAbort t m else s

/-- CONNECTION_CHANGE_APPLY (R216). -/
def execConnectionChangeApply (t d i : Nat) : State → Host.Outcome State Fault Refusal := event t (connectionChangeApplyEffect t d i)
/-- SELECTION_CHANGE (R227). -/
def execSelectionChange (t i : Nat) : State → Host.Outcome State Fault Refusal := event t (selectionChangeEffect t i)
/-- MOVE_INSTALL (R218). -/
def execMoveInstall (t m : Nat) : State → Host.Outcome State Fault Refusal := event t (moveInstallEffect t m)
/-- MOVE_CUTOVER (R218). -/
def execMoveCutover (t m : Nat) : State → Host.Outcome State Fault Refusal := event t (moveCutoverEffect t m)
/-- MOVE_RETIRE (R218). -/
def execMoveRetire (t m : Nat) : State → Host.Outcome State Fault Refusal := event t (moveRetireEffect t m)
end Sys2Proof.Machine
end

