-- ==== Sys2Proof/Machine/Arcade.lean ====
section
/-! DEFINITION. The Arcade: links, cells, flows, playout and time cells (08 R231 to R271). -/
namespace Sys2Proof.Machine
open Sys2Proof

/-! ### Cells (R232, R233) -/

/-- n bytes of a cell from byte o, most significant first (R7). -/
def cellBe (c : List Byte) (o n : Nat) : Nat := ofBe ((c.drop o).take n)
/-- TYPE of a cell. -/
def cellType (c : List Byte) : Nat := cellBe c 2 1 / 16
/-- HCRC passes. -/
def hcrcOk (c : List Byte) : Bool := crc crc16 (c.take 30) == cellBe c 30 2
/-- PCRC passes. -/
def pcrcOk (c : List Byte) : Bool := crc crc32 (c.drop 32) == cellBe c 26 4
/-- A cell is valid (R234). -/
def cellValid (c : List Byte) : Bool := hcrcOk c && decide (1 ≤ cellType c ∧ cellType c ≤ 4)

/-- What a sender puts into a cell. -/
structure CellHdr where
  ver : Nat
  type : Nat
  plane : Bool := false
  first : Bool := false
  fill : Bool := false
  src : Nat
  dst : Nat
  flow : Nat := 0
  seq : Nat
  len : Nat
  ts : Nat
  deriving DecidableEq, Repr

/-- A payload with the zero bytes beyond LEN. -/
def padCell (p : List Byte) : List Byte := p.take 992 ++ List.replicate (992 - p.length) 0

/-- The 1,024 bytes of a cell (Table ARC-2). -/
def cellBytes (h : CellHdr) (payload : List Byte) : List Byte :=
  let p := padCell payload
  let hd := beBytes 2 h.ver ++ beBytes 1 (h.type * 16 + 8 * b2n h.plane) ++ beBytes 1 (b2n h.first + 2 * b2n h.fill)
    ++ beBytes 2 h.src ++ beBytes 2 h.dst ++ beBytes 3 (h.flow % 2 ^ 20) ++ [0] ++ beBytes 4 h.seq ++ beBytes 2 h.len
    ++ beBytes 8 (dts96 h.ts % 2 ^ 64) ++ beBytes 4 (crc crc32 p)
  hd ++ beBytes 2 (crc crc16 hd) ++ p

/-- A local fault ordered set as a 66-bit block of IEEE 802.3 (R168). (PRESUMED, log entry 59) -/
def faultBlock : Nat := 2 * 2 ^ 64 + 0x4B00000100000000
/-- One cell's payload of fill (R238): 0xFF for an ODU flow, local fault blocks for an Ethernet flow. -/
def fillPayload (eth : Bool) : List Byte :=
  if eth then beBytes 990 ((List.range 120).foldl (fun x _ => x * 2 ^ 66 + faultBlock) 0) else List.replicate 992 0xFF

/-! ### Ingress stamps (01 R31, 02 R56) -/

/-- An ingress port's stamps. -/
def State.stamp (s : State) (port : Nat) : MarkH := tget (fun _ => {}) s.ave.marks port
/-- A token of 256 bytes enters at t; one that Table PAC-2 stamps measures the byte period since the stamp before. -/
def MarkH.enter (m : MarkH) (t : Nat) (mark : Bool) : MarkH :=
  if ¬ mark then { m with bytes := m.bytes + 256 }
  else { at_ := some t, bytes := 256, before := (m.at_.toList ++ m.before).take 64,
         period := match m.at_ with | some a => if a < t ∧ 0 < m.bytes then qmk (t - a : Nat) m.bytes else m.period | none => m.period }
/-- The ingress DTS of the byte at an offset within the frame that a port stamped `back` frames before its latest: that frame's DTS, and the
offset times the byte period measured there (01 R31); none before two frames have been stamped. -/
def MarkH.byteAt (m : MarkH) (back off : Nat) : Option Nat :=
  match (m.at_.toList ++ m.before)[back]? with
  | some a => if m.period = {} then none else some (a + (qfloor (qmul m.period (qint off))).toNat)
  | none => none

/-! ### Links and groups -/

/-- A link. -/
def State.alk (s : State) (l : Nat) : ArcLink := tget (fun _ => {}) s.arc.links l
/-- A link replaced. -/
def State.setAlk (s : State) (l : Nat) (h : ArcLink) : State :=
  { s with arc := { s.arc with links := tput (fun _ => {}) s.arc.links l h } }
/-- The state of a link (Table ARC-3). -/
def State.alState (s : State) (l : Nat) : Nat := s.rget (Reg.SYP_AL_STAT_STATE l)
/-- A link is UP. -/
def State.alUp (s : State) (l : Nat) : Bool := s.alState l == 3
/-- A link is enabled. -/
def State.alEnabled (s : State) (l : Nat) : Bool := s.rbit (Reg.SYP_AL_CFG_ENABLED l)
/-- CHOSEN of a link. -/
def State.alChosen (s : State) (l : Nat) : Nat := s.rget (Reg.SYP_AL_STAT_CHOSEN l)
/-- The device's DEVID. -/
def State.devid (s : State) : Nat := s.rget Reg.SYP_ARC_ID_DEVID
/-- The links of a group. -/
def groupLinks (g : Nat) : List Nat := (List.range 8).map fun k => 8 * g + k
/-- The UP links of a group. -/
def State.upLinks (s : State) (g : Nat) : List Nat := (groupLinks g).filter s.alUp

/-! ### Flows (R250 to R255) -/

/-- The flows of a direction, each under its owner (R209). -/
def State.flowList (s : State) (d : Nat) : List Nat :=
  ((s.plz.conn.filter fun p => decide (p.1 / 20480 = d) && p.2.arcade).map fun p => p.1 % 20480).filter fun i => s.flowOwner d i == i
/-- The send flows of a group, one for each copy sent on it: an entry whose two flows both use the group stands twice. -/
def State.grpFlows (s : State) (g : Nat) : List Nat :=
  (s.flowList 0).flatMap fun i => ((s.cn 0 i).copies.filter fun p => p.1 == g).map fun _ => i
/-- The cell load of a flow × 992 × 990 (R253), in 100 bit/s. (DEDUCED, log entry 61) -/
def State.cellLoad (s : State) (i : Nat) : Nat := s.flowRate i * 1024 * (992 * 990 / s.flowLen i)
/-- The cell load of a list of flows. -/
def State.loadOf (s : State) (l : List Nat) : Nat := (l.map s.cellLoad).sum
/-- A load fits 99 % of the cell bits of n links (R253, R254). (DEDUCED, log entry 61) -/
def loadFits (load n : Nat) : Bool := decide (load * 544 * 100 ≤ 99 * n * 2240000000 * 514 * 992 * 990)
/-- The instances whose signal a send flow may carry: its owner, and the partner that shares its PORT_A. -/
def State.flowInsts (s : State) (i : Nat) : List Nat :=
  i :: (match s.partnerOf 0 i with
    | some p => if (s.cn 0 p).portA = (s.cn 0 i).portA then [p] else []
    | none => [])
/-- A flow is broken by Arcade group shortage: it sends no cells (R254). -/
def State.flowArc (s : State) (i : Nat) : Bool := (s.flowInsts i).any fun j => (s.odu j).broken.any fun b => b.trig == trigArc
/-- A flow is broken by no Arcade shortage, while every instance it may carry is broken by another: it carries fill (01 R39, R43). -/
def State.flowOut (s : State) (i : Nat) : Bool := !s.flowArc i && (s.flowInsts i).all s.tribBroken
/-- The flows of a group not broken by Arcade shortage. -/
def State.grpKept (s : State) (g : Nat) : List Nat := (s.grpFlows g).filter fun i => !s.flowArc i
/-- A flow sends no cells: Arcade shortage has broken it; or another trigger has, and a group it is sent on has no room for it: there it
counts as released (R254, 01 R44). (DEDUCED, log entry 62) -/
def State.flowStopped (s : State) (i : Nat) : Bool :=
  s.flowArc i || (s.flowOut i && (s.cn 0 i).copies.any fun p => !loadFits (s.loadOf (s.grpKept p.1)) (s.upLinks p.1).length)
/-- The flows a group sends. -/
def State.grpSends (s : State) (g : Nat) : List Nat := (s.grpFlows g).filter fun i => !s.flowStopped i
/-- The load of a group fits its UP links. -/
def State.grpFits (s : State) (g : Nat) : Bool := loadFits (s.loadOf (s.grpSends g)) (s.upLinks g).length

/-- RESERVED_CELLS of a receive entry (R261). -/
def State.reservedCells (s : State) (i : Nat) : Nat :=
  let d := 10000 * (8 * s.flowLen i)
  (s.flowRate i * (s.cn 1 i).playout + d - 1) / d + 4

/-! ### The group's view: load, shortage, UP_LINKS (R253, R254) -/

/-- The class a break protects: the highest left, none for a Class A tributary (R40, R43). -/
def State.arcProtects (s : State) (g i : Nat) : Option Nat :=
  if (s.odu i).cls = 2 then none else topClass s ((s.grpSends g).filter fun j => j != i)
/-- A group short of links breaks flows in ladder order until its load fits (R254). (DEDUCED, log entry 62) -/
def State.arcShed (s : State) (t g : Nat) : State :=
  (ladder s (s.grpSends g).eraseDups).foldl (fun z i =>
    if z.grpFits g then z else
    match (s.flowInsts i).find? fun j => (z.odu j).broken.isNone with
    | some j => z.breakOdu t j trigArc (z.arcProtects g i)
    | none => z) s
/-- The instances by which Arcade shortage has broken flows of a group. -/
def State.arcBroken (s : State) (g : Nat) : List Nat :=
  ((s.grpFlows g).eraseDups.flatMap s.flowInsts).filter fun i => ((s.odu i).broken.any fun b => b.trig == trigArc)
/-- Flow i fits every group it is sent on. -/
def State.flowFits (s : State) (i : Nat) : Bool :=
  (s.cn 0 i).copies.all fun p => loadFits (s.loadOf (((s.grpFlows p.1).filter (· == i)) ++ s.grpSends p.1)) (s.upLinks p.1).length
/-- A group restores flows in the order of R41 while they fit. -/
def State.arcRestore (s : State) (t g : Nat) : Nat → State
  | 0 => s
  | n + 1 =>
    match nextRestore s (s.arcBroken g) with
    | none => s
    | some j =>
      let i := s.flowOwner 0 j
      if s.flowFits i then
        ((s.restoreOdu t j).setFlow 0 i { s.flow 0 i with first := 16 }).arcRestore t g n
      else s

/-- LOAD_GBPS, UP_LINKS and SHORTAGE of a group. -/
def State.grpShow (s : State) (g : Nat) : State :=
  let load := s.loadOf (s.grpSends g)
  let u := 992 * 990 * 10000000
  ((s.rset (Reg.SYP_ARG_CFG_LOAD_GBPS g) ((load + u - 1) / u)).rset (Reg.SYP_ARG_CFG_UP_LINKS g)
    (((s.upLinks g).map fun l => 2 ^ (l % 8)).sum)).rsetb (Reg.SYP_ARG_CFG_SHORTAGE g) ((s.arcBroken g) != [])

/-- A group, and the groups on which its flows are sent too. -/
def State.grpMates (s : State) (g : Nat) : List Nat :=
  (g :: (s.grpFlows g).flatMap fun i => (s.cn 0 i).copies.map (·.1)).eraseDups

/-! ### Time peers (R264, R268, R269) -/

/-- The groups a flow of an entry uses. -/
def ConnH.arcGroups (c : ConnH) : List Nat :=
  (if arcPort c.portA then [arcGroup c.portA] else []) ++ (if arcPort c.portB then [arcGroup c.portB] else [])
    ++ (if c.dual then [c.mateGroup] else [])
/-- The far ends of an entry's flows, each with a group it uses (R264). -/
def ConnH.arcEnds (c : ConnH) (d : Nat) : List (Nat × Nat) :=
  if d = 0 then c.copies.map fun p => (p.1, p.2.1)
  else if arcPort c.portA then
    (arcGroup c.portA :: (if c.dual then [c.mateGroup] else [])).flatMap fun g => (g, c.peerA) :: (if c.altValid then [(g, c.peerB)] else [])
  else []
/-- The DEVIDs that are sources or destinations of flows on a group. -/
def State.groupPeers (s : State) (g : Nat) : List Nat :=
  ((s.plz.conn.filter fun p => p.2.arcade).flatMap fun p => ((p.2.arcEnds (p.1 / 20480)).filter fun x => x.1 == g).map (·.2)).eraseDups
/-- The time peer set of a link. -/
def State.timePeers (s : State) (l : Nat) : List Nat :=
  ((if s.alUp l then [s.rget (Reg.SYP_AL_PEER_PEER_DEVID l)] else []) ++ s.groupPeers (l / 8)).eraseDups
/-- What a link keeps of a peer. -/
def State.tp (s : State) (l p : Nat) : TimePeer := tget (fun _ => {}) (s.alk l).peers p
/-- What a link keeps of a peer, replaced. -/
def State.setTp (s : State) (l p : Nat) (h : TimePeer) : State :=
  s.setAlk l { s.alk l with peers := tput (fun _ => {}) (s.alk l).peers p h }

/-- Θp of a flow at t, in ticks (R268). (DEDUCED, log entry 60) -/
def FlowH.offset (f : FlowH) (t : Nat) : Q := qadd f.thp (qmul f.eps (qint ((t : Int) - f.thpAt)))
/-- The source device a receive flow hears now: the one in use, or PEER_A. -/
def State.flowPeer (s : State) (i : Nat) : Nat := if (s.flow 1 i).state = 0 then (s.cn 1 i).peerA else (s.flow 1 i).source
/-- The UP links a receive flow could designate, its own group's first. -/
def State.flowLinks (s : State) (i : Nat) : List Nat :=
  let c := s.cn 1 i
  s.upLinks (arcGroup c.portA) ++ if c.dual then s.upLinks c.mateGroup else []
/-- The designated link of a receive flow (R268). (DEDUCED, log entry 60) -/
def State.desigOf (s : State) (i : Nat) : Option Nat := (s.flowLinks i).find? fun l => (s.tp l (s.flowPeer i)).valid
/-- TC_STALE and PEER_HOLD of a link (R269). -/
def State.tcLive (s : State) (t l : Nat) : State :=
  (s.live t (Reg.SYP_AL_LIVE_TC_STALE l) l ((s.timePeers l).any fun p => (s.tp l p).stale)).live t (Reg.SYP_AL_LIVE_PEER_HOLD l) l
    (decide (0x0102 ≤ s.alChosen l) && (s.flowList 1).any fun i => (s.flow 1 i).desig == some l &&
      (s.tp l (s.flowPeer i)).heard && (s.tp l (s.flowPeer i)).dp1 != 3)
/-- A flow's designated link is chosen anew, for the source it has now; ε follows a change of either (R197, R268), and PEER_HOLD of both
links. -/
def State.redesignate (s : State) (t i : Nat) : State :=
  let f := s.flow 1 i
  let n := s.desigOf i
  if n = f.desig ∧ (n = none ∨ f.desigPeer = s.flowPeer i) then s else
  let s1 := match n with
    | none => s.setFlow 1 i { f with desig := none }
    | some l =>
      let p := s.tp l (s.flowPeer i)
      s.setFlow 1 i { f with desig := some l, desigPeer := s.flowPeer i, thp := if f.thpSet then f.offset t else p.theta, thpAt := t, thpSet := true,
                             eps := p.eps, epsAt := t, epsOld := f.eps }
  (f.desig.toList ++ n.toList).foldl (fun z l => z.tcLive t l) s1

/-- TC_HOLD of a group (R269): every link some receive flow of it could designate is stale. (DEDUCED, log entry 60) -/
def State.tcHold (s : State) (g : Nat) : State :=
  s.rsetb (Reg.SYP_ARG_CFG_TC_HOLD g) ((s.flowList 1).any fun i => arcGroup (s.cn 1 i).portA == g && s.flowLinks i != [] &&
    (s.flowLinks i).all fun l => (s.tp l (s.flowPeer i)).stale)
/-- TC_HOLD of every group. -/
def State.tcHoldAll (s : State) : State := (List.range 20).foldl (fun z g => z.tcHold g) s
/-- The TC registers of a link show the peer TC_SEL names (R271); of one that is not in the time peer set, what the link still keeps, or
zero. (DESIGN CHOICE, log entry 158) -/
def State.tcShow (s : State) (l : Nat) : State :=
  let p := s.rget (Reg.SYP_AL_TC_TC_SEL l)
  let h := s.tp l p
  let here := (s.timePeers l).contains p
  let ps := qfloor (qdiv (qmul h.theta (qint 1000)) (qint 65536))
  (((s.rsetb (Reg.SYP_AL_TC_TC_VALID l) (here && h.valid)).setWord (Reg.SYP_AL_TC_OFS l) (toField ps 32)).setWord (Reg.SYP_AL_TC_EPS l)
    (toField (qfloor (qmul h.eps (qint (2 ^ 40)))) 32)).setWord (Reg.SYP_AL_TC_RTT l) (h.rtt / 65536)

/-- What follows a change of a group's links or flows; a flow that sends no cells starts again with FIRST set. -/
def State.arcFollow (s : State) (t g : Nat) : State :=
  let s0 := (s.arcShed t g).arcRestore t g (s.arcBroken g).length
  let s1 := ((s0.grpFlows g).eraseDups.filter s0.flowStopped).foldl (fun z i => z.setFlow 0 i { z.flow 0 i with first := 16 }) s0
  let s2 := (s1.flowList 1).foldl (fun z i => z.redesignate t i) s1
  let s3 := (groupLinks g).foldl (fun z l => (z.tcLive t l).tcShow l) s2.tcHoldAll
  (s3.grpMates g).foldl (fun z m => z.grpShow m) s3
/-- Arcade shortage follows a tributary that another trigger has restored: the groups its flow is sent on carry it again (R254). -/
def State.arcRejoin (s : State) (t i : Nat) : State :=
  ((s.cn 0 (s.flowOwner 0 i)).copies.map (·.1)).eraseDups.foldl (fun z g => z.arcFollow t g) s

/-! ### Link states (R239 to R246) -/

/-- Reasons for a link not being UP. -/
def arcReasons : List (String × Nat) :=
  [("none", 0), ("NO_SIGNAL", 1), ("FEC_LOCK", 2), ("DELINEATION", 3), ("NO_COMMON_VERSION", 4), ("NEG_TIMEOUT", 5), ("LOOPED", 6),
    ("PEER_RX_DOWN", 7), ("CELL_TIMEOUT", 8), ("NEGOTIATION_RECEIVED", 9), ("DISABLED", 10), ("DRAINED", 11)]

/-- LINK_DOWN of a link. -/
def State.alLive (s : State) (t l : Nat) : State :=
  s.live t (Reg.SYP_AL_LIVE_LINK_DOWN l) l (s.alEnabled l && !s.alUp l && s.rget (Reg.SYP_AL_STAT_REASON l) != 11)

/-- A link enters a state below UP with a reason; each bring-up advertises the record that stands when it begins (00 R25). -/
def State.alEnter (s : State) (t l st reason : Nat) : State :=
  let s1 := ((s.rset (Reg.SYP_AL_STAT_STATE l) st).rset (Reg.SYP_AL_STAT_REASON l) reason).rset (Reg.SYP_AL_STAT_CHOSEN l) 0
  let h := s1.alk l
  (s1.setAlk l { cdr := h.cdr, peers := h.peers, hold := h.hold, drainRx := h.drainRx, since := t, lastValid := h.lastValid,
                   adv := s1.wordN (Reg.SYP_AL_ADV l) }).alLive t l

/-- A link goes DOWN (R239): one that leaves UP, or was found looped (R243), waits for HOLDDOWN; one that heard DRAIN records
DRAINED (R246). -/
def State.alDown (s : State) (t l reason : Nat) : State :=
  if s.alState l = 0 then s else
  let wasUp := s.alUp l
  let r := if wasUp && (s.alk l).drainRx then 11 else reason
  let hold := if wasUp ∨ reason = 6 then t + us (500 * s.rget (Reg.SYP_AL_CFG_HOLDDOWN l)) else t
  let s1 := s.alEnter t l 0 r
  let s2 := s1.setAlk l { s1.alk l with hold := hold, drainRx := false }
  if wasUp then s2.arcFollow t (l / 8) else s2

/-- The reason a rising link shows: DRAINED until it is UP or lost anew, so that the outage raises no LINK_DOWN (R246). (DEDUCED, log
entry 62) -/
def State.risingReason (s : State) (l reason : Nat) : Nat := if s.rget (Reg.SYP_AL_STAT_REASON l) = 11 then 11 else reason

/-- LINK_FEC_LOCK (R231, R239): link l has 4 consecutive decodable codewords, `corr` of them with a symbol corrected.
(DESIGN CHOICE, log entry 63) -/
def linkFecLockEffect (t l corr : Nat) (s : State) : State :=
  let h := s.alk l
  if 160 ≤ l ∨ ¬ s.alEnabled l ∨ s.alState l ≠ 0 ∨ ¬ h.cdr ∨ t < h.hold then s else
  (s.cadd (Ctr.SYP_FEC_CW_CORR l) corr).alEnter t l 1 (s.risingReason l 3)

/-- LINK_FEC_LOCK_LOSS (R231): 8 consecutive uncorrectable codewords, `n` of them not counted before. -/
def linkFecLockLossEffect (t l n : Nat) (s : State) : State :=
  if 160 ≤ l ∨ s.alState l = 0 then s else
  ((s.cadd (Ctr.SYP_FEC_CW_UNCORR l) n).pulse t (Reg.SYP_AL_LIVE_FEC_UNCORR l) l).alDown t l 2

/-- LINK_DELINEATED (R239). -/
def linkDelineatedEffect (t l : Nat) (s : State) : State :=
  if 160 ≤ l ∨ s.alState l ≠ 1 then s else
  let s1 := s.alEnter t l 2 (s.risingReason l 0)
  s1.setAlk l { s1.alk l with lastValid := t }

/-- DELINEATION_LOSS (R239): 7 consecutive invalid cells at the delineated position. -/
def delineationLossEffect (t l : Nat) (s : State) : State :=
  if 160 ≤ l ∨ s.alState l < 2 ∨ (s.alk l).bad < 7 then s else
  ((s.cinc (Ctr.SYP_DELIN_LOSS l)).pulse t (Reg.SYP_AL_LIVE_DELIN_LOSS l) l).alDown t l 3

/-- CELL_TIMEOUT (R239): no valid cell for 2 µs. -/
def cellTimeoutEffect (t l : Nat) (s : State) : State :=
  if s.alUp l ∧ (s.alk l).lastValid + us 2 ≤ t then s.alDown t l 8 else s

/-- PEER_RX_DOWN (R239): 3 consecutive LINK_STATE cells report the peer's receiver not UP. -/
def peerRxDownEffect (t l : Nat) (s : State) : State :=
  if s.alUp l ∧ 3 ≤ (s.alk l).rxDown then s.alDown t l 7 else s

/-- NEG_TIMEOUT (R239, R243): 10 ms in NEGOTIATE without agreement. -/
def negTimeoutEffect (t l : Nat) (s : State) : State :=
  let h := s.alk l
  if s.alState l = 2 ∧ h.since + ms 10 ≤ t then s.alDown t l (if h.negDevid = some s.devid then 6 else 5) else s

/-- HOLDDOWN_END (R239): the link may seek lock again; what it lacks is its reason. -/
def holddownEndEffect (t l : Nat) (s : State) : State :=
  let h := s.alk l
  if s.alState l = 0 ∧ h.hold ≠ 0 ∧ h.hold ≤ t then s.setAlk l { h with hold := 0 } else s

/-- A link goes UP at the agreed version (R19, R240, R243). -/
def State.alGoUp (s : State) (t l v : Nat) : State :=
  let h := s.alk l
  let s1 := ((s.rset (Reg.SYP_AL_STAT_STATE l) 3).rset (Reg.SYP_AL_STAT_REASON l) 0).rset (Reg.SYP_AL_STAT_CHOSEN l) v
  let s2 := ((s1.rset (Reg.SYP_AL_PEER_PEER_DEVID l) (h.negDevid.getD 0)).rset (Reg.SYP_AL_PEER_PEER_LINK l) h.peerLink).rsetb
    (Reg.SYP_AL_PEER_PEER_PLANE l) h.peerPlane
  let s3 := s2.setAlk l { h with since := t, lastValid := t, rxDown := 0, drainRx := false, drainAt := none }
  (((s3.log t 0x6010 l v).live t (Reg.SYP_AL_LIVE_NO_COMMON_VERSION l) l false).alLive t l).arcFollow t (l / 8)

/-- No common version (R18, R20): the link goes DOWN, the event naming both choices. -/
def State.alNoVersion (s : State) (t l own peer : Nat) : State :=
  ((s.log t 0x6011 l (own + peer * 65536)).live t (Reg.SYP_AL_LIVE_NO_COMMON_VERSION l) l true).alDown t l 4

/-- The versions of a range record (R15), none where it is ignored (R16). -/
def rangeOf (r : Nat) : Option (Nat × Nat) :=
  if r % 256 ≠ 0 ∨ bits r 8 8 < bits r 16 8 then none else some (bits r 24 8 * 256 + bits r 16 8, bits r 24 8 * 256 + bits r 8 8)
/-- The highest version common to two records (R17). -/
def commonOf (a b : Nat) : Option Nat :=
  match rangeOf a, rangeOf b with
  | some (l, h), some (m, n) => if max l m ≤ min h n then some (min h n) else none
  | _, _ => none
/-- The chosen version of an own record and the records received (R16, R17). -/
def chooseVersion (own : Nat) (l : List Nat) : Option Nat :=
  l.foldl (fun m r => match commonOf own r with
    | none => m
    | some v => some (max v (m.getD 0))) none

/-- Both sides have sent ACK with their choices; one choice: the link goes UP; two choices that differ give none (R20, R240). -/
def State.negAgree (s : State) (t l : Nat) : State :=
  let h := s.alk l
  match h.choice, h.peerAck with
  | some v, some w => if ¬ h.acked then s else if v ≠ w then s.alNoVersion t l v w else s.alGoUp t l v
  | _, _ => s

/-- A terminal or analogue loopback permit of a link's lane group is held. -/
def State.loopPermit (s : State) (l : Nat) : Bool := s.permitHeld 0x0112 (l / 8) || s.permitHeld 0x0113 (l / 8)

/-- The range records of a negotiation cell (Table ARC-4). -/
def negRecords (c : List Byte) : List Nat := (List.range (min 8 (cellBe c 38 1 % 16))).map fun k => cellBe c (40 + 4 * k) 4

/-- A negotiation cell is taken in NEGOTIATE (R240, R243). -/
def State.negTake (s : State) (t l : Nat) (c : List Byte) : State :=
  let h := s.alk l
  let dev := cellBe c 32 2
  let h1 := { h with negDevid := some dev, peerLink := cellBe c 34 1, peerPlane := bit (cellBe c 35 1) 0 }
  if dev = s.devid ∧ ¬ s.loopPermit l then
    (s.setAlk l { h1 with choice := none, acked := false, peerAck := none }).rset (Reg.SYP_AL_STAT_REASON l) 6
  else
    let s0 := if s.rget (Reg.SYP_AL_STAT_REASON l) = 6 then s.rset (Reg.SYP_AL_STAT_REASON l) 0 else s
    match chooseVersion h.adv (negRecords c) with
    | none => (s0.setAlk l h1).alNoVersion t l 0 0
    | some v =>
      let ack := if bit (cellBe c 35 1) 1 then some (cellBe c 36 2) else none
      (s0.setAlk l { h1 with choice := some v, acked := h.acked && h.choice == some v, peerAck := ack }).negAgree t l

/-! ### Control cells (R244, R246) -/

/-- A control cell is taken on an UP link. -/
def State.controlTake (s : State) (l : Nat) (c : List Byte) : State :=
  let h := s.alk l
  match cellBe c 32 1 with
  | 1 => s.setAlk l { h with rxDown := if bit (cellBe c 33 1) 0 then 0 else h.rxDown + 1 }
  | 2 => if 0x0102 ≤ s.alChosen l then s.setAlk l { h with drainRx := true } else s
  | _ => s

/-! ### Time cells (R264 to R268) -/

/-- OFS_WIN, FREQ_N and OFS_SLEW of a link, as a new window takes them. -/
def State.tpWindow (s : State) (l : Nat) (h : TimePeer) : TimePeer :=
  { h with ex := [], win := 2 ^ s.rget (Reg.SYP_AL_TC_OFS_WIN_LOG2 l), freqN := s.rget (Reg.SYP_AL_TC_FREQ_N l),
           slew := s.rget (Reg.SYP_AL_TC_OFS_SLEW l) }

/-- The exchange that time cell n + 1 completes from cell n (R266): (t4, θ, d). -/
def exchangeOf (h : TimePeer) (fupTx fupSeq : Nat) (asym : Int) : Option (Nat × Q × Int) :=
  if ¬ h.heard ∨ fupSeq ≠ h.rxSeq then none else
  match h.txLog.find? fun p => p.1 = h.rxEchoSeq with
  | none => none
  | some (_, t1) =>
    let d : Int := ((h.rxAt : Int) - t1) - ((fupTx : Int) - h.rxEchoAt)
    let th := qsub ⟨((h.rxEchoAt : Int) - t1) + ((fupTx : Int) - h.rxAt), 2⟩ (qmk (asym * 65536) 1000)
    if 0 < d then some (h.rxAt, qmk th.num th.den, d) else none

/-- A time cell is taken (R265, R266). -/
def State.timeTake (s : State) (t l : Nat) (c : List Byte) : State :=
  let p := cellBe c 4 2
  let h0 := s.tp l p
  let h := if h0.ex = [] then s.tpWindow l h0 else h0
  let asym := sext (s.rget (Reg.SYP_AL_CFG_ASYM_PS l)) 16
  let ex := (exchangeOf h (ofDts96 (cellBe c 32 12)) (cellBe c 44 4) asym).toList
  let h1 := { h with ex := h.ex ++ ex, heard := true, rxAt := t, rxSeq := cellBe c 12 4, rxEchoAt := ofDts96 (cellBe c 48 12),
                     rxEchoSeq := cellBe c 60 4, dp1 := if 0x0102 ≤ s.alChosen l then cellBe c 64 1 % 8 else h.dp1, stale := false }
  (((s.cinc (Ctr.SYP_TIME_RX l)).setTp l p h1).tcHoldAll).tcLive t l

/-- The least-d exchange of a window, the earliest on equal d (R267). -/
def leastD (l : List (Nat × Q × Int)) : Option (Nat × Q × Int) :=
  l.foldl (fun m e => match m with
    | none => some e
    | some f => if e.2.2 < f.2.2 then some e else some f) none

/-- Θp of a flow moves toward a new Θ by at most `slew` ns (R268). -/
def FlowH.slewTo (f : FlowH) (t : Nat) (theta eps : Q) (slew : Nat) : FlowH :=
  let cur := f.offset t
  let dif := qsub theta cur
  let lim := qint (ns slew)
  let mv := if qlt lim dif then lim else if qlt dif ⟨-(ns slew : Nat), 1⟩ then ⟨-(ns slew : Nat), 1⟩ else dif
  { f with thp := qadd cur mv, thpAt := t, epsOld := if f.epsAt < t then f.eps else f.epsOld, eps := eps, epsAt := t }

/-- OFFSET_ESTIMATE (R267, R268): link l has OFS_WIN exchanges of peer p. -/
def offsetEstimateEffect (t l p : Nat) (s : State) : State :=
  let h := s.tp l p
  if h.ex.length < h.win then s else
  match leastD h.ex with
  | none => s
  | some (t4, th, d) =>
    let est0 := h.est ++ [(t4, th)]
    let est := est0.drop (est0.length - h.freqN)
    let pts := est.map fun e => ((e.1 : Int) - t4, e.2)
    let eps := if 4 ≤ est.length then (lsqSlope pts).getD h.eps else h.eps
    let h1 := s.tpWindow l { h with est := est, theta := th, eps := eps, rtt := d.toNat, valid := h.valid || decide (4 ≤ est.length) }
    let s1 := s.setTp l p h1
    let s2 := (s1.flowList 1).foldl (fun z i =>
      let f := z.flow 1 i
      if f.desig = some l ∧ f.desigPeer = p ∧ z.flowPeer i = p then z.setFlow 1 i (f.slewTo t th eps h.slew) else z.redesignate t i) s1
    (s2.tcLive t l).tcShow l

/-- TIME_CELL_STALE (R269): no time cell from p on link l for 8 ms. -/
def timeCellStaleEffect (t l p : Nat) (s : State) : State :=
  let h := s.tp l p
  if ¬ s.alUp l ∨ ¬ (s.timePeers l).contains p ∨ h.stale ∨ t < max h.rxAt (s.alk l).since + ms 8 then s else
  ((s.setTp l p { h with stale := true }).tcHoldAll).tcLive t l

/-! ### Data cells (R251, R256 to R263) -/

/-- The receive flow a data cell matches (R251): its owner. -/
def State.flowMatch (s : State) (src fl : Nat) : Option Nat :=
  (s.flowList 1).find? fun i =>
    let c := s.cn 1 i
    arcFlowId c.portA == fl && (c.peerA == src || (c.altValid && c.peerB == src))

/-- The full source DTS of a truncated TS (R256), in ticks. -/
def extendTs (ts arr : Nat) (thp : Q) : Nat :=
  let l := (qfloor (qdiv (qadd (qint arr) thp) (qint (sec 1)))).toNat
  let lo := ts / 2 ^ 48
  let s0 := (l + 65536 - 32768) - ((l + 65536 - 32768 + 65536 - lo) % 65536)
  let s1 := if s0 < l + 65536 - 32768 then s0 + 65536 else s0
  sec (s1 - 65536) + ts % 2 ^ 48

/-- A cell's playout instant is at or before t (R257). -/
def FlowH.due (f : FlowH) (src playoutUs t : Nat) : Bool := qle (qsub (qint (src + us playoutUs)) (f.offset t)) (qint t)

/-- A flow starts at a cell (R263): what it holds that lies outside the window from there is late. -/
def FlowH.startAt (f : FlowH) (reserved seq source : Nat) (alt : Bool) : FlowH :=
  let keep := f.held.filter fun h => decide (seqDiff h.seq seq < reserved) && h.seq != seq
  { f with state := 1, next := seq, held := keep, late := (f.late + (f.held.length - keep.length)) % 2 ^ 32, played := [], hist := [], alt := alt,
           source := source }

/-- A restart plays fill for every cell held and is logged (R263). The spec gives the event no code: it is free.
(DESIGN CHOICE, log entry 37; DEDUCED, log entry 62) -/
def State.flowRestart (s : State) (t i seq source : Nat) (alt : Bool) : State :=
  let f := s.flow 1 i
  let n := f.held.length
  let out := f.buf ++ (List.replicate (min n 2) (fillPayload (s.flowEth i))).flatten
  let f1 := ({ f with cells := (f.cells + n) % 2 ^ 32, missing := (f.missing + n) % 2 ^ 32, held := [],
                      buf := out.drop (out.length - 1984) } : FlowH).startAt (s.reservedCells i) seq source alt
  let (s1, code) := s.fresh 16
  ((s1.setFlow 1 i f1).log t code (arcFlowId (s.cn 1 i).portA) (f.source + source * 65536)).redesignate t i

/-- What becomes of a cell whose SEQ is judged against NEXT_SEQ (R262). -/
inductive SeqFate | hold | dup | late | outside
  deriving DecidableEq, Repr

/-- The ranges of R262. -/
def FlowH.fate (f : FlowH) (reserved seq : Nat) : SeqFate :=
  let ahead := seqDiff seq f.next
  if 2 ^ 32 - 1024 ≤ ahead then (if f.played.contains seq then .dup else .late)
  else if f.held.any fun h => h.seq == seq then .dup
  else if ahead < reserved then .hold else .outside

/-- A cell is late: counted (R258). -/
def State.flowLate (s : State) (i : Nat) : State := s.setFlow 1 i { s.flow 1 i with late := ((s.flow 1 i).late + 1) % 2 ^ 32 }
/-- A second copy: counted (R255, R262). -/
def State.flowDup (s : State) (i : Nat) : State := s.setFlow 1 i { s.flow 1 i with dup := ((s.flow 1 i).dup + 1) % 2 ^ 32 }

/-- A cell inside the window is held, unless it is late or its flow's store is full (R258, R259, R261). -/
def State.flowHold (s : State) (t l i seq ts : Nat) (payload : List Byte) : State :=
  let f := s.flow 1 i
  let src := extendTs ts t (f.offset t)
  if f.due src (s.cn 1 i).playout t then s.flowLate i
  else if s.reservedCells i ≤ f.held.length then s.cinc (Ctr.SYP_STORE_DROP l)
  else s.setFlow 1 i { f with held := f.held ++ [⟨seq, src, payload⟩] }

/-- A flow not ACTIVE starts at the first cell it accepts (R263). -/
def State.flowStart (s : State) (t l i seq ts source : Nat) (alt : Bool) (p : List Byte) : State :=
  let f := s.flow 1 i
  if f.due (extendTs ts t (f.offset t)) (s.cn 1 i).playout t then s.flowLate i
  else ((s.setFlow 1 i { f.startAt (s.reservedCells i) seq source alt with lastPlay := t }).redesignate t i).flowHold t l i seq ts p
/-- A data cell of flow i from device `source` (R262, R263). -/
def State.flowTake (s : State) (t l i source : Nat) (c : List Byte) : State :=
  let f := s.flow 1 i
  let e := s.cn 1 i
  let seq := cellBe c 12 4
  let ts := cellBe c 18 8
  let p := c.drop 32
  let alt := e.altValid && source == e.peerB && source != e.peerA
  if f.state = 0 then s.flowStart t l i seq ts source alt p
  else if f.state ≠ 1 then
    (match f.fate (s.reservedCells i) seq with
    | .dup => s.flowDup i
    | .late => s.flowLate i
    | _ => s.flowStart t l i seq ts source alt p)
  else if alt ∧ ¬ f.alt then (s.flowRestart t i seq source true).flowHold t l i seq ts p
  else match f.fate (s.reservedCells i) seq with
    | .dup => s.flowDup i
    | .late => s.flowLate i
    | .outside =>
      if bit (cellBe c 3 1) 0 then (s.flowRestart t i seq source alt).flowHold t l i seq ts p else s.flowLate i
    | .hold => s.flowHold t l i seq ts p

/-- A data cell for this device (R235, R251). -/
def State.dataTake (s : State) (t l : Nat) (c : List Byte) : State :=
  let source := cellBe c 4 2
  match s.flowMatch source (cellBe c 8 3 % 2 ^ 20) with
  | none => s.cinc (Ctr.SYP_UNKNOWN_FLOW l)
  | some i =>
    let e := s.cn 1 i
    if arcGroup e.portA ≠ l / 8 ∧ ¬ (e.dual ∧ e.mateGroup = l / 8) then s.cinc (Ctr.SYP_MISROUTE l)
    else if ¬ pcrcOk c ∧ e.pcrcDrop then s
    else s.flowTake t l i source c

/-- A valid cell on a delineated link, handled by its type (R235, R239, R242, R248). -/
def State.cellTake (s : State) (t l : Nat) (c : List Byte) : State :=
  let ty := cellType c
  if ty ≠ 1 ∧ ¬ pcrcOk c then s
  else if ty = 4 then
    let s1 := if s.alUp l then (s.alEnter t l 2 9).arcFollow t (l / 8) else s
    s1.negTake t l c
  else if ¬ s.alUp l then s
  else if cellBe c 0 2 ≠ s.alChosen l then s.cinc (Ctr.SYP_VER_DROP l)
  else if ty = 3 then s.controlTake l c
  else if cellBe c 6 2 ≠ s.devid then s.cinc (Ctr.SYP_MISDELIVERED l)
  else if ty = 2 then s.timeTake t l c
  else s.dataTake t l c

/-- CELL_RECEIVED (R234): the 1,024 bytes at the delineated position of link l, arrived at t; `corr` and `uncorr` codewords
with a symbol corrected and uncorrectable have ended on the link since the cell before. (DESIGN CHOICE, log entry 63) -/
def cellReceivedEffect (t l corr uncorr : Nat) (c : List Byte) (s : State) : State :=
  if 160 ≤ l ∨ s.alState l < 2 ∨ c.length ≠ 1024 then s else
  let s0 := (s.cadd (Ctr.SYP_FEC_CW_CORR l) corr).cadd (Ctr.SYP_FEC_CW_UNCORR l) uncorr
  let s1 := if uncorr = 0 then s0 else s0.pulse t (Reg.SYP_AL_LIVE_FEC_UNCORR l) l
  let h := s1.alk l
  if cellValid c then
    let s2 := (s1.setAlk l { h with bad := 0, lastValid := t }).cinc (Ctr.SYP_CELLS_RX l)
    let s3 := if pcrcOk c then s2 else (s2.cinc (Ctr.SYP_PCRC_ERR l)).pulse t (Reg.SYP_AL_LIVE_PCRC_ERR l) l
    s3.cellTake t l c
  else ((s1.setAlk l { h with bad := h.bad + 1 }).cinc (Ctr.SYP_HDR_ERR l)).pulse t (Reg.SYP_AL_LIVE_HDR_ERR l) l

/-! ### Playout (R257 to R260, R198) -/

/-- The held cell of the lowest SEQ at or after NEXT_SEQ. -/
def FlowH.head (f : FlowH) : Option HeldCell :=
  f.held.foldl (fun m c => match m with
    | none => some c
    | some b => if seqDiff c.seq f.next < seqDiff b.seq f.next then some c else some b) none

/-- A held cell is played, fill first for each absent number (R259). -/
def FlowH.play (f : FlowH) (t : Nat) (c : HeldCell) (eth : Bool) : FlowH :=
  let k := seqDiff c.seq f.next
  let next := (c.seq + 1) % 2 ^ 32
  let out := f.buf ++ ((List.replicate (min k 2) (fillPayload eth)).flatten ++ c.bytes)
  { f with cells := (f.cells + k + 1) % 2 ^ 32, missing := (f.missing + k) % 2 ^ 32, next := next,
           held := f.held.filter fun x => x.seq != c.seq,
           played := (c.seq :: f.played).filter fun q => decide (seqDiff next q ≤ 1024),
           hist := f.hist ++ [(c.seq, c.src)], lastPlay := t, state := 1, buf := out.drop (out.length - 1984) }

/-- The instances whose mapper or PHY a receive flow feeds. -/
def State.flowReaders (s : State) (i : Nat) : List Nat :=
  i :: (match s.partnerOf 1 i with
    | some p => if (s.cn 1 p).portA = (s.cn 1 i).portA then [p] else []
    | none => [])

/-- CELL_PLAYOUT (R259): the next held cell of receive flow i reaches its playout instant. -/
def cellPlayoutEffect (t i : Nat) (s : State) : State :=
  let f := s.flow 1 i
  match f.head with
  | none => s
  | some c =>
    if ¬ f.due c.src (s.cn 1 i).playout t then s else
    let s1 := s.setFlow 1 i ((s.bufNow t i).play t c (s.flowEth i))
    (s.flowReaders i).foldl (fun z j => z.setMp j 1 { z.mp j 1 with starved := false }) s1

/-- FLOW_STARVED (R198): no cell of flow i has been played for RATE_WIN. -/
def flowStarvedEffect (t i : Nat) (s : State) : State :=
  let f := s.flow 1 i
  if f.state ≠ 1 ∨ t < f.lastPlay + (s.odu i).rateWinTicks then s else
  (s.flowReaders i).foldl (fun z j => z.setMp j 1 { z.mp j 1 with starved := true }) (s.setFlow 1 i { f with state := 2 })

/-! ### Sending (R236 to R246, R252, R255, R264) -/

/-- A cell leaves on link l. -/
def State.sendCell (s : State) (l : Nat) (h : CellHdr) (p : List Byte) : State :=
  (s.cinc (Ctr.SYP_CELLS_TX l)).emit (.cell l (cellBytes h p))
/-- The header fields every cell of link l carries: the chosen version, or an open value while the link is not UP; PLANE from
ALP 1.1 (R242, R245). (DESIGN CHOICE, log entry 58) -/
def State.linkHdr (s : State) (t l type : Nat) : State × CellHdr :=
  let up := s.alUp l
  let (s1, v) := s.fresh 16
  let (s2, q) := s1.fresh 32
  ((s2 : State), { ver := if up then s.alChosen l else v, type := type, plane := decide (0x0101 ≤ s.alChosen l) && s.rbit (Reg.SYP_ARG_CFG_PLANE (l / 8)),
                   src := s.devid, dst := if up then s.rget (Reg.SYP_AL_PEER_PEER_DEVID l) else ((s.alk l).negDevid).getD 0,
                   seq := q, len := 0, ts := t })
/-- A control cell of a subtype (R244). (DESIGN CHOICE, log entry 58) -/
def State.sendControl (s : State) (t l : Nat) (p : List Byte) : State :=
  let (s1, h) := s.linkHdr t l 3
  s1.sendCell l { h with len := p.length } p

/-- The link that takes the next data cell of a group (R252, R245): after the last, UP and not draining, at ALP 1.1 or above
for a dual-plane flow. -/
def State.nextLink (s : State) (g : Nat) (dual : Bool) : Option Nat :=
  let k := tget (fun _ => 0) s.arc.last g
  ((List.range 8).map fun j => 8 * g + (k + j) % 8).find? fun l =>
    s.alUp l && (s.alk l).drainAt.isNone && (!dual || decide (0x0101 ≤ s.alChosen l))

/-- The instance whose signal a send flow carries now (R213). -/
def State.flowSource (s : State) (i : Nat) : Nat :=
  match s.switchPartner i with
  | some p => if (s.cn 0 p).sel then p else i
  | none => i
/-- One copy of a data cell leaves (R252, R255). -/
def State.sendCopy (s : State) (i : Nat) (dual first fill : Bool) (seq ts : Nat) (p : List Byte) (d : Nat × Nat × Nat) : State :=
  match s.nextLink d.1 dual with
  | none => s
  | some l =>
    let v11 := decide (0x0101 ≤ s.alChosen l)
    let s1 := { s with arc := { s.arc with last := tput (fun _ => 0) s.arc.last d.1 (l % 8 + 1) } }
    s1.sendCell l { ver := s.alChosen l, type := 1, plane := v11 && s.rbit (Reg.SYP_ARG_CFG_PLANE d.1), first := first,
                    fill := fill && v11, src := s.devid, dst := d.2.1, flow := d.2.2, seq := seq, len := s.flowLen i, ts := ts } p

/-- The interfaces that carry an ODU instance: those of the slices of its time slots, or of the ODU that carries it. -/
def State.oduLifs (s : State) (f i : Nat) : List Nat := (s.oduSlices f i).filterMap s.sliceLif
/-- The ingress DTS of the byte at a place within a frame of an interface (01 R31); an open value before the interface's byte period has
been measured, or for a frame whose stamp is no longer held. (DEDUCED, log entry 126) -/
def State.ingressDts (s : State) (pos : BytePos) : State × Nat :=
  match (s.stamp pos.port).byteAt pos.back pos.off with
  | some x => (s, x)
  | none => s.fresh 96
/-- The interface of a system lane group's Ethernet PHY turns the client it sends back in (Table LIN-4), and port p is its first lane. -/
def State.turnedClient (s : State) (i p : Nat) : Bool :=
  decide (128 ≤ p ∧ p < 288) && (s.cn 1 i).inForce == 2 ^ 28 + (p - 128) + 1 && (s.oduLifs chain i).any fun l => s.looped l 2 || s.looped l 3
/-- Port p brings the signal that send flow i carries: an interface that brings its ODU, of a Class A pair either path's; or, where the line
turns the device's own output in, the system port whose client goes into that ODU (01 R31). -/
def State.flowCarries (s : State) (i p : Nat) : Bool :=
  (if (s.cn 0 i).cls = 2 then s.flowInsts i else [s.flowSource i]).any fun j => (s.oduLifs chain j).contains p || s.turnedClient j p
/-- Entry i sends its flow's cells: while a change waits, the one that did before; else the owner of a flow. -/
def State.flowSender (s : State) (i : Nat) : Bool := (s.cn 0 i).sends != [] && ((s.cn 0 i).changed || s.flowOwner 0 i == i)
/-- What the selector of a Class A pair sends for flow i bears its output timing: the ingress DTS of a byte is that of the output frame, O(k) − A,
with its place in the frame (10 R320). -/
def State.pairDts (s : State) (i : Nat) (pos : BytePos) : Nat :=
  let h : PairH := tget (fun _ => {}) s.pair i
  let tf := s.framePeriod (oduKey i)
  ((h.lastO : Int) - h.aConst - (pos.back * tf : Nat) + (pos.off * tf / 15296 : Nat)).toNat
/-- The next data cell of send flow i (R236 to R238, R254): it is placed on the next link of each of its groups. Its payload's first byte
came at `pos`, on an interface that carries the instance. -/
def State.sendData (s : State) (l i : Nat) (pos : BytePos) (payload : List Byte) : State :=
  let c := s.cn 0 i
  let f := s.flow 0 i
  let src := s.flowSource i
  if ¬ s.flowSender i ∨ ¬ s.roleRuns ∨ s.flowStopped i ∨ (c.sends.findSome? fun d => s.nextLink d.1 c.sendsDual) ≠ some l then s else
  let classA := (s.mateOf 2 0 i).isSome
  let fill := if classA then (tget (fun _ => {}) s.pair i : PairH).aisOut else if s.flowEth i then s.localFault src else decide (s.replaced 0 src ≠ .none)
  let (s0, ts) := if classA then (s, s.pairDts i pos) else s.ingressDts pos
  let p := if fill then fillPayload (s.flowEth i) else payload.take (s.flowLen i)
  let s1 := c.sends.foldl (fun z d => z.sendCopy i c.sendsDual (f.first != 0) fill f.next ts p d) s0
  s1.setFlow 0 i { f with state := 1, next := (f.next + 1) % 2 ^ 32, cells := (f.cells + 1) % 2 ^ 32, first := f.first - 1 }

/-- CELL_SEND (R252): link l sends an IDLE or DRAIN control cell or a data cell. -/
def cellSendEffect (t l : Nat) (x : CellSrc) (s : State) : State :=
  if 160 ≤ l ∨ ¬ s.alEnabled l then s else
  match x with
  | .idle => s.sendControl t l [0]
  | .drain => if s.alUp l ∧ (s.alk l).drainAt.isSome ∧ 0x0102 ≤ s.alChosen l then s.sendControl t l [2] else s
  | .data i pos p => if s.alUp l ∧ (s.flowCarries i pos.port) then s.sendData l i pos p else s

/-- LINK_STATE_SEND (R244). -/
def linkStateSendEffect (t l : Nat) (s : State) : State :=
  if 160 ≤ l ∨ ¬ s.alEnabled l then s else s.sendControl t l [1, BitVec.ofNat 8 (b2n (s.alUp l))]

/-- NEGOTIATION_CELL_SEND (R240, R241). -/
def negotiationCellSendEffect (t l : Nat) (s : State) : State :=
  if 160 ≤ l ∨ s.alState l ≠ 2 then s else
  let h := s.alk l
  let ack := h.choice.isSome
  let p := beBytes 2 s.devid ++ beBytes 1 l ++ beBytes 1 (b2n (s.rbit (Reg.SYP_ARG_CFG_PLANE (l / 8))) + 2 * b2n ack)
    ++ beBytes 2 (h.choice.getD 0) ++ beBytes 1 1 ++ [0] ++ beBytes 4 h.adv
  let (s1, q) := s.fresh 32
  let s2 := s1.sendCell l { ver := 0x0100, type := 4, src := s.devid, dst := h.negDevid.getD 0, seq := q, len := 12, ts := t } p
  (s2.setAlk l { h with acked := h.acked || ack }).negAgree t l

/-- DP1's state as a time cell carries it. -/
def State.dp1State (s : State) : Nat := s.rget (Reg.TIM_DP_STAT_STATE 1)

/-- TIME_CELL_SEND (R264, R265): link l sends peer p its time cell, departing at t, no sooner than 1 ms − 10 µs after the last. Before any was
sent or heard, FUP_SEQ is the number before the first SEQ, and FUP_TX, ECHO_RX and ECHO_SEQ are zero. (DESIGN CHOICE, log entry 157) -/
def timeCellSendEffect (t l p : Nat) (s : State) : State :=
  let h := s.tp l p
  if ¬ s.alUp l ∨ ¬ (s.timePeers l).contains p ∨ (h.txLog ≠ [] ∧ t < h.txLast + us 990) then s else
  let v12 := decide (0x0102 ≤ s.alChosen l)
  let b := beBytes 12 (dts96 h.txLast) ++ beBytes 4 ((h.txSeq + 2 ^ 32 - 1) % 2 ^ 32) ++ beBytes 12 (dts96 h.rxAt) ++ beBytes 4 h.rxSeq
    ++ beBytes 1 (if v12 then s.dp1State else 0)
  let s1 := s.sendCell l { ver := s.alChosen l, type := 2, plane := decide (0x0101 ≤ s.alChosen l) && s.rbit (Reg.SYP_ARG_CFG_PLANE (l / 8)),
                           src := s.devid, dst := p, seq := h.txSeq, len := 33, ts := t } b
  s1.setTp l p { h with txSeq := (h.txSeq + 1) % 2 ^ 32, txLast := t, txLog := (h.txLog ++ [(h.txSeq, t)]).drop ((h.txLog.length + 1) - 8) }

/-- DRAIN_END (R246): 100 µs after the drain began. -/
def drainEndEffect (t l : Nat) (s : State) : State :=
  match (s.alk l).drainAt with
  | some a => if s.alUp l ∧ a + us 100 ≤ t then s.alDown t l 11 else s
  | none => s

/-! ### The flow record (Table ARC-6) -/

/-- The record of flow (d, i) as bytes, little-endian. -/
def State.flowRecord (s : State) (d i : Nat) : Nat :=
  let c := s.cn d i
  if ¬ c.arcade then 0 else
  let o := s.flowOwner d i
  let f := s.flow d o
  let rx := decide (d = 1)
  1 + 2 * b2n (s.flowEth i) + 4 * b2n c.dual + 8 * b2n (rx && c.pcrcDrop) + 16 * b2n (rx && c.altValid)
    + atByte 1 (if d = 0 ∧ s.flowStopped o then 3 else f.state) + atByte 2 (if c.dual then c.mateGroup else 0) + atByte 4 c.peerA + atByte 6 c.peerB
    + (if rx then atByte 8 c.playout + atByte 10 (s.reservedCells i) + atByte 20 f.late + atByte 24 f.missing + atByte 28 f.dup else 0)
    + atByte 12 f.next + atByte 16 f.cells

/-- LINK_FEC_LOCK (R231). -/
def execLinkFecLock (t l corr : Nat) : State → Host.Outcome State Fault Refusal := event t (linkFecLockEffect t l corr)
/-- LINK_FEC_LOCK_LOSS (R231). -/
def execLinkFecLockLoss (t l n : Nat) : State → Host.Outcome State Fault Refusal := event t (linkFecLockLossEffect t l n)
/-- LINK_DELINEATED (R239). -/
def execLinkDelineated (t l : Nat) : State → Host.Outcome State Fault Refusal := event t (linkDelineatedEffect t l)
/-- DELINEATION_LOSS (R239). -/
def execDelineationLoss (t l : Nat) : State → Host.Outcome State Fault Refusal := event t (delineationLossEffect t l)
/-- CELL_TIMEOUT (R239). -/
def execCellTimeout (t l : Nat) : State → Host.Outcome State Fault Refusal := event t (cellTimeoutEffect t l)
/-- PEER_RX_DOWN (R239). -/
def execPeerRxDown (t l : Nat) : State → Host.Outcome State Fault Refusal := event t (peerRxDownEffect t l)
/-- NEG_TIMEOUT (R239). -/
def execNegTimeout (t l : Nat) : State → Host.Outcome State Fault Refusal := event t (negTimeoutEffect t l)
/-- HOLDDOWN_END (R239). -/
def execHolddownEnd (t l : Nat) : State → Host.Outcome State Fault Refusal := event t (holddownEndEffect t l)
/-- CELL_RECEIVED (R234). -/
def execCellReceived (t l corr uncorr : Nat) (c : List Byte) : State → Host.Outcome State Fault Refusal :=
  event t (cellReceivedEffect t l corr uncorr c)
/-- OFFSET_ESTIMATE (R267). -/
def execOffsetEstimate (t l p : Nat) : State → Host.Outcome State Fault Refusal := event t (offsetEstimateEffect t l p)
/-- TIME_CELL_STALE (R269). -/
def execTimeCellStale (t l p : Nat) : State → Host.Outcome State Fault Refusal := event t (timeCellStaleEffect t l p)
/-- CELL_SEND (R252). -/
def execCellSend (t l : Nat) (x : CellSrc) : State → Host.Outcome State Fault Refusal := event t (cellSendEffect t l x)
/-- TIME_CELL_SEND (R264). -/
def execTimeCellSend (t l p : Nat) : State → Host.Outcome State Fault Refusal := event t (timeCellSendEffect t l p)
/-- LINK_STATE_SEND (R244). -/
def execLinkStateSend (t l : Nat) : State → Host.Outcome State Fault Refusal := event t (linkStateSendEffect t l)
/-- NEGOTIATION_CELL_SEND (R240). -/
def execNegotiationCellSend (t l : Nat) : State → Host.Outcome State Fault Refusal := event t (negotiationCellSendEffect t l)
/-- DRAIN_END (R246). -/
def execDrainEnd (t l : Nat) : State → Host.Outcome State Fault Refusal := event t (drainEndEffect t l)
/-- CELL_PLAYOUT (R259). -/
def execCellPlayout (t i : Nat) : State → Host.Outcome State Fault Refusal := event t (cellPlayoutEffect t i)
/-- FLOW_STARVED (R198). -/
def execFlowStarved (t i : Nat) : State → Host.Outcome State Fault Refusal := event t (flowStarvedEffect t i)

end Sys2Proof.Machine
end

