-- ==== Sys2Proof/Machine/Cvu.lean ====
section
/-! DEFINITION. Check-value units (15 R449 to R460). -/
namespace Sys2Proof.Machine
open Sys2Proof

/-- A unit. -/
def State.cv (s : State) (n : Nat) : CvuH := tget (fun _ => {}) s.cvu n
/-- A unit replaced. -/
def State.setCv (s : State) (n : Nat) (h : CvuH) : State := { s with cvu := tput (fun _ => {}) s.cvu n h }
/-- A 64-bit value register, low word first. -/
def State.val64 (s : State) (a : Nat) : Nat := s.wordN a + s.wordN (a + 4) * 2 ^ 32
/-- A 64-bit value register written. -/
def State.setVal64 (s : State) (a v : Nat) : State := (s.setWord a (bits v 0 32)).setWord (a + 4) (bits v 32 32)

/-- W of a unit (R451). -/
def State.cvW (s : State) (n : Nat) : Nat := s.rget (Reg.CVU_CFG_WIDTH_M1 n) + 1
/-- A unit's parameters. -/
def State.cvParam (s : State) (n : Nat) : CrcP :=
  ⟨s.cvW n, s.val64 (Reg.CVU_POLY_LO n), s.val64 (Reg.CVU_INIT_LO n), s.rbit (Reg.CVU_CFG_REFIN n), s.rbit (Reg.CVU_CFG_REFOUT n),
    s.val64 (Reg.CVU_XOROUT_LO n)⟩
/-- The guard of an expected value of w bits (R455). -/
def cvGuard (w v : Nat) : Nat := (leBytes 8 (v % 2 ^ w)).foldl (fun a b => a ^^^ b.toNat) 0xA5

/-- FIFO_LEVEL and FIFO_EMPTY follow the FIFO and EXP_SRC. -/
def State.cvFifo (s : State) (t n : Nat) : State :=
  let l := (s.cv n).fifo.length
  (s.rset ⟨Reg.CVU_FIFO_LEVEL n, 0, 5⟩ l).live t (Reg.CVU_LIVE_FIFO_EMPTY n) n
    (decide (s.rget (Reg.CVU_CFG_EXP_SRC n) = 2 ∧ l = 0))

/-- What a check unit is compared with (R454): nothing; no expectation present; a value with its guard, if it has one, and the
bytes computed over. -/
inductive CvExp
  | none
  | missing
  | value (v : Nat) (guard : Option Nat)
  deriving DecidableEq, Repr

/-- The length of a unit's trailing field with its guard. -/
def State.cvTrail (s : State) (n : Nat) : Nat := (s.cvW n + 7) / 8 + b2n (s.rbit (Reg.CVU_CFG_TRAIL_GUARD n))

/-- The expected value at the end of a check unit at t; a commit or a push at t itself is not seen (R457). -/
def State.cvExpect (s : State) (t n : Nat) (l : List Byte) : CvExp :=
  let h := s.cv n
  match s.rget (Reg.CVU_CFG_EXP_SRC n) with
  | 0 => if h.expAt = some t then .value h.expOld (some h.guardOld) else .value h.exp (some h.guard)
  | 1 =>
    let k := s.cvTrail n
    if l.length ≤ k then .missing else
    let f := (l.drop (l.length - k)).take ((s.cvW n + 7) / 8)
    .value (if s.rbit (Reg.CVU_CFG_TRAIL_LE n) then ofLe f else ofBe f)
      (if s.rbit (Reg.CVU_CFG_TRAIL_GUARD n) then l.getLast?.map (·.toNat) else Option.none)
  | 2 => (match h.fifo with
    | [] => .missing
    | (v, g, p) :: _ => if p = t then .missing else .value v (some g))
  | _ => .none

/-- The bytes a check unit's value is computed over. -/
def State.cvData (s : State) (n : Nat) (l : List Byte) : List Byte :=
  if s.rget (Reg.CVU_CFG_EXP_SRC n) = 1 then l.take (l.length - s.cvTrail n) else l

/-- The FIFO head is consumed (R456). -/
def State.cvConsume (s : State) (t n : Nat) : State :=
  if s.rget (Reg.CVU_CFG_EXP_SRC n) = 2 then
    (s.setCv n { s.cv n with fifo := (s.cv n).fifo.drop 1 }).cvFifo t n
  else s

/-- A MISMATCH: the first since MISMATCH was cleared is captured, and FREEZE stops the unit (R456, R458). (DEDUCED, log entry 74) -/
def State.cvMismatch (s : State) (t n res v idx : Nat) : State :=
  let s1 := if bit (s.wordN (Reg.CVU_STATUS n)) 0 then s else
    (((s.setVal64 (Reg.CVU_MM_RESULT_LO n) res).setVal64 (Reg.CVU_MM_EXP_LO n) v).setDtsWords (Reg.CVU_MM_DTS0 n) t).setWord
      (Reg.CVU_MM_INDEX n) idx
  let s2 := (s1.cinc (Ctr.CVU_MISMATCHES n)).pulse t (Reg.CVU_LIVE_MISMATCH n) n
  if s2.rbit (Reg.CVU_CFG_FREEZE n) then (s2.rsetb (Reg.CVU_CFG_EN n) false).live t (Reg.CVU_LIVE_FROZEN n) n true else s2

/-- The outcome of a check unit (R456). -/
def State.cvOutcome (s : State) (t n res idx : Nat) (e : CvExp) : State :=
  match e with
  | .none => s
  | .missing => (s.cinc (Ctr.CVU_NO_EXPECT n)).pulse t (Reg.CVU_LIVE_NO_EXPECT n) n
  | .value v g =>
    let x := v % 2 ^ s.cvW n
    if g.any fun y => y != cvGuard (s.cvW n) v then
      ((s.cinc (Ctr.CVU_EXPECT_CORRUPT n)).pulse t (Reg.CVU_LIVE_EXPECT_CORRUPT n) n).cvConsume t n
    else if res = x then (s.cinc (Ctr.CVU_MATCHES n)).cvConsume t n
    else (s.cvMismatch t n res x idx).cvConsume t n

/-- The length of unit n's check units where the spec fixes it (R452, Table CVU-2): a block, a 256-byte unit of the Underpass, an ODU
frame, a port frame, a record. -/
def State.cvUnitLen (s : State) (n : Nat) : Option Nat :=
  let tap := s.rget (Reg.CVU_TAP_TAP n)
  let fr := s.rget (Reg.CVU_CFG_FRAMING n)
  if fr = 0 then some (s.rget (Reg.CVU_CFG_BLK_LEN_M1 n) + 1)
  else if tap = 2 then some 256
  else if tap = 4 ∨ tap = 5 then some 15296
  else if tap = 6 then
    let p := s.rget (Reg.CVU_TAP_SEL n) % 8
    some ((if fr = 2 then s.rget (Reg.OAP_CFG_SLOTS_M1 p) else if s.rbit (Reg.CVU_TAP_DIR n) then s.rget (Reg.OAP_STAT_K_INS p)
      else s.rget (Reg.OAP_STAT_K_DROP p)) + 1)
  else none
/-- CHECK_UNIT_END (R456): a check unit of unit n, the given bytes in stream order, ends. -/
def checkUnitEndEffect (t n : Nat) (l : List Byte) (s : State) : State :=
  if 32 ≤ n ∨ ¬ s.domOn 98 ∨ ¬ s.rbit (Reg.CVU_CFG_EN n) ∨ (s.cvUnitLen n).any (fun x => l.length != x) then s else
  let h := s.cv n
  let res := crc (s.cvParam n) (s.cvData n l)
  let e := s.cvExpect t n l
  let s1 := (s.setCv n { h with index := (h.index + 1) % 2 ^ 32 }).cinc (Ctr.CVU_UNITS n)
  (s1.setVal64 (Reg.CVU_RESULT_LO n) res).cvOutcome t n res h.index e

/-! ### Register writes (R453, R457 to R460) -/

/-- A tap allows a framing (Table CVU-2). -/
def tapAllows (tap fr : Nat) : Bool :=
  if 8 ≤ tap ∨ 3 ≤ fr then false
  else if fr = 0 then true
  else if fr = 1 then tap != 4 && tap != 5
  else tap == 4 || tap == 5 || tap == 6

/-- Why a write of v to CVU_CFG of unit n is refused (R453, R460), the tap being what the same access leaves in n: while EN is set, only a
write that clears it is taken. (DEDUCED, log entry 74) -/
def State.cvuCfgFault (s n : State) (u v : Nat) : Option (Option Nat) :=
  if s.rbit (Reg.CVU_CFG_EN u) ∧ bit v 0 then some (some 4)
  else if ¬ tapAllows (n.rget (Reg.CVU_TAP_TAP u)) (bits v 9 2) then some (some 6) else none
/-- Why a write of v to CVU_TAP of unit u is refused (R453, R460). (DEDUCED, log entry 74) -/
def State.cvuTapFault (s n : State) (u v : Nat) : Option (Option Nat) :=
  if s.rbit (Reg.CVU_CFG_EN u) then some (some 4)
  else if ¬ tapAllows (v % 16) (n.rget (Reg.CVU_CFG_FRAMING u)) then some (some 6) else none
/-- A write of v to CVU_CFG of unit u that is taken (R460). -/
def State.cvuCfgStore (s : State) (t u v : Nat) : State :=
  let s1 := (s.setWord (Reg.CVU_CFG u) v).cvFifo t u
  if bit v 0 then (s1.setCv u { s1.cv u with index := 0 }).live t (Reg.CVU_LIVE_FROZEN u) u false else s1

/-- A write of v to CVU_EXP_GUARD of unit n (R457): the staged value is committed with its guard. -/
def State.cvuExpGuard (s : State) (t n v : Nat) : State :=
  let h := s.cv n
  let s1 := s.setWord (Reg.CVU_EXP_GUARD n) (v % 256)
  s1.setCv n { h with exp := s.val64 (Reg.CVU_EXP_LO n), guard := v % 256, expAt := some t,
                      expOld := if h.expAt = some t then h.expOld else h.exp,
                      guardOld := if h.expAt = some t then h.guardOld else h.guard }

/-- A write of v to CVU_FIFO_GUARD of unit n (R457): an entry is pushed; one that meets a full FIFO is discarded and counted. -/
def State.cvuFifoGuard (s : State) (t n v : Nat) : State :=
  let h := s.cv n
  if 16 ≤ h.fifo.length then s.cinc (Ctr.CVU_FIFO_OVF n)
  else (s.setCv n { h with fifo := h.fifo ++ [(s.val64 (Reg.CVU_FIFO_LO n), v % 256, t)] }).cvFifo t n

/-- TEST_GO (R459): unit n runs "123456789" while EN is clear. -/
def testGoEffect (_t n : Nat) (s : State) : State :=
  if 32 ≤ n ∨ ¬ s.domOn 98 ∨ s.rbit (Reg.CVU_CFG_EN n) then s else
  s.setVal64 (Reg.CVU_CHECK_LO n) (crc (s.cvParam n) [0x31, 0x32, 0x33, 0x34, 0x35, 0x36, 0x37, 0x38, 0x39])

/-- CVU_FIFO_EMPTY_CMD (R457): unit n's FIFO is emptied. -/
def cvuFifoEmptyCmdEffect (t n : Nat) (s : State) : State :=
  if 32 ≤ n ∨ ¬ s.domOn 98 then s else (s.setCv n { s.cv n with fifo := [] }).cvFifo t n

/-- CHECK_UNIT_END (R456). -/
def execCheckUnitEnd (t n : Nat) (l : List Byte) : State → Host.Outcome State Fault Refusal := event t (checkUnitEndEffect t n l)
/-- TEST_GO (R459). -/
def execTestGo (t n : Nat) : State → Host.Outcome State Fault Refusal := event t (testGoEffect t n)
/-- CVU_FIFO_EMPTY_CMD (R457). -/
def execCvuFifoEmptyCmd (t n : Nat) : State → Host.Outcome State Fault Refusal := event t (cvuFifoEmptyCmdEffect t n)
end Sys2Proof.Machine
end

