-- ==== Sys2Proof/Machine/Protect.lean ====
section
/-! DEFINITION. Protection (10 R298 to R332): pairs, the ring of the hitless selector, and the timers of APS_LIN. -/
namespace Sys2Proof.Machine
open Sys2Proof

/-! ### Class A pairs (R298, R300, R332) -/

/-- A pair. -/
def State.pr (s : State) (d x : Nat) : PairH := tget (fun _ => {}) s.pair (d * 20480 + x)
/-- A pair replaced. -/
def State.setPr (s : State) (d x : Nat) (h : PairH) : State := { s with pair := tput (fun _ => {}) s.pair (d * 20480 + x) h }
/-- X names a Class A pair with a selector in direction d (R298): receive partners, or transmit partners that name different Arcade flows (R300). -/
def State.isPair (s : State) (d x : Nat) : Bool :=
  (s.mateOf 2 d x).any fun p =>
    let a := (s.cn d x).portA
    let b := (s.cn d p).portA
    decide (x < p) && (d == 0 || (arcPort a && arcPort b && a != b))
/-- X of the pair that an instance may belong to in a direction. -/
def State.pairX (s : State) (d i : Nat) : Nat := match s.partnerOf d i with | some p => min i p | none => i
/-- The instance of a path: X, or Y. -/
def State.pathInst (s : State) (d x : Nat) (p : Bool) : Nat := if p then (s.cn d x).partner else x
/-- A path: X false, Y true. -/
def PairH.path (h : PairH) (p : Bool) : PathH := if p then h.y else h.x
/-- A path replaced. -/
def PairH.setPath (h : PairH) (p : Bool) (v : PathH) : PairH := if p then { h with y := v } else { h with x := v }
/-- Tf of a pair, in ticks. -/
def State.tf (s : State) (x : Nat) : Nat := frameTicks (s.odu x).bps100
/-- DD_MAX of a pair, in ticks. -/
def State.ddMax (s : State) (d x : Nat) : Nat := us (100 * (s.cn d x).ddMax)
/-- ⌈DD_MAX ÷ Tf⌉ + 4: slots of the ring, and signatures kept (R294, R322). -/
def State.ringSlots (s : State) (d x : Nat) : Nat := let f := s.tf x; if f = 0 then 4 else (s.ddMax d x + f - 1) / f + 4

/-! ### The ring in the Underpass (09 R273, R293 to R296) -/

/-- The pseudo-channel of a page. -/
def pcOf (p : Nat) : Nat := p / 384
/-- What a page carries. -/
def State.page (s : State) (p : Nat) : PageH := tget (fun _ => {}) s.und.pages p
/-- A page replaced. -/
def State.setPage (s : State) (p : Nat) (h : PageH) : State :=
  { s with und := { s.und with pages := tput (fun _ => {}) s.und.pages p h } }
/-- The byte address of a burst. -/
def burstAddr (page unit burst : Nat) : Nat := page * 2097152 + unit * 256 + burst * 64
/-- A burst is written: its unit can be read again (R280, R281). -/
def State.storeBurst (s : State) (page unit burst : Nat) (b : List Byte) : State :=
  let h := s.page page
  let s1 := s.setPage page { h with poison := h.poison.filter fun u => u != unit,
                                    fresh := if h.lost ∧ ¬ h.fresh.contains unit then unit :: h.fresh else h.fresh }
  { s1 with und := { s1.und with mem := mputs s1.und.mem (burstAddr page unit burst) (b.take 64) } }
/-- The page of a region that holds its unit u, and the unit within it: units go round the pages, each at the next free offset (R273). -/
def unitAt (pages : List Nat) (u : Nat) : Option (Nat × Nat) := (pages[u % pages.length]?).map fun p => (p, u / pages.length)
/-- The first 60 bytes of the descriptor of a frame slot (Table UND-4), the low byte of each field first, as the spec's other layouts of
little-endian reads have them; the table gives no order. (DESIGN CHOICE, log entry 160) -/
def SelFrame.descriptor (f : SelFrame) : List Byte :=
  leBytes 12 (dts96 f.fdts) ++ leBytes 1 f.mfas ++ leBytes 1 f.omfi ++ leBytes 1 (b2n f.hwSf + 2 * b2n f.errored) ++ leBytes 1 0
    ++ leBytes 4 f.seq ++ leBytes 40 0
/-- The data of a burst, for its user. -/
def State.burst (s : State) (page unit burst : Nat) : List Byte :=
  (List.range 64).map fun k => mget s.und.mem (burstAddr page unit burst + k)
/-- The slot of a ring that holds the frame of a FRAME_SEQ. -/
def State.ringSlot (s : State) (d x seq : Nat) : Nat := seq % s.ringSlots d x
/-- The page and unit of burst j (0 to 239) of the slot of a frame in the ring of pair (d, X) (R273, R293). -/
def State.slotBurst (s : State) (d x seq j : Nat) : Option (Nat × Nat) := unitAt (s.rsv d x).pages (60 * s.ringSlot d x seq + j / 4)
/-- Burst j of a frame's slot is written. -/
def State.storeSlot (s : State) (d x seq j : Nat) (b : List Byte) : State :=
  match s.slotBurst d x seq j with
  | none => s
  | some (p, u) => s.storeBurst p u (j % 4) b
/-- The first n bursts of a frame's slot, as held. -/
def State.slotBytes (s : State) (d x seq n : Nat) : List Byte :=
  (List.range n).flatMap fun j => match s.slotBurst d x seq j with
    | none => []
    | some (p, u) => s.burst p u (j % 4)
/-- The 15,296 bytes of an ODU frame are written to the ring's slot of its FRAME_SEQ, burst by burst (R293, 10 R318). -/
def State.storeFrame (s : State) (d x seq : Nat) (b : List Byte) : State :=
  (List.range ((min 15296 b.length + 63) / 64)).foldl (fun z j => z.storeSlot d x seq j ((b.drop (64 * j)).take 64)) s
/-- A complete descriptor is written behind its frame, in the ring's slot of its FRAME_SEQ (R293, 10 R318), with the CRC-32 of the slot's bytes
0 to 15,355 (Table UND-4). -/
def State.storeDescriptor (s : State) (d x : Nat) (f : SelFrame) : State :=
  s.storeSlot d x f.seq 239 (f.descriptor ++ leBytes 4 (crc crc32 (s.slotBytes d x f.seq 239 ++ f.descriptor)))
/-- A slot fails its FCRC (R296). -/
def State.fcrcFails (s : State) (d x seq : Nat) : Bool :=
  let b := s.slotBytes d x seq 240
  ofLe (b.drop 15356) != crc crc32 (b.take 15356)

/-- STATE of a pair changes (CHG_NS, CHG_S). -/
def PairH.to (h : PairH) (t st : Nat) : PairH := if h.state = st then h else { h with state := st, chg := t }

/-- A frame of itself fit for the output. -/
def SelFrame.usable (f : SelFrame) : Bool := !f.hwSf && f.stat != 5 && f.stat != 6 && f.stat != 7

/-- |a − b| is at most n. -/
def within (a b : Int) (n : Nat) : Bool := decide ((a - b).natAbs ≤ n)
/-- A frame of a path that arrived within ±Tf ÷ 2 of an instant. -/
def PathH.near (h : PathH) (a : Int) (tf : Nat) : Option SelFrame := h.frames.find? fun f => within f.arr a (tf / 2)
/-- Δ added for Y seen from X, subtracted for X seen from Y. -/
def PairH.shift (h : PairH) (p : Bool) (a : Int) : Option Int := h.delta.map fun d => if p then a - d else a + d
/-- The arrival expected of path p's frame for the position whose anchor frame arrives at a (R319). -/
def PairH.expect (h : PairH) (p : Bool) (a : Int) : Option Int := if p = h.anchor then some a else h.shift h.anchor a
/-- Path p's frame for output instant o. -/
def PairH.frameAt (h : PairH) (p : Bool) (o tf : Nat) : Option SelFrame :=
  if ¬ (h.path p).aligned then none else
  match h.expect p ((o : Int) - (4 * tf : Nat)) with
  | some a => (h.path p).near a tf
  | none => none

/-- O(k) of the next frame (R319). -/
def PairH.nextO (h : PairH) (tf : Nat) : Nat :=
  let a : Int := (h.lastO : Int) + tf - (4 * tf : Nat)
  match (if (h.path h.anchor).aligned then (h.path h.anchor).near a tf else none) with
  | some f => f.arr + 4 * tf
  | none =>
    let q := !h.anchor
    match h.expect q a with
    | some e => (match (if (h.path q).aligned then (h.path q).near e tf else none) with
      | some f => ((h.shift q f.arr).getD (a)).toNat + 4 * tf
      | none => h.lastO + tf)
    | none => h.lastO + tf

/-- The pair record (Table PRT-8). -/
def State.pairRecord (s : State) (d x : Nat) : Nat :=
  if ¬ s.isPair d x then 0 else
  let h := s.pr d x
  h.state + 4 * b2n h.sel + 8 * b2n h.anchor + 16 * b2n h.ring + 32 * b2n h.unbuf + atByte 1 (s.cn d x).ddMax + atByte 2 h.relocks
    + atByte 4 (toField (h.delta.getD 0 / 65536) 32) + atByte 8 h.switches + atByte 12 h.ais + atByte 16 h.gap + atByte 20 h.skipped
    + atByte 24 (nsOf h.chg) + atByte 28 (secOf h.chg % 65536)

/-! ### APS_LIN (R304 to R316) -/

/-- Context c runs APS_LIN for the Class B group of receive instance P with partner W. -/
def State.apsGroup (s : State) (c : Nat) : Option (Nat × Nat) :=
  let h := s.cx c
  if h.bind.routine ≠ 0x20 ∨ h.state ≠ 1 then none
  else (s.mateOf 1 0 (s.instanceOf h.entry0)).map fun w => (s.instanceOf h.entry0, w)
/-- An entry of window slot k of a context. -/
def CtxH.slotEntry (h : CtxH) (k : Nat) : Nat := (h.bind.tt.getD k (0, 0)).1
/-- A parameter byte of APS_LIN (Table PRT-2). -/
def CtxH.apsByte (h : CtxH) (k : Nat) : Nat := (h.bind.param.getD k 0).toNat
/-- Local signal fail of a path whose PM entry is pm and TCM entry tc (R309, R310): `last` is the offset of its recorded
HW_DTS_NS in the slot-0 entry, which no release before the first has recorded. -/
def State.apsSf (s : State) (h : CtxH) (pm tc last : Nat) (first : Bool) : Bool :=
  let hw := s.trailByte pm 0x88
  let mode := bits (h.apsByte 64) 3 2
  bit hw 0 || bit hw 1 || bit hw 2 || bit hw 5 || (!first && s.trailGet pm 0x8C 4 != s.trailGet h.entry0 last 4)
    || (mode == 1 && bit (s.trailByte pm 0x89) 2) || (mode == 2 && bit (s.trailByte tc 0x89) 2)
/-- Local signal degrade of a path (R309). -/
def State.apsSd (s : State) (h : CtxH) (pm tc : Nat) : Bool :=
  let mode := bits (h.apsByte 64) 3 2
  bit (h.apsByte 64) 5 && ((mode == 1 && bit (s.trailByte pm 0x89) 3) || (mode == 2 && bit (s.trailByte tc 0x89) 3))
/-- The local requests that are present: SF-P, SF-W, SD-P, SD-W. -/
def State.apsPresent (s : State) (h : CtxH) (first : Bool) : List Bool :=
  let p := h.slotEntry 0
  let w := h.slotEntry 1
  [s.apsSf h p (h.slotEntry 3) 0xFC first, s.apsSf h w (h.slotEntry 2) 0xF8 first, s.apsSd h p (h.slotEntry 3), s.apsSd h w (h.slotEntry 2)]
/-- Where APS_LIN keeps the nanosecond at which local request j appeared, plus one; and where FOP_NR's began. (DESIGN CHOICE, log entry
133) -/
def apsStart (j : Nat) : Nat := 0x40 + 8 * j
/-- The scratch of FOP_NR's beginning. -/
def apsFop : Nat := 0x78
/-- The rank of an external request code, and the path it selects (Table PRT-3): none where the selection does not change. -/
def extRank (code : Nat) : Nat × Option Bool :=
  match code with
  | 1 => (11, some false)
  | 2 => (9, some true)
  | 3 => (5, some true)
  | 4 => (5, some false)
  | 5 => (3, none)
  | _ => (0, none)
/-- The winning local request of a group at t: its rank and the path it selects (R308, Table PRT-3); a signal fail or degrade counts once
its hold-off is over (R314). -/
def State.apsLocal (s : State) (t : Nat) (h : CtxH) : Nat × Option Bool :=
  let hold := 100000000 * (h.apsByte 65 % 128)
  let ended (j : Nat) : Bool := let x := mread h.scr (apsStart j) 8; x != 0 && decide (x - 1 + hold ≤ (sdtsn t).toNat)
  let l := [(10, some false), (8, some true), (7, some false), (6, some true)].zip (s.apsPresent h (h.rels == 0))
  (l.zipIdx.filter fun x => x.1.2 && ended x.2).foldl (fun (m : Nat × Option Bool) x => if m.1 < x.1.1.1 then x.1.1 else m)
    (extRank (s.trailByte (h.slotEntry 0) 0xF2 % 8))
/-- A decision of APS_LIN enters its state bytes (Table PRT-4), and the switch engine reads it (R311). (DEDUCED, log entry 69) -/
def State.apsDecide (s : State) (t c rank : Nat) (sel : Option Bool) : State :=
  let h := s.cx c
  let e := h.entry0
  let b := s.trailByte e 0xF0
  let p := sel.getD (bit b 0)
  let arch := h.apsByte 64 % 4
  let bridge := if arch = 3 then p else decide (arch = 2) && bit b 1
  let s1 := s.trailSet e 0xF0 1 (b2n p + 2 * b2n bridge + 16 * rank)
  let s2 := (s1.trailSet e 0xF2 1 (setBits (s1.trailByte e 0xF2) 3 2 0)).trailSet e 0xF4 4 0
  s2.apsCommit t t c
/-- Context c has its release at t. -/
def State.releasedAt (s : State) (t c : Nat) : Bool := (s.cx c).run.any fun r => r.rel == t
/-- The timer of kind k of context c has ended, at a release of it (R314, R315). -/
def State.apsTimerDone (s : State) (t c k : Nat) : Bool :=
  s.releasedAt t c && (s.apsGroup c).isSome && bits (s.trailByte (s.cx c).entry0 0xF2) 3 2 == k && decide (tget (fun _ => 0) s.apsEnd c ≤ t)

/-- HOLDOFF_EXPIRY (R314): at its release, context c takes a local signal fail or degrade that is still present into account; one that has gone
is discarded. -/
def holdoffExpiryEffect (t c : Nat) (s : State) : State :=
  if ¬ s.apsTimerDone t c 1 then s else
  let h := s.cx c
  let (r, sel) := s.apsLocal t h
  if (¬ bit (h.apsByte 64) 0 ∨ s.trailByte h.entry0 0xF1 % 16 ≤ r) ∧ 6 ≤ r then s.apsDecide t c r sel
  else (s.trailSet h.entry0 0xF2 1 (setBits (s.trailByte h.entry0 0xF2) 3 2 0)).trailSet h.entry0 0xF4 4 0

/-- WTR_EXPIRY (R315): at the release, NR selects the working path. -/
def wtrExpiryEffect (t c : Nat) (s : State) : State :=
  if s.apsTimerDone t c 2 then s.apsDecide t c 0 (some false) else s

/-- FOP_NR_DECLARE (R305): the accepted bridged signal has differed from the signal requested since `since`, 50 ms or more.
(DEDUCED, log entry 69) -/
def fopNrDeclareEffect (t c since : Nat) (s : State) : State :=
  match s.apsGroup c with
  | none => s
  | some (p, w) =>
    let h := s.cx c
    let b := s.trailByte h.entry0 0xF1
    if h.apsByte 64 % 4 = 0 ∨ bit b 5 ∨ t < since + ms 50 ∨ mread h.scr apsFop 8 ≠ (sdtsn since).toNat + 1 then s
    else (s.trailSet h.entry0 0xF1 1 (setBits b 5 1 1)).logSev t 2 0x5803 p w

/-- HOLDOFF_EXPIRY (R314). -/
def execHoldoffExpiry (t c : Nat) : State → Host.Outcome State Fault Refusal := event t (holdoffExpiryEffect t c)
/-- WTR_EXPIRY (R315). -/
def execWtrExpiry (t c : Nat) : State → Host.Outcome State Fault Refusal := event t (wtrExpiryEffect t c)
/-- FOP_NR_DECLARE (R305). -/
def execFopNrDeclare (t c since : Nat) : State → Host.Outcome State Fault Refusal := event t (fopNrDeclareEffect t c since)

end Sys2Proof.Machine
end

