-- ==== Sys2Proof/Machine/Pair.lean ====
section
/-! DEFINITION. The Kiosk lease and the mated pair (16 R474 to R500). -/
namespace Sys2Proof.Machine
open Sys2Proof

/-! ### Roles, device faults, ownership (Table RED-8, R482, R491) -/

/-- PAIR_ROLE_OUT (R482). -/
def State.roleOut (s : State) : Bool := (s.role == 0 || s.role == 2 || s.role == 3) && !s.red.fenceOut
/-- Privileged acts stamped t are permitted (Table RED-8, 17 R512): alone, or ACTIVE before the Active lease expires (00 R13). -/
def State.privileged (s : State) (t : Nat) : Bool := s.role == 0 || (s.role == 2 && decide (dts96 t < s.dtsWords Reg.KSK_PAIR_EXP0))
/-- The pair is configured and start-up is complete (19 R555). -/
def State.pairOn (s : State) : Bool := s.rbit Reg.KSK_PAIR_STAT_PAIR_EN && s.rget Reg.PWR_BOOT_STAGE == 5

/-- Ownership of the shared outputs is taken or given up (11 R362). (DEDUCED, log entry 77) -/
def State.own (s : State) (on : Bool) : State :=
  (List.range 4).foldl (fun z m => z.rsetb (Reg.TIM_OUT_CFG_OWNED m) on) (s.rsetb Reg.KSK_PAIR_STAT_OWNED on)

/-- Every run ends with its staged work discarded: contexts are held or stopped (Table RED-8). -/
def State.stopRuns (s : State) (t : Nat) : State :=
  ((s.jrm.ctx.filter fun p => p.2.run.isSome).map (·.1)).foldl (fun z c => z.discard t c) s

/-- The role changes (0x8120): cause 0 RENEW, 1 RELEASE, 2 lapse, 3 fence. (DEDUCED, log entry 77) -/
def State.setRole (s : State) (t new cause : Nat) : State :=
  let old := s.role
  if old = new then s else
  let s1 := (s.rset Reg.KSK_PAIR_STAT_ROLE new).logSev t 1 0x8120 s.devid (old + new * 2 ^ 8 + cause * 2 ^ 16)
  let s2 := (s1.pulse t Reg.KSK_PAIR_LIVE_ROLE_CHG 0).live t Reg.KSK_PAIR_LIVE_ORPHAN 0 (new == 3)
  if new = 1 ∨ new = 4 then s2.stopRuns t else s2

/-- A crash record is written to the Logbook (18 Table MNT-2). (DEDUCED, log entry 78) -/
def State.crash (s : State) (t : Nat) : State := { s with red := { s.red with crash := t :: s.red.crash } }

/-- A device fault (R491): FENCE_OUT is asserted and the device is FENCED. -/
def State.deviceFault (s : State) (t : Nat) : State :=
  if s.role = 4 then s else
  (({ s with red := { s.red with fenceOut := true } } : State).crash t).setRole t 4 3

/-- AON_FAULT (R491): a fault of the always-on domain. -/
def aonFaultEffect (t : Nat) (s : State) : State := s.deviceFault t

/-! ### The Kiosk lease (R474 to R479) -/

/-- The leaseholder. -/
def State.holder (s : State) : Nat := s.rget Reg.KSK_LEASE_HOLDER
/-- An event of the lease: its DETAIL is the journal position, whose count the spec leaves open. (DESIGN CHOICE, log entry 76) -/
def State.leaseEvent (s : State) (t sev k : Nat) : State :=
  let (s1, j) := s.fresh 32
  s1.logSev t sev 0x8110 k j
/-- The primary Kiosk executes the ring, or does not (17 R518). -/
def State.ready_ (s : State) (on : Bool) : State := (s.rsetb Reg.HCQ_STAT_READY on).rsetb Reg.SYS_ID_KIOSK_READY on

/-- LEASE_RENEWAL (R474). -/
def leaseRenewalEffect (t : Nat) (s : State) : State :=
  if s.leaseAt t then s.setDtsWords Reg.KSK_LEASE_EXP0 (t + ms 10) else s

/-- Kiosk k is held in reset, the latest of those that are. -/
def RedState.hold (r : RedState) (k : Nat) : RedState := { r with kReset := r.kReset.filter (fun x => x != k) ++ [k] }
/-- The lease lapses (R476): the Kiosk is held in reset. -/
def State.lapse (s : State) (t : Nat) : State :=
  let k := s.holder
  let s1 := ((s.rsetb Reg.KSK_LEASE_VALID false).ready_ false).leaseEvent t 1 k
  ({ s1 with red := { s1.red.hold k with kPrev := some k, kLapse := t } }).crash t

/-- LEASE_LAPSE (R476): the expiry is reached. -/
def leaseLapseEffect (t : Nat) (s : State) : State :=
  if s.rbit Reg.KSK_LEASE_VALID ∧ s.dtsWords Reg.KSK_LEASE_EXP0 ≤ dts96 t then s.lapse t else s

/-- A Kiosk may be granted the lease: its self-test has not failed and it is not held in reset. -/
def State.grantable (s : State) (k : Nat) : Bool :=
  !s.rbit (if k = 0 then Reg.KSK_LEASE_K0_FAULT else Reg.KSK_LEASE_K1_FAULT) && !s.red.kReset.contains k

/-- The Kiosk that a decision of the Crossing Guard chooses among those that request (R477). -/
def State.grantTo (s : State) (r0 r1 : Bool) : Option Nat :=
  let a := r0 && s.grantable 0
  let b := r1 && s.grantable 1
  if a ∧ b then some (if s.red.kPrev = some 0 then 1 else 0) else if a then some 0 else if b then some 1 else none

/-- LEASE_GRANT (R476, R477, R478): K0, K1 or both request; no lease is valid and the guard interval is over. A slot move that has waited
for a primary Kiosk completes (07 R206). (DEDUCED, log entry 80) -/
def leaseGrantEffect (t : Nat) (r0 r1 : Bool) (s : State) : State :=
  if s.rbit Reg.KSK_LEASE_VALID ∨ (s.red.kPrev.isSome ∧ t < s.red.kLapse + us 100) then s else
  match s.grantTo r0 r1 with
  | none => s
  | some k =>
    let s1 := ((s.rset Reg.KSK_LEASE_HOLDER k).rsetb Reg.KSK_LEASE_VALID true).setDtsWords Reg.KSK_LEASE_EXP0 (t + ms 10)
    let s2 := (s1.rset Reg.KSK_LEASE_GRANTS (sat 0xFFFF (s1.rget Reg.KSK_LEASE_GRANTS + 1))).leaseEvent t 4 k
    let s3 : State := (List.range 32).foldl (fun (z : State) x => z.slotDone t x) { s2 with red := { s2.red with kPrev := some k } }
    if s3.rget Reg.PWR_BOOT_STAGE = 5 then s3.ready_ true else s3

/-- KIOSK_RELOAD_COMPLETE (R476): the Kiosk held in reset, the first of two, is reloaded; `ok` when it is verified. Nothing is loaded in a
domain that is not ON (19 R539, R541). -/
def kioskReloadCompleteEffect (_t : Nat) (ok : Bool) (s : State) : State :=
  match s.red.kReset with
  | [] => s
  | k :: r =>
    if ¬ s.domOn (95 + k) then s else
    let s1 := { s with red := { s.red with kReset := r } }
    s1.rsetb (if k = 0 then Reg.KSK_LEASE_K0_FAULT else Reg.KSK_LEASE_K1_FAULT) !ok

/-- FOREIGN_WRITE (R475): Kiosk k, which does not hold the lease, writes a guarded resource. The spec gives the event no code.
(DESIGN CHOICE, log entry 37) -/
def foreignWriteEffect (t k : Nat) (s : State) : State :=
  if s.rbit Reg.KSK_LEASE_VALID ∧ s.holder = k then s else
  let (s1, code) := (s.cinc Ctr.KSK_FOREIGN).fresh 16
  s1.log t code k 0

/-! ### Epochs (R492 to R496) -/

/-- The most records of an epoch (R492). -/
def maxLines : Nat := 131072

/-- Committed state as lines, keys rising: contexts, trail table quarters, map entries, APS timers, PM bins, transmit frames.
(DEDUCED, log entry 75) -/
def State.ckLines (s : State) : Tbl LineData :=
  ((s.jrm.ctx.filter fun p => p.2.state ≠ 0).map fun p => (p.1, LineData.ctx p.2.g p.2.p p.2.st p.2.scr p.2.ins))
    ++ ((s.jrm.trail.map fun p => p.1 / 64).eraseDups.map fun q => (2 ^ 20 + q, LineData.trail (mread s.jrm.trail (64 * q) 64)))
    ++ (s.plz.conn.map fun p => (2 ^ 21 + p.1, LineData.conn p.2))
    ++ (s.apsEnd.map fun p => (2 ^ 22 + p.1, LineData.aps p.2))
    ++ (s.pm.ent.map fun p => (2 ^ 23 + p.1, LineData.pm p.2.cur15 p.2.cur24))
    ++ ((s.frm.txMfas.filter fun p => p.1 < 256).map fun p => (2 ^ 24 + p.1, LineData.tx (tget (fun _ => 0) s.frm.txAt p.1) (p.2 - 1)))

/-- The line at a key. -/
def lineAt (l : Tbl LineData) (k : Nat) : Option LineData := (l.find? fun p => p.1 == k).map (·.2)
/-- What changed between two images. -/
def lineDelta (old new : Tbl LineData) : List (Nat × Option LineData) :=
  ((new.filter fun p => lineAt old p.1 != some p.2).map fun p => (p.1, some p.2))
    ++ ((old.filter fun p => (lineAt new p.1).isNone).map fun p => (p.1, none))
/-- An image with records applied. (DEDUCED, log entry 75) -/
def lineOver (l : Tbl LineData) (r : List (Nat × Option LineData)) : Tbl LineData :=
  r.foldl (fun m p => (match p.2 with | some v => [(p.1, v)] | none => []) ++ m.filter fun q => q.1 != p.1) l

/-- The sweep records that fill n places from position p (R495), and the position after them. -/
def sweepRecs (l : Tbl LineData) (p n : Nat) : List (Nat × Option LineData) × Nat :=
  let r := (l.filter fun q => p ≤ q.1).take n
  (r.map fun q => (q.1, some q.2), if (l.filter fun q => p ≤ q.1).length ≤ n then 0 else ((r.getLast?).map fun q => q.1 + 1).getD 0)

/-- The epoch number after n: it counts from 1 and wraps past zero (Table RED-9). -/
def nextEpoch (n : Nat) : Nat := if 2 ^ 32 ≤ n + 1 then 1 else n + 1
/-- Epoch b is a or a later one, in 32-bit serial arithmetic. -/
def epochFrom (a b : Nat) : Bool := decide ((b + 2 ^ 32 - a % 2 ^ 32) % 2 ^ 32 < 2 ^ 31)

/-- An epoch is cut and sent (R492, R494, R495). (DEDUCED, log entry 75) -/
def State.cutEpoch (s : State) (t : Nat) : State :=
  if s.red.mlp.isNone then s else
  let now := s.ckLines
  let base := s.red.series.getD (if s.red.acked = 0 then [] else ((s.red.images.find? fun p => p.1 = s.red.acked).map (·.2)).getD [])
  let d := lineDelta base now
  let n := nextEpoch s.red.epochNo
  let fits := decide (d.length ≤ maxLines)
  let sw := if fits then sweepRecs now s.red.sweepAt (maxLines - d.length) else ([], s.red.sweepAt)
  let recs := if fits then d ++ sw.1 else d.take maxLines
  let m : EpochMsg := { num := n, base := s.red.acked, cut := t, continued := !fits, sweep := sw.1 != [], sweepPos := sw.2, recs := recs }
  ({ s with red := { s.red with epochNo := n, sweepAt := sw.2,
                                series := if fits then none else some (lineOver base (d.take maxLines)),
                                images := if fits then (n, now) :: s.red.images else s.red.images } }.cinc Ctr.KSK_EPOCHS_SENT).emit (.epoch m)

/-- EPOCH_CUT (R492): a whole multiple of 100 µs. -/
def epochCutEffect (t : Nat) (s : State) : State :=
  if s.pairOn ∧ (s.role = 2 ∨ s.role = 3) ∧ t % us 100 = 0 then s.cutEpoch t else s

/-- A record is applied to committed state (R493). -/
def State.applyLine (s : State) (p : Nat × Option LineData) : State :=
  match p.2 with
  | some (.ctx g pr st scr ins) => s.setCx p.1 { s.cx p.1 with g := g, p := pr, st := st, scr := scr, ins := ins }
  | some (.trail b) => { s with jrm := { s.jrm with trail := mwrite s.jrm.trail (64 * (p.1 - 2 ^ 20)) 64 b } }
  | some (.conn c) => { s with plz := { s.plz with conn := tput (fun _ => {}) s.plz.conn (p.1 - 2 ^ 21) c } }
  | some (.aps e) => { s with apsEnd := tput (fun _ => 0) s.apsEnd (p.1 - 2 ^ 22) e }
  | some (.pm a b) => s.setPmE (p.1 - 2 ^ 23) { s.pmE (p.1 - 2 ^ 23) with cur15 := a, cur24 := b }
  | some (.tx d m) => { s with frm := { s.frm with txMfas := tput (fun _ => 0) s.frm.txMfas (p.1 - 2 ^ 24) (m + 1),
                                                   txAt := tput (fun _ => 0) s.frm.txAt (p.1 - 2 ^ 24) d } }
  | none =>
    if p.1 < 2 ^ 20 then s
    else if p.1 < 2 ^ 21 then { s with jrm := { s.jrm with trail := mwrite s.jrm.trail (64 * (p.1 - 2 ^ 20)) 64 0 } }
    else if p.1 < 2 ^ 22 then { s with plz := { s.plz with conn := tput (fun _ => {}) s.plz.conn (p.1 - 2 ^ 21) {} } }
    else if p.1 < 2 ^ 23 then { s with apsEnd := tput (fun _ => 0) s.apsEnd (p.1 - 2 ^ 22) 0 }
    else s

/-- An epoch is discarded (0x8122): cause 0 CRC, 1 incomplete, 2 BASE. A series it belongs to cannot be applied (R494). -/
def State.epochReject (s : State) (t : Nat) (m : EpochMsg) (cause : Nat) : State :=
  let s1 := ((s.cinc Ctr.KSK_EPOCH_REJECT).pulse t Reg.KSK_PAIR_LIVE_EPOCH_REJECT 0).logSev t 3 0x8122 m.num cause
  { s1 with red := { s1.red with rxSeries := [], rxBad := m.continued, bufBad := false } }

/-- EPOCH_RECEIVED (R493, R494): epoch m reaches the standby; `crcOk` its CRC passes, `complete` all of it has come. -/
def epochReceivedEffect (t : Nat) (m : EpochMsg) (crcOk complete : Bool) (s : State) : State :=
  if ¬ s.pairOn ∨ s.role ≠ 1 ∨ s.red.mlp.isNone then s
  else if ¬ complete then s.epochReject t m 1
  else if ¬ crcOk ∨ s.red.bufBad then s.epochReject t m 0
  else if m.base ≠ s.red.applied then s.epochReject t m 2
  else if s.red.rxBad then (if m.continued then s else s.epochReject t m 1)
  else if m.continued then { s with red := { s.red with rxSeries := s.red.rxSeries ++ m.recs } }
  else
    let s1 := ((s.red.rxSeries ++ m.recs).foldl State.applyLine s).mapUsed t
    let s2 := { s1 with red := { s1.red with applied := m.num, appliedAt := t, appliedCut := m.cut, rxSeries := [] } }
    ((s2.setWord Reg.KSK_PAIR_EPOCH m.num).rsetb Reg.KSK_PAIR_STAT_STANDBY_STALE false).cinc Ctr.KSK_EPOCHS_APPLIED

/-- STANDBY_STALE (R490): no epoch has been applied for 1 ms. -/
def standbyStaleEffect (t : Nat) (s : State) : State :=
  if s.role = 1 ∧ s.red.appliedAt + ms 1 ≤ t then s.rsetb Reg.KSK_PAIR_STAT_STANDBY_STALE true else s

/-! ### Heartbeats (R483) -/

/-- PRESENT has been recognised within the last 200 µs. -/
def State.refPresent (s : State) (t : Nat) : Bool := s.red.present.any fun a => decide (t < a + us 200)
/-- REF_PRESENT follows. (DEDUCED, log entry 79) -/
def State.showPresent (s : State) (t : Nat) : State := s.rsetb Reg.KSK_PAIR_STAT_REF_PRESENT (s.refPresent t)

/-- The heartbeat record (Table RED-6). -/
def State.hbRecord (s : State) (t : Nat) : List Byte :=
  let b := beBytes 2 s.devid ++ beBytes 1 (s.role + 8 * b2n s.red.fenceOut + 16 * b2n (s.refPresent t)) ++ [0] ++ beBytes 4 s.red.hbSeq
    ++ beBytes 4 (if s.role = 1 then s.red.applied else 0) ++ beBytes 12 (dts96 t) ++ beBytes 4 ((s.red.mlp.getD 0) * 2 ^ 16)
  b ++ beBytes 4 (crc crc32 b)

/-- HEARTBEAT_SEND (R483, 19 R555): 20 µs ± 1 µs after the last. -/
def heartbeatSendEffect (t : Nat) (s : State) : State :=
  if ¬ s.pairOn ∨ ¬ (s.red.hbLast.all fun a => decide (a + us 19 ≤ t ∧ t ≤ a + us 21)) then s else
  let s1 := s.showPresent t
  let lv := !s1.red.hbPin
  ({ s1 with red := { s1.red with hbSeq := (s1.red.hbSeq + 1) % 2 ^ 32, hbPin := lv, hbLast := some t } }).emit
    (.heartbeat (if s1.red.mlp.isSome then some (s1.hbRecord t) else none) lv)

/-- MATE_HEARTBEAT_RECORD (R483): a record on the Mate Link; its EPOCH_ACK counts for a device that sends epochs. -/
def mateHeartbeatRecordEffect (_t : Nat) (b : List Byte) (s : State) : State :=
  if ¬ s.pairOn ∨ s.red.mlp.isNone ∨ b.length ≠ 32 ∨ crc crc32 (b.take 28) ≠ ofBe (b.drop 28) then s else
  let f := (b.getD 2 0).toNat
  let ack := ofBe ((b.drop 8).take 4)
  let s1 := { s with red := { s.red with hbLink := { s.red.hbLink with seen := true } } }
  if (s.role = 2 ∨ s.role = 3) ∧ f % 8 = 1 ∧ (s.red.images.any fun p => p.1 == ack) then
    { s1 with red := { s1.red with acked := ack, images := s1.red.images.filter fun p => epochFrom ack p.1 } }.setWord Reg.KSK_PAIR_EPOCH ack
  else s1

/-- A path at the end of a window. -/
def HbPath.window (p : HbPath) : HbPath :=
  if p.seen then
    let g := p.good + 1
    let l := p.lost && decide (g < 10)
    { seen := false, missed := 0, good := g, up := !l, lost := l }
  else
    let n := p.missed + 1
    { seen := false, missed := n, good := 0, up := p.up && decide (n < 3), lost := p.lost || decide (3 ≤ n) }

/-- A path's window ends: path 0 the Mate Link, 1 the pins. -/
def State.hbWindow (s : State) (t k : Nat) (p : HbPath) : State :=
  let n := p.window
  let s1 := if p.seen then s else s.cinc Ctr.KSK_HB_MISSED
  if n.lost = p.lost then s1 else s1.logSev t (if n.lost then 2 else 4) 0x8121 s.red.mate k

/-- HEARTBEAT_WINDOW (R483): a 20 µs window ends. -/
def heartbeatWindowEffect (t : Nat) (s : State) : State :=
  if ¬ s.pairOn ∨ t % us 20 ≠ 0 then s else
  let a := s.red.hbLink
  let b := s.red.hbPins
  let s1 := (s.hbWindow t 0 a).hbWindow t 1 b
  let s2 := { s1 with red := { s1.red with hbLink := a.window, hbPins := b.window } }
  let s3 := ((s2.rsetb Reg.KSK_PAIR_STAT_HB_LINK a.window.up).rsetb Reg.KSK_PAIR_STAT_HB_PIN b.window.up).showPresent t
  (s3.live t Reg.KSK_PAIR_LIVE_PATH_LOST 0 (a.window.lost || b.window.lost)).live t Reg.KSK_PAIR_LIVE_MATE_LOST 0
    (a.window.lost && b.window.lost)

/-- MLP_NEGOTIATION (00 R15 to R20), while the Mate Link's domain is ON (19 R539): the mate's range records and its choice. The spec gives the events no SRC. -/
def mlpNegotiationEffect (t : Nat) (recs : List Nat) (theirs : Option Nat) (s : State) : State :=
  if ¬ s.pairOn ∨ s.red.mlp.isSome ∨ ¬ s.domOn 90 then s else
  let (s1, src) := s.fresh 32
  match chooseVersion s1.red.mlpRange recs with
  | none => (s1.log t 0x6011 src 0).live t Reg.KSK_PAIR_LIVE_NO_COMMON_VERSION 0 true
  | some v =>
    match theirs with
    | none => s
    | some w =>
      if v ≠ w then (s1.log t 0x6011 src (v + w * 2 ^ 16)).live t Reg.KSK_PAIR_LIVE_NO_COMMON_VERSION 0 true
      else (({ s1 with red := { s1.red with mlp := some v } }).log t 0x6010 src v).live t Reg.KSK_PAIR_LIVE_NO_COMMON_VERSION 0 false

/-! ### The referee (R484 to R489, R497) -/

/-- A pattern on referee input k, its last falling edge at `inst`, is recognised at t: the input is not at its safe state, and 2 µs
have been low. -/
def State.refHeard (s : State) (t inst k : Nat) : Bool := s.pairOn && !s.pinSafe (54 + k) && decide (inst + us 2 ≤ t)

/-- The contents of every queue go: the new Active's queues begin empty (Table RED-3). (DEDUCED, log entry 141) -/
def State.emptyQueues (s : State) (t : Nat) : State :=
  (s.que.qs.map (·.1)).foldl (fun z q => z.qset t q { z.q q with items := [], build := [], taken := 0, marker := none, frag := [], fragOfs := 0 }) s

/-- A standby takes over (R496, R497, Table RED-3): it owns the outputs, its flows send FIRST, its contexts are released as seeded,
its queues begin empty, and PM seconds from the last epoch's cut on are unclassified. -/
def State.takeOver (s : State) (t : Nat) : State :=
  let s1 := s.own true
  let s2 := (s1.flowList 0).foldl (fun z i => z.setFlow 0 i { z.flow 0 i with first := 16 }) s1
  let s3 := (s2.jrm.ctx.map (·.1)).foldl (fun z c => if (z.cx c).state = 1 then z.setCx c { z.cx c with seed := true } else z) s2
  let secs := (List.range (secOf t - secOf s3.red.appliedCut + 1)).map fun k => secOf s3.red.appliedCut + k
  let s4 := (s3.pmEntries.foldl (fun z e => secs.foldl (fun y x => y.pmSec e x fun a => { a with bad := true }) z) s3).emptyQueues t
  { s4 with red := { s4.red with rxSeries := [], rxBad := false, bufBad := false, acked := 0, images := [], series := none } }

/-- RENEW (R487, R489, R497): the Active lease runs for 200 µs from the pattern's instant. -/
def renewEffect (t inst : Nat) (s : State) : State :=
  if ¬ s.refHeard t inst 0 ∨ s.role = 0 ∨ s.role = 4 then s else
  let r := s.role
  let s1 := (s.setDtsWords Reg.KSK_PAIR_EXP0 (inst + us 200)).setRole t 2 0
  if r = 1 then s1.takeOver t else s1

/-- The device gives up the Active role (R488). -/
def State.giveUp (s : State) (t cause : Nat) : State :=
  let s1 := ((s.cutEpoch t).setRole t 1 cause).own false
  { s1 with red := { s1.red with applied := 0, appliedAt := t, rxSeries := [], rxBad := false, bufBad := false, series := none } }

/-- RELEASE (R488, R489). -/
def releaseEffect (t inst : Nat) (s : State) : State :=
  if s.refHeard t inst 0 ∧ (s.role = 2 ∨ s.role = 3) then s.giveUp t 1 else s

/-- PRESENT (R484). -/
def presentEffect (t inst : Nat) (s : State) : State :=
  if s.refHeard t inst 1 then ({ s with red := { s.red with present := some inst } }).showPresent t else s

/-- REF_BAD (R484): a sequence of another form. -/
def refBadEffect (t k : Nat) (s : State) : State :=
  if s.refHeard t 0 k then (s.cinc Ctr.KSK_REF_BAD).pulse t Reg.KSK_PAIR_LIVE_REF_BAD 0 else s

/-- ACTIVE_LEASE_LAPSE (R489, R491): the Active lease has expired. A FENCED device drops its clock outputs. (DEDUCED, log entry 77) -/
def activeLeaseLapseEffect (t : Nat) (s : State) : State :=
  let e := s.dtsWords Reg.KSK_PAIR_EXP0
  if e = 0 ∨ dts96 t < e then s
  else if s.role = 4 then s.own false
  else if s.role ≠ 2 then s
  else if s.red.present.any fun a => decide (ofDts96 e ≤ a + us 200 ∧ a < ofDts96 e) then
    let s1 := (s.setRole t 1 2).own false
    { s1 with red := { s1.red with applied := 0, appliedAt := t, rxSeries := [], rxBad := false, bufBad := false, series := none } }
  else s.setRole t 3 2

/-- AON_FAULT (R491). -/
def execAonFault (t : Nat) : State → Host.Outcome State Fault Refusal := event t (aonFaultEffect t)
/-- LEASE_RENEWAL (R474). -/
def execLeaseRenewal (t : Nat) : State → Host.Outcome State Fault Refusal := event t (leaseRenewalEffect t)
/-- LEASE_LAPSE (R476). -/
def execLeaseLapse (t : Nat) : State → Host.Outcome State Fault Refusal := event t (leaseLapseEffect t)
/-- LEASE_GRANT (R476). -/
def execLeaseGrant (t : Nat) (r0 r1 : Bool) : State → Host.Outcome State Fault Refusal := event t (leaseGrantEffect t r0 r1)
/-- KIOSK_RELOAD_COMPLETE (R476). -/
def execKioskReloadComplete (t : Nat) (ok : Bool) : State → Host.Outcome State Fault Refusal := event t (kioskReloadCompleteEffect t ok)
/-- FOREIGN_WRITE (R475). -/
def execForeignWrite (t k : Nat) : State → Host.Outcome State Fault Refusal := event t (foreignWriteEffect t k)
/-- HEARTBEAT_SEND (R483). -/
def execHeartbeatSend (t : Nat) : State → Host.Outcome State Fault Refusal := event t (heartbeatSendEffect t)
/-- MATE_HEARTBEAT_RECORD (R483). -/
def execMateHeartbeatRecord (t : Nat) (b : List Byte) : State → Host.Outcome State Fault Refusal :=
  event t (mateHeartbeatRecordEffect t b)
/-- HEARTBEAT_WINDOW (R483). -/
def execHeartbeatWindow (t : Nat) : State → Host.Outcome State Fault Refusal := event t (heartbeatWindowEffect t)
/-- MLP_NEGOTIATION (00 R17). -/
def execMlpNegotiation (t : Nat) (recs : List Nat) (theirs : Option Nat) : State → Host.Outcome State Fault Refusal :=
  event t (mlpNegotiationEffect t recs theirs)
/-- RENEW (R497). -/
def execRenew (t inst : Nat) : State → Host.Outcome State Fault Refusal := event t (renewEffect t inst)
/-- RELEASE (R488). -/
def execRelease (t inst : Nat) : State → Host.Outcome State Fault Refusal := event t (releaseEffect t inst)
/-- PRESENT (R484). -/
def execPresent (t inst : Nat) : State → Host.Outcome State Fault Refusal := event t (presentEffect t inst)
/-- REF_BAD (R484). -/
def execRefBad (t k : Nat) : State → Host.Outcome State Fault Refusal := event t (refBadEffect t k)
/-- ACTIVE_LEASE_LAPSE (R489). -/
def execActiveLeaseLapse (t : Nat) : State → Host.Outcome State Fault Refusal := event t (activeLeaseLapseEffect t)
/-- STANDBY_STALE (R490). -/
def execStandbyStale (t : Nat) : State → Host.Outcome State Fault Refusal := event t (standbyStaleEffect t)
/-- EPOCH_CUT (R492). -/
def execEpochCut (t : Nat) : State → Host.Outcome State Fault Refusal := event t (epochCutEffect t)
/-- EPOCH_RECEIVED (R493). -/
def execEpochReceived (t : Nat) (m : EpochMsg) (crcOk complete : Bool) : State → Host.Outcome State Fault Refusal :=
  event t (epochReceivedEffect t m crcOk complete)

end Sys2Proof.Machine
end

