-- ==== Sys2Proof/Machine/Underpass.lean ====
section
/-! DEFINITION. The Underpass memory (09 R272 to R297). -/
namespace Sys2Proof.Machine
open Sys2Proof

/-! ### Pseudo-channels and pages (Table UND-1, R274, R284) -/

/-- The bit of a pseudo-channel in UND_PC_FAIL. -/
def pcFailBit (k : Nat) : RF := ⟨Reg.UND_PC_FAIL (k / 32), k % 32, 1⟩
/-- A pseudo-channel works: its stack is trained and it has not failed. -/
def State.pcUp (s : State) (k : Nat) : Bool := s.rbit (Reg.UND_STACK_TRAINED (k / 32)) && !s.rbit (pcFailBit k)
/-- The working pseudo-channels. -/
def State.pcs (s : State) : List Nat := (List.range 128).filter s.pcUp
/-- W. -/
def State.pcW (s : State) : Nat := s.pcs.length
/-- The ceiling in Mb/s (R284). -/
def State.ceilMb (s : State) : Nat := 255000 * s.pcW
/-- A reservation replaced. -/
def State.setRsv (s : State) (row k : Nat) (h : RsvH) : State :=
  { s with und := { s.und with rsv := tput (fun _ => {}) s.und.rsv (row * 65536 + k) h } }
/-- A page belongs to a region. -/
def State.pageHeld (s : State) (p : Nat) : Bool := s.und.rsv.any fun r => r.2.pages.contains p
/-- The reservation that holds a page: row and key. -/
def State.pageRsv (s : State) (p : Nat) : Option (Nat × Nat) :=
  (s.und.rsv.find? fun r => r.2.pages.contains p).map fun r => (r.1 / 65536, r.1 % 65536)
/-- The pseudo-channels that do not work. -/
def State.pcsDown (s : State) : List Nat := (List.range 128).filter fun k => !s.pcUp k
/-- Pages of working pseudo-channels that regions hold. -/
def State.pagesHeld (s : State) : Nat :=
  let down := s.pcsDown
  (s.und.rsv.map fun r => (r.2.pages.filter fun p => !down.contains (pcOf p)).length).sum
/-- Pages in the free pool (R274): those of working pseudo-channels that no region holds and none has retired. -/
def State.freePages (s : State) : Nat :=
  384 * s.pcW - s.pagesHeld - (s.und.retired.filter fun p => s.pcUp (pcOf p)).length
/-- The pages of regions, and those retired, as the bits of a number. -/
def State.usedPages (s : State) : Nat := ((s.und.rsv.flatMap fun r => r.2.pages) ++ s.und.retired).foldl (fun m p => m ||| 1 <<< p) 0
/-- The free pages of pseudo-channel k, where m has the bits of those in use. -/
def freeOf (m k : Nat) : List Nat :=
  let x := (m >>> (384 * k)) % 2 ^ 384
  ((List.range 384).filter fun j => !x.testBit j).map fun j => 384 * k + j

/-- l turned by n places. -/
def turn {α : Type} (n : Nat) (l : List α) : List α := if l.length = 0 then l else l.drop (n % l.length) ++ l.take (n % l.length)
/-- A page in its place of ascending pages. -/
def pageInsert (p : Nat) : List Nat → List Nat
  | [] => [p]
  | q :: r => if p ≤ q then p :: q :: r else q :: pageInsert p r
/-- Lists dealt round, n times: the first of each, then the second of each; a list passes where it holds none. -/
def dealRound : Nat → List (List (Option Nat)) → List Nat
  | 0, _ => []
  | n + 1, l => l.filterMap (fun f => f.head?.join) ++ dealRound n (l.map fun f => f.tail)
/-- n free pages for a region that keeps some, dealt round the pseudo-channels so that none has more than its part of the region (R272): which
of them, the spec leaves open. -/
def State.dealPages (s : State) (n : Nat) (keep : List Nat) : State × List Nat :=
  let (s1, r) := s.fresh 16
  let m := s.usedPages
  (s1, (dealRound 768 ((turn r s.pcs).map fun k =>
    List.replicate (keep.filter fun p => pcOf p == k).length none ++ (turn r (freeOf m k)).map some)).take n)
/-- n free pages for a region that keeps some (R272), in ascending order of page and so of pseudo-channel (R273). (DESIGN CHOICE, log
entry 65) -/
def State.takePages (s : State) (n : Nat) (keep : List Nat) : State × List Nat :=
  let (s1, l) := s.dealPages n keep
  (s1, l.foldr pageInsert [])
/-- The n pages that a shrinking region keeps: as evenly spread as its own pages allow (R272). -/
def State.keepPages (s : State) (pages : List Nat) (n : Nat) : List Nat :=
  if n = pages.length then pages
  else ((dealRound 384 ((List.range 128).map fun k => (pages.filter fun p => pcOf p == k).map some)).take n).foldr pageInsert []

/-! ### Totals and what follows them (R297) -/

/-- The class of a row (Table UND-3): 2 A, 1 B, 0 C. -/
def rowClass (row : Nat) : Nat := if row ≤ 4 then 2 else if row ≤ 7 then 1 else 0
/-- The reservations of a row. -/
def State.rowRsv (s : State) (row : Nat) : List (Nat × RsvH) := s.und.rsv.filter fun r => r.1 / 65536 == row
/-- The unbroken bandwidth of a list of reservations, in Mb/s. -/
def rsvSum (l : List (Nat × RsvH)) : Q := qsum ((l.filter fun r => !r.2.broken).map fun r => r.2.bw)
/-- Mb/s as Gb/s, rounded up. (DEDUCED, log entry 68) -/
def gbUp (x : Q) : Nat := ((-(qfloor (qdiv (qsub (qint 0) x) (qint 1000)))).toNat)
/-- The reserved bandwidth fits under the ceiling. -/
def State.undFits (s : State) : Bool := qle (rsvSum s.und.rsv) (qint s.ceilMb)
/-- A reservation is broken. -/
def State.rsvBroken (s : State) (row k : Nat) : Bool := (s.rsv row k).broken

/-- Queues look at their spill share again (R287). -/
def State.requeue (s : State) (t : Nat) : State := (s.que.qs.map (·.1)).foldl (fun z q => z.qset t q (z.q q)) s
/-- A pair's ring follows its reservation (R329). -/
def State.rings (s : State) : State :=
  let ks : List Nat := s.pair.map (·.1) ++ (s.und.rsv.filter fun r => r.1 < 131072).map fun r => r.1 / 65536 * 20480 + r.1 % 65536
  ks.eraseDups.foldl (fun z k => z.setPr (k / 20480) (k % 20480)
      { z.pr (k / 20480) (k % 20480) with unbuf := z.rsvBroken (k / 20480) (k % 20480) }) s

/-- The registers of one row. -/
def State.rowShow (s : State) (row : Nat) : State :=
  let l := s.rowRsv row
  (((s.rset (Reg.UND_RSV_BW_BW_GBPS row) (gbUp (rsvSum l))).rset (Reg.UND_RSV_BW_CLASS row) (rowClass row)).rsetb
    (Reg.UND_RSV_BW_BROKEN row) (l.any fun r => r.2.broken)).rset (Reg.UND_RSV_PG_PAGES row) (l.map fun r => r.2.pages.length).sum

/-- Every total and LIVE bit of the Underpass, the queues, the rings, the PM store and the event ring follow. (DEDUCED, log entry 68) -/
def State.undShow (s : State) (t : Nat) : State :=
  let s1 := (((s.rset Reg.UND_CEIL_CEIL_GBPS (255 * s.pcW)).rset Reg.UND_CEIL_RSV_GBPS (gbUp (rsvSum s.und.rsv))).rset
    Reg.UND_PAGES_FREE_PAGES s.freePages).rset Reg.UND_PAGES_RETIRED (sat 0xFFFF s.und.retired.length)
  let s2 := (List.range 9).foldl State.rowShow s1
  let s3 := (s2.live t Reg.UND_LIVE_SHORTAGE 0 (s2.und.rsv.any fun r => r.2.broken)).live t Reg.UND_LIVE_PC_FAIL 0
    ((List.range 4).any fun w => s2.wordN (Reg.UND_PC_FAIL w) != 0)
  let s4 := if 0 < s3.freePages then s3.live t Reg.UND_LIVE_NO_SPARE_PAGE 0 false else s3
  let s5 := (s4.live t Reg.PMN_LIVE_STORE_BROKEN 0 (s4.rsvBroken 6 0)).live t Reg.EVL_LIVE_RING_OFF 0 (s4.rsvBroken 6 0)
  s5.rings.requeue t

/-! ### Shortage (R288 to R291) -/

/-- The event of a break or a restoration of a reservation (R290): SRC names the row and the queue group or pair. (DEDUCED, log entry 66) -/
def State.rsvEvent (s : State) (t row k prot : Nat) (back : Bool) : State :=
  s.logSev t 1 (0x3000 + trigUnd * 256 + 128 * b2n back + rowClass row) (row + 256 * k) prot
/-- A reservation is broken. The spec does not say which class stands in its event as the protected one: none (0xFF) for a row of Class A,
Class A for a row of Class B or C. (DESIGN CHOICE, log entry 135) -/
def State.breakRsv (s : State) (t row k : Nat) : State :=
  let h := s.rsv row k
  let prot := if rowClass row = 2 then 0xFF else 2
  let s1 := s.setRsv row k { h with broken := true, prot := prot, order := s.und.breaks }
  ({ s1 with und := { s1.und with breaks := s1.und.breaks + 1 } }).rsvEvent t row k prot false
/-- A reservation is restored. -/
def State.restoreRsv (s : State) (t row k : Nat) : State :=
  let h := s.rsv row k
  (s.setRsv row k { h with broken := false }).rsvEvent t row k h.prot true

/-- The unbroken reservations in the order they are broken: class C before B before A, the highest row first, in it the highest
group, or the pair's ladder order; row 3 never. -/
def State.breakOrder (s : State) : List (Nat × Nat) :=
  [8, 7, 6, 5, 4, 2, 1, 0].flatMap fun row =>
    let ks := ((s.rowRsv row).filter fun r => !r.2.broken).map fun r => r.1 % 65536
    (if row ≤ 1 then ladder s ks else ks.reverse).map fun k => (row, k)
/-- Reservations are broken until the sum fits (R288). -/
def State.undShed (s : State) (t : Nat) : State :=
  s.breakOrder.foldl (fun z p => if z.undFits then z else z.breakRsv t p.1 p.2) s

/-- The broken reservation restored first (R41): class A before B before C, then the last broken. -/
def State.nextRsv (s : State) : Option (Nat × RsvH) :=
  (s.und.rsv.filter fun r => r.2.broken).foldl (fun m r => match m with
    | none => some r
    | some b =>
      let x := rowClass (r.1 / 65536)
      let y := rowClass (b.1 / 65536)
      if y < x ∨ (x = y ∧ b.2.order < r.2.order) then some r else some b) none
/-- Reservations are restored while they fit (R290). -/
def State.undRestore (s : State) (t : Nat) : Nat → State
  | 0 => s
  | n + 1 =>
    match s.nextRsv with
    | none => s
    | some r =>
      if qle (qadd (rsvSum s.und.rsv) r.2.bw) (qint s.ceilMb) then (s.restoreRsv t (r.1 / 65536) (r.1 % 65536)).undRestore t n else s

/-! ### Regions -/

/-- Pages are new to a region: nothing they held before is of this reservation. -/
def State.clearPages (s : State) (l : List Nat) : State :=
  l.foldl (fun z p => { z with und := { z.und with
    pages := tput (fun _ => {}) z.und.pages p {}
    reloads := z.und.reloads.filter fun x => x.1 != p
    mem := z.und.mem.filter fun c => !(decide (p * 2097152 ≤ c.1 ∧ c.1 < (p + 1) * 2097152)) } }) s

/-- A page in its place of pages in ascending pseudo-channel order. -/
def pcInsert (p : Nat) : List Nat → List Nat
  | [] => [p]
  | q :: r => if pcOf p ≤ pcOf q then p :: q :: r else q :: pcInsert p r
/-- The contents and marks of each page of a list go to the page at its place of another: the units of a region keep what they hold. -/
def State.relay (s : State) (old new : List Nat) : State :=
  if old = new then s else
  let m := s.und.mem.foldl (fun m c => match (old.zip new).find? fun p => p.1 == c.1 / 2097152 with
    | some p => mput m (p.2 * 2097152 + c.1 % 2097152) c.2
    | none => mput m c.1 c.2) []
  let at_ (p : Nat) : Nat := (((old.zip new).find? fun x => x.1 == p).map (·.2)).getD p
  let z := old.foldl (fun z p => z.setPage p {})
    ({ s with und := { s.und with mem := m, reloads := s.und.reloads.map fun x => (at_ x.1, x.2) } } : State)
  (old.zip new).foldl (fun z p => z.setPage p.2 (s.page p.1)) z
/-- A region with new pages at the places of old ones has its pages in ascending pseudo-channel order again (R273), and its units keep what they
hold. (DEDUCED, log entry 143) -/
def State.inOrder (s : State) (row k : Nat) : State :=
  let h := s.rsv row k
  let l := h.pages.foldr pcInsert []
  (s.relay h.pages l).setRsv row k { h with pages := l }
/-- A region's pages beyond its part of W pseudo-channels (R272) move to free pages of others, with all they hold. (DEDUCED, log entry 143) -/
def State.respread (s : State) (row k : Nat) : State :=
  let h := s.rsv row k
  let most := (h.pages.length + s.pcW - 1) / max 1 s.pcW
  let keep := (List.range 128).flatMap fun c => (h.pages.filter fun p => pcOf p == c).take most
  let away := h.pages.filter fun p => !keep.contains p
  if away = [] then s else
  let (s1, l) := s.takePages away.length keep
  if l.length < away.length then s1 else
  let new := h.pages.map fun p => (((away.zip l).find? fun q => q.1 == p).map (·.2)).getD p
  (((s1.clearPages l).relay h.pages new).setRsv row k { h with pages := new }).inOrder row k

/-- A reservation gets bandwidth bw and n pages, growing from the free pool or shrinking (R272, R285). Its pages stand in ascending order again
(R273); what its units held before a change of size, the spec does not say: the stored bytes stay in their pages. (DESIGN CHOICE, log entry
159) -/
def State.giveRsv (s : State) (row k : Nat) (bw : Q) (n : Nat) : State :=
  let h := s.rsv row k
  if n ≤ h.pages.length then s.setRsv row k (if n = 0 ∧ bw = qint 0 then {} else { h with bw := bw, pages := s.keepPages h.pages n })
  else
    let (s1, l) := s.takePages (n - h.pages.length) h.pages
    (s1.clearPages l).setRsv row k { h with bw := bw, pages := (h.pages ++ l).foldr pageInsert [] }

/-- The bandwidth of a Class A pair of ODU rate r in 100 bit/s, in Mb/s (R295). -/
def deskewBw (r : Nat) : Q := qmk (2 * r * 15360 : Nat) (15296 * 10000)
/-- The pages of a ring of n slots (R293, R294). -/
def ringPages (n : Nat) : Nat := (n * 15360 + 2097151) / 2097152
/-- A Class A pair's bandwidth and pages. -/
def State.deskewNeed (s : State) (d x : Nat) : Q × Nat := (deskewBw (s.odu x).bps100, ringPages (s.ringSlots d x))

/-- Rows 0 and 1 follow the Class A pairs configured (R285, Table UND-3). -/
def State.deskewFollow (s : State) (d x : Nat) : State :=
  if s.isPair d x then
    let n := s.deskewNeed d x
    s.giveRsv d x n.1 n.2
  else if (s.rsv d x).pages = [] then s else s.giveRsv d x (qint 0) 0

/-- The queue groups of a spill row by default (Table UND-3). -/
def spillGroups (row : Nat) : List Nat :=
  if row = 4 then [0, 1] else if row = 7 then (List.range 126).map (· + 2) else (List.range 128).map (· + 128)
/-- A spill row's default shares: equal bandwidth, and pages as equal as whole pages are. -/
def State.spillDefault (s : State) (row mb pages : Nat) : State :=
  let g := spillGroups row
  let n := g.length
  let (s1, l) := s.dealPages pages []
  (g.zipIdx.foldl (fun (z, r) (k, i) =>
    let m := pages / n + b2n (decide (i < pages % n))
    (z.setRsv row k { bw := qmk mb n, pages := (r.take m).foldr pageInsert [] }, r.drop m)) (s1.clearPages l, l)).1
/-- The reservations of Table UND-3 that stand before any command. -/
def State.undDefaults (s : State) : State :=
  let s1 := (((s.giveRsv 2 0 (qint 1600000) 1024).setRsv 3 0 { bw := qint 10000 }).giveRsv 5 0 (qint 200000) 512).giveRsv 6 0 (qint 200000) 2048
  ((s1.spillDefault 4 100000 512).spillDefault 7 300000 2048).spillDefault 8 800000 6144

/-! ### Reads and writes (R275 to R281) -/

/-- A unit of a page that a region took in place of a lost one, not written since (R281). -/
def PageH.unwritten (p : PageH) (u : Nat) : Bool := p.lost && !p.fresh.contains u
/-- A unit that cannot be read: poisoned (R280), or not written since its page was lost (R281). -/
def PageH.unreadable (p : PageH) (u : Nat) : Bool := p.poison.contains u || p.unwritten u
/-- Times of a list within the last d of t. -/
def lately (l : List Nat) (t d : Nat) : List Nat := l.filter fun a => decide (t < a + d)

/-- Items [pos, pos + n) of a queue are replaced by one sealed marker with UE (R380); in packet mode the whole packet. -/
def QueH.lose (h : QueH) (t pos n : Nat) : QueH :=
  let pkt := h.mode == 2
  let before := if pkt then pos - ((h.items.take pos).reverse.takeWhile fun i => i.kind != 4 && i.kind != 5 && i.kind != 6).length else pos
  let after := if pkt then pos + ((h.items.drop pos).takeWhile fun i => i.kind != 4 && i.kind != 5).length + 1 else pos + n
  let lost := (h.items.drop before).take (after - before)
  if lost = [] then h else
  let c := if pkt then 1 else lost.length
  { h with items := h.items.take before ++ [({ ue := true, count := c, first := t, last := t } : Marker).item] ++ h.items.drop after,
           markers := (h.markers + 1) % 2 ^ 32, dropped := (h.dropped + c) % 2 ^ 32 }

/-- An image's unit is loaded again from xSPI flash and verified: it can be read (Table UND-2). -/
def State.reload (s : State) (page unit : Nat) : State :=
  let h := s.page page
  s.setPage page { h with poison := h.poison.filter fun u => u != unit, fresh := if h.unwritten unit then unit :: h.fresh else h.fresh }
/-- The outcome, for the user of a unit, of a read that gives no data (Table UND-2). While row 5 is broken the reload of an image waits for lent
bandwidth (R289). -/
def State.undLoss (s : State) (t page unit : Nat) (u : UndUse) : State :=
  match u with
  | .deskew d x n =>
    let h := s.pr d x
    let p := h.ring
    let v := h.path p
    s.setPr d x (h.setPath p { v with frames := v.frames.map fun f => if f.ring ∧ f.seq = n then { f with bad := true } else f })
  | .checkpoint => { s with red := { s.red with bufBad := true } }
  | .spill q pos n => (s.qset t q ((s.q q).lose t pos n)).countDrop t (s.q q).group
  | .bin e k =>
    let h := s.pmE e
    let f (b : BinRec) : BinRec := { b with incomplete := true, storeLost := true }
    s.setPmE e (if k = 0 then { h with cur15 := f h.cur15 }
      else if k ≤ 96 then { h with hist15 := h.hist15.modify (k - 1) f }
      else if k = 97 then { h with cur24 := f h.cur24 } else { h with hist24 := h.hist24.modify (k - 98) f })
  | .event n => { s with evl := { s.evl with ring := s.evl.ring.filter fun p => p.2.seq != n } }
  | .image =>
    if s.rsvBroken 5 0 then { s with und := { s.und with reloads := (page, unit) :: s.und.reloads.filter fun p => p != (page, unit) } }
    else s.reload page unit
  | .none => s

/-- The place read is one of the user's: a ring's frame lies in its slot (R293), every other user in its own row. -/
def State.useFits (s : State) (page unit : Nat) (u : UndUse) : Bool :=
  match s.pageRsv page with
  | none => u == .none
  | some (row, k) =>
    match u with
    | .none => true
    | .deskew d x n => row == d && k == x &&
        (List.range 60).any fun j => s.slotBurst d x n (4 * j) == some (page, unit)
    | .checkpoint => row == 2
    | .image => row == 5
    | .bin _ _ | .event _ => row == 6
    | .spill q _ _ => row == s.spillRow (s.q q).group && k == (s.q q).group

/-- How a read ends, by the symbols in error (R275): up to 3 are corrected, 4 or 5 are found uncorrectable. Beyond 5 the spec gives no outcome:
a free value decides whether the read is found uncorrectable or passes for a corrected one, whose data are then free.
(DESIGN CHOICE, log entry 161) -/
inductive ReadEnd
  | good
  | corrected
  | miscorrected
  | bad
  deriving DecidableEq, Repr
/-- The end of a read with n symbols in error. -/
def State.readEnd (s : State) (n : Nat) : State × ReadEnd :=
  if n = 0 then (s, .good) else if n ≤ 3 then (s, .corrected) else if n ≤ 5 then (s, .bad)
  else
    let (s1, b) := s.fresh 1
    (s1, if b = 0 then .bad else .miscorrected)
/-- The reservation row of a page: a read of a free page, which only the patrol scrub makes, is row 3's. (DEDUCED, log entry 67) -/
def State.rowOf (s : State) (page : Nat) : Nat := ((s.pageRsv page).map (·.1)).getD 3
/-- An uncorrectable read is counted, recorded and logged, and its user has the outcome of Table UND-2 (R279). The spec gives the event no
code. (DESIGN CHOICE, log entry 37) -/
def State.undBad (s : State) (t page unit : Nat) (u : UndUse) : State :=
  let row := s.rowOf page
  let s2 := (s.cinc Ctr.UND_UNCORR).pulse t Reg.UND_LIVE_ECC_UNCORR 0
  let s3 := ((s2.setWord Reg.UND_UE_ADDR (page + unit * 2 ^ 16)).setWord Reg.UND_UE_USE
    (row + 16 * b2n ((s.page page).poison.contains unit))).setDtsWords Reg.UND_UE_DTS0 t
  let (s4, code) := s3.fresh 16
  let pc := pcOf page
  let s5 := { s4 with und := { s4.und with ue := tput (fun _ => []) s4.und.ue pc (t :: lately (tget (fun _ => []) s4.und.ue pc) t (sec 1)) } }
  let s6 := s5.log t code row (page + unit * 2 ^ 16)
  (if s.useFits page unit u then s6.undLoss t page unit u else s6).emit (.underpass row none)
/-- A corrected read is counted (R276, R278). -/
def State.undCorr (s : State) (t page : Nat) (scrub : Bool) : State :=
  let h := s.page page
  let s3 := (s.cinc Ctr.UND_CORR).pulse t Reg.UND_LIVE_ECC_CORR 0
  (if scrub then s3.cinc Ctr.UND_SCRUB_CORR else s3).setPage page { h with ce := t :: lately h.ce t (sec 86400) }
/-- One read of a burst, with the corrections the stack itself reports: a unit lost with its pseudo-channel and not written since has the outcome
of Table UND-2 alone (R281), a poisoned one, or one whose errors are too many, that of R279, every other gives its data (R276). -/
def State.undRead (s : State) (t page unit burst : Nat) (res : UndRes) (onDie : Nat) (scrub : Bool) (u : UndUse) : State :=
  let row := s.rowOf page
  let (s1, e) := (s.cadd Ctr.UND_ON_DIE_CORR onDie).readEnd res.symbols
  if (s.page page).unwritten unit then
    (if s1.useFits page unit u then s1.undLoss t page unit u else s1).emit (.underpass row none)
  else if (s.page page).poison.contains unit ∨ e = .bad then s1.undBad t page unit u
  else
    let s2 := if e = .good then s1 else s1.undCorr t page scrub
    if scrub then s2
    else if e = .miscorrected then
      let (s3, x) := s2.fresh 512
      s3.emit (.underpass row (some (leBytes 64 x)))
    else s2.emit (.underpass row (some (s.burst page unit burst)))

/-- A burst of a working pseudo-channel of a page in use by the device. -/
def State.burstOk (s : State) (page unit burst : Nat) : Bool :=
  decide (page < 49152 ∧ unit < 8192 ∧ burst < 4) && s.pcUp (pcOf page) && !s.und.retired.contains page

/-- UNDERPASS_READ (R276, R279): a user reads a burst. The last burst of a ring's slot ends the reading of the slot: one that fails its FCRC is an
uncorrectable read (R296). A stack that retrains gives its readers the outcome of Table UND-2 (19 R546). (DEDUCED, log entry 67) -/
def underpassReadEffect (t page unit burst : Nat) (res : UndRes) (onDie : Nat) (u : UndUse) (s : State) : State :=
  let failed : Bool := match u with
    | .deskew d x n => s.slotBurst d x n 239 == some (page, unit) && burst == 3 && s.fcrcFails d x n
    | _ => false
  if s.burstOk page unit burst then
    if failed ∧ ¬ (s.page page).unreadable unit ∧ res.symbols ≤ 3 then (s.cadd Ctr.UND_ON_DIE_CORR onDie).undBad t page unit u
    else s.undRead t page unit burst res onDie false u
  else if page < 49152 ∧ ¬ s.pcUp (pcOf page) ∧ s.useFits page unit u then s.undLoss t page unit u else s

/-- UNDERPASS_WRITE (R277, R281): a user writes a burst; the unit can be read again. -/
def underpassWriteEffect (_t page unit burst : Nat) (b : List Byte) (s : State) : State :=
  if ¬ s.burstOk page unit burst then s else
  s.storeBurst page unit burst b

/-- The corrected reads within 24 h that retire a page. -/
def State.retireCe (s : State) : Nat := max 1 (s.rget Reg.UND_CFG_RETIRE_CE)

/-- A page's contents and marks at another page; units found unreadable are poisoned there (R278, R280). -/
def State.copyPage (s : State) (old new : Nat) (bad : List Nat) : State :=
  let h := s.page old
  let lost := if h.lost then (List.range 8192).filter fun u => !h.fresh.contains u else []
  (s.relay [old] [new]).setPage new { poison := (h.poison ++ lost ++ bad).eraseDups }

/-- PAGE_RETIRE (R278, R280): a page has collected RETIRE_CE corrected reads; `bad` are the units its copy found unreadable. The free page is one of
its own pseudo-channel where there is one, so that no other page of the region moves (R273). The spec gives the event no code; it names both
pages. (DEDUCED, log entry 143) -/
def pageRetireEffect (t page : Nat) (bad : List Nat) (s : State) : State :=
  if ¬ s.burstOk page 0 0 ∨ (lately (s.page page).ce t (sec 86400)).length < s.retireCe then s
  else if s.freePages = 0 then s.live t Reg.UND_LIVE_NO_SPARE_PAGE 0 true
  else
    let kept := (s.pageRsv page).elim [] fun r => (s.rsv r.1 r.2).pages.filter fun p => p != page
    let (s1, l) := match freeOf s.usedPages (pcOf page) with
      | [] => s.takePages 1 kept
      | g :: _ => (s, [g])
    let new := l.headD page
    let s2 := match s1.pageRsv page with
      | none => s1
      | some (row, k) =>
        let h := s1.rsv row k
        (((s1.clearPages [new]).copyPage page new bad).setRsv row k { h with pages := h.pages.map fun p => if p = page then new else p }).inOrder row k
    let s3 := { s2 with und := { s2.und with retired := page :: s2.und.retired } }
    let (s4, code) := s3.fresh 16
    (((s4.log t code page new).cinc Ctr.UND_PAGE_RETIRE).pulse t Reg.UND_LIVE_PAGE_RETIRED 0).undShow t

/-! ### Pseudo-channel and stack failures (R281 to R283) -/

/-- A region with the pages that are lost replaced, each by the next of l; the others keep their places, and so their units (R281). -/
def replacePages (lost : Nat → Bool) : List Nat → List Nat → List Nat
  | [], _ => []
  | p :: r, l => if ¬ lost p then p :: replacePages lost r l else match l with
    | [] => replacePages lost r []
    | q :: m => q :: replacePages lost r m
/-- A region replaces the pages it has lost with pseudo-channels pcs (R281, R272), and is in order again (R273). (DEDUCED, log entry 143) -/
def State.replaceLost (s : State) (pcs : List Nat) (row k : Nat) : State :=
  let h := s.rsv row k
  let keep := h.pages.filter fun p => !pcs.contains (pcOf p)
  let n := h.pages.length - keep.length
  if n = 0 then s else
  let (s1, l) := (s.setRsv row k { h with pages := keep }).takePages n keep
  let s2 := l.foldl (fun z p => z.setPage p { lost := true }) (s1.clearPages l)
  (s2.setRsv row k { s2.rsv row k with pages := replacePages (fun p => pcs.contains (pcOf p)) h.pages l }).inOrder row k

/-- A stack fails as a whole: a device fault (R283). -/
def State.stackFail (s : State) (t q : Nat) : State :=
  ((s.rsetb (Reg.UND_STACK_FAILED q) true).live t Reg.UND_LIVE_STACK_FAIL 0 true).deviceFault t

/-- Pseudo-channels are lost: their pages, the ceiling, the shortage (R281, R288). -/
def State.pcLost (s : State) (t : Nat) (l : List Nat) : State :=
  let s1 := l.foldl (fun z k => z.clearPages ((List.range 384).map fun j => 384 * k + j)) s
  let s2 := (s1.und.rsv.map (·.1)).foldl (fun z k => z.replaceLost l (k / 65536) (k % 65536)) s1
  (s2.undShed t).undShow t

/-- PC_FAIL (R281): pseudo-channel k is declared failed; `cause` 0 PCFAIL_UE uncorrectable reads within 1 s, 1 lost training, 2
parity errors for 1 ms. The spec gives the event no code. (DESIGN CHOICE, log entry 37) -/
def pcFailEffect (t k cause : Nat) (s : State) : State :=
  if 128 ≤ k ∨ ¬ s.pcUp k ∨
      (cause = 0 ∧ (lately (tget (fun _ => []) s.und.ue k) t (sec 1)).length < max 1 (s.rget Reg.UND_CFG_PCFAIL_UE)) then s else
  let q := k / 32
  let s1 := (s.rsetb (pcFailBit k) true).rset (Reg.UND_STACK_PC_WORKING q) (s.rget (Reg.UND_STACK_PC_WORKING q) - 1)
  let (s2, code) := (s1.cinc Ctr.UND_PC_FAILS).fresh 16
  let s3 := (s2.log t code k cause).pcLost t [k]
  if ((List.range 32).any fun j => s3.pcUp (32 * q + j)) then s3 else s3.stackFail t q

/-! ### Service windows (R286) -/

/-- Usable bits of a pseudo-channel in a window of 1 µs: its part of the ceiling (R284). -/
def windowBits : Nat := 255000
/-- A reservation's entitlement in a window of pseudo-channel pc, in bits: its bandwidth by the share of its pages there; row 3, which
has none, by the share of the working pseudo-channels. -/
def State.entitled (s : State) (pc : Nat) (r : Nat × RsvH) : Nat :=
  if r.2.broken then 0 else
  let sh : Q := if r.1 / 65536 = 3 then qmk 1 (max 1 s.pcW)
    else qmk ((r.2.pages.filter fun p => pcOf p == pc).length : Nat) (max 1 r.2.pages.length)
  (qfloor (qmul r.2.bw sh)).toNat
/-- One reservation is served: what it waits for, at most `most`, at most what is left. -/
def serve (left want most : Nat) : Nat := min left (min want most)
/-- A pass over requests in row order: (key, waiting, granted); `most` says what each may get. -/
def servePass (most : Nat → Nat) : Nat → List (Nat × Nat × Nat) → Nat × List (Nat × Nat × Nat)
  | left, [] => (left, [])
  | left, (k, w, g) :: r =>
    let x := serve left w (most k)
    let p := servePass most (left - x) r
    (p.1, (k, w - x, g + x) :: p.2)

/-- Image reloads that waited for lent bandwidth of a pseudo-channel are made (R289). -/
def State.reloadsOf (s : State) (pc : Nat) : State :=
  let l := s.und.reloads.filter fun p => pcOf p.1 == pc
  l.foldl (fun z p => z.reload p.1 p.2)
    ({ s with und := { s.und with reloads := s.und.reloads.filter fun p => pcOf p.1 != pc } } : State)
/-- SERVICE_WINDOW (R286): a window of pseudo-channel pc ends; `demand` lists, in row order, reservations and the bits that waited. What is left
is lent to the image reloads that wait (R289). -/
def serviceWindowEffect (t pc : Nat) (demand : List (Nat × Nat)) (s : State) : State :=
  if ¬ s.pcUp pc ∨ 128 ≤ pc ∨ t % us 1 ≠ 0 then s else
  let req := s.und.rsv.filterMap fun r => (demand.find? fun p => p.1 == r.1).map fun p => (r.1, p.2, 0)
  let ent (k : Nat) : Nat := s.entitled pc (k, s.rsv (k / 65536) (k % 65536))
  let p1 := servePass ent windowBits req
  let p2 := servePass (fun _ => windowBits) p1.1 p1.2
  let s1 := p2.2.foldl (fun z x => z.setRsv (x.1 / 65536) (x.1 % 65536) { z.rsv (x.1 / 65536) (x.1 % 65536) with short := x.2.1 != 0 }) s
  let s2 := if p2.1 = 0 then s1 else s1.reloadsOf pc
  (s2.requeue t).emit (.service pc (p2.2.map fun x => (x.1, x.2.2)))

/-- UNDERPASS_READ (R276). -/
def execUnderpassRead (t page unit burst : Nat) (res : UndRes) (onDie : Nat) (u : UndUse) : State → Host.Outcome State Fault Refusal :=
  event t (underpassReadEffect t page unit burst res onDie u)
/-- UNDERPASS_WRITE (R277). -/
def execUnderpassWrite (t page unit burst : Nat) (b : List Byte) : State → Host.Outcome State Fault Refusal :=
  event t (underpassWriteEffect t page unit burst b)
/-- PAGE_RETIRE (R278). -/
def execPageRetire (t page : Nat) (bad : List Nat) : State → Host.Outcome State Fault Refusal := event t (pageRetireEffect t page bad)
/-- PC_FAIL (R281). -/
def execPcFail (t k cause : Nat) : State → Host.Outcome State Fault Refusal := event t (pcFailEffect t k cause)
/-- SERVICE_WINDOW (R286). -/
def execServiceWindow (t pc : Nat) (demand : List (Nat × Nat)) : State → Host.Outcome State Fault Refusal :=
  event t (serviceWindowEffect t pc demand)

end Sys2Proof.Machine
end

