-- ==== Sys2Proof/Machine/Timing.lean ====
section
/-! DEFINITION. References, DPLLs and device time (11 R333 to R371). Offsets are counted in 10^-12. -/
namespace Sys2Proof.Machine
open Sys2Proof

/-! ### References (R333 to R342) -/

/-- A reference. -/
def State.ref (s : State) (r : Nat) : RefH := tget (fun _ => {}) s.tim.refs r
/-- A reference replaced. -/
def State.setRef (s : State) (r : Nat) (h : RefH) : State := { s with tim := { s.tim with refs := tput (fun _ => {}) s.tim.refs r h } }
/-- A DPLL. -/
def State.dp (s : State) (d : Nat) : DpllH := tget (fun _ => {}) s.tim.dps d
/-- A DPLL replaced. -/
def State.setDp (s : State) (d : Nat) (h : DpllH) : State := { s with tim := { s.tim with dps := tput (fun _ => {}) s.tim.dps d h } }
/-- QSTATE: 0 DISQUALIFIED, 1 QUALIFYING, 2 QUALIFIED. -/
def State.qstate (s : State) (r : Nat) : Nat := s.rget (Reg.TIM_REF_STAT_QSTATE r)
/-- The monitors of a reference run. -/
def State.refEn (s : State) (r : Nat) : Bool := decide (r < 272) && s.rbit (Reg.TIM_REF_CFG_EN r)
/-- A 1PPS reference. -/
def State.refPps (s : State) (r : Nat) : Bool := decide (r < 16) && s.rget (Reg.TIM_REF_CFG_RATE r) == 0
/-- OCXO_LOST holds (R337). -/
def State.ocxoLost (s : State) : Bool := s.rbit Reg.TIM_LIVE_OCXO_LOST
/-- REJECT in 10^-12. -/
def State.reject (s : State) : Nat := 100000 * s.rget Reg.TIM_MON_CFG_REJECT_DPPM
/-- ACCEPT in 10^-12, at least 0.5 ppm below REJECT (R342). -/
def State.accept (s : State) : Nat := 100000 * min (s.rget Reg.TIM_MON_CFG_ACCEPT_DPPM) (s.rget Reg.TIM_MON_CFG_REJECT_DPPM - 5)
/-- The soft reject (R349). -/
def State.softReject (s : State) : Nat := s.reject * (5 * s.rget Reg.TIM_MON_CFG2_SOFT_PCT5) / 100

/-- The lane rate of a line interface type in Hz (04 Table LIN-2). (DESIGN CHOICE, log entry 84) -/
def lineHz (ty : Nat) : Nat :=
  match ty with
  | 1 | 4 | 7 => 111810000000
  | 2 | 5 | 8 => 55905000000
  | 3 | 6 | 9 => 223620000000
  | 15 => 27952000000
  | _ => 0
/-- The nominal rate of a reference in Hz (R334, R335); 0 for none. -/
def State.refHz (s : State) (r : Nat) : Nat :=
  if r < 16 then
    match s.rget (Reg.TIM_REF_CFG_RATE r) with
    | 0 => 1
    | 1 => 2048000
    | 2 => 10000000
    | 3 => 25000000
    | 4 => 125000000
    | 5 => 156250000
    | _ => s.rget (Reg.TIM_REF_HZ_HZ r)
  else if r < 144 then ((s.laneLif (r - 16)).map fun i => lineHz (s.lifType i)).getD 0
  else
    match (s.sysGrp (s.rget (Reg.TIM_LREF_MAP_LANE (r - 144)) / 8)).mode with
    | 1 => 106250000000
    | 2 => 224000000000
    | _ => 0
/-- The most edges of a good window: 2 × (⌈W ÷ T⌉ + 1), W 1 µs or 1.25 periods (R338). -/
def maxEdges (hz : Nat) : Nat := 2 * (max ((hz + 999999) / 1000000) 2 + 1)
/-- The gates of the reject dwell (R339). -/
def State.rejGates (s : State) (r : Nat) : Nat := if s.refPps r then 2 else s.rget Reg.TIM_MON_CFG2_REJ_DWELL

/-- An event of the timing chapter, none of which has a code in the spec: SRC and DETAIL as given, the code open. -/
def State.timEvent (s : State) (t src detail : Nat) : State :=
  let (s1, code) := s.fresh 16
  s1.log t code src detail

/-! ### Status pins (R359): 0 to 15 XREF_OK, 16 to 23 DP_LOCK, 24 to 31 DP_HOLD -/

/-- A pin at t whose state has been `want` since its latest change of state: it changes at once, or when its level has held for 10 µs.
(DESIGN CHOICE, log entry 136) -/
def StatPin.at_ (p : StatPin) (want : Bool) (t : Nat) : StatPin :=
  if p.level = want then p else
  match p.since with
  | none => { level := want, since := some t }
  | some a => if t < a + us 10 then p else { level := want, since := some t }
/-- A pin at t whose state was `old` until t and is `new` from then on: a change to `old` that the hold had put off comes first, at its end. -/
def StatPin.follow (p : StatPin) (old new : Bool) (t : Nat) : StatPin :=
  (p.at_ old (match p.since with | some a => if a + us 10 ≤ t then a + us 10 else t | none => t)).at_ new t
/-- A status pin. -/
def State.statPin (s : State) (k : Nat) : StatPin := tget (fun _ => {}) s.tim.stat k
/-- The state behind status pin k changes at t. -/
def State.statShow (s : State) (t k : Nat) (old new : Bool) : State :=
  if old = new then s
  else { s with tim := { s.tim with stat := tput (fun _ => {}) s.tim.stat k ((s.statPin k).follow old new t) } }

/-! ### DPLL states (Table TIM-4, R355 to R357) -/

/-- STATE of a DPLL. -/
def State.dpState (s : State) (d : Nat) : Nat := s.rget (Reg.TIM_DP_STAT_STATE d)
/-- A DPLL changes state: TIM_LIVE and its pins follow. -/
def State.dpTo (s : State) (t d st : Nat) : State :=
  let old := s.dpState d
  if old = st then s else
  let s0 := (s.statShow t (16 + d) (old == 3) (st == 3)).statShow t (24 + d) (old == 4) (st == 4)
  let s1 := (s0.rset (Reg.TIM_DP_STAT_STATE d) st).setDp d { s.dp d with since := t, dwell := t, above := none }
  let s2 := (s1.live t ⟨Reg.TIM_LIVE, d, 1⟩ 0 (st != 3)).live t ⟨Reg.TIM_LIVE, 8 + d, 1⟩ 0 (st == 4)
  if st = 4 then s2.cinc Ctr.TIM_HOLDOVER_ENTRIES else s2
/-- An offset in 10^-12 limited to REJECT (R354). -/
def State.dpLimit (s : State) (f : Int) : Int :=
  let m : Int := s.reject
  if f < -m then -m else if m < f then m else f
/-- The output offset of a DPLL, limited to REJECT (R354), in TIM_DP_FREQ; while OCXO_LOST holds it keeps its last one (R337). -/
def State.dpFreq (s : State) (d : Nat) (f : Int) : State :=
  if s.ocxoLost then s else s.setWord (Reg.TIM_DP_FREQ d) (toField (s.dpLimit f / 10) 32)
/-- The output offset of a DPLL as TIM_DP_FREQ shows it, in 10^-12. -/
def State.dpOut (s : State) (d : Nat) : Int := 10 * sext (s.wordN (Reg.TIM_DP_FREQ d)) 32
/-- REJECT changes: no DPLL's output lies beyond it (R354). -/
def State.dpLimitAll (s : State) : State := (List.range 8).foldl (fun z d => z.dpFreq d (z.dpOut d)) s
/-- The selected reference of a DPLL. -/
def State.selRef (s : State) (d : Nat) : Nat := s.rget (Reg.TIM_DP_STAT_SEL_REF d)

/-- The holdover frequency (R356): the mean of the seconds in NARROW or LOCKED among the HIST that end 2 s before bridging began. -/
def State.holdFreq (s : State) (t d : Nat) : Option Int :=
  let h := s.dp d
  let b := secOf (if s.rbit (Reg.TIM_DP_STAT_BRIDGE d) then h.bridge else t)
  let n := 10 * s.rget (Reg.TIM_DP_CFG_HIST d)
  let l := (h.hist.filter fun p => decide (p.1 + 2 < b ∧ b ≤ p.1 + 2 + n)).map (·.2)
  if l = [] then none else some (l.sum / (l.length : Int))

/-- Selection is lost (Table TIM-4, R355): HOLDOVER with 10 s of history, else FREERUN. -/
def State.dpLost (s : State) (t d : Nat) : State :=
  let long := decide (10 ≤ (s.dp d).hist.length)
  let f := s.holdFreq t d
  let s1 := ((s.rset (Reg.TIM_DP_STAT_SEL_REF d) 0x1FF).rset (Reg.TIM_DP_STAT_SEL_CAND d) 0).rsetb (Reg.TIM_DP_STAT_BRIDGE d) false
  if s1.dpState d = 0 ∨ s1.dpState d = 4 then s1
  else if long then (match f with | some x => (s1.dpTo t d 4).dpFreq d x | none => s1.dpTo t d 4)
  else (s1.dpTo t d 0).dpFreq d 0

/-! ### Selection (R343 to R351) -/

/-- A candidate of a DPLL: slot, reference, rank. -/
structure Cand where
  slot : Nat
  ref : Nat
  rank : Nat
  deriving DecidableEq, Repr

/-- Reference r is fit for DPLL d (R343, R333, R363): QUALIFIED; DP1 takes 1PPS only; the outputs of DP0 and DP1, which have no monitors,
count as QUALIFIED. -/
def State.refFit (s : State) (d r : Nat) : Bool :=
  if r < 272 then s.qstate r == 2 && (d != 1 || s.refPps r)
  else decide (2 ≤ d) && (r == 0x110 || r == 0x111)
/-- The enabled slots of a DPLL. -/
def State.cands (s : State) (d : Nat) : List Cand :=
  (List.range 16).filterMap fun k =>
    if s.rbit (Reg.TIM_DP_CAND_EN d k) then some ⟨k, s.rget (Reg.TIM_DP_CAND_REF d k), s.rget (Reg.TIM_DP_CAND_RANK d k)⟩ else none
/-- The eligible slots of a DPLL (R343): those whose reference is fit and not barred by early fall-back, which bars one only while another
is eligible (R349). (DEDUCED, log entry 82) -/
def State.eligible (s : State) (d : Nat) : List Cand :=
  let l := (s.cands d).filter fun c => s.refFit d c.ref
  let m := l.filter fun c => !(s.dp d).soft.contains c.ref
  if m = [] then l else m

/-- The latest one-second offset of a reference; of a DPLL's output, its frequency. -/
def State.refOfs (s : State) (r : Nat) : Option Int :=
  if r < 272 then (s.ref r).ofs else some (s.dpOut (r - 0x110))
/-- A number in its place of an ascending list. -/
def intInsert (x : Int) : List Int → List Int
  | [] => [x]
  | y :: r => if x ≤ y then x :: y :: r else y :: intInsert x r
/-- Twice the median of the one-second offsets of all QUALIFIED references (R347). -/
def State.median2 (s : State) : Int :=
  let l := ((s.tim.refs.filter fun p => s.qstate p.1 == 2).filterMap fun p => p.2.ofs).foldr intInsert []
  let n := l.length
  if n = 0 then 0 else l.getD ((n - 1) / 2) 0 + l.getD (n / 2) 0
/-- The candidate whose offset is nearest the median, the lower index on equal distance (R347). -/
def State.nearest (s : State) (l : List Cand) : Option Cand :=
  let m := s.median2
  let dist (c : Cand) : Nat := (2 * (s.refOfs c.ref).getD 0 - m).natAbs
  l.foldl (fun b c => match b with
    | none => some c
    | some x => if dist c < dist x ∨ (dist c = dist x ∧ c.ref < x.ref) then some c else some x) none

/-- The automatic choice among eligible slots (R344, R347): the one selected stays unless REVERTIVE prefers a lower rank. -/
def State.autoPick (s : State) (d : Nat) : Option Cand :=
  let l := s.eligible d
  let best := l.foldl (fun m c => match m with | none => some c.rank | some r => some (min r c.rank)) none
  let top := l.filter fun c => some c.rank == best
  match l.find? fun c => c.ref == s.selRef d with
  | some c => if s.rbit (Reg.TIM_DP_CFG_REVERTIVE d) ∧ some c.rank ≠ best then s.nearest top else some c
  | none => s.nearest top

/-- REF_SEL_EN is taken as asserted (R346). -/
def State.refSelEn (s : State) : Bool := s.pinLevel 52 && !s.pinSafe 52
/-- The level a REF_SEL input's consumer takes: the one held before a fault (21 Table PKG-3). (DEDUCED, log entry 119) -/
def State.refSelBit (s : State) (k : Nat) : Bool := if s.pinSafe (48 + k) then (s.pin (48 + k)).held else s.pinLevel (48 + k)
/-- The reference the REF_SEL pins name. -/
def State.refSel (s : State) : Nat := ((List.range 4).map fun k => b2n (s.refSelBit k) * 2 ^ k).sum

/-- Some REF_SEL input is in CHATTER. -/
def State.refSelChat (s : State) : Bool := [48, 49, 50, 51].any fun i => s.rbit (pinBit Reg.PWR_IN_CHATTER i)
/-- REF_SEL goes into or out of CHATTER: the reference DP0 has when it begins is kept (R346). -/
def State.refSelHold (s : State) : State :=
  if ¬ s.refSelChat then { s with tim := { s.tim with kept := none } }
  else if s.tim.kept.isNone then { s with tim := { s.tim with kept := some (s.selRef 0) } }
  else s
/-- The manual reference of DP0 under REF_SEL_EN (R346): the one the pins name; while they chatter, the one DP0 had when that began. -/
def State.pinRef (s : State) : Nat := if s.refSelChat then s.tim.kept.getD (s.selRef 0) else s.refSel
/-- The manual reference of a DPLL as a candidate: that of the pins, or of MAN_CAND. -/
def State.manCand (s : State) (d : Nat) : Option Cand :=
  if d = 0 ∧ s.refSelEn then
    (if s.refFit 0 s.pinRef then some ⟨(((s.cands 0).find? fun c => c.ref == s.pinRef).map (·.slot)).getD 0, s.pinRef, 0⟩ else none)
  else (s.eligible d).find? fun c => c.slot == s.rget (Reg.TIM_DP_CFG_MAN_CAND d)
/-- A DPLL is in manual mode, by its mode or by the pins. -/
def State.manual (s : State) (d : Nat) : Bool := (d == 0 && s.refSelEn) || s.rget (Reg.TIM_DP_CFG_MODE d) == 1
/-- DP1 is steered by the host (R363). -/
def State.hostMode (s : State) : Bool := s.rget (Reg.TIM_DP_CFG_MODE 1) == 2
/-- A steering register was written within the 4 s before t (R363). -/
def State.steeredAt (s : State) (t : Nat) : Bool := s.tim.steer.any fun a => decide (t < a + sec 4)
/-- The offset TIM_DP1_ADJ_FREQ asks for, in 10^-12; its unit is 2^-40 (R371). -/
def State.hostFreq (s : State) : Int := sext (s.wordN Reg.TIM_DP1_ADJ_FREQ) 32 * 1000000000000 / (2 ^ 40 : Int)
/-- DP1 in host mode at t (R363): no reference, the frequency the host gave, LOCKED where steered within 4 s, else HOLDOVER. -/
def State.hostSteers (s : State) (t : Nat) : State :=
  let s1 := ((s.rset (Reg.TIM_DP_STAT_SEL_REF 1) 0x1FF).rset (Reg.TIM_DP_STAT_SEL_CAND 1) 0).rsetb (Reg.TIM_DP_STAT_BRIDGE 1) false
  let s2 := s1.rsetb (Reg.TIM_DP_STAT_MAN_FALLBACK 1) false
  if s2.steeredAt t then (s2.dpTo t 1 3).dpFreq 1 s2.hostFreq else s2.dpTo t 1 4

/-- A DPLL takes a reference (R351, R356, R357): from FREERUN or HOLDOVER it enters ACQUIRE. The event names both references and the
cause. -/
def State.dpTake (s : State) (t d : Nat) (c : Cand) (cause : Nat) : State :=
  let old := s.selRef d
  let st := s.dpState d
  if old = c.ref then s.rset (Reg.TIM_DP_STAT_SEL_CAND d) c.slot else
  let s1 := ((s.rset (Reg.TIM_DP_STAT_SEL_REF d) c.ref).rset (Reg.TIM_DP_STAT_SEL_CAND d) c.slot).rsetb (Reg.TIM_DP_STAT_BRIDGE d) false
  let s2 := s1.pulse t Reg.TIM_LIVE_SEL_CHG 0
  let s3 := if st = 0 then s2 else (s2.cinc Ctr.TIM_SEL_CHANGES).timEvent t d (old + c.ref * 2 ^ 16 + cause * 2 ^ 32)
  if st = 0 ∨ st = 4 then s3.dpTo t d 1 else s3

/-- DPLL d selects (R344 to R347, R355): cause 0 qualification, 1 command, 2 pins, 3 early fall-back. -/
def State.dpSelect (s : State) (t d cause : Nat) : State :=
  if d = 1 ∧ s.hostMode then s.hostSteers t else
  let man := s.manual d
  let m := s.manCand d
  let s1 := (s.rsetb (Reg.TIM_DP_STAT_PIN_SEL d) (d == 0 && s.refSelEn)).rsetb (Reg.TIM_DP_STAT_MAN_FALLBACK d) (man && m.isNone)
  match (if man ∧ m.isSome then m else s1.autoPick d) with
  | some c => s1.dpTake t d c cause
  | none => s1.dpLost t d
/-- A reference is due to be disqualified (R338, R339): 4 bad windows in a row give cause 1, every gate of the reject dwell outside
gives 2. -/
def State.disqDue (s : State) (r : Nat) : Option Nat :=
  if ¬ s.refEn r then none
  else if 4 ≤ (s.ref r).bad then some 1
  else if s.rejGates r ≤ (s.ref r).rej ∧ ¬ s.ocxoLost then some 2
  else none
/-- The accept dwell of a QUALIFYING reference has run at t (R340). -/
def State.qualDue (s : State) (t r : Nat) : Bool :=
  s.refEn r && s.qstate r == 1 && decide ((s.ref r).acc + sec (s.rget Reg.TIM_MON_CFG_ACC_DWELL_S) ≤ t) && !s.ocxoLost
/-- A reference a DPLL may name in a candidate slot (R333). -/
def refNamed (d r : Nat) : Bool := decide (r < 272) || (decide (2 ≤ d) && (r == 0x110 || r == 0x111))
/-- A waiting command of DTS t that will make DPLL d select: a qualification change, the pins, a write of its mode or candidates. -/
def State.willSelect (s : State) (t d : Nat) (c : Instr) : Bool :=
  let lost (r : Nat) : Bool := s.refEn r && s.qstate r != 0
  match c with
  | .referenceDisqualify u r => u == t && (s.disqDue r).isSome && s.qstate r != 0
  | .referenceQualified u r => u == t && s.qualDue t r
  | .losDeclare u i => u == t && s.losDue t i && !s.losOn i && (s.lifLaneList i).any fun l => lost (16 + l)
  | .cdrLockChange u l on => u == t && !on && decide (128 ≤ l ∧ l < 288) &&
      (List.range 128).any fun j => s.rget (Reg.TIM_LREF_MAP_LANE j) == l - 128 && lost (144 + j)
  | .conditionedInputTransition u i level => u == t && d == 0 && decide (48 ≤ i ∧ i < 53) && s.pinMoves i level
  | .stuck u i => u == t && d == 0 && decide (48 ≤ i ∧ i < 53) && s.stuckDue t i
  | .chatterEnd u i => u == t && d == 0 && decide (48 ≤ i ∧ i < 53) && s.chatterPast t i
  | .registerWrite u a v => u == t && a.size == 4 && (s.accessFault a).isNone && (a.off == Reg.TIM_DP_CFG d ||
      (decide (Reg.TIM_DP_CAND d 0 ≤ a.off ∧ a.off ≤ Reg.TIM_DP_CAND d 15) && refNamed d (v % 512)))
  | _ => false
/-- Every DPLL selects; one that a waiting command of the same DTS will make select does so then, once (R350). -/
def State.dpSelectAll (s : State) (t cause : Nat) : State :=
  (List.range 8).foldl (fun z d => if s.pending.any (s.willSelect t d) then z else z.dpSelect t d cause) s

/-- DPLLs that follow reference r stop following it (R355). -/
def State.bridge (s : State) (t r : Nat) : State :=
  (List.range 8).foldl (fun z d => if z.selRef d = r ∧ ¬ z.rbit (Reg.TIM_DP_STAT_BRIDGE d) then
    (z.rsetb (Reg.TIM_DP_STAT_BRIDGE d) true).setDp d { z.dp d with bridge := t } else z) s
/-- DPLLs that bridge over reference r follow it again (R355). -/
def State.unbridge (s : State) (r : Nat) : State :=
  (List.range 8).foldl (fun z d => if z.selRef d = r then z.rsetb (Reg.TIM_DP_STAT_BRIDGE d) false else z) s

/-! ### Qualification (R338 to R341) -/

/-- The level of status pin k at t (R359). -/
def State.statLevel (s : State) (k t : Nat) : Bool :=
  let want := if k < 16 then s.qstate k == 2 else if k < 24 then s.dpState (k - 16) == 3 else s.dpState (k - 24) == 4
  ((s.statPin k).at_ want t).level

/-- QSTATE changes: REF_CHG and an event. -/
def State.refTo (s : State) (t r q : Nat) : State :=
  let old := s.qstate r
  if old = q then s else
  let s0 := if r < 16 then s.statShow t r (old == 2) (q == 2) else s
  ((s0.rset (Reg.TIM_REF_STAT_QSTATE r) q).pulse t Reg.TIM_LIVE_REF_CHG 0).timEvent t r (old + q * 2 ^ 8)
/-- TIM_LIVE.DISPUTE and DRIFT follow the references. -/
def State.refFlags (s : State) (t : Nat) : State :=
  (s.live t Reg.TIM_LIVE_DISPUTE 0 (s.tim.refs.any fun p => s.rbit (Reg.TIM_REF_STAT_DISPUTE p.1))).live t Reg.TIM_LIVE_DRIFT 0
    (s.tim.refs.any fun p => s.rbit (Reg.TIM_REF_STAT_DRIFT p.1))
/-- A reference is disqualified for a cause: 1 activity, 2 frequency, 3 lane LOS. -/
def State.disqualify (s : State) (t r cause : Nat) : State :=
  let s0 := s.setRef r { s.ref r with good := 0, hist := [], calm := 0 }
  if s.qstate r = 0 then s0 else
  let s1 := ((s0.refTo t r 0).rset (Reg.TIM_REF_STAT_CAUSE r) cause).rsetb (Reg.TIM_REF_STAT_DISQ_SEEN r) true
  (s1.cinc Ctr.TIM_DISQUALIFICATIONS).dpSelectAll t 0

/-- ACTIVITY_WINDOW (R338, R340, R355): an activity window of reference r ends with `edges` edges. (DESIGN CHOICE, log entry 81) -/
def activityWindowEffect (t r edges : Nat) (s : State) : State :=
  if ¬ s.refEn r ∨ s.refHz r = 0 then s else
  let h := s.ref r
  if edges = 0 ∨ maxEdges (s.refHz r) < edges then (s.setRef r { h with bad := h.bad + 1, good := 0, acc := t }).bridge t r
  else
    let s1 := s.setRef r { h with bad := 0, good := h.good + 1 }
    if h.rej = 0 then s1.unbridge r else s1

/-- FREQUENCY_GATE (R339, R340, R355): a gate of reference r ends with its offset in 10^-12. The monitors freeze while OCXO_LOST holds
(R337). (DESIGN CHOICE, log entry 81) -/
def frequencyGateEffect (t r : Nat) (ofs : Int) (s : State) : State :=
  if ¬ s.refEn r ∨ s.ocxoLost then s else
  let h := s.ref r
  let out := decide (s.reject < ofs.natAbs)
  let h1 := { h with rej := if out then h.rej + 1 else 0, acc := if s.accept < ofs.natAbs then t else h.acc, sum := h.sum + ofs, n := h.n + 1 }
  let s1 := s.setRef r h1
  if out then s1.bridge t r else if h.bad = 0 then s1.unbridge r else s1

/-- REFERENCE_DISQUALIFY (R338, R339): 4 bad windows in a row, or every gate of the reject dwell outside. -/
def referenceDisqualifyEffect (t r : Nat) (s : State) : State :=
  match s.disqDue r with
  | some c => s.disqualify t r c
  | none => s

/-- REFERENCE_QUALIFYING (R340): 4 good windows in a row. -/
def referenceQualifyingEffect (t r : Nat) (s : State) : State :=
  if s.refEn r ∧ s.qstate r = 0 ∧ 4 ≤ (s.ref r).good then (s.refTo t r 1).setRef r { s.ref r with acc := t } else s

/-- REFERENCE_QUALIFIED (R340): the accept dwell has run. -/
def referenceQualifiedEffect (t r : Nat) (s : State) : State :=
  if s.qualDue t r then (s.refTo t r 2).dpSelectAll t 0 else s

/-! ### LOS and CDR (R341) -/

/-- The references of an interface's lanes are disqualified by its LOS (R341). -/
def State.losRefs (s : State) (t i : Nat) : State :=
  (s.lifLaneList i).foldl (fun z l => if z.refEn (16 + l) then z.disqualify t (16 + l) 3 else z) s
/-- LOS_DECLARE (04 R126, R127; R341): a source of LOS of interface i has been present for LOS_SET; while LOS stands it adds its cause bit. -/
def losDeclareEffect (t i : Nat) (s : State) : State :=
  if ¬ s.losDue t i then s
  else if s.losOn i then s.losCause t i
  else (s.losDeclare t i).losRefs t i

/-- CDR_LOCK_CHANGE (04 R127; R341): line lane l below 128, or system lane l − 128, whose references a loss disqualifies. -/
def cdrLockChangeEffect (t l : Nat) (on : Bool) (s : State) : State :=
  if l < 128 then s.lineCdr t l on
  else if l < 288 then
    let k := l - 128
    let s1 := s.setAlk k { s.alk k with cdr := on }
    if on then s1 else
    (List.range 128).foldl (fun z j => if z.rget (Reg.TIM_LREF_MAP_LANE j) = k ∧ z.refEn (144 + j) then z.disqualify t (144 + j) 3 else z)
      (s1.alDown t k 1)
  else s

/-! ### Once per second (R347 to R349) -/

/-- The value at the present second of the line fitted to one-second offsets (newest first), and its slope; none below 10 of them
(R348). (DEDUCED, log entry 82) -/
def driftLine (l : List Int) : Option (Q × Q) :=
  if l.length < 10 then none else
  let pts := l.zipIdx.map fun (y, k) => (-(k : Int), qint y)
  (lsqSlope pts).map fun b =>
    let n := l.length
    let mx := qmk (pts.foldl (fun a p => a + p.1) 0) n
    let my := qmk (l.foldl (· + ·) 0) n
    (qsub my (qmul b mx), b)

/-- The drift prediction of a reference reaches REJECT (R348). -/
def State.drifts (s : State) (h : RefH) : Bool :=
  match driftLine h.hist with
  | none => false
  | some (v, b) => qle (qint s.reject) (qabs (qadd v (qmul b (qint (10 * s.rget Reg.TIM_MON_CFG2_DRIFT_HOR : Nat)))))

/-- A reference at a whole second: its one-second offset, SOFT, DRIFT (R348). (DEDUCED, log entry 82) -/
def State.refSecond (s : State) (t r : Nat) : State :=
  let h := s.ref r
  if s.ocxoLost then s else
  let o := if h.n = 0 then none else some (h.sum / (h.n : Int))
  let h1 := { h with sum := 0, n := 0, ofs := o,
                     hist := if s.qstate r = 2 then (match o with | some x => (x :: h.hist).take 60 | none => h.hist) else [] }
  let s1 := (s.setRef r h1).setWord (Reg.TIM_REF_OFS r) (match o with | some x => toField (x / 1000) 32 | none => 0x80000000)
  let s2 := s1.rsetb (Reg.TIM_REF_STAT_SOFT r) (o.any fun x => decide (s.softReject ≤ x.natAbs))
  if s.qstate r ≠ 2 ∨ (driftLine h1.hist).isNone then s2
  else if s.drifts h1 then
    let s3 := (s2.setRef r { h1 with calm := 0 }).rsetb (Reg.TIM_REF_STAT_DRIFT_SEEN r) true
    if s3.rbit (Reg.TIM_REF_STAT_DRIFT r) then s3 else (s3.rsetb (Reg.TIM_REF_STAT_DRIFT r) true).timEvent t r 1
  else
    let s3 := s2.setRef r { h1 with calm := h1.calm + 1 }
    if 10 ≤ h1.calm + 1 ∧ s3.rbit (Reg.TIM_REF_STAT_DRIFT r) then (s3.rsetb (Reg.TIM_REF_STAT_DRIFT r) false).timEvent t r 0 else s3

/-- Two references of equal rank on one DPLL (R347). -/
def State.rankPairs (s : State) : List (Nat × Nat) :=
  ((List.range 8).flatMap fun d => (s.cands d).flatMap fun a => (s.cands d).filterMap fun b =>
    if a.ref < b.ref ∧ b.ref < 272 ∧ a.rank = b.rank then some (a.ref, b.ref) else none).eraseDups
/-- Two references differ by more than the dispute limit. -/
def State.apart (s : State) (p : Nat × Nat) : Bool :=
  match s.refOfs p.1, s.refOfs p.2 with
  | some a, some b => decide (100000 * s.rget Reg.TIM_MON_CFG2_DISPUTE_DPPM < (a - b).natAbs)
  | _, _ => false
/-- A pair comes into dispute (R347). -/
def State.disputed (s : State) (p : Nat × Nat) : Bool :=
  let ok (r : Nat) : Bool := s.qstate r == 2 && (s.refOfs r).any fun x => decide (x.natAbs ≤ s.accept)
  ok p.1 && ok p.2 && s.apart p
/-- DISPUTE of every reference follows the pairs (R347). -/
def State.refDisputes (s : State) (t : Nat) : State :=
  let l := ((s.tim.disputes.filter s.apart) ++ s.rankPairs.filter s.disputed).eraseDups
  let s1 := { s with tim := { s.tim with disputes := l } }
  (s1.tim.refs.map (·.1)).foldl (fun z r =>
    let on := l.any fun p => p.1 == r || p.2 == r
    if z.rbit (Reg.TIM_REF_STAT_DISPUTE r) = on then z else
    let z1 := (z.rsetb (Reg.TIM_REF_STAT_DISPUTE r) on).timEvent t r (2 + b2n on)
    if on then z1.rsetb (Reg.TIM_REF_STAT_DISPUTE_SEEN r) true else z1) s1

/-- Early fall-back of one DPLL (R349): the selected reference whose offset reaches the soft reject is barred until it is back within the
accept limit. -/
def State.earlyFallback (s : State) (t d : Nat) : State :=
  let h := s.dp d
  let back := h.soft.filter fun r => !((s.refOfs r).any fun x => decide (x.natAbs ≤ s.accept))
  let r := s.selRef d
  let hit := s.rbit Reg.TIM_MON_CFG2_EARLY_FB && decide (r < 272) && (s.refOfs r).any fun x => decide (s.softReject ≤ x.natAbs)
  let soft := if hit ∧ ¬ back.contains r then r :: back else back
  if soft = h.soft then s else (s.setDp d { h with soft := soft }).dpSelect t d 3

/-- A DPLL's output over the second just ended (R354, R356): that of the reference it follows; seconds in NARROW or LOCKED are its
history. -/
def State.dpSecond (s : State) (t d : Nat) : State :=
  let st := s.dpState d
  if s.ocxoLost ∨ st < 1 ∨ 3 < st ∨ s.rbit (Reg.TIM_DP_STAT_BRIDGE d) ∨ (d = 1 ∧ s.hostMode) then s else
  match s.refOfs (s.selRef d) with
  | none => s
  | some x =>
    let h := s.dp d
    let z := s.dpFreq d x
    if st = 1 then z else z.setDp d { h with hist := ((secOf t - 1, s.dpLimit x) :: h.hist).take 302 }

/-- DRIFT_EVALUATION (R347 to R349): a whole second of DTS. -/
def driftEvaluationEffect (t : Nat) (s : State) : State :=
  if t % sec 1 ≠ 0 then s else
  let s1 := ((s.tim.refs.map (·.1)).filter s.refEn).foldl (fun z r => z.refSecond t r) s
  let s2 := (s1.refDisputes t).refFlags t
  let s3 := (List.range 8).foldl (fun z d => (z.dpSecond t d).earlyFallback t d) s2
  if s3.hostMode ∧ s3.tim.slewEnd ≤ t then s3.rsetb Reg.TIM_TOD_STAT_SLEWING false else s3

/-! ### Loop steps (R352, R353), OCXO (R337), host steering (R363) -/

/-- NARROW_THR in ps. -/
def State.narrowThr (s : State) (d : Nat) : Nat := 1000 * s.rget (Reg.TIM_DP_NARROW_NARROW_THR d)
/-- The dwell of R352 has run since the DPLL entered its state or last saw an error at the threshold, and its filtered phase error, in ps, is
below it. -/
def State.dwelt (s : State) (t d : Nat) (ph : Int) : Bool :=
  decide ((s.dp d).dwell + sec (s.rget (Reg.TIM_DP_NARROW_NARROW_DWELL d)) ≤ t) && decide (ph.natAbs < s.narrowThr d)
    && !(d == 1 && s.hostMode)
/-- TIM_DP_PHASE of a DPLL. -/
def State.dpPhase (s : State) (d : Nat) (ph : Int) : State := s.setWord (Reg.TIM_DP_PHASE d) (toField ph 32)

/-- A sample of a DPLL's filtered phase error: one at or above the threshold starts the dwell anew (R352), one above ten times the
threshold begins or continues the time that R353 counts. -/
def State.dpSample (s : State) (t d : Nat) (ph : Int) : State :=
  let h := s.dp d
  (s.setDp d { h with dwell := if s.narrowThr d ≤ ph.natAbs then t else h.dwell,
                      above := if 10 * s.narrowThr d < ph.natAbs then some (h.above.getD t) else none }).dpPhase d ph
/-- DPLL_NARROW (R352): ACQUIRE steps to NARROW. -/
def dpllNarrowEffect (t d : Nat) (ph : Int) (s : State) : State :=
  if 8 ≤ d ∨ s.dpState d ≠ 1 then s
  else if s.dwelt t d ph then (s.dpTo t d 2).dpPhase d ph else s.dpSample t d ph
/-- DPLL_LOCK (R352): NARROW steps to LOCKED. (DESIGN CHOICE, log entry 81) -/
def dpllLockEffect (t d : Nat) (ph : Int) (s : State) : State :=
  if 8 ≤ d ∨ s.dpState d ≠ 2 then s
  else if s.dwelt t d ph then (s.dpTo t d 3).dpPhase d ph else s.dpSample t d ph
/-- DPLL_PHASE_LOST (R353): a sample in NARROW or LOCKED; once every sample of 100 ms lay above ten times the threshold, back to ACQUIRE
with phase build-out. (DESIGN CHOICE, log entry 81) -/
def dpllPhaseLostEffect (t d : Nat) (ph : Int) (s : State) : State :=
  if 8 ≤ d ∨ (s.dpState d ≠ 2 ∧ s.dpState d ≠ 3) ∨ (d = 1 ∧ s.hostMode) then s else
  let s1 := s.dpSample t d ph
  if (s1.dp d).above.any fun a => decide (a + ms 100 ≤ t) then (s1.dpTo t d 1).dpPhase d 0 else s1

/-- OCXO_LOST (R337): 4 windows of OCXO_P/N without an edge, a device fault. -/
def ocxoLostEffect (t : Nat) (s : State) : State := (s.live t Reg.TIM_LIVE_OCXO_LOST 0 true).deviceFault t

/-- DP1_HOST_HOLDOVER (R363): 4 s without a steering write. -/
def dp1HostHoldoverEffect (t : Nat) (s : State) : State :=
  if s.hostMode ∧ ¬ s.steeredAt t then s.dpTo t 1 4 else s

/-- A steering write: in host mode DP1 is LOCKED (R363). -/
def State.steered (s : State) (t : Nat) : State :=
  let s1 := { s with tim := { s.tim with steer := some t } }
  if s.hostMode then s1.dpTo t 1 3 else s1

/-- A write of v to TIM_DP1_ADJ_FREQ (R363): the offset in units of 2^-40, limited as R354 says at the output. -/
def State.adjFreq (s : State) (t v : Nat) : State :=
  let s1 := (s.setWord Reg.TIM_DP1_ADJ_FREQ (v % 2 ^ 32)).steered t
  if s.hostMode then s1.dpFreq 1 s1.hostFreq else s1

/-! ### Clock outputs (R361, R362) -/

/-- What a clock output does: high impedance, held low, the clock of a DPLL at a frequency in kHz, 1PPS of DP1, or nothing selected. -/
inductive ClkOut | highZ | low | clock (d khz : Nat) | pps | off
  deriving DecidableEq, Repr
/-- CLK_OUTm (R361, R362): driven while its output is owned; squelched while its source is in FREERUN, where asked. -/
def State.clkOut (s : State) (m : Nat) : ClkOut :=
  let src := s.rget (Reg.TIM_OUT_CFG_SRC m)
  let squelched (d : Nat) : Bool := s.rbit (Reg.TIM_OUT_CFG_SQ_FREERUN m) && s.dpState d == 0
  if ¬ s.rbit (Reg.TIM_OUT_CFG_OWNED m) then .highZ
  else if 1 ≤ src ∧ src ≤ 8 then (if squelched (src - 1) then .low else .clock (src - 1) (s.rget (Reg.TIM_OUT_CFG_FREQ_KHZ m)))
  else if src = 9 then (if squelched 1 then .low else .pps)
  else .off

/-- Clock output m gives 1PPS, whose rising edge falls on the instant t: a whole second of DTS (R361). -/
def State.ppsRises (s : State) (m t : Nat) : Bool := s.clkOut m == .pps && t % sec 1 == 0

/-! ### Device time (R364 to R368) -/

/-- A step of the time (R368): counted, logged with the DTS before (the record's own) and after (SRC its seconds, DETAIL its nanoseconds and
fraction), PM skips what a forward step skips. (DEDUCED, log entry 83) -/
def State.timeStep (s : State) (t new : Nat) : State :=
  let s1 := ((s.cinc Ctr.TIM_TIME_STEPS).timEvent t (secOf new) (new % sec 1)).pulse t Reg.TIM_LIVE_TIME_STEP 0
  let s2 := if t ≤ new then s1.pmForward t t new else (s1.pmFlush t).pmRestart t new
  { s2 with dts := new }
/-- The first time set (R366, 14 R435): the DTS becomes `new` and TIME_SET is set. (DEDUCED, log entry 83) -/
def State.firstSet_ (s : State) (t new : Nat) : State :=
  let s1 := ((s.pmFlush t).rsetb Reg.TIM_TOD_STAT_TIME_SET true).pmRestart t new
  { s1 with dts := new }

/-- SLEW in ns per second. -/
def State.slewRate (s : State) : Nat := 10 * s.rget Reg.TIM_TIME_CFG_SLEW
/-- STEP_THR in ticks. -/
def State.stepThr (s : State) : Nat := ns (s.rget Reg.TIM_TIME_CFG_STEP_THR)
/-- Forward steps are permitted. -/
def State.stepEn (s : State) : Bool := s.rbit Reg.TIM_TIME_CFG_STEP_EN

/-- A write of v to TIM_DP1_ADJ_PHASE (R363, R368): in host mode the DTS moves by v ns: within STEP_THR through the loop, further forward by a
step where steps are permitted, otherwise by slewing. (DEDUCED, log entry 83) -/
def State.adjPhase (s : State) (t v : Nat) : State :=
  let x := sext v 32
  let s1 := s.steered t
  if ¬ s.hostMode then s1
  else if ns x.natAbs ≤ s.stepThr then s1
  else if 0 < x ∧ s.stepEn then s1.timeStep t (t + ns x.natAbs)
  else ({ s1 with tim := { s1.tim with slewEnd := t + sec x.natAbs / s.slewRate } }).rsetb Reg.TIM_TOD_STAT_SLEWING true

/-- A valid ToD message (R365, Table TIM-5). -/
def todOk (b : List Byte) : Bool :=
  b.length == 16 && ofBe (b.take 2) == 0xA5C3 && b.getD 2 0 == 1 && (b.getD 3 0).getLsbD 0 && crc crc8 (b.take 15) == (b.getD 15 0).toNat

/-- TOD_MESSAGE (R365): a message whose last byte arrives at t; `edge` is the next edge of DP1's selected 1PPS
reference; with none selected no message is accepted. -/
def todMessageEffect (t : Nat) (b : List Byte) (edge : Nat) (s : State) : State :=
  if ¬ s.rbit Reg.TIM_TIME_CFG_TOD_EN then s
  else if ¬ s.hostMode ∧ s.selRef 1 < 16 ∧ todOk b ∧ edge ≤ t + ms 900 ∧ t + ms 10 < edge then
    let f := (b.getD 3 0).toNat
    let s1 := { s with tim := { s.tim with tod := some ⟨ofBe ((b.drop 4).take 6), edge⟩ } }
    ((s1.rset Reg.TIM_TOD_STAT_LEAP (if bit f 1 then 1 else if bit f 2 then 2 else 0)).rsetb Reg.TIM_TOD_STAT_UTC_OFS_VALID (bit f 3)).rset
      Reg.TIM_TOD_STAT_UTC_OFS (ofBe ((b.drop 10).take 2))
  else (s.cinc Ctr.TIM_TOD_ERR).pulseFor t Reg.TIM_LIVE_TOD_ERR 0 (sec 1)

/-- The whole second nearest t, and t's offset from it in ticks. -/
def nearSec (t : Nat) : Nat × Int :=
  let a := if t % sec 1 < sec 1 / 2 then secOf t else secOf t + 1
  (a, (t : Int) - (sec a : Nat))

/-- TOD_COMPARE (R367): SECONDS against the device's own count `own` at the edge. What follows: the state, and the seconds to step. -/
def State.todCompare (s : State) (secs own : Nat) : State × Nat :=
  let d : Int := (secs : Int) - own
  let run := if d = s.tim.diff then s.tim.diffRun + 1 else 1
  let s1 := ({ s with tim := { s.tim with diff := d, diffRun := run } }).rsetb Reg.TIM_TOD_STAT_TOD_VALID (d == 0)
  if d = 0 then (s1.rsetb Reg.TIM_TOD_STAT_TOD_CONFLICT false, 0)
  else if run < 3 then (s1, 0)
  else
    let s2 := ({ s1 with tim := { s1.tim with diffRun := 0 } }).cinc Ctr.TIM_TOD_MISMATCH
    if 0 < d ∧ s.stepEn then (s2, d.toNat) else (s2.rsetb Reg.TIM_TOD_STAT_TOD_CONFLICT true, 0)

/-- PPS_EDGE (R366 to R368): an edge of DP1's selected 1PPS reference at t. -/
def ppsEdgeEffect (t : Nat) (s : State) : State :=
  if s.hostMode ∨ 16 ≤ s.selRef 1 then s else
  let m := s.tim.tod
  let s0 := { s with tim := { s.tim with tod := none } }
  if ¬ s.rbit Reg.TIM_TOD_STAT_TIME_SET then
    match m with
    | some x => s0.firstSet_ t (sec x.secs)
    | none => s0
  else
    let (own, off) := nearSec t
    let (s1, n) := match m with
      | some x => s0.todCompare x.secs own
      | none => (s0, 0)
    let near := decide (off.natAbs ≤ s.stepThr)
    let jump := decide (off < 0) && s.stepEn
    let s2 := s1.rsetb Reg.TIM_TOD_STAT_SLEWING (!near && !jump)
    if ¬ near ∧ jump then s2.timeStep t (sec (own + n))
    else if n ≠ 0 then s2.timeStep t (t + sec n)
    else s2

/-! ### Register writes (R334, R371) -/

/-- A write to entry j of TIM_LREF_MAP (R334, R609): LREF128 + j is DISQUALIFIED and starts afresh. No CAUSE is given for this: it is
open. (DESIGN CHOICE, log entry 84) -/
def State.lrefStore (s : State) (t j v : Nat) : State :=
  let (s1, c) := (s.rset (Reg.TIM_LREF_MAP_LANE j) (min 159 (v % 256))).fresh 2
  let s2 := s1.disqualify t (144 + j) c
  s2.setRef (144 + j) {}

/-- LOS_DECLARE (R126). -/
def execLosDeclare (t i : Nat) : State → Host.Outcome State Fault Refusal := event t (losDeclareEffect t i)
/-- CDR_LOCK_CHANGE (04 R127) of a lane whose domain is ON (19 R539). -/
def execCdrLockChange (t l : Nat) (on : Bool) : State → Host.Outcome State Fault Refusal :=
  event t fun s => if s.domOn (72 + l / 16) then cdrLockChangeEffect t l on s else s
/-- ACTIVITY_WINDOW (R338). -/
def execActivityWindow (t r edges : Nat) : State → Host.Outcome State Fault Refusal := event t (activityWindowEffect t r edges)
/-- FREQUENCY_GATE (R339). -/
def execFrequencyGate (t r : Nat) (ofs : Int) : State → Host.Outcome State Fault Refusal := event t (frequencyGateEffect t r ofs)
/-- REFERENCE_DISQUALIFY (R338). -/
def execReferenceDisqualify (t r : Nat) : State → Host.Outcome State Fault Refusal := event t (referenceDisqualifyEffect t r)
/-- REFERENCE_QUALIFYING (R340). -/
def execReferenceQualifying (t r : Nat) : State → Host.Outcome State Fault Refusal := event t (referenceQualifyingEffect t r)
/-- REFERENCE_QUALIFIED (R340). -/
def execReferenceQualified (t r : Nat) : State → Host.Outcome State Fault Refusal := event t (referenceQualifiedEffect t r)
/-- DRIFT_EVALUATION (R348). -/
def execDriftEvaluation (t : Nat) : State → Host.Outcome State Fault Refusal := event t (driftEvaluationEffect t)
/-- DPLL_NARROW (R352). -/
def execDpllNarrow (t d : Nat) (ph : Int) : State → Host.Outcome State Fault Refusal := event t (dpllNarrowEffect t d ph)
/-- DPLL_LOCK (R352). -/
def execDpllLock (t d : Nat) (ph : Int) : State → Host.Outcome State Fault Refusal := event t (dpllLockEffect t d ph)
/-- DPLL_PHASE_LOST (R353). -/
def execDpllPhaseLost (t d : Nat) (ph : Int) : State → Host.Outcome State Fault Refusal := event t (dpllPhaseLostEffect t d ph)
/-- OCXO_LOST (R337). -/
def execOcxoLost (t : Nat) : State → Host.Outcome State Fault Refusal := event t (ocxoLostEffect t)
/-- PPS_EDGE (R368). -/
def execPpsEdge (t : Nat) : State → Host.Outcome State Fault Refusal := timeEvent t (ppsEdgeEffect t)
/-- TOD_MESSAGE (R365). -/
def execTodMessage (t : Nat) (b : List Byte) (edge : Nat) : State → Host.Outcome State Fault Refusal :=
  event t (todMessageEffect t b edge)
/-- DP1_HOST_HOLDOVER (R363). -/
def execDp1HostHoldover (t : Nat) : State → Host.Outcome State Fault Refusal := event t (dp1HostHoldoverEffect t)
end Sys2Proof.Machine
end

