-- ==== Sys2Proof/Machine/Twins.lean ====
section
/-! DEFINITION. Avenue twins: fences, slot checkpoints, failover to a spare, spare exhaustion, repair and return (16 R461 to R473). -/
namespace Sys2Proof.Machine
open Sys2Proof

/-! ### Slots and placements -/

/-- The physical Avenue of a logical slot. -/
def State.phys (s : State) (sl : Nat) : Nat := s.rget (Reg.PLZ_SLOT_MAP_PHYS sl)
/-- The logical slot an Avenue serves. -/
def State.slotOf (s : State) (a : Nat) : Option Nat :=
  if s.aveState a = 0 ∨ s.aveState a = 5 then (List.range 32).find? fun sl => s.phys sl = a else none
/-- The slot-map field of slice n: its slot, and whether it is placed (07 R207). -/
def sliceField (n : Nat) : RF := ⟨Reg.PLZ_SLICE_SLOT (n / 4), 8 * (n % 4), 5⟩
/-- The USED bit of slice n. -/
def sliceUsed (n : Nat) : RF := ⟨Reg.PLZ_SLICE_SLOT (n / 4), 8 * (n % 4) + 5, 1⟩
/-- The slot of a slice. -/
def State.sliceSlot (s : State) (n : Nat) : Option Nat := if s.rbit (sliceUsed n) then some (s.rget (sliceField n)) else none
/-- A slice placed in a slot, or nowhere. -/
def State.placeSlice (s : State) (n : Nat) (sl : Option Nat) : State :=
  (s.rset (sliceField n) (sl.getD 0)).rsetb (sliceUsed n) sl.isSome
/-- The slices of a slot. -/
def State.slicesOn (s : State) (sl : Nat) : List Nat := (List.range 256).filter fun n => s.sliceSlot n = some sl
/-- The ODUs of a slot's tributary stage. -/
def State.odusOn (s : State) (sl : Nat) : List Nat := s.odusUsed.filter fun i => (s.odu i).slot = sl
/-- Those charged against the slot's 640 TU: a lower-order ODU is within its server's charge (06 R177). -/
def State.chargedOn (s : State) (sl : Nat) : List Nat := (s.odusOn sl).filter fun i => (s.odu i).inHo = none
/-- The ODUs that an accepted MOVE brings to a slot they are not charged to yet (01 R32). -/
def State.comingTo (s : State) (sl : Nat) : List Nat :=
  s.odusUsed.filter fun i => (s.odu i).inHo.isNone && (s.odu i).slot != sl && [false, true].any fun tx =>
    let h := s.mv (moveKey false tx i)
    (h.live && h.slotMove.isNone && h.new == sl) || s.plz.batch.any fun b => b == .move tx i sl
/-- The ODUs that take TU of a slot: those charged against it, and those an accepted MOVE brings there. -/
def State.duesOn (s : State) (sl : Nat) : List Nat := s.chargedOn sl ++ s.comingTo sl
/-- TU charged against a slot. -/
def State.slotTu (s : State) (sl : Nat) : Nat := ((s.duesOn sl).map fun i => (s.odu i).tus).sum
/-- The lower-order ODUs of an instance. -/
def State.carried (s : State) (i : Nat) : List Nat := s.odusUsed.filter fun j => (s.odu j).inHo = some i
/-- The ODUs carried by slice n, directly or within another. -/
def State.onSlice (s : State) (n : Nat) : List Nat :=
  s.odusUsed.filter fun i =>
    let o := s.odu i
    let root := match o.inHo with | some h => (match (s.odu h).inHo with | some k => k | none => h) | none => i
    let r := s.odu root
    decide (r.server < 32768) && r.ts.any fun k => s.tsSlice r.server k = n
/-- The ODUs of a slice that stand in its slots themselves. -/
def State.topOnSlice (s : State) (n : Nat) : List Nat := (s.onSlice n).filter fun i => (s.odu i).inHo = none

/-! ### The checkpoint store (R464) -/

/-- A slot's checkpoint store. -/
def State.store (s : State) (sl : Nat) : StoreH := tget (fun _ => {}) s.ave.stores sl
/-- A slot's checkpoint store replaced. -/
def State.setStore (s : State) (sl : Nat) (h : StoreH) : State :=
  { s with ave := { s.ave with stores := tput (fun _ => {}) s.ave.stores sl h } }
/-- The bound contexts of a slot. -/
def State.slotCtxs (s : State) (sl : Nat) : List Nat := (s.jrm.ctx.filter fun p => slotOfCtx p.1 = sl ∧ p.2.state ≠ 0).map (·.1)
/-- The trail table entries the contexts of a slot bind. -/
def State.slotEntries (s : State) (sl : Nat) : List Nat :=
  ((s.slotCtxs sl).flatMap fun c => (s.cx c).bind.tt.map (·.1)).eraseDups
/-- The layer instances served in a slot. -/
def State.slotKeys (s : State) (sl : Nat) : List Nat := (s.slicesOn sl).map sliceKey ++ (s.odusOn sl).map oduKey
/-- The committed state of a slot at t. -/
def State.image (s : State) (t sl : Nat) : BankH :=
  { at_ := t
    ctxs := (s.slotCtxs sl).map fun c => (c, s.cx c)
    trail := (s.slotEntries sl).map fun e => (e, s.trailGet e 0 256)
    als := (s.slotKeys sl).map fun k => (k, s.al k)
    lasts := (s.slotKeys sl).map fun k => (k, (s.rxFrame k).1)
    txs := (s.slotKeys sl).map fun k => (k, tget (fun _ => 0) s.frm.txAt k, tget (fun _ => 0) s.frm.txMfas k)
    maps := (s.odusOn sl).flatMap fun i => [(i * 2, s.mp i 0), (i * 2 + 1, s.mp i 1)] }
/-- The open bank of a slot is sealed and the other opened. -/
def State.sealBank (s : State) (t sl : Nat) : State :=
  let h := s.store sl
  let b := s.image t sl
  s.setStore sl (if h.open1 then { h with b1 := some b, open1 := false } else { h with b0 := some b, open1 := true })

/-- CHECKPOINT_SEAL (R464): at each whole multiple of 8,000 ns every slot's store seals its open bank. -/
def checkpointSealEffect (t : Nat) (s : State) : State :=
  if t % ns 8000 ≠ 0 then s else (List.range 32).foldl (fun z sl => z.sealBank t sl) s

/-! ### The pool (R466, R469) -/

/-- The spare longest in the pool that holds no SELFTEST permit; of two that joined together, the lower. (DEDUCED, log entry 90) -/
def State.pickSpare (s : State) : Option Nat :=
  ((List.range 36).filter fun a => s.aveState a = 1 ∧ ¬ s.permitHeld 0x0202 a).foldl (fun m a => match m with
    | none => some a
    | some b => if (s.av a).spareSince < (s.av b).spareSince then some a else some b) none

/-- An Avenue of the pool, or in its self-test, that holds SELFTEST (18 R532). (DEDUCED, log entry 90) -/
def State.testSpare (s : State) : Option Nat :=
  (List.range 36).find? fun a => (s.aveState a == 1 || s.aveState a == 3) && s.permitHeld 0x0202 a
/-- A self-test ends because a fence needs its Avenue (18 R532). -/
def State.endTest (s : State) (t a : Nat) : State := (s.logSev t 3 0x8402 a 0).releasePermit t 0x0202 a

/-! ### Seeding (R464, R465) -/

/-- A context as it stands at its first bind, its binding kept (R464, 03 Table JRM-5). -/
def CtxH.blank (h : CtxH) : CtxH :=
  { h with g := List.replicate 32 0, p := 0, st := List.replicate 4 0, scr := [], ins := [], insNo := [], rels := 0, seed := true, run := none,
           acc := h.acc.anew }
/-- A context restored from its committed state in a bank. -/
def CtxH.restored (h b : CtxH) : CtxH := { h with g := b.g, p := b.p, st := b.st, scr := b.scr, ins := b.ins, insNo := b.insNo, seed := true, run := none,
                                                             acc := h.acc.anew }

/-- An aligner predicted to t: in frame, its multiframe count carried on from its latest frame in the bank by whole periods (R465). -/
def State.predict (s : State) (t : Nat) (b : BankH) (k : Nat) (a : AlignerH) : State :=
  let p := s.framePeriod k
  let n := if p = 0 then 0 else (t - ((b.lasts.find? fun x => x.1 = k).map (·.2)).getD b.at_) / p
  s.setAl k (if a.st = .inFrame then { a with since := t, err := 0, mfas := { a.mfas with ref := (a.mfas.ref + n) % 256 }, omfi := { a.omfi with ref := (a.omfi.ref + n) % 80 } } else a)
/-- A transmit multiframe carried on to t (R465). -/
def State.predictTx (s : State) (t k at_ m : Nat) : State :=
  let p := s.framePeriod k
  let n := if p = 0 then 0 else (t - at_) / p
  if m = 0 then s else { s with frm := { s.frm with txMfas := tput (fun _ => 0) s.frm.txMfas k ((m - 1 + n) % 256 + 1)
                                                    txAt := tput (fun _ => 0) s.frm.txAt k (at_ + n * p) } }

/-- The seconds of an entry from x to y are unclassified (14 R428). -/
def State.blindSecs (s : State) (e x y : Nat) : State :=
  (List.range (y + 1 - x)).foldl (fun z k => z.pmSec e (x + k) fun a => { a with bad := true }) s

/-- A slot is seeded from a bank at t (Table RED-3). -/
def State.seedFrom (s : State) (t sl : Nat) (b : BankH) : State :=
  let s1 := (s.slotCtxs sl).foldl (fun z c => z.setCx c (match b.ctxs.find? fun p => p.1 = c with
    | some p => (z.cx c).restored p.2
    | none => (z.cx c).blank)) s
  let s2 := b.trail.foldl (fun z p => z.trailSet p.1 0x40 192 (p.2 / 2 ^ 512)) s1
  let s3 := b.als.foldl (fun z p => z.predict t b p.1 p.2) s2
  let s4 := b.txs.foldl (fun z p => z.predictTx t p.1 p.2.1 p.2.2) s3
  let s5 := b.maps.foldl (fun z p =>
    let m := z.mp (p.1 / 2) (p.1 % 2)
    z.setMp (p.1 / 2) (p.1 % 2) { m with cm := p.2.cm, scnd := p.2.scnd, acc := p.2.acc, dres := p.2.dres, rate := p.2.rate }) s4
  (s5.slotEntries sl).foldl (fun z e => z.blindSecs e (secOf b.at_) (secOf t)) s5
/-- A slot is seeded with no bank (R464). -/
def State.seedBlank (s : State) (t sl : Nat) : State :=
  let s1 := (s.slotCtxs sl).foldl (fun z c => z.setCx c (z.cx c).blank) s
  (s1.slotEntries sl).foldl (fun z e => z.blindSecs e (secOf t) (secOf t)) s1

/-- The bank a failover uses (R464): the last sealed whose CRC passes on reading; with it its number. -/
def StoreH.best (h : StoreH) (ok0 ok1 : Bool) : Option (Nat × BankH) :=
  let a := if ok0 then h.b0.map fun b => (0, b) else none
  let b := if ok1 then h.b1.map fun b => (1, b) else none
  match a, b with
  | some x, some y => some (if x.2.at_ < y.2.at_ then y else x)
  | some x, none => some x
  | none, y => y
/-- A slot is seeded from the bank its store offers; the number of the bank, 0xFF for none. -/
def State.seedSlot (s : State) (t sl : Nat) (ok0 ok1 : Bool) : State × Nat :=
  match (s.store sl).best ok0 ok1 with
  | some (n, b) => (s.seedFrom t sl b, n)
  | none => (s.seedBlank t sl, 0xFF)

/-! ### Spare exhaustion (R470 to R473) -/

/-- The slots that serve and are not the one given. -/
def State.liveSlots (s : State) (sl : Nat) : List Nat :=
  (List.range 32).filter fun x => x ≠ sl ∧ ¬ s.rbit (Reg.PLZ_SLOT_MAP_FENCED x) ∧ s.aveState (s.phys x) = 0
/-- TU free in a slot; a broken tributary leaves its TU. -/
def State.freeTu (s : State) (sl : Nat) : Nat :=
  640 - (((s.duesOn sl).filter fun i => (s.odu i).broken.isNone).map fun i => (s.odu i).tus).sum
/-- The least of a list by a measure, the first of equals. -/
def leastBy (f : Nat → Nat) (l : List Nat) : Option Nat :=
  l.foldl (fun m x => match m with | none => some x | some y => if f x < f y then some x else some y) none

/-- The contexts of layer instances go to slot `to` with CTX numbers of it, seeded (R472); none where one finds no place or no
admission (03 R89). -/
def State.carryCtxs (s : State) (t frm dest : Nat) (keys : List Nat) : Option State :=
  let l := (keys.flatMap s.ctxOf).filter fun c => slotOfCtx c = frm ∧ (s.cx c).state = 1
  let h : MoveH := { old := frm, new := dest }
  (s.copyCtxs h l).map fun (s1, ps) =>
    ps.foldl (fun z p => (z.setCx p.2 { z.cx p.2 with shadow := false }).unbind t p.1) s1

/-- A tributary with the lower-order ODUs it carries. -/
def State.family (s : State) (i : Nat) : List Nat := i :: s.odusUsed.filter fun j =>
  (s.odu j).inHo = some i || ((s.odu j).inHo.bind fun h => (s.odu h).inHo) == some i
/-- The class that keeping a tributary in service serves: the highest among it and the lower-order ODUs it carries (01 R37). -/
def State.keepClass (s : State) (i : Nat) : Nat := (topClass s (s.family i)).getD 0
/-- Tributaries in the order in which spare exhaustion breaks them (01 R37, R38), each in the class that it serves. -/
def State.homeLadder (s : State) (l : List Nat) : List Nat :=
  ladder (l.foldl (fun z i => z.setOdu i { z.odu i with cls := s.keepClass i }) s) l

/-- A tributary's slot becomes `to` in both directions, with the lower-order ODUs it carries. -/
def State.setSlot (s : State) (i dest : Nat) : State :=
  (s.family i).foldl (fun z j =>
    let z1 := z.setOdu j { z.odu j with slot := dest }
    [0, 1].foldl (fun y d => let c := y.cn d j; if c.valid then y.setCn d j { c with slot0 := dest } else y) z1) s

/-- A record of exhaustion changed. -/
def State.modExh (s : State) (sl : Nat) (f : ExhH → ExhH) : State :=
  { s with ave := { s.ave with exh := s.ave.exh.map fun x => if x.slot = sl then f x else x } }
/-- A tributary evicted or left without a place under the exhaustion of a slot (R472). (DEDUCED, log entry 86) -/
def State.evict (s : State) (t sl i : Nat) (p : Option Nat) : State :=
  if (s.odu i).broken.isSome then s else (s.breakOdu t i trigSpare p).modExh sl fun x => { x with broken := x.broken ++ [i] }

/-- The slot that evicts a slice for another (R470): the highest that has a slice with only Class C tributaries, and that slice, the
highest of its slot. (DEDUCED, log entry 86) -/
def State.evictable (s : State) (live : List Nat) : Option (Nat × Nat) :=
  live.reverse.findSome? fun x =>
    ((s.slicesOn x).reverse.find? fun n => (s.onSlice n).all fun i => (s.odu i).cls == 0).map fun n => (x, n)

/-- One slice of the fenced slot is re-homed, or stays unserved (R470). A slice is evicted only for one that carries a higher
class (01 R37). (DEDUCED, log entry 86) -/
def State.rehomeSlice (s : State) (t sl n : Nat) : State :=
  let live := s.liveSlots sl
  let s0 := s.modExh sl fun x => { x with slices := x.slices ++ [(n, sl)] }
  let top := topClass s (s.onSlice n)
  let put (z : State) (x : Nat) : State := ((z.carryCtxs t sl x [sliceKey n]).getD z).placeSlice n (some x)
  match leastBy (fun x => (s.slicesOn x).length) (live.filter fun x => (s.slicesOn x).length < 8) with
  | some x => put s0 x
  | none =>
    match (if (top.getD 0) = 0 then none else s.evictable live) with
    | some (x, m) =>
      let s1 := (s.homeLadder (s.topOnSlice m)).foldl (fun z i => z.evict t sl i top) (s0.placeSlice m none)
      put (s1.modExh sl fun y => { y with slices := y.slices ++ [(m, x)] }) x
    | none => (s.homeLadder (s.topOnSlice n)).foldl (fun z i => z.evict t sl i none) (s0.placeSlice n none)

/-- A tributary goes to the qualifying slot with the most free TU (R471): away from its partner's slot, with room and admission. -/
def State.placeTrib (s : State) (t sl i : Nat) : List Nat → Option State
  | [] => none
  | x :: r =>
    match s.carryCtxs t sl x ((s.family i).map oduKey) with
    | some s1 => some ((s1.setSlot i x).shedTrib t (s.phys sl) (s.phys x) i)
    | none => s.placeTrib t sl i r
/-- Slots by descending free TU. (DEDUCED, log entry 86) -/
def State.byFree (s : State) : List Nat → List Nat
  | [] => []
  | x :: r =>
    let ins : List Nat → List Nat := fun l => (l.takeWhile fun y => s.freeTu x < s.freeTu y) ++ x :: l.dropWhile fun y => s.freeTu x < s.freeTu y
    ins (s.byFree r)
/-- The slots a tributary may go to, its partner's apart (10 R298). -/
def State.homes (s : State) (sl i : Nat) : List Nat :=
  let bad (d x : Nat) : Bool := match s.partnerOf d i with | some p => (s.odu p).slot == x | none => false
  (s.liveSlots sl).filter fun x => !bad 0 x && !bad 1 x
/-- The tributaries, Class C with all they carry (01 R37), whose eviction brings a slot nearer to room for tributary i (R471). -/
def State.nearer (s : State) (sl i : Nat) : List Nat :=
  ((s.homes sl i).filter fun x => s.freeTu x < (s.odu i).tus).flatMap fun x =>
    let on := (s.chargedOn x).filter fun j => s.keepClass j = 0 ∧ (s.odu j).broken.isNone
    if (s.odu i).tus ≤ s.freeTu x + (on.map fun j => (s.odu j).tus).sum then on else []
/-- One tributary of the fenced slot is re-homed, evicting Class C where it must; else it has no place (R471, R43). The number
bounds the evictions. -/
def State.rehomeTrib (s : State) (t sl i : Nat) : Nat → State
  | 0 => s.evict t sl i none
  | f + 1 =>
    match s.placeTrib t sl i (s.byFree ((s.homes sl i).filter fun x => (s.odu i).tus ≤ s.freeTu x)) with
    | some s1 => s1.modExh sl fun x => { x with tribs := x.tribs ++ [i] }
    | none =>
      match (if s.keepClass i = 0 then [] else s.homeLadder (s.nearer sl i)) with
      | j :: _ => (s.evict t sl j (some (s.keepClass i))).rehomeTrib t sl i f
      | [] => s.evict t sl i none

/-- Tributaries in the order they are re-homed: the reverse of the order of breaking (R471). -/
def State.keepOrder (s : State) (l : List Nat) : List Nat := (s.homeLadder l).reverse

/-- A move takes tributary i away from its slot: it has cut over, or a fence has it cut over (07 R221). -/
def State.leaving (s : State) (i : Nat) : Bool :=
  s.plz.moves.any fun p => p.2.live && p.2.slotMove.isNone && (p.2.forced || p.2.phase == .cut) && (s.moveKeys p.2).contains (oduKey i)
/-- Spare exhaustion of slot sl (R470 to R472), its contexts first seeded from the checkpoint. (DEDUCED, log entry 88) -/
def State.exhaust (s : State) (t sl : Nat) : State :=
  let s0 := (s.seedSlot t sl true true).1
  let s1 : State := { s0 with ave := { s0.ave with exh := s0.ave.exh ++ [({ slot := sl } : ExhH)] } }
  let s2 := (s1.slicesOn sl).foldl (fun z n => z.rehomeSlice t sl n) s1
  let l := s2.keepOrder ((s2.chargedOn sl).filter fun i => (s2.odu i).broken.isNone && !s2.leaving i)
  let s3 := l.foldl (fun z i => z.rehomeTrib t sl i (z.odusUsed.length + 1)) s2
  s3.poolShow t

/-! ### Fences (R462, R463, R466; 07 R221, R228) -/

/-- The slot that serves ODU i in direction d from the next frame start on: that of the route its entry forwards, or of the one a fence has
its move cut over to (07 R221). -/
def State.servingSlot (s : State) (d i : Nat) : Nat :=
  let c := s.cn d i
  let hastened := s.plz.moves.any fun p => p.2.live && p.2.forced && p.2.slotMove.isNone && (s.moveKeys p.2).contains (oduKey i)
  if c.valid ∧ c.route1 ∧ (c.fwd ∨ hastened) then c.slot1 else (s.odu i).slot
/-- The entries a fence of slot sl fills (07 R228): those of non-Class-A tributaries served there, or carried by a slice served
there; one that a fence cuts over to another slot is served by that (R221). -/
def State.fenceFill (s : State) (t sl : Nat) : State :=
  let l (d : Nat) : List Nat := ((s.odusUsed.filter fun i => s.servingSlot d i = sl) ++ (s.slicesOn sl).flatMap s.onSlice).eraseDups.filter
    fun i => (s.odu i).cls ≠ 2
  let s1 := [0, 1].foldl (fun z d => (l d).foldl (fun y i =>
    let c := y.cn d i
    if c.valid then y.setCn d i { c with aisFill := true } else y) z) s
  (s1.mapUsed t).switchAll t

/-- Avenue a takes over slot sl, and begins seeding; what its Avenue had shed goes with it. -/
def State.mapSlot (s : State) (t sl a : Nat) : State :=
  ((((s.rset (Reg.PLZ_SLOT_MAP_PHYS sl) a).rsetb (Reg.PLZ_SLOT_MAP_FENCED sl) false).aveTo a 5 sl).poolShow t).shedSlot t (s.phys sl) a
/-- A slot is mapped to the spare longest in the pool, or failing one to an Avenue under SELFTEST (18 R532); with none, exhaustion acts
(R466, R470). The primary Kiosk does it: with no valid lease it waits (R479), and it waits for a slot move that goes on without its old
Avenue (07 R221). (DEDUCED, log entry 87) -/
def State.remap (s : State) (t sl : Nat) : State :=
  if ¬ s.leaseAt t ∨ s.ave.exh.any (fun x => x.slot == sl) ∨ s.slotParts sl ≠ [] then s else
  match s.pickSpare, s.testSpare with
  | some a, _ => s.mapSlot t sl a
  | none, some a => (s.endTest t a).mapSlot t sl a
  | none, none => s.exhaust t sl

/-- The moves of a slot when its Avenue is fenced (07 R221): of those in overlap, one whose new contexts have all committed on time cuts
over at the next frame start, and a slot move only as a whole; the others abort. (DEDUCED, log entry 88) -/
def State.fenceMoves (s : State) (t sl : Nat) : State :=
  let of (z : State) (ph : MovePhase) : List Nat :=
    (z.plz.moves.filter fun p => p.2.live ∧ p.2.phase = ph ∧ p.2.old = sl ∧ p.2.slotMove = none).map (·.1)
  let force (z : State) (m : Nat) : State := z.setMv m { z.mv m with forced := true }
  let s1 := (of s .overlap).foldl (fun z m => if z.moveReady (z.mv m) then force z m else z.abortOne t m) s
  let s2 := (of s1 .waiting).foldl (fun z m => z.abortOne t m) s1
  if s2.slotParts sl = [] then s2
  else if (s2.slotParts sl).all fun m => !(s2.mv m).back && (s2.partOver m || ((s2.mv m).phase == .overlap && s2.moveReady (s2.mv m))) then
    ((s2.slotParts sl).foldl (fun z m => if (z.mv m).phase = .overlap then force z m else z) s2).slotDone t sl
  else s2.slotHome t sl
/-- Moves to a slot whose Avenue is fenced abort (07 R221); the tributary of one whose old Avenue was fenced before has then no Avenue,
and is filled (R228). -/
def State.fenceTargets (s : State) (t sl : Nat) : State :=
  ((s.plz.moves.filter fun p => p.2.live ∧ p.2.phase = .overlap ∧ p.2.new = sl ∧ p.2.slotMove = none).map (·.1)).foldl
    (fun z m =>
      let h := z.mv m
      let z1 := z.abortOne t m
      if h.forced then (z1.moveEntry h fun _ c => if c.cls = 2 then c else { c with aisFill := true }).mapUsed t else z1) s

/-- The runs that an Avenue executes for slot sl end with it: their staged work goes. -/
def State.stopSlot (s : State) (t a sl : Nat) : State :=
  (((s.jrm.ctx.filter fun p => slotOfCtx (p.1 % 131072) = sl ∧ p.2.state ≠ 0).map (·.1)).filter fun c => s.ctxAve c = a).foldl
    (fun z c => z.discard t c) s

/-- The tokens inside an Avenue, and those held back for it, go nowhere (07 R228). -/
def State.clearPipes (s : State) (a : Nat) : State :=
  { s with ave := { s.ave with pipes := [0, 1].foldl (fun l d =>
      let h := tget (fun _ => {}) l (a * 2 + d)
      tput (fun _ => {}) l (a * 2 + d) { shed := h.shed, dec := h.dec }) (s.ave.pipes.map fun x => (x.1, { x.2 with
        held := x.2.held.filterMap fun y => let r := y.2.filter fun q => q.pipe / 2 ≠ a; if r = [] then none else some (y.1, r) })) } }

/-- Slot x has lost its Avenue a: the runs there end, what it serves is filled, and it is remapped (R466; 07 R228). -/
def State.slotDown (s : State) (t a x : Nat) : State :=
  (((s.rsetb (Reg.PLZ_SLOT_MAP_FENCED x) true).stopSlot t a x).fenceFill t x).remap t x
/-- A mismatch of Avenue a with a kind of Table RED-2, and the fence that follows it (R462, R463, R466). -/
def State.fence (s : State) (t a kind : Nat) : State :=
  let st := s.aveState a
  if 36 ≤ a ∨ ¬ (st = 0 ∨ st = 1 ∨ st = 5) then s else
  let sl := s.slotOf a
  let h := s.av a
  let s1 := (((s.rset (Reg.AVE_MED_STAT_LAST_KIND a) kind).setDtsWords (Reg.AVE_MED_DTS0 a) t).cinc (Ctr.AVE_MISMATCHES a)).setAv a
    { h with fences := t :: h.fences.filter fun x => t < x + sec 86400 }
  let pend := (List.range 32).find? fun x => s.rbit (Reg.PLZ_SLOT_MAP_PEND_VALID x) ∧ s.rget (Reg.PLZ_SLOT_MAP_PEND x) = a
  let s2 := match pend with | some x => s1.slotHome t x | none => s1
  let s3 := match sl with | some x => (s2.fenceMoves t x).fenceTargets t x | none => s2
  let s4 := ((s3.aveTo a 2 0).clearPipes a).logSev t 1 0x8101 a (kind + (sl.getD 0) * 256)
  let s5 := if s4.permitHeld 0x0202 a then s4.endTest t a else s4
  let s6 := (s5.pulse t Reg.AVE_POOL_LIVE_FAILOVER 0).poolShow t
  match sl, pend with
  | some x, _ =>
    if s6.phys x ≠ a then s6
    else if s6.slotParts x ≠ [] then (s6.rsetb (Reg.PLZ_SLOT_MAP_FENCED x) true).stopSlot t a x
    else s6.slotDown t a x
  | none, some x => if s6.aveState (s6.phys x) = 2 then s6.slotDown t (s6.phys x) x else s6
  | none, none => s6

/-- STALL_TIMEOUT needs the pipelines; SELF_ERROR (R462): a half reports an error it cannot correct. -/
def selfErrorEffect (t a h : Nat) (s : State) : State := if h < 2 then s.fence t a 6 else s

/-- The slots that serve an entry's tributary and its slices have an Avenue in service. -/
def State.servedNow (s : State) (d i : Nat) : Bool :=
  let ok (sl : Nat) : Bool := !s.rbit (Reg.PLZ_SLOT_MAP_FENCED sl) && s.aveState (s.phys sl) == 0
  ok (s.servingSlot d i) && (List.range 256).all fun n => !(s.onSlice n).contains i || (match s.sliceSlot n with | some x => ok x | none => false)

/-- FENCE_FILL_END (07 R228; R472): the tributary's first frame start from its slot's new Avenue, or from its new slot. -/
def fenceFillEndEffect (t d i : Nat) (s : State) : State :=
  let c := s.cn d i
  if d < 2 ∧ c.aisFill ∧ s.servedNow d i then ((s.setCn d i { c with aisFill := false }).mapUsed t).switchAll t else s

/-! ### Repair and return (R468, R473) -/

/-- A tributary begins its move back to slot sl (R473, 07 R218), where the slot has room for it. -/
def State.moveHome (s : State) (t sl i : Nat) : State :=
  let o := s.odu i
  if o.slot = sl ∨ 640 < s.slotTu sl + o.tus ∨ s.moving false i ∨ ¬ ((s.cn 0 i).valid ∨ (s.cn 1 i).valid) then s else
  let tx := !(s.cn 0 i).valid
  s.setMv (moveKey false tx i)
    { tx := tx, inst := i, old := o.slot, new := sl, epoch := s.epochOf (b2n tx), epochTx := s.epochOf (1 - b2n tx), install := t, live := true }

/-- Broken tributaries of a list are restored in the order of R41; the number bounds them. -/
def State.restoreAll (s : State) (t : Nat) (l : List Nat) : Nat → State
  | 0 => s
  | f + 1 =>
    match nextRestore s (l.filter fun i => (s.odu i).broken.isSome) with
    | some i => ((s.restoreOdu t i).arcRejoin t i).restoreAll t l f
    | none => s

/-- The fenced slot is mapped to Avenue a, which has just joined the pool: slices still in use come back, re-homed tributaries begin their moves
back, and evicted ones are restored in the order of R41 (R473). (DEDUCED, log entry 88) -/
def State.returnSlot (s : State) (t a : Nat) (x : ExhH) : State :=
  let s0 : State := { s with ave := { s.ave with exh := s.ave.exh.filter fun y => y.slot ≠ x.slot } }
  let s1 := (((s0.rset (Reg.PLZ_SLOT_MAP_PHYS x.slot) a).rsetb (Reg.PLZ_SLOT_MAP_FENCED x.slot) false).aveTo a 0 x.slot).shedSlot t (s.phys x.slot) a
  let s2 := s1.setAv a { s1.av a with inSince := t }
  let s3 := x.slices.foldl (fun z p =>
    if z.sliceSlot p.1 ≠ some p.2 ∧ 8 ≤ (z.slicesOn p.2).length then z else
    let z1 := match z.sliceSlot p.1 with
      | some c => if c = p.2 then z else (z.carryCtxs t c p.2 [sliceKey p.1]).getD z
      | none => z
    z1.placeSlice p.1 (some p.2)) s2
  let s4 := ([0, 1].foldl (fun z d => z.applyEpoch t d) s3)
  let s5 := x.tribs.foldl (fun z i => z.moveHome t x.slot i) (if x.tribs = [] then s3 else s4)
  s5.restoreAll t x.broken x.broken.length

/-- SPARE_RELEASE (R464, R466): slot sl's spare has restarted; `ok0` and `ok1` say whether the CRC of each bank passes on reading. A
slot whose remapping, or return, waited for a Kiosk is mapped now. (DEDUCED, log entry 87) -/
def spareReleaseEffect (t sl : Nat) (ok0 ok1 : Bool) (s : State) : State :=
  if 32 ≤ sl then s
  else if s.rbit (Reg.PLZ_SLOT_MAP_FENCED sl) then
    (match s.ave.exh.find? (fun x => x.slot == sl), s.pickSpare with
    | some x, some a => if s.leaseAt t then (s.returnSlot t a x).poolShow t else s
    | _, _ => s.remap t sl)
  else
    let a := s.phys sl
    if s.aveState a ≠ 5 then s else
    let (s1, b) := s.seedSlot t sl ok0 ok1
    ((s1.aveTo a 0 sl).setAv a { s1.av a with inSince := t }).logSev t 4 0x8102 sl (a + b * 256)

/-- AVENUE_REPAIR_COMPLETE (R468; 18 R534): a fenced or rotated Avenue's self-test is over, with the result of each half. -/
def avenueRepairCompleteEffect (t a : Nat) (ok0 ok1 : Bool) (s : State) : State :=
  let st := s.aveState a
  if 36 ≤ a ∨ ¬ (st = 2 ∨ st = 3) then s else
  let s1 := (s.rsetb (Reg.AVE_MED_STAT_BAD_HALF0 a) (!ok0)).rsetb (Reg.AVE_MED_STAT_BAD_HALF1 a) (!ok1)
  let n := ((s.av a).fences.filter fun x => t < x + sec 86400).length
  if ¬ ok0 ∨ ¬ ok1 ∨ (st = 2 ∧ 3 ≤ n) then
    (((s1.aveTo a 4 0).logSev t 2 0x8103 a 1).pulse t Reg.AVE_POOL_LIVE_RETIRE 0).poolShow t
  else
    let s2 := ((s1.aveTo a 1 0).setAv a { s1.av a with spareSince := t }).logSev t 4 0x8103 a 0
    let s3 := match s2.ave.exh with
      | [] => s2
      | x :: _ => if s2.leaseAt t then s2.returnSlot t a x else s2
    s3.poolShow t

/-- A rotation ends with the freed Avenue's self-test: ROTATE is released (18 R534). (DEDUCED, log entry 108) -/
def State.rotDone (s : State) (t a : Nat) : State :=
  match s.ave.rot with
  | none => s
  | some r =>
    if r.old ≠ a then s else
    let s1 := ({ s with ave := { s.ave with rot := none } } : State).releasePermit t 0x0201 r.slot
    ((s1.logSev t 5 0x8410 r.slot (r.old + r.new * 256)).pulse t Reg.MNT_LIVE_ROT_DONE 0).cinc Ctr.MNT_ROTATIONS

/-- CHECKPOINT_SEAL (R464). -/
def execCheckpointSeal (t : Nat) : State → Host.Outcome State Fault Refusal := event t (checkpointSealEffect t)
/-- SELF_ERROR (R462). -/
def execSelfError (t a h : Nat) : State → Host.Outcome State Fault Refusal := event t (selfErrorEffect t a h)
/-- SPARE_RELEASE (R466). -/
def execSpareRelease (t sl : Nat) (ok0 ok1 : Bool) : State → Host.Outcome State Fault Refusal := event t (spareReleaseEffect t sl ok0 ok1)
/-- AVENUE_REPAIR_COMPLETE (R468). -/
def execAvenueRepairComplete (t a : Nat) (ok0 ok1 : Bool) : State → Host.Outcome State Fault Refusal :=
  event t fun s => if s.aveState a = 2 ∨ s.aveState a = 3 then (avenueRepairCompleteEffect t a ok0 ok1 s).rotDone t a else s
/-- MOVE_ABORT (07 R219; 18 R535). -/
def execMoveAbort (t m : Nat) : State → Host.Outcome State Fault Refusal := event t (moveAbortEffect t m)
/-- FENCE_FILL_END (R228). -/
def execFenceFillEnd (t d i : Nat) : State → Host.Outcome State Fault Refusal := event t (fenceFillEndEffect t d i)

end Sys2Proof.Machine
end

