-- ==== Sys2Proof/Machine/Tokens.lean ====
section
/-! DEFINITION. Edge FIFOs, kerb buffers, the stages of the Avenues and the Median (02 R45 to R58, 16 R461 to R463). -/
namespace Sys2Proof.Machine
open Sys2Proof

/-! ### Pipelines and edge FIFOs -/

/-- An edge FIFO: side 0 ingress, 1 egress; ports LIF 0 to 127, system lanes from 128, Arcade links from 288, Mate Link 448, PCIe 449,
Side Street 450 and 451, Overhead Access Ports from 452, and 460 for what the hitless selectors of transmit pairs send on (10
R300). (DESIGN CHOICE, log entry 19) -/
def State.fifo (s : State) (side port : Nat) : List (Token × List Dest) := tget (fun _ => []) s.ave.fifos (side * 1024 + port)
/-- An edge FIFO replaced. -/
def State.setFifo (s : State) (side port : Nat) (l : List (Token × List Dest)) : State :=
  { s with ave := { s.ave with fifos := tput (fun _ => []) s.ave.fifos (side * 1024 + port) l } }
/-- The depth of a port's edge FIFO in tokens (Table PAC-2); 0 where no port stands. (DESIGN CHOICE, log entry 18) -/
def State.fifoDepth (s : State) (port : Nat) : Nat :=
  if port < 128 then 96 * lifInst (s.lifType port)
  else if port < 288 then
    (let g := s.sysGrp ((port - 128) / 8)
    if g.mode ≠ 1 then 0 else 96 * (if g.phy = 0 then 1 else if g.phy = 1 then 4 else 8))
  else if port < 448 then 256
  else if port = 448 then 512
  else if port = 449 then 128
  else if port < 452 then 64
  else if port < 460 then 16 else 0

/-- The part of a slot move that tributary i belongs to. -/
def State.partOf (s : State) (i : Nat) : Option MoveH :=
  (s.plz.moves.find? fun p => p.2.live && p.2.slotMove.isSome && !p.2.slice && (s.moveKeys p.2).contains (oduKey i)).map (·.2)
/-- A slot's Avenue, or the one that receives it in a slot move. -/
def State.homeAve (s : State) (sl : Nat) (moved : Bool) : Nat :=
  if moved ∧ s.rbit (Reg.PLZ_SLOT_MAP_PEND_VALID sl) then s.rget (Reg.PLZ_SLOT_MAP_PEND sl) else s.phys sl
/-- The Avenue of a route of an entry: route 1 of a slot move leads to the Avenue that receives the slot (07 R218), and so does route 0 once
the part has retired. -/
def State.routeAve (s : State) (d i : Nat) (r : Bool) : Nat :=
  let c := s.cn d i
  if r then (if c.slot1 = c.slot0 then s.homeAve c.slot1 true else s.phys c.slot1)
  else s.homeAve c.slot0 ((s.partOf i).any fun h => h.phase == .retired)
/-- The epoch of a route of an entry. -/
def ConnH.epochR (c : ConnH) (r : Bool) : Nat := if r then c.epoch1 else c.epoch0
/-- The pipelines that take a tributary's tokens: route 0's, and route 1's in a move (07 R218); route 1's alone once a slot move has completed.
One with no entry goes with its part of a slot move. -/
def State.tribDests (s : State) (d i : Nat) : List Dest :=
  let c := s.cn d i
  let dest (r : Bool) : Dest := ⟨s.routeAve d i r * 2 + d, oduKey i, c.epochR r⟩
  if ¬ c.valid then
    [⟨s.homeAve (s.odu i).slot ((s.partOf i).any fun h => (h.phase == .cut || h.phase == .retired) != h.back) * 2 + d, oduKey i, 0⟩]
  else if c.route1 then
    (if c.slot1 = c.slot0 ∧ ¬ s.rbit (Reg.PLZ_SLOT_MAP_PEND_VALID c.slot0) then [dest true] else [dest false, dest true])
  else [dest false]
/-- The flow of transmit entry i is a path of a transmit pair: its stream goes to the hitless selector (10 R300). -/
def State.inTxPair (s : State) (i : Nat) : Bool := s.isPair 1 (s.pairX 1 i)
/-- A transmit source's entries: the one a port's stream is named after, and the partner that shares its PORT_A, by the routes in force, each
while its SEL is set (07 R212; 10 R313); none for a path of a transmit pair (10 R300). -/
def State.txCopies (s : State) (i : Nat) : List Nat :=
  if s.inTxPair i then [] else
  match s.partnerOf 1 i with
  | some p => if (s.cn 1 p).inForce = (s.cn 1 i).inForce then [i, p].filter fun j => (s.cn 1 j).sel else [i]
  | none => [i]
/-- The move of slice n as a part of a slot move. -/
def State.sliceMove (s : State) (n : Nat) : Option MoveH :=
  let h := s.mv (moveKey true false n)
  match s.sliceSlot n with
  | some sl => if h.live ∧ h.slotMove = some sl then some h else none
  | none => none
/-- The pipelines that take a slice's tokens in direction d, for layer instance `key`; none while the slice is unserved. In a slot move, from
its install on, a part has both Avenues, and once it has retired only the new one; one that is moved back has the Avenue it had cut over to
as its old one. The route that a slot move installs has its epoch, the one before it none. (DEDUCED, log entry 124) -/
def State.sliceDests (s : State) (d n key : Nat) : List Dest :=
  match s.sliceSlot n with
  | none => []
  | some sl =>
    let at_ (moved : Bool) (e : Nat) : Dest := ⟨s.homeAve sl moved * 2 + d, key, e⟩
    match s.sliceMove n with
    | none => [at_ false 0]
    | some h =>
      if h.phase = .waiting then [at_ h.back 0]
      else if h.phase = .retired ∨ ¬ s.rbit (Reg.PLZ_SLOT_MAP_PEND_VALID sl) then [at_ (!h.back) (h.epochR d)]
      else [at_ h.back 0, at_ (!h.back) (h.epochR d)]
/-- The next stage of a token is a slice stage. -/
def toSliceStage (k : Token) : Bool := (k.leg == 0) == !k.tx
/-- Where a token goes next: nowhere at the end of its way; overhead of a slice has no tributary stage. -/
def State.nextDests (s : State) (k : Token) : List Dest :=
  let d := b2n k.tx
  if 2 ≤ k.leg then []
  else if toSliceStage k then s.sliceDests d k.slice k.key
  else if k.key < 256 then []
  else if k.tx then (s.txCopies (k.key - 256)).flatMap (s.tribDests 1)
  else s.tribDests 0 (k.key - 256)

/-- The Plaza forwards a token that leaves Avenue a: at a merge point, in a move, only one whose epoch is that of the route FWD names;
out of a move, only one from the Avenue of the route in force (07 R218). -/
def State.forwarded (s : State) (a : Nat) (k : Token) : Bool :=
  let d := b2n k.tx
  if (k.leg == 1) == !k.tx then
    match s.sliceSlot k.slice, s.sliceMove k.slice with
    | some _, some h => (k.epoch == h.epochR d) == (h.phase == .cut || h.phase == .retired)
    | some sl, none => a == s.phys sl
    | none, _ => false
  else if k.key < 256 then true
  else
    let c := s.cn d (k.key - 256)
    if ¬ c.valid then true
    else if c.route1 then (k.epoch == c.epoch1) == c.fwd
    else a == s.routeAve d (k.key - 256) false

/-- An Avenue is fenced, or not in service. -/
def State.aveOut (s : State) (a : Nat) : Bool := s.aveState a == 2 || s.aveState a == 3 || s.aveState a == 4

/-- Tokens of the edge FIFOs wait for pipeline p. -/
def State.offered (s : State) (p : Nat) : Bool :=
  s.ave.fifos.any fun f => decide (f.1 < 1024) && f.2.any fun x => x.2.any fun y => y.pipe == p
/-- A token arrives for pipeline p: from now on the STALL time of an idle pipeline runs. -/
def State.offerPipe (s : State) (t p : Nat) : State :=
  let h := s.pipe (p / 2) (p % 2)
  if h.kerb = [] ∧ ¬ s.offered p then s.setPipe (p / 2) (p % 2) { h with since := t } else s

/-! ### Edge FIFOs (R56, R58) -/

/-- A token enters a port's ingress edge FIFO: what Table PAC-2 stamps takes its DTS; a full FIFO drops the token, counted in each Avenue it
was destined for (R58). -/
def State.enterIngress (s : State) (t port : Nat) (k : Token) : State :=
  let k1 := { k with leg := 0, dts := if k.mark then some t else none, jc := none }
  let ps := if port < 448 ∧ (k.slice < 256 ∨ 256 ≤ k.key) then s.nextDests k1 else []
  let l := s.fifo 0 port
  let s1 : State := { s with ave := { s.ave with marks := tput (fun _ => {}) s.ave.marks port ((s.stamp port).enter t k.mark) } }
  if s.fifoDepth port ≤ l.length then
    (ps.map fun p => p.pipe / 2).eraseDups.foldl (fun z a => (z.cinc (Ctr.AVE_EDGE_OVF a)).setAv a { z.av a with ovf := true }) s1
  else (ps.foldl (fun z p => z.offerPipe t p.pipe) s1).setFifo 0 port (l ++ [(k1, ps)])
/-- A loopback of a kind (Table LIN-4: 1 facility, 2 terminal, 3 analogue) stands at a port: on its line interface, or under the permit of
its system lane group, whose loopbacks act as those of the line (18 Table MNT-3). (DEDUCED, log entry 144) -/
def State.loopAt (s : State) (port code : Nat) : Bool :=
  if port < 128 then s.looped port code else decide (port < 288) && decide (1 < code) && s.permitHeld (0x0110 + code) ((port - 128) / 8)
/-- A loopback turns a port's own output into its input: terminal or analogue. -/
def State.turned (s : State) (port : Nat) : Bool := s.loopAt port 2 || s.loopAt port 3
/-- A port lies in a domain that is not ON (19 R539): a lane of its line interface, its system
lane, the lane of its Arcade link, the Mate Link block, or PX0. -/
def State.portOff (s : State) (port : Nat) : Bool :=
  if port < 128 then (s.lifLaneList port).any fun l => !s.domOn (72 + l / 16)
  else if port < 288 then !s.domOn (72 + port / 16)
  else if port < 448 then !s.domOn (80 + (port - 288) / 16)
  else if port = 448 then !s.domOn 90
  else decide (450 ≤ port ∧ port < 460) && !s.domOn 97
/-- EDGE_FIFO_WRITE (R56, R58): a token arrives at a port's ingress edge FIFO; under a loopback that turns the port's own output in, what
the line brings is ignored, and no token crosses the boundary of a domain that is not ON (19 R539). (DESIGN CHOICE, log entry 17) -/
def edgeFifoWriteEffect (t port : Nat) (k : Token) (s : State) : State :=
  if s.turned port ∨ s.portOff port then s else s.enterIngress t port k

/-- The all-ones token of R58. -/
def fillToken : BitVec 2048 := BitVec.allOnes 2048

/-- The first lane of an Ethernet PHY names an entry's endpoint. -/
def phyPort (r port : Nat) : Bool := decide (0 < r) && (r - 1) / 2 ^ 28 == 1 && 128 + (r - 1) % 256 == port
/-- The instance whose client leaves by the Ethernet PHY of a port (07 R210, R213, R216): by the routes in force, the selected entry of a
Class B pair. -/
def State.phySource (s : State) (port : Nat) : Option Nat :=
  ((s.plz.conn.filter fun p => p.1 < 20480).map (·.1)).find? fun i => (phyPort (s.cn 0 i).out port || phyPort (s.cn 0 i).outB port) && ((s.switchPartner i).isNone || (s.cn 0 i).sel)
/-- The client at an Ethernet PHY is replaced by local fault (R168; 06 R191): its instance's is; of a Class A pair, what the selector
sends. -/
def State.phyFault (s : State) (i : Nat) : Bool :=
  match s.mateOf 2 0 i with
  | some p => (tget (fun _ => {}) s.pair (min i p) : PairH).aisOut
  | none => s.localFault i
/-- What a port sends in place of stream `key`, none while the stream itself passes (R68; 05 R166 to R168; 07 R210). -/
def State.fillAt (s : State) (port key : Nat) : Option FillKind :=
  if 128 ≤ port ∧ port < 288 then
    (match s.phySource port with
    | some i => if s.phyFault i then some .localFault else none
    | none => some .localFault)
  else if 448 ≤ port ∨ key < 256 then none
  else match s.replaced (b2n (decide (port < 128))) (key - 256) with
    | .none => none
    | .lck => some .lck
    | .ais => some .ais
    | .oci => some .oci
/-- The oldest token of a stream leaves a list. -/
def dropStream (key : Nat) : List (Token × List Dest) → List (Token × List Dest)
  | [] => []
  | x :: r => if x.1.key = key then r else x :: dropStream key r

/-- What a port's output stage does with a token it has read: it leaves; a facility loopback discards it; a terminal loopback also turns it
into the port's input, and an analogue one does so with the output squelched (04 Table LIN-4). -/
def State.sendPort (s : State) (t port : Nat) (k : Option Token) : State :=
  if s.loopAt port 1 then s else
  let s1 := if s.loopAt port 3 then s else s.emit (.token port k)
  match k with
  | some x => if s.turned port then s1.enterIngress t port { x with tx := !x.tx } else s1
  | none => s1
/-- EDGE_FIFO_READ (R56, R58, R68): a port reads its egress edge FIFO at stream `key`; a stream that is replaced gives its fill, whose
token goes nowhere; an empty FIFO gives an all-ones token, counted in the Avenue that serves the stream. Under a
loopback that discards or squelches the port's output the fill goes nowhere (04 Table LIN-4). No token crosses the boundary of a domain
that is not ON (19 R539). (DESIGN CHOICE, log entry
17; DEDUCED, log entry 20) -/
def edgeFifoReadEffect (t port key : Nat) (s : State) : State :=
  if s.portOff port then s else
  match s.fillAt port key with
  | some f =>
    let s1 := s.setFifo 1 port (if 128 ≤ port ∧ port < 288 then (s.fifo 1 port).tail else dropStream key (s.fifo 1 port))
    if s1.loopAt port 1 ∨ s1.loopAt port 3 then s1 else s1.emit (.fill port key f)
  | none =>
    match s.fifo 1 port with
    | (k, _) :: r => (s.setFifo 1 port r).sendPort t port (some { k with dts := if k.mark then some t else none })
    | [] =>
      let ps := if 448 ≤ port then [] else if key < 256 then s.sliceDests 1 key key else s.tribDests 0 (key - 256)
      ((ps.map fun p => p.pipe / 2).foldl (fun z a => (z.cinc (Ctr.AVE_EDGE_UFL a)).setAv a { z.av a with ufl := true }) s).sendPort t port none

/-! ### Handshakes (R45, R46) -/

/-- The token in a stage of a half. -/
def PipeH.at_ (p : PipeH) (h k : Nat) : Option Token := (p.st.find? fun x => x.1 = 2 * k + h).map (·.2)
/-- A stage of a half emptied. -/
def PipeH.clear (p : PipeH) (h k : Nat) : PipeH := { p with st := p.st.filter fun x => x.1 ≠ 2 * k + h }
/-- A stage of a half filled. (DESIGN CHOICE, log entry 18) -/
def PipeH.fill (p : PipeH) (h k : Nat) (x : Token) : PipeH := { p with st := (2 * k + h, x) :: p.st }
/-- Tokens of the kerb buffer a half has taken. -/
def PipeH.took (p : PipeH) (h : Nat) : Nat := if h = 0 then p.ta else p.tb
/-- A half takes a token of the kerb buffer; the buffer gives up what both have taken. -/
def PipeH.take (p : PipeH) (h : Nat) : PipeH :=
  let a := p.ta + b2n (h == 0)
  let b := p.tb + b2n (h == 1)
  let n := min a b
  { p with kerb := p.kerb.drop n, ta := a - n, tb := b - n }
/-- The skew FIFO of a half. -/
def PipeH.skew (p : PipeH) (h : Nat) : List Token := if h = 0 then p.skA else p.skB

/-- The slice that a token's copy for layer instance `key` is bound for: its own, or, for a copy that goes to a partner, the slice that stands
where its own does among those of the instance it came for (07 R212). -/
def State.copySlice (s : State) (k : Token) (key : Nat) : Nat :=
  if key = k.key ∨ key < 256 ∨ k.key < 256 then k.slice
  else
    let l := s.oduSlices chain (key - 256)
    (l[(s.oduSlices chain (k.key - 256)).idxOf k.slice]?).getD (l.headD k.slice)
/-- A token enters the kerb buffers of pipelines; a broken tributary's at its tributary stage, and a fenced Avenue's, are discarded
there (R66, R68, 07 R228). -/
def State.toKerb (s : State) (t : Nat) (k : Token) (ps : List Dest) : State :=
  ps.foldl (fun z p =>
    if z.aveOut (p.pipe / 2) ∨ (¬ toSliceStage k ∧ 256 ≤ p.key ∧ z.tribBroken (p.key - 256)) then z else
    let z1 := z.offerPipe t p.pipe
    let h := z1.pipe (p.pipe / 2) (p.pipe % 2)
    let z2 := if k.leg = 1 ∧ 256 ≤ p.key then z1.jcArrive (p.key - 256) (p.pipe % 2) k.jc else z1
    z2.setPipe (p.pipe / 2) (p.pipe % 2) { h with kerb := h.kerb ++ [{ k with key := p.key, epoch := p.epoch, slice := s.copySlice k p.key }] }) s
/-- The kerb buffer of a pipeline has room, or is fenced (R46). -/
def State.kerbRoom (s : State) (p : Nat) : Bool := s.aveOut (p / 2) || decide ((s.pipe (p / 2) (p % 2)).kerb.length < 256)
/-- The Plaza holds tokens back for pipeline p. -/
def State.holdsFor (s : State) (p : Nat) : Bool := s.ave.pipes.any fun x => x.2.held.any fun y => y.2.any fun z => z.pipe == p
/-- The tokens a pipeline's Plaza side holds back go on, each to the pipelines that have room and for which nothing before it waits:
the tokens of every other pipeline keep flowing (R46). -/
def State.releaseHeld (s : State) (t : Nat) : List (Token × List Dest) → List Nat → State × List (Token × List Dest)
  | [], _ => (s, [])
  | x :: r, wait =>
    let go := x.2.filter fun p => s.kerbRoom p.pipe && !wait.contains p.pipe
    let stay := x.2.filter fun p => !(s.kerbRoom p.pipe && !wait.contains p.pipe)
    let z := (s.toKerb t x.1 go).releaseHeld t r (wait ++ stay.map (·.pipe))
    (z.1, if stay = [] then z.2 else (x.1, stay) :: z.2)
/-- A token joins those held back, and all that can go on does. -/
def State.passOn (s : State) (t a d : Nat) (x : List (Token × List Dest)) : State :=
  let z := s.releaseHeld t ((s.pipe a d).held ++ x) []
  z.1.setPipe a d { z.1.pipe a d with held := z.2 }

/-- The skew of a pipeline in tokens enters SKEW_PEAK. -/
def State.skewPeak (s : State) (a d : Nat) : State :=
  let h := s.pipe a d
  let x := max h.skA.length h.skB.length - min h.skA.length h.skB.length
  if s.rget (Reg.AVE_MED_STAT_SKEW_PEAK a) < x then s.rset (Reg.AVE_MED_STAT_SKEW_PEAK a) x else s

/-- A token of an ingress FIFO may leave for pipeline p: nothing is held back on its onward way (R46). -/
def State.clearWay (s : State) (k : Token) : Bool := (s.nextDests { k with leg := 1 }).all fun q => !s.holdsFor q.pipe
/-- The oldest token of an ingress FIFO that waits for pipeline p, its onward way clear, goes to its kerb buffer. -/
def State.hopKerb (s : State) (t port p : Nat) : State :=
  let l := s.fifo 0 port
  let fits : Token × List Dest → Bool := fun x => (x.2.any fun q => q.pipe == p) && s.clearWay x.1
  match l.find? fits with
  | none => s
  | some (k, ps) =>
    if ¬ s.kerbRoom p then s else
    let i := l.findIdx fits
    let l1 := (l.mapIdx fun n x => if n = i then (x.1, x.2.filter fun q => q.pipe ≠ p) else x).filter fun x => x.2 ≠ []
    (s.toKerb t k (ps.filter fun q => q.pipe = p)).setFifo 0 port l1

/-- The receive entry of a token's tributary is the unselected partner of a Class B pair (07 R213). -/
def State.unselected (s : State) (k : Token) : Bool :=
  !k.tx && (s.switchPartner (k.key - 256)).isSome && !(s.cn 0 (k.key - 256)).sel

/-- A token into a port's egress FIFO. -/
def State.toEgress (s : State) (port : Nat) (k : Token) : State := s.setFifo 1 port (s.fifo 1 port ++ [(k, [])])
/-- An egress FIFO has room. -/
def State.egressRoom (s : State) (port : Nat) : Bool := decide ((s.fifo 1 port).length < s.fifoDepth port)
/-- The egress ports of a route in force: an Ethernet PHY's first lane, or the links of an Arcade group. -/
def routePorts (r : Nat) : List Nat :=
  if r = 0 then []
  else if (r - 1) / 2 ^ 28 = 1 then [128 + (r - 1) % 256]
  else if (r - 1) / 2 ^ 28 = 2 then (List.range 8).map fun k => 288 + 8 * bits (r - 1) 20 5 + k
  else []
/-- Where the Plaza leads a token that has passed both stages (07 R210, R211, R213, R214): to no port, to the hitless selector, to a port
of one list, or to one of each of two. -/
inductive ExitWay
  | away
  | selector
  | one (ports : List Nat)
  | two (a b : List Nat)
  deriving DecidableEq, Repr
/-- The way out of a token, by its entry's routes in force (07 R216). -/
def State.exitWay (s : State) (k : Token) : ExitWay :=
  if k.tx then (match s.sliceLif k.slice with | some l => .one [l] | none => .away)
  else if k.key < 256 then .away
  else
    let i := k.key - 256
    let c := s.cn 0 i
    if (s.mateOf 2 0 i).isSome then .selector
    else if s.unselected k then .away
    else if routePorts c.out = [] then .away
    else if routePorts c.outB = [] then .one (routePorts c.out)
    else .two (routePorts c.out) (routePorts c.outB)
/-- The side tag of a token that leaves its first stage carries the JC bytes of its ODU (06 R174). -/
def State.tagJc (s : State) (k : Token) : Token :=
  if k.leg = 1 ∧ 256 ≤ k.key then { k with jc := (s.mp (k.key - 256) (b2n k.tx)).jc } else k
/-- A token into one of two egress FIFOs that take it: a full one drops it there, counted (R58; 07 R211). -/
def State.bridgeInto (s : State) (a port : Nat) (k : Token) : State :=
  if s.egressRoom port then s.toEgress port k else (s.cinc (Ctr.AVE_EDGE_OVF a)).setAv a { s.av a with ovf := true }

/-- TOKEN_TRANSFER (R45, R46): one handshake, where its upstream neighbour offers a token and its downstream neighbour has room.
(DESIGN CHOICE, log entry 17) -/
def tokenTransferEffect (t : Nat) (x : Hop) (s : State) : State :=
  match x with
  | .localPort port =>
    (match s.fifo 0 port with
    | (k, []) :: r =>
      if k.tx ∧ 256 ≤ k.key ∧ s.inTxPair (k.key - 256) then (s.setFifo 0 port r).emit (.toSelector (k.key - 256) k) else s.setFifo 0 port r
    | _ => s)
  | .kerb port a d => if a < 36 ∧ d < 2 then s.hopKerb t port (a * 2 + d) else s
  | .stage a d h k =>
    if ¬ (a < 36 ∧ d < 2 ∧ h < 2 ∧ k ≤ Config.stagesLess1) ∨ s.aveOut a then s else
    let p := s.pipe a d
    if (p.at_ h k).isSome then s
    else if k = 0 then
      (match p.kerb[p.took h]? with
      | some z => s.setPipe a d ((p.take h).fill h 0 z)
      | none => s)
    else
      (match p.at_ h (k - 1) with
      | some z => s.setPipe a d ((p.clear h (k - 1)).fill h k z)
      | none => s)
  | .offer a d h data mark =>
    if ¬ (a < 36 ∧ d < 2 ∧ h < 2) ∨ s.aveOut a then s else
    let p := s.pipe a d
    (match p.at_ h Config.stagesLess1 with
    | some z =>
      if 64 ≤ (p.skew h).length then s else
      let q := p.clear h Config.stagesLess1
      let tok := { z with leg := z.leg + 1, data := data, mark := mark }
      (s.setPipe a d (if h = 0 then { q with skA := q.skA ++ [tok], since := t } else { q with skB := q.skB ++ [tok], since := t })).skewPeak a d
    | none => s)
  | .pass a d =>
    let p := s.pipe a d
    (match p.out with
    | some k =>
      if 2 ≤ k.leg then s.passOn t a d []
      else
        let s1 := s.setPipe a d { p with out := none }
        if ¬ s.forwarded a k then s1.cinc Ctr.PLZ_OVERLAP_DROP
        else s1.passOn t a d [(s.tagJc k, s.nextDests k)]
    | none => s.passOn t a d [])
  | .egress a d port other =>
    let p := s.pipe a d
    (match p.out with
    | some k =>
      let s1 := s.setPipe a d { p with out := none }
      if k.leg < 2 then s
      else if ¬ s.forwarded a k then s1.cinc Ctr.PLZ_OVERLAP_DROP
      else match s.exitWay k, other with
        | .away, _ => s1
        | .selector, _ => s1.emit (.toSelector (k.key - 256) k)
        | .one l, none => if l.contains port ∧ s.egressRoom port then s1.toEgress port k else s
        | .two l m, some o => if l.contains port ∧ m.contains o then (s1.bridgeInto a port k).bridgeInto a o k else s
        | _, _ => s
    | none => s)

/-! ### The Median (16 R461 to R463) -/

/-- MEDIAN_COMPARE (16 R461, R462): equal tokens are forwarded when the Plaza has taken the one before; tokens or change sets that
differ, and a 65th uncompared token, are mismatches. (DEDUCED, log entry 91) -/
def medianCompareEffect (t : Nat) (x : MedWhat) (s : State) : State :=
  match x with
  | .token a d =>
    let p := s.pipe a d
    (match p.skA, p.skB, p.out with
    | u :: ru, v :: rv, none => if u = v then s.setPipe a d { p with skA := ru, skB := rv, out := some u } else s.fence t a 1
    | u :: _, v :: _, some _ => if u = v then s else s.fence t a 1
    | _, _, _ => s)
  | .skew a d =>
    let p := s.pipe a d
    let lone (h : Nat) : Bool := decide ((p.skew h).length = 64) && (p.skew (1 - h)).isEmpty && (p.at_ h Config.stagesLess1).isSome
    if lone 0 || lone 1 then s.fence t a 3 else s
  | .commit c eq =>
    match s.running t c with
    | some _ => if eq then s else s.fence t (s.ctxAve c) 2
    | none => s

/-- STALL_TIMEOUT (16 R462): the edge FIFOs offer tokens to a pipeline, and neither half has delivered one for 1 µs. -/
def stallTimeoutEffect (t a d : Nat) (s : State) : State :=
  let p := s.pipe a d
  let waits := decide (p.kerb ≠ []) || s.offered (a * 2 + d)
  if waits ∧ p.since + us 1 ≤ t then s.fence t a 4 else s

/-- EDGE_FIFO_WRITE (R58). -/
def execEdgeFifoWrite (t port : Nat) (k : Token) : State → Host.Outcome State Fault Refusal := event t (edgeFifoWriteEffect t port k)
/-- EDGE_FIFO_READ (R58). -/
def execEdgeFifoRead (t port key : Nat) : State → Host.Outcome State Fault Refusal := event t (edgeFifoReadEffect t port key)
/-- TOKEN_TRANSFER (R46). -/
def execTokenTransfer (t : Nat) (x : Hop) : State → Host.Outcome State Fault Refusal := event t (tokenTransferEffect t x)
/-- MEDIAN_COMPARE (R461). -/
def execMedianCompare (t : Nat) (x : MedWhat) : State → Host.Outcome State Fault Refusal := event t (medianCompareEffect t x)
/-- STALL_TIMEOUT (R462). -/
def execStallTimeout (t a d : Nat) : State → Host.Outcome State Fault Refusal := event t (stallTimeoutEffect t a d)

end Sys2Proof.Machine
end

