-- ==== Sys2Proof/Machine/Selector.lean ====
section
/-! DEFINITION. The hitless selector of Class A pairs (10 R318 to R332). -/
namespace Sys2Proof.Machine
open Sys2Proof

/-! ### The frame-by-frame criterion (R326, R327) -/

/-- An arrival a of path p is within the limits of reach for output instant o (R326, R329). -/
def State.reachAt (s : State) (d x : Nat) (h : PairH) (p : Bool) (o tf : Nat) (a : Int) : Bool :=
  let age := (o : Int) - a
  let lim := if h.ring = p ∧ ¬ h.unbuf then max 16 (s.ringSlots d x) else 16
  decide ((2 * tf : Nat) ≤ age ∧ age ≤ (lim * tf : Nat))
/-- Path p's frame for output instant o is in reach (R326). -/
def State.inReach (s : State) (d x : Nat) (h : PairH) (p : Bool) (o tf : Nat) : Bool :=
  (h.frameAt p o tf).any fun f => s.reachAt d x h p o tf f.arr
/-- Path p is beyond reach at output instant o (R328): the differential delay exceeds DD_MAX and the other path holds the output timing, or its
frame, where it has one, else the arrival Δ lets it expect, lies outside the limits. (DEDUCED, log entry 162) -/
def State.pathOut (s : State) (d x : Nat) (h : PairH) (p : Bool) (o tf : Nat) : Bool :=
  (h.path p).aligned && ((p != h.anchor && h.delta.any fun δ => decide (s.ddMax d x < δ.natAbs)) ||
    (match (h.frameAt p o tf).map (fun f => (f.arr : Int)) <|> h.expect p ((o : Int) - (4 * tf : Nat)) with
    | some a => !s.reachAt d x h p o tf a
    | none => false))

/-- The grade of path p's frame at output instant o (R327); a tributary that the class ladder has broken is no path (01 R39, R43). -/
def State.grade (s : State) (d x : Nat) (h : PairH) (p : Bool) (o tf : Nat) : Nat :=
  match h.frameAt p o tf with
  | none => 0
  | some f =>
    let k := oduKey (s.pathInst d x p)
    if ¬ s.inReach d x h p o tf ∨ ¬ f.usable ∨ (h.state = 3 ∧ h.beyond = p) ∨ (f.bad ∧ f.arr + 16 * tf < o) ∨ (d = 0 ∧ (s.control k 2 ∨ s.tribBroken (s.pathInst d x p))) then 0
    else if (f.errored ∧ f.done) ∨ (d = 0 ∧ s.control k 3) then 1 else 2

/-- The path sent at output instant o; none is ODU-AIS (R327). -/
def State.choose (s : State) (d x : Nat) (h : PairH) (o tf : Nat) : Option Bool :=
  let gx := s.grade d x h false o tf
  let gy := s.grade d x h true o tf
  if gx = 0 ∧ gy = 0 then none else if gy < gx then some false else if gx < gy then some true else some h.sel

/-- A path at an output instant: beyond reach, or in reach with its frame, or neither. -/
def PathH.reach (h : PathH) (t : Nat) (beyond ok : Bool) : PathH :=
  if beyond then { h with out := h.out + 1, inSince := none }
  else if ok then { h with out := 0, inSince := some (h.inSince.getD t) } else { h with inSince := none }
/-- Frames too old for the hold and the ring are gone. -/
def PathH.prune (h : PathH) (t span : Nat) : PathH := { h with frames := h.frames.filter fun f => decide (t ≤ f.arr + span) }

/-! ### What is sent (R300, R327; 05 R166) -/

/-- A frame of ODU-AIS with MFAS m (05 R166). -/
def aisFrame (m : Nat) : List Byte :=
  (leBytes 6 0x282828F6F6F6 ++ leBytes 1 m ++ List.replicate 7 0) ++ List.replicate 15282 0xFF
/-- The bytes of a frame that is sent: from the hold, or, older than 16 Tf, from its slot of the ring (R318). -/
def State.frameBytesOf (s : State) (d x : Nat) (f : SelFrame) (o tf : Nat) : List Byte :=
  if o ≤ f.arr + 16 * tf then f.bytes else (s.slotBytes d x f.seq 239).take 15296
/-- Bytes cut into tokens of a transmit stream, and what is left. (DESIGN CHOICE, log entry 17) -/
def tokensOf (key slice : Nat) (b : List Byte) : List Token × List Byte :=
  let n := b.length / 256
  ((List.range n).map fun j => { key := key, slice := slice, tx := true, leg := 0, pos := 0, mark := false, dts := none,
                                 data := BitVec.ofNat 2048 (ofLe ((b.drop (256 * j)).take 256)) }, b.drop (256 * n))
/-- The output of a transmit pair's selector goes on to the tributary stages of both partners (R300). -/
def State.feedBoth (s : State) (x : Nat) (b : List Byte) : State :=
  let h := s.pr 1 x
  let (l, r) := tokensOf (oduKey x) ((s.oduSlices chain x).headD 256) (h.rest ++ b)
  let ps := s.tribDests 1 x ++ s.tribDests 1 (s.pathInst 1 x true)
  (s.setPr 1 x { h with rest := r }).setFifo 0 460 (s.fifo 0 460 ++ l.map fun k => (k, ps))
/-- The selector of pair (d, X) sends a frame: of a path, or of ODU-AIS, whose MFAS continues the sequence sent (05 R166). -/
def State.sendFrame (s : State) (d x : Nat) (c : Option Bool) (f : Option SelFrame) (o tf ts : Nat) : State :=
  let h := s.pr d x
  let m := match f with | some g => g.mfas | none => h.mfas
  let b := match f with | some g => s.frameBytesOf d x g o tf | none => aisFrame h.mfas
  let s1 := (s.setPr d x { h with mfas := (m + 1) % 256 }).emit (.selected d x (if d = 0 then (s.cn 0 x).out else 0) c m ts b)
  if d = 0 then s1 else s1.feedBoth x b

/-- SELECTOR_OUTPUT (R327): output frame k of pair (d, X) leaves at t = O(k). -/
def selectorOutputEffect (t d x : Nat) (s : State) : State :=
  let h := s.pr d x
  let tf := s.tf x
  if ¬ s.isPair d x ∨ h.state = 0 ∨ tf = 0 ∨ t ≠ h.nextO tf then s else
  let c := s.choose d x h t tf
  let span := (max 16 (s.ringSlots d x) + 1) * tf
  let p := c.getD h.sel
  let h1 := { h with lastO := t, sel := p, aisOut := c.isNone, ais := if c.isNone then (h.ais + 1) % 2 ^ 32 else h.ais,
                     switches := if p ≠ h.sel then (h.switches + 1) % 2 ^ 32 else h.switches,
                     noReach := if s.inReach d x h false t tf || s.inReach d x h true t tf then 0 else h.noReach + 1,
                     x := (h.x.reach t (s.pathOut d x h false t tf) (s.inReach d x h false t tf)).prune t span,
                     y := (h.y.reach t (s.pathOut d x h true t tf) (s.inReach d x h true t tf)).prune t span }
  (s.setPr d x h1).sendFrame d x c (c.bind fun q => h.frameAt q t tf) t tf ((t : Int) - h.aConst).toNat

/-! ### Output timing (R319 to R321) -/

/-- The output timing is set to path p at its frame f (R320, R321): a later timing counts gap frames, an earlier one skipped
frames; the gap is sent as ODU-AIS. The spec gives the event no code: it is free. (DESIGN CHOICE, log entry 37) -/
def State.retimePair (s : State) (t d x : Nat) (p : Bool) (f : SelFrame) : State :=
  let h := s.pr d x
  let tf := s.tf x
  let new := f.arr + 4 * tf
  let held := decide (h.state ≠ 0)
  let old : Int := if ¬ held then new
    else match (if p = h.anchor then some (f.arr : Int) else h.shift p f.arr) with
      | some a => a + (4 * tf : Nat)
      | none => (h.lastO + tf : Nat)
  let sh := (new : Int) - old
  let n := (sh.natAbs + tf - 1) / tf
  let h1 := { h with anchor := p, lastO := new - tf, aConst := (new : Int) - f.fdts, noReach := 0, retime := none,
                     gap := if 0 < sh then (h.gap + n) % 2 ^ 32 else h.gap,
                     skipped := if sh < 0 then (h.skipped + n) % 2 ^ 32 else h.skipped,
                     beyond := if h.state = 3 ∧ h.beyond = p then !p else h.beyond }
  let h2 := if 2 ≤ h.state then h1
    else { (h1.to t 1) with sel := p, hits := if p = h.anchor ∧ held then h.hits else 0,
                            x := { h1.x with aligned := !p }, y := { h1.y with aligned := p } }
  let (s1, code) := s.fresh 16
  let s2 := (s1.setPr d x h2).log t code x 0
  if sh ≤ 0 then s2
  else (List.range n).foldl (fun z k => z.sendFrame d x none none t tf (old + (k * tf : Nat) - h2.aConst).toNat) s2

/-! ### Acquisition and tracking (R322 to R325) -/

/-- The candidates of a frame of path p (R323). (DEDUCED, log entry 70) -/
def State.candidates (s : State) (d x : Nat) (h : PairH) (p : Bool) (f : SelFrame) : List SelFrame :=
  (h.path (!p)).frames.filter fun c => decide (c.arr ≤ f.arr ∧ f.arr ≤ c.arr + s.ddMax d x) && c.mfas == f.mfas && c.omfi == f.omfi &&
    c.sig == f.sig
/-- A frame in SEARCH (R323). -/
def State.searchPair (s : State) (d x : Nat) (p : Bool) (f : SelFrame) (h : PairH) : PairH :=
  if f.hwSf || f.errored then h else
  match s.candidates d x h p f with
  | [c] =>
    let dl : Int := if p then (f.arr : Int) - c.arr else (c.arr : Int) - f.arr
    let n := if 0 < h.hits ∧ ¬ within dl h.dlast (s.tf x / 2) then 0 else h.hits
    { h with hits := n + 1, dlast := dl }
  | _ => h
/-- The partner of a frame of path p: the same MFAS within ±Tf ÷ 2 of the arrival expected (R325). -/
def PairH.mate (h : PairH) (p : Bool) (f : SelFrame) (tf : Nat) : Option SelFrame :=
  match h.shift p f.arr with
  | some e => (h.path (!p)).frames.find? fun c => c.mfas == f.mfas && within c.arr e (tf / 2)
  | none => none
/-- A path's frame that arrived at a has found its partner. -/
def PathH.mark (h : PathH) (a : Nat) : PathH := { h with frames := h.frames.map fun f => if f.arr = a then { f with mated := true } else f }
/-- A frame in LOCKED or BEYOND updates Δ, and it and its partner have found each other (R325). -/
def PairH.track (h : PairH) (p : Bool) (f : SelFrame) (tf : Nat) : PairH :=
  match h.mate p f tf with
  | some c =>
    let h1 := (h.setPath p ((h.path p).mark f.arr)).setPath (!p) ((h.path (!p)).mark c.arr)
    { h1 with delta := some (if p then (f.arr : Int) - c.arr else (c.arr : Int) - f.arr) }
  | none => h

/-! ### What a frame holds (R318, R322; 05 Table OVH-1) -/

/-- MFAS of a frame. -/
def frameMfas (b : List Byte) : Nat := (b.getD 6 0).toNat
/-- Its OMFI, row 4 column 16 (05 R149). -/
def frameOmfi (b : List Byte) : Nat := (b.getD 11487 0).toNat
/-- STAT of its PM field, row 3 column 12. -/
def frameStat (b : List Byte) : Nat := (b.getD 7659 0).toNat % 8
/-- The signature of its OPU area, rows 1 to 4 and columns 15 to 3,824 (R322). -/
def opuSig (b : List Byte) : Nat := crc crc32 ((List.range 4).flatMap fun r => ((b.drop (3824 * r)).take 3824).drop 14)

/-- SELECTOR_FRAME_ARRIVAL (R318, R321, R323, R325): a frame of path p of pair (d, X) reaches the selector at t.
(DEDUCED, log entry 138) -/
def selectorFrameArrivalEffect (t d x : Nat) (p : Bool) (f : PairFrame) (s : State) : State :=
  if ¬ s.isPair d x ∨ s.tf x = 0 then s else
  let h := s.pr d x
  let toRing := h.ring == p && !h.unbuf
  let g : SelFrame := { arr := t, mfas := frameMfas f.bytes, omfi := if s.hasOmfi x then frameOmfi f.bytes else 0, sig := opuSig f.bytes,
                        stat := frameStat f.bytes, fdts := f.fdts,
                        seq := h.written, hwSf := f.hwSf || (d == 0 && s.hwSf (s.pathInst d x p)), errored := f.errored, ring := toRing,
                        bytes := f.bytes }
  let v := h.path p
  let h1 := { h.setPath p { v with frames := v.frames ++ [g], usable := if g.usable then t else v.usable } with
              written := if toRing then (h.written + 1) % 2 ^ 32 else h.written }
  let h2 := if h.state = 1 then s.searchPair d x p g h1 else if 2 ≤ h.state then h1.track p g (s.tf x) else h1
  let s0 := if toRing then s.storeFrame d x h.written f.bytes else s
  let s1 := s0.setPr d x h2
  if (h.retime = some p) ∨ (g.usable ∧ (h.state = 0 ∨ 3 ≤ h.noReach)) then s1.retimePair t d x p g else s1

/-- The oldest frame without a complete descriptor, two frames after its arrival. -/
def dueFirst (t tf : Nat) (l : List SelFrame) : Option SelFrame := (l.find? fun f => !f.done).filter fun f => decide (f.arr + 2 * tf ≤ t)
/-- It is completed. -/
def completeFirst (t tf : Nat) : List SelFrame → List SelFrame
  | [] => []
  | f :: r => if f.done then f :: completeFirst t tf r else if f.arr + 2 * tf ≤ t then { f with done := true } :: r else f :: r

/-- DESCRIPTOR_COMPLETE (R318). -/
def descriptorCompleteEffect (t d x : Nat) (p : Bool) (s : State) : State :=
  if ¬ s.isPair d x then s else
  let h := s.pr d x
  let v := h.path p
  let s1 := s.setPr d x (h.setPath p { v with frames := completeFirst t (s.tf x) v.frames })
  match (dueFirst t (s.tf x) v.frames).filter (·.ring) with
  | some f => s1.storeDescriptor d x f
  | none => s1

/-- PAIR_LOCK (R323, R324): 8 consecutive hits. -/
def pairLockEffect (t d x : Nat) (s : State) : State :=
  let h := s.pr d x
  if ¬ s.isPair d x ∨ h.state ≠ 1 ∨ h.hits < 8 then s else
  s.setPr d x { (h.to t 2) with delta := some h.dlast, hits := 0, relocks := sat 0xFFFF (h.relocks + 1),
                                x := { h.x with aligned := true, out := 0, inSince := none },
                                y := { h.y with aligned := true, out := 0, inSince := none },
                                ring := if 0 < h.dlast then false else if h.dlast < 0 then true else h.ring }

/-- The latest three usable frames of path p whose partner is past due have found none. -/
def PairH.alone (h : PairH) (t : Nat) (p : Bool) (tf : Nat) : Bool :=
  let l := (h.path p).frames.filter fun f => f.usable && (h.shift p (f.arr : Int)).any fun e => decide (e + ((tf / 2 : Nat) : Int) < (t : Int))
  let r := l.drop (l.length - 3)
  r.length == 3 && r.all fun f => !f.mated && (h.mate p f tf).isNone

/-- PAIR_LOSE_ALIGNMENT (R325): the path not selected for the output leaves alignment. -/
def pairLoseAlignmentEffect (t d x : Nat) (s : State) : State :=
  let h := s.pr d x
  let tf := s.tf x
  if ¬ s.isPair d x ∨ h.state ≠ 2 ∨ ¬ (h.alone t false tf ∨ h.alone t true tf) then s else
  let q := !h.sel
  s.setPr d x ({ h with hits := 0 }.setPath q { h.path q with aligned := false } |>.to t 1)

/-- PAIR_BEYOND (R328): path p has been out of reach for 3 consecutive frames. -/
def pairBeyondEffect (t d x : Nat) (p : Bool) (s : State) : State :=
  let h := s.pr d x
  if ¬ s.isPair d x ∨ h.state ≠ 2 ∨ (h.path p).out < 3 then s else s.setPr d x { (h.to t 3) with beyond := p }

/-- PAIR_RETURN_LOCKED (R328): the path out of reach has been in reach for 1 s. -/
def pairReturnLockedEffect (t d x : Nat) (s : State) : State :=
  let h := s.pr d x
  if ¬ s.isPair d x ∨ h.state ≠ 3 ∨ ¬ ((h.path h.beyond).inSince.any fun a => decide (a + sec 1 ≤ t)) then s else s.setPr d x (h.to t 2)

/-- PAIR_IDLE (Table PRT-7): neither path has been usable for 1 ms; no output timing is held. -/
def pairIdleEffect (t d x : Nat) (s : State) : State :=
  let h := s.pr d x
  if ¬ s.isPair d x ∨ h.state = 0 ∨ t < max h.x.usable h.y.usable + ms 1 then s else
  s.setPr d x { (h.to t 0) with hits := 0, delta := none, aisOut := true, noReach := 0, x := { h.x with aligned := false },
                                y := { h.y with aligned := false } }

/-- SELECTOR_FRAME_ARRIVAL (R318). -/
def execSelectorFrameArrival (t d x : Nat) (p : Bool) (f : PairFrame) : State → Host.Outcome State Fault Refusal :=
  event t (selectorFrameArrivalEffect t d x p f)
/-- DESCRIPTOR_COMPLETE (R318). -/
def execDescriptorComplete (t d x : Nat) (p : Bool) : State → Host.Outcome State Fault Refusal := event t (descriptorCompleteEffect t d x p)
/-- PAIR_LOCK (R323). -/
def execPairLock (t d x : Nat) : State → Host.Outcome State Fault Refusal := event t (pairLockEffect t d x)
/-- PAIR_LOSE_ALIGNMENT (R325). -/
def execPairLoseAlignment (t d x : Nat) : State → Host.Outcome State Fault Refusal := event t (pairLoseAlignmentEffect t d x)
/-- PAIR_BEYOND (R328). -/
def execPairBeyond (t d x : Nat) (p : Bool) : State → Host.Outcome State Fault Refusal := event t (pairBeyondEffect t d x p)
/-- PAIR_RETURN_LOCKED (R328). -/
def execPairReturnLocked (t d x : Nat) : State → Host.Outcome State Fault Refusal := event t (pairReturnLockedEffect t d x)
/-- PAIR_IDLE (R321). -/
def execPairIdle (t d x : Nat) : State → Host.Outcome State Fault Refusal := event t (pairIdleEffect t d x)
/-- SELECTOR_OUTPUT (R327). -/
def execSelectorOutput (t d x : Nat) : State → Host.Outcome State Fault Refusal := event t (selectorOutputEffect t d x)

end Sys2Proof.Machine
end

