-- ==== Sys2Proof/Machine/Pace.lean ====
section
/-! DEFINITION. Pace monitors, calibration and pace shedding (02 R47 to R54, R65 to R71). -/
namespace Sys2Proof.Machine
open Sys2Proof

/-- A half of an Avenue. -/
def State.half (s : State) (a h : Nat) : HalfH := tget (fun _ => {}) s.ave.halves (a * 2 + h)
/-- A half replaced. -/
def State.setHalf (s : State) (a h : Nat) (x : HalfH) : State :=
  { s with ave := { s.ave with halves := tput (fun _ => {}) s.ave.halves (a * 2 + h) x } }

/-! ### Shedding (R65 to R70) -/

/-- The onward pipelines, of those a token of an edge FIFO goes to after its first stage, for which the Plaza holds tokens back: they, and not
the pipeline that feeds on the FIFO, keep it waiting (R46). -/
def State.heldForPipe (s : State) (k : Token) : List Nat := ((s.nextDests { k with leg := 1 }).map (·.pipe)).filter s.holdsFor
/-- The backlog of a pipeline reaches SHED_PCT (R65): for some edge FIFO that feeds it, at once or over the stage before, the tokens that wait
for it reach that share of the FIFO's depth. -/
def State.backlog (s : State) (a d : Nat) : Bool :=
  s.ave.fifos.any fun f => decide (f.1 < 1024) &&
    (let n := (f.2.filter fun x =>
      let on := s.heldForPipe x.1
      if on = [] then x.2.any fun q => q.pipe == a * 2 + d else on.contains (a * 2 + d)).length
    decide (0 < n) && decide (s.rget (Reg.AVE_PACE_CFG_SHED_PCT a 0) * s.fifoDepth f.1 ≤ 100 * n))
/-- The traffic configured on an Avenue in units of 1.25 Gb/s: its slices at 100 Gb/s and the TU charged to its slot. (DEDUCED, log entry 22) -/
def State.needFull (s : State) (a : Nat) : Nat :=
  match s.slotOf a with
  | some sl => 80 * (s.slicesOn sl).length + s.slotTu sl
  | none => 0
/-- The TU freed by the tributaries of an Avenue that are broken; a lower-order ODU is within its server's charge. -/
def State.needFreed (s : State) (a : Nat) : Nat :=
  match s.slotOf a with
  | some sl => (((s.odusOn sl).filter fun i => (s.odu i).broken.isSome && ((s.odu i).inHo.all fun h => (s.odu h).broken.isNone)).map
      fun i => (s.odu i).tus).sum
  | none => 0
/-- The tributaries of an Avenue that a shed decision may break: those that carry no lower-order ODU. (DEDUCED, log entry 22) -/
def State.sheddable (s : State) (a : Nat) : List Nat :=
  match s.slotOf a with
  | some sl => (s.odusOn sl).filter fun i => s.carried i = [] ∧ (s.odu i).broken.isNone
  | none => []
/-- The shortest prefix whose bandwidth at 1,250 Mb/s per TU covers a deficit, at least one (R67). Both sides in 1/100 Mb/s. -/
def State.prefixFor (s : State) (deficit : Int) : List Nat → Nat → List Nat
  | [], _ => []
  | i :: r, freed =>
    let f := freed + 125000 * (s.odu i).tus
    if deficit ≤ (f : Int) then [i] else i :: s.prefixFor deficit r f
/-- A shed decision on a pipeline at pace p Mtoken/s (R67, R69): Class C, then Class B; with none left SHED_EXHAUSTED, and Class A is
broken, naming no protected class (01 R43). SHED_EXHAUSTED comes with the decision that breaks the last of them. (DEDUCED, log entry 22) -/
def State.shedNow (s : State) (t a d p : Nat) : State :=
  let need := s.needFull a - s.needFreed a
  let deficit : Int := 125000 * (need * (100 + s.rget (Reg.AVE_PACE_CFG_SHED_MARGIN_PCT a 0)) : Nat) / 100 - 204800 * (p : Int)
  let left := s.sheddable a
  let low := left.filter fun i => (s.odu i).cls ≠ 2
  let s1 := s.setPipe a d { s.pipe a d with dec := some 0, quiet := none, restored := none }
  let pick := s.prefixFor deficit (ladder s (if low = [] then left else low)) 0
  let prot := if low = [] then none else topClass s (left.filter fun i => ¬ pick.contains i)
  let s2 := if low.all pick.contains then s1.shedOut t a true else s1
  let s3 := pick.foldl (fun z i => z.breakOdu t i trigPace prot) s2
  (s3.setPipe a d { s3.pipe a d with shed := pick.reverse ++ (s3.pipe a d).shed }).shedShow t a

/-- The restore margin holds on a pipeline at pace p (R70); an Avenue that serves no slot restores nothing. -/
def State.restoreOk (s : State) (a p : Nat) : Bool :=
  (s.slotOf a).isSome && decide (125000 * s.needFull a * (100 + s.rget (Reg.AVE_PACE_CFG_RESTORE_MARGIN_PCT a 0)) ≤ 100 * 204800 * p)
/-- The shedding side of a gate on a pipeline (R65, R69, R70). -/
def State.shedGate (s : State) (t a d p : Nat) : State :=
  let h := s.pipe a d
  let gates := h.dec.map (· + 1)
  if s.backlog a d then
    (if gates.all fun n => 2 ≤ n then s.shedNow t a d p
    else s.setPipe a d { h with dec := gates, quiet := none, restored := none })
  else
    let h1 := { h with dec := gates.bind fun n => if n < 2 then some n else none }
    if h.shed = [] then s.setPipe a d { h1 with quiet := none, restored := none }
    else if h.restored.isSome then s.setPipe a d h1
    else s.setPipe a d { h1 with quiet := if s.restoreOk a p then some (h.quiet.getD t) else none }

/-- SHED_RESTORE (R70): one tributary of the pipeline is restored in the order of R41, once the quiet time is over, one every 10 ms
(DEDUCED, log entry 23). Whether its slot still has room for it within 640 TU is not looked at: spare exhaustion may have used that room.
SHED_EXHAUSTED clears when a tributary that is not Class A comes back, or nothing stays shed. (DESIGN CHOICE, log entry 127) -/
def shedRestoreEffect (t a d : Nat) (s : State) : State :=
  let h := s.pipe a d
  let due : Bool := match h.restored with
    | some r => decide (r + ms 10 ≤ t)
    | none => h.quiet.any fun q => decide (q + ms (25 * 2 ^ s.rget (Reg.AVE_PACE_CFG_RESTORE_QUIET_MS a 0)) ≤ t)
  if ¬ (a < 36 ∧ d < 2 ∧ due) then s else
  match nextRestore s (h.shed.filter fun i => (s.odu i).broken.isSome) with
  | none => s
  | some i =>
    let s1 := ((s.restoreOdu t i).arcRejoin t i).setPipe a d { h with shed := h.shed.filter fun x => x ≠ i, restored := some t }
    let s2 := if (s.odu i).cls = 2 then s1 else s1.shedOut t a false
    let s3 := if (s2.pipe a d).shed = [] then (s2.setPipe a d { s2.pipe a d with quiet := none, restored := none }).shedOut t a false else s2
    s3.shedShow t a

/-! ### Gates (R50, R51) -/

/-- The monitors of one half at the end of a gate, with the counts of its two replica loops. (DEDUCED, log entry 21) -/
def State.gateHalf (s : State) (t a h rx tx : Nat) : State :=
  let r := rx / 10 % 65536
  let x := tx / 10 % 65536
  let v := s.half a h
  let s1 := (s.rset (Reg.AVE_PACE_PACE_MT_RX a h) r).rset (Reg.AVE_PACE_PACE_MT_TX a h) x
  let lo (ld : Bool) (old new : Nat) : Nat := if ld then min old new else new
  let s2 := (s1.rset (Reg.AVE_PACE_MIN_MIN_MT_RX a h) (lo v.rxLd (s1.rget (Reg.AVE_PACE_MIN_MIN_MT_RX a h)) r)).rset
    (Reg.AVE_PACE_MIN_MIN_MT_TX a h) (lo v.txLd (s1.rget (Reg.AVE_PACE_MIN_MIN_MT_TX a h)) x)
  let w := s.rget (Reg.AVE_PACE_CFG_WARN_MT a h)
  let s3 := (s2.setHalf a h { v with rxLd := true, txLd := true }).live t (Reg.AVE_PACE_LIVE_PACE_WARN a h) (2 * a + h) (decide (r < w ∨ x < w))
  (s3.live t (Reg.AVE_PACE_LIVE_EDGE_OVF a h) (2 * a + h) (s.av a).ovf).live t (Reg.AVE_PACE_LIVE_EDGE_UFL a h) (2 * a + h) (s.av a).ufl

/-- PACE_GATE_END (R50, R51, R65 to R69): a gate of Avenue a ends with the counts of half 0 (receive, transmit) and half 1.
(DEDUCED, log entry 23) -/
def paceGateEndEffect (t a r0 x0 r1 x1 : Nat) (s : State) : State :=
  if 36 ≤ a then s else
  let s1 := (s.gateHalf t a 0 r0 x0).gateHalf t a 1 r1 x1
  let s2 := s1.setAv a { s1.av a with ovf := false, ufl := false }
  (s2.shedGate t a 0 (min (r0 / 10) (r1 / 10))).shedGate t a 1 (min (x0 / 10) (x1 / 10))

/-! ### Calibration (R52 to R54) -/

/-- CALIBRATION (R52): a calibration of a half completes, 10 ms less 0.5 ms or more after the one before, with the codes wanted for its
matched delays, which keep a margin of 12 % or more, and the smallest margin (DESIGN CHOICE, log entry 24). LAST_STEPS counts the steps from the
codes in force to those wanted, not yet applied; it and WORST_MARGIN_PCT stop at 255. (DESIGN CHOICE, log entry 128) -/
def calibrationEffect (t a h : Nat) (codes : List DelayCode) (margin : Nat) (s : State) : State :=
  let v := s.half a h
  if ¬ (a < 36 ∧ h < 2 ∧ 12 ≤ margin ∧ (v.calAt = 0 ∨ v.calAt + us 9500 ≤ t)) then s else
  let tgt := codes.foldl (fun m c => tput (fun _ => 0) m (c.stage * 2 + c.pipe) c.code) v.tgt
  let steps := ((codes.map fun c => c.stage * 2 + c.pipe).eraseDups.map fun k =>
    let x := tget (fun _ => 0) v.cur k
    let y := tget (fun _ => 0) tgt k
    max x y - min x y).sum
  let s1 := ((s.setHalf a h { v with calAt := t, tgt := tgt }).rset (Reg.AVE_CAL_CAL_COUNT a h)
    ((s.rget (Reg.AVE_CAL_CAL_COUNT a h) + 1) % 65536)).rset (Reg.AVE_CAL_LAST_STEPS a h) (sat 255 steps)
  (s1.rset (Reg.AVE_CAL_WORST_MARGIN_PCT a h) (sat 255 margin)).live t (Reg.AVE_PACE_LIVE_CAL_STALE a h) (2 * a + h) false

/-- DELAY_CODE_APPLY (R53): the matched delay of stage k of pipeline d in a half moves one step toward the code wanted, while that stage
holds no token. -/
def delayCodeApplyEffect (_t a h d k : Nat) (s : State) : State :=
  if ¬ (a < 36 ∧ h < 2 ∧ d < 2 ∧ k ≤ Config.stagesLess1) ∨ ((s.pipe a d).at_ h k).isSome then s else
  let v := s.half a h
  let x := tget (fun _ => 0) v.cur (k * 2 + d)
  let y := tget (fun _ => 0) v.tgt (k * 2 + d)
  s.setHalf a h { v with cur := tput (fun _ => 0) v.cur (k * 2 + d) (if x < y then x + 1 else if y < x then x - 1 else x) }

/-- CAL_STALE (R54): no calibration of a half has completed for 30 ms. The rise of the bit is the event. (DESIGN CHOICE, log entry 24) -/
def calStaleEffect (t a h : Nat) (s : State) : State :=
  if a < 36 ∧ h < 2 ∧ (s.half a h).calAt + ms 30 ≤ t then s.live t (Reg.AVE_PACE_LIVE_CAL_STALE a h) (2 * a + h) true else s
/-- CAL_ABSENT (R54; 16 R462): none for 100 ms: a CAL mismatch. -/
def calAbsentEffect (t a h : Nat) (s : State) : State :=
  if a < 36 ∧ h < 2 ∧ (s.half a h).calAt + ms 100 ≤ t then s.fence t a 5 else s

/-- PACE_GATE_END (R50). -/
def execPaceGateEnd (t a r0 x0 r1 x1 : Nat) : State → Host.Outcome State Fault Refusal := event t (paceGateEndEffect t a r0 x0 r1 x1)
/-- SHED_RESTORE (R70). -/
def execShedRestore (t a d : Nat) : State → Host.Outcome State Fault Refusal := event t (shedRestoreEffect t a d)
/-- CALIBRATION (R52). -/
def execCalibration (t a h : Nat) (codes : List DelayCode) (margin : Nat) : State → Host.Outcome State Fault Refusal :=
  event t (calibrationEffect t a h codes margin)
/-- DELAY_CODE_APPLY (R53). -/
def execDelayCodeApply (t a h d k : Nat) : State → Host.Outcome State Fault Refusal := event t (delayCodeApplyEffect t a h d k)
/-- CAL_STALE (R54). -/
def execCalStale (t a h : Nat) : State → Host.Outcome State Fault Refusal := event t (calStaleEffect t a h)
/-- CAL_ABSENT (R54). -/
def execCalAbsent (t a h : Nat) : State → Host.Outcome State Fault Refusal := event t (calAbsentEffect t a h)

end Sys2Proof.Machine
end

