-- ==== Sys2Proof/Machine/HostAccess.lean ====
section
/-! DEFINITION. Host reads and writes of registers, and reads of the table space (00 R3 to R7, R608, R609; 17 R503 to R506). -/
namespace Sys2Proof.Machine
open Sys2Proof

/-! ### Writes (R4, R609) -/

/-- A value held in a range (R609). -/
def clampTo (lo hi v : Nat) : Nat := max lo (min hi v)
/-- The value a field stores of a write (Table SCO-3, R609). -/
def fieldStore (f : FieldRow) (old v : Nat) : Nat :=
  let x := bits v f.lo f.w
  match f.acc with
  | .rw => (match f.lim with | some (lo, hi) => clampTo lo hi x | none => x)
  | .rws | .rw1c => bits old f.lo f.w &&& (2 ^ f.w - 1 - x)
  | _ => bits old f.lo f.w
/-- The word a register holds after a write of v, its range checks apart from those between fields (R4, R609); a field that the map does
not list holds nothing (R3). -/
def rowStore (r : RegRow) (old v : Nat) : Nat := r.fields.foldl (fun x f => setBits x f.lo f.w (fieldStore f old v)) 0
/-- Ranges bounded by another field or by the grade (R609): HEADROOM_NS by DESKEW_MAX_NS; ACCEPT at least 0.5 ppm below REJECT (11
R342); ASYM_PS within ±32,767; TEMP_WARN from 50 to the grade's maximum (18 MNT_TEMP_CFG). -/
def rowBounds (r : RegRow) (x : Nat) : Nat :=
  if r.special = .tempCfg then setBits x 0 8 (clampTo 50 (105 + 5 * b2n Config.grade) (bits x 0 8))
  else if r.special = .asym then (if bits x 9 16 = 0x8000 then setBits x 9 16 0x8001 else x)
  else if r.base = Reg.TIM_MON_CFG then
    let rej := bits x Reg.TIM_MON_CFG_REJECT_DPPM.lo Reg.TIM_MON_CFG_REJECT_DPPM.w
    let f := Reg.TIM_MON_CFG_ACCEPT_DPPM
    setBits x f.lo f.w (min (bits x f.lo f.w) (rej - 5))
  else if r.base = Reg.LIN_GRP_TIMERS 0 then setBits x 12 12 (min (bits x 12 12) (bits x 0 12))
  else x

/-- The RATE field of an LREF's TIM_REF_CFG replaced: it reads 0xF and its writes are ignored (11 R371). -/
def lrefRate (r : RegRow) (i rate x : Nat) : Nat := if r.base = Reg.TIM_REF_CFG 0 ∧ 16 ≤ i then setBits x 1 4 rate else x

/-- Why a write of a word is refused with CA beside R503, as a REASON (none: the spec names none): check-value parameters while EN is set
(15 R460); a reference index that names none (11 R333). -/
def State.wordFault (s : State) (a v : Nat) : Option (Option Nat) :=
  match rowAt a with
  | none => none
  | some (r, i, _) =>
    match r.special with
    | .cvuParam => if s.rbit (Reg.CVU_CFG_EN i) then some (some 4) else none
    | .dpCand => if refNamed i (v % 512) then none else some (some 9)
    | _ => none

/-- What follows the write of a word that R4 stored: candidates are looked at again, the DPLLs keep within REJECT (11 R343 to R345, R354),
the selected time peer is shown (08 SYP_AL_TC), the sources of LOS and the XOFF pins are looked at again (04 R126, 12 R388, R394), the PRBS
permits held stop their lanes' adaptation where asked (18 R524), a vector unmasked sends its pending message (R520). (DEDUCED, log entry
120) -/
def State.wordFollow (s : State) (t a : Nat) : State :=
  match rowAt a with
  | none => s
  | some (r, i, _) =>
    if r.base = Reg.TIM_DP_CFG 0 ∨ r.special = .dpCand then s.dpSelect t i 1
    else if r.base = Reg.TIM_MON_CFG then s.dpLimitAll
    else if r.base = Reg.SYP_AL_TC 0 then s.tcShow i
    else if r.base = Reg.MNT_CFG then s.adaptFollow t
    else if r.base = Reg.LIN_LIF_LOS_CFG 0 then s.lifSources t i
    else if r.base = Reg.QUE_XOFF_IN_CFG then s.xoffInShow t
    else if r.base = Reg.QUE_GRP_CFG 0 then (s.xoffInShow t).xoffFollowAll t
    else if r.special = .msixCtrl then
      (if s.irq.pba.getLsbD i ∧ ¬ s.vecMasked i then
        ({ s with irq := { s.irq with pba := s.irq.pba &&& ~~~((1 : BitVec 64) <<< i) } } : State).emit (s.msixOut i)
      else s)
    else s

/-- A register with a row of its own in the command table is left to that row. (DEDUCED, log entry 92) -/
def ownRow (x : Special) : Bool :=
  match x with
  | .plain | .asym | .tempCfg | .cvuParam | .cvuFifoVal | .dpCand | .msixCtrl | .live | .oapGo => false
  | _ => true
/-- One word of a register write (R3, R4): an offset with no register stores nothing. -/
def State.writeWord (s : State) (t a v : Nat) : State :=
  match rowAt a with
  | none => s
  | some (r, i, _) =>
    if ownRow r.special then s
    else if r.special = .cvuFifoVal then s.setWord a v
    else (s.setWord a (lrefRate r i 0 (rowBounds r (rowStore r (s.wordN a) v)))).wordFollow t a

/-- The words of an access with their parts of a value. -/
def accWords (a : Access) (v : Nat) : List (Nat × Nat) := (List.range (a.size / 4)).map fun k => (a.off + 4 * k, bits v (32 * k) 32)

/-- A write that a register rule refuses: completed with CA and recorded, under a REASON, or under a free value where the spec names
none. (DESIGN CHOICE, log entry 46) -/
def State.refuseWrite (s : State) (t : Nat) (a : Access) (r : Option Nat) : State :=
  match r with
  | some x => s.refuse t a true x true
  | none => let (s1, x) := s.fresh 8; s1.refuse t a true x true
/-- REGISTER_WRITE (R4, R609, 17 R503): a write of v to registers that have no row of their own; where one word is refused, the
access is. -/
def registerWriteEffect (t : Nat) (a : Access) (v : Nat) (s : State) : State :=
  match (accWords a v).findSome? fun p => s.wordFault p.1 p.2 with
  | some r => s.refuseWrite t a r
  | none => (accWords a v).foldl (fun z p => z.writeWord t p.1 p.2) s

/-! ### Reads -/

/-- A per-interface register of an i that names no interface (04 R136), or a per-link register of a lane group configured for Ethernet
(08 R271), reads as zero. (DEDUCED, log entry 98) -/
def State.readsZero (s : State) (a : Nat) : Bool :=
  if 0xC0000 ≤ a ∧ a < 0xD0000 then s.lifType ((a - 0xC0000) / 0x200) == 0
  else if 0x110000 ≤ a ∧ a < 0x11A000 then (s.sysGrp ((a - 0x110000) / 0x800)).mode == 1
  else false
/-- SNAP_AGE_S (18 R538): seconds since the last sealed snapshot, 255 for none. -/
def State.snapAge (s : State) : Nat := match s.mnt.sealedAt with | some a => sat 255 (secOf s.dts - secOf a) | none => 255
/-- FAULTS_24H of a domain (19 R557): its faults within the 24 h before t. -/
def State.domFaults (s : State) (t d : Nat) : List Nat := (tget (fun _ => []) s.pwr.faults d).filter fun x => decide (t < x + sec 86400)
/-- An offset holds the lower word of a 48-bit counter. -/
def isCtr (a : Nat) : Bool := ctrRows.any fun c => (famIndex a c.1 c.2.1 c.2.2.1 c.2.2.2.1 c.2.2.2.2).isSome
/-- The counter at an offset as a read shows it. -/
def State.ctrRead (s : State) (a : Nat) : Nat := if s.readsZero a then 0 else s.cget a
/-- The bits of a register that a read shows: a WO field and a field that the map does not list read zero (R3, R4). -/
def State.readWord (s : State) (a : Nat) : Nat :=
  if s.readsZero a then 0
  else if a = Reg.SYS_IRQ_STATUS then s.irq.status.toNat
  else if a = Reg.MNT_LB_STAT then setBits (s.wordN a) 8 8 s.snapAge
  else if Reg.PWR_DOM 0 ≤ a ∧ a ≤ Reg.PWR_DOM 98 then
    setBits (s.wordN a) 8 8 (sat 255 (s.domFaults s.dts ((a - Reg.PWR_DOM 0) / 4)).length)
  else if a = Reg.MSIX_PBA 0 then s.irq.pba.toNat % 2 ^ 32
  else if a = Reg.MSIX_PBA 1 then s.irq.pba.toNat / 2 ^ 32
  else match rowAt a with
    | none => if isCtr a then s.ctrRead a % 2 ^ 32 else s.wordN a
    | some (r, i, _) => lrefRate r i 0xF <| r.fields.foldl (fun x f => if f.acc = .wo then x else setBits x f.lo f.w (bits (s.wordN a) f.lo f.w)) 0
/-- What a read changes in a word: a counter's lower word latches its upper bits (R6); RC fields clear; an AVE_PACE_MIN takes the next
gate (02 R50); a violation log entry counts as read. -/
def State.readFollow (s : State) (a : Nat) : State :=
  match rowAt a with
  | none => if isCtr a then s.setWord (a + 4) (s.ctrRead a / 2 ^ 32) else s
  | some (r, i, j) =>
    let x := r.fields.foldl (fun x f => if f.acc = .rc then setBits x f.lo f.w 0 else x) (s.wordN a)
    let s1 := if x = s.wordN a then s else s.setWord a x
    if r.base = Reg.AVE_PACE_MIN 0 0 then s1.setHalf i j { s1.half i j with rxLd := false, txLd := false }
    else if r.base = Reg.SYS_VIOL_LOG 0 0 then { s1 with violUnread := s1.violUnread &&& ~~~((1 : BitVec 64) <<< i) }
    else s1

/-- The words from a on read one after another, n of them: their value, and what the reads change. -/
def State.readWords (s : State) (a : Nat) : Nat → Nat × State
  | 0 => (0, s)
  | n + 1 =>
    let r := (s.readFollow a).readWords (a + 4) n
    (s.readWord a + r.1 * 2 ^ 32, r.2)
/-- A read of registers returns their values; then RC fields clear and counters latch (R4, R6). -/
def hostRead (a : Access) (s : State) : State :=
  let r := s.readWords a.off (a.size / 4)
  r.2.emit (.readData a.tag a.size r.1)
/-- RC_FIELD_READ (R4): a read of registers returns their values, then their RC fields clear. (DEDUCED, log entry 92) -/
def rcFieldReadEffect (_t : Nat) (a : Access) (s : State) : State := hostRead a s

/-- COUNTER_LOWER_WORD_READ (R6): a read of a counter's lower word latches its upper bits into the upper word. -/
def counterLowerWordReadEffect (_t : Nat) (a : Access) (s : State) : State := if isCtr a.off then hostRead a s else s

/-! ### The table space (R505, R506, Table HST-3) -/

/-- The record of a table at a table-space address, as its start, its length and its value; none where no table stands. -/
def State.tableRec (s : State) (x : Nat) : Option (Nat × Nat × Nat) :=
  let at_ (base n : Nat) (f : Nat → Nat) : Option (Nat × Nat × Nat) :=
    let k := (x - base) / n
    some (base + k * n, n, f k)
  if x < 0x400000 then at_ 0 32 fun c => ctxRecord (s.cx c)
  else if x < 0x600000 then
    (if x < 0x400000 + 40960 * 32 then at_ 0x400000 32 fun k => s.mapRecord (k / 2) (k % 2) else none)
  else if x < 0x800000 then
    (if x < 0x600000 + 40960 * 32 then at_ 0x600000 32 fun k => (s.cn (k / 20480) (k % 20480)).record else none)
  else if x < 0xA00000 then
    (if x < 0x800000 + 40960 * 32 then at_ 0x800000 32 fun k => s.flowRecord (k / 20480) (k % 20480) else none)
  else if x < 0xC00000 then
    (if x < 0xA00000 + 40960 * 32 then at_ 0xA00000 32 fun k => s.pairRecord (k / 20480) (k % 20480) else none)
  else if x < 0xC20000 then at_ 0xC00000 32 fun q => queueRecord (s.q q)
  else if x < 0xCA0000 then at_ 0xC20000 8 fun e => (s.pmE e).control
  else if x < 0x1000000 then none
  else if x < 0x2000000 then at_ 0x1000000 64 fun k => s.trailGet (k / 4) (64 * (k % 4)) 64
  else if x < 0x100000000 then none
  else if x < 0x100000000 + 65536 * 105 * 64 then
    at_ 0x100000000 64 fun k => ((s.pmE (k / 105)).bin (k % 105)).bytes
  else if x < 0x200000000 then none
  else if x < 0x280000000 then at_ 0x200000000 32 fun k => ((s.evl.ring.find? fun p => p.1 = k).map fun p => p.2.bytes).getD 0
  else none
/-- A byte of the table space; zero where no table stands (R505). -/
def State.tableByte (s : State) (x : Nat) : Byte :=
  match s.tableRec x with
  | some (st, _, v) => BitVec.ofNat 8 (v / 2 ^ (8 * (x - st)))
  | none => 0
/-- The table-space address of a BAR2 offset (R505). -/
def State.tableAddr (s : State) (off : Nat) : Nat :=
  if off < 0x8000000 then off else s.rget Reg.SYS_APT_BASE_BASE * 2 ^ 27 + (off - 0x8000000)

/-- BAR2_READ (R503, R505, R506). -/
def bar2ReadEffect (t : Nat) (a : Access) (s : State) : State :=
  if a.bar ≠ 2 ∨ 0x10000000 ≤ a.off then s
  else if a.size < 4 ∨ 512 < a.size ∨ a.off % 4 ≠ 0 then s.refuse t a false 3 true
  else s.emit (.readData a.tag a.size (ofLe ((List.range a.size).map fun k => s.tableByte (s.tableAddr (a.off + k)))))

/-- REGISTER_WRITE (R4). -/
def execRegisterWrite (t : Nat) (a : Access) (v : Nat) : State → Host.Outcome State Fault Refusal :=
  event t (hostAccess t a true (registerWriteEffect t a v))
/-- RC_FIELD_READ (R4). -/
def execRcFieldRead (t : Nat) (a : Access) : State → Host.Outcome State Fault Refusal :=
  event t (hostAccess t a false (rcFieldReadEffect t a))
/-- COUNTER_LOWER_WORD_READ (R6). -/
def execCounterLowerWordRead (t : Nat) (a : Access) : State → Host.Outcome State Fault Refusal :=
  event t (hostAccess t a false (counterLowerWordReadEffect t a))
/-- BAR2_READ (R505). -/
def execBar2Read (t : Nat) (a : Access) : State → Host.Outcome State Fault Refusal := event t (bar2ReadEffect t a)

end Sys2Proof.Machine
end

