-- ==== Sys2Proof/Machine/Ring.lean ====
section
/-! DEFINITION. The command ring and the course of every command (17 R508 to R518), the interrupt acknowledgement (R520), and the
commands on versions and the DEVID. -/
namespace Sys2Proof.Machine
open Sys2Proof

/-! ### The ring (R508, R509) -/

/-- n of R508: 4 to 12; other values act as 12. -/
def State.ringLog (s : State) : Nat := let n := s.rget Reg.HCQ_CTL_RING_LOG2; if n < 4 ∨ 12 < n then 12 else n
/-- The 16-bit difference of two ring indices. -/
def idxDiff (a b : Nat) : Nat := (a + 65536 - b % 65536) % 65536
/-- The completion ring holds as many unconsumed records as it has room for. -/
def State.cplFull (s : State) : Bool :=
  decide (2 ^ s.ringLog ≤ idxDiff (s.rget Reg.CPL_PI_V) (s.rget Reg.CPL_CI_V))
/-- A descriptor waits in the ring. -/
def State.cmdWaits (s : State) : Bool := s.rget Reg.CMD_CI_V != s.rget Reg.CMD_PI_V
/-- The next descriptor is executed at t (R509, R518): the ring is enabled, a Kiosk with a valid lease executes it (00 R13), a descriptor
waits, no command is in execution, and the completion ring has room. -/
def State.ringReady (s : State) (t : Nat) : Bool :=
  s.rbit Reg.HCQ_CTL_EN && s.rbit Reg.HCQ_STAT_READY && s.leaseAt t && s.cmdWaits && s.hcq.exec.isNone && !s.cplFull && s.hcq.reset.isNone
/-- CPL_FULL follows the rings: a command waits for room. -/
def State.fullShow (s : State) (t : Nat) : State := s.live t Reg.HCQ_LIVE_CPL_FULL 0 (s.rbit Reg.HCQ_CTL_EN && s.cmdWaits && s.cplFull)

/-- The 32 bytes of a completion record (Table HST-7). -/
def CplRec.bytes (c : CplRec) (phase : Bool) : Nat :=
  c.tag % 2 ^ 32 + atByte 4 (c.status % 2 ^ 16) + atByte 6 (c.op % 2 ^ 16) + atByte 8 (c.ofs % 2 ^ 32) + atByte 12 (dts96 c.dts)
    + atByte 24 (c.result % 2 ^ 48) + atByte 31 (b2n phase)
/-- A completion is written at the next position of its ring, then CPL_PI advances (R509). -/
def State.putCpl (s : State) (t : Nat) (c : CplRec) : State :=
  let p := s.rget Reg.CPL_PI_V
  let n := 2 ^ s.ringLog
  let s1 := (s.emit (.completion (p % n) (c.bytes (decide (p / n % 2 = 0))))).rset Reg.CPL_PI_V ((p + 1) % 65536)
  let s2 := s1.pulseFor t Reg.HCQ_LIVE_CPL 0 (us 1)
  (if c.status = 0 then s2 else s2.pulse t Reg.HCQ_LIVE_ERROR 0).fullShow t
/-- The indices are zeroed and the HCP negotiation ends (R517). -/
def State.ringClose (s : State) (t : Nat) : State :=
  let s1 := (((s.rset Reg.CMD_PI_V 0).rset Reg.CMD_CI_V 0).rset Reg.CPL_PI_V 0).rset Reg.CPL_CI_V 0
  (((s1.rsetb Reg.HCQ_STAT_HELLO_DONE false).rset Reg.HCQ_STAT_HCP 0).fullShow t)
/-- The command in execution is over: its record is written, or journalled where a link reset took the ring away (19 R544); then a ring
whose EN was cleared closes (R517). (DEDUCED, log entry 95) -/
def State.finish (s : State) (t : Nat) (c : CplRec) : State :=
  let s1 := if s.hcq.cut then { s with hcq := { s.hcq with journal := s.hcq.journal ++ [c] } } else s.putCpl t c
  let s2 := if s.hcq.closing then s1.ringClose t else s1
  ({ s2 with hcq := { s2.hcq with exec := none, closing := false, cut := false } } : State).rsetb Reg.HCQ_STAT_BUSY false

/-- How a command ends: with every effect, and a RESULT; refused, with a status, the offset at fault and a RESULT; or at a later effect
instant. -/
inductive CmdRes
  | ok (s : State) (result : Nat)
  | err (status ofs result : Nat)
  | later (s : State) (kind : ExecKind)

/-- No parameter is at fault. -/
def noOfs : Nat := 0xFFFFFFFF
/-- An offset in the buffer of a descriptor (Table HST-7). -/
def bufOfs (n : Nat) : Nat := 2 ^ 31 + n
/-- E_RANGE at a descriptor offset. -/
def CmdRes.range (ofs : Nat) : CmdRes := .err 2 ofs 0
/-- E_STATE. -/
def CmdRes.state : CmdRes := .err 9 noOfs 0
/-- E_CAPACITY. -/
def CmdRes.capacity (ofs : Nat) : CmdRes := .err 8 ofs 0

/-- The lower of two offsets at fault: a descriptor's comes before a buffer's. (DEDUCED, log entry 96) -/
def rangeFirst (resv : Option Nat) (r : CmdRes) : CmdRes :=
  match resv, r with
  | some o, .err 2 p x => if p < o then .err 2 p x else .err 2 o 0
  | some o, _ => .err 2 o 0
  | none, r => r

/-- The checks every command passes (R26, R510, R512, R515): HELLO first, the version in force, the Active role for a privileged act, the
unnamed bytes and the host buffer. Before a version is chosen there is none to compare with: the HCP field of the first HELLO's own
descriptor is not checked. (DEDUCED, log entry 96; DESIGN CHOICE, log entry 123) -/
def State.cmdCheck (s : State) (t : Nat) (d : Desc) (hello priv : Bool) (f : State → CmdRes) : CmdRes :=
  if ¬ hello ∧ ¬ s.rbit Reg.HCQ_STAT_HELLO_DONE then .err 1 noOfs 0
  else if s.rbit Reg.HCQ_STAT_HELLO_DONE ∧ d.hcp ≠ s.rget Reg.HCQ_STAT_HCP then .err 1 2 0
  else if priv ∧ ¬ s.privileged t then .err 6 noOfs 0
  else if d.fetchFail then (match d.resv with | some o => .err 2 o 0 | none => .err 0xB noOfs 0)
  else rangeFirst d.resv (f s)

/-- A descriptor is read and executed at t (R509, R511): CMD_CI advances; a command with all its effects completes with OK and its effect
instant `eff`, a refused one changes nothing else. -/
def State.runCmdAt (s : State) (t eff op : Nat) (d : Desc) (hello priv : Bool) (f : State → CmdRes) : State :=
  if ¬ s.ringReady t then s else
  let s1 := s.rset Reg.CMD_CI_V ((s.rget Reg.CMD_CI_V + 1) % 65536)
  match s1.cmdCheck t d hello priv f with
  | .ok s2 r => s2.putCpl t ⟨d.tag, 0, op, noOfs, eff, r⟩
  | .err st o r => s1.putCpl t ⟨d.tag, st, op, o, t, r⟩
  | .later s2 k => (({ s2 with hcq := { s2.hcq with exec := some ⟨d.tag, op, k⟩ } } : State).rsetb Reg.HCQ_STAT_BUSY true).fullShow t

/-- A command whose effects take place where it is executed. -/
def State.runCmd (s : State) (t op : Nat) (d : Desc) (hello priv : Bool) (f : State → CmdRes) : State := s.runCmdAt t t op d hello priv f

/-! ### Ring registers (R508, R517) -/

/-- A write of v to CMD_PI by access a (R508): an index that would overrun the ring is ignored and recorded. (DEDUCED, log entry 94) -/
def State.cmdPiStore (s : State) (t : Nat) (a : Access) (v : Nat) : State :=
  if 2 ^ s.ringLog < idxDiff (v % 65536) (s.rget Reg.CMD_CI_V) then s.violate t a true 8 false
  else (s.rset Reg.CMD_PI_V (v % 65536)).fullShow t
/-- A write of v to CPL_CI (R509). -/
def State.cplCiStore (s : State) (t v : Nat) : State := (s.rset Reg.CPL_CI_V (v % 65536)).fullShow t
/-- Why a write of v to HCQ_CTL is refused (R517): RING_LOG2 changes only while EN is clear. (DEDUCED, log entry 94) -/
def State.hcqCtlFault (s : State) (v : Nat) : Option (Option Nat) :=
  if s.rbit Reg.HCQ_CTL_EN ∧ bits v 1 4 ≠ s.rget Reg.HCQ_CTL_RING_LOG2 then some (some 4) else none
/-- A write of v to HCQ_CTL that is taken (R517): clearing EN lets the command in execution complete first. -/
def State.hcqCtlStore (s : State) (t v : Nat) : State :=
  let on := s.rbit Reg.HCQ_CTL_EN
  let s1 := (s.rset Reg.HCQ_CTL_RING_LOG2 (bits v 1 4)).rsetb Reg.HCQ_CTL_EN (bit v 0)
  if on ∧ ¬ bit v 0 then
    (match s.hcq.exec with
    | some _ => { s1 with hcq := { s1.hcq with closing := true } }
    | none => s1.ringClose t)
  else s1.fullShow t
/-- A word of a ring address (R517): 64-byte and 32-byte aligned. -/
def State.hcqBaseStore (s : State) (a v : Nat) : State :=
  s.setWord a (if a = Reg.CMD_BASE_LO then v / 64 * 64 else if a = Reg.CPL_BASE_LO then v / 32 * 32 else v)

/-- A write of v to SYS_IRQ_ACK (R520): vector v may send again, and does at once if its cause is 1. -/
def State.irqAck (s : State) (v : Nat) : State :=
  { s with irq := { s.irq with armed := s.irq.armed ||| ((1 : BitVec 64) <<< (v % 64)) } }

/-! ### Versions and the DEVID -/

/-- HELLO (R510; 00 R15 to R20): HCP is negotiated, and the choice logged under 0x6010 (14 Table PMN-7; the HCP has no instance: SRC 0);
completions journalled over a link reset are written now (19 R544). -/
def helloRun (t rng : Nat) (s : State) : CmdRes :=
  if s.rbit Reg.HCQ_STAT_HELLO_DONE then .state else
  match commonOf s.red.hcpRange rng with
  | none => .err 1 noOfs 0
  | some v => .ok (((s.rsetb Reg.HCQ_STAT_HELLO_DONE true).rset Reg.HCQ_STAT_HCP v).log t 0x6010 0 v) v
/-- The journalled completions follow HELLO's (19 R544). (DEDUCED, log entry 95) -/
def State.replay (s : State) (t : Nat) : State :=
  if s.rbit Reg.HCQ_STAT_HELLO_DONE ∧ s.hcq.journal ≠ [] then
    s.hcq.journal.foldl (fun z c => z.putCpl t c) { s with hcq := { s.hcq with journal := [] } }
  else s

/-- A record lies within a built-in one (R25): a legal record of its major version. -/
def narrows (built r : Nat) : Bool :=
  match rangeOf built, rangeOf r with
  | some (l, h), some (m, n) => decide (l ≤ m ∧ n ≤ h)
  | _, _ => false
/-- VERSION_RANGE (R25): the record advertised at the next bring-up. (DEDUCED, log entry 97) -/
def versionRangeRun (iface link rng : Nat) (s : State) : CmdRes :=
  if 3 < iface then .range 0x10
  else if iface = 2 ∧ 160 ≤ link ∧ link ≠ 0xFF then .range 0x11
  else if ¬ narrows (if iface = 2 then 0x01000200 else 0x01000000) rng then .range 0x14
  else if iface = 2 then
    .ok ((if link = 0xFF then List.range 160 else [link]).foldl (fun z l => z.rset (Reg.SYP_AL_ADV_V l) rng) s) 0
  else .ok { s with red := if iface = 0 then { s.red with hcpRange := rng } else if iface = 1 then { s.red with jabiRange := rng }
      else { s.red with mlpRange := rng } } 0
/-- SET_DEVID (08 R247). -/
def setDevidRun (v : Nat) (s : State) : CmdRes :=
  if (List.range 160).any s.alEnabled then .state
  else .ok ((s.rset Reg.SYP_ARC_ID_DEVID (v % 65536)).rsetb Reg.SYP_ARC_ID_VALID true) 0

/-- HELLO (R510). -/
def execHello (t : Nat) (d : Desc) (rng : Nat) : State → Host.Outcome State Fault Refusal :=
  event t fun s => (s.runCmd t 0x0001 d true false (helloRun t rng)).replay t
/-- VERSION_RANGE (R25). -/
def execVersionRange (t : Nat) (d : Desc) (iface link rng : Nat) : State → Host.Outcome State Fault Refusal :=
  event t fun s => s.runCmd t 0x0002 d false false (versionRangeRun iface link rng)
/-- SET_DEVID (R247). -/
def execSetDevid (t : Nat) (d : Desc) (v : Nat) : State → Host.Outcome State Fault Refusal :=
  event t fun s => s.runCmd t 0x0003 d false false (setDevidRun v)
/-- UNDEFINED_OPCODE (R515): with no command there are no parameters to check. -/
def execUndefinedOpcode (t : Nat) (d : Desc) (op : Nat) : State → Host.Outcome State Fault Refusal :=
  event t fun s => s.runCmd t op { d with resv := none, fetchFail := false } false false fun _ => .err 0xA noOfs 0

end Sys2Proof.Machine
end

