-- ==== Sys2Proof/Machine/CmdLine.lean ====
section
/-! DEFINITION. The commands on line interfaces, OTUCn groups, system lane groups and Arcade links (17 Table HST-9). -/
namespace Sys2Proof.Machine
open Sys2Proof

/-! ### Refusals -/

/-- E_RANGE. -/
def eRange : Nat := 2
/-- E_STATE. -/
def eState : Nat := 9
/-- E_CAPACITY. -/
def eCapacity : Nat := 8
/-- The first check that fails, as its status and offset. -/
def firstErr (l : List (Bool × Nat × Nat)) : Option (Nat × Nat) := (l.find? (·.1)).map (·.2)
/-- A command that takes effect unless a check fails. (DEDUCED, log entry 96) -/
def guarded (l : List (Bool × Nat × Nat)) (r : CmdRes) : CmdRes :=
  match firstErr l with
  | some (st, o) => .err st o 0
  | none => r
/-- A permit of a list of codes is held on a target (18 R532). -/
def State.anyPermit (s : State) (codes : List Nat) (target : Nat) : Bool := codes.any fun c => s.permitHeld c target
/-- The line permits (18 Table MNT-3). -/
def linePermits : List Nat := [0x0101, 0x0102, 0x0103, 0x0104, 0x0105]
/-- The system permits. -/
def sysPermits : List Nat := [0x0112, 0x0113, 0x0114]
/-- The low n LIVE bits of a register fall. -/
def State.lowerAll (s : State) (t : Nat) (f : RF) (src n : Nat) : State :=
  (List.range n).foldl (fun z b => z.live t ⟨f.addr, b, 1⟩ src false) s

/-! ### Slices -/

/-- A slice is in use; one that spare exhaustion has left unserved still is (16 R470). -/
def State.sliceTaken (s : State) (n : Nat) : Bool := s.rbit (sliceUsed n) || s.ave.exh.any fun x => x.slices.any fun p => p.1 == n
/-- A slice leaves use: it is placed nowhere, also at the return of a fenced slot, and its aligner stops. -/
def State.dropSlice (s : State) (n : Nat) : State :=
  let s1 := (s.placeSlice n none).setAl (sliceKey n) {}
  { s1 with ave := { s1.ave with exh := s1.ave.exh.map fun x => { x with slices := x.slices.filter fun p => p.1 ≠ n } } }
/-- A slice comes into use in a slot: its aligner starts in HUNT (05 R141). -/
def State.addSlice (s : State) (t n sl : Nat) : State := (s.placeSlice n (some sl)).huntAl t (sliceKey n)

/-! ### LINE_IF_CFG (04 R102 to R106, R126, R130, R131) -/

/-- An interface is removed; the FEC counters of its number stay. (DEDUCED, log entry 98; DESIGN CHOICE, log entry 153) -/
def State.lifDrop (s : State) (t i : Nat) : State :=
  let s1 := (s.lifSlices i).foldl State.dropSlice s
  ((s1.lowerAll t (Reg.LIN_LIF_LIVE_LOS i) i 11).setLif i {}).setWord (Reg.LIN_LIF_CFG_TYPE i).addr 0
/-- The histogram bins that an OTU4 interface has not stay zero (R132). -/
def State.noBins (s : State) (i : Nat) : State :=
  { s with ctrs := (List.range 7).foldl (fun m k => tput (fun _ => 0) m (Ctr.LIN_HIST i (9 + k)) 0) s.ctrs }
/-- An interface is configured: the lanes of its quads take its class (R103), and it starts with LOS declared (R126), which
disqualifies the references of its lanes (11 R341). -/
def State.lifAdd (s : State) (t i ty dpll slice slot : Nat) : State :=
  let s1 := (s.setWord (Reg.LIN_LIF_CFG_TYPE i).addr (ty + 16 + (if ty = 15 then slice * 2 ^ 20 else 0))).setLif i { slot := slot, dpll := dpll }
  let s2 := (List.range (4 * ((i + lifLanes ty - 1) / 4 - i / 4 + 1))).foldl (fun z k => z.rset (Reg.LIN_LANE_STAT_CLASS (i / 4 * 4 + k)) (lifClass ty)) s1
  let s3 := if ty = 15 then (s2.addSlice t slice slot).noBins i else s2
  (s3.lifStart t i).losRefs t i
/-- Two interfaces share a lane. -/
def lanesMeet (i k j n : Nat) : Bool := decide (i < j + n ∧ j < i + k)
/-- Two interfaces share a quad (R103). -/
def quadsMeet (i k j n : Nat) : Bool := decide (i / 4 ≤ (j + n - 1) / 4 ∧ j / 4 ≤ (i + k - 1) / 4)
/-- Slices placed in a slot, and those that spare exhaustion took from it and that will come back (07 R207), those of a list left out. -/
def State.slotSlices (s : State) (sl : Nat) (but : List Nat) : Nat :=
  let away := s.ave.exh.flatMap fun x => (x.slices.filter fun p => p.2 = sl ∧ s.sliceSlot p.1 ≠ some sl).map (·.1)
  ((s.slicesOn sl ++ away).filter fun n => !but.contains n).length

/-- LINE_IF_CFG. (DEDUCED, log entry 98) -/
def lineIfRun (t lif ty dpll slice slot : Nat) (s : State) : CmdRes :=
  let k := lifLanes ty
  let others := s.lifsUsed.filter (· != lif)
  let own := s.lifSlices lif
  guarded [
    (decide (127 < lif), eRange, 0x10), (k != 0 && lif % k != 0, eRange, 0x10), (ty == 15 && decide (28 < lif), eRange, 0x10),
    (ty != 0 && k == 0, eRange, 0x11), (ty != 0 && (decide (dpll < 2) || decide (7 < dpll)), eRange, 0x12),
    (ty != 15 && slice != 0, eRange, 0x13), ((ty != 15 && slot != 0) || decide (31 < slot), eRange, 0x14),
    (s.rbit (Reg.LIN_LIF_CFG_GROUPED lif), eState, 0x10), (s.lifType lif != 0 && s.anyPermit linePermits lif, eState, 0x10),
    (ty != 0 && others.any fun j => lanesMeet lif k j (lifLanes (s.lifType j)), eState, 0x10),
    (ty != 0 && others.any fun j => quadsMeet lif k j (lifLanes (s.lifType j)) && lifClass (s.lifType j) != lifClass ty, eCapacity, 0x11),
    (ty == 15 && s.sliceTaken slice && !own.contains slice, eCapacity, 0x13),
    (ty == 15 && decide (8 ≤ s.slotSlices slot own), eCapacity, 0x14)]
  (if s.lifType lif = 0 ∧ ty = 0 then .ok s 0 else
    let s1 := if s.lifType lif = 0 then s else s.lifDrop t lif
    .ok ((if ty = 0 then s1 else s1.lifAdd t lif ty dpll slice slot).fastPath t) 0)

/-! ### LINE_GRP_CFG (04 R116 to R120, R207) -/

/-- Some connection map entry belongs to an ODU that group g carries (R120). -/
def State.grpConnected (s : State) (g : Nat) : Bool :=
  s.plz.conn.any fun p => p.2.valid && s.rootGrp chain (p.1 % 20480) == some g
/-- A group is taken apart. -/
def State.grpDrop (s : State) (t g : Nat) : State :=
  let s1 := (s.grpSlices g).foldl State.dropSlice s
  let s2 := (s1.grp g).members.foldl (fun z m =>
    (z.setWord (Reg.LIN_LIF_CFG_TYPE m.lif).addr (z.wordN (Reg.LIN_LIF_CFG_TYPE m.lif).addr % 32)).live t (Reg.LIN_LIF_LIVE_MEMBER_FAIL m.lif)
      m.lif false) s1
  ((((s2.lowerAll t (Reg.LIN_GRP_LIVE_GROUP_FAIL g) g 3).setGrp g {}).setWord (Reg.LIN_GRP_CFG_N_M1 g).addr 0).rset (Reg.LIN_GRP_GID_GID g) 0).setWord
    (Reg.LIN_GRP_SKEW_SKEW_NS g).addr 0
/-- A member in its place of ascending PIDs. -/
def pidInsert (m : Nat × Nat) : List (Nat × Nat) → List (Nat × Nat)
  | [] => [m]
  | x :: r => if m.2 ≤ x.2 then m :: x :: r else x :: pidInsert m r
/-- The members take their GROUP, PID and first slice, in order (R117). -/
def State.grpMembers (s : State) (g : Nat) : List (Nat × Nat) → Nat → State
  | [], _ => s
  | (i, p) :: r, n =>
    let w := s.wordN (Reg.LIN_LIF_CFG_TYPE i).addr % 32 + 32 + g * 64 + p * 2 ^ 12 + n * 2 ^ 20
    let h := s.lif i
    State.grpMembers ((s.setWord (Reg.LIN_LIF_CFG_TYPE i).addr w).setLif i
      { h with gidBad := 0, gidGood := 0, pidBad := 0, pidGood := 0, gidMis := false, pidMis := false, flexOk := false, out := false }) g r
      (n + lifInst (s.lifType i))
/-- A group begins its formation, with GROUP_FAIL declared (R123). -/
def State.grpForm (s : State) (t g base gid : Nat) (ms : List (Nat × Nat)) (slots : List Nat) : State :=
  let l := ms.foldr pidInsert []
  let n := (l.map fun m => lifInst (s.lifType m.1)).sum
  let s1 := (s.setWord (Reg.LIN_GRP_CFG_N_M1 g).addr (n - 1 + (l.length - 1) * 64 + base * 2 ^ 11 + 2 ^ 19)).rset (Reg.LIN_GRP_GID_GID g) gid
  let s2 := (s1.grpMembers g l base).setGrp g { members := l.map fun m => { lif := m.1, pid := m.2 } }
  let s3 := ((slots.take n).zipIdx.foldl (fun z p => z.addSlice t (base + p.2) p.1) s2)
  (s3.live t (Reg.LIN_GRP_LIVE_GROUP_FAIL g) g true).fastPath t
/-- The first position of a list at which p holds. -/
def firstIdx {α : Type} (p : Nat → α → Bool) (l : List α) : Option Nat := (l.zipIdx.find? fun x => p x.2 x.1).map (·.2)
/-- A check of a buffer: the offset of the first element at fault. -/
def bufErr (st : Nat) (x : Option Nat) (f : Nat → Nat) : Bool × Nat × Nat := (x.isSome, st, bufOfs (f (x.getD 0)))

/-- LINE_GRP_CFG: `ms` the members (LIF, PID) and `slots` the slice-stage slots of the list. (DEDUCED, log entry 98) -/
def lineGrpRun (t og base count gid : Nat) (ms : List (Nat × Nat)) (slots : List Nat) (s : State) : CmdRes :=
  let formed := s.rbit (Reg.LIN_GRP_CFG_ENABLED og)
  let l := ms.take count
  let n := (l.map fun m => lifInst (s.lifType m.1)).sum
  let own := if formed then s.grpSlices og else []
  let taken (j : Nat) : Bool := s.sliceTaken (base + j) && !own.contains (base + j)
  let sl := slots.take n
  let before (k : Nat) : List Nat := (l.take k).map (·.1)
  guarded [
    (decide (63 < og), eRange, 0x10), (count != 0 && decide (256 < base + n), eRange, 0x11), (count != 0 && decide (2 ^ 20 ≤ gid), eRange, 0x14),
    bufErr eRange (firstIdx (fun _ m => decide (127 < m.1) || s.lifType m.1 == 0 || s.lifType m.1 == 15) l) (2 * ·),
    bufErr eRange (firstIdx (fun k m => m.2 == 0 || decide (255 < m.2) || ((l.take k).map (·.2)).contains m.2) l) (fun k => 2 * k + 1),
    bufErr eRange (firstIdx (fun _ x => decide (31 < x)) sl) (fun k => 2 * count + k),
    (formed && s.grpConnected og, eState, 0x10),
    (formed && (s.grp og).members.any fun m => s.anyPermit linePermits m.lif, eState, 0x10),
    bufErr eState (firstIdx (fun k m => (before k).contains m.1 || s.anyPermit linePermits m.1 ||
      (s.rbit (Reg.LIN_LIF_CFG_GROUPED m.1) && !(formed && s.rget (Reg.LIN_LIF_CFG_GROUP m.1) == og))) l) (2 * ·),
    (count != 0 && (List.range n).any taken, eCapacity, 0x11),
    (decide (32 < count) || decide (64 < n), eCapacity, 0x12),
    bufErr eCapacity (firstIdx (fun _ m => s.lifType m.1 != s.lifType (l.headD (0, 0)).1) l) (2 * ·),
    bufErr eCapacity (firstIdx (fun k x => decide (8 < s.slotSlices x own + ((sl.take (k + 1)).filter (· == x)).length)) sl) (fun k => 2 * count + k)]
  (if count = 0 ∧ ¬ formed then .ok s 0 else
    let s1 := if formed then s.grpDrop t og else s
    .ok (if count = 0 then s1.fastPath t else s1.grpForm t og base gid l sl) 0)

/-! ### SYS_PORT_CFG -/

/-- The lane group of a system endpoint. -/
def portGroup (p : Nat) : Option Nat :=
  if p / 2 ^ 28 = 1 then some (p % 256 / 8) else if p / 2 ^ 28 = 2 then some (bits p 20 5) else none
/-- An entry names a lane group. -/
def ConnH.names (c : ConnH) (g : Nat) : Bool :=
  c.valid && (portGroup c.portA == some g || portGroup c.portB == some g || (c.dual && c.mateGroup == g))
/-- Some entry names a lane group. -/
def State.grpNamed (s : State) (g : Nat) : Bool := s.plz.conn.any fun p => p.2.names g
/-- A link is disabled (R239). -/
def State.alDisable (s : State) (t l : Nat) : State :=
  let s1 := (s.rsetb (Reg.SYP_AL_CFG_ENABLED l) false).setAlk l { s.alk l with drainRx := false, drainAt := none }
  if s1.alState l = 0 then s1.alEnter t l 0 10 else s1.alDown t l 10
/-- A lane group takes its settings; the link registers follow. -/
def State.sysSet (s : State) (g : Nat) (h : SysGrp) : State :=
  let arc := decide (h.mode = 2)
  let s1 := ((s.setSysGrp g h).rsetb (Reg.SYP_ARG_CFG_ENABLED g) arc).rset (Reg.SYP_ARG_CFG_PLANE g) (if arc then h.plane else 0)
  (groupLinks g).foldl (fun z l => z.rset (Reg.SYP_AL_STAT_PLANE l) (if arc then h.plane else 0)) s1
/-- SYS_PORT_CFG: MODE 0 off, 1 Ethernet, 2 Arcade. (DEDUCED, log entry 99) -/
def sysPortRun (t g mode phy plane dpll : Nat) (s : State) : CmdRes :=
  guarded [
    (decide (19 < g), eRange, 0x10), (decide (2 < mode), eRange, 0x11), (decide (2 < phy), eRange, 0x12), (decide (1 < plane), eRange, 0x13),
    (mode != 0 && (decide (dpll < 2) || decide (7 < dpll)), eRange, 0x14),
    (s.grpNamed g || s.anyPermit sysPermits g, eState, 0x10)]
  (let s1 := if mode = 2 then s else ((groupLinks g).filter s.alEnabled).foldl (fun z l => z.alDisable t l) s
  .ok (s1.sysSet g { mode := mode, phy := phy, plane := plane, dpll := dpll }) 0)

/-! ### ARC_LINK (08 R239, R246, R247) -/

/-- A link is enabled (R239). -/
def State.alEnable (s : State) (t l : Nat) : State :=
  ((s.rsetb (Reg.SYP_AL_CFG_ENABLED l) true).rset (Reg.SYP_AL_STAT_REASON l) (if (s.alk l).cdr then 2 else 1)).alLive t l
/-- ARC_LINK: ACTION 0 disable, 1 enable, 2 drain. (DEDUCED, log entry 99) -/
def arcLinkRun (t l action : Nat) (s : State) : CmdRes :=
  guarded [
    (decide (159 < l), eRange, 0x10), (decide (2 < action), eRange, 0x11),
    (action == 1 && !(s.rbit Reg.SYP_ARC_ID_VALID && (s.sysGrp (l / 8)).mode == 2), eState, 0x10),
    (action == 2 && !s.alEnabled l, eState, 0x10)]
  (if action = 0 then .ok (if s.alEnabled l then s.alDisable t l else s) 0
  else if action = 1 then
    .ok (if s.alEnabled l then s else s.alEnable t l) 0
  else .ok (if s.alUp l then s.setAlk l { s.alk l with drainAt := some t } else s) 0)

/-- LINE_IF_CFG (R106). -/
def execLineIfCfg (t : Nat) (d : Desc) (lif ty dpll slice slot : Nat) : State → Host.Outcome State Fault Refusal :=
  event t fun s => s.runCmd t 0x0100 d false false (lineIfRun t lif ty dpll slice slot)
/-- LINE_GRP_CFG (R116). -/
def execLineGrpCfg (t : Nat) (d : Desc) (og base count gid : Nat) (ms : List (Nat × Nat)) (slots : List Nat) :
    State → Host.Outcome State Fault Refusal :=
  event t fun s => s.runCmd t 0x0101 d false true (lineGrpRun t og base count gid ms slots)
/-- SYS_PORT_CFG (R515). -/
def execSysPortCfg (t : Nat) (d : Desc) (g mode phy plane dpll : Nat) : State → Host.Outcome State Fault Refusal :=
  event t fun s => s.runCmd t 0x0102 d false false (sysPortRun t g mode phy plane dpll)
/-- ARC_LINK (R239). -/
def execArcLink (t : Nat) (d : Desc) (l action : Nat) : State → Host.Outcome State Fault Refusal :=
  event t fun s => s.runCmd t 0x0103 d false false (arcLinkRun t l action)

end Sys2Proof.Machine
end

