-- ==== Sys2Proof/Machine/CmdOdu.lean ====
section
/-! DEFINITION. The commands on ODUs, trail table entries and PM (17 Table HST-9). -/
namespace Sys2Proof.Machine
open Sys2Proof

/-! ### ODU_CFG (06 R171 to R180, R202) -/

/-- The ODUs carried in a higher-order ODU. -/
def State.lower (s : State) (i : Nat) : List Nat := s.odusUsed.filter fun j => (s.odu j).inHo = some i
/-- An instance has a connection map entry. -/
def State.connected (s : State) (i : Nat) : Bool := (s.cn 0 i).valid || (s.cn 1 i).valid
/-- KIND of an instance's entries (Table PLZ-2): 1 for a higher-order ODU, 2 for a lower-order ODU. -/
def State.kindOf (s : State) (i : Nat) : Nat := if s.lower i ≠ [] then 1 else if (s.odu i).inHo.isSome then 2 else 0
/-- The entries of an instance copy its KIND and CLASS (R177, Table PLZ-2). -/
def State.kindShow (s : State) (i : Nat) : State :=
  [0, 1].foldl (fun z d => let c := z.cn d i; if c.valid then z.setCn d i { c with kind := z.kindOf i, cls := (z.odu i).cls } else z) s

/-- The server that a SERVER names, if it can carry an ODU of a type (R171; 04 R131): none inside where it is a group, or an OTU4's slice. -/
def State.serverOf (s : State) (i ty server : Nat) : Option (Option Nat) :=
  if server < 32768 then
    (if server < 64 ∧ s.rbit (Reg.LIN_GRP_CFG_ENABLED server) then some none
    else if ty = 5 ∧ (otu4Server server).any fun n => (s.sliceLif n).any fun l => s.lifType l == 15 then some none else none)
  else
    let h := server - 32768
    let o := s.odu h
    if o.conf ∧ h ≠ i ∧ o.inHo = none ∧ o.client = 0 ∧ mapProc ty (some o.type) ≠ 0 then some (some o.type) else none
/-- A Class B assignment that R299 refuses. -/
def classBRefused (cls ty rate : Nat) : Bool := cls == 1 && (ty == 0 || ty == 1 || (ty == 6 && decide (rate < 4500000)))
/-- The slots an ODU takes in a server (Table MAP-1, R172). -/
def slotsNeeded (ty rate : Nat) (ho : Option Nat) : Nat := if ty = 6 then flexSlots rate ho else mapSlots ty ho
/-- The instance as the command configures it (R202: 0 selects a default). -/
def oduOf (p : OduParams) (old : OduH) : OduH :=
  { conf := true, type := p.type, client := p.client, server := p.server, cls := p.cls, rank := p.rank, slot := p.slot,
    rate := if p.type = 6 then p.rate else 0, ts := p.ts.take p.tsCount, tu := p.tu.take (if p.server < 32768 then 4 * p.tsCount else p.tsCount),
    jcHold := if p.jcHold = 0 then 5 else p.jcHold, jcResync := if p.jcResync = 0 then 3 else p.jcResync,
    rateWin := if p.rateWin = 0 then 8 else p.rateWin, fillTarget := if p.fillTarget = 0 then 50 else p.fillTarget, fillGain := p.fillGain,
    pt := if p.pt = 0 ∧ p.client = 1 then 7 else p.pt, lckRx := old.lckRx, lckTx := old.lckTx, fast := old.fast, msiWait := true,
    broken := old.broken }
/-- What R180 keeps while an instance has an entry. -/
def OduH.place (o : OduH) : List Nat := [o.type, o.client, o.server, o.slot, o.rate] ++ o.ts ++ o.tu
/-- The first engine class that the contexts of an instance bring above the ceiling (03 R89). -/
def State.overAdmitted (s : State) (k : Nat) : Option AdmitItem :=
  (s.ctxOf k).findSome? fun c => overClass (s.engineItems (engineOf c) (2 ^ 20))
/-- The Underpass follows the pairs of a list of (direction, X) (09 R285). -/
def State.deskewAll (s : State) (l : List (Nat × Nat)) : State := l.foldl (fun z p => z.deskewFollow p.1 p.2) s
/-- What the reserved bandwidth grows by when a reservation asks for bw: a broken one stays out of the sum (09 R288, R292). -/
def State.rsvRaise (s : State) (row k : Nat) (bw : Q) : Q := if s.rsvBroken row k then qint 0 else qsub bw (s.rsv row k).bw
/-- The free pool can give n pages more: a request leaves it 256 (09 R274). -/
def State.poolGives (s : State) (n : Int) : Bool := decide (n ≤ 0) || decide (n + 256 ≤ s.freePages)
/-- A pair that a command makes has a clear record (10 R332); so has none that is gone. -/
def State.pairFix (s old : State) (d x : Nat) : State :=
  if s.isPair d x ∧ old.isPair d x ∧ (s.cn d x).partner = (old.cn d x).partner then s else s.setPr d x {}
/-- Instance i is of a Class A pair whose system endpoint is an Ethernet PHY or a flow of Ethernet blocks (10 R299). -/
def State.ethPair (s : State) (d i : Nat) : Bool :=
  (s.mateOf 2 d i).any fun p => [i, p].any fun j => (s.cn d j).portA / 2 ^ 28 == 1 || (s.odu j).client != 0
/-- Bandwidth and pages suffice for what the Underpass reserves now, the pairs of a list counted anew (09 R285, R274). -/
def State.deskewRoom (s : State) (l : List (Nat × Nat)) : Bool :=
  let now := l.foldl (fun z p => qadd z (s.rsvRaise p.1 p.2 (if s.isPair p.1 p.2 then (s.deskewNeed p.1 p.2).1 else qint 0))) (rsvSum s.und.rsv)
  let pg : Int := (l.map fun p => ((if s.isPair p.1 p.2 then (s.deskewNeed p.1 p.2).2 else 0 : Nat) : Int) - (s.rsv p.1 p.2).pages.length).sum
  qle now (qint s.ceilMb) && s.poolGives pg

/-- The slots an instance leaves stay in its server's MSI until the next multiframe of it (R179). -/
def State.leaveMsi (s : State) (i : Nat) (o : OduH) : State := { s with map := { s.map with gone := (i, o) :: s.map.gone } }
/-- An instance configured. (DEDUCED, log entry 100) -/
def State.oduSet (s : State) (t i : Nat) (o : OduH) : State :=
  let old := s.odu i
  let o := if old.conf ∧ old.place = o.place then { o with msiWait := old.msiWait } else o
  let s1 := ((s.setOdu i o).setMp i 0 {}).setMp i 1 {}
  let s1 := if old.conf ∧ old.place ≠ o.place then s1.leaveMsi i old else s1
  let s2 := if old.conf ∧ old.place = o.place then s1 else s1.huntAl t (oduKey i)
  let s3 := (s2.shedTrib t (s.phys old.slot) (s.phys o.slot) i).kindShow i
  match o.inHo with
  | some h => s3.kindShow h
  | none => s3

/-- ODU_CFG. (DEDUCED, log entry 100) -/
def oduCfgRun (t : Nat) (p : OduParams) (s : State) : CmdRes :=
  let i := p.inst
  let old := s.odu i
  let o := oduOf p old
  let srv := s.serverOf i p.type p.server
  let ho := srv.getD none
  let top := match srv with | some none => s.tsTop p.server | some (some h) => slotCount (some h) | none => 0
  let sibs := s.odusUsed.filter fun j => j != i && (s.odu j).server == p.server
  let usedTs := sibs.flatMap fun j => (s.odu j).ts
  let usedTu := if p.server < 32768 then (s.odusUsed.filter fun j => j != i && (s.odu j).inHo.isNone).flatMap fun j => (s.odu j).tu
    else sibs.flatMap fun j => (s.odu j).tu
  let allowed (x : Nat) : Bool := if p.server < 32768 then true else (s.odu (p.server - 32768)).tu.contains x
  let moved := old.conf && old.place != o.place
  let s1 := s.oduSet t i o
  let pairs := [(0, s1.pairX 0 i), (1, s1.pairX 1 i)]
  let big := if p.server < 32768 then ((s.duesOn p.slot).filter (· != i)).foldl (fun n j => n + (s.odu j).tus) o.tus else 0
  let r := guarded [
    (decide (20479 < i), eRange, 0x10), (decide (6 < p.type), eRange, 0x12),
    (decide (3 < p.client) || (p.client == 1 && p.type != 5) || (decide (1 < p.client) && p.type != 6), eRange, 0x13),
    (srv.isNone, eRange, 0x14),
    (decide (2 < p.cls) || classBRefused p.cls p.type p.rate || [0, 1].any fun d => s1.ethPair d i && !s.ethPair d i, eRange, 0x16),
    (decide (31 < p.slot) || (ho.isSome && (s.odu (p.server - 32768)).slot != p.slot), eRange, 0x17),
    (p.type == 6 && (p.rate == 0 || decide (flexMax ho < flexSlots p.rate ho)), eRange, 0x18),
    (p.tsCount != slotsNeeded p.type p.rate ho, eRange, 0x1C), (decide (128 < p.rateWin), eRange, 0x1E),
    (p.fillTarget != 0 && (decide (p.fillTarget < 25) || decide (75 < p.fillTarget)), eRange, 0x1F),
    (p.fillGain != 0 && (decide (p.fillGain < 6) || decide (31 < p.fillGain)), eRange, 0x20),
    (decide (1 < p.client) && p.pt == 0, eRange, 0x21),
    bufErr eRange (firstIdx (fun _ x => x == 0 || decide (top < x)) o.ts) (2 * ·),
    (moved && (s.connected i || s.lower i != []), eState, 0x10), (p.client != 0 && s.lower i != [], eState, 0x13),
    (ho.isSome && [0, 1].any fun d => let c := s.cn d (p.server - 32768); c.valid && c.kind == 0, eState, 0x14),
    ([0, 1].any fun d => decide (5120 < s1.classATu d ∧ s.classATu d < s1.classATu d), eCapacity, 0x16), (!s1.deskewRoom pairs, eCapacity, 0x16),
    (decide (640 < big), eCapacity, 0x17),
    bufErr eCapacity (firstIdx (fun k x => usedTs.contains x || (o.ts.take k).contains x) o.ts) (2 * ·),
    bufErr eCapacity (firstIdx (fun k x => decide (20479 < x) || usedTu.contains x || !allowed x || (o.tu.take k).contains x) o.tu) (fun k => 2 * p.tsCount + 2 * k)]
    (.ok (((((pairs.foldl (fun z q => z.pairFix s q.1 q.2) s1).deskewAll pairs).undShed t).undShow t).fastPath t) 0)
  match r with
  | .ok s2 x => (match s1.overAdmitted (oduKey i) with | some a => .err 3 noOfs a.div | none => .ok s2 x)
  | r => r

/-- ODU_REMOVE (R179): slots, TU numbers and status records are free again. (DEDUCED, log entry 100) -/
def oduRemoveRun (t i : Nat) (s : State) : CmdRes :=
  let o := s.odu i
  guarded [
    (decide (20479 < i), eRange, 0x10),
    (o.conf && (s.connected i || s.lower i != [] || s.plz.conn.any fun p => p.2.valid && p.2.partner == i), eState, 0x10)]
  (if ¬ o.conf then .ok s 0 else
    let s1 := (((((s.unshed t (s.phys o.slot) i).setOdu i {}).setMp i 0 {}).setMp i 1 {}).setAl (oduKey i) {}).leaveMsi i o
    .ok ((match o.inHo with | some h => s1.kindShow h | none => s1).fastPath t) 0)

/-- ODU_LCK (05 R167). -/
def oduLckRun (i dir on : Nat) (s : State) : CmdRes :=
  let o := s.odu i
  guarded [(decide (20479 < i), eRange, 0x10), (decide (1 < dir), eRange, 0x12), (decide (1 < on), eRange, 0x13), (!o.conf, eState, 0x10)]
  (.ok (s.setOdu i (if dir = 0 then { o with lckRx := on == 1 } else { o with lckTx := on == 1 })) 0)

/-! ### TRAIL_CFG (05 R169) -/

/-- The fields of bytes 0x00 to 0x34 that are out of range or reserved and not zero, by their offset (Table OVH-9, Table OVH-4, R160, R161). -/
def trailFault (b : List Byte) : Option Nat :=
  let v (o n : Nat) : Nat := ofLe ((b.drop o).take n)
  let layer := v 0 1 % 16
  let lvl := v 0 1 / 16
  let out (x lo hi : Nat) : Bool := decide (x < lo) || decide (hi < x)
  ([(out layer 1 5 || (if layer = 5 then out lvl 1 6 else lvl != 0), 0), (v 1 1 % 4 == 3, 1), (decide ((if layer ≤ 3 then 255 else 20479) < v 2 2), 2),
    (out (v 4 1 % 8) 1 7 || out (v 4 1 / 8 % 16) 3 15 || decide (128 ≤ v 4 1), 4), (out (v 5 1) 1 15, 5)]
   ++ ((List.range 10).map fun k => (v (6 + k) 1 != 0, 6 + k))
   ++ [(out (v 0x30 2) 1 1000, 0x30), (out (v 0x32 1) 2 10, 0x32), (out (v 0x33 1) 0 100, 0x33), (out (v 0x34 1) 0 200, 0x34)]).findSome?
    fun p : Bool × Nat => if p.1 then some p.2 else none
/-- A context binds an entry. -/
def State.entryBound (s : State) (e : Nat) : Bool := s.pmBound e
/-- The hardware defects that stand on an entry's instance (R159). -/
def State.hwStanding (s : State) (e : Nat) : Nat :=
  match s.entryKey e with
  | none => 0
  | some k =>
    let a := s.al k
    let m := if k < 256 then s.sliceLif k else none
    b2n a.dlof + 2 * b2n a.mfas.dec + 4 * b2n a.omfi.dec + 8 * b2n (m.any fun i => (s.lif i).gidMis) + 16 * b2n (m.any fun i => (s.lif i).pidMis)
      + 32 * b2n (s.fastOn k)
/-- TRAIL_CFG: OP 1 writes bytes 0x00 to 0x3F, OP 2 frees the entry. (DEDUCED, log entry 100) -/
def trailCfgRun (e op : Nat) (b : List Byte) (s : State) : CmdRes :=
  let bad := if op = 1 then trailFault b else none
  guarded [
    (decide (65535 < e), eRange, 0x10), (op != 1 && op != 2, eRange, 0x12), (bad.isSome, eRange, bufOfs (bad.getD 0)), (s.entryBound e, eState, 0x10)]
  (if op = 2 then
    .ok ({ s with jrm := { s.jrm with trail := s.jrm.trail.filter fun c => c.1 / 256 ≠ e } } : State) 0
  else
    let s1 : State := { s with jrm := { s.jrm with trail := mputs s.jrm.trail (e * 256) (b.take 64) } }
    .ok (s1.trailSet e 0x88 1 (s1.hwStanding e)) 0)

/-! ### PM_CFG (14 R431) -/

/-- PM_CFG: the control word is written and the bins are cleared. (DEDUCED, log entry 36) -/
def pmCfgRun (t e : Nat) (en fe : Bool) (prof : Nat) (s : State) : CmdRes :=
  let b (day : Bool) : BinRec :=
    let st := binStart (secOf t) (if day then s.pm.ofs24 else s.pm.ofs15) (if day then 86400 else 900)
    freshBin day s.timeUnset (decide (sec st < t)) st
  guarded [(decide (65535 < e), eRange, 0x10), (decide (63 < prof), eRange, 0x13), (s.layer e == 0, eState, 0x10)]
  (.ok (s.setPmE e (if en then { en := true, fe := fe, profile := prof, since := t, cur15 := b false, cur24 := b true }
    else { fe := fe, profile := prof })) 0)

/-- ODU_CFG (R171). -/
def execOduCfg (t : Nat) (d : Desc) (p : OduParams) : State → Host.Outcome State Fault Refusal :=
  event t fun s => s.runCmd t 0x0200 d false true (oduCfgRun t p)
/-- ODU_REMOVE (R179). -/
def execOduRemove (t : Nat) (d : Desc) (i : Nat) : State → Host.Outcome State Fault Refusal :=
  event t fun s => s.runCmd t 0x0201 d false true (oduRemoveRun t i)
/-- ODU_LCK (R167). -/
def execOduLck (t : Nat) (d : Desc) (i dir on : Nat) : State → Host.Outcome State Fault Refusal :=
  event t fun s => s.runCmd t 0x0202 d false false (oduLckRun i dir on)
/-- TRAIL_CFG (R169). -/
def execTrailCfg (t : Nat) (d : Desc) (e op : Nat) (b : List Byte) : State → Host.Outcome State Fault Refusal :=
  event t fun s => s.runCmd t 0x0203 d false false (trailCfgRun e op b)
/-- PM_CFG (R431). -/
def execPmCfg (t : Nat) (d : Desc) (e : Nat) (en fe : Bool) (prof : Nat) : State → Host.Outcome State Fault Refusal :=
  event t fun s => s.runCmd t 0x0204 d false false (pmCfgRun t e en fe prof)

end Sys2Proof.Machine
end

