-- ==== Sys2Proof/Machine/CmdConn.lean ====
section
/-! DEFINITION. The connection, move and protection commands, and the epoch instant (17 R516, Table HST-8; 07 R209, R215 to R222; 10 R298,
R316, R331). -/
namespace Sys2Proof.Machine
open Sys2Proof

/-! ### The map a batch makes (R516) -/

/-- The direction of a record. -/
def ConnRec.dir (r : ConnRec) : Nat := b2n r.tx
/-- A slot whose Avenue is lost and whose spare does not serve yet (07 R228). -/
def State.slotOut (s : State) (sl : Nat) : Bool := s.rbit (Reg.PLZ_SLOT_MAP_FENCED sl) || s.aveState (s.phys sl) == 5
/-- The entry a record puts in place: KIND, CLASS and SLOT0 come from the ODU's configuration (R516), DD_MAX is 100 by default; a move
in progress, FAST_INHIBIT, SEL and the counts of an entry in use stay. Until its output's frame start what was in force there goes on, but for
an entry that a partnership kept from its output (R216). (DEDUCED, log entry 101) -/
def State.connOf (s : State) (r : ConnRec) : ConnH :=
  let old := s.cn r.dir r.inst
  let keep := old.valid && old.partner == r.partner && r.op != 2
  let mute := !r.tx && (s.switchPartner r.inst).isSome && !old.sel && !keep
  let cs := if r.tx || mute || (keep && s.flowOwner 0 r.inst != r.inst) then [] else old.sends
  let o1 := if mute then 0 else old.out
  let o2 := if mute then 0 else old.outB
  if r.op = 2 then { changed := true, out := o1, outB := o2, outCopies := cs, outDual := old.sendsDual } else
  let o := s.odu r.inst
  { valid := true, kind := s.kindOf r.inst, cls := o.cls, bridge := r.bridge, fastEn := r.fastEn, inhibit := keep && old.inhibit,
    fwd := old.fwd, route1 := old.route1, sel := if keep then old.sel else true,
    aisFill := o.cls != 2 && ((old.valid && old.aisFill) || s.slotOut o.slot || (s.oduSlices chain r.inst).any fun n => (s.sliceSlot n).any s.slotOut),
    partner := r.partner, epoch0 := old.epoch0, epoch1 := old.epoch1,
    slot0 := if old.route1 then old.slot0 else o.slot, slot1 := old.slot1, portA := r.portA, portB := r.portB, switches := old.switches,
    chg := old.chg, pcrcDrop := r.pcrcDrop, dual := r.dual, altValid := r.altValid, mateGroup := r.mateGroup, peerA := r.peerA,
    peerB := r.peerB, playout := r.playout, ddMax := if r.ddMax = 0 then 100 else r.ddMax, req := if keep then old.req else none,
    held := keep && old.held, changed := true, out := o1, outB := o2, outCopies := cs, outDual := old.sendsDual }
/-- A record takes effect: all but the removal of an entry not in use (R610). -/
def State.recActs (s : State) (r : ConnRec) : Bool := r.op == 1 || (s.cn r.dir r.inst).valid
/-- SEL of an entry after a batch: a partnership that is new takes the entry named as working, else the lower instance; on transmit both
(R213; 10 R313). An entry that the end of its partnership gives its output takes it at its own frame start (R216). -/
def State.selFix (s old : State) (work : List Nat) (d i : Nat) : State :=
  let c := s.cn d i
  if ¬ c.valid then s else
  match s.partnerOf d i with
  | none => if c.sel ∨ d = 1 then s.setCn d i { c with sel := true }
      else s.setCn d i { c with sel := true, changed := true, out := 0, outB := 0, outCopies := [] }
  | some p =>
    if old.partnerOf d i = some p then s
    else s.setCn d i { c with sel := d == 1 || work.contains i || (!work.contains p && decide (i < p)) }
/-- The entries a batch touches: its own and their partners, before and after. -/
def touched (a b : State) (l : List ConnRec) : List (Nat × Nat) :=
  (l.flatMap fun r => (r.dir, r.inst) :: ((match a.partnerOf r.dir r.inst with | some p => [(r.dir, p)] | none => [])
    ++ (match b.partnerOf r.dir r.inst with | some p => [(r.dir, p)] | none => []))).eraseDups
/-- The map with a batch's records in place. -/
def State.placeRecs (s : State) (l : List ConnRec) : State :=
  let s1 := l.foldl (fun z r => if s.recActs r then z.setCn r.dir r.inst (s.connOf r) else z) s
  let work := (l.filter fun r => r.op == 1 && !r.tx && r.working).map (·.inst)
  (touched s s1 l).foldl (fun z p => z.selFix s work p.1 p.2) s1

/-! ### Checks -/

/-- A port is at fault for an ODU (Table PLZ-3; R611): another type, a reserved bit, a PHY or a group that is not configured, or a PHY
of another client; the port of a demultiplexed higher-order ODU is judged as a state (06 R177). -/
def State.portBad (s : State) (i p : Nat) : Bool :=
  let ty := p / 2 ^ 28
  if ty = 0 then p != 0
  else if ty = 1 then
    let g := s.sysGrp (p % 256 / 8)
    p % 2 ^ 28 != p % 256 || decide (159 < p % 256) || g.mode != 1 || (s.kindOf i != 1 && (s.odu i).client != g.phy + 1)
      || (if g.phy = 1 then p % 4 != 0 else if g.phy = 2 then p % 8 != 0 else false)
  else if ty = 2 then bits p 25 3 != 0 || decide (19 < bits p 20 5) || (s.sysGrp (bits p 20 5)).mode != 2
  else true
/-- The first of some checks that fails. -/
def firstOfs (l : List (Bool × Nat)) : Option Nat := (l.find? (·.1)).map (·.2)
/-- The lowest byte of a record that is out of range. -/
def State.recRange (s : State) (l : List ConnRec) (r : ConnRec) : Option Nat :=
  let o := s.odu r.inst
  if r.op ≠ 1 then firstOfs [(r.op != 2, 0), (decide (20479 < r.inst), 2)] else
  firstOfs [
    (decide (20479 < r.inst), 2), (r.bridge && r.tx, 4),
    (r.working && !r.tx && l.any fun q => q.op == 1 && !q.tx && q.working && q.inst == r.partner && q.partner == r.inst, 4),
    (decide (19 < r.mateGroup) || (r.dual && [r.portA, r.portB].any fun p => arcPort p && ((s.sysGrp r.mateGroup).mode != 2 ||
      (s.sysGrp r.mateGroup).plane == (s.sysGrp (arcGroup p)).plane)), 5),
    (r.partner != 0xFFFF && (decide (20479 < r.partner) || !(s.odu r.partner).conf || r.partner == r.inst), 6),
    (o.conf && s.portBad r.inst r.portA, 8),
    ((s.placeRecs l).ethPair r.dir r.inst, 8),
    ((o.conf && s.portBad r.inst r.portB) || (r.portB != 0) != r.bridge, 12),
    (r.tx && arcPort r.portA && (decide (r.playout < 20) || decide (500 < r.playout)), 20), (decide (100 < r.ddMax), 22)]
/-- A move of an instance, or of the ODU that carries it, is in progress. -/
def State.moveStands (s : State) (i : Nat) : Bool :=
  s.moving false i || (match (s.odu i).inHo with | some h => s.moving false h | none => false)
/-- Two entries share an endpoint that R209 keeps for one. -/
def sharePort (d : Nat) (a b : ConnH) : Bool :=
  a.valid && b.valid && ((a.portA != 0 && a.portA == b.portA) || (d == 0 &&
    ((a.portA != 0 && a.portA == b.portB) || (a.portB != 0 && (a.portB == b.portA || a.portB == b.portB)))))
/-- The (DEVID, flow ID) that a receive flow record matches (R251). -/
def ConnH.matches_ (c : ConnH) : List (Nat × Nat) :=
  if c.valid && arcPort c.portA then (c.peerA, arcFlowId c.portA) :: (if c.altValid then [(c.peerB, arcFlowId c.portA)] else []) else []
/-- The lowest byte of record k for which a batch is not in a state to be accepted; `n` is the state with the map it would make.
(DEDUCED, log entry 101) -/
def State.recState (s n : State) (l : List ConnRec) (k : Nat) (r : ConnRec) : Option Nat :=
  let d := r.dir
  let i := r.inst
  let c := n.cn d i
  let old := s.cn d i
  let dup := (l.take k).any fun q => q.tx == r.tx && q.inst == i
  let mover := s.partnerOf d i != n.partnerOf d i && ((s.partnerOf d i).any s.moveStands || (n.partnerOf d i).any s.moveStands)
  let far := old.valid != c.valid || old.portA != c.portA || old.portB != c.portB || old.bridge != c.bridge || old.partner != c.partner
  let other := n.plz.conn.filter fun p => decide (p.1 / 20480 = d) && p.1 % 20480 != i && n.partnerOf d i != some (p.1 % 20480)
  if r.op ≠ 1 then firstOfs [(dup || (old.valid && s.moveStands i) || mover, 2)] else
  firstOfs [
    (!(s.odu i).conf || dup || (s.moveStands i && far), 2),
    (mover || ((n.mateOf 2 d i).or (n.mateOf 1 d i)).any fun p => (s.odu i).type != (s.odu p).type || (s.odu i).rate != (s.odu p).rate
          || (s.odu i).slot == (s.odu p).slot, 6),
    (c.kind == 1 && c.portA != 0, 8), (other.any fun p => sharePort d c p.2, 8), (c.kind == 1 && c.portB != 0, 12),
    (d == 1 && other.any fun p => c.matches_.any fun m => p.2.matches_.contains m, 16)]
/-- The pairs whose Underpass reservation a batch may change. -/
def pairList (a b : State) (l : List ConnRec) : List (Nat × Nat) :=
  (((touched a b l).flatMap fun p => [(p.1, a.pairX p.1 p.2), (p.1, b.pairX p.1 p.2)])).eraseDups
/-- The lowest byte of record r at which a batch would exceed a limit: Class A (01 R36), cell load (R253), time peers (R264), cell buffers
(R261), the Underpass (09 R285). -/
def State.recCapacity (s n : State) (l : List ConnRec) (r : ConnRec) : Option Nat :=
  let d := r.dir
  let c := n.cn d r.inst
  let tall := decide (5120 < n.classATu d ∧ s.classATu d < n.classATu d) && n.partnerOf d r.inst != s.partnerOf d r.inst
  if r.op ≠ 1 then firstOfs [(tall, 2)] else
  firstOfs [
    (tall, 6),
    (d == 0 && c.copies.any fun p => !loadFits (n.loadOf (n.grpFlows p.1)) 8, 8),
    (c.arcGroups.any fun g => (groupLinks g).any fun k => decide (64 < (n.timePeers k).length), 16),
    (d == 1 && arcPort c.portA && decide (262144 < ((n.flowList 1).map n.reservedCells).sum), 20),
    (c.cls == 2 && c.partner != 0xFFFF && !n.deskewRoom (pairList s n l), 22)]
/-- The first record at which f finds a fault, as a check of the buffer. -/
def recErr (st : Nat) (l : List ConnRec) (f : Nat → ConnRec → Option Nat) : Bool × Nat × Nat :=
  match l.zipIdx.findSome? fun x => (f x.2 x.1).map fun o => 24 * x.2 + o with
  | some o => (true, st, bufOfs o)
  | none => (false, 0, 0)
/-- Two checks, the one with the lower offset first. -/
def lowerOf (a b : Bool × Nat × Nat) : Bool × Nat × Nat := if ¬ a.1 then b else if b.1 ∧ b.2.2 < a.2.2 then b else a

/-- CONN_BATCH is accepted, and waits for its epoch instant; a batch without effect completes at once (R215, R610). -/
def connBatchRun (count : Nat) (recs : List ConnRec) (resv : Option Nat) (s : State) : CmdRes :=
  let l := recs.take count
  let n := s.placeRecs l
  let acts := l.filter s.recActs
  let r := guarded [
    (count == 0 || decide (1024 < count), eRange, 0x10),
    lowerOf (recErr eRange l fun _ r => s.recRange l r) (resv.isSome, eRange, bufOfs (resv.getD 0)),
    recErr eState l (s.recState n l), recErr eCapacity l fun _ r => s.recCapacity n l r]
    (.ok s 0)
  match r with
  | .ok s1 _ =>
    if acts = [] then .ok s1 0 else
    .later { s1 with plz := { s1.plz with batch := s1.plz.batch ++ [.conn acts] } } (.batch (acts.any fun r => !r.tx) (acts.any fun r => r.tx))
  | r => r

/-! ### The epoch instant (R215) -/

/-- A direction's flows after a batch: a flow whose endpoint and peers stay keeps its record, another starts anew (08 R250, R263); an entry that
still sends keeps the one it sends under (R216). (DEDUCED, log entry 101) -/
def State.flowCarry (s old : State) (d i : Nat) : State :=
  let c := s.cn d i
  if d = 0 ∧ c.changed ∧ c.outCopies ≠ [] then s.setFlow 0 i (old.flow 0 (old.flowOwner 0 i))
  else if ¬ c.arcade then s.setFlow d i {} else
  let o := s.flowOwner d i
  if d = 0 ∧ (s.cn 0 o).changed ∧ (s.cn 0 o).outCopies ≠ [] then s else
  let f : FlowH := match (old.flowList d).find? fun k =>
      (old.cn d k).portA == c.portA && (old.cn d k).portB == c.portB && (old.cn d k).peerA == c.peerA && (old.cn d k).peerB == c.peerB with
    | some k => old.flow d k
    | none => {}
  (s.setFlow d i {}).setFlow d o f
/-- The link groups that an entry uses in either of two states. -/
def groupsOf (a b : State) (l : List (Nat × Nat)) : List Nat :=
  (l.flatMap fun p => (a.cn p.1 p.2).arcGroups ++ (b.cn p.1 p.2).arcGroups).eraseDups
/-- A batch of records takes effect at t: its epochs are applied, and everything that follows the map follows it. (DEDUCED, log entry 101) -/
def State.connInstant (s : State) (t : Nat) (l : List ConnRec) : State :=
  let n := s.placeRecs l
  let e0 := if l.any fun r => !r.tx then n.applyEpoch t 0 else n
  let e1 := if l.any fun r => r.tx then e0.applyEpoch t 1 else e0
  let s1 := (l.filter fun r => r.op == 1).foldl (fun z r => z.setCn r.dir r.inst { z.cn r.dir r.inst with epoch0 := z.epochOf r.dir }) e1
  let ts := touched s n l
  let ps := pairList s n l
  let s2 := ps.foldl (fun z p => z.pairFix s p.1 p.2) (ts.foldl (fun z p => z.flowCarry s p.1 p.2) s1)
  let s3 := (groupsOf s s2 ts).foldl (fun z g => z.arcFollow t g) s2
  ((((s3.deskewAll ps).undShed t).undShow t).mapUsed t).switchAll t

/-- A slot move begins (R217, R220; 16 R466): both directions take an epoch, the slot waits for Avenue a, which is filled, and every
tributary and slice of the slot becomes a part of it. -/
def State.slotMoveBegin (s : State) (t slot a : Nat) : State :=
  let s1 := (s.applyEpoch t 0).applyEpoch t 1
  let s2 := ((((s1.rset (Reg.PLZ_SLOT_MAP_PEND slot) a).rsetb (Reg.PLZ_SLOT_MAP_PEND_VALID slot) true).aveTo a 5 slot).poolShow t)
  let h (slice : Bool) (i : Nat) : MoveH :=
    { slice := slice, inst := i, old := slot, new := slot, epoch := s1.epochOf 0, epochTx := s1.epochOf 1, install := t, slotMove := some slot,
      live := true }
  let s3 := (s2.chargedOn slot).foldl (fun z i => z.setMv (moveKey false false i) (h false i)) s2
  let s4 := (s2.slicesOn slot).foldl (fun z n => z.setMv (moveKey true false n) (h true n)) s3
  s4.slotDone t slot
/-- A tributary's move begins (R217): it waits for its install. The stage that serves it serves both directions (05 R138), so that each in
which it has an entry takes an epoch. -/
def State.tribMoveBegin (s : State) (t : Nat) (tx : Bool) (i new : Nat) : State :=
  let s1 := [0, 1].foldl (fun z d => if d = b2n tx ∨ (s.cn d i).valid then z.applyEpoch t d else z) s
  s1.setMv (moveKey false tx i)
    { tx := tx, inst := i, old := (s.odu i).slot, new := new, epoch := s1.epochOf (b2n tx), epochTx := s1.epochOf (1 - b2n tx), install := t,
      live := true }
/-- The Avenue a slot move takes at its instant: the one chosen, or the spare then longest in the pool. (DEDUCED, log entry 102) -/
def State.spareFor (s : State) (a : Nat) : Option Nat := if s.aveState a = 1 then some a else s.pickSpare
/-- The command that waits for a batch completes; RESULT shows the epochs of a CONN_BATCH. -/
def State.batchDone (s : State) (t st : Nat) : State :=
  match s.hcq.exec with
  | some ⟨tag, op, .batch rx tx⟩ =>
    let e := if op = 0x0300 ∧ st = 0 then (if rx then s.epochOf 0 else 0) + (if tx then s.epochOf 1 else 0) * 65536 else 0
    s.finish t ⟨tag, st, op, noOfs, t, e⟩
  | _ => s
/-- EPOCH_INSTANT (R215): the oldest batch that waits takes effect at t. It is a privileged act: past the Active lease it has none, and the command
that waits is refused (00 R13). (DEDUCED, log entry 149) -/
def epochInstantEffect (t : Nat) (s : State) : State :=
  match s.plz.batch with
  | [] => s
  | b :: r =>
    let s1 : State := { s with plz := { s.plz with batch := r } }
    if ¬ s1.privileged t then
      (match b with
      | .rotate slot _ => (s1.rotAbort t slot).batchDone t 6
      | _ => s1.batchDone t 6)
    else
    match b with
    | .conn l => (s1.connInstant t l).batchDone t 0
    | .move tx i new => (s1.tribMoveBegin t tx i new).batchDone t 0
    | .rotate slot a =>
      (match s1.spareFor a with
      | some b => (s1.slotMoveBegin t slot b).batchDone t 0
      | none => (s1.rotAbort t slot).batchDone t 7)

/-! ### MOVE -/

/-- Where the contexts of a move cannot be copied: no free context (none inside), or the class above the ceiling (03 R89).
(DEDUCED, log entry 102) -/
def State.copyFault (s : State) (h : MoveH) : List Nat → Option (Option AdmitItem)
  | [] => none
  | c :: r =>
    match s.newCtx h c with
    | none => some none
    | some n =>
      let x := (s.cx c).seeded
      match overClass (s.admitItem x :: s.engineItems (engineOf n) n) with
      | some a => some (some a)
      | none => State.copyFault (s.setCx n x) h r
/-- A part of the work of a slot is moving, or waits to. -/
def State.slotBusy (s : State) (sl : Nat) : Bool :=
  s.rbit (Reg.PLZ_SLOT_MAP_PEND_VALID sl) || s.plz.moves.any (fun p => p.2.live && (p.2.old == sl || p.2.new == sl))
/-- MOVE: KIND 0 a tributary to slot `new`, 1 a slot to the spare longest in the pool (R217 to R222). (DEDUCED, log entry 102) -/
def moveRun (kind dir what new : Nat) (s : State) : CmdRes :=
  let o := s.odu what
  let c := s.cn dir what
  let h : MoveH := { tx := dir == 1, inst := what, old := o.slot, new := new }
  if kind = 0 then
    let r := guarded [
      (decide (1 < dir), eRange, 0x11), (decide (20479 < what), eRange, 0x12), (decide (31 < new), eRange, 0x14),
      (!c.valid || o.inHo.isSome || s.moveStands what || s.slotBusy o.slot && (s.slotParts o.slot) != [], eState, 0x12),
      (new == o.slot || s.rbit (Reg.PLZ_SLOT_MAP_FENCED new) || s.rbit (Reg.PLZ_SLOT_MAP_PEND_VALID new), eState, 0x14),
      ([0, 1].any fun d => match s.partnerOf d what with | some p => (s.odu p).slot == new | none => false, eState, 0x14),
      (decide (640 < (((s.duesOn new).filter (· != what)).foldl (fun n j => n + (s.odu j).tus) o.tus)), eCapacity, 0x14)] (.ok s 0)
    match r with
    | .ok s1 _ =>
      (match s.copyFault h (s.moveCtxs h) with
      | some (some a) => .err 3 noOfs a.div
      | some none => .err eCapacity 0x14 0
      | none => .later { s1 with plz := { s1.plz with batch := s1.plz.batch ++ [.move (dir == 1) what new] } } (.batch (dir == 0) (dir == 1)))
    | r => r
  else
    let r := guarded [
      (decide (1 < kind), eRange, 0x10), (decide (1 < dir), eRange, 0x11), (decide (31 < what), eRange, 0x12),
      (s.slotBusy what || s.rbit (Reg.PLZ_SLOT_MAP_FENCED what) || s.permitHeld 0x0201 what, eState, 0x12), (s.pickSpare.isNone, 7, noOfs)] (.ok s 0)
    match r with
    | .ok s1 _ => .later { s1 with plz := { s1.plz with batch := s1.plz.batch ++ [.rotate what (s.pickSpare.getD 0)] } } (.batch true true)
    | r => r

/-! ### Protection commands -/

/-- The bound APS_LIN context of a protection path (10 R306). -/
def State.apsCtx (s : State) (p : Nat) : Option Nat :=
  (s.jrm.ctx.find? fun c => c.2.state != 0 && c.2.bind.routine == 0x20 && s.layer c.2.entry0 == 4 && s.instanceOf c.2.entry0 == p).map (·.1)
/-- The rank of an external request by its PROT_CMD code (10 Table PRT-3). (DEDUCED, log entry 69) -/
def cmdRank (code : Nat) : Nat := if code = 1 then 11 else if code = 2 then 9 else if code = 3 ∨ code = 4 then 5 else if code = 5 then 3 else 0
/-- FAST_INHIBIT of a receive entry. -/
def State.setInhibit (s : State) (i : Nat) (v : Bool) : State := s.setCn 0 i { s.cn 0 i with inhibit := v }
/-- PROT_CMD (10 R316): the code is written for APS_LIN's next release; LO, FS and CLEAR act on FAST_INHIBIT, and CLEAR cancels WTR.
(DEDUCED, log entry 69) -/
def protCmdRun (t p code : Nat) (s : State) : CmdRes :=
  let c := s.apsCtx p
  let e := (s.cx (c.getD 0)).entry0
  let w := s.mateOf 1 0 p
  let q := w.getD 0
  let rank := max (s.trailByte e 0xF0 / 16) (cmdRank (s.trailByte e 0x36))
  guarded [
    (decide (20479 < p), eRange, 0x10), (decide (5 < code), eRange, 0x12), (c.isNone || w.isNone, eState, 0x10),
    (code != 0 && decide (cmdRank code < rank), eState, 0x12)]
  (let s1 := s.trailSet e 0x36 1 code
  let s2 := if code = 1 then s1.setInhibit p true else if code = 2 then s1.setInhibit q true
    else if code = 0 then (s1.setInhibit p false).setInhibit q false else s1
  let s3 := if code = 0 ∧ bits (s.trailByte e 0xF2) 3 2 = 2 then
      ((s2.trailSet e 0xF2 1 (setBits (s.trailByte e 0xF2) 3 2 0)).trailSet e 0xF4 4 0).apsTimer t (c.getD 0)
    else s2
  .ok (s3.switchAll t) 0)

/-- PAIR_RETIME (10 R331): the output timing is set to a path at its next frame start. -/
def pairRetimeRun (t dir x anchor : Nat) (s : State) : CmdRes :=
  let p := anchor == 1
  let h := s.pr dir x
  let u := (h.path p).usable
  guarded [
    (decide (1 < dir), eRange, 0x10), (decide (20479 < x), eRange, 0x12), (decide (1 < anchor), eRange, 0x14), (!s.isPair dir x, eState, 0x12),
    (u == 0 || decide (u + 16 * s.tf x < t), eState, 0x14)]
  (.ok (s.setPr dir x { h with retime := some p }) 0)

/-- CONN_BATCH (R516). -/
def execConnBatch (t : Nat) (d : Desc) (count : Nat) (recs : List ConnRec) (resv : Option Nat) : State → Host.Outcome State Fault Refusal :=
  event t fun s => s.runCmd t 0x0300 d false true (connBatchRun count recs resv)
/-- EPOCH_INSTANT (R215). -/
def execEpochInstant (t : Nat) : State → Host.Outcome State Fault Refusal := event t (epochInstantEffect t)
/-- MOVE (R217). -/
def execMove (t : Nat) (d : Desc) (kind dir what new : Nat) : State → Host.Outcome State Fault Refusal :=
  event t fun s => s.runCmd t 0x0301 d false true (moveRun kind dir what new)
/-- PROT_CMD (R316). -/
def execProtCmd (t : Nat) (d : Desc) (p code : Nat) : State → Host.Outcome State Fault Refusal :=
  event t fun s => s.runCmd t 0x0400 d false true (protCmdRun t p code)
/-- PAIR_RETIME (R331). -/
def execPairRetime (t : Nat) (d : Desc) (dir x anchor : Nat) : State → Host.Outcome State Fault Refusal :=
  event t fun s => s.runCmd t 0x0401 d false true (pairRetimeRun t dir x anchor)

end Sys2Proof.Machine
end

