-- ==== Sys2Proof/Machine/CmdJorm.lean ====
section
/-! DEFINITION. The commands on routine images, contexts, queues and host slots (17 Table HST-9; 03 R86 to R100; 12 R372 to R382). -/
namespace Sys2Proof.Machine
open Sys2Proof

/-! ### Images (03 R99, R100; 20 R563) -/

/-- A standard routine's image: its runs are the model's, no words of it are kept. (DESIGN CHOICE, log entry 133) -/
def stdImage (x : StdRow) : ImageH := { valid := true, jabi := 0x0100, wcsc := x.wcsc }
/-- The image a ROUTINE_ID names. -/
def State.imageOf (s : State) (r : Nat) : ImageH :=
  match stdRow r with
  | some x => stdImage x
  | none => tget (fun _ => {}) s.jrm.images r
/-- IMAGE_LOAD (R100, R563). -/
def imageLoadRun (f : ImageFile) (s : State) : CmdRes :=
  guarded [(decide (f.routine ≤ 0xFFFF), eRange, bufOfs f.ofs), (!f.signed, 4, noOfs), (decide (8192 < f.code.length), eCapacity, 0x18)]
  (let m : ImageH := { valid := true, jabi := f.jabi, wcsc := f.wcsc, code := f.code }
  .ok { s with jrm := { s.jrm with images := tput (fun _ => {}) s.jrm.images f.routine m } } f.routine)

/-! ### BIND (03 R86 to R100; 05 R156; 06 R181; 10 R306, R307) -/

/-- A list filled to n with a value. -/
def fillTo {α : Type} (n : Nat) (x : α) (l : List α) : List α := l.take n ++ List.replicate (n - l.length) x
/-- The block's bytes (Table JRM-6). -/
def blockBytes (b : BindBlock) : List Byte :=
  leBytes 2 b.jabi ++ leBytes 2 b.length ++ leBytes 4 b.routine ++ leBytes 8 (b.divLog2 + 256 * b.ttCount + 65536 * b.qCount)
    ++ (fillTo 8 (0, 0) b.tt).flatMap (fun p => leBytes 4 (p.1 + 65536 * p.2)) ++ (fillTo 4 (0, 0) b.qs).flatMap (fun p => leBytes 4 (p.1 + 4096 * p.2))
    ++ fillTo (b.length - 64) 0 b.params
/-- A field of the block: n bytes at o. -/
def blockLe (l : List Byte) (o n : Nat) : Nat := ofLe ((l.drop o).take n)
/-- The first byte at or after o that is not zero. -/
def nonzeroAt (l : List Byte) (o : Nat) : Option Nat := (firstIdx (fun _ b => b != 0) (l.drop o)).map (· + o)
/-- The tributary slots of the server an entry's layer instance is (R181). -/
def State.psiSlots (s : State) (e : Nat) : Nat :=
  if s.layer e = 3 then 20 else
  match (s.odu (s.instanceOf e)).type with
  | 5 => 80
  | 4 => 32
  | 2 => 8
  | 3 => 8
  | _ => 0
/-- The lowest field of APS_LIN's block that is out of range (10 Table PRT-2, R304, R306). (DEDUCED, log entry 103) -/
def State.apsRange (s : State) (b : BindBlock) (l : List Byte) : Option Nat :=
  let v (o : Nat) : Nat := blockLe l o 1
  let w := blockLe l 68 2
  let p := blockLe l 70 2
  let snc := bits (v 64) 3 2
  let slot (k layer inst role : Nat) : Bool :=
    let x := b.tt.getD k (0, 9)
    s.layer x.1 != layer || s.instanceOf x.1 != inst || x.2 != role
  firstOfs [
    (b.length != 80, 2), (b.ttCount != (if snc = 2 then 4 else 2), 9), (slot 0 4 p 1, 16), (slot 1 4 w 0, 20),
    (snc == 2 && slot 2 5 w 0, 24), (snc == 2 && slot 3 5 p 0, 28),
    (snc == 3 || bit (v 64) 7 || (!bit (v 64) 6 && bits (v 64) 0 2 != 0), 64), (decide (100 < v 65), 65),
    (v 66 % 16 == 0 || decide (12 < v 66), 66), (v 67 != 0, 67), (decide (20479 < w), 68), (decide (20479 < p), 70),
    ((nonzeroAt l 72).isSome, (nonzeroAt l 72).getD 0)]
/-- The lowest field of a standard routine's block that is out of range. (DEDUCED, log entry 103) -/
def State.stdRange (s : State) (b : BindBlock) (x : StdRow) (l : List Byte) : Option Nat :=
  let e := (b.tt.headD (0, 0)).1
  let z := nonzeroAt l 128
  let n := blockLe l 65 1
  let y := nonzeroAt l (66 + 2 * n)
  let own := if b.routine = 0x20 then s.apsRange b l else none
  let l1 := [
    (x.tti && decide (b.length < 128), 2), (b.routine == 3 && decide (b.length < (66 + 2 * n + 7) / 8 * 8), 2), (b.divLog2 != x.div, 8),
    (!x.layers.contains (s.layer e), 16), (b.routine == 3 && decide (s.psiSlots e < n), 65), (x.tti && z.isSome, z.getD 0),
    (b.routine == 3 && y.isSome, y.getD 0)]
  match firstOfs l1, own with
  | some a, some c => some (min a c)
  | some a, none => some a
  | none, c => c
/-- The lowest field of a block that is out of range (R98, R99). -/
def State.blockRange (s : State) (b : BindBlock) (l : List Byte) : Option Nat :=
  let tt := b.tt.take b.ttCount
  let qs := b.qs.take b.qCount
  let a := firstOfs [
    (decide (b.length < 64) || decide (1024 < b.length) || b.length % 8 != 0, 2), ((stdRow b.routine).isNone && !(s.imageOf b.routine).valid, 4),
    (decide (8 < b.divLog2), 8), (b.ttCount == 0 || decide (8 < b.ttCount), 9), (decide (4 < b.qCount), 10)]
  let c := (firstIdx (fun _ x => decide (65535 < x.1) || s.layer x.1 == 0 || decide (2 < x.2)) tt).map fun k => 16 + 4 * k
  let d := (firstIdx (fun _ x => decide (x.1 < 16) || decide (4095 < x.1) || (s.q x.1).mode == 0 || x.2 == 0 || decide (3 < x.2)) qs).map fun k => 48 + 4 * k
  let o := match stdRow b.routine with | some x => s.stdRange b x l | none => none
  [a, b.resv, c, d, o].foldl (fun m x => match m, x with
    | some p, some q => some (min p q)
    | some p, none => some p
    | none, q => q) none
/-- Another context binds a queue in a mode's bit (R87, R373): the copies a move has made do not count. -/
def State.boundBy (s : State) (c q m : Nat) : Bool :=
  s.jrm.ctx.any fun p => p.1 != c && p.1 != c + 131072 && p.2.state != 0 && !p.2.shadow && p.2.bind.qs.any fun x => x.1 == q && bit x.2 m
/-- A queue cannot take a context as a producer or a consumer (R87, R373): its code names another, among them the host that has claimed a queue
of code 0, or another context has bound it so. A queue of code 0 takes one context in the role. (DESIGN CHOICE, log entry 135) -/
def State.queueTaken (s : State) (c : Nat) (x : Nat × Nat) : Bool :=
  let h := s.q x.1
  (bit x.2 0 && (decide (1 < h.producer) || s.boundBy c x.1 0)) || (bit x.2 1 && (decide (1 < h.consumer) || s.boundBy c x.1 1))
/-- APS_LIN cannot be bound (10 R306, R307). -/
def State.apsState (s : State) (c : Nat) (l : List Byte) : Bool :=
  let w := blockLe l 68 2
  let p := blockLe l 70 2
  let fast := (s.cn 0 w).fastEn || (s.cn 0 p).fastEn
  s.mateOf 1 0 p != some w || (fast && (decide (2 ≤ blockLe l 64 1 % 4) || blockLe l 65 1 != 0))
    || slotOfCtx c != (s.odu p).slot
/-- A context and its copies in a move are unbound. (DEDUCED, log entry 103) -/
def State.unbindAll (s : State) (t c : Nat) : State :=
  let l := (s.plz.moves.filter fun p => p.2.live && p.2.ctxs.any fun x => x.1 == c || x.2 == c)
  let s1 := l.foldl (fun z p =>
    let z1 := (p.2.ctxs.filter fun x => x.1 == c || x.2 == c).foldl (fun y x => (y.unbind t x.1).unbind t x.2) z
    z1.setMv p.1 { p.2 with ctxs := p.2.ctxs.filter fun x => x.1 != c && x.2 != c }) s
  s1.unbind t c
/-- BIND (R88 to R90, R96 to R100). (DEDUCED, log entry 103) -/
def bindRun (t c : Nat) (b : BindBlock) (s : State) : CmdRes :=
  let l := blockBytes b
  let img := s.imageOf b.routine
  let bad := s.blockRange b l
  let qs := b.qs.take b.qCount
  let r := guarded [
    (decide (131071 < c), eRange, 0x10), (b.jabi != 0x0100, 1, bufOfs 0), (bad.isSome, eRange, bufOfs (bad.getD 0)),
    (img.jabi != 0x0100, 1, bufOfs 4), ((stdRow b.routine).isSome && s.rbit Reg.PWR_BOOT_LIB_FAIL, 4, noOfs),
    (b.routine == 0x20 && s.apsState c l, eState, noOfs),
    bufErr eState (firstIdx (fun _ x => s.queueTaken c x) qs) fun k => 48 + 4 * k] (.ok s 0)
  match r with
  | .ok _ _ =>
    let h : CtxH :=
      { state := 1, g := List.replicate 32 0, st := List.replicate 4 0,
        bind := { routine := b.routine, jabi := b.jabi, wcsc := img.wcsc, divLog2 := b.divLog2, param := l, tt := b.tt.take b.ttCount, qs := qs,
                  code := img.code } }
    (match overClass (s.admitItem h :: s.engineItems (engineOf c) c) with
    | some a => .err 3 noOfs a.div
    | none => .ok ((if (s.cx c).state = 0 then s else s.unbindAll t c).setCx c h) 0)
  | r => r
/-- UNBIND. -/
def unbindRun (t c : Nat) (s : State) : CmdRes :=
  guarded [(decide (131071 < c), eRange, 0x10), ((s.cx c).state == 0, eState, 0x10)]
    (.ok ((s.unbindAll t c).pmUnbound t ((s.cx c).bind.tt.map (·.1))) 0)

/-! ### Queues (12 R372 to R376, R382; 09 R285, R286) -/

/-- A bound context names a queue, or a slot claims it (R610). -/
def State.queueUsed (s : State) (q : Nat) : Bool :=
  (s.jrm.ctx.any fun p => p.2.state != 0 && p.2.bind.qs.any fun x => x.1 == q) || (List.range 256).any (fun k => s.rbit (Reg.QUE_SLOT_MAP_BOUND k) &&
    s.rget (Reg.QUE_SLOT_MAP_QUEUE k) == q) || (List.range 64).any fun k => s.rbit (Reg.QUE_PUSH_MAP_BOUND k) && s.rget (Reg.QUE_PUSH_MAP_QUEUE k) == q
/-- A queue is empty of everything. -/
def State.queueClear (s : State) (t q : Nat) : State := s.qset t q { s.q q with items := [], build := [], taken := 0, marker := none, frag := [] }
/-- A queue becomes a new one, its record clear (R397). -/
def State.queueNew (s : State) (t q : Nat) (h : QueH) : State :=
  let s1 := s.queueClear t q
  ((({ s1 with que := { s1.que with qs := tput QueH.dflt s1.que.qs q h } } : State).qset t q h).ssPaused t 0).ssPaused t 1
/-- QUEUE_CFG. (DEDUCED, log entry 40) -/
def queueCfgRun (t q mode group cap prod cons sel : Nat) (s : State) : CmdRes :=
  let old := s.q q
  let on := mode != 0
  guarded [
    (decide (q < 16) || decide (4095 < q), eRange, 0x10), (decide (2 < mode), eRange, 0x12), (on && (decide (group < 2) || decide (255 < group)), eRange, 0x13),
    (on && (decide (cap < 64) || decide (4194304 < cap) || cap % 64 != 0), eRange, 0x14), (on && (decide (6 < prod) || decide (6 < cons)), eRange, 0x18),
    (old.mode != 0 && s.queueUsed q, eState, 0x10)]
  (if ¬ on then .ok (if old.mode = 0 then s else s.queueNew t q {}) 0
    else .ok (s.queueNew t q { mode := mode, producer := prod, consumer := cons, group := group, cap := cap, sel := sel }) 0)

/-- QGROUP_CFG: class, spill bandwidth in Mb/s and spill pages (R286). -/
def qgroupCfgRun (t g cls mb pages : Nat) (s : State) : CmdRes :=
  let old := s.spillRow g
  let h := s.rsv old g
  let row := if cls = 0 then 8 else if cls = 1 then 7 else 4
  let sum := qadd (rsvSum s.und.rsv) (if row = old then s.rsvRaise old g (qint mb) else qadd (s.rsvRaise old g (qint 0)) (qint mb))
  guarded [
    (decide (g < 2) || decide (255 < g), eRange, 0x10), (decide (2 < cls), eRange, 0x11),
    (s.que.qs.any fun p => p.2.mode != 0 && p.2.group == g, eState, 0x10), (!qle sum (qint s.ceilMb), eCapacity, 0x14),
    (!s.poolGives ((pages : Int) - h.pages.length), eCapacity, 0x18)]
  (let s1 := if row = old then s else s.giveRsv old g (qint 0) 0
  .ok (((s1.rset (Reg.QUE_GRP_CFG_CLASS g) cls).giveRsv row g (qint mb) pages).undShow t) 0)

/-- SLOT_CLAIM: KIND 0 pop, 1 push (R382). (DEDUCED, log entry 104) -/
def slotClaimRun (t kind slot q on : Nat) (s : State) : CmdRes :=
  let pop := kind == 0
  let h := s.q q
  let fb := if pop then Reg.QUE_SLOT_MAP_BOUND slot else Reg.QUE_PUSH_MAP_BOUND slot
  let fq := if pop then Reg.QUE_SLOT_MAP_QUEUE slot else Reg.QUE_PUSH_MAP_QUEUE slot
  let code := if pop then h.consumer else h.producer
  let host := if pop then 2 else 3
  let taken := if pop then (List.range 256).any fun k => s.rbit (Reg.QUE_SLOT_MAP_BOUND k) && s.rget (Reg.QUE_SLOT_MAP_QUEUE k) == q
    else (List.range 64).any fun k => s.rbit (Reg.QUE_PUSH_MAP_BOUND k) && s.rget (Reg.QUE_PUSH_MAP_QUEUE k) == q
  guarded [
    (decide (1 < kind), eRange, 0x10), (if pop then decide (slot < 12) || decide (255 < slot) else decide (slot < 4) || decide (63 < slot), eRange, 0x11),
    (decide (q < 16) || decide (4095 < q) || h.mode == 0, eRange, 0x12), (decide (1 < on), eRange, 0x14),
    (on == 1 && s.rbit fb, eState, 0x11), (on == 0 && !(s.rbit fb && s.rget fq == q), eState, 0x11),
    (on == 1 && ((code != 0 && code != host) || taken || s.boundBy (2 ^ 20) q (if pop then 1 else 0) || (!pop && h.mode == 2)), eState, 0x12)]
  (if on = 1 then
    let n := if pop then { h with consumer := 2, lentC := code == 0 } else { h with producer := 3, lentP := code == 0 }
    .ok (((s.qset t q n).rset fq q).rsetb fb true) 0
  else
    let n := if pop then { h with consumer := if h.lentC then 0 else h.consumer, lentC := false }
      else { h with producer := if h.lentP then 0 else h.producer, lentP := false }
    .ok (((s.qset t q n).rset fq 0).rsetb fb false) 0)

/-- IMAGE_LOAD (R100). -/
def execImageLoad (t : Nat) (d : Desc) (f : ImageFile) : State → Host.Outcome State Fault Refusal :=
  event t fun s => s.runCmd t 0x0500 d false false (imageLoadRun f)
/-- BIND (R89). -/
def execBind (t : Nat) (d : Desc) (c : Nat) (b : BindBlock) : State → Host.Outcome State Fault Refusal :=
  event t fun s => s.runCmd t 0x0501 d false false (bindRun t c b)
/-- UNBIND (R515). -/
def execUnbind (t : Nat) (d : Desc) (c : Nat) : State → Host.Outcome State Fault Refusal :=
  event t fun s => s.runCmd t 0x0502 d false false (unbindRun t c)
/-- QUEUE_CFG (R372). -/
def execQueueCfg (t : Nat) (d : Desc) (q mode group cap prod cons sel : Nat) : State → Host.Outcome State Fault Refusal :=
  event t fun s => s.runCmd t 0x0600 d false false (queueCfgRun t q mode group cap prod cons sel)
/-- QGROUP_CFG (R286). -/
def execQgroupCfg (t : Nat) (d : Desc) (g cls mb pages : Nat) : State → Host.Outcome State Fault Refusal :=
  event t fun s => s.runCmd t 0x0601 d false false (qgroupCfgRun t g cls mb pages)
/-- SLOT_CLAIM (R382). -/
def execSlotClaim (t : Nat) (d : Desc) (kind slot q on : Nat) : State → Host.Outcome State Fault Refusal :=
  event t fun s => s.runCmd t 0x0602 d false false (slotClaimRun t kind slot q on)
/-- OAP_START (13 R414). -/
def execOapStart (t : Nat) (d : Desc) : State → Host.Outcome State Fault Refusal :=
  event t fun s => s.runCmd t 0x0603 d false false fun z => .ok (goEffect t z) 0

end Sys2Proof.Machine
end

