-- ==== Sys2Proof/Machine/Shift.lean ====
section
/-! DEFINITION. A forced backward step of device time (11 R364): every instant held as a DTS moves by the same amount. -/
namespace Sys2Proof.Machine
open Sys2Proof

/-- An instant moved back by δ; zero stands for none. -/
def back (δ n : Nat) : Nat := if n = 0 then 0 else n - δ
/-- An instant that may be absent. -/
def backO (δ : Nat) (o : Option Nat) : Option Nat := o.map (back δ)
/-- A table whose entries are instants. -/
def backT (δ : Nat) (l : Tbl Nat) : Tbl Nat := l.map fun p => (p.1, back δ p.2)
/-- A table whose entries hold instants. -/
def shiftT {α : Type} (f : α → α) (l : Tbl α) : Tbl α := l.map fun p => (p.1, f p.2)
/-- A DTS that registers hold: it reads zero where there is none. -/
def State.backWords (s : State) (δ a : Nat) : State :=
  let d := s.dtsWords a
  if d = 0 then s else s.setDtsWords a (back δ (ofDts96 d))

/-- A multiframe check. -/
def MfH.shift (δ : Nat) (h : MfH) : MfH := { h with since := back δ h.since }
/-- An aligner. -/
def AlignerH.shift (δ : Nat) (h : AlignerH) : AlignerH := { h with since := back δ h.since, mfas := h.mfas.shift δ, omfi := h.omfi.shift δ }
/-- A line interface. -/
def LifH.shift (δ : Nat) (h : LifH) : LifH :=
  { h with sd := backO δ h.sd, cdr := backO δ h.cdr, gei := backO δ h.gei, clear := back δ h.clear,
           lanes := shiftT (fun x : AmLane => { x with arr := back δ x.arr }) h.lanes }
/-- A group. -/
def GrpH.shift (δ : Nat) (h : GrpH) : GrpH :=
  { h with okSince := backO δ h.okSince, lateSince := backO δ h.lateSince, clearedAt := backO δ h.clearedAt,
           members := h.members.map fun m => { m with arr := back δ m.arr } }
/-- A mapper. -/
def MapH.shift (δ : Nat) (h : MapH) : MapH := { h with clampSince := backO δ h.clampSince, freeSince := backO δ h.freeSince }
/-- A connection map entry's waiting selection. -/
def ConnH.shift (δ : Nat) (h : ConnH) : ConnH := { h with req := h.req.map fun r => { r with at_ := back δ r.at_ } }
/-- A timer's expiry in nanoseconds (20 R585): an armed timer stays armed. -/
def backTimer (δ : Nat) (v : DWord) : DWord := if v = 0 then 0 else BitVec.ofNat 64 (max 1 (v.toNat - δ / 65536))
/-- A nanosecond that a standard context holds in 8 bytes of scratch; zero stands for none. -/
def backScr (δ : Nat) (m : List Host.Cell) (o : Nat) : List Host.Cell :=
  let v := mread m o 8
  if v = 0 then m else mwrite m o 8 (max 1 (v - δ / 65536))
/-- The instants that APS_LIN holds in scratch: hold-off starts, the end of its timer, and the beginning of FOP_NR (10 R305, R314, R315). -/
def apsInstants : List Nat := (List.range 4).map apsStart ++ [apsEndAt, apsFop]
/-- A context's release instants and timers. -/
def CtxH.shift (δ : Nat) (h : CtxH) : CtxH :=
  { h with nextRel := back δ h.nextRel, readyAt := backO δ h.readyAt, fAt := backO δ h.fAt, st := h.st.map (backTimer δ),
           scr := if h.bind.routine = 0x20 then apsInstants.foldl (backScr δ) h.scr else h.scr,
           run := h.run.map fun r => { r with rel := back δ r.rel, st := r.st.map (backTimer δ) } }
/-- A time peer: its offset is counted against local time. -/
def TimePeer.shift (δ : Nat) (h : TimePeer) : TimePeer :=
  { h with txLast := back δ h.txLast, txLog := h.txLog.map fun p => (p.1, back δ p.2), rxAt := back δ h.rxAt,
           ex := h.ex.map fun p => (back δ p.1, qadd p.2.1 (qint δ), p.2.2), est := h.est.map fun p => (back δ p.1, qadd p.2 (qint δ)),
           theta := if h.valid then qadd h.theta (qint δ) else h.theta }
/-- A link. -/
def ArcLink.shift (δ : Nat) (h : ArcLink) : ArcLink :=
  { h with since := back δ h.since, hold := back δ h.hold, lastValid := back δ h.lastValid, drainAt := backO δ h.drainAt,
           peers := shiftT (TimePeer.shift δ) h.peers }
/-- A flow: its playout instants move with Θp. -/
def FlowH.shift (δ : Nat) (h : FlowH) : FlowH :=
  { h with lastPlay := back δ h.lastPlay, thp := if h.thpSet then qadd h.thp (qint δ) else h.thp, thpAt := back δ h.thpAt, epsAt := back δ h.epsAt, bufAt := back δ h.bufAt }
/-- A frame of a Class A path. -/
def SelFrame.shift (δ : Nat) (f : SelFrame) : SelFrame := { f with arr := back δ f.arr, fdts := back δ f.fdts }
/-- A Class A path. -/
def PathH.shift (δ : Nat) (h : PathH) : PathH :=
  { h with frames := h.frames.map (SelFrame.shift δ), inSince := backO δ h.inSince, usable := back δ h.usable }
/-- A Class A pair; A is a delay. -/
def PairH.moved (δ : Nat) (h : PairH) : PairH :=
  { h with lastO := back δ h.lastO, x := h.x.shift δ, y := h.y.shift δ }
/-- An overhead port. -/
def OapPort.shift (δ : Nat) (h : OapPort) : OapPort :=
  { h with start := backO δ h.start, realign := back δ h.realign, lastDrop := back δ h.lastDrop,
           drop := h.drop.map fun r => { r with avail := back δ r.avail },
           ins := h.ins.map fun r => { r with at_ := back δ r.at_ }, lastIns := h.lastIns.map fun r => { r with at_ := back δ r.at_ } }
/-- A check-value unit. -/
def CvuH.shift (δ : Nat) (h : CvuH) : CvuH := { h with expAt := backO δ h.expAt, fifo := h.fifo.map fun p => (p.1, p.2.1, back δ p.2.2) }
/-- A queue: when its items became visible. -/
def QueH.shift (δ : Nat) (h : QueH) : QueH := { h with items := h.items.map fun i => { i with vis := back δ i.vis } }
/-- A bank of a checkpoint store. -/
def BankH.shift (δ : Nat) (b : BankH) : BankH :=
  { b with at_ := back δ b.at_, ctxs := b.ctxs.map fun p => (p.1, p.2.shift δ), als := b.als.map fun p => (p.1, p.2.shift δ), lasts := b.lasts.map fun p => (p.1, back δ p.2),
           txs := b.txs.map fun p => (p.1, back δ p.2.1, p.2.2), maps := b.maps.map fun p => (p.1, p.2.shift δ) }
/-- A checkpoint store. -/
def StoreH.shift (δ : Nat) (h : StoreH) : StoreH := { h with b0 := h.b0.map (BankH.shift δ), b1 := h.b1.map (BankH.shift δ) }
/-- The Avenues. -/
def AveState.shift (δ : Nat) (h : AveState) : AveState :=
  { h with
    marks := shiftT (fun m : MarkH => { m with at_ := backO δ m.at_, before := m.before.map fun x => x - δ }) h.marks
    pipes := shiftT (fun p : PipeH => { p with since := back δ p.since, quiet := backO δ p.quiet,
                                               restored := backO δ p.restored }) h.pipes
    halves := shiftT (fun p : HalfH => { p with calAt := back δ p.calAt }) h.halves
    aves := shiftT (fun p : AveH => { p with spareSince := back δ p.spareSince, inSince := back δ p.inSince, fences := p.fences.map (back δ) }) h.aves
    stores := shiftT (StoreH.shift δ) h.stores }
/-- The timing block; a step of δ ticks is of whole seconds. -/
def TimState.shift (δ : Nat) (h : TimState) : TimState :=
  { h with
    refs := shiftT (fun r : RefH => { r with acc := back δ r.acc }) h.refs
    dps := shiftT (fun d : DpllH => { d with since := back δ d.since, dwell := back δ d.dwell, above := backO δ d.above, bridge := back δ d.bridge,
                                             hist := d.hist.map fun p => (back (secOf δ) p.1, p.2) }) h.dps
    stat := shiftT (fun p : StatPin => { p with since := backO δ p.since }) h.stat
    steer := backO δ h.steer, slewEnd := back δ h.slewEnd, tod := h.tod.map fun m => { m with edge := back δ m.edge } }
/-- The Kiosks and the mated pair. -/
def RedState.shift (δ : Nat) (h : RedState) : RedState :=
  { h with kLapse := back δ h.kLapse, present := backO δ h.present, hbLast := backO δ h.hbLast, appliedAt := back δ h.appliedAt,
           appliedCut := back δ h.appliedCut }
/-- Background work. -/
def MntState.shift (δ : Nat) (h : MntState) : MntState :=
  { h with temps := shiftT (fun l : List (Nat × Int) => l.map fun p => (back δ p.1, p.2)) h.temps, hot := backT δ h.hot, retry := backO δ h.retry,
           sealedAt := backO δ h.sealedAt,
           rotUntil := back δ h.rotUntil, frozen := h.frozen.map fun p => (p.1, p.2.1, back δ p.2.2), last := backT δ h.last }
/-- The Underpass. -/
def UndState.shift (δ : Nat) (h : UndState) : UndState :=
  { h with pages := shiftT (fun p : PageH => { p with ce := p.ce.map (back δ) }) h.pages, ue := shiftT (fun l : List Nat => l.map (back δ)) h.ue }

/-- Every lease expiry, release instant, timer, gate and playout instant moves back by δ (R364). The writes of ones that STATUS registers
remember lie before every later event, so they are forgotten. (DEDUCED, log entry 14; DEDUCED, log entry 83) -/
def State.shiftAll (s : State) (δ : Nat) : State :=
  let s1 := (s.backWords δ Reg.KSK_LEASE_EXP0).backWords δ Reg.KSK_PAIR_EXP0
  { s1 with
    stat := shiftT (fun r : StatRec => { r with clrs := [] }) s1.stat
    pulses := s1.pulses.map fun p => { p with until_ := back δ p.until_ }
    evl := { s1.evl with lastRefill := back δ s1.evl.lastRefill }
    que := { s1.que with qs := shiftT (QueH.shift δ) s1.que.qs, waits := s1.que.waits.map fun w => { w with arrival := back δ w.arrival },
                         xoffAt := backT δ s1.que.xoffAt }
    jrm := { s1.jrm with ctx := shiftT (CtxH.shift δ) s1.jrm.ctx }
    lin := { lifs := shiftT (LifH.shift δ) s1.lin.lifs, grps := shiftT (GrpH.shift δ) s1.lin.grps }
    frm := { s1.frm with al := shiftT (AlignerH.shift δ) s1.frm.al, txAt := backT δ s1.frm.txAt,
                         rx := shiftT (fun p : Nat × List Byte => (back δ p.1, p.2)) s1.frm.rx }
    map := { s1.map with ms := shiftT (MapH.shift δ) s1.map.ms }
    plz := { s1.plz with conn := shiftT (ConnH.shift δ) s1.plz.conn,
                         moves := shiftT (fun m : MoveH => { m with install := back δ m.install, cutAt := back δ m.cutAt }) s1.plz.moves }
    pins := shiftT (fun p : PinH => { p with trans := p.trans.map (back δ), since := back δ p.since }) s1.pins
    oap := { ports := shiftT (OapPort.shift δ) s1.oap.ports, trig := back δ s1.oap.trig }
    arc := { s1.arc with links := shiftT (ArcLink.shift δ) s1.arc.links, flows := shiftT (FlowH.shift δ) s1.arc.flows }
    cvu := shiftT (CvuH.shift δ) s1.cvu
    und := s1.und.shift δ
    pair := shiftT (PairH.moved δ) s1.pair
    apsEnd := backT δ s1.apsEnd
    red := s1.red.shift δ
    tim := s1.tim.shift δ
    ave := s1.ave.shift δ
    hcq := { s1.hcq with reset := s1.hcq.reset.map fun p => (p.1, back δ p.2) }
    mnt := s1.mnt.shift δ
    pwr := { s1.pwr with began := back δ s1.pwr.began, faults := shiftT (fun l : List Nat => l.map (back δ)) s1.pwr.faults } }

end Sys2Proof.Machine
end

