-- ==== Sys2Proof/Machine/CmdMisc.lean ====
section
/-! DEFINITION. The commands on time, permits, telemetry, the pair and resets (17 Table HST-9; 11 R364, R366; 18 R529 to R537; 19 R545). -/
namespace Sys2Proof.Machine
open Sys2Proof

/-! ### SET_TIME (11 R364, R366) -/

/-- SET_TIME: the time is set at the next whole second of DP1. -/
def setTimeRun (secs : Nat) (force : Bool) (s : State) : CmdRes :=
  guarded [(s.rbit Reg.TIM_TOD_STAT_TIME_SET && !force, eState, 0x16)] (.later s (.setTime secs force))
/-- The time becomes `new` at t: the first time set, or a forced step, which moves back every held instant when it goes back.
(DEDUCED, log entry 85) -/
def State.setTimeTo (s : State) (t new : Nat) : State :=
  if ¬ s.rbit Reg.TIM_TOD_STAT_TIME_SET then s.firstSet_ t new
  else if new < t then (s.timeStep t new).shiftAll (t - new)
  else s.timeStep t new
/-- SET_TIME_EFFECT (R366): a whole second of DP1; the command completes. It is a privileged act: past the Active lease it is refused and the
time stays (00 R13). (DEDUCED, log entry 85; DEDUCED, log entry 149) -/
def setTimeEffectEffect (t : Nat) (s : State) : State :=
  match s.hcq.exec with
  | some ⟨tag, op, .setTime secs _⟩ =>
    if t % sec 1 ≠ 0 then s
    else if ¬ s.privileged t then s.finish t ⟨tag, 6, op, noOfs, t, 0⟩
    else (s.setTimeTo t (sec secs)).finish (sec secs) ⟨tag, 0, op, noOfs, sec secs, 0⟩
  | _ => s

/-! ### Permits (18 R529 to R533) -/

/-- A permit's condition code (Table MNT-3). -/
inductive PermitKind | line | system | rotate | selftest | snap | clear
  deriving DecidableEq, Repr
/-- The kind of a permit code. -/
def permitKind (c : Nat) : Option PermitKind :=
  if 0x0101 ≤ c ∧ c ≤ 0x0105 then some .line else if 0x0112 ≤ c ∧ c ≤ 0x0114 then some .system else
  match c with
  | 0x0201 => some .rotate
  | 0x0202 => some .selftest
  | 0x0301 => some .snap
  | 0x0302 => some .clear
  | _ => none
/-- The highest target of a kind. -/
def PermitKind.top : PermitKind → Nat
  | .line => 127
  | .system => 19
  | .rotate => 31
  | .selftest => 35
  | .snap => 0
  | .clear => 0
/-- Two line permits on one LIF that may be held together (Table MNT-4). -/
def lineTogether : List (Nat × Nat) := [(0x0101, 0x0105), (0x0105, 0x0101), (0x0103, 0x0104), (0x0104, 0x0103), (0x0103, 0x0105), (0x0105, 0x0103)]
/-- A permit asked for conflicts with one held (R530). -/
def permitConflict (c x hc hx : Nat) : Bool :=
  match permitKind c, permitKind hc with
  | some .line, some .line => x == hx && !lineTogether.contains (c, hc)
  | some .system, some .system => x == hx && !((c == 0x0113 && hc == 0x0114) || (c == 0x0114 && hc == 0x0113))
  | some .rotate, some .rotate => true
  | some .rotate, some .selftest => true
  | some .selftest, some .rotate => true
  | some .selftest, some .selftest => x == hx
  | some .snap, some .clear => true
  | some .clear, some .snap => true
  | _, _ => false
/-- Entry n of the permit table, where it is in use. -/
def State.permitAt (s : State) (n : Nat) : Option (Nat × Nat) :=
  if s.rbit (Reg.MNT_PERMIT_FLAGS_VALID n) then some (s.rget (Reg.MNT_PERMIT_CODE n), s.rget (Reg.MNT_PERMIT_TARGET n)) else none
/-- The first permit held that conflicts with one asked for. (DEDUCED, log entry 105) -/
def State.permitClash (s : State) (c x : Nat) : Option (Nat × Nat) :=
  (List.range 512).findSome? fun n => match s.permitAt n with
    | some p => if permitConflict c x p.1 p.2 then some p else none
    | none => none
/-- A permit is granted: its entry, its event (R533, R538). -/
def State.grantPermit (s : State) (t c x : Nat) (dev : Bool) : State :=
  let n := ((List.range 512).find? fun n => (s.permitAt n).isNone).getD 511
  let s1 := (((s.rset (Reg.MNT_PERMIT_CODE n) c).rset (Reg.MNT_PERMIT_TARGET n) x).rsetb (Reg.MNT_PERMIT_FLAGS_VALID n) true).rsetb
    (Reg.MNT_PERMIT_FLAGS_DEVICE n) dev
  ((s1.setDtsWords (Reg.MNT_PERMIT_DTS0 n) t).logSev t 5 0x8400 0 (c + x * 2 ^ 16)).pulse t Reg.MNT_LIVE_PERMIT_CHG 0
/-- Some ODU of an interface's group, or of the interface itself for OTU4, has an entry in the connection map (04 R133). -/
def State.lifConnected (s : State) (i : Nat) : Bool :=
  if s.rbit (Reg.LIN_LIF_CFG_GROUPED i) then s.grpConnected (s.rget (Reg.LIN_LIF_CFG_GROUP i))
  else s.lifType i == 15 && s.grpConnected (256 + s.rget (Reg.LIN_LIF_CFG_OS_FIRST i))
/-- The condition for a grant (Table MNT-3). -/
def State.permitOk (s : State) (c x : Nat) : Bool :=
  match permitKind c with
  | some .line => s.lifType x != 0 && (c == 0x0101 || !s.lifConnected x)
  | some .system => !s.grpNamed x
  | some .selftest => s.aveState x == 1
  | some _ => true
  | none => false
/-- PERMIT_TAKE (R529 to R531). A self-test takes its Avenue out of the pool; a line test starts (04 R113, R133, R137). (DEDUCED, log entry
90; DEDUCED, log entry 105) -/
def permitTakeRun (t c x : Nat) (s : State) : CmdRes :=
  let k := permitKind c
  let r := guarded [
    (k.isNone || c == 0x0201 || c == 0x0301, eRange, 0x10), (decide ((k.map PermitKind.top).getD 0 < x), eRange, 0x12)] (.ok s 0)
  match r with
  | .ok _ _ =>
    (match s.permitClash c x with
    | some p => .err 5 noOfs (p.1 + p.2 * 65536)
    | none =>
      if ¬ s.permitOk c x then .err eState 0x12 0 else
      let s1 := (s.grantPermit t c x false).adaptHold t c x
      .ok (if c = 0x0202 then (s1.aveTo x 3 0).poolShow t else if permitKind c = some .line then (s1.lineTestOn t c x).switchAll t else s1.switchAll t) 0)
  | r => r
/-- PERMIT_RELEASE (R533): an Avenue whose self-test ends so is in the pool again; a line test stops (04 R133, R134). -/
def permitReleaseRun (t c x : Nat) (s : State) : CmdRes :=
  guarded [
    ((permitKind c).isNone || c == 0x0201 || c == 0x0301, eRange, 0x10), (!s.permitHeld c x, eState, 0x10)]
  (let s1 := s.releasePermit t c x
  .ok (if c = 0x0202 ∧ s1.aveState x = 3 then (s1.aveTo x 1 0).poolShow t else if permitKind c = some .line then s1.lineTestOff t c x else s1) 0)

/-! ### Telemetry (18 R536, R537) -/

/-- The bytes of an SLE section: its header (ID, length) and data. -/
def teleSection (id : Nat) (data : List Byte) : List Byte := leBytes 2 id ++ leBytes 2 data.length ++ data
/-- Counters of a telemetry section: their offsets. -/
def State.teleCtrs (s : State) (set : Nat) : List Nat :=
  (if bit set 3 then s.lifsUsed.flatMap fun i => [Ctr.LIN_CW_CORR i, Ctr.LIN_CW_UNCORR i, Ctr.LIN_BIT_CORR i] else [])
    ++ (if bit set 4 then [Ctr.UND_CORR, Ctr.UND_UNCORR] else [])
    ++ (if bit set 6 then (List.range 160).flatMap fun l => [Ctr.SYP_CELLS_TX l, Ctr.SYP_CELLS_RX l, Ctr.SYP_HDR_ERR l, Ctr.SYP_PCRC_ERR l] else [])
/-- The counters of a record set now, by offset. -/
def State.teleBase (s : State) (set : Nat) : Tbl Nat := (s.teleCtrs set).foldl (fun b c => tput (fun _ => 0) b c (s.cget c)) []
/-- TELEMETRY_CFG. (DEDUCED, log entry 109) -/
def telemetryCfgRun (set cadence q : Nat) (s : State) : CmdRes :=
  let h := s.q q
  guarded [
    (decide (255 < set), eRange, 0x10), (decide (60000 < cadence), eRange, 0x14),
    (cadence != 0 && (decide (4095 < q) || h.mode != 2 || h.producer != 2), eRange, 0x16)]
  (let n : TeleH := { s.mnt.tele with set := set, cadence := cadence, queue := q, base := s.teleBase set }
  .ok { s with mnt := { s.mnt with tele := n } } 0)

/-! ### The pair and resets -/

/-- PAIR_CFG (19 R555): PAIR_EN and the mate's DEVID for the next reset. -/
def pairCfgRun (on mate : Nat) (s : State) : CmdRes :=
  guarded [(decide (1 < on), eRange, 0x10), (!s.rbit Reg.SYP_ARC_ID_VALID, eState, noOfs)]
  (.ok { s with red := { s.red with pairNext := on == 1, mate := mate } } 0)
/-- The RESET codes (19 Table PWR-4). -/
def resetCodes : List Nat := [0x01, 0x02, 0x10, 0x11, 0x12, 0x13]
/-- RESET (19 R545): the reset begins 100 µs after the completion; an ACTIVE or ORPHAN device gives up its role before a full one. -/
def resetRun (t code : Nat) (s : State) : CmdRes :=
  guarded [(!resetCodes.contains code, eRange, 0x10)]
  (let s1 := if code = 1 ∧ (s.role = 2 ∨ s.role = 3) then s.giveUp t 1 else s
  .ok { s1 with hcq := { s1.hcq with reset := some (code, t + us 100) } } 0)

/-- SET_TIME (R366). -/
def execSetTime (t : Nat) (d : Desc) (secs : Nat) (force : Bool) : State → Host.Outcome State Fault Refusal :=
  event t fun s => s.runCmd t 0x0004 d false true (setTimeRun secs force)
/-- SET_TIME_EFFECT (R364). -/
def execSetTimeEffect (t : Nat) : State → Host.Outcome State Fault Refusal := timeEvent t (setTimeEffectEffect t)
/-- PERMIT_TAKE (R530). -/
def execPermitTake (t : Nat) (d : Desc) (c x : Nat) : State → Host.Outcome State Fault Refusal :=
  event t fun s => s.runCmd t 0x0700 d false false (permitTakeRun t c x)
/-- PERMIT_RELEASE (R533). -/
def execPermitRelease (t : Nat) (d : Desc) (c x : Nat) : State → Host.Outcome State Fault Refusal :=
  event t fun s => s.runCmd t 0x0701 d false false (permitReleaseRun t c x)
/-- TELEMETRY_CFG (R536). -/
def execTelemetryCfg (t : Nat) (d : Desc) (set cadence q : Nat) : State → Host.Outcome State Fault Refusal :=
  event t fun s => s.runCmd t 0x0702 d false false (telemetryCfgRun set cadence q)
/-- PAIR_CFG (R555). -/
def execPairCfg (t : Nat) (d : Desc) (on mate : Nat) : State → Host.Outcome State Fault Refusal :=
  event t fun s => s.runCmd t 0x0800 d false true (pairCfgRun on mate)
/-- RESET (R545). -/
def execReset (t : Nat) (d : Desc) (code : Nat) : State → Host.Outcome State Fault Refusal :=
  event t fun s => s.runCmdAt t (t + us 100) 0x0900 d false false (resetRun t code)

end Sys2Proof.Machine
end

