-- ==== Sys2Proof/Machine/Maint.lean ====
section
/-! DEFINITION. Background work: scrubbing, thermal sensing, the Logbook and its snapshots, rotation and telemetry (18 R521 to R537; 07
R229). -/
namespace Sys2Proof.Machine
open Sys2Proof

/-! ### Cadences: 0 page reads, 1 on-die scrubs, 2 map scrubs, 3 sensor samples -/

/-- Work k is due at t: n ticks or more have passed since it was last done. (DEDUCED, log entry 142) -/
def State.dueWork (s : State) (k n t : Nat) : Bool :=
  match tget (fun _ => 0) s.mnt.last k with
  | 0 => true
  | x + 1 => decide (x + n ≤ t)
/-- Work k is done at t. -/
def State.didWork (s : State) (k t : Nat) : State := { s with mnt := { s.mnt with last := tput (fun _ => 0) s.mnt.last k (t + 1) } }

/-! ### Scrubbing (R521, R522; 07 R229) -/

/-- The next page the Sweeper reads: in ascending number, pages of failed pseudo-channels skipped. -/
def State.sweepNext (s : State) : Nat → Nat → Nat
  | 0, p => p
  | n + 1, p => if s.pcUp (pcOf p) then p else State.sweepNext s n (if p + 1 < 49152 then p + 1 else 0)
/-- SCRUB_PAGE_READ (R521): 1.7578125 s after the last, the Sweeper reads every burst of its next page; `finds` are the reads that were not
clean; a poisoned unit is found whether listed or not (09 R280). A pass ends with the last page. -/
def scrubPageReadEffect (t : Nat) (finds : List ScrubFind) (s : State) : State :=
  if ¬ s.dueWork 0 (ns 1757812500) t then s else
  let p := s.sweepNext 49152 s.mnt.sweep
  let listed := finds.map (·.unit)
  let s0 := ((s.page p).poison.filter fun u => !listed.contains u).foldl (fun z u =>
    if z.burstOk p u 0 then z.undBad t p u .none else z) (s.didWork 0 t)
  let s1 := finds.foldl (fun z f => if z.burstOk p f.unit f.burst then z.undRead t p f.unit f.burst f.res f.onDie true f.use else z) s0
  let s2 := if p < s.mnt.sweep ∨ p = 49151 then s1.cinc Ctr.MNT_HBM_PASSES else s1
  { s2 with mnt := { s2.mnt with sweep := if p + 1 < 49152 then p + 1 else 0 } }

/-- The Plaza maps hold an error that cannot be corrected: a device fault (07 R229). -/
def State.mapFault (s : State) (t : Nat) : State := (s.live t Reg.PLZ_LIVE_ECC_UNCORR 0 true).deviceFault t
/-- SRAM_SCRUB (R522), once per second: `corr` words corrected, `bad` the places of uncorrectable ones. -/
def sramScrubEffect (t corr : Nat) (bad : List SramLoc) (s : State) : State :=
  if ¬ s.dueWork 1 (sec 1) t then s else
  bad.foldl (fun z b => match b with
    | .half a h => if a < 36 ∧ h < 2 then z.fence t a 6 else z
    | .plaza => z.mapFault t
    | .other k a => (z.logSev t 1 0x8401 k (a % 2 ^ 32)).cinc Ctr.MNT_SRAM_UNCORR) ((s.didWork 1 t).cadd Ctr.MNT_SRAM_CORR corr)
/-- MAP_SCRUB (07 R229), every 1 s: `corr` single-bit errors corrected in the connection and slot maps, and whether one could not be. -/
def mapScrubEffect (t corr : Nat) (uncorr : Bool) (s : State) : State :=
  if ¬ s.dueWork 2 (sec 1) t then s else
  let s1 := (s.didWork 2 t).cadd Ctr.PLZ_ECC_CORR corr
  let s2 := if corr = 0 then s1 else s1.pulse t Reg.PLZ_LIVE_ECC_CORR 0
  if uncorr then s2.mapFault t else s2

/-! ### Thermal sensing (R525) -/

/-- A sensor's reading at t, in 0.25 °C: MNT_TEMP, the readings of the last 10 ms, and since when it has been at 125 °C. -/
def State.senseTemp (s : State) (t k : Nat) (v : Int) : State :=
  let l := (tget (fun _ => []) s.mnt.temps k).filter fun p => decide (t < p.1 + ms 10)
  let h := tget (fun _ => 0) s.mnt.hot k
  let h' := if v < 500 then 0 else if h = 0 then t else h
  let m := { s.mnt with temps := tput (fun _ => []) s.mnt.temps k ((t, v) :: l), hot := tput (fun _ => 0) s.mnt.hot k h' }
  ({ s with mnt := m } : State).rset (Reg.MNT_TEMP_V k) (toField v 12)
/-- A sensor rose or fell by more than 1.0 °C within 10 ms. (DEDUCED, log entry 107) -/
def State.tempSlews (s : State) (k : Nat) : Bool :=
  match tget (fun _ => []) s.mnt.temps k with
  | [] => false
  | (_, v) :: r => r.any fun p => decide (4 < (p.2 - v).natAbs)
/-- The readout of an HBM stack's temperature: TEMP_C, and HOT_REFRESH above 85 °C (09 R297). -/
def State.stackTemp (s : State) (q : Nat) (v : Int) : State :=
  (s.rset (Reg.UND_STACK_TEMP_C q) (min 255 (v / 4).toNat)).rsetb (Reg.UND_STACK_HOT_REFRESH q) (decide (340 < v))
/-- The nominal voltages of the seven rails, in 0.1 mV (21 Table PKG-8). -/
def railNominal : List Nat := [7500, 8000, 8500, 12000, 11000, 4000, 18000]
/-- The rails' voltages in 0.1 mV (19 R557): PWR_RAIL, and RAIL_LOW while one is below 97 % of its nominal voltage. -/
def State.railShow (s : State) (t : Nat) (l : List Int) : State :=
  if l = [] then s else
  let s1 := ((l.take 7).zipIdx).foldl (fun z p => z.rset (Reg.PWR_RAIL_V p.2) (min 0xFFFF p.1.toNat)) s
  s1.live t Reg.PWR_LIVE_RAIL_LOW 0 (railNominal.zipIdx.any fun p => decide (100 * s1.rget (Reg.PWR_RAIL_V p.2) < 97 * p.1))
/-- THERMAL_SAMPLE (R525): every 1 ms, the 64 readings, in 0.25 °C; after them those of the four HBM stacks, and the voltages of the seven
rails in 0.1 mV, which are sampled at the same cadence (19 R557). (DEDUCED, log entry 107) -/
def thermalSampleEffect (t : Nat) (l : List Int) (s : State) : State :=
  if ¬ s.dueWork 3 (ms 1) t then s else
  let s0 := (((l.drop 64).take 4).zipIdx).foldl (fun z p => z.stackTemp p.2 p.1) ((s.didWork 3 t).railShow t (l.drop 68))
  let s1 := ((l.take 64).zipIdx).foldl (fun z p => z.senseTemp t p.2 p.1) s0
  let thr : Int := 4 * s1.rget Reg.MNT_TEMP_CFG_TEMP_WARN
  let v (k : Nat) : Int := sext (s1.rget (Reg.MNT_TEMP_V k)) 12
  let warn := (List.range 64).find? fun k => decide (thr ≤ v k)
  let slew := (List.range 64).find? fun k => s1.tempSlews k
  let note (z : State) (f : RF) (code : Nat) (o : Option Nat) : State :=
    match o with
    | some k => if z.rbit f then z else z.logSev t 2 code k (toField (v k) 16)
    | none => z
  ((note (note s1 Reg.MNT_LIVE_TEMP_WARN 0x8420 warn) Reg.MNT_LIVE_TEMP_SLEW 0x8421 slew).live t Reg.MNT_LIVE_TEMP_WARN 0 warn.isSome).live t
    Reg.MNT_LIVE_TEMP_SLEW 0 slew.isSome

/-! ### The Logbook (R526 to R529) -/

/-- The bits of a register's RW fields. -/
def rwMask (r : RegRow) : Nat := r.fields.foldl (fun m f => if f.acc = .rw then setBits m f.lo f.w (2 ^ f.w - 1) else m) 0
/-- The words host software has written, the command ring's own left out. (DEDUCED, log entry 106) -/
def State.hostWords (s : State) : List (Nat × Word) :=
  s.regs.filterMap fun p => match rowAt p.1 with
    | some (r, _, _) => if rwMask r = 0 ∨ blockOf p.1 = some 2 then none else some (p.1, p.2 &&& BitVec.ofNat 32 (rwMask r))
    | none => none
/-- The routine images held, up to 4 MiB in all (19 R553). -/
def imagesIn : Nat → List (Nat × ImageH) → List (Nat × ImageH)
  | _, [] => []
  | n, p :: r => if 8 * p.2.code.length ≤ n then p :: imagesIn (n - 8 * p.2.code.length) r else imagesIn n r
/-- An interface in a snapshot. -/
def State.snapLif (s : State) (i : Nat) : SnapLif :=
  let n := (s.lifSlices i).headD 0
  { lif := i, type := s.lifType i, dpll := (s.lif i).dpll, slice := if s.lifType i = 15 then n else 0, slot := (s.lif i).slot }
/-- A group in a snapshot. -/
def State.snapGrp (s : State) (g : Nat) : SnapGrp :=
  let l := s.grpSlices g
  { grp := g, base := l.headD 0, gid := s.rget (Reg.LIN_GRP_GID_GID g), members := (s.grp g).members.map fun m => (m.lif, m.pid),
    slots := l.map fun n => (s.sliceSlot n).getD 0 }
/-- The configuration (R527, 19 R553). (DEDUCED, log entry 106) -/
def State.snapshot (s : State) (t : Nat) : SnapH :=
  { at_ := t, hcp := s.red.hcpRange / 2 ^ 24, jabi := s.red.jabiRange / 2 ^ 24,
    devid := if s.rbit Reg.SYP_ARC_ID_VALID then some s.devid else none, regs := s.hostWords, lifs := s.lifsUsed.map s.snapLif,
    grps := ((List.range 64).filter fun g => s.rbit (Reg.LIN_GRP_CFG_ENABLED g)).map s.snapGrp, sysg := s.sysg,
    links := (List.range 160).filter s.alEnabled, odus := s.odusUsed.map fun i => (i, s.odu i),
    trail := s.entriesUsed.map fun e => (e, (List.range 64).map fun k => mget s.jrm.trail (e * 256 + k)),
    pm := s.pm.ent.map fun p => { entry := p.1, en := p.2.en, fe := p.2.fe, profile := p.2.profile },
    conns := (s.plz.conn.filter fun p => p.2.valid).map fun p =>
      (p.1, { p.2 with req := none, held := false, switches := 0, chg := 0, fwd := false, route1 := false, epoch1 := 0, slot1 := 0, aisFill := false }),
    queues := (s.que.qs.filter fun p => p.2.mode ≠ 0 ∧ 16 ≤ p.1).map fun p =>
      (p.1, { mode := p.2.mode, producer := p.2.producer, consumer := p.2.consumer, group := p.2.group, cap := p.2.cap, sel := p.2.sel,
              lentP := p.2.lentP, lentC := p.2.lentC }),
    pops := ((List.range 256).filter fun k => 12 ≤ k ∧ s.rbit (Reg.QUE_SLOT_MAP_BOUND k)).map fun k => (k, s.rget (Reg.QUE_SLOT_MAP_QUEUE k)),
    pushes := ((List.range 64).filter fun k => 4 ≤ k ∧ s.rbit (Reg.QUE_PUSH_MAP_BOUND k)).map fun k => (k, s.rget (Reg.QUE_PUSH_MAP_QUEUE k)),
    qgrps := ((List.range 256).filter fun g => 2 ≤ g).map fun g =>
      { grp := g, cls := s.rget (Reg.QUE_GRP_CFG_CLASS g), bw := (s.rsv (s.spillRow g) g).bw, pages := (s.rsv (s.spillRow g) g).pages.length },
    images := imagesIn 4194304 s.jrm.images,
    binds := (s.jrm.ctx.filter fun p => p.2.state ≠ 0 ∧ p.1 < 131072).map fun p => (p.1, p.2.bind),
    pairEn := s.red.pairNext, mate := s.red.mate }
/-- The copy a snapshot replaces: one that was never written, else the older. -/
def State.olderSnap (s : State) : Bool :=
  match s.mnt.snap0, s.mnt.snap1 with
  | none, _ => false
  | some _, none => true
  | some a, some b => decide (b.at_ < a.at_)
/-- A snapshot could not be written (R527). -/
def State.snapFail (s : State) (t : Nat) : State :=
  (s.logSev t 1 0x8431 0 (s.rget Reg.MNT_LB_STAT_WEAR_PCT)).live t Reg.MNT_LIVE_SNAP_FAIL 0 true
/-- WEAR_PCT as the Logbook reports it (R526, R528). -/
def State.wearShow (s : State) (t wear : Nat) : State :=
  let s1 := s.rset Reg.MNT_LB_STAT_WEAR_PCT (sat 100 wear)
  let on := decide (80 ≤ wear)
  (if on ∧ ¬ s.rbit Reg.MNT_LIVE_LB_WEAR then s1.logSev t 2 0x8430 0 (sat 100 wear) else s1).live t Reg.MNT_LIVE_LB_WEAR 0 on
/-- SNAPSHOT_WRITE (R527, R528): a DTS whole second that is a multiple of 60; `wear` is the largest erase count in percent, `ok` whether
the copy could be written. It runs under LB-SNAP. (DEDUCED, log entry 105) -/
def snapshotWriteEffect (t wear : Nat) (ok : Bool) (s : State) : State :=
  if t % sec 60 ≠ 0 then s else
  let s1 := s.wearShow t wear
  if ¬ ok ∨ (s1.permitClash 0x0301 0).isSome then s1.snapFail t else
  let n := s.snapshot t
  let s2 := s1.grantPermit t 0x0301 0 true
  let m := { s2.mnt with sealedAt := some t, snap0 := if s.olderSnap then s2.mnt.snap0 else some n, snap1 := if s.olderSnap then some n else s2.mnt.snap1 }
  ((({ s2 with mnt := m } : State).rsetb Reg.MNT_LB_STAT_SNAP_VALID true).live t Reg.MNT_LIVE_SNAP_FAIL 0 false).releasePermit t 0x0301 0
/-- LB_CLEAR_COMPLETE (R529): the event and daily PM areas are erased, and LB-CLEAR is released. -/
def lbClearCompleteEffect (t : Nat) (s : State) : State :=
  if ¬ s.permitHeld 0x0302 0 then s else
  ({ s with evl := { s.evl with book := [] }, pm := { s.pm with daily := [] } } : State).releasePermit t 0x0302 0

/-! ### Rotation (R534, R535) -/

/-- The slot whose Avenue has been in service longest; of two, the lower. -/
def State.longestSlot (s : State) : Option Nat :=
  ((List.range 32).filter fun sl => s.aveState (s.phys sl) = 0).foldl (fun m sl => match m with
    | none => some sl
    | some b => if (s.av (s.phys sl)).inSince < (s.av (s.phys b)).inSince then some sl else some b) none
/-- A rotation cannot begin (R535). -/
def State.rotDefers (s : State) (t sl : Nat) : Bool :=
  decide (((List.range 36).filter fun a => s.aveState a = 1).length < 2) || (s.permitClash 0x0201 sl).isSome
    || s.plz.moves.any (fun p => p.2.live && p.2.phase == .overlap) || s.ave.exh != [] || !s.leaseAt t || !s.privileged t || s.pickSpare.isNone
/-- A rotation begins, or is deferred with an event whose cause code the spec leaves open; `until_` is the next rotation instant.
(DESIGN CHOICE, log entry 37; DEDUCED, log entry 108) -/
def State.rotate (s : State) (t until_ : Nat) : State :=
  match s.longestSlot with
  | none => s
  | some sl =>
    let o := s.phys sl
    if s.rotDefers t sl then
      let (s1, cause) := s.fresh 8
      let s2 := (s1.logSev t 3 0x8411 sl (o + cause * 256)).live t Reg.MNT_LIVE_ROT_DEFER 0 true
      { s2 with mnt := { s2.mnt with retry := some (t + sec 3600), rotUntil := until_ } }
    else
      let a := s.pickSpare.getD 0
      let s1 := (s.grantPermit t 0x0201 sl true).live t Reg.MNT_LIVE_ROT_DEFER 0 false
      { s1 with ave := { s1.ave with rot := some { slot := sl, old := o, new := a } }
                plz := { s1.plz with batch := s1.plz.batch ++ [.rotate sl a] }
                mnt := { s1.mnt with retry := none, rotUntil := until_ } }
/-- ROTATION_INSTANT (R534): a whole second congruent to ROT_SEC modulo 86,400. -/
def rotationInstantEffect (t : Nat) (s : State) : State :=
  if ¬ s.rbit Reg.MNT_CFG_ROT_EN ∨ t % sec 1 ≠ 0 ∨ secOf t % 86400 ≠ min 86399 (s.rget Reg.MNT_CFG_ROT_SEC) then s
  else s.rotate t (t + sec 86400)
/-- ROTATION_RETRY (R535): a deferred rotation is tried again, until the next rotation instant. -/
def rotationRetryEffect (t : Nat) (s : State) : State :=
  match s.mnt.retry with
  | some r => if r ≤ t ∧ t < s.mnt.rotUntil ∧ s.rbit Reg.MNT_CFG_ROT_EN then s.rotate t s.mnt.rotUntil else s
  | none => s

/-! ### Telemetry (R537) -/

/-- A counter's growth since the previous packet, 32 bits saturating. -/
def State.teleDelta (s : State) (c : Nat) : List Byte := leBytes 4 (sat 0xFFFFFFFF (s.cget c - tget (fun _ => 0) s.mnt.tele.base c))
/-- Zero bytes up to n. -/
def padTo (n : Nat) (l : List Byte) : List Byte := l ++ List.replicate (n - l.length) 0
/-- The data of section k (Table MNT-6). Where the table states more bytes than its fields take, the rest is zero. -/
def State.teleData (s : State) (k : Nat) : List Byte :=
  match k with
  | 0 => (List.range 72).flatMap fun h =>
      leBytes 2 (s.rget (Reg.AVE_PACE_PACE_MT_RX (h / 2) (h % 2))) ++ leBytes 2 (s.rget (Reg.AVE_PACE_PACE_MT_TX (h / 2) (h % 2)))
  | 1 => (List.range 64).flatMap fun i => leBytes 2 (s.rget (Reg.MNT_TEMP_V i))
  | 2 => (List.range 8).flatMap fun d => leBytes 4 (s.rget (Reg.TIM_DP_STAT_STATE d)) ++ leBytes 4 (s.rget (Reg.TIM_DP_STAT_SEL_REF d))
      ++ leBytes 4 (s.wordN (Reg.TIM_DP_PHASE d)) ++ leBytes 4 (s.wordN (Reg.TIM_DP_FREQ d))
  | 3 => s.lifsUsed.flatMap fun i => padTo 24 (leBytes 4 i ++ s.teleDelta (Ctr.LIN_CW_CORR i) ++ s.teleDelta (Ctr.LIN_CW_UNCORR i)
      ++ s.teleDelta (Ctr.LIN_BIT_CORR i))
  | 4 => padTo 64 (leBytes 4 (s.rget Reg.UND_CEIL_CEIL_GBPS) ++ leBytes 4 (s.rget Reg.UND_CEIL_RSV_GBPS) ++ leBytes 4 (s.rget Reg.UND_PAGES_FREE_PAGES)
      ++ s.teleDelta Ctr.UND_CORR ++ s.teleDelta Ctr.UND_UNCORR)
  | 5 => (List.range 256).flatMap fun g => leBytes 4 (s.wordN (Reg.QUE_GRP_DEPTH g))
  | 6 => (List.range 160).flatMap fun l => s.teleDelta (Ctr.SYP_CELLS_TX l) ++ s.teleDelta (Ctr.SYP_CELLS_RX l) ++ s.teleDelta (Ctr.SYP_HDR_ERR l)
      ++ s.teleDelta (Ctr.SYP_PCRC_ERR l)
  | 7 => padTo 32 (leBytes 4 (s.wordN Reg.AVE_POOL) ++ leBytes 4 (s.wordN Reg.PLZ_MAP_USED))
  | _ => []
/-- The bytes of the telemetry packet of instant t. (DEDUCED, log entry 109) -/
def State.telePacket (s : State) (t : Nat) : List Byte :=
  let m := s.mnt.tele
  let b := ((List.range 8).filter fun k => bit m.set k).flatMap fun k => teleSection k (s.teleData k)
  leBytes 12 (dts96 t) ++ leBytes 2 s.devid ++ leBytes 4 m.count ++ leBytes 4 m.set ++ leBytes 2 (32 + b.length) ++ List.replicate 8 0 ++ b
/-- Bytes as 32-byte words, the last filled with zeros. -/
def teleWords (l : List Byte) : List Item256 :=
  (List.range (pktWords l.length)).map fun k => BitVec.ofNat 256 (ofLe ((l.drop (32 * k)).take 32))
/-- TELEMETRY_PACKET (R536, R537): a whole multiple of the cadence. -/
def telemetryPacketEffect (t : Nat) (s : State) : State :=
  let m := s.mnt.tele
  if m.cadence = 0 ∨ t % ms m.cadence ≠ 0 then s else
  let b := s.telePacket t
  let old := (s.q m.queue).pushed
  let s1 := s.qpacket t m.queue t b.length (teleWords b)
  let ok := (s1.q m.queue).pushed ≠ old
  let n : TeleH := { m with count := (m.count + 1) % 2 ^ 32, base := s.teleBase m.set }
  let s2 : State := { s1 with mnt := { s1.mnt with tele := n } }
  if ok then s2.cinc Ctr.MNT_TELE_PACKETS else (s2.cinc Ctr.MNT_TELE_DROP).pulse t Reg.MNT_LIVE_TELE_DROP 0

/-- SCRUB_PAGE_READ (R521). -/
def execScrubPageRead (t : Nat) (finds : List ScrubFind) : State → Host.Outcome State Fault Refusal := event t (scrubPageReadEffect t finds)
/-- SRAM_SCRUB (R522). -/
def execSramScrub (t corr : Nat) (bad : List SramLoc) : State → Host.Outcome State Fault Refusal := event t (sramScrubEffect t corr bad)
/-- MAP_SCRUB (R229). -/
def execMapScrub (t corr : Nat) (uncorr : Bool) : State → Host.Outcome State Fault Refusal := event t (mapScrubEffect t corr uncorr)
/-- THERMAL_SAMPLE (R525). (DESIGN CHOICE, log entry 122) -/
def execThermalSample (t : Nat) (l : List Int) : State → Host.Outcome State Fault Refusal := event t (thermalSampleEffect t l)
/-- SNAPSHOT_WRITE (R527). -/
def execSnapshotWrite (t wear : Nat) (ok : Bool) : State → Host.Outcome State Fault Refusal := event t (snapshotWriteEffect t wear ok)
/-- LB_CLEAR_COMPLETE (R529). -/
def execLbClearComplete (t : Nat) : State → Host.Outcome State Fault Refusal := event t (lbClearCompleteEffect t)
/-- ROTATION_INSTANT (R534). -/
def execRotationInstant (t : Nat) : State → Host.Outcome State Fault Refusal := event t (rotationInstantEffect t)
/-- ROTATION_RETRY (R535). -/
def execRotationRetry (t : Nat) : State → Host.Outcome State Fault Refusal := event t (rotationRetryEffect t)
/-- TELEMETRY_PACKET (R536). -/
def execTelemetryPacket (t : Nat) : State → Host.Outcome State Fault Refusal := event t (telemetryPacketEffect t)

end Sys2Proof.Machine
end

