-- ==== Sys2Proof/Machine/Pins.lean ====
section
/-! DEFINITION. Input conditioning (21 R592 to R597, R607). -/
namespace Sys2Proof.Machine
open Sys2Proof

/-- PWR_IN_LIVE follows the stuck and CHATTER states (R607), TIM_LIVE.PIN_FAULT those of REF_SEL and REF_SEL_EN (11 R371). -/
def State.pinShow (s : State) (t : Nat) : State :=
  let any (w : Nat → Nat) (z : State) := decide (z.wordN (w 0) ≠ 0 ∨ z.wordN (w 1) ≠ 0)
  let s1 := s.live t Reg.PWR_IN_LIVE_STUCK 0 (any Reg.PWR_IN_STUCK s)
  let s2 := s1.live t Reg.PWR_IN_LIVE_CHATTER 0 (any Reg.PWR_IN_CHATTER s1)
  s2.live t Reg.TIM_LIVE_PIN_FAULT 0
    ([48, 49, 50, 51, 52].any fun i => s2.rbit (pinBit Reg.PWR_IN_STUCK i) || s2.rbit (pinBit Reg.PWR_IN_CHATTER i))

/-- The consumers of input i look at it again (Table PKG-3): LOS sources, XOFF_IN, the reference pins of DP0. -/
def State.pinConsumers (s : State) (t i : Nat) : State :=
  if i < 32 then s.geiChanged t i
  else if i < 48 then s.xoffInShow t
  else if i < 53 then s.refSelHold.dpSelect t 0 2
  else s

/-- A rise of OA_START starts, a toggle of MATE_ALIVE_IN counts for the pin heartbeat, where the input is not at its safe state. -/
def State.pinEdge (s : State) (t i : Nat) (level : Bool) : State :=
  if s.pinSafe i then s
  else if i = 53 ∧ level ∧ s.rbit Reg.OAP_START_PIN_EN ∧ s.domOn 97 then s.startTrigger t
  else if i = 56 ∨ i = 57 then { s with red := { s.red with hbPins := { s.red.hbPins with seen := true } } }
  else s

/-- CONDITIONED_INPUT_TRANSITION (R592 to R596): at t the last of G consecutive samples of input i agrees on `level`. The transition is
stamped with the first of them; it ends a stuck state, and declares CHATTER where N transitions before it lie within W. The first G
samples after the release of POR_N only tell the consumers the level. (DEDUCED, log entry 118; DEDUCED, log entry 119) -/
def conditionedInputTransitionEffect (t i : Nat) (level : Bool) (s : State) : State :=
  let p := s.pin i
  if ¬ s.pinMoves i level then s else
  let c := s.conditioning i
  let x := t - ns (10 * (c.g - 1))
  if s.pinLevel i = level then (s.setPin i { p with seen := true, since := x }).pinConsumers x i else
  let was := s.pinSafe i
  let tr := (x :: p.trans).take 64
  let chat := decide (c.n ≠ 0) && (match tr.drop c.n with | o :: _ => decide (x < o + c.w) | [] => false)
  let s1 := (s.setPin i { seen := true, trans := tr, since := x, held := if was then p.held else s.pinLevel i }).rsetb
    (pinBit Reg.PWR_IN_LEVEL i) level
  let s2 := s1.rsetb (pinBit Reg.PWR_IN_STUCK i) false
  let fresh_ := chat && !s2.rbit (pinBit Reg.PWR_IN_CHATTER i)
  let s3 := if fresh_ then (s2.rsetb (pinBit Reg.PWR_IN_CHATTER i) true).cinc Ctr.PWR_IN_CHATTERS else s2
  ((s3.pinShow x).pinEdge x i level).pinConsumers x i

/-- STUCK (R593, R596): an input has stayed at its stuck level for its stuck limit. -/
def stuckEffect (t i : Nat) (s : State) : State :=
  let p := s.pin i
  if ¬ s.stuckDue t i then s else
  let s1 := if s.pinSafe i then s else s.setPin i { p with held := s.pinLevel i }
  (((s1.rsetb (pinBit Reg.PWR_IN_STUCK i) true).cinc Ctr.PWR_IN_STUCKS).pinShow t).pinConsumers t i

/-- CHATTER_END (R595, R596): no transition has occurred for the quiet time. (DEDUCED, log entry 73) -/
def chatterEndEffect (t i : Nat) (s : State) : State :=
  if ¬ s.chatterPast t i then s
  else
    let s1 := (s.rsetb (pinBit Reg.PWR_IN_CHATTER i) false).pinShow t
    (if i = 53 then s1.pinEdge t i (s1.pinLevel i) else s1).pinConsumers t i

/-- A write of one PWR_IN_CFG word: the fields are stored, and the input's history and timers restart (R597). -/
def State.pinCfgWord (s : State) (t a v : Nat) : State :=
  match rowAt a with
  | some (r, i, _) =>
    if r.special ≠ .pwrInCfg ∨ 54 ≤ i then s
    else (s.setWord a (rowBounds r (rowStore r (s.wordN a) v))).setPin i { s.pin i with trans := [], since := t }
  | none => s

/-! ### Output pins (R601) -/

/-- An LVCMOS output of Table PKG-6. -/
inductive OutPin | xrefOk (n : Nat) | dpLock (n : Nat) | dpHold (n : Nat) | xoffOut (n : Nat) | pairRole | fence | mateAlive
  deriving DecidableEq, Repr
/-- The level of an output at t: until the stage that releases it, the state of Table PKG-6; from then on as 11 R359, 12 R388 with the
pin's POL, and 16 R482, R483 and R491 say. -/
def State.outPin (s : State) (t : Nat) (p : OutPin) : Bool :=
  let on := decide (1 ≤ s.rget Reg.PWR_BOOT_STAGE)
  match p with
  | .xrefOk n => on && s.statLevel n t
  | .dpLock n => on && s.statLevel (16 + n) t
  | .dpHold n => on && s.statLevel (24 + n) t
  | .xoffOut n => on && (s.rbit (xoffOutBit n) != bit (s.rget Reg.QUE_XOFF_OUT_CFG_POL) n)
  | .pairRole => s.roleOut
  | .fence => s.red.fenceOut
  | .mateAlive => s.red.hbPin
/-- CONDITIONED_INPUT_TRANSITION (R592). -/
def execConditionedInputTransition (t i : Nat) (level : Bool) : State → Host.Outcome State Fault Refusal :=
  event t (conditionedInputTransitionEffect t i level)
/-- STUCK (R593). -/
def execStuck (t i : Nat) : State → Host.Outcome State Fault Refusal := event t (stuckEffect t i)
/-- CHATTER_END (R595). -/
def execChatterEnd (t i : Nat) : State → Host.Outcome State Fault Refusal := event t (chatterEndEffect t i)
end Sys2Proof.Machine
end

