-- ==== Sys2Proof/Machine/HostWrite.lean ====
section
/-! DEFINITION. Host writes of the registers that have a row of their own in the command table: every word of an access acts by its own
rule, and the access is refused whole where one of them is (00 R4, R608; 17 R503). -/
namespace Sys2Proof.Machine
open Sys2Proof

/-- What the write of a register's word does beside storing, with the register's instance; none where no register stands. -/
def specialAt (a : Nat) : Option (Special × Nat) := (rowAt a).map fun r => (r.1.special, r.2.1)
/-- A value with the bits that the map of the register at a does not list cleared (R3). -/
def listedBits (a v : Nat) : Nat :=
  match rowAt a with
  | none => 0
  | some (r, _, _) => r.fields.foldl (fun x f => setBits x f.lo f.w (bits v f.lo f.w)) 0
/-- The words of an access with what its value writes into their listed fields. -/
def hostWords (a : Access) (v : Nat) : List (Nat × Nat) := (accWords a v).map fun p => (p.1, listedBits p.1 p.2)

/-- Why a write of v to the word at a is refused with CA beside R503, as a REASON; z holds every word as the same access would leave
it. -/
def State.hostFault (s z : State) (a v : Nat) : Option (Option Nat) :=
  match specialAt a with
  | some (.cvuCfg, n) => s.cvuCfgFault z n v
  | some (.cvuTap, n) => s.cvuTapFault z n v
  | some (.prbsCfg, l) => s.prbsFault l v
  | some (.oapCfg, n) => s.oapCfgFault z n v
  | some (.oapMask, _) => s.oapMaskFault z a v
  | some (.oapSrc, n) => s.oapSrcFault z n v
  | some (.hcqCtl, _) => s.hcqCtlFault v
  | some (.hcqBase, _) => if s.rbit Reg.HCQ_CTL_EN then some (some 4) else none
  | _ => s.wordFault a v
/-- What the write of v to the word at `o` by access a does (R4, R608). -/
def State.hostWord (s : State) (t : Nat) (a : Access) (o v : Nat) : State :=
  match specialAt o with
  | some (.status, _) => (s.statWrite o v t).statFollow t o
  | some (.cvuCfg, n) => s.cvuCfgStore t n v
  | some (.cvuTap, n) => s.setWord (Reg.CVU_TAP n) v
  | some (.cvuExpGuard, n) => s.cvuExpGuard t n v
  | some (.cvuFifoGuard, n) => s.cvuFifoGuard t n v
  | some (.prbsCfg, l) => s.prbsStore t l v
  | some (.oapCfg, n) => s.oapCfgStore t n v
  | some (.oapMask, _) => s.oapMaskStore o v
  | some (.oapSrc, n) => s.rset (Reg.OAP_SRC_ENTRY n) v
  | some (.pwrInCfg, _) => s.pinCfgWord t o v
  | some (.adjFreq, _) => s.adjFreq t v
  | some (.adjPhase, _) => s.adjPhase t v
  | some (.dtsSnap, _) => if bit v 0 then s.setDtsWords Reg.TIM_SNAP0 t else s
  | some (.lrefMap, j) => s.lrefStore t j v
  | some (.cmdPi, _) => s.cmdPiStore t a v
  | some (.cplCi, _) => s.cplCiStore t v
  | some (.hcqCtl, _) => s.hcqCtlStore t v
  | some (.hcqBase, _) => s.hcqBaseStore o v
  | some (.irqAck, _) => s.irqAck v
  | _ => s.writeWord t o v
/-- A write of v by access a that covers a word of one of the kinds `own`: refused whole where a word is, else every word acts. -/
def hostWrite (own : Special → Bool) (t : Nat) (a : Access) (v : Nat) (s : State) : State :=
  let l := hostWords a v
  if ¬ l.any (fun p => (specialAt p.1).any fun x => own x.1) then s else
  let z := l.foldl (fun z p => z.setWord p.1 p.2) s
  match l.findSome? fun p => s.hostFault z p.1 p.2 with
  | some r => s.refuseWrite t a r
  | none => l.foldl (fun z p => z.hostWord t a p.1 p.2) s

/-- STATUS_WRITE (R608): a write that covers a STATUS register. -/
def execStatusWrite (t : Nat) (a : Access) (v : Nat) : State → Host.Outcome State Fault Refusal :=
  event t (hostAccess t a true (hostWrite (· == .status) t a v))
/-- CMD_PI_WRITE (R508). -/
def execCmdPiWrite (t : Nat) (a : Access) (v : Nat) : State → Host.Outcome State Fault Refusal :=
  event t (hostAccess t a true (hostWrite (· == .cmdPi) t a v))
/-- CPL_CI_WRITE (R509). -/
def execCplCiWrite (t : Nat) (a : Access) (v : Nat) : State → Host.Outcome State Fault Refusal :=
  event t (hostAccess t a true (hostWrite (· == .cplCi) t a v))
/-- HCQ_CTL_WRITE (R517). -/
def execHcqCtlWrite (t : Nat) (a : Access) (v : Nat) : State → Host.Outcome State Fault Refusal :=
  event t (hostAccess t a true (hostWrite (· == .hcqCtl) t a v))
/-- HCQ_BASE_WRITE (R517). -/
def execHcqBaseWrite (t : Nat) (a : Access) (v : Nat) : State → Host.Outcome State Fault Refusal :=
  event t (hostAccess t a true (hostWrite (· == .hcqBase) t a v))
/-- SYS_IRQ_ACK_WRITE (R520). -/
def execSysIrqAckWrite (t : Nat) (a : Access) (v : Nat) : State → Host.Outcome State Fault Refusal :=
  event t (hostAccess t a true (hostWrite (· == .irqAck) t a v))
/-- CVU_EXP_GUARD_WRITE (R457). -/
def execCvuExpGuardWrite (t : Nat) (a : Access) (v : Nat) : State → Host.Outcome State Fault Refusal :=
  event t (hostAccess t a true (hostWrite (· == .cvuExpGuard) t a v))
/-- CVU_FIFO_GUARD_WRITE (R457). -/
def execCvuFifoGuardWrite (t : Nat) (a : Access) (v : Nat) : State → Host.Outcome State Fault Refusal :=
  event t (hostAccess t a true (hostWrite (· == .cvuFifoGuard) t a v))
/-- CVU_CFG_WRITE (R453, R460). -/
def execCvuCfgWrite (t : Nat) (a : Access) (v : Nat) : State → Host.Outcome State Fault Refusal :=
  event t (hostAccess t a true (hostWrite (· == .cvuCfg) t a v))
/-- CVU_TAP_WRITE (R453, R460). -/
def execCvuTapWrite (t : Nat) (a : Access) (v : Nat) : State → Host.Outcome State Fault Refusal :=
  event t (hostAccess t a true (hostWrite (· == .cvuTap) t a v))
/-- LIN_LANE_PRBS_CFG_WRITE (R135). -/
def execLinLanePrbsCfgWrite (t : Nat) (a : Access) (v : Nat) : State → Host.Outcome State Fault Refusal :=
  event t (hostAccess t a true (hostWrite (· == .prbsCfg) t a v))
/-- OAP_CFG_WRITE (R404, R420). -/
def execOapCfgWrite (t : Nat) (a : Access) (v : Nat) : State → Host.Outcome State Fault Refusal :=
  event t (hostAccess t a true (hostWrite (· == .oapCfg) t a v))
/-- OAP_MASK_WRITE (R403, R404, R412, R420). -/
def execOapMaskWrite (t : Nat) (a : Access) (v : Nat) : State → Host.Outcome State Fault Refusal :=
  event t (hostAccess t a true (hostWrite (· == .oapMask) t a v))
/-- OAP_SRC_WRITE (R412, R420). -/
def execOapSrcWrite (t : Nat) (a : Access) (v : Nat) : State → Host.Outcome State Fault Refusal :=
  event t (hostAccess t a true (hostWrite (· == .oapSrc) t a v))
/-- PWR_IN_CFG_WRITE (R597, R607). -/
def execPwrInCfgWrite (t : Nat) (a : Access) (v : Nat) : State → Host.Outcome State Fault Refusal :=
  event t (hostAccess t a true (hostWrite (· == .pwrInCfg) t a v))
/-- TIM_DP1_ADJ_FREQ_WRITE (R363). -/
def execTimDp1AdjFreqWrite (t : Nat) (w : HostStore) : State → Host.Outcome State Fault Refusal :=
  timeEvent t (hostAccess t w.acc true (hostWrite (· == .adjFreq) t w.acc w.v))
/-- TIM_DP1_ADJ_PHASE_WRITE (R368). -/
def execTimDp1AdjPhaseWrite (t : Nat) (w : HostStore) : State → Host.Outcome State Fault Refusal :=
  timeEvent t (hostAccess t w.acc true (hostWrite (· == .adjPhase) t w.acc w.v))
/-- TIM_DTS_SNAP_WRITE (R371). -/
def execTimDtsSnapWrite (t : Nat) (w : HostStore) : State → Host.Outcome State Fault Refusal :=
  event t (hostAccess t w.acc true (hostWrite (· == .dtsSnap) t w.acc w.v))
/-- TIM_LREF_MAP_WRITE (R334, R609). -/
def execTimLrefMapWrite (t : Nat) (a : Access) (v : Nat) : State → Host.Outcome State Fault Refusal :=
  event t (hostAccess t a true (hostWrite (· == .lrefMap) t a v))

end Sys2Proof.Machine
end

