-- ==== Sys2Proof/Machine/JormOps.lean ====
section
/-! DEFINITION. What each Jorm instruction does (20 R565 to R587), over the common course of Jorm.lean. -/
namespace Sys2Proof.Machine
open Sys2Proof

/-! ### ALU (R565, Table JIR-4) -/

/-- An ALU instruction: d takes the value of s1 and b. -/
def aluAct (f : DWord → DWord → DWord) (w : JWord) (s : State) (_h : CtxH) (r : RunSt) : JRes :=
  .run s (r.setReg w.dst (f (r.reg w.s1) (r.opB w)))

/-- A shift amount, modulo 64. -/
def shamt (b : DWord) : Nat := b.toNat % 64
/-- Saturating unsigned addition. -/
def addsu (a b : DWord) : DWord := if 2 ^ 64 ≤ a.toNat + b.toNat then BitVec.allOnes 64 else a + b
/-- Saturating unsigned subtraction. -/
def subsu (a b : DWord) : DWord := if a.toNat < b.toNat then 0 else a - b
/-- The number of bits set. -/
def popcount (a : DWord) : Nat := ((List.range 64).filter fun k => a.getLsbD k).length
/-- Leading zeros; 64 for zero. -/
def leadZeros (a : DWord) : Nat := if a = 0 then 64 else 63 - Nat.log2 a.toNat
/-- The eight bytes reversed. -/
def byteSwap (a : DWord) : DWord := BitVec.ofNat 64 (ofBe (leBytes 8 a.toNat))
/-- imm shifted into the upper 32 bits, the lower ones kept. -/
def ldih (d : DWord) (imm : BitVec 32) : DWord := imm ++ d.extractLsb' 0 32
/-- BEXT. -/
def bext (a : DWord) (imm : BitVec 32) : DWord :=
  BitVec.ofNat 64 (a.toNat / 2 ^ (imm.toNat % 64) % 2 ^ (imm.toNat / 64 % 64 + 1))
/-- BINS: bits beyond bit 63 are dropped. -/
def bins (d a : DWord) (imm : BitVec 32) : DWord :=
  let lo := imm.toNat % 64
  let m : DWord := (BitVec.ofNat 64 (2 ^ (imm.toNat / 64 % 64 + 1) - 1)) <<< lo
  (d &&& ~~~m) ||| ((a <<< lo) &&& m)

/-- MOV: s1, or the immediate. -/
def movAct (w : JWord) (s : State) (_h : CtxH) (r : RunSt) : JRes :=
  .run s (r.setReg w.dst (if jImm w then jSext w else r.reg w.s1))
/-- An instruction that reads d, s1 and the raw immediate. -/
def immAct (f : DWord → DWord → BitVec 32 → DWord) (w : JWord) (s : State) (_h : CtxH) (r : RunSt) : JRes :=
  .run s (r.setReg w.dst (f (r.reg w.dst) (r.reg w.s1) w.imm))

/-! ### Compare and predicates (R566, R567) -/

/-- The condition of a CMP code. -/
def cmpCond (c : Nat) (a b : DWord) : Bool :=
  match c with
  | 0 => a == b
  | 1 => a != b
  | 2 => a.ult b
  | 3 => a.ule b
  | 4 => a.slt b
  | 5 => a.sle b
  | _ => (a &&& b) != 0
/-- CMP. -/
def cmpAct (w : JWord) (s : State) (_h : CtxH) (r : RunSt) : JRes :=
  .run s (r.setPred w.dst.toNat (cmpCond (w.minor.toNat % 64) (r.reg w.s1) (r.opB w)))
/-- A predicate instruction of two predicates. -/
def predAct (f : Bool → Bool → Bool) (w : JWord) (s : State) (_h : CtxH) (r : RunSt) : JRes :=
  .run s (r.setPred w.dst.toNat (f (r.pred w.s1.toNat) (r.pred w.s2.toNat)))
/-- PSET. -/
def psetAct (w : JWord) (s : State) (_h : CtxH) (r : RunSt) : JRes := .run s (r.setPred w.dst.toNat (w.imm.getLsbD 0))
/-- PRDV. -/
def prdvAct (w : JWord) (s : State) (_h : CtxH) (r : RunSt) : JRes := .run s (r.setReg w.dst (r.p.setWidth 64))
/-- PWRV. -/
def pwrvAct (w : JWord) (s : State) (_h : CtxH) (r : RunSt) : JRes := .run s { r with p := (r.reg w.s1).setWidth 8 }

/-! ### Control (R568 to R570) -/

/-- BR. -/
def brAct (w : JWord) (s : State) (h : CtxH) (r : RunSt) : JRes :=
  let i := w.imm.toNat
  if i = 0 ∨ 8191 < i ∨ h.bind.code.length ≤ r.pc + i then .trap 0x01 r.pc else .ok s r (r.pc + i)
/-- CALL. -/
def callAct (w : JWord) (s : State) (_h : CtxH) (r : RunSt) : JRes :=
  if 8 ≤ r.stack.length then .trap 0x01 r.pc else .ok s { r with stack := (r.pc + 1) :: r.stack } w.imm.toNat
/-- RET. -/
def retAct (_w : JWord) (s : State) (_h : CtxH) (r : RunSt) : JRes :=
  match r.stack with
  | [] => .trap 0x01 r.pc
  | a :: k => .ok s { r with stack := k } a
/-- LSET. -/
def lsetAct (w : JWord) (s : State) (_h : CtxH) (r : RunSt) : JRes :=
  let i := w.imm.toNat
  if i = 0 ∨ 65535 < i then .trap 0x01 r.pc else .run s { r with sl := r.sl.set (w.dst.toNat % 4) (BitVec.ofNat 16 i) }
/-- LOOP. -/
def loopAct (w : JWord) (s : State) (_h : CtxH) (r : RunSt) : JRes :=
  let i := w.imm.toNat
  if i = 0 ∨ 8191 < i ∨ r.pc < i then .trap 0x01 r.pc else
  let k := w.dst.toNat % 4
  let c := r.sl.getD k 0
  if c = 0 then .run s r
  else .ok s { r with sl := r.sl.set k (c - 1) } (if c = 1 then r.pc + 1 else r.pc - i)

/-! ### Memory (R571 to R574, Table JIR-5) -/

/-- The access size in bytes. -/
def accSize (w : JWord) : Nat := 2 ^ (w.minor.toNat % 4)
/-- The address of a memory instruction. -/
def accAddr (w : JWord) (r : RunSt) : Nat := (r.reg w.s1 + jSext w).toNat
/-- A loaded value, sign-extended where the minor says so. -/
def loadVal (w : JWord) (v : Nat) : DWord :=
  let n := accSize w
  if bit w.minor.toNat 2 ∧ n < 8 then BitVec.ofInt 64 (sext v (8 * n)) else BitVec.ofNat 64 v
/-- The trail table entry and role bound in a window slot. -/
def ttSlot (h : CtxH) (k : Nat) : Option (Nat × Nat) := h.bind.tt[k]?
/-- Whether a role permits a routine to write byte o of an entry (05 R169). -/
def rolePermits (role o : Nat) : Bool :=
  (decide (1 ≤ role) && (decide (0x40 ≤ o ∧ o < 0x80) || decide (0xA0 ≤ o ∧ o < 0x100))) ||
  (decide (role = 2) && decide (0x30 ≤ o ∧ o < 0x40))

/-- LD. -/
def ldAct (w : JWord) (s : State) (h : CtxH) (r : RunSt) : JRes :=
  let a := accAddr w r
  let n := accSize w
  if 0x1000 < a + n then .trap 0x02 a
  else if a % n ≠ 0 then .trap 0x03 a
  else .run s (r.setReg w.dst (loadVal w (readLe (scrByte h r) a n)))
/-- ST. -/
def stAct (w : JWord) (s : State) (_h : CtxH) (r : RunSt) : JRes :=
  let a := accAddr w r
  let n := accSize w
  if 0x1000 < a + n then .trap 0x02 a
  else if a % n ≠ 0 then .trap 0x03 a
  else .run s { r with scr := sputs r.scr a (leBytes n (r.reg w.s2).toNat) }
/-- PRM. -/
def prmAct (w : JWord) (s : State) (h : CtxH) (r : RunSt) : JRes :=
  let a := accAddr w r
  let n := accSize w
  if a % n ≠ 0 then .trap 0x03 a
  else .run s (r.setReg w.dst (loadVal w (readLe (fun k => h.bind.param.getD k 0) a n)))
/-- TLD. -/
def tldAct (w : JWord) (s : State) (h : CtxH) (r : RunSt) : JRes :=
  let a := accAddr w r
  let n := accSize w
  if a % n ≠ 0 then .trap 0x03 a
  else if 0x800 ≤ a then .trap 0x04 a else
  match ttSlot h (a / 256) with
  | none => .trap 0x04 a
  | some (e, _) => .run s (r.setReg w.dst (loadVal w (readLe (s.tabByte r) (e * 256 + a % 256) n)))
/-- TST. -/
def tstAct (w : JWord) (s : State) (h : CtxH) (r : RunSt) : JRes :=
  let a := accAddr w r
  let n := accSize w
  if a % n ≠ 0 then .trap 0x03 a
  else if 0x800 ≤ a then .trap 0x04 a else
  match ttSlot h (a / 256) with
  | none => .trap 0x04 a
  | some (e, role) =>
    if (List.range n).all fun k => rolePermits role (a % 256 + k) then
      .run s { r with tab := sputs r.tab (e * 256 + a % 256) (leBytes n (r.reg w.s2).toNat) }
    else .trap 0x05 a
/-- OHR: big-endian unless MINOR [3] (R573). -/
def ohrAct (w : JWord) (s : State) (h : CtxH) (r : RunSt) : JRes :=
  let a := accAddr w r
  let n := accSize w
  if a % n ≠ 0 then .trap 0x03 a
  else if 0x100 ≤ a then .trap 0x06 a
  else .run s (r.setReg w.dst (loadVal w (if bit w.minor.toNat 3 then readLe h.win.byte a n else readBe h.win.byte a n)))
/-- OHW. -/
def ohwAct (w : JWord) (s : State) (_h : CtxH) (r : RunSt) : JRes :=
  let a := accAddr w r
  let n := accSize w
  if a % n ≠ 0 then .trap 0x03 a
  else if 0x40 ≤ a then .trap 0x06 a
  else
    let v := (r.reg w.s2).toNat
    .run s { r with oh := sputs r.oh a (if bit w.minor.toNat 3 then leBytes n v else beBytes n v) }

/-! ### Defect integration (R575 to R578, Table JIR-6) -/

/-- An integrator record, decoded. -/
structure IntgRec where
  state : Nat
  dx : Bool
  fx : Bool
  dbit : Nat
  setN : Nat
  clrN : Nat
  run : Nat
  last : Bool
  mark : Nat
  deriving DecidableEq, Repr

/-- The record in its eight bytes (Table JIR-6). -/
def intgOfNat (x : Nat) : IntgRec :=
  { state := bits x 0 2, dx := bit x 2, fx := bit x 3, dbit := bits x 8 8, setN := bits x 16 4, clrN := bits x 20 4,
    run := bits x 24 7, last := bit x 31, mark := bits x 32 32 }
/-- The eight bytes of a record. -/
def intgToNat (i : IntgRec) : Nat :=
  i.state + 4 * b2n i.dx + 8 * b2n i.fx + 2 ^ 8 * i.dbit + 2 ^ 16 * i.setN + 2 ^ 20 * i.clrN + 2 ^ 24 * i.run
    + 2 ^ 31 * b2n i.last + 2 ^ 32 * i.mark

/-- What a step of a record changes and logs: the record, DX and FX changed, left SUSPECT, and the events as (failure,
raised, reversed). -/
structure IntgOut where
  ig : IntgRec
  dCh : Bool := false
  fCh : Bool := false
  left : Bool := false
  logs : List (Bool × Bool × Bool) := []
  deriving DecidableEq, Repr

/-- The counting part of a step: LAST and RUN (R575). -/
def intgCount (i : IntgRec) (x : Bool) : IntgRec :=
  if x = i.last then { i with run := min (i.run + 1) 127 } else { i with last := x, run := 1 }

/-- The procedure of R575, with the failure times in units of 100 ms. -/
def intgStep (i0 : IntgRec) (x : Bool) (now failSet failClr : Nat) : IntgOut :=
  let i := intgCount i0 x
  let met1 := i.last && decide (max 1 i.setN ≤ i.run)
  let met0 := !i.last && decide (max 1 i.clrN ≤ i.run)
  let age (m : Nat) : Nat := (now + 2 ^ 32 - m) % 2 ^ 32
  if 2 ≤ i.state then
    if met1 || met0 then
      let ch := met1 != i.dx
      let j := if ch then { i with dx := met1, mark := now } else i
      { ig := { j with state := b2n j.dx }, dCh := ch, left := true, logs := if ch then [(false, j.dx, true)] else [] }
    else { ig := i }
  else
    let up := met1 && !i.dx
    let dn := met0 && i.dx
    let j := if up then { i with dx := true, mark := now, state := 1 }
             else if dn then { i with dx := false, mark := now, state := 0 } else i
    let fUp := j.dx && !j.fx && decide (failSet * 100 ≤ age j.mark)
    let fDn := !j.dx && j.fx && decide (failClr * 100 ≤ age j.mark)
    let k := if fUp then { j with fx := true } else if fDn then { j with fx := false } else j
    { ig := k, dCh := up || dn, fCh := fUp || fDn,
      logs := (if up || dn then [(false, j.dx, false)] else []) ++ (if fUp || fDn then [(true, k.fx, false)] else []) }

/-- SEED (R576). -/
def intgSeed (i : IntgRec) (now : Nat) : IntgOut :=
  { ig := { i with state := if i.dx then 3 else 2, run := 0, mark := now } }

/-- An event of a record (R578): none where DBIT drives none. -/
def intgEvent (rel e dbit : Nat) (l : Bool × Bool × Bool) : List EvRec :=
  let code := 0x1000 + dbit + 0x800 * b2n l.1 + 0x400 * b2n l.2.1
  if 11 < dbit then [] else [⟨rel, defaultSev code, code, e, b2n l.2.2⟩]

/-- The value INTG writes to d (R577). -/
def intgResult (o : IntgOut) : Nat :=
  b2n o.ig.dx + 2 * b2n o.ig.fx + 4 * b2n o.dCh + 8 * b2n o.fCh + 16 * b2n (decide (2 ≤ o.ig.state)) + 32 * b2n o.left

/-- INTG, either minor. -/
def intgAct (seed : Bool) (w : JWord) (s : State) (h : CtxH) (r : RunSt) : JRes :=
  let slot := w.imm.toNat % 8
  let k := w.imm.toNat / 8 % 16
  let a := slot * 256 + (if k ≤ 8 then intgOfs k else 0xC0 + 8 * k)
  match ttSlot h slot with
  | none => .trap 0x04 a
  | some (e, role) =>
    if role = 0 ∨ 8 < k then .trap 0x05 a else
    let i := intgOfNat (readLe (s.tabByte r) (e * 256 + intgOfs k) 8)
    let o := if seed then intgSeed i (sdtsm r.rel)
             else intgStep i ((r.reg w.s1).getLsbD 0) (sdtsm r.rel) (s.tabByte r (e * 256 + 0x33)).toNat (s.tabByte r (e * 256 + 0x34)).toNat
    let evs := o.logs.flatMap (intgEvent r.rel e o.ig.dbit)
    if 32 < r.evs.length + evs.length then .trap 0x0A r.pc
    else .run s { (r.setReg w.dst (BitVec.ofNat 64 (intgResult o))) with
      tab := sputs r.tab (e * 256 + intgOfs k) (leBytes 8 (intgToNat o.ig)), intg := (e, k) :: r.intg, evs := r.evs ++ evs }

/-- PMADD (R579). -/
def pmaddAct (w : JWord) (s : State) (h : CtxH) (r : RunSt) : JRes :=
  let slot := w.imm.toNat % 8
  let p := w.imm.toNat / 16 % 8
  match ttSlot h slot with
  | none => .trap 0x04 (slot * 256)
  | some (e, _) =>
    if (s.pmE e).carries (s.layer e) p then .run s { r with pm := r.pm ++ [(e, p, (r.reg w.s1).toNat % 2 ^ 32)] }
    else .trap 0x07 p

/-! ### Queues (R580 to R582, R584, Table JIR-7) -/

/-- The queue and mode of a queue slot. -/
def qSlot (h : CtxH) (w : JWord) : Option (Nat × Nat) := h.bind.qs[w.imm.toNat % 4]?
/-- The address a QUEUE_BINDING trap records (R580). -/
def qAddr (h : CtxH) (w : JWord) : Nat := (qSlot h w).elim 0xFFFFFFFF (·.1)
/-- A push or pop binding on a queue of the mode an instruction needs. -/
def qBound (s : State) (h : CtxH) (w : JWord) (pop : Bool) (mode : Option Nat) : Option Nat :=
  match qSlot h w with
  | none => none
  | some (q, m) => if bit m (b2n pop) ∧ (mode = none ∨ mode = some (s.q q).mode) ∧ (s.q q).mode ≠ 0 then some q else none
/-- The traps of a scratch offset of 32 bytes (R580). -/
def scr32 (a : Nat) : Option JRes := if 0x1000 < a + 32 then some (.trap 0x02 a) else if a % 32 ≠ 0 then some (.trap 0x03 a) else none
/-- Pushes and packet words staged so far (R584). -/
def stagedWords (r : RunSt) : Nat := (r.acts.filter fun a => match a with | .pktAbort _ => false | _ => true).length
/-- Pushes and packet words staged for one queue. -/
def stagedOn (r : RunSt) (q : Nat) : Nat :=
  (r.acts.filter fun a => match a with | .push p _ | .pktBegin p _ _ | .pktWord p _ => p = q | .pktAbort _ => false).length
/-- Items the run has popped from one queue. -/
def poppedFrom (r : RunSt) (q : Nat) : Nat := (r.pops.filter fun p => p.1 = q).length
/-- The packet open on a queue as the run sees it: length and words. -/
def openPkt (h : CtxH) (r : RunSt) (q : Nat) : Option (Nat × Nat) :=
  let close (len n : Nat) : Option (Nat × Nat) := if pktWords len ≤ n then none else some (len, n)
  r.acts.foldl (fun m a => match a with
    | .pktBegin p len _ => if p = q then close len 1 else m
    | .pktWord p _ => if p = q then m.bind (fun x => close x.1 (x.2 + 1)) else m
    | .pktAbort p => if p = q then none else m
    | .push _ _ => m) ((h.pkts.find? fun x => x.queue = q).map fun x => (x.len, x.words))

/-- PUSH. -/
def pushAct (w : JWord) (s : State) (h : CtxH) (r : RunSt) : JRes :=
  let a := (r.reg w.s1).toNat
  match scr32 a with
  | some x => x
  | none =>
    match qBound s h w false (some 1) with
    | none => .trap 0x08 (qAddr h w)
    | some q =>
      if 64 ≤ stagedWords r then .trap 0x0A r.pc
      else .run s { r with acts := r.acts ++ [.push q (scrItem h r a)] }
/-- POP; in a shadow run it returns KIND 0 and stages nothing (07 R613). -/
def popAct (w : JWord) (s : State) (h : CtxH) (r : RunSt) : JRes :=
  let a := (r.reg w.s1).toNat
  match scr32 a with
  | some x => x
  | none =>
    match qBound s h w true none with
    | none => .trap 0x08 (qAddr h w)
    | some q =>
      if h.shadow then .run s (r.setReg w.dst 0) else
      if 16 ≤ r.pops.length then .trap 0x0A r.pc else
      let hq := s.q q
      match hq.items with
      | [] => .stall (.pop (w.imm.toNat % 4) a w.dst.toNat)
      | i :: rest =>
        .run (s.qset r.rel q { hq with items := rest, taken := hq.taken + 1 })
          { (r.setReg w.dst (BitVec.ofNat 64 (i.kind + i.plen * 2 ^ 16))) with
            scr := sputs r.scr a (leBytes 32 i.data.toNat), pops := (q, i) :: r.pops }
/-- PKTB. -/
def pktbAct (w : JWord) (s : State) (h : CtxH) (r : RunSt) : JRes :=
  let a := (r.reg w.s1).toNat
  let len := (r.reg w.s2).toNat
  match scr32 a with
  | some x => x
  | none =>
    match qBound s h w false (some 2) with
    | none => .trap 0x08 (qAddr h w)
    | some q =>
      if (openPkt h r q).isSome ∨ len = 0 ∨ 16384 < len then .trap 0x09 q
      else if 64 ≤ stagedWords r then .trap 0x0A r.pc
      else .run s { r with acts := r.acts ++ [.pktBegin q len (scrItem h r a)] }
/-- PKTC. -/
def pktcAct (w : JWord) (s : State) (h : CtxH) (r : RunSt) : JRes :=
  let a := (r.reg w.s1).toNat
  match scr32 a with
  | some x => x
  | none =>
    match qBound s h w false (some 2) with
    | none => .trap 0x08 (qAddr h w)
    | some q =>
      if (openPkt h r q).isNone then .trap 0x09 q
      else if 64 ≤ stagedWords r then .trap 0x0A r.pc
      else .run s { r with acts := r.acts ++ [.pktWord q (scrItem h r a)] }
/-- PKTA. -/
def pktaAct (w : JWord) (s : State) (h : CtxH) (r : RunSt) : JRes :=
  match qBound s h w false (some 2) with
  | none => .trap 0x08 (qAddr h w)
  | some q => if (openPkt h r q).isNone then .trap 0x09 q else .run s { r with acts := r.acts ++ [.pktAbort q] }
/-- QLEN. (DEDUCED, log entry 26) -/
def qlenAct (w : JWord) (s : State) (h : CtxH) (r : RunSt) : JRes :=
  match qSlot h w with
  | none => .trap 0x08 0xFFFFFFFF
  | some (q, m) =>
    let hq := s.q q
    let vis := if h.shadow then 0 else hq.items.length
    let free := hq.cap - 1 - (hq.depth - poppedFrom r q) - stagedOn r q
    if m % 4 = 0 then .trap 0x08 q
    else .run s (r.setReg w.dst (BitVec.ofNat 64
      (if m % 4 = 1 then free else if m % 4 = 2 then vis else vis + free * 2 ^ 32)))

/-! ### Events, timers, time, WAIT (R583 to R587) -/

/-- EVT. -/
def evtAct (w : JWord) (s : State) (_h : CtxH) (r : RunSt) : JRes :=
  if 32 ≤ r.evs.length then .trap 0x0A r.pc
  else .run s { r with evs := r.evs ++ [⟨r.rel, w.minor.toNat, 0x5800 + w.imm.toNat, (r.reg w.s1).toNat % 2 ^ 32,
                                         (r.reg w.s2).toNat % 2 ^ 48⟩] }
/-- TSET. -/
def tsetAct (w : JWord) (s : State) (_h : CtxH) (r : RunSt) : JRes :=
  let v : DWord := sdtsn r.rel + r.reg w.s1 + w.imm.setWidth 64
  .run s { r with st := r.st.set (w.dst.toNat % 4) (if v = 0 then 1 else v) }
/-- TTST. -/
def ttstAct (w : JWord) (s : State) (_h : CtxH) (r : RunSt) : JRes :=
  let v := r.st.getD (w.s1.toNat % 4) 0
  .run s (r.setPred w.dst.toNat (v != 0 && v.ule (sdtsn r.rel)))
/-- TCLR. -/
def tclrAct (w : JWord) (s : State) (_h : CtxH) (r : RunSt) : JRes := .run s { r with st := r.st.set (w.dst.toNat % 4) 0 }
/-- The time special registers (Table JIR-2). -/
def trdVal (r : RunSt) (m : Nat) : DWord :=
  match m with
  | 0 => BitVec.ofNat 64 (secOf r.rel % 2 ^ 48)
  | 1 => BitVec.ofNat 64 (nsOf r.rel)
  | 2 => BitVec.ofNat 64 (r.rel % 65536)
  | 3 => sdtsn r.rel
  | 4 => BitVec.ofNat 64 r.per
  | _ => BitVec.ofNat 64 (sdtsm r.rel)
/-- TRD. -/
def trdAct (w : JWord) (s : State) (_h : CtxH) (r : RunSt) : JRes := .run s (r.setReg w.dst (trdVal r w.minor.toNat))
/-- The special registers SRD reads (Table JIR-2). -/
def srdVal (c : Nat) (h : CtxH) (r : RunSt) (n : Nat) : DWord :=
  if n = 0 then BitVec.ofNat 64 (c % 131072)
  else if n = 1 then BitVec.ofNat 64 r.steps
  else if n = 2 then BitVec.ofNat 64 h.bind.jabi
  else if n < 8 then (r.sl.getD (n - 4) 0).setWidth 64
  else r.st.getD (n - 8) 0
/-- SRD of context c. -/
def srdAct (c : Nat) (w : JWord) (s : State) (h : CtxH) (r : RunSt) : JRes := .run s (r.setReg w.dst (srdVal c h r w.s1.toNat))
/-- WAIT for a visible item. -/
def waitItemAct (w : JWord) (s : State) (h : CtxH) (r : RunSt) : JRes :=
  match qBound s h w true none with
  | none => .trap 0x08 (qAddr h w)
  | some q => if (s.q q).items = [] ∧ ¬ h.shadow then .stall (.item (w.imm.toNat % 4)) else .run s r
/-- WAIT for room. -/
def waitRoomAct (w : JWord) (s : State) (h : CtxH) (r : RunSt) : JRes :=
  match qBound s h w false none with
  | none => .trap 0x08 (qAddr h w)
  | some q => if (s.q q).full ∧ ¬ h.shadow then .stall (.room (w.imm.toNat % 4)) else .run s r
/-- NOP. -/
def nopAct (_w : JWord) (s : State) (_h : CtxH) (r : RunSt) : JRes := .run s r

/-! ### The instructions -/

/-- ADD (R565). -/
def execAdd (t c : Nat) (w : JWord) : State → Host.Outcome State Fault Refusal :=
  event t (jstep t c .add w (aluAct (· + ·) w))
/-- SUB (R565). -/
def execSub (t c : Nat) (w : JWord) : State → Host.Outcome State Fault Refusal :=
  event t (jstep t c .sub w (aluAct (· - ·) w))
/-- AND (R565). -/
def execAnd (t c : Nat) (w : JWord) : State → Host.Outcome State Fault Refusal :=
  event t (jstep t c .and w (aluAct (· &&& ·) w))
/-- OR (R565). -/
def execOr (t c : Nat) (w : JWord) : State → Host.Outcome State Fault Refusal :=
  event t (jstep t c .or w (aluAct (· ||| ·) w))
/-- XOR (R565). -/
def execXor (t c : Nat) (w : JWord) : State → Host.Outcome State Fault Refusal :=
  event t (jstep t c .xor w (aluAct (· ^^^ ·) w))
/-- SHL (R565). -/
def execShl (t c : Nat) (w : JWord) : State → Host.Outcome State Fault Refusal :=
  event t (jstep t c .shl w (aluAct (fun a b => a <<< shamt b) w))
/-- SHR (R565). -/
def execShr (t c : Nat) (w : JWord) : State → Host.Outcome State Fault Refusal :=
  event t (jstep t c .shr w (aluAct (fun a b => a >>> shamt b) w))
/-- SAR (R565). -/
def execSar (t c : Nat) (w : JWord) : State → Host.Outcome State Fault Refusal :=
  event t (jstep t c .sar w (aluAct (fun a b => a.sshiftRight (shamt b)) w))
/-- MUL (R565). -/
def execMul (t c : Nat) (w : JWord) : State → Host.Outcome State Fault Refusal :=
  event t (jstep t c .mul w (aluAct (· * ·) w))
/-- MINU (R565). -/
def execMinu (t c : Nat) (w : JWord) : State → Host.Outcome State Fault Refusal :=
  event t (jstep t c .minu w (aluAct (fun a b => if b.ult a then b else a) w))
/-- MAXU (R565). -/
def execMaxu (t c : Nat) (w : JWord) : State → Host.Outcome State Fault Refusal :=
  event t (jstep t c .maxu w (aluAct (fun a b => if a.ult b then b else a) w))
/-- ADDSU (R565). -/
def execAddsu (t c : Nat) (w : JWord) : State → Host.Outcome State Fault Refusal :=
  event t (jstep t c .addsu w (aluAct addsu w))
/-- SUBSU (R565). -/
def execSubsu (t c : Nat) (w : JWord) : State → Host.Outcome State Fault Refusal :=
  event t (jstep t c .subsu w (aluAct subsu w))
/-- MOV (R565). -/
def execMov (t c : Nat) (w : JWord) : State → Host.Outcome State Fault Refusal :=
  event t (jstep t c .mov w (movAct w))
/-- NOT (R565). -/
def execNot (t c : Nat) (w : JWord) : State → Host.Outcome State Fault Refusal :=
  event t (jstep t c .not w (aluAct (fun a _ => ~~~a) w))
/-- POPC (R565). -/
def execPopc (t c : Nat) (w : JWord) : State → Host.Outcome State Fault Refusal :=
  event t (jstep t c .popc w (aluAct (fun a _ => BitVec.ofNat 64 (popcount a)) w))
/-- CLZ (R565). -/
def execClz (t c : Nat) (w : JWord) : State → Host.Outcome State Fault Refusal :=
  event t (jstep t c .clz w (aluAct (fun a _ => BitVec.ofNat 64 (leadZeros a)) w))
/-- BSWAP (R565). -/
def execBswap (t c : Nat) (w : JWord) : State → Host.Outcome State Fault Refusal :=
  event t (jstep t c .bswap w (aluAct (fun a _ => byteSwap a) w))
/-- LDIH (R565). -/
def execLdih (t c : Nat) (w : JWord) : State → Host.Outcome State Fault Refusal :=
  event t (jstep t c .ldih w (immAct (fun d _ i => ldih d i) w))
/-- BEXT (R565). -/
def execBext (t c : Nat) (w : JWord) : State → Host.Outcome State Fault Refusal :=
  event t (jstep t c .bext w (immAct (fun _ a i => bext a i) w))
/-- BINS (R565). -/
def execBins (t c : Nat) (w : JWord) : State → Host.Outcome State Fault Refusal :=
  event t (jstep t c .bins w (immAct (fun d a i => bins d a i) w))
/-- CMP (R566). -/
def execCmp (t c : Nat) (w : JWord) : State → Host.Outcome State Fault Refusal :=
  event t (jstep t c .cmp w (cmpAct w))
/-- PAND (R567). -/
def execPand (t c : Nat) (w : JWord) : State → Host.Outcome State Fault Refusal :=
  event t (jstep t c .pand w (predAct (· && ·) w))
/-- POR (R567). -/
def execPor (t c : Nat) (w : JWord) : State → Host.Outcome State Fault Refusal :=
  event t (jstep t c .por w (predAct (· || ·) w))
/-- PXOR (R567). -/
def execPxor (t c : Nat) (w : JWord) : State → Host.Outcome State Fault Refusal :=
  event t (jstep t c .pxor w (predAct (· != ·) w))
/-- PANDN (R567). -/
def execPandn (t c : Nat) (w : JWord) : State → Host.Outcome State Fault Refusal :=
  event t (jstep t c .pandn w (predAct (fun a b => a && !b) w))
/-- PSET (R567). -/
def execPset (t c : Nat) (w : JWord) : State → Host.Outcome State Fault Refusal :=
  event t (jstep t c .pset w (psetAct w))
/-- PRDV (R567). -/
def execPrdv (t c : Nat) (w : JWord) : State → Host.Outcome State Fault Refusal :=
  event t (jstep t c .prdv w (prdvAct w))
/-- PWRV (R567). -/
def execPwrv (t c : Nat) (w : JWord) : State → Host.Outcome State Fault Refusal :=
  event t (jstep t c .pwrv w (pwrvAct w))
/-- BR (R568). -/
def execBr (t c : Nat) (w : JWord) : State → Host.Outcome State Fault Refusal :=
  event t (jstep t c .br w (brAct w))
/-- CALL (R569). -/
def execCall (t c : Nat) (w : JWord) : State → Host.Outcome State Fault Refusal :=
  event t (jstep t c .call w (callAct w))
/-- RET (R569). -/
def execRet (t c : Nat) (w : JWord) : State → Host.Outcome State Fault Refusal :=
  event t (jstep t c .ret w (retAct w))
/-- LSET (R570). -/
def execLset (t c : Nat) (w : JWord) : State → Host.Outcome State Fault Refusal :=
  event t (jstep t c .lset w (lsetAct w))
/-- LOOP (R570). -/
def execLoop (t c : Nat) (w : JWord) : State → Host.Outcome State Fault Refusal :=
  event t (jstep t c .loop w (loopAct w))
/-- LD (R571). -/
def execLd (t c : Nat) (w : JWord) : State → Host.Outcome State Fault Refusal :=
  event t (jstep t c .ld w (ldAct w))
/-- ST (R571). -/
def execSt (t c : Nat) (w : JWord) : State → Host.Outcome State Fault Refusal :=
  event t (jstep t c .st w (stAct w))
/-- PRM (R572). -/
def execPrm (t c : Nat) (w : JWord) : State → Host.Outcome State Fault Refusal :=
  event t (jstep t c .prm w (prmAct w))
/-- TLD (R571). -/
def execTld (t c : Nat) (w : JWord) : State → Host.Outcome State Fault Refusal :=
  event t (jstep t c .tld w (tldAct w))
/-- TST (R571). -/
def execTst (t c : Nat) (w : JWord) : State → Host.Outcome State Fault Refusal :=
  event t (jstep t c .tst w (tstAct w))
/-- OHR (R571). -/
def execOhr (t c : Nat) (w : JWord) : State → Host.Outcome State Fault Refusal :=
  event t (jstep t c .ohr w (ohrAct w))
/-- OHW (R571). -/
def execOhw (t c : Nat) (w : JWord) : State → Host.Outcome State Fault Refusal :=
  event t (jstep t c .ohw w (ohwAct w))
/-- PMADD (R579). -/
def execPmadd (t c : Nat) (w : JWord) : State → Host.Outcome State Fault Refusal :=
  event t (jstep t c .pmadd w (pmaddAct w))
/-- PUSH (R580). -/
def execPush (t c : Nat) (w : JWord) : State → Host.Outcome State Fault Refusal :=
  event t (jstep t c .push w (pushAct w))
/-- POP (R582). -/
def execPop (t c : Nat) (w : JWord) : State → Host.Outcome State Fault Refusal :=
  event t (jstep t c .pop w (popAct w))
/-- PKTB (R581). -/
def execPktb (t c : Nat) (w : JWord) : State → Host.Outcome State Fault Refusal :=
  event t (jstep t c .pktb w (pktbAct w))
/-- PKTC (R581). -/
def execPktc (t c : Nat) (w : JWord) : State → Host.Outcome State Fault Refusal :=
  event t (jstep t c .pktc w (pktcAct w))
/-- PKTA (R84). -/
def execPkta (t c : Nat) (w : JWord) : State → Host.Outcome State Fault Refusal :=
  event t (jstep t c .pkta w (pktaAct w))
/-- QLEN (R580). -/
def execQlen (t c : Nat) (w : JWord) : State → Host.Outcome State Fault Refusal :=
  event t (jstep t c .qlen w (qlenAct w))
/-- EVT (R583). -/
def execEvt (t c : Nat) (w : JWord) : State → Host.Outcome State Fault Refusal :=
  event t (jstep t c .evt w (evtAct w))
/-- TSET (R585). -/
def execTset (t c : Nat) (w : JWord) : State → Host.Outcome State Fault Refusal :=
  event t (jstep t c .tset w (tsetAct w))
/-- TTST (R585). -/
def execTtst (t c : Nat) (w : JWord) : State → Host.Outcome State Fault Refusal :=
  event t (jstep t c .ttst w (ttstAct w))
/-- TCLR (R585). -/
def execTclr (t c : Nat) (w : JWord) : State → Host.Outcome State Fault Refusal :=
  event t (jstep t c .tclr w (tclrAct w))
/-- TRD (R586). -/
def execTrd (t c : Nat) (w : JWord) : State → Host.Outcome State Fault Refusal :=
  event t (jstep t c .trd w (trdAct w))
/-- SRD (R586). -/
def execSrd (t c : Nat) (w : JWord) : State → Host.Outcome State Fault Refusal :=
  event t (jstep t c .srd w (srdAct c w))
/-- INTG_STEP (R575). -/
def execIntgStep (t c : Nat) (w : JWord) : State → Host.Outcome State Fault Refusal :=
  event t (jstep t c .intgStep w (intgAct false w))
/-- INTG_SEED (R576). -/
def execIntgSeed (t c : Nat) (w : JWord) : State → Host.Outcome State Fault Refusal :=
  event t (jstep t c .intgSeed w (intgAct true w))
/-- WAIT_ITEM (R587). -/
def execWaitItem (t c : Nat) (w : JWord) : State → Host.Outcome State Fault Refusal :=
  event t (jstep t c .waitItem w (waitItemAct w))
/-- WAIT_ROOM (R587). -/
def execWaitRoom (t c : Nat) (w : JWord) : State → Host.Outcome State Fault Refusal :=
  event t (jstep t c .waitRoom w (waitRoomAct w))
/-- NOP (R561). -/
def execNop (t c : Nat) (w : JWord) : State → Host.Outcome State Fault Refusal :=
  event t (jstep t c .nop w (nopAct w))

end Sys2Proof.Machine
end

