-- ==== Sys2Proof/Machine/Power.lean ====
section
/-! DEFINITION. Power domains, reset and start-up (19). -/
namespace Sys2Proof.Machine
open Sys2Proof

/-! ### Power-on reset (R542, R543; 21 R601, R605) -/

/-- Power-on reset: everything is at its reset value, held there; the Logbook and the fuses keep theirs. -/
def State.powerOn (s : State) : State :=
  let l : State := State.reset
  let s1 : State := { l with
    evl := { l.evl with book := s.evl.book }, pm := { l.pm with daily := s.pm.daily }, red := { l.red with crash := s.red.crash },
    mnt := { l.mnt with snap0 := s.mnt.snap0, snap1 := s.mnt.snap1 }, pwr := { l.pwr with secMin := s.pwr.secMin },
    freeCtr := s.freeCtr, out := s.out, pending := s.pending }
  let s2 := match s.pwr.secMin with | some v => s1.rset Reg.PWR_BOOT_SEC_MIN (v % 256) | none => s1
  (s2.rset Reg.MNT_LB_STAT_WEAR_PCT (s.rget Reg.MNT_LB_STAT_WEAR_PCT)).rsetb Reg.MNT_LB_STAT_SNAP_VALID
    (s.mnt.snap0.isSome || s.mnt.snap1.isSome)
/-- THERMAL_TRIP (21 R605): a sensor has read 125 °C or more for 1 ms. -/
def thermalTripEffect (t k : Nat) (s : State) : State :=
  let h := tget (fun _ => 0) s.mnt.hot k
  if h ≠ 0 ∧ h + ms 1 ≤ t then s.powerOn else s
/-- POR_RELEASE (R551, R553): POR_N is released, and BOOT_RESTORE is sampled as `strap`. The DTS counts from zero. (DEDUCED, log entry 6) -/
def porReleaseEffect (strap : Bool) (s : State) : State :=
  if ¬ s.pwr.held then s else
  let s1 : State := { s with dts := 0, pwr := { s.pwr with held := false, strap := strap, began := 0 } }
  ((s1.rsetb Reg.PWR_BOOT_RESTORE_REQ strap).rset Reg.PWR_BOOT_LAST_RESET 0).log 0 0x8520 0 0

/-! ### Domains (R539 to R541, Table PWR-2) -/

/-- A domain's STATE: 0 OFF, 2 ON. (DEDUCED, log entry 111) -/
def State.domTo (s : State) (d v : Nat) : State := s.rset (Reg.PWR_DOM_STATE d) v
/-- A domain comes ON, unless it is retired. -/
def State.domUp (s : State) (d : Nat) : State := if s.rbit (Reg.PWR_DOM_RETIRED d) then s else s.domTo d 2
/-- A list of domains comes ON. -/
def State.domsUp (s : State) (l : List Nat) : State := l.foldl State.domUp s
/-- The consequences of a fault of domain d (Table PWR-2). (DEDUCED, log entry 112) -/
def State.domDown (s : State) (t d : Nat) : State :=
  if d < 72 then s.fence t (d / 2) 6
  else if d < 80 then (List.range 16).foldl (fun z k => cdrLockChangeEffect t (16 * (d - 72) + k) false z) s
  else if d < 90 then (List.range 16).foldl (fun z k => cdrLockChangeEffect t (128 + 16 * (d - 80) + k) false z) s
  else if d = 90 then { s with red := { s.red with mlp := none } }
  else if d < 95 then s.stackFail t (d - 91)
  else if d < 97 then
    if s.leaseAt t ∧ s.holder = d - 95 then s.lapse t else { s with red := s.red.hold (d - 95) }
  else if d = 97 then ssBlockLockChangeEffect t 1 false (ssBlockLockChangeEffect t 0 false ((List.range 8).foldl (fun z n => clkLostEffect t n z) s))
  else s
/-- DOMAIN_FAULT (R540, R541): a monitor of domain d reports a fault: cause 0 current, 1 voltage. The third within 24 h retires it. -/
def domainFaultEffect (t d cause : Nat) (s : State) : State :=
  if 99 ≤ d ∨ s.rget (Reg.PWR_DOM_STATE d) = 0 then s else
  let l := t :: s.domFaults t d
  let s0 : State := { s with pwr := { s.pwr with faults := tput (fun _ => []) s.pwr.faults d l } }
  let s1 := (((s0.domTo d 0).rsetb (Reg.PWR_DOM_FAULT d) true).rset (Reg.PWR_DOM_FAULTS_24H d) (sat 255 l.length)).cinc Ctr.PWR_DOM_FAULTS
  let s2 := ((s1.logSev t 2 0x8500 d cause).pulse t Reg.PWR_LIVE_DOM_FAULT 0).domDown t d
  if l.length < 3 then s2 else
  let s3 := (s2.rsetb (Reg.PWR_DOM_RETIRED d) true).live t Reg.PWR_LIVE_DOM_RETIRED 0 true
  if d < 72 ∧ s3.aveState (d / 2) ≠ 4 then
    (((s3.aveTo (d / 2) 4 0).logSev t 2 0x8103 (d / 2) 1).pulse t Reg.AVE_POOL_LIVE_RETIRE 0).poolShow t
  else s3
/-- DOMAIN_RETURN (R540): a domain switched off by a fault returns; the stacks return with a power-on reset only. Check-value units
return with EN clear. (DEDUCED, log entry 111; DEDUCED, log entry 112) -/
def domainReturnEffect (t d : Nat) (s : State) : State :=
  if 99 ≤ d ∨ s.rget (Reg.PWR_DOM_STATE d) ≠ 0 ∨ s.rbit (Reg.PWR_DOM_RETIRED d) ∨ (tget (fun _ => []) s.pwr.faults d) = [] ∨ (91 ≤ d ∧ d < 95)
  then s else
  let s1 := (s.domTo d 2).logSev t 4 0x8501 d 0
  if d = 98 then (List.range 32).foldl (fun z n => z.rsetb (Reg.CVU_CFG_EN n) false) s1 else s1

/-! ### Start-up (R549 to R555) -/

/-- The slot a pair of images is used from: the active one unless it is rejected; each rejection is logged (R550). -/
def State.bootSlot (s : State) (t : Nat) (f : StageFind) : State × Option Bool :=
  let rej (b : Bool) : Option Nat := if b then f.rejB else f.rejA
  let note (z : State) (b : Bool) (c : Nat) : State := (z.logSev t 1 0x8511 (b2n b) c).cinc Ctr.PWR_IMG_REJECT
  match rej f.active with
  | none => (s, some f.active)
  | some c =>
    let s1 := note s f.active c
    match rej (!f.active) with
    | none => (s1, some (!f.active))
    | some e => (note s1 (!f.active) e, none)
/-- Stage k is complete (R551). (DESIGN CHOICE, log entry 114) -/
def State.stageDone (s : State) (t k : Nat) : State :=
  let n := sat 0xFFFF ((t - s.pwr.began) / ms 1)
  (((s.rset Reg.PWR_BOOT_STAGE k).rset (Reg.PWR_STAGE_MS_V (k - 1)) n).pulse t Reg.PWR_LIVE_STAGE_DONE 0).logSev t 5 0x8510 k n
/-- Stage 2: the Kiosks run, the firmware is verified, K0 takes the lease (R549, R550; 16 R477). (DEDUCED, log entry 80) -/
def stage2 (t : Nat) (f : StageFind) (s : State) : State :=
  let (s1, slot) := (s.domsUp [95, 96]).bootSlot t f
  match slot with
  | none => s1.rsetb Reg.PWR_BOOT_BOOT_FAIL true
  | some b =>
    let s2 : State := { s1.rsetb Reg.PWR_BOOT_FW_SLOT b with pwr := { s1.pwr with advance := f.advance } }
    (leaseGrantEffect t true false s2).stageDone t 2
/-- Stage 3: the stacks are trained, the reservations stand, the library is verified (09 R272, Table UND-3; R550). -/
def stage3 (t : Nat) (f : StageFind) (s : State) : State :=
  let s1 := (List.range 4).foldl (fun z k =>
    ((z.rsetb (Reg.UND_STACK_TRAINED k) true).rset (Reg.UND_STACK_PC_WORKING k) 32).domUp (91 + k)) s
  let (s2, slot) := (s1.undDefaults.undShow t).bootSlot t f
  (match slot with
  | some b => s2.rsetb Reg.PWR_BOOT_LIB_SLOT b
  | none => s2.rsetb Reg.PWR_BOOT_LIB_FAIL true).stageDone t 3
/-- The Avenues pass or are retired, and the slot map is formed (R552). -/
def State.slotMap (s : State) (t : Nat) (bad : List Nat) : State :=
  let fails (a : Nat) : Bool := bad.contains (2 * a) || bad.contains (2 * a + 1) || s.aveState a == 4 || s.rbit (Reg.PWR_DOM_RETIRED (2 * a)) || s.rbit (Reg.PWR_DOM_RETIRED (2 * a + 1))
  let pass := (List.range 36).filter fun a => !fails a
  let s1 := ((List.range 36).filter fails).foldl (fun z a =>
    let z1 := ((z.aveTo a 4 0).rsetb (Reg.AVE_MED_STAT_BAD_HALF0 a) (bad.contains (2 * a))).rsetb (Reg.AVE_MED_STAT_BAD_HALF1 a)
      (bad.contains (2 * a + 1))
    if s.aveState a = 4 then z1 else (z1.logSev t 2 0x8103 a 1).pulse t Reg.AVE_POOL_LIVE_RETIRE 0) s
  let s2 := ((pass.take 32).zipIdx).foldl (fun z p =>
    (((z.rset (Reg.PLZ_SLOT_MAP_PHYS p.2) p.1).rsetb (Reg.PLZ_SLOT_MAP_FENCED p.2) false).aveTo p.1 0 p.2).setAv p.1
      { z.av p.1 with inSince := t }) s1
  let s3 := (pass.drop 32).foldl (fun z a => (z.aveTo a 1 0).setAv a { z.av a with spareSince := t }) s2
  let un := (List.range 32).drop pass.length
  (un.foldl (fun z sl => (z.rsetb (Reg.PLZ_SLOT_MAP_FENCED sl) true).exhaust t sl) s3).poolShow t
/-- Stage 4: SerDes blocks, Avenue halves and port blocks are on (R551). -/
def stage4 (t : Nat) (f : StageFind) (s : State) : State :=
  let s1 := s.domsUp ((List.range 72).filter (fun d => !f.halves.contains d) ++ (List.range 19).map (· + 72) ++ [97, 98])
  ((s1.slotMap t f.halves).stageDone t 4)

/-! ### The snapshot (R553, R554) -/

/-- A restored entry: no epoch yet, nothing pending. -/
def State.connBack (s : State) (t : Nat) (l : List (Nat × ConnH)) : State :=
  let s1 := l.foldl (fun z p => z.setCn (p.1 / 20480) (p.1 % 20480) p.2) s
  let e0 := if l.any fun p => p.1 < 20480 then s1.applyEpoch t 0 else s1
  let e1 := if l.any fun p => 20480 ≤ p.1 then e0.applyEpoch t 1 else e0
  let ts := l.map fun p => (p.1 / 20480, p.1 % 20480)
  let s2 := ts.foldl (fun z p => z.setCn p.1 p.2 { z.cn p.1 p.2 with epoch0 := z.epochOf p.1 }) e1
  let s3 := ts.foldl (fun z p => z.flowCarry s p.1 p.2) s2
  let s4 := (groupsOf s s3 ts).foldl (fun z g => z.arcFollow t g) s3
  let ps := (ts.map fun p => (p.1, s4.pairX p.1 p.2)).eraseDups.filter fun p => s4.isPair p.1 p.2
  (((s4.deskewAll ps).undShow t).mapUsed t).switchAll t
/-- Queues, queue groups and slots are restored. -/
def State.queuesBack (s : State) (t : Nat) (n : SnapH) : State :=
  let s1 := n.qgrps.foldl (fun z g =>
    let row := if g.cls = 0 then 8 else if g.cls = 1 then 7 else 4
    let z1 := if z.spillRow g.grp = row then z else z.giveRsv (z.spillRow g.grp) g.grp (qint 0) 0
    (z1.rset (Reg.QUE_GRP_CFG_CLASS g.grp) g.cls).giveRsv row g.grp g.bw g.pages) s
  let s2 := n.queues.foldl (fun z p => z.queueNew t p.1 p.2) s1
  let s3 := n.pops.foldl (fun z p => (z.rset (Reg.QUE_SLOT_MAP_QUEUE p.1) p.2).rsetb (Reg.QUE_SLOT_MAP_BOUND p.1) true) s2
  n.pushes.foldl (fun z p => (z.rset (Reg.QUE_PUSH_MAP_QUEUE p.1) p.2).rsetb (Reg.QUE_PUSH_MAP_BOUND p.1) true) s3
/-- A binding is restored as a fresh one, to be released with g3 bit 0 set; without its image the context is FREE (R554). -/
def State.bindBack (s : State) (t : Nat) (p : Nat × CtxBind) : State :=
  let std := (stdRow p.2.routine).isSome
  if (if std then s.rbit Reg.PWR_BOOT_LIB_FAIL else (s.jrm.images.find? fun x => x.1 == p.2.routine).isNone) then s.logSev t 3 0x8512 p.1 2
  else s.setCx p.1 { state := 1, g := List.replicate 32 0, st := List.replicate 4 0, bind := p.2 }
/-- The PM control words are restored, with fresh bins. -/
def State.pmBack (s : State) (t : Nat) (p : SnapPm) : State :=
  match pmCfgRun t p.entry p.en p.fe p.profile s with
  | .ok s1 _ => s1
  | _ => s
/-- Everything a snapshot holds is restored at t, as one batch (R553); images that fail verification are left out. (DEDUCED, log entry 106) -/
def State.restoreSnap (s : State) (t : Nat) (n : SnapH) (bad : List Nat) : State :=
  let s1 := match n.devid with
    | some v => (s.rset Reg.SYP_ARC_ID_DEVID v).rsetb Reg.SYP_ARC_ID_VALID true
    | none => s
  let s2 := n.regs.foldl (fun z p => match rowAt p.1 with
    | some (r, _, _) => z.setWord p.1 (rowStore r (z.wordN p.1) p.2.toNat)
    | none => z) s1
  let s3 := n.lifs.foldl (fun z l => z.lifAdd t l.lif l.type l.dpll l.slice l.slot) s2
  let s4 := n.grps.foldl (fun z g => z.grpForm t g.grp g.base g.gid g.members g.slots) s3
  let s5 := n.sysg.foldl (fun z g => z.sysSet g.1 g.2) s4
  let s6 := n.links.foldl (fun z l => z.alEnable t l) s5
  let s7 := n.odus.foldl (fun z o => z.oduSet t o.1 { o.2 with fast := false, msiWait := false, broken := none }) s6
  let s8 := n.trail.foldl (fun z e =>
    let z1 : State := { z with jrm := { z.jrm with trail := mputs z.jrm.trail (e.1 * 256) e.2 } }
    z1.trailSet e.1 0x88 1 (z1.hwStanding e.1)) s7
  let s9 := n.pm.foldl (fun z p => z.pmBack t p) s8
  let s10 := (s9.queuesBack t n).connBack t n.conns
  let s11 : State := { s10 with
    jrm := { s10.jrm with images := n.images.filter fun p => !bad.contains p.1 }
    red := { s10.red with pairNext := n.pairEn, mate := n.mate } }
  ((n.binds.foldl (fun z p => z.bindBack t p) s11).dpSelectAll t 1).xoffInShow t
/-- The newest of the copies whose seal holds (18 R527). (DEDUCED, log entry 115) -/
def State.usableSnap (s : State) (f : StageFind) : Option SnapH :=
  match (if f.seal0 then s.mnt.snap0 else none), (if f.seal1 then s.mnt.snap1 else none) with
  | some a, some b => some (if a.at_ < b.at_ then b else a)
  | some a, none => some a
  | none, b => b
/-- SNAPSHOT_RESTORE (R553, R554): with BOOT_RESTORE sampled high. (DEDUCED, log entry 115) -/
def State.snapRestore (s : State) (t : Nat) (f : StageFind) : State :=
  let skip (c : Nat) : State := ((s.logSev t 2 0x8512 0 c).rsetb Reg.PWR_BOOT_RESTORE_SKIPPED true).live t Reg.PWR_LIVE_RESTORE_SKIPPED 0 true
  if ¬ s.pwr.strap then s else
  match s.usableSnap f with
  | none => skip 3
  | some n =>
    if n.hcp ≠ s.red.hcpRange / 2 ^ 24 ∨ n.jabi ≠ s.red.jabiRange / 2 ^ 24 then skip 1
    else ((s.restoreSnap t n f.badImages).rsetb Reg.PWR_BOOT_RESTORED true).logSev t 4 0x8512 0 0
/-- The device leaves reset in its pair role (R555, Table RED-8): STANDBY with PAIR_EN, else SOLO, which owns the outputs; FENCE_OUT is
released (21 R601). A device already FENCED stays so. (DEDUCED, log entry 77) -/
def State.leaveReset (s : State) (t : Nat) : State :=
  let s1 := s.rsetb Reg.KSK_PAIR_STAT_PAIR_EN s.red.pairNext
  if s.role = 4 then s1 else
  let s2 : State := { s1 with red := { s1.red with fenceOut := false, appliedAt := t } }
  if s.red.pairNext then ((s2.rset Reg.KSK_PAIR_STAT_ROLE 1).rsetb Reg.KSK_PAIR_STAT_STANDBY_STALE true).own false
  else (s2.rset Reg.KSK_PAIR_STAT_ROLE 0).own true
/-- The fused minimum follows a firmware whose ADVANCE flag is set, once it has brought up service (R549). -/
def State.advanceMin (s : State) : State :=
  match s.pwr.advance with
  | some v =>
    if s.pwr.secMin.getD Config.secMin.toNat < v then
      ({ s with pwr := { s.pwr with secMin := some v } } : State).rset Reg.PWR_BOOT_SEC_MIN (v % 256)
    else s
  | none => s
/-- Stage 5: the restore, the role, service (R553 to R555; 17 R518). -/
def stage5 (t : Nat) (f : StageFind) (s : State) : State :=
  let s1 := ((s.snapRestore t f).leaveReset t).stageDone t 5
  (if s1.rbit Reg.KSK_LEASE_VALID then s1.ready_ true else s1).advanceMin
/-- STARTUP_STAGE_COMPLETE (R551): stage k, the one after the last completed, with what it found. After BOOT_FAIL none follows.
(DEDUCED, log entry 6; DESIGN CHOICE, log entry 114) -/
def startupStageCompleteEffect (t k : Nat) (f : StageFind) (s : State) : State :=
  if s.pwr.held ∨ s.rbit Reg.PWR_BOOT_BOOT_FAIL ∨ k ≠ s.rget Reg.PWR_BOOT_STAGE + 1 then s
  else if k = 1 then s.stageDone t 1
  else if k = 2 then stage2 t f s
  else if k = 3 then stage3 t f s
  else if k = 4 then stage4 t f s
  else if k = 5 then stage5 t f s
  else s

/-! ### Resets by command and of the link (R544 to R547) -/

/-- A register kept by a full reset: those of the blocks SYS, HCQ, TIM, EVL and PWR. (DESIGN CHOICE, log entry 113) -/
def keptReg (a : Nat) : Bool := match blockOf a with | some b => [0, 2, 3, 13, 15].contains b | none => false
/-- The full reset (R545, Table PWR-4): the domains, maps and queues and all they hold start anew; the DTS, the timing block, the event
logger, the Logbook, the power controller, the input conditioning and the PCI Express endpoint go on, and a retired Avenue stays
retired (16 R468). (DESIGN CHOICE, log entry 113) -/
def State.fullReset (s : State) (t : Nat) : State :=
  let l : State := State.reset
  let s1 : State := { l with
    dts := s.dts, freeCtr := s.freeCtr, out := s.out, pending := s.pending, irq := s.irq, violUnread := s.violUnread
    regs := s.regs.filter fun p => keptReg p.1, ctrs := s.ctrs.filter fun p => keptReg p.1, stat := s.stat.filter fun p => keptReg p.1
    pulses := s.pulses.filter fun p => keptReg p.addr, evl := { s.evl with ring := [] }, pm := { l.pm with daily := s.pm.daily }
    pins := s.pins, tim := s.tim
    red := { l.red with crash := s.red.crash, pairNext := s.red.pairNext, mate := s.red.mate }
    mnt := { l.mnt with snap0 := s.mnt.snap0, snap1 := s.mnt.snap1, sealedAt := s.mnt.sealedAt }
    pwr := { s.pwr with held := false, began := t, retrain := [], advance := none } }
  let s2 := (List.range 99).foldl (fun z d => z.domTo d 0) ((s1.ready_ false).rsetb Reg.HCQ_STAT_BUSY false)
  let s3 := ((s2.rset Reg.PWR_BOOT_STAGE 1).rset Reg.PWR_BOOT_FW_SLOT 0).rset Reg.PWR_BOOT_LIB_SLOT 0
  let s4 := ((s3.rsetb Reg.PWR_BOOT_LIB_FAIL false).rsetb Reg.PWR_BOOT_RESTORED false).rsetb Reg.PWR_BOOT_RESTORE_SKIPPED false
  let s5 := ((List.range 36).filter fun a => s.aveState a == 4).foldl (fun z a => z.aveTo a 4 0)
    ((List.range 4).foldl (fun z k => z.rset (Reg.PWR_STAGE_MS_V (k + 1)) 0) s4)
  (((s5.rset Reg.MNT_LB_STAT_WEAR_PCT (s.rget Reg.MNT_LB_STAT_WEAR_PCT)).rsetb Reg.MNT_LB_STAT_SNAP_VALID
    (s.rbit Reg.MNT_LB_STAT_SNAP_VALID)).live t Reg.PWR_LIVE_RESTORE_SKIPPED 0 false).live t Reg.MNT_LIVE_SNAP_FAIL 0 false
/-- A stack begins to retrain (R546): its pages lose their contents, its pseudo-channels serve nothing, and what the deskew rings hold
there is gone. (DEDUCED, log entry 116) -/
def State.stackReset (s : State) (t q : Nat) : State :=
  let pages := (s.und.rsv.flatMap fun r => r.2.pages).filter fun p => pcOf p / 32 == q
  let s1 := pages.foldl (fun z p => z.setPage p { lost := true }) (s.clearPages pages)
  let s2 := (s1.rsetb (Reg.UND_STACK_TRAINED q) false).rset (Reg.UND_STACK_PC_WORKING q) 0
  let s3 := s2.pair.foldl (fun z p =>
    let d := p.1 / 20480
    let x := p.1 % 20480
    if (s.rsv d x).pages.any fun g => pages.contains g then
      let h := z.pr d x
      let v := h.path h.ring
      z.setPr d x (h.setPath h.ring { v with frames := v.frames.map fun f => if f.ring then { f with bad := true } else f })
    else z) s2
  let s4 : State := { s3 with pwr := { s3.pwr with retrain := q :: s3.pwr.retrain.filter fun x => x != q } }
  (s4.undShed t).undShow t
/-- Every reset but a power-on reset is logged and counted, and LAST_RESET shows its code (R547). -/
def State.resetNote (s : State) (t code : Nat) : State :=
  (s.logSev t 3 0x8520 0 code).cinc Ctr.PWR_RESETS
/-- RESET_BEGIN (R545 to R547): the reset a RESET command asked for begins, 100 µs after its completion. -/
def resetBeginEffect (t : Nat) (s : State) : State :=
  match s.hcq.reset with
  | none => s
  | some (code, at_) =>
    if t < at_ then s else
    let s1 : State := { s with hcq := { s.hcq with reset := none } }
    let s2 := if code = 1 then s1.fullReset t
      else if code = 2 then (if s1.leaseAt t then s1.lapse t else s1)
      else s1.stackReset t (code - 16)
    (s2.rset Reg.PWR_BOOT_LAST_RESET code).resetNote t code
/-- LINK_RESET (R544, R547): the PCI Express endpoint's registers and the ring go back to their reset values; the command in execution
completes into the journal. It has no code, and LAST_RESET keeps the last. (DEDUCED, log entry 95; DEDUCED, log entry 117) -/
def linkResetEffect (t : Nat) (s : State) : State :=
  let ready := s.rbit Reg.HCQ_STAT_READY
  let s1 := (s.resetNote t 0xFF)
  let gone (a : Nat) : Bool := blockOf a == some 2 || decide (0x8000 ≤ a ∧ a < 0xA000)
  let s2 : State := { s1 with
    regs := s1.regs.filter fun p => !gone p.1, stat := s1.stat.filter fun p => !gone p.1, pulses := s1.pulses.filter fun p => !gone p.addr
    irq := { s1.irq with pba := 0 }, hcq := { s1.hcq with closing := false, cut := s1.hcq.exec.isSome } }
  (s2.rsetb Reg.HCQ_STAT_READY ready).rsetb Reg.HCQ_STAT_BUSY s1.hcq.exec.isSome
/-- STACK_RETRAIN_COMPLETE (R546; 09 R282, R290): the stack's pseudo-channels work again, and regions spread over them (09 R272), and reservations
are restored. (DEDUCED, log entry 116) -/
def stackRetrainCompleteEffect (t q : Nat) (s : State) : State :=
  if ¬ s.pwr.retrain.contains q then s else
  let s1 : State := { s with pwr := { s.pwr with retrain := s.pwr.retrain.filter fun x => x != q } }
  let s2 := (((s1.setWord (Reg.UND_PC_FAIL q) 0).rsetb (Reg.UND_STACK_TRAINED q) true).rsetb (Reg.UND_STACK_FAILED q) false).rset
    (Reg.UND_STACK_PC_WORKING q) 32
  let s3 := s2.live t Reg.UND_LIVE_STACK_FAIL 0 ((List.range 4).any fun k => s2.rbit (Reg.UND_STACK_FAILED k))
  let s4 := (s3.und.rsv.map (·.1)).foldl (fun z k => z.respread (k / 65536) (k % 65536)) s3
  (s4.undRestore t s4.und.rsv.length).undShow t

/-- THERMAL_TRIP (21 R605). -/
def execThermalTrip (t k : Nat) : State → Host.Outcome State Fault Refusal := timeEvent t (thermalTripEffect t k)
/-- RAIL_UNDERVOLTAGE (R543): a rail has been below its limit for 1 µs. (DESIGN CHOICE, log entry 122) -/
def execRailUndervoltage (t : Nat) : State → Host.Outcome State Fault Refusal := timeEvent t State.powerOn
/-- POR_N_LOW (R542). -/
def execPorNLow (t : Nat) : State → Host.Outcome State Fault Refusal := timeEvent t State.powerOn
/-- POR_RELEASE (R551). -/
def execPorRelease (strap : Bool) : State → Host.Outcome State Fault Refusal := timeEvent 0 (porReleaseEffect strap)
/-- DOMAIN_FAULT (R540). -/
def execDomainFault (t d cause : Nat) : State → Host.Outcome State Fault Refusal := event t (domainFaultEffect t d cause)
/-- DOMAIN_RETURN (R540). -/
def execDomainReturn (t d : Nat) : State → Host.Outcome State Fault Refusal := event t (domainReturnEffect t d)
/-- STARTUP_STAGE_COMPLETE (R551). -/
def execStartupStageComplete (t k : Nat) (f : StageFind) : State → Host.Outcome State Fault Refusal :=
  event t (startupStageCompleteEffect t k f)
/-- RESET_BEGIN (R545). -/
def execResetBegin (t : Nat) : State → Host.Outcome State Fault Refusal := event t (resetBeginEffect t)
/-- LINK_RESET (R544). -/
def execLinkReset (t : Nat) : State → Host.Outcome State Fault Refusal := event t (linkResetEffect t)
/-- STACK_RETRAIN_COMPLETE (R546). -/
def execStackRetrainComplete (t q : Nat) : State → Host.Outcome State Fault Refusal := event t (stackRetrainCompleteEffect t q)

end Sys2Proof.Machine
end

