-- ==== Sys2Proof/Machine/Std.lean ====
section
/-! DEFINITION. What the runs of the standard routines do (03 R99; 05 R152 to R165, R612; 06 R181; 10 R302 to R316), and COMMIT.

The spec gives their effect, and no listing of their code: a run of one is one step, its COMMIT. Where they keep their own state in scratch
is the model's. (DESIGN CHOICE, log entry 133) -/
namespace Sys2Proof.Machine
open Sys2Proof

/-! ### What a run reads and stages -/

/-- A byte of the overhead read window. -/
def CtxH.wb (h : CtxH) (o : Nat) : Nat := (h.win.byte o).toNat
/-- n bytes of the accumulators. -/
def CtxH.wle (h : CtxH) (o n : Nat) : Nat := readLe h.win.byte o n
/-- n bytes of scratch. -/
def scGet (h : CtxH) (r : RunSt) (o n : Nat) : Nat := readLe (scrByte h r) o n
/-- n bytes of scratch staged. -/
def RunSt.scPut (r : RunSt) (o n v : Nat) : RunSt := { r with scr := sputs r.scr o (leBytes n v) }
/-- n bytes of a trail table entry staged. -/
def RunSt.tabPut (r : RunSt) (e o n v : Nat) : RunSt := { r with tab := sputs r.tab (e * 256 + o) (leBytes n v) }
/-- n bytes of an entry as the run sees them. -/
def State.tabGet (s : State) (r : RunSt) (e o n : Nat) : Nat := readLe (s.tabByte r) (e * 256 + o) n
/-- A byte of the insertion staging window staged. -/
def RunSt.ohPut (r : RunSt) (o v : Nat) : RunSt := { r with oh := sputs r.oh o (leBytes 1 v) }
/-- The context was seeded from a checkpoint (g3 bit 1), or is in its first run after BIND (g3 bit 0). -/
def RunSt.g3bit (r : RunSt) (k : Nat) : Bool := (r.reg 3).getLsbD k

/-! ### Criteria (R154, R155, R158 to R160, Table OVH-6): met for present, met for absent, or not met -/

/-- STAT v for 3 frames, or another value for 3. -/
def CtxH.statCrit (h : CtxH) (v : Nat) : Option Bool := if 3 ≤ h.wb 0x97 then some (h.wb 0x96 == v) else none
/-- A bit that its run byte has shown for n frames. -/
def runCrit (b n : Nat) : Option Bool := if n ≤ b % 128 then some (decide (128 ≤ b)) else none
/-- Offsets of the model's scratch layout: flags ([0] a TTI accepted, [1] a PT accepted), frames without BIAE, the second with its blocks,
frames and aTSF, bad and good seconds in a row, the accepted PT. -/
def scFlags : Nat := 0x00
/-- Frames without BIAE. -/
def scBiae : Nat := 0x0C
/-- The second counted, plus one. -/
def scSec : Nat := 0x10
/-- Its errored blocks. -/
def scBlk : Nat := 0x18
/-- Its frames. -/
def scFrm : Nat := 0x1C
/-- aTSF held in it. -/
def scTsf : Nat := 0x20
/-- Bad seconds in a row. -/
def scBad : Nat := 0x21
/-- Good seconds in a row. -/
def scGood : Nat := 0x22
/-- The accepted PT. -/
def scPt : Nat := 0x30

/-- The first release after a seed (R162): every count and every accepted value of the layout, n MSI entries among them, begins anew. -/
def RunSt.anew (r : RunSt) (n : Nat) : RunSt :=
  if ¬ r.g3bit 1 then r
  else { r with scr := sputs (sputs r.scr 0 (List.replicate 0x34 0)) 0x100 (List.replicate (if n = 0 then 0 else 0x200 + 4 * n) 0) }
/-- A flag of scratch set. -/
def RunSt.flag (r : RunSt) (h : CtxH) (k : Nat) : RunSt := r.scPut scFlags 1 (setBits (scGet h r scFlags 1) k 1 1)
/-- dBIAE (Table OVH-6): frames with another value are counted across releases. -/
def biaeCrit (h : CtxH) (r : RunSt) : RunSt × Option Bool :=
  let b := h.wb 0x99
  let c := if b = 0 then sat 255 (scGet h r scBiae 1 + h.wle 0x80 2) else 0
  (r.scPut scBiae 1 c, if 3 ≤ b then some true else if 3 ≤ c then some false else none)
/-- dTIM (R154): a TTI is accepted when it has been stable for 3 multiframes; the accepted one is compared by TIM_MODE. -/
def State.timCrit (s : State) (h : CtxH) (r : RunSt) : RunSt × Option Bool :=
  let e := h.entry0
  let take := decide (3 ≤ h.wb 0x9B)
  let r1 := if take then ({ r with tab := sputs r.tab (e * 256 + 0x40) ((List.range 64).map fun k => h.win.byte (0xC0 + k)) } : RunSt).flag h 0 else r
  let mode := bits (s.trailByte e 1) 2 2
  let differ (a b : Nat) : Bool := (List.range 16).any fun k => s.tabByte r1 (e * 256 + a + k) != s.tabByte r1 (e * 256 + b + k)
  (r1, if mode = 0 then some false
    else if ¬ bit (scGet h r1 scFlags 1) 0 then none
    else some ((bit mode 0 && differ 0x40 0x10) || (bit mode 1 && differ 0x50 0x20)))
/-- A trigger of Table OVH-7 that hardware acts on stands in an ALIGN byte: dLOF, dLOM, dLOOMFI, fast-path AIS, LOS or GROUP_FAIL. -/
def hwTsf (b : Nat) : Bool := b &&& 0xEA != 0
/-- dDEG (R160): a release counts whole in the second of its release instant; a second ends with the first release of another; one without a
release counts as neither good nor bad. (DESIGN CHOICE, log entry 154) -/
def State.degCrit (s : State) (h : CtxH) (r : RunSt) (tsf : Bool) : RunSt × Option Bool :=
  let e := h.entry0
  let cur := scGet h r scSec 8
  let now := secOf r.rel + 1
  let ends := cur != 0 && cur != now
  let blk := scGet h r scBlk 4
  let frm := scGet h r scFrm 4
  let held := scGet h r scTsf 1 != 0
  let bad0 := scGet h r scBad 1
  let good0 := scGet h r scGood 1
  let isBad := decide ((s.trailGet e 0x30 2 % 1024) * frm < blk * 1000)
  let bad := if ends ∧ ¬ held then (if isBad then sat 255 (bad0 + 1) else 0) else bad0
  let good := if ends ∧ ¬ held then (if isBad then 0 else sat 255 (good0 + 1)) else good0
  let keep (v : Nat) : Nat := if ends then 0 else v
  let r1 := ((((r.scPut scSec 8 now).scPut scBlk 4 (sat 0xFFFFFFFF (keep blk + h.wle 0x88 4))).scPut scFrm 4
    (sat 0xFFFFFFFF (keep frm + h.wle 0x80 2))).scPut scTsf 1 (b2n (tsf || (held && !ends)))).scPut scBad 1 bad
  let m := s.trailByte e 0x32 % 16
  (r1.scPut scGood 1 good, if m ≤ bad then some true else if m ≤ good then some false else none)

/-! ### Integration (R161, R162) -/

/-- A record of a defect (Table OVH-10): its number, DBIT, and the criterion at this release. -/
structure StdRec where
  rec_ : Nat
  dbit : Nat
  crit : Option Bool
  deriving DecidableEq, Repr

/-- One record of the slot-0 entry is seeded where the context is, then stepped: the criterion decides in full, so SET_N and CLR_N are 1; where
it is not met a SUSPECT record stays as it is, and another keeps its dX. (DEDUCED, log entry 146) -/
def State.stdIntg (s : State) (e : Nat) (r : RunSt) (x : StdRec) : RunSt :=
  let a := e * 256 + intgOfs x.rec_
  let now := sdtsm r.rel
  let i0 : IntgRec := { intgOfNat (readLe (s.tabByte r) a 8) with dbit := x.dbit, setN := 1, clrN := 1 }
  let i := if r.g3bit 1 then (intgSeed i0 now).ig else i0
  let o : IntgOut := match x.crit with
    | none => if 2 ≤ i.state then { ig := i } else intgStep i i.dx now (s.trailByte e 0x33) (s.trailByte e 0x34)
    | some v => intgStep i v now (s.trailByte e 0x33) (s.trailByte e 0x34)
  { r with tab := sputs r.tab a (leBytes 8 (intgToNat o.ig)), intg := (e, x.rec_) :: r.intg,
           evs := r.evs ++ o.logs.flatMap (intgEvent r.rel e x.dbit) }
/-- The records of a routine stepped. -/
def State.stdIntgs (s : State) (e : Nat) (r : RunSt) (l : List StdRec) : RunSt := l.foldl (s.stdIntg e) r
/-- dX of a record as the run leaves it. -/
def State.stdDx (s : State) (e k : Nat) (r : RunSt) : Bool := bit (s.tabGet r e (intgOfs k) 1) 2
/-- Parameters added to PM, as far as the entry carries them (14 Table PMN-1). -/
def State.stdPm (s : State) (e : Nat) (r : RunSt) (l : List (Nat × Nat)) : RunSt :=
  { r with pm := r.pm ++ (l.filter fun p => p.2 ≠ 0 ∧ (s.pmE e).carries (s.layer e) p.1).map fun p => (e, p.1, p.2) }

/-! ### OTUC_SM, ODUC_PM, ODUK_PM, ODUK_TCM -/

/-- IAE of SM (R152): from the first release after a realignment, until the releases since it have covered 16 frames. -/
def State.iaeRun (s : State) (h : CtxH) (r : RunSt) : RunSt :=
  let on := (s.entryKey h.entry0).any fun k => (s.al k).realigns != 0 && decide ((s.al k).frames < 16 + h.wle 0x80 2)
  r.ohPut 0x09 (4 * b2n on)
/-- The defects of a routine before dDEG, by their records (Table OVH-10). -/
def trailRecs (routine layer : Nat) (h : CtxH) (biae tim : Option Bool) : List StdRec :=
  let bdi := runCrit (h.wb 0x98) 5
  if routine = 0x01 then [⟨0, 4, runCrit (h.wb 0x9A) 5⟩, ⟨1, 5, if layer = 2 then some false else biae⟩, ⟨2, 6, bdi⟩, ⟨3, 7, tim⟩]
  else if routine = 0x11 then [⟨0, 0, h.statCrit 7⟩, ⟨1, 1, h.statCrit 6⟩, ⟨2, 2, h.statCrit 5⟩, ⟨3, 3, h.statCrit 0⟩, ⟨4, 4, h.statCrit 2⟩,
    ⟨5, 5, biae⟩, ⟨6, 6, bdi⟩, ⟨7, 7, tim⟩]
  else [⟨0, 0, h.statCrit 7⟩, ⟨1, 1, h.statCrit 6⟩, ⟨2, 2, h.statCrit 5⟩, ⟨3, 6, bdi⟩, ⟨4, 7, tim⟩]
/-- The record of dDEG. -/
def degRec (routine : Nat) : Nat := if routine = 0x01 then 4 else if routine = 0x11 then 8 else 5
/-- The record of dTIM. -/
def timRec (routine : Nat) : Nat := if routine = 0x01 then 3 else if routine = 0x11 then 7 else 4
/-- Every record with its criterion absent: a transparent TCM level, whose field is not looked at (R156). -/
def quietRecs (l : List StdRec) : List StdRec := l.map fun x => { x with crit := some false }
/-- A run of OTUC_SM, ODUC_PM, ODUK_PM or ODUK_TCM: the defects, the controls of Table OVH-7, PM and the bytes sent. (DEDUCED, log entry
146) -/
def State.trailRun (s : State) (h : CtxH) (r : RunSt) : RunSt :=
  let e := h.entry0
  let rt := h.bind.routine
  let c1 := s.trailByte e 1
  let off := rt == 0x11 && c1 % 4 == 0
  let monitor := rt == 0x11 && c1 % 4 != 2
  let (r1, biae) := biaeCrit h (r.anew 0)
  let (r2, tim) := if off then (r1, some false) else s.timCrit h r1
  let recs := trailRecs rt (s.layer e) h biae tim
  let r3 := s.stdIntgs e r2 (if off then quietRecs recs else recs)
  let dx (k : Nat) : Bool := s.stdDx e k r3
  let act := dx (timRec rt) && !bit c1 4
  let ais := rt != 0x01 && dx 0
  let loss := rt != 0x01 && (dx 1 || dx 2) || rt == 0x11 && dx 3
  let tsf := ais || loss || act || (!off && hwTsf (h.wb 0x94))
  let anyTsf := tsf || (!off && hwTsf (h.wb 0x95)) || bit (s.trailByte e 0x89) 2
  let (r4, deg) := s.degCrit h r3 anyTsf
  let r5 := s.stdIntg e r4 ⟨degRec rt, 8, if off then some false else deg⟩
  let ctl := b2n ((loss || act) && !monitor) + 2 * b2n ((ais || loss || act) && !monitor) + 4 * b2n tsf + 8 * b2n (s.stdDx e (degRec rt) r5)
  let r6 := (r5.tabPut e 0xA0 1 ctl).tabPut e 0xA1 1 0x0F
  let bdiAny := decide (128 ≤ h.wb 0x98) || decide (h.wb 0x98 % 128 < min 127 (h.wle 0x80 2))
  let r7 := if off then r6 else s.stdPm e r6 [(0, h.wle 0x88 4), (1, b2n anyTsf), (2, h.wle 0x90 4), (3, b2n bdiAny)]
  if rt = 0x01 then s.iaeRun h r7
  else if rt ≠ 0x11 ∧ (s.entryKey e).any (fun k => decide (k < 256) || s.originates k) then r7.ohPut 0x2B 1
  else r7

/-! ### OPU_PSI (R158; 06 R181) -/

/-- The scratch of PSI byte m: its latest value and how often it has come in a row. -/
def scPsi (m : Nat) : Nat := 0x100 + 2 * m
/-- The scratch of MSI entry j: the accepted value, and whether there is one. -/
def scMsi (j : Nat) : Nat := 0x300 + 4 * j
/-- One frame's PSI byte is seen; the entry it belongs to is accepted when its bytes have been identical over 3 multiframes. -/
def psiSeen (h : CtxH) (w n : Nat) (r : RunSt) (x : Nat × Nat) : RunSt :=
  let (m, v) := x
  if m < 2 ∨ 2 + w * n ≤ m then r else
  let c := if scGet h r (scPsi m + 1) 1 ≠ 0 ∧ scGet h r (scPsi m) 1 = v then sat 255 (scGet h r (scPsi m + 1) 1 + 1) else 1
  let r1 := (r.scPut (scPsi m) 1 v).scPut (scPsi m + 1) 1 c
  let j := (m - 2) / w
  let lo := 2 + w * j
  if (List.range w).all fun k => decide (3 ≤ scGet h r1 (scPsi (lo + k) + 1) 1) then
    (r1.scPut (scMsi j) 2 ((List.range w).foldl (fun a k => a * 256 + scGet h r1 (scPsi (lo + k)) 1) 0)).scPut (scMsi j + 2) 1 1
  else r1
/-- An entry is not compared: its COMPARE_DIS is set (06 R181). -/
def msiSkips (h : CtxH) (j : Nat) : Bool := bit (h.bind.param.getD (67 + 2 * j) 0).toNat 7
/-- An accepted entry differs from the expected one, COMPARE_DIS clear (06 R181). -/
def msiDiffers (h : CtxH) (r : RunSt) (j : Nat) : Bool :=
  let exp := (h.bind.param.getD (66 + 2 * j) 0).toNat + 256 * (h.bind.param.getD (67 + 2 * j) 0).toNat
  !bit exp 15 && scGet h r (scMsi j + 2) 1 == 1 && scGet h r (scMsi j) 2 % 32768 != exp % 32768
/-- A run of OPU_PSI: dPLM; dMSIM of an OPU with tributary slots, or dCSF of one with a client mapping (Table OVH-6); and aSSF (Table OVH-7).
dMSIM is absent once every entry compared has been accepted and none differs. The byte layout of the MSI is G.709's. (PRESUMED, log entry 131) -/
def State.psiRun (s : State) (h : CtxH) (r : RunSt) : RunSt :=
  let e := h.entry0
  let n := (h.bind.param.getD 65 0).toNat
  let w := if s.layer e = 3 then 2 else 1
  let r0 := r.anew n
  let r1 := if 3 ≤ h.wb 0x9D then (r0.scPut scPt 1 (h.wb 0x9C)).flag h 1 else r0
  let plm := if bit (scGet h r1 scFlags 1) 1 then some (scGet h r1 scPt 1 != (h.bind.param.getD 64 0).toNat) else none
  let seen := (if 2 ≤ h.wle 0x80 2 then [(h.wb 0x46, h.wb 0x7E)] else []) ++ [(h.wb 0x06, h.wb 0x3E)]
  let r2 := seen.foldl (psiSeen h w n) r1
  let msim := if (List.range n).any (msiDiffers h r2) then some true
    else if (List.range n).all fun j => msiSkips h j || scGet h r2 (scMsi j + 2) 1 == 1 then some false else none
  let csf := if s.layer e = 3 ∨ n ≠ 0 then some false else runCrit (h.wb 0x9E) 3
  let r3 := s.stdIntgs e r2 [⟨6, 9, plm⟩, ⟨7, 10, msim⟩, ⟨8, 11, csf⟩]
  (r3.tabPut e 0xA0 1 (16 * b2n (s.stdDx e 6 r3 || s.stdDx e 7 r3))).tabPut e 0xA1 1 0x10

/-! ### GCC_TAP -/

/-- A run of GCC_TAP: the spec gives neither its parameters nor when it pushes; each run pushes an item, or a packet of one word where its
queue carries packets, or nothing, as a free value decides. (DESIGN CHOICE, log entry 133) -/
def State.gccRun (s : State) (h : CtxH) (r : RunSt) : State × RunSt :=
  match h.bind.qs.find? fun q => bit q.2 0 with
  | none => (s, r)
  | some (q, _) =>
    let (s1, go) := s.fresh 1
    if go = 0 then (s1, r) else
    let (s2, v) := s1.fresh 256
    let (s3, n) := s2.fresh 5
    let d : Item256 := BitVec.ofNat 256 v
    (s3, { r with acts := r.acts ++ [if (s.q q).mode = 2 then .pktBegin q (n + 1) d else .push q d] })

/-! ### APS_LIN (10 R302 to R316) -/

/-- The rank of an accepted APS/PCC request, and the signal it asks for (Table PRT-3; G.873.1). (PRESUMED, log entry 134) -/
def farRank (b1 b2 : Nat) : Nat :=
  let w := b2 != 0
  match b1 / 16 with
  | 0xF => 11
  | 0xE => 9
  | 0xC => if w then 8 else 10
  | 0xA => if w then 6 else 7
  | 0x8 => 5
  | 0x6 => 4
  | 0x4 => 3
  | 0x2 => 2
  | 0x1 => 1
  | _ => 0
/-- The request code of a rank. (PRESUMED, log entry 134) -/
def apsCode (rank : Nat) : Nat :=
  match rank with
  | 11 => 0xF
  | 9 => 0xE
  | 10 | 8 => 0xC
  | 7 | 6 => 0xA
  | 5 => 0x8
  | 4 => 0x6
  | 3 => 0x4
  | 2 => 0x2
  | 1 => 0x1
  | _ => 0
/-- The APS/PCC channel as a run takes it (R304): the latest reception, and the accepted value. -/
structure ApsRx where
  last : Nat
  have_ : Bool
  acc : Nat
  ok : Bool
  deriving DecidableEq, Repr
/-- The reception of a release (R304): disregarded with APS_EN clear, in a frame with a hardware signal fail (07 R224), or with dAIS on P. -/
def State.apsReceive (s : State) (h : CtxH) (r : RunSt) : ApsRx :=
  let old : ApsRx := ⟨scGet h r 0x60 4, bit (scGet h r scFlags 1) 3, scGet h r 0x64 4, bit (scGet h r scFlags 1) 4⟩
  let v := h.wle 0x34 4
  if ¬ bit (h.apsByte 64) 6 then { old with have_ := false, ok := false }
  else if hwTsf (h.wb 0x94) ∨ s.trailByte h.entry0 0x88 &&& 0x27 ≠ 0 ∨ s.hwSf (s.instanceOf h.entry0) ∨ bit (s.trailGet h.entry0 0x80 4) 0 then old
  else if old.have_ ∧ old.last = v then { old with acc := v, ok := true }
  else { old with last := v, have_ := true }
/-- The local requests of Table PRT-3 that a group's paths make, each with the path it selects, in the order SF-P, SF-W, SD-P, SD-W. -/
def apsKinds : List (Nat × Bool) := [(10, false), (8, true), (7, false), (6, true)]
/-- A decision of APS_LIN: the ranks of the winning and of this end's request, the path selected, the path that this end's request asks for,
and the timer. -/
structure ApsOut where
  rank : Nat
  own : Nat
  sel : Bool
  ownSel : Bool
  timer : Nat
  deriving DecidableEq, Repr
/-- The decision of a release: `loc` the local request of Table PRT-3 with the path it selects (none: no change), `far` the rank and signal
of the accepted far-end request, none in a unidirectional group; `left` and `full` the nanoseconds that WTR has left and begins with. WTR and DNR
follow SF-W and SD-W, once both ends are without (R315); a far end's request of higher rank wins, of equal rank the local one. (DEDUCED, log entry
69; PRESUMED, log entry 134) -/
def apsPick (revert : Bool) (was wasTimer : Nat) (sel : Bool) (left full : Nat) (loc : Nat × Option Bool) (far : Nat × Bool) : ApsOut :=
  let because := sel && (was == 8 || was == 6)
  let stands := far.1 == 8 || far.1 == 6
  let wtr := revert && sel && !stands && ((because && loc.1 < 6) || wasTimer == 2)
  let own : Nat × Option Bool := if 4 < loc.1 then loc
    else if wtr && (if wasTimer = 2 then left else full) != 0 then (4, some true)
    else if loc.1 = 3 then loc
    else if ¬ revert ∧ sel ∧ ¬ stands then (1, some true)
    else (0, some false)
  let win := if own.1 < far.1 then (far.1, if far.1 = 3 then none else some far.2) else own
  { rank := win.1, own := own.1, sel := win.2.getD sel, ownSel := own.2.getD sel, timer := if own.1 = 4 ∧ win.1 = 4 then 2 else 0 }
/-- The bridge of a 1:1 group (R308): in a bidirectional one as the winning request selects; in a unidirectional one as the far end asks,
unless this end's request outranks it and calls for the working path. -/
def apsBridge (arch : Nat) (o : ApsOut) (far : Nat × Bool) : Bool :=
  if arch = 3 then o.sel else decide (arch = 2) && far.2 && !(decide (far.1 < o.own) && !o.ownSel)
/-- The request and signal that this end sends (R302): its own, or, in place of none or of a state of its own that the far end outranks, RR with the
signal that the far end asks for. (PRESUMED, log entry 134) -/
def apsSent (o : ApsOut) : Nat × Bool :=
  if o.own < o.rank ∧ (o.own = 0 ∨ o.own = 1 ∨ o.own = 4) then (2, o.sel) else (o.own, o.ownSel)
/-- A run of APS_LIN. (DEDUCED, log entry 69; PRESUMED, log entry 134) -/
def State.apsRun (s : State) (h : CtxH) (r : RunSt) : RunSt :=
  let p := h.slotEntry 0
  let w := h.slotEntry 1
  let b64 := h.apsByte 64
  let arch := b64 % 4
  let bidir := bit arch 0
  let now := (sdtsn r.rel).toNat
  let b0 := s.trailByte p 0xF0
  let ext := s.trailByte p 0x36 % 8
  -- local requests and their hold-off (R309, R310, R314)
  let have_ := s.apsPresent h (r.g3bit 0)
  let starts := (List.range 4).map fun j => if have_.getD j false then (if scGet h r (apsStart j) 8 = 0 then now + 1 else scGet h r (apsStart j) 8) else 0
  let hold := 100000000 * (h.apsByte 65 % 128)
  let ended (x : Nat) : Bool := x != 0 && decide (x - 1 + hold ≤ now)
  let taken := (apsKinds.zip starts).filter fun x => ended x.2
  let waiting := starts.filter fun x => x != 0 && !ended x
  let loc := taken.foldl (fun (m : Nat × Option Bool) x => if m.1 < x.1.1 then (x.1.1, some x.1.2) else m) (extRank ext)
  -- the far end (R302, R304)
  let rx := s.apsReceive h r
  let a1 := rx.acc % 256
  let a2 := rx.acc / 256 % 256
  let a3 := rx.acc / 65536 % 256
  let frank := if rx.ok then farRank a1 a2 else 0
  let far := (frank, rx.ok && a2 != 0 && decide (frank < 10))
  -- the decision (R308, R311, R315)
  let t0 := bits (s.trailByte p 0xF2) 3 2
  let full := (h.apsByte 66 % 16) * 60000000000
  let ends := scGet h r apsEndAt 8
  let o := apsPick (bit b64 2) (b0 / 16) t0 (bit b0 0) (ends - now) full loc (if bidir then far else (0, false))
  let bridge := apsBridge arch o far
  let timer := if o.timer = 2 then 2 else if waiting = [] then 0 else 1
  let first := waiting.foldl min (waiting.headD 0)
  let endAt := if o.timer = 2 then (if t0 = 2 then ends else now + full) else if waiting = [] then 0 else first - 1 + hold
  let leftUs := (endAt - now + 999) / 1000
  -- the channel sent (R302 to R304)
  let ask := apsSent o
  let cfg := 8 * b2n (bit b64 6) + 4 * b2n (decide (2 ≤ arch)) + 2 * b2n bidir + b2n (bit b64 2)
  let tx := if bit b64 6 then [apsCode ask.1 * 16 + cfg, b2n ask.2, b2n (bridge || (decide (arch < 2) && rx.ok && a2 != 0)), 0] else [0, 0, 0, 0]
  -- failure of protocol (R305)
  let f1 := s.trailByte p 0xF1
  let pm := if rx.ok then decide (bits a1 1 3 ≠ bits cfg 1 3) else bit f1 4
  let differs := decide (arch ≠ 0) && rx.ok && (a3 != 0) != ask.2
  let since := if differs then (if scGet h r apsFop 8 = 0 then now + 1 else scGet h r apsFop 8) else 0
  let nr := if differs then bit f1 5 || decide (since - 1 + 50000000 ≤ now) else bit f1 5 && !rx.ok
  let ev (on was : Bool) (c : Nat) : List EvRec :=
    if on = was then [] else [⟨r.rel, if on then 2 else 4, if on then c else c + 1, s.instanceOf p, s.instanceOf w⟩]
  let psc := if o.sel = bit b0 0 then [] else [(4, 1)]
  -- state bytes and scratch (Table PRT-4)
  let r1 := ((r.tabPut p 0xF0 1 (b2n o.sel + 2 * b2n bridge + 16 * o.rank)).tabPut p 0xF1 1 (frank + 16 * b2n pm + 32 * b2n nr)).tabPut p 0xF2 2
    (ext + 8 * timer)
  let r2 := ((r1.tabPut p 0xF4 4 leftUs).tabPut p 0xF8 4 (s.trailGet w 0x8C 4)).tabPut p 0xFC 4 (s.trailGet p 0x8C 4)
  let r3 := (starts.zipIdx.foldl (fun (z : RunSt) x => z.scPut (apsStart x.2) 8 x.1) r2).scPut apsFop 8 since
  let r4 := (((r3.scPut 0x60 4 rx.last).scPut 0x64 4 rx.acc).scPut scFlags 1 (setBits (setBits (scGet h r3 scFlags 1) 3 1 (b2n rx.have_)) 4 1
    (b2n rx.ok))).scPut apsEndAt 8 endAt
  let r5 := tx.zipIdx.foldl (fun (z : RunSt) x => z.ohPut (0x34 + x.2) x.1) r4
  s.stdPm p { r5 with evs := r5.evs ++ ev pm (bit f1 4) 0x5801 ++ ev nr (bit f1 5) 0x5803 } psc

/-! ### A run of a standard routine, and COMMIT -/

/-- What a run of standard routine `h.bind.routine` stages. -/
def State.stdRun (s : State) (h : CtxH) (r : RunSt) : State × RunSt :=
  match h.bind.routine with
  | 0x03 => (s, s.psiRun h r)
  | 0x20 => (s, s.apsRun h r)
  | 0x30 => s.gccRun h r
  | _ => (s, s.trailRun h r)
/-- The first INTG record of a standard routine, whose STEP on an entry bound with role 0 traps (20 R578). -/
def stdFirst (routine : Nat) : Option Nat := if routine = 0x20 ∨ routine = 0x30 then none else some (if routine = 0x03 then 6 else 0)
/-- The steps of a standard routine's whole run: dispatch and COMMIT with some number between, at most its WCSC. (DESIGN CHOICE, log entry
133) -/
def stdSteps (wcsc v : Nat) : Nat := 14 + v % (wcsc - 13)

/-- The action of COMMIT (03 R79, R83, R311; 20 R588): the run publishes if both halves' COMMITs come before the next release;
`t1` is the other half's. -/
def commitAct (t t1 c : Nat) (s : State) (h : CtxH) (r : RunSt) : State :=
  let late := decide (h.nextRel ≤ t ∨ h.nextRel ≤ t1)
  if late then
    let s1 := (s.setCx c { h with run := some r }).discard t c
    s1.setCx c { s1.cx c with late := sat 0xFFFF (h.late + 1), halfLate := true }
  else (s.publish (max t t1) c r).apsCommit r.rel (max t t1) c

/-- COMMIT (R79): context c reaches COMMIT at t in one half and at t1 in the other. A standard routine's run is this one step. -/
def commitEffect (t c : Nat) (w : JWord) (t1 : Nat) (s : State) : State :=
  match s.running t c with
  | none => s
  | some r =>
    let h := s.cx c
    match stdRow h.bind.routine with
    | some x =>
      if x.intg && (h.bind.tt.headD (0, 0)).2 == 0 then s.trap t c 0x05 ((stdFirst h.bind.routine).elim 0xF0 intgOfs)
      else
        let (s1, v) := s.fresh 16
        let (s2, r1) := s1.stdRun h r
        commitAct t t1 c s2 h { r1 with steps := stdSteps h.bind.wcsc v }
    | none =>
      if ¬ atWord h r .commit w then s
      else if h.bind.wcsc < r.steps + JOp.commit.cost then s.trap t c 0x0A r.pc
      else commitAct t t1 c s h { r with steps := r.steps + JOp.commit.cost }

/-- COMMIT (R79). -/
def execCommit (t c : Nat) (w : JWord) (t1 : Nat) : State → Host.Outcome State Fault Refusal := event t (commitEffect t c w t1)

end Sys2Proof.Machine
end

