-- ==== Sys2Proof/Machine/Dispatch.lean ====
section
/-! DEFINITION. Every command to its meaning. -/
namespace Sys2Proof.Machine
open Sys2Proof

/-- The effect of a command on everything but the queue. -/
def exec (i : Instr) (s : State) : Host.Outcome State Fault Refusal :=
  match i with
  | .registerWrite t a v => Sys2Proof.Machine.execRegisterWrite t a v s
  | .statusWrite t a v => Sys2Proof.Machine.execStatusWrite t a v s
  | .rcFieldRead t a => Sys2Proof.Machine.execRcFieldRead t a s
  | .counterLowerWordRead t a => Sys2Proof.Machine.execCounterLowerWordRead t a s
  | .bar2Read t a => Sys2Proof.Machine.execBar2Read t a s
  | .edgeFifoWrite t port k => Sys2Proof.Machine.execEdgeFifoWrite t port k s
  | .edgeFifoRead t port key => Sys2Proof.Machine.execEdgeFifoRead t port key s
  | .tokenTransfer t x => Sys2Proof.Machine.execTokenTransfer t x s
  | .paceGateEnd t a r0 x0 r1 x1 => Sys2Proof.Machine.execPaceGateEnd t a r0 x0 r1 x1 s
  | .shedRestore t a d => Sys2Proof.Machine.execShedRestore t a d s
  | .calibration t a h codes margin => Sys2Proof.Machine.execCalibration t a h codes margin s
  | .delayCodeApply t a h d k => Sys2Proof.Machine.execDelayCodeApply t a h d k s
  | .calStale t a h => Sys2Proof.Machine.execCalStale t a h s
  | .calAbsent t a h => Sys2Proof.Machine.execCalAbsent t a h s
  | .medianCompare t x => Sys2Proof.Machine.execMedianCompare t x s
  | .stallTimeout t a d => Sys2Proof.Machine.execStallTimeout t a d s
  | .selfError t a h => Sys2Proof.Machine.execSelfError t a h s
  | .spareRelease t sl ok0 ok1 => Sys2Proof.Machine.execSpareRelease t sl ok0 ok1 s
  | .fenceFillEnd t d idx => Sys2Proof.Machine.execFenceFillEnd t d idx s
  | .avenueRepairComplete t a ok0 ok1 => Sys2Proof.Machine.execAvenueRepairComplete t a ok0 ok1 s
  | .checkpointSeal t => Sys2Proof.Machine.execCheckpointSeal t s
  | .engineDispatch t e => Sys2Proof.Machine.execEngineDispatch t e s
  | .contextRelease t c per next => Sys2Proof.Machine.execContextRelease t c per next s
  | .stallResume t c => Sys2Proof.Machine.execStallResume t c s
  | .add t c w => Sys2Proof.Machine.execAdd t c w s
  | .sub t c w => Sys2Proof.Machine.execSub t c w s
  | .and t c w => Sys2Proof.Machine.execAnd t c w s
  | .or t c w => Sys2Proof.Machine.execOr t c w s
  | .xor t c w => Sys2Proof.Machine.execXor t c w s
  | .shl t c w => Sys2Proof.Machine.execShl t c w s
  | .shr t c w => Sys2Proof.Machine.execShr t c w s
  | .sar t c w => Sys2Proof.Machine.execSar t c w s
  | .mul t c w => Sys2Proof.Machine.execMul t c w s
  | .minu t c w => Sys2Proof.Machine.execMinu t c w s
  | .maxu t c w => Sys2Proof.Machine.execMaxu t c w s
  | .addsu t c w => Sys2Proof.Machine.execAddsu t c w s
  | .subsu t c w => Sys2Proof.Machine.execSubsu t c w s
  | .mov t c w => Sys2Proof.Machine.execMov t c w s
  | .not t c w => Sys2Proof.Machine.execNot t c w s
  | .popc t c w => Sys2Proof.Machine.execPopc t c w s
  | .clz t c w => Sys2Proof.Machine.execClz t c w s
  | .bswap t c w => Sys2Proof.Machine.execBswap t c w s
  | .ldih t c w => Sys2Proof.Machine.execLdih t c w s
  | .bext t c w => Sys2Proof.Machine.execBext t c w s
  | .bins t c w => Sys2Proof.Machine.execBins t c w s
  | .cmp t c w => Sys2Proof.Machine.execCmp t c w s
  | .pand t c w => Sys2Proof.Machine.execPand t c w s
  | .por t c w => Sys2Proof.Machine.execPor t c w s
  | .pxor t c w => Sys2Proof.Machine.execPxor t c w s
  | .pandn t c w => Sys2Proof.Machine.execPandn t c w s
  | .pset t c w => Sys2Proof.Machine.execPset t c w s
  | .prdv t c w => Sys2Proof.Machine.execPrdv t c w s
  | .pwrv t c w => Sys2Proof.Machine.execPwrv t c w s
  | .br t c w => Sys2Proof.Machine.execBr t c w s
  | .call t c w => Sys2Proof.Machine.execCall t c w s
  | .ret t c w => Sys2Proof.Machine.execRet t c w s
  | .lset t c w => Sys2Proof.Machine.execLset t c w s
  | .loop t c w => Sys2Proof.Machine.execLoop t c w s
  | .ld t c w => Sys2Proof.Machine.execLd t c w s
  | .st t c w => Sys2Proof.Machine.execSt t c w s
  | .prm t c w => Sys2Proof.Machine.execPrm t c w s
  | .tld t c w => Sys2Proof.Machine.execTld t c w s
  | .tst t c w => Sys2Proof.Machine.execTst t c w s
  | .ohr t c w => Sys2Proof.Machine.execOhr t c w s
  | .ohw t c w => Sys2Proof.Machine.execOhw t c w s
  | .intgStep t c w => Sys2Proof.Machine.execIntgStep t c w s
  | .intgSeed t c w => Sys2Proof.Machine.execIntgSeed t c w s
  | .pmadd t c w => Sys2Proof.Machine.execPmadd t c w s
  | .push t c w => Sys2Proof.Machine.execPush t c w s
  | .pop t c w => Sys2Proof.Machine.execPop t c w s
  | .pktb t c w => Sys2Proof.Machine.execPktb t c w s
  | .pktc t c w => Sys2Proof.Machine.execPktc t c w s
  | .pkta t c w => Sys2Proof.Machine.execPkta t c w s
  | .qlen t c w => Sys2Proof.Machine.execQlen t c w s
  | .evt t c w => Sys2Proof.Machine.execEvt t c w s
  | .tset t c w => Sys2Proof.Machine.execTset t c w s
  | .ttst t c w => Sys2Proof.Machine.execTtst t c w s
  | .tclr t c w => Sys2Proof.Machine.execTclr t c w s
  | .trd t c w => Sys2Proof.Machine.execTrd t c w s
  | .srd t c w => Sys2Proof.Machine.execSrd t c w s
  | .commit t c w t1 => Sys2Proof.Machine.execCommit t c w t1 s
  | .waitItem t c w => Sys2Proof.Machine.execWaitItem t c w s
  | .waitRoom t c w => Sys2Proof.Machine.execWaitRoom t c w s
  | .nop t c w => Sys2Proof.Machine.execNop t c w s
  | .illegalInstruction t c => Sys2Proof.Machine.execIllegalInstruction t c s
  | .signalDetectChange t l on => Sys2Proof.Machine.execSignalDetectChange t l on s
  | .cdrLockChange t l on => Sys2Proof.Machine.execCdrLockChange t l on s
  | .losDeclare t idx => Sys2Proof.Machine.execLosDeclare t idx s
  | .losClear t idx => Sys2Proof.Machine.execLosClear t idx s
  | .alignmentMarker t idx lane num errs spaced mfas => Sys2Proof.Machine.execAlignmentMarker t idx lane num errs spaced mfas s
  | .fecCodeword t idx syms nbits uncorr => Sys2Proof.Machine.execFecCodeword t idx syms nbits uncorr s
  | .fecDegWindow t idx => Sys2Proof.Machine.execFecDegWindow t idx s
  | .groupFormation t g => Sys2Proof.Machine.execGroupFormation t g s
  | .groupFailClear t g => Sys2Proof.Machine.execGroupFailClear t g s
  | .groupReform t g => Sys2Proof.Machine.execGroupReform t g s
  | .prbsLock t l => Sys2Proof.Machine.execPrbsLock t l s
  | .prbsLossOfLock t l errs => Sys2Proof.Machine.execPrbsLossOfLock t l errs s
  | .linLanePrbsCfgWrite t a v => Sys2Proof.Machine.execLinLanePrbsCfgWrite t a v s
  | .candidateSighting t k b hit mfas => Sys2Proof.Machine.execCandidateSighting t k b hit mfas s
  | .frameCheck t k err mfas omfi => Sys2Proof.Machine.execFrameCheck t k err mfas omfi s
  | .dlofDeclare t k => Sys2Proof.Machine.execDlofDeclare t k s
  | .dlofClear t k => Sys2Proof.Machine.execDlofClear t k s
  | .dlomDeclare t k => Sys2Proof.Machine.execDlomDeclare t k s
  | .dlomClear t k => Sys2Proof.Machine.execDlomClear t k s
  | .dloomfiDeclare t k => Sys2Proof.Machine.execDloomfiDeclare t k s
  | .dloomfiClear t k => Sys2Proof.Machine.execDloomfiClear t k s
  | .frameReceived t f => Sys2Proof.Machine.execFrameReceived t f s
  | .insertionPoint t k src bip => Sys2Proof.Machine.execInsertionPoint t k src bip s
  | .fastPathAisEnd t idx => Sys2Proof.Machine.execFastPathAisEnd t idx s
  | .gmpPeriodRx t idx cm scnd crc8 crc5 slip => Sys2Proof.Machine.execGmpPeriodRx t idx cm scnd crc8 crc5 slip s
  | .gmpUnlockDeclare t idx => Sys2Proof.Machine.execGmpUnlockDeclare t idx s
  | .gmpUnlockClear t idx => Sys2Proof.Machine.execGmpUnlockClear t idx s
  | .gmpPeriodTx t idx src => Sys2Proof.Machine.execGmpPeriodTx t idx src s
  | .msiChange t idx => Sys2Proof.Machine.execMsiChange t idx s
  | .clientSignalFail t idx => Sys2Proof.Machine.execClientSignalFail t idx s
  | .csfClear t idx => Sys2Proof.Machine.execCsfClear t idx s
  | .rateWindow t idx ppb => Sys2Proof.Machine.execRateWindow t idx ppb s
  | .cnClampRateOor t idx => Sys2Proof.Machine.execCnClampRateOor t idx s
  | .flowStarved t idx => Sys2Proof.Machine.execFlowStarved t idx s
  | .epochInstant t => Sys2Proof.Machine.execEpochInstant t s
  | .connectionChangeApply t d idx => Sys2Proof.Machine.execConnectionChangeApply t d idx s
  | .moveInstall t m => Sys2Proof.Machine.execMoveInstall t m s
  | .moveCutover t m => Sys2Proof.Machine.execMoveCutover t m s
  | .moveRetire t m => Sys2Proof.Machine.execMoveRetire t m s
  | .moveAbort t m => Sys2Proof.Machine.execMoveAbort t m s
  | .selectionChange t idx => Sys2Proof.Machine.execSelectionChange t idx s
  | .mapScrub t corr uncorr => Sys2Proof.Machine.execMapScrub t corr uncorr s
  | .aonFault t => Sys2Proof.Machine.execAonFault t s
  | .linkFecLock t l corr => Sys2Proof.Machine.execLinkFecLock t l corr s
  | .linkFecLockLoss t l n => Sys2Proof.Machine.execLinkFecLockLoss t l n s
  | .linkDelineated t l => Sys2Proof.Machine.execLinkDelineated t l s
  | .delineationLoss t l => Sys2Proof.Machine.execDelineationLoss t l s
  | .cellTimeout t l => Sys2Proof.Machine.execCellTimeout t l s
  | .peerRxDown t l => Sys2Proof.Machine.execPeerRxDown t l s
  | .negTimeout t l => Sys2Proof.Machine.execNegTimeout t l s
  | .holddownEnd t l => Sys2Proof.Machine.execHolddownEnd t l s
  | .cellReceived t l corr uncorr c => Sys2Proof.Machine.execCellReceived t l corr uncorr c s
  | .offsetEstimate t l p => Sys2Proof.Machine.execOffsetEstimate t l p s
  | .timeCellStale t l p => Sys2Proof.Machine.execTimeCellStale t l p s
  | .cellSend t l x => Sys2Proof.Machine.execCellSend t l x s
  | .timeCellSend t l p => Sys2Proof.Machine.execTimeCellSend t l p s
  | .linkStateSend t l => Sys2Proof.Machine.execLinkStateSend t l s
  | .negotiationCellSend t l => Sys2Proof.Machine.execNegotiationCellSend t l s
  | .drainEnd t l => Sys2Proof.Machine.execDrainEnd t l s
  | .cellPlayout t idx => Sys2Proof.Machine.execCellPlayout t idx s
  | .underpassRead t page unit burst res onDie u => Sys2Proof.Machine.execUnderpassRead t page unit burst res onDie u s
  | .underpassWrite t page unit burst b => Sys2Proof.Machine.execUnderpassWrite t page unit burst b s
  | .pageRetire t page bad => Sys2Proof.Machine.execPageRetire t page bad s
  | .pcFail t k cause => Sys2Proof.Machine.execPcFail t k cause s
  | .serviceWindow t pc demand => Sys2Proof.Machine.execServiceWindow t pc demand s
  | .holdoffExpiry t c => Sys2Proof.Machine.execHoldoffExpiry t c s
  | .wtrExpiry t c => Sys2Proof.Machine.execWtrExpiry t c s
  | .fopNrDeclare t c since => Sys2Proof.Machine.execFopNrDeclare t c since s
  | .selectorFrameArrival t d x p f => Sys2Proof.Machine.execSelectorFrameArrival t d x p f s
  | .descriptorComplete t d x p => Sys2Proof.Machine.execDescriptorComplete t d x p s
  | .pairLock t d x => Sys2Proof.Machine.execPairLock t d x s
  | .pairLoseAlignment t d x => Sys2Proof.Machine.execPairLoseAlignment t d x s
  | .pairBeyond t d x p => Sys2Proof.Machine.execPairBeyond t d x p s
  | .pairReturnLocked t d x => Sys2Proof.Machine.execPairReturnLocked t d x s
  | .pairIdle t d x => Sys2Proof.Machine.execPairIdle t d x s
  | .selectorOutput t d x => Sys2Proof.Machine.execSelectorOutput t d x s
  | .activityWindow t r edges => Sys2Proof.Machine.execActivityWindow t r edges s
  | .frequencyGate t r ofs => Sys2Proof.Machine.execFrequencyGate t r ofs s
  | .referenceDisqualify t r => Sys2Proof.Machine.execReferenceDisqualify t r s
  | .referenceQualifying t r => Sys2Proof.Machine.execReferenceQualifying t r s
  | .referenceQualified t r => Sys2Proof.Machine.execReferenceQualified t r s
  | .driftEvaluation t => Sys2Proof.Machine.execDriftEvaluation t s
  | .dpllNarrow t d ph => Sys2Proof.Machine.execDpllNarrow t d ph s
  | .dpllLock t d ph => Sys2Proof.Machine.execDpllLock t d ph s
  | .dpllPhaseLost t d ph => Sys2Proof.Machine.execDpllPhaseLost t d ph s
  | .ocxoLost t => Sys2Proof.Machine.execOcxoLost t s
  | .ppsEdge t => Sys2Proof.Machine.execPpsEdge t s
  | .todMessage t b edge => Sys2Proof.Machine.execTodMessage t b edge s
  | .dp1HostHoldover t => Sys2Proof.Machine.execDp1HostHoldover t s
  | .timDp1AdjFreqWrite t w => Sys2Proof.Machine.execTimDp1AdjFreqWrite t w s
  | .timDp1AdjPhaseWrite t w => Sys2Proof.Machine.execTimDp1AdjPhaseWrite t w s
  | .timDtsSnapWrite t w => Sys2Proof.Machine.execTimDtsSnapWrite t w s
  | .timLrefMapWrite t a v => Sys2Proof.Machine.execTimLrefMapWrite t a v s
  | .hardwarePush t q p => Sys2Proof.Machine.execHardwarePush t q p s
  | .xoffMinHoldEnd t pin => Sys2Proof.Machine.execXoffMinHoldEnd t pin s
  | .popSlotRead t a coin => Sys2Proof.Machine.execPopSlotRead t a coin s
  | .hostStallEnd t slot => Sys2Proof.Machine.execHostStallEnd t slot s
  | .pushSlotWrite t a d => Sys2Proof.Machine.execPushSlotWrite t a d s
  | .ssFrameReceived t p f => Sys2Proof.Machine.execSsFrameReceived t p f s
  | .ssFrameSend t p => Sys2Proof.Machine.execSsFrameSend t p s
  | .ssBatchTimeout t p q => Sys2Proof.Machine.execSsBatchTimeout t p q s
  | .ssBlockLockChange t p lock => Sys2Proof.Machine.execSsBlockLockChange t p lock s
  | .portFrameStart t n early => Sys2Proof.Machine.execPortFrameStart t n early s
  | .portFrameComplete t n occ recs => Sys2Proof.Machine.execPortFrameComplete t n occ recs s
  | .fsMissing t n => Sys2Proof.Machine.execFsMissing t n s
  | .dropRecordAvailable t n mfas arr oh => Sys2Proof.Machine.execDropRecordAvailable t n mfas arr oh s
  | .ratioOorClear t n => Sys2Proof.Machine.execRatioOorClear t n s
  | .ratioWindow t n => Sys2Proof.Machine.execRatioWindow t n s
  | .go t => Sys2Proof.Machine.execGo t s
  | .startInstant t n => Sys2Proof.Machine.execStartInstant t n s
  | .clkLost t n => Sys2Proof.Machine.execClkLost t n s
  | .realign t n => Sys2Proof.Machine.execRealign t n s
  | .oapCfgWrite t a v => Sys2Proof.Machine.execOapCfgWrite t a v s
  | .oapMaskWrite t a v => Sys2Proof.Machine.execOapMaskWrite t a v s
  | .oapSrcWrite t a v => Sys2Proof.Machine.execOapSrcWrite t a v s
  | .pmSecondEnd t => Sys2Proof.Machine.execPmSecondEnd t s
  | .eventLog t => Sys2Proof.Machine.execEventLog t s
  | .logbookMirrorWrite t => Sys2Proof.Machine.execLogbookMirrorWrite t s
  | .mirrorBucketRefill t => Sys2Proof.Machine.execMirrorBucketRefill t s
  | .checkUnitEnd t n l => Sys2Proof.Machine.execCheckUnitEnd t n l s
  | .cvuExpGuardWrite t a v => Sys2Proof.Machine.execCvuExpGuardWrite t a v s
  | .cvuFifoGuardWrite t a v => Sys2Proof.Machine.execCvuFifoGuardWrite t a v s
  | .testGo t n => Sys2Proof.Machine.execTestGo t n s
  | .cvuFifoEmptyCmd t n => Sys2Proof.Machine.execCvuFifoEmptyCmd t n s
  | .cvuCfgWrite t a v => Sys2Proof.Machine.execCvuCfgWrite t a v s
  | .cvuTapWrite t a v => Sys2Proof.Machine.execCvuTapWrite t a v s
  | .leaseRenewal t => Sys2Proof.Machine.execLeaseRenewal t s
  | .leaseLapse t => Sys2Proof.Machine.execLeaseLapse t s
  | .leaseGrant t r0 r1 => Sys2Proof.Machine.execLeaseGrant t r0 r1 s
  | .kioskReloadComplete t ok => Sys2Proof.Machine.execKioskReloadComplete t ok s
  | .foreignWrite t k => Sys2Proof.Machine.execForeignWrite t k s
  | .heartbeatSend t => Sys2Proof.Machine.execHeartbeatSend t s
  | .mateHeartbeatRecord t b => Sys2Proof.Machine.execMateHeartbeatRecord t b s
  | .heartbeatWindow t => Sys2Proof.Machine.execHeartbeatWindow t s
  | .mlpNegotiation t recs theirs => Sys2Proof.Machine.execMlpNegotiation t recs theirs s
  | .renew t inst => Sys2Proof.Machine.execRenew t inst s
  | .release t inst => Sys2Proof.Machine.execRelease t inst s
  | .present t inst => Sys2Proof.Machine.execPresent t inst s
  | .refBad t k => Sys2Proof.Machine.execRefBad t k s
  | .activeLeaseLapse t => Sys2Proof.Machine.execActiveLeaseLapse t s
  | .standbyStale t => Sys2Proof.Machine.execStandbyStale t s
  | .epochCut t => Sys2Proof.Machine.execEpochCut t s
  | .epochReceived t m crcOk complete => Sys2Proof.Machine.execEpochReceived t m crcOk complete s
  | .cmdPiWrite t a v => Sys2Proof.Machine.execCmdPiWrite t a v s
  | .cplCiWrite t a v => Sys2Proof.Machine.execCplCiWrite t a v s
  | .hcqCtlWrite t a v => Sys2Proof.Machine.execHcqCtlWrite t a v s
  | .hcqBaseWrite t a v => Sys2Proof.Machine.execHcqBaseWrite t a v s
  | .sysIrqAckWrite t a v => Sys2Proof.Machine.execSysIrqAckWrite t a v s
  | .hello t d rng => Sys2Proof.Machine.execHello t d rng s
  | .versionRange t d iface link rng => Sys2Proof.Machine.execVersionRange t d iface link rng s
  | .setDevid t d v => Sys2Proof.Machine.execSetDevid t d v s
  | .setTime t d secs force => Sys2Proof.Machine.execSetTime t d secs force s
  | .setTimeEffect t => Sys2Proof.Machine.execSetTimeEffect t s
  | .lineIfCfg t d lif ty dpll slice slot => Sys2Proof.Machine.execLineIfCfg t d lif ty dpll slice slot s
  | .lineGrpCfg t d og base count gid ms slots => Sys2Proof.Machine.execLineGrpCfg t d og base count gid ms slots s
  | .sysPortCfg t d g mode phy plane dpll => Sys2Proof.Machine.execSysPortCfg t d g mode phy plane dpll s
  | .arcLink t d l action => Sys2Proof.Machine.execArcLink t d l action s
  | .oduCfg t d p => Sys2Proof.Machine.execOduCfg t d p s
  | .oduRemove t d idx => Sys2Proof.Machine.execOduRemove t d idx s
  | .oduLck t d idx dir on => Sys2Proof.Machine.execOduLck t d idx dir on s
  | .trailCfg t d e op b => Sys2Proof.Machine.execTrailCfg t d e op b s
  | .pmCfg t d e en fe prof => Sys2Proof.Machine.execPmCfg t d e en fe prof s
  | .connBatch t d count recs resv => Sys2Proof.Machine.execConnBatch t d count recs resv s
  | .move t d kind dir what new => Sys2Proof.Machine.execMove t d kind dir what new s
  | .protCmd t d p code => Sys2Proof.Machine.execProtCmd t d p code s
  | .pairRetime t d dir x anchor => Sys2Proof.Machine.execPairRetime t d dir x anchor s
  | .imageLoad t d f => Sys2Proof.Machine.execImageLoad t d f s
  | .bind t d c b => Sys2Proof.Machine.execBind t d c b s
  | .unbind t d c => Sys2Proof.Machine.execUnbind t d c s
  | .queueCfg t d q mode group cap prod cons sel => Sys2Proof.Machine.execQueueCfg t d q mode group cap prod cons sel s
  | .qgroupCfg t d g cls mb pages => Sys2Proof.Machine.execQgroupCfg t d g cls mb pages s
  | .slotClaim t d kind slot q on => Sys2Proof.Machine.execSlotClaim t d kind slot q on s
  | .oapStart t d => Sys2Proof.Machine.execOapStart t d s
  | .permitTake t d c x => Sys2Proof.Machine.execPermitTake t d c x s
  | .permitRelease t d c x => Sys2Proof.Machine.execPermitRelease t d c x s
  | .telemetryCfg t d set cadence q => Sys2Proof.Machine.execTelemetryCfg t d set cadence q s
  | .pairCfg t d on mate => Sys2Proof.Machine.execPairCfg t d on mate s
  | .reset t d code => Sys2Proof.Machine.execReset t d code s
  | .undefinedOpcode t d op => Sys2Proof.Machine.execUndefinedOpcode t d op s
  | .resetBegin t => Sys2Proof.Machine.execResetBegin t s
  | .scrubPageRead t finds => Sys2Proof.Machine.execScrubPageRead t finds s
  | .sramScrub t corr bad => Sys2Proof.Machine.execSramScrub t corr bad s
  | .thermalSample t l => Sys2Proof.Machine.execThermalSample t l s
  | .thermalTrip t k => Sys2Proof.Machine.execThermalTrip t k s
  | .snapshotWrite t wear ok => Sys2Proof.Machine.execSnapshotWrite t wear ok s
  | .lbClearComplete t => Sys2Proof.Machine.execLbClearComplete t s
  | .rotationInstant t => Sys2Proof.Machine.execRotationInstant t s
  | .rotationRetry t => Sys2Proof.Machine.execRotationRetry t s
  | .telemetryPacket t => Sys2Proof.Machine.execTelemetryPacket t s
  | .domainFault t d cause => Sys2Proof.Machine.execDomainFault t d cause s
  | .domainReturn t d => Sys2Proof.Machine.execDomainReturn t d s
  | .railUndervoltage t => Sys2Proof.Machine.execRailUndervoltage t s
  | .porRelease strap => Sys2Proof.Machine.execPorRelease strap s
  | .startupStageComplete t k f => Sys2Proof.Machine.execStartupStageComplete t k f s
  | .linkReset t => Sys2Proof.Machine.execLinkReset t s
  | .stackRetrainComplete t q => Sys2Proof.Machine.execStackRetrainComplete t q s
  | .conditionedInputTransition t idx level => Sys2Proof.Machine.execConditionedInputTransition t idx level s
  | .stuck t idx => Sys2Proof.Machine.execStuck t idx s
  | .chatterEnd t idx => Sys2Proof.Machine.execChatterEnd t idx s
  | .pwrInCfgWrite t a v => Sys2Proof.Machine.execPwrInCfgWrite t a v s
  | .porNLow t => Sys2Proof.Machine.execPorNLow t s
  | .last1MsExpiry t addr b => Sys2Proof.Machine.execLast1MsExpiry t addr b s

end Sys2Proof.Machine
end

