-- ==== Sys2Proof/Machine/Order.lean ====
section
/-! DEFINITION. The order in which happenings of one DTS enter the queue (01 R44; 11 R350; 17 R514). -/
namespace Sys2Proof.Machine
open Sys2Proof

/-- The DTS of a command; POR_RELEASE comes before the count has begun. -/
def dtsOf (c : Instr) : Option Nat :=
  match c with
  | .registerWrite t _ _ => some t
  | .statusWrite t _ _ => some t
  | .rcFieldRead t _ => some t
  | .counterLowerWordRead t _ => some t
  | .bar2Read t _ => some t
  | .edgeFifoWrite t _ _ => some t
  | .edgeFifoRead t _ _ => some t
  | .tokenTransfer t _ => some t
  | .paceGateEnd t _ _ _ _ _ => some t
  | .shedRestore t _ _ => some t
  | .calibration t _ _ _ _ => some t
  | .delayCodeApply t _ _ _ _ => some t
  | .calStale t _ _ => some t
  | .calAbsent t _ _ => some t
  | .medianCompare t _ => some t
  | .stallTimeout t _ _ => some t
  | .selfError t _ _ => some t
  | .spareRelease t _ _ _ => some t
  | .fenceFillEnd t _ _ => some t
  | .avenueRepairComplete t _ _ _ => some t
  | .checkpointSeal t => some t
  | .engineDispatch t _ => some t
  | .contextRelease t _ _ _ => some t
  | .stallResume t _ => some t
  | .add t _ _ => some t
  | .sub t _ _ => some t
  | .and t _ _ => some t
  | .or t _ _ => some t
  | .xor t _ _ => some t
  | .shl t _ _ => some t
  | .shr t _ _ => some t
  | .sar t _ _ => some t
  | .mul t _ _ => some t
  | .minu t _ _ => some t
  | .maxu t _ _ => some t
  | .addsu t _ _ => some t
  | .subsu t _ _ => some t
  | .mov t _ _ => some t
  | .not t _ _ => some t
  | .popc t _ _ => some t
  | .clz t _ _ => some t
  | .bswap t _ _ => some t
  | .ldih t _ _ => some t
  | .bext t _ _ => some t
  | .bins t _ _ => some t
  | .cmp t _ _ => some t
  | .pand t _ _ => some t
  | .por t _ _ => some t
  | .pxor t _ _ => some t
  | .pandn t _ _ => some t
  | .pset t _ _ => some t
  | .prdv t _ _ => some t
  | .pwrv t _ _ => some t
  | .br t _ _ => some t
  | .call t _ _ => some t
  | .ret t _ _ => some t
  | .lset t _ _ => some t
  | .loop t _ _ => some t
  | .ld t _ _ => some t
  | .st t _ _ => some t
  | .prm t _ _ => some t
  | .tld t _ _ => some t
  | .tst t _ _ => some t
  | .ohr t _ _ => some t
  | .ohw t _ _ => some t
  | .intgStep t _ _ => some t
  | .intgSeed t _ _ => some t
  | .pmadd t _ _ => some t
  | .push t _ _ => some t
  | .pop t _ _ => some t
  | .pktb t _ _ => some t
  | .pktc t _ _ => some t
  | .pkta t _ _ => some t
  | .qlen t _ _ => some t
  | .evt t _ _ => some t
  | .tset t _ _ => some t
  | .ttst t _ _ => some t
  | .tclr t _ _ => some t
  | .trd t _ _ => some t
  | .srd t _ _ => some t
  | .commit t _ _ _ => some t
  | .waitItem t _ _ => some t
  | .waitRoom t _ _ => some t
  | .nop t _ _ => some t
  | .illegalInstruction t _ => some t
  | .signalDetectChange t _ _ => some t
  | .cdrLockChange t _ _ => some t
  | .losDeclare t _ => some t
  | .losClear t _ => some t
  | .alignmentMarker t _ _ _ _ _ _ => some t
  | .fecCodeword t _ _ _ _ => some t
  | .fecDegWindow t _ => some t
  | .groupFormation t _ => some t
  | .groupFailClear t _ => some t
  | .groupReform t _ => some t
  | .prbsLock t _ => some t
  | .prbsLossOfLock t _ _ => some t
  | .linLanePrbsCfgWrite t _ _ => some t
  | .candidateSighting t _ _ _ _ => some t
  | .frameCheck t _ _ _ _ => some t
  | .dlofDeclare t _ => some t
  | .dlofClear t _ => some t
  | .dlomDeclare t _ => some t
  | .dlomClear t _ => some t
  | .dloomfiDeclare t _ => some t
  | .dloomfiClear t _ => some t
  | .frameReceived t _ => some t
  | .insertionPoint t _ _ _ => some t
  | .fastPathAisEnd t _ => some t
  | .gmpPeriodRx t _ _ _ _ _ _ => some t
  | .gmpUnlockDeclare t _ => some t
  | .gmpUnlockClear t _ => some t
  | .gmpPeriodTx t _ _ => some t
  | .msiChange t _ => some t
  | .clientSignalFail t _ => some t
  | .csfClear t _ => some t
  | .rateWindow t _ _ => some t
  | .cnClampRateOor t _ => some t
  | .flowStarved t _ => some t
  | .epochInstant t => some t
  | .connectionChangeApply t _ _ => some t
  | .moveInstall t _ => some t
  | .moveCutover t _ => some t
  | .moveRetire t _ => some t
  | .moveAbort t _ => some t
  | .selectionChange t _ => some t
  | .mapScrub t _ _ => some t
  | .aonFault t => some t
  | .linkFecLock t _ _ => some t
  | .linkFecLockLoss t _ _ => some t
  | .linkDelineated t _ => some t
  | .delineationLoss t _ => some t
  | .cellTimeout t _ => some t
  | .peerRxDown t _ => some t
  | .negTimeout t _ => some t
  | .holddownEnd t _ => some t
  | .cellReceived t _ _ _ _ => some t
  | .offsetEstimate t _ _ => some t
  | .timeCellStale t _ _ => some t
  | .cellSend t _ _ => some t
  | .timeCellSend t _ _ => some t
  | .linkStateSend t _ => some t
  | .negotiationCellSend t _ => some t
  | .drainEnd t _ => some t
  | .cellPlayout t _ => some t
  | .underpassRead t _ _ _ _ _ _ => some t
  | .underpassWrite t _ _ _ _ => some t
  | .pageRetire t _ _ => some t
  | .pcFail t _ _ => some t
  | .serviceWindow t _ _ => some t
  | .holdoffExpiry t _ => some t
  | .wtrExpiry t _ => some t
  | .fopNrDeclare t _ _ => some t
  | .selectorFrameArrival t _ _ _ _ => some t
  | .descriptorComplete t _ _ _ => some t
  | .pairLock t _ _ => some t
  | .pairLoseAlignment t _ _ => some t
  | .pairBeyond t _ _ _ => some t
  | .pairReturnLocked t _ _ => some t
  | .pairIdle t _ _ => some t
  | .selectorOutput t _ _ => some t
  | .activityWindow t _ _ => some t
  | .frequencyGate t _ _ => some t
  | .referenceDisqualify t _ => some t
  | .referenceQualifying t _ => some t
  | .referenceQualified t _ => some t
  | .driftEvaluation t => some t
  | .dpllNarrow t _ _ => some t
  | .dpllLock t _ _ => some t
  | .dpllPhaseLost t _ _ => some t
  | .ocxoLost t => some t
  | .ppsEdge t => some t
  | .todMessage t _ _ => some t
  | .dp1HostHoldover t => some t
  | .timDp1AdjFreqWrite t _ => some t
  | .timDp1AdjPhaseWrite t _ => some t
  | .timDtsSnapWrite t _ => some t
  | .timLrefMapWrite t _ _ => some t
  | .hardwarePush t _ _ => some t
  | .xoffMinHoldEnd t _ => some t
  | .popSlotRead t _ _ => some t
  | .hostStallEnd t _ => some t
  | .pushSlotWrite t _ _ => some t
  | .ssFrameReceived t _ _ => some t
  | .ssFrameSend t _ => some t
  | .ssBatchTimeout t _ _ => some t
  | .ssBlockLockChange t _ _ => some t
  | .portFrameStart t _ _ => some t
  | .portFrameComplete t _ _ _ => some t
  | .fsMissing t _ => some t
  | .dropRecordAvailable t _ _ _ _ => some t
  | .ratioOorClear t _ => some t
  | .ratioWindow t _ => some t
  | .go t => some t
  | .startInstant t _ => some t
  | .clkLost t _ => some t
  | .realign t _ => some t
  | .oapCfgWrite t _ _ => some t
  | .oapMaskWrite t _ _ => some t
  | .oapSrcWrite t _ _ => some t
  | .pmSecondEnd t => some t
  | .eventLog t => some t
  | .logbookMirrorWrite t => some t
  | .mirrorBucketRefill t => some t
  | .checkUnitEnd t _ _ => some t
  | .cvuExpGuardWrite t _ _ => some t
  | .cvuFifoGuardWrite t _ _ => some t
  | .testGo t _ => some t
  | .cvuFifoEmptyCmd t _ => some t
  | .cvuCfgWrite t _ _ => some t
  | .cvuTapWrite t _ _ => some t
  | .leaseRenewal t => some t
  | .leaseLapse t => some t
  | .leaseGrant t _ _ => some t
  | .kioskReloadComplete t _ => some t
  | .foreignWrite t _ => some t
  | .heartbeatSend t => some t
  | .mateHeartbeatRecord t _ => some t
  | .heartbeatWindow t => some t
  | .mlpNegotiation t _ _ => some t
  | .renew t _ => some t
  | .release t _ => some t
  | .present t _ => some t
  | .refBad t _ => some t
  | .activeLeaseLapse t => some t
  | .standbyStale t => some t
  | .epochCut t => some t
  | .epochReceived t _ _ _ => some t
  | .cmdPiWrite t _ _ => some t
  | .cplCiWrite t _ _ => some t
  | .hcqCtlWrite t _ _ => some t
  | .hcqBaseWrite t _ _ => some t
  | .sysIrqAckWrite t _ _ => some t
  | .hello t _ _ => some t
  | .versionRange t _ _ _ _ => some t
  | .setDevid t _ _ => some t
  | .setTime t _ _ _ => some t
  | .setTimeEffect t => some t
  | .lineIfCfg t _ _ _ _ _ _ => some t
  | .lineGrpCfg t _ _ _ _ _ _ _ => some t
  | .sysPortCfg t _ _ _ _ _ _ => some t
  | .arcLink t _ _ _ => some t
  | .oduCfg t _ _ => some t
  | .oduRemove t _ _ => some t
  | .oduLck t _ _ _ _ => some t
  | .trailCfg t _ _ _ _ => some t
  | .pmCfg t _ _ _ _ _ => some t
  | .connBatch t _ _ _ _ => some t
  | .move t _ _ _ _ _ => some t
  | .protCmd t _ _ _ => some t
  | .pairRetime t _ _ _ _ => some t
  | .imageLoad t _ _ => some t
  | .bind t _ _ _ => some t
  | .unbind t _ _ => some t
  | .queueCfg t _ _ _ _ _ _ _ _ => some t
  | .qgroupCfg t _ _ _ _ _ => some t
  | .slotClaim t _ _ _ _ _ => some t
  | .oapStart t _ => some t
  | .permitTake t _ _ _ => some t
  | .permitRelease t _ _ _ => some t
  | .telemetryCfg t _ _ _ _ => some t
  | .pairCfg t _ _ _ => some t
  | .reset t _ _ => some t
  | .undefinedOpcode t _ _ => some t
  | .resetBegin t => some t
  | .scrubPageRead t _ => some t
  | .sramScrub t _ _ => some t
  | .thermalSample t _ => some t
  | .thermalTrip t _ => some t
  | .snapshotWrite t _ _ => some t
  | .lbClearComplete t => some t
  | .rotationInstant t => some t
  | .rotationRetry t => some t
  | .telemetryPacket t => some t
  | .domainFault t _ _ => some t
  | .domainReturn t _ => some t
  | .railUndervoltage t => some t
  | .porRelease _ => none
  | .startupStageComplete t _ _ => some t
  | .linkReset t => some t
  | .stackRetrainComplete t _ => some t
  | .conditionedInputTransition t _ _ => some t
  | .stuck t _ => some t
  | .chatterEnd t _ => some t
  | .pwrInCfgWrite t _ _ => some t
  | .porNLow t => some t
  | .last1MsExpiry t _ _ => some t

/-- The place of a command among those of one DTS. A domain fault comes before a RESET command (19 R547); the triggers of Table TOU-8, a
half's and a stack's domain faults among them, come in the table's order (01 R44), an Underpass shortage at a reset before commands (09
R292); a pair's states before its output (10 R330); qualification changes, pin selection and commands in that of 11 R350; and every hardware
event before a command's effect instant (17 R514) but the telemetry packet, formed by the configuration in effect at its instant (18 R536).
(DESIGN CHOICE, log entry 4) -/
def orderRank (c : Instr) : Nat :=
  match c with
  | .domainFault _ d _ => if d < 72 then 3 else if 91 ≤ d ∧ d < 95 then 2 else 0
  | .paceGateEnd _ _ _ _ _ _ => 1
  | .pcFail _ _ _ | .pageRetire _ _ _ => 2
  | .medianCompare _ _ | .stallTimeout _ _ _ | .selfError _ _ _ => 3
  | .referenceDisqualify _ _ | .losDeclare _ _ | .cdrLockChange _ _ _ => 4
  | .referenceQualifying _ _ | .referenceQualified _ _ => 5
  | .conditionedInputTransition _ _ _ | .stuck _ _ | .chatterEnd _ _ => 6
  | .selectorOutput _ _ _ | .resetBegin _ => 8
  | .registerWrite _ a _ => if blockOf a.off = some 3 then 9 else 7
  | .hello _ _ _ | .versionRange _ _ _ _ _ | .setDevid _ _ _ | .setTime _ _ _ _ | .setTimeEffect _ | .lineIfCfg _ _ _ _ _ _ _
  | .lineGrpCfg _ _ _ _ _ _ _ _ | .sysPortCfg _ _ _ _ _ _ _ | .arcLink _ _ _ _ | .oduCfg _ _ _ | .oduRemove _ _ _ | .oduLck _ _ _ _ _
  | .trailCfg _ _ _ _ _ | .pmCfg _ _ _ _ _ _ | .connBatch _ _ _ _ _ | .epochInstant _ | .move _ _ _ _ _ _ | .protCmd _ _ _ _
  | .pairRetime _ _ _ _ _ | .imageLoad _ _ _ | .bind _ _ _ _ | .unbind _ _ _ | .queueCfg _ _ _ _ _ _ _ _ _ | .qgroupCfg _ _ _ _ _ _
  | .slotClaim _ _ _ _ _ _ | .oapStart _ _ | .permitTake _ _ _ _ | .permitRelease _ _ _ _ | .telemetryCfg _ _ _ _ _ | .pairCfg _ _ _ _
  | .reset _ _ _ | .undefinedOpcode _ _ _ => 9
  | .telemetryPacket _ => 10
  | _ => 7

/-- c stands before d when both carry one DTS and c ranks first. -/
def ahead (c d : Instr) : Bool := (dtsOf c).isSome && dtsOf c == dtsOf d && decide (orderRank c < orderRank d)
/-- A command enters a queue: before the first waiting one of its DTS that ranks after it, else last. -/
def enter (c : Instr) : List Instr → List Instr
  | [] => [c]
  | d :: r => if ahead c d then c :: d :: r else d :: enter c r
/-- A happening or command is offered to the block: it waits its turn (17 R514). -/
def State.arrive (s : State) (c : Instr) : State := { s with pending := enter c s.pending }

end Sys2Proof.Machine
end

