-- ==== Sys2Proof/Machine/Step.lean ====
section
/-! DEFINITION. One step: the command at the front of the queue. -/
namespace Sys2Proof.Machine
open Sys2Proof

/-- The command at the front of the queue runs with the rest of the queue behind it; with none waiting the block idles.
(DESIGN CHOICE, log entry 3; DESIGN CHOICE, log entry 4; DESIGN CHOICE, log entry 7) -/
def step (s : State) : Host.Outcome State Fault Refusal :=
  match s.pending with
  | [] => .next s
  | c :: rest => exec c { s with pending := rest }

/-- s with the command that a word spells put at the front of its queue; no word spells one. (DESIGN CHOICE, log entry 7) -/
def State.withFetchWord (s : State) (nbits w : Nat) : State :=
  match decodeTableWord nbits w with
  | some c => { s with pending := c :: s.pending }
  | none => s

end Sys2Proof.Machine
end

