-- ==== Sys2Proof/Laws/State.lean ====
section
/-! SUPPORT. What each update of State leaves unchanged, one lemma per field per update, and what the end of a step keeps. -/
namespace Sys2Proof.Machine
open Sys2Proof

@[simp] theorem State.at__regs (s : State) (t : Nat) : (s.at_ t).regs = s.regs := rfl
@[simp] theorem State.at__ctrs (s : State) (t : Nat) : (s.at_ t).ctrs = s.ctrs := rfl
@[simp] theorem State.at__stat (s : State) (t : Nat) : (s.at_ t).stat = s.stat := rfl
@[simp] theorem State.at__pulses (s : State) (t : Nat) : (s.at_ t).pulses = s.pulses := rfl
@[simp] theorem State.at__irq (s : State) (t : Nat) : (s.at_ t).irq = s.irq := rfl
@[simp] theorem State.at__freeCtr (s : State) (t : Nat) : (s.at_ t).freeCtr = s.freeCtr := rfl
@[simp] theorem State.at__out (s : State) (t : Nat) : (s.at_ t).out = s.out := rfl
@[simp] theorem State.at__evl (s : State) (t : Nat) : (s.at_ t).evl = s.evl := rfl
@[simp] theorem State.at__violUnread (s : State) (t : Nat) : (s.at_ t).violUnread = s.violUnread := rfl
@[simp] theorem State.at__que (s : State) (t : Nat) : (s.at_ t).que = s.que := rfl
@[simp] theorem State.at__jrm (s : State) (t : Nat) : (s.at_ t).jrm = s.jrm := rfl
@[simp] theorem State.at__pm (s : State) (t : Nat) : (s.at_ t).pm = s.pm := rfl
@[simp] theorem State.at__lin (s : State) (t : Nat) : (s.at_ t).lin = s.lin := rfl
@[simp] theorem State.at__frm (s : State) (t : Nat) : (s.at_ t).frm = s.frm := rfl
@[simp] theorem State.at__map (s : State) (t : Nat) : (s.at_ t).map = s.map := rfl
@[simp] theorem State.at__plz (s : State) (t : Nat) : (s.at_ t).plz = s.plz := rfl
@[simp] theorem State.at__pins (s : State) (t : Nat) : (s.at_ t).pins = s.pins := rfl
@[simp] theorem State.at__oap (s : State) (t : Nat) : (s.at_ t).oap = s.oap := rfl
@[simp] theorem State.at__arc (s : State) (t : Nat) : (s.at_ t).arc = s.arc := rfl
@[simp] theorem State.at__cvu (s : State) (t : Nat) : (s.at_ t).cvu = s.cvu := rfl
@[simp] theorem State.at__und (s : State) (t : Nat) : (s.at_ t).und = s.und := rfl
@[simp] theorem State.at__pair (s : State) (t : Nat) : (s.at_ t).pair = s.pair := rfl
@[simp] theorem State.at__apsEnd (s : State) (t : Nat) : (s.at_ t).apsEnd = s.apsEnd := rfl
@[simp] theorem State.at__red (s : State) (t : Nat) : (s.at_ t).red = s.red := rfl
@[simp] theorem State.at__tim (s : State) (t : Nat) : (s.at_ t).tim = s.tim := rfl
@[simp] theorem State.at__sysg (s : State) (t : Nat) : (s.at_ t).sysg = s.sysg := rfl
@[simp] theorem State.at__ave (s : State) (t : Nat) : (s.at_ t).ave = s.ave := rfl
@[simp] theorem State.at__hcq (s : State) (t : Nat) : (s.at_ t).hcq = s.hcq := rfl
@[simp] theorem State.at__mnt (s : State) (t : Nat) : (s.at_ t).mnt = s.mnt := rfl
@[simp] theorem State.at__pwr (s : State) (t : Nat) : (s.at_ t).pwr = s.pwr := rfl
@[simp] theorem State.at__pending (s : State) (t : Nat) : (s.at_ t).pending = s.pending := rfl

@[simp] theorem State.setWord_dts (s : State) (a w : Nat) : (s.setWord a w).dts = s.dts := rfl
@[simp] theorem State.setWord_ctrs (s : State) (a w : Nat) : (s.setWord a w).ctrs = s.ctrs := rfl
@[simp] theorem State.setWord_stat (s : State) (a w : Nat) : (s.setWord a w).stat = s.stat := rfl
@[simp] theorem State.setWord_pulses (s : State) (a w : Nat) : (s.setWord a w).pulses = s.pulses := rfl
@[simp] theorem State.setWord_irq (s : State) (a w : Nat) : (s.setWord a w).irq = s.irq := rfl
@[simp] theorem State.setWord_freeCtr (s : State) (a w : Nat) : (s.setWord a w).freeCtr = s.freeCtr := rfl
@[simp] theorem State.setWord_out (s : State) (a w : Nat) : (s.setWord a w).out = s.out := rfl
@[simp] theorem State.setWord_evl (s : State) (a w : Nat) : (s.setWord a w).evl = s.evl := rfl
@[simp] theorem State.setWord_violUnread (s : State) (a w : Nat) : (s.setWord a w).violUnread = s.violUnread := rfl
@[simp] theorem State.setWord_que (s : State) (a w : Nat) : (s.setWord a w).que = s.que := rfl
@[simp] theorem State.setWord_jrm (s : State) (a w : Nat) : (s.setWord a w).jrm = s.jrm := rfl
@[simp] theorem State.setWord_pm (s : State) (a w : Nat) : (s.setWord a w).pm = s.pm := rfl
@[simp] theorem State.setWord_lin (s : State) (a w : Nat) : (s.setWord a w).lin = s.lin := rfl
@[simp] theorem State.setWord_frm (s : State) (a w : Nat) : (s.setWord a w).frm = s.frm := rfl
@[simp] theorem State.setWord_map (s : State) (a w : Nat) : (s.setWord a w).map = s.map := rfl
@[simp] theorem State.setWord_plz (s : State) (a w : Nat) : (s.setWord a w).plz = s.plz := rfl
@[simp] theorem State.setWord_pins (s : State) (a w : Nat) : (s.setWord a w).pins = s.pins := rfl
@[simp] theorem State.setWord_oap (s : State) (a w : Nat) : (s.setWord a w).oap = s.oap := rfl
@[simp] theorem State.setWord_arc (s : State) (a w : Nat) : (s.setWord a w).arc = s.arc := rfl
@[simp] theorem State.setWord_cvu (s : State) (a w : Nat) : (s.setWord a w).cvu = s.cvu := rfl
@[simp] theorem State.setWord_und (s : State) (a w : Nat) : (s.setWord a w).und = s.und := rfl
@[simp] theorem State.setWord_pair (s : State) (a w : Nat) : (s.setWord a w).pair = s.pair := rfl
@[simp] theorem State.setWord_apsEnd (s : State) (a w : Nat) : (s.setWord a w).apsEnd = s.apsEnd := rfl
@[simp] theorem State.setWord_red (s : State) (a w : Nat) : (s.setWord a w).red = s.red := rfl
@[simp] theorem State.setWord_tim (s : State) (a w : Nat) : (s.setWord a w).tim = s.tim := rfl
@[simp] theorem State.setWord_sysg (s : State) (a w : Nat) : (s.setWord a w).sysg = s.sysg := rfl
@[simp] theorem State.setWord_ave (s : State) (a w : Nat) : (s.setWord a w).ave = s.ave := rfl
@[simp] theorem State.setWord_hcq (s : State) (a w : Nat) : (s.setWord a w).hcq = s.hcq := rfl
@[simp] theorem State.setWord_mnt (s : State) (a w : Nat) : (s.setWord a w).mnt = s.mnt := rfl
@[simp] theorem State.setWord_pwr (s : State) (a w : Nat) : (s.setWord a w).pwr = s.pwr := rfl
@[simp] theorem State.setWord_pending (s : State) (a w : Nat) : (s.setWord a w).pending = s.pending := rfl

@[simp] theorem State.rset_dts (s : State) (f : RF) (v : Nat) : (s.rset f v).dts = s.dts := rfl
@[simp] theorem State.rset_ctrs (s : State) (f : RF) (v : Nat) : (s.rset f v).ctrs = s.ctrs := rfl
@[simp] theorem State.rset_stat (s : State) (f : RF) (v : Nat) : (s.rset f v).stat = s.stat := rfl
@[simp] theorem State.rset_pulses (s : State) (f : RF) (v : Nat) : (s.rset f v).pulses = s.pulses := rfl
@[simp] theorem State.rset_irq (s : State) (f : RF) (v : Nat) : (s.rset f v).irq = s.irq := rfl
@[simp] theorem State.rset_freeCtr (s : State) (f : RF) (v : Nat) : (s.rset f v).freeCtr = s.freeCtr := rfl
@[simp] theorem State.rset_out (s : State) (f : RF) (v : Nat) : (s.rset f v).out = s.out := rfl
@[simp] theorem State.rset_evl (s : State) (f : RF) (v : Nat) : (s.rset f v).evl = s.evl := rfl
@[simp] theorem State.rset_violUnread (s : State) (f : RF) (v : Nat) : (s.rset f v).violUnread = s.violUnread := rfl
@[simp] theorem State.rset_que (s : State) (f : RF) (v : Nat) : (s.rset f v).que = s.que := rfl
@[simp] theorem State.rset_jrm (s : State) (f : RF) (v : Nat) : (s.rset f v).jrm = s.jrm := rfl
@[simp] theorem State.rset_pm (s : State) (f : RF) (v : Nat) : (s.rset f v).pm = s.pm := rfl
@[simp] theorem State.rset_lin (s : State) (f : RF) (v : Nat) : (s.rset f v).lin = s.lin := rfl
@[simp] theorem State.rset_frm (s : State) (f : RF) (v : Nat) : (s.rset f v).frm = s.frm := rfl
@[simp] theorem State.rset_map (s : State) (f : RF) (v : Nat) : (s.rset f v).map = s.map := rfl
@[simp] theorem State.rset_plz (s : State) (f : RF) (v : Nat) : (s.rset f v).plz = s.plz := rfl
@[simp] theorem State.rset_pins (s : State) (f : RF) (v : Nat) : (s.rset f v).pins = s.pins := rfl
@[simp] theorem State.rset_oap (s : State) (f : RF) (v : Nat) : (s.rset f v).oap = s.oap := rfl
@[simp] theorem State.rset_arc (s : State) (f : RF) (v : Nat) : (s.rset f v).arc = s.arc := rfl
@[simp] theorem State.rset_cvu (s : State) (f : RF) (v : Nat) : (s.rset f v).cvu = s.cvu := rfl
@[simp] theorem State.rset_und (s : State) (f : RF) (v : Nat) : (s.rset f v).und = s.und := rfl
@[simp] theorem State.rset_pair (s : State) (f : RF) (v : Nat) : (s.rset f v).pair = s.pair := rfl
@[simp] theorem State.rset_apsEnd (s : State) (f : RF) (v : Nat) : (s.rset f v).apsEnd = s.apsEnd := rfl
@[simp] theorem State.rset_red (s : State) (f : RF) (v : Nat) : (s.rset f v).red = s.red := rfl
@[simp] theorem State.rset_tim (s : State) (f : RF) (v : Nat) : (s.rset f v).tim = s.tim := rfl
@[simp] theorem State.rset_sysg (s : State) (f : RF) (v : Nat) : (s.rset f v).sysg = s.sysg := rfl
@[simp] theorem State.rset_ave (s : State) (f : RF) (v : Nat) : (s.rset f v).ave = s.ave := rfl
@[simp] theorem State.rset_hcq (s : State) (f : RF) (v : Nat) : (s.rset f v).hcq = s.hcq := rfl
@[simp] theorem State.rset_mnt (s : State) (f : RF) (v : Nat) : (s.rset f v).mnt = s.mnt := rfl
@[simp] theorem State.rset_pwr (s : State) (f : RF) (v : Nat) : (s.rset f v).pwr = s.pwr := rfl
@[simp] theorem State.rset_pending (s : State) (f : RF) (v : Nat) : (s.rset f v).pending = s.pending := rfl

@[simp] theorem State.rsetb_dts (s : State) (f : RF) (b : Bool) : (s.rsetb f b).dts = s.dts := rfl
@[simp] theorem State.rsetb_ctrs (s : State) (f : RF) (b : Bool) : (s.rsetb f b).ctrs = s.ctrs := rfl
@[simp] theorem State.rsetb_stat (s : State) (f : RF) (b : Bool) : (s.rsetb f b).stat = s.stat := rfl
@[simp] theorem State.rsetb_pulses (s : State) (f : RF) (b : Bool) : (s.rsetb f b).pulses = s.pulses := rfl
@[simp] theorem State.rsetb_irq (s : State) (f : RF) (b : Bool) : (s.rsetb f b).irq = s.irq := rfl
@[simp] theorem State.rsetb_freeCtr (s : State) (f : RF) (b : Bool) : (s.rsetb f b).freeCtr = s.freeCtr := rfl
@[simp] theorem State.rsetb_out (s : State) (f : RF) (b : Bool) : (s.rsetb f b).out = s.out := rfl
@[simp] theorem State.rsetb_evl (s : State) (f : RF) (b : Bool) : (s.rsetb f b).evl = s.evl := rfl
@[simp] theorem State.rsetb_violUnread (s : State) (f : RF) (b : Bool) : (s.rsetb f b).violUnread = s.violUnread := rfl
@[simp] theorem State.rsetb_que (s : State) (f : RF) (b : Bool) : (s.rsetb f b).que = s.que := rfl
@[simp] theorem State.rsetb_jrm (s : State) (f : RF) (b : Bool) : (s.rsetb f b).jrm = s.jrm := rfl
@[simp] theorem State.rsetb_pm (s : State) (f : RF) (b : Bool) : (s.rsetb f b).pm = s.pm := rfl
@[simp] theorem State.rsetb_lin (s : State) (f : RF) (b : Bool) : (s.rsetb f b).lin = s.lin := rfl
@[simp] theorem State.rsetb_frm (s : State) (f : RF) (b : Bool) : (s.rsetb f b).frm = s.frm := rfl
@[simp] theorem State.rsetb_map (s : State) (f : RF) (b : Bool) : (s.rsetb f b).map = s.map := rfl
@[simp] theorem State.rsetb_plz (s : State) (f : RF) (b : Bool) : (s.rsetb f b).plz = s.plz := rfl
@[simp] theorem State.rsetb_pins (s : State) (f : RF) (b : Bool) : (s.rsetb f b).pins = s.pins := rfl
@[simp] theorem State.rsetb_oap (s : State) (f : RF) (b : Bool) : (s.rsetb f b).oap = s.oap := rfl
@[simp] theorem State.rsetb_arc (s : State) (f : RF) (b : Bool) : (s.rsetb f b).arc = s.arc := rfl
@[simp] theorem State.rsetb_cvu (s : State) (f : RF) (b : Bool) : (s.rsetb f b).cvu = s.cvu := rfl
@[simp] theorem State.rsetb_und (s : State) (f : RF) (b : Bool) : (s.rsetb f b).und = s.und := rfl
@[simp] theorem State.rsetb_pair (s : State) (f : RF) (b : Bool) : (s.rsetb f b).pair = s.pair := rfl
@[simp] theorem State.rsetb_apsEnd (s : State) (f : RF) (b : Bool) : (s.rsetb f b).apsEnd = s.apsEnd := rfl
@[simp] theorem State.rsetb_red (s : State) (f : RF) (b : Bool) : (s.rsetb f b).red = s.red := rfl
@[simp] theorem State.rsetb_tim (s : State) (f : RF) (b : Bool) : (s.rsetb f b).tim = s.tim := rfl
@[simp] theorem State.rsetb_sysg (s : State) (f : RF) (b : Bool) : (s.rsetb f b).sysg = s.sysg := rfl
@[simp] theorem State.rsetb_ave (s : State) (f : RF) (b : Bool) : (s.rsetb f b).ave = s.ave := rfl
@[simp] theorem State.rsetb_hcq (s : State) (f : RF) (b : Bool) : (s.rsetb f b).hcq = s.hcq := rfl
@[simp] theorem State.rsetb_mnt (s : State) (f : RF) (b : Bool) : (s.rsetb f b).mnt = s.mnt := rfl
@[simp] theorem State.rsetb_pwr (s : State) (f : RF) (b : Bool) : (s.rsetb f b).pwr = s.pwr := rfl
@[simp] theorem State.rsetb_pending (s : State) (f : RF) (b : Bool) : (s.rsetb f b).pending = s.pending := rfl

@[simp] theorem State.setDtsWords_dts (s : State) (a t : Nat) : (s.setDtsWords a t).dts = s.dts := rfl
@[simp] theorem State.setDtsWords_ctrs (s : State) (a t : Nat) : (s.setDtsWords a t).ctrs = s.ctrs := rfl
@[simp] theorem State.setDtsWords_stat (s : State) (a t : Nat) : (s.setDtsWords a t).stat = s.stat := rfl
@[simp] theorem State.setDtsWords_pulses (s : State) (a t : Nat) : (s.setDtsWords a t).pulses = s.pulses := rfl
@[simp] theorem State.setDtsWords_irq (s : State) (a t : Nat) : (s.setDtsWords a t).irq = s.irq := rfl
@[simp] theorem State.setDtsWords_freeCtr (s : State) (a t : Nat) : (s.setDtsWords a t).freeCtr = s.freeCtr := rfl
@[simp] theorem State.setDtsWords_out (s : State) (a t : Nat) : (s.setDtsWords a t).out = s.out := rfl
@[simp] theorem State.setDtsWords_evl (s : State) (a t : Nat) : (s.setDtsWords a t).evl = s.evl := rfl
@[simp] theorem State.setDtsWords_violUnread (s : State) (a t : Nat) : (s.setDtsWords a t).violUnread = s.violUnread := rfl
@[simp] theorem State.setDtsWords_que (s : State) (a t : Nat) : (s.setDtsWords a t).que = s.que := rfl
@[simp] theorem State.setDtsWords_jrm (s : State) (a t : Nat) : (s.setDtsWords a t).jrm = s.jrm := rfl
@[simp] theorem State.setDtsWords_pm (s : State) (a t : Nat) : (s.setDtsWords a t).pm = s.pm := rfl
@[simp] theorem State.setDtsWords_lin (s : State) (a t : Nat) : (s.setDtsWords a t).lin = s.lin := rfl
@[simp] theorem State.setDtsWords_frm (s : State) (a t : Nat) : (s.setDtsWords a t).frm = s.frm := rfl
@[simp] theorem State.setDtsWords_map (s : State) (a t : Nat) : (s.setDtsWords a t).map = s.map := rfl
@[simp] theorem State.setDtsWords_plz (s : State) (a t : Nat) : (s.setDtsWords a t).plz = s.plz := rfl
@[simp] theorem State.setDtsWords_pins (s : State) (a t : Nat) : (s.setDtsWords a t).pins = s.pins := rfl
@[simp] theorem State.setDtsWords_oap (s : State) (a t : Nat) : (s.setDtsWords a t).oap = s.oap := rfl
@[simp] theorem State.setDtsWords_arc (s : State) (a t : Nat) : (s.setDtsWords a t).arc = s.arc := rfl
@[simp] theorem State.setDtsWords_cvu (s : State) (a t : Nat) : (s.setDtsWords a t).cvu = s.cvu := rfl
@[simp] theorem State.setDtsWords_und (s : State) (a t : Nat) : (s.setDtsWords a t).und = s.und := rfl
@[simp] theorem State.setDtsWords_pair (s : State) (a t : Nat) : (s.setDtsWords a t).pair = s.pair := rfl
@[simp] theorem State.setDtsWords_apsEnd (s : State) (a t : Nat) : (s.setDtsWords a t).apsEnd = s.apsEnd := rfl
@[simp] theorem State.setDtsWords_red (s : State) (a t : Nat) : (s.setDtsWords a t).red = s.red := rfl
@[simp] theorem State.setDtsWords_tim (s : State) (a t : Nat) : (s.setDtsWords a t).tim = s.tim := rfl
@[simp] theorem State.setDtsWords_sysg (s : State) (a t : Nat) : (s.setDtsWords a t).sysg = s.sysg := rfl
@[simp] theorem State.setDtsWords_ave (s : State) (a t : Nat) : (s.setDtsWords a t).ave = s.ave := rfl
@[simp] theorem State.setDtsWords_hcq (s : State) (a t : Nat) : (s.setDtsWords a t).hcq = s.hcq := rfl
@[simp] theorem State.setDtsWords_mnt (s : State) (a t : Nat) : (s.setDtsWords a t).mnt = s.mnt := rfl
@[simp] theorem State.setDtsWords_pwr (s : State) (a t : Nat) : (s.setDtsWords a t).pwr = s.pwr := rfl
@[simp] theorem State.setDtsWords_pending (s : State) (a t : Nat) : (s.setDtsWords a t).pending = s.pending := rfl

@[simp] theorem State.cadd_dts (s : State) (a n : Nat) : (s.cadd a n).dts = s.dts := rfl
@[simp] theorem State.cadd_regs (s : State) (a n : Nat) : (s.cadd a n).regs = s.regs := rfl
@[simp] theorem State.cadd_stat (s : State) (a n : Nat) : (s.cadd a n).stat = s.stat := rfl
@[simp] theorem State.cadd_pulses (s : State) (a n : Nat) : (s.cadd a n).pulses = s.pulses := rfl
@[simp] theorem State.cadd_irq (s : State) (a n : Nat) : (s.cadd a n).irq = s.irq := rfl
@[simp] theorem State.cadd_freeCtr (s : State) (a n : Nat) : (s.cadd a n).freeCtr = s.freeCtr := rfl
@[simp] theorem State.cadd_out (s : State) (a n : Nat) : (s.cadd a n).out = s.out := rfl
@[simp] theorem State.cadd_evl (s : State) (a n : Nat) : (s.cadd a n).evl = s.evl := rfl
@[simp] theorem State.cadd_violUnread (s : State) (a n : Nat) : (s.cadd a n).violUnread = s.violUnread := rfl
@[simp] theorem State.cadd_que (s : State) (a n : Nat) : (s.cadd a n).que = s.que := rfl
@[simp] theorem State.cadd_jrm (s : State) (a n : Nat) : (s.cadd a n).jrm = s.jrm := rfl
@[simp] theorem State.cadd_pm (s : State) (a n : Nat) : (s.cadd a n).pm = s.pm := rfl
@[simp] theorem State.cadd_lin (s : State) (a n : Nat) : (s.cadd a n).lin = s.lin := rfl
@[simp] theorem State.cadd_frm (s : State) (a n : Nat) : (s.cadd a n).frm = s.frm := rfl
@[simp] theorem State.cadd_map (s : State) (a n : Nat) : (s.cadd a n).map = s.map := rfl
@[simp] theorem State.cadd_plz (s : State) (a n : Nat) : (s.cadd a n).plz = s.plz := rfl
@[simp] theorem State.cadd_pins (s : State) (a n : Nat) : (s.cadd a n).pins = s.pins := rfl
@[simp] theorem State.cadd_oap (s : State) (a n : Nat) : (s.cadd a n).oap = s.oap := rfl
@[simp] theorem State.cadd_arc (s : State) (a n : Nat) : (s.cadd a n).arc = s.arc := rfl
@[simp] theorem State.cadd_cvu (s : State) (a n : Nat) : (s.cadd a n).cvu = s.cvu := rfl
@[simp] theorem State.cadd_und (s : State) (a n : Nat) : (s.cadd a n).und = s.und := rfl
@[simp] theorem State.cadd_pair (s : State) (a n : Nat) : (s.cadd a n).pair = s.pair := rfl
@[simp] theorem State.cadd_apsEnd (s : State) (a n : Nat) : (s.cadd a n).apsEnd = s.apsEnd := rfl
@[simp] theorem State.cadd_red (s : State) (a n : Nat) : (s.cadd a n).red = s.red := rfl
@[simp] theorem State.cadd_tim (s : State) (a n : Nat) : (s.cadd a n).tim = s.tim := rfl
@[simp] theorem State.cadd_sysg (s : State) (a n : Nat) : (s.cadd a n).sysg = s.sysg := rfl
@[simp] theorem State.cadd_ave (s : State) (a n : Nat) : (s.cadd a n).ave = s.ave := rfl
@[simp] theorem State.cadd_hcq (s : State) (a n : Nat) : (s.cadd a n).hcq = s.hcq := rfl
@[simp] theorem State.cadd_mnt (s : State) (a n : Nat) : (s.cadd a n).mnt = s.mnt := rfl
@[simp] theorem State.cadd_pwr (s : State) (a n : Nat) : (s.cadd a n).pwr = s.pwr := rfl
@[simp] theorem State.cadd_pending (s : State) (a n : Nat) : (s.cadd a n).pending = s.pending := rfl

@[simp] theorem State.cinc_dts (s : State) (a : Nat) : (s.cinc a).dts = s.dts := rfl
@[simp] theorem State.cinc_regs (s : State) (a : Nat) : (s.cinc a).regs = s.regs := rfl
@[simp] theorem State.cinc_stat (s : State) (a : Nat) : (s.cinc a).stat = s.stat := rfl
@[simp] theorem State.cinc_pulses (s : State) (a : Nat) : (s.cinc a).pulses = s.pulses := rfl
@[simp] theorem State.cinc_irq (s : State) (a : Nat) : (s.cinc a).irq = s.irq := rfl
@[simp] theorem State.cinc_freeCtr (s : State) (a : Nat) : (s.cinc a).freeCtr = s.freeCtr := rfl
@[simp] theorem State.cinc_out (s : State) (a : Nat) : (s.cinc a).out = s.out := rfl
@[simp] theorem State.cinc_evl (s : State) (a : Nat) : (s.cinc a).evl = s.evl := rfl
@[simp] theorem State.cinc_violUnread (s : State) (a : Nat) : (s.cinc a).violUnread = s.violUnread := rfl
@[simp] theorem State.cinc_que (s : State) (a : Nat) : (s.cinc a).que = s.que := rfl
@[simp] theorem State.cinc_jrm (s : State) (a : Nat) : (s.cinc a).jrm = s.jrm := rfl
@[simp] theorem State.cinc_pm (s : State) (a : Nat) : (s.cinc a).pm = s.pm := rfl
@[simp] theorem State.cinc_lin (s : State) (a : Nat) : (s.cinc a).lin = s.lin := rfl
@[simp] theorem State.cinc_frm (s : State) (a : Nat) : (s.cinc a).frm = s.frm := rfl
@[simp] theorem State.cinc_map (s : State) (a : Nat) : (s.cinc a).map = s.map := rfl
@[simp] theorem State.cinc_plz (s : State) (a : Nat) : (s.cinc a).plz = s.plz := rfl
@[simp] theorem State.cinc_pins (s : State) (a : Nat) : (s.cinc a).pins = s.pins := rfl
@[simp] theorem State.cinc_oap (s : State) (a : Nat) : (s.cinc a).oap = s.oap := rfl
@[simp] theorem State.cinc_arc (s : State) (a : Nat) : (s.cinc a).arc = s.arc := rfl
@[simp] theorem State.cinc_cvu (s : State) (a : Nat) : (s.cinc a).cvu = s.cvu := rfl
@[simp] theorem State.cinc_und (s : State) (a : Nat) : (s.cinc a).und = s.und := rfl
@[simp] theorem State.cinc_pair (s : State) (a : Nat) : (s.cinc a).pair = s.pair := rfl
@[simp] theorem State.cinc_apsEnd (s : State) (a : Nat) : (s.cinc a).apsEnd = s.apsEnd := rfl
@[simp] theorem State.cinc_red (s : State) (a : Nat) : (s.cinc a).red = s.red := rfl
@[simp] theorem State.cinc_tim (s : State) (a : Nat) : (s.cinc a).tim = s.tim := rfl
@[simp] theorem State.cinc_sysg (s : State) (a : Nat) : (s.cinc a).sysg = s.sysg := rfl
@[simp] theorem State.cinc_ave (s : State) (a : Nat) : (s.cinc a).ave = s.ave := rfl
@[simp] theorem State.cinc_hcq (s : State) (a : Nat) : (s.cinc a).hcq = s.hcq := rfl
@[simp] theorem State.cinc_mnt (s : State) (a : Nat) : (s.cinc a).mnt = s.mnt := rfl
@[simp] theorem State.cinc_pwr (s : State) (a : Nat) : (s.cinc a).pwr = s.pwr := rfl
@[simp] theorem State.cinc_pending (s : State) (a : Nat) : (s.cinc a).pending = s.pending := rfl

@[simp] theorem State.emit_dts (s : State) (o : Out) : (s.emit o).dts = s.dts := rfl
@[simp] theorem State.emit_regs (s : State) (o : Out) : (s.emit o).regs = s.regs := rfl
@[simp] theorem State.emit_ctrs (s : State) (o : Out) : (s.emit o).ctrs = s.ctrs := rfl
@[simp] theorem State.emit_stat (s : State) (o : Out) : (s.emit o).stat = s.stat := rfl
@[simp] theorem State.emit_pulses (s : State) (o : Out) : (s.emit o).pulses = s.pulses := rfl
@[simp] theorem State.emit_irq (s : State) (o : Out) : (s.emit o).irq = s.irq := rfl
@[simp] theorem State.emit_freeCtr (s : State) (o : Out) : (s.emit o).freeCtr = s.freeCtr := rfl
@[simp] theorem State.emit_evl (s : State) (o : Out) : (s.emit o).evl = s.evl := rfl
@[simp] theorem State.emit_violUnread (s : State) (o : Out) : (s.emit o).violUnread = s.violUnread := rfl
@[simp] theorem State.emit_que (s : State) (o : Out) : (s.emit o).que = s.que := rfl
@[simp] theorem State.emit_jrm (s : State) (o : Out) : (s.emit o).jrm = s.jrm := rfl
@[simp] theorem State.emit_pm (s : State) (o : Out) : (s.emit o).pm = s.pm := rfl
@[simp] theorem State.emit_lin (s : State) (o : Out) : (s.emit o).lin = s.lin := rfl
@[simp] theorem State.emit_frm (s : State) (o : Out) : (s.emit o).frm = s.frm := rfl
@[simp] theorem State.emit_map (s : State) (o : Out) : (s.emit o).map = s.map := rfl
@[simp] theorem State.emit_plz (s : State) (o : Out) : (s.emit o).plz = s.plz := rfl
@[simp] theorem State.emit_pins (s : State) (o : Out) : (s.emit o).pins = s.pins := rfl
@[simp] theorem State.emit_oap (s : State) (o : Out) : (s.emit o).oap = s.oap := rfl
@[simp] theorem State.emit_arc (s : State) (o : Out) : (s.emit o).arc = s.arc := rfl
@[simp] theorem State.emit_cvu (s : State) (o : Out) : (s.emit o).cvu = s.cvu := rfl
@[simp] theorem State.emit_und (s : State) (o : Out) : (s.emit o).und = s.und := rfl
@[simp] theorem State.emit_pair (s : State) (o : Out) : (s.emit o).pair = s.pair := rfl
@[simp] theorem State.emit_apsEnd (s : State) (o : Out) : (s.emit o).apsEnd = s.apsEnd := rfl
@[simp] theorem State.emit_red (s : State) (o : Out) : (s.emit o).red = s.red := rfl
@[simp] theorem State.emit_tim (s : State) (o : Out) : (s.emit o).tim = s.tim := rfl
@[simp] theorem State.emit_sysg (s : State) (o : Out) : (s.emit o).sysg = s.sysg := rfl
@[simp] theorem State.emit_ave (s : State) (o : Out) : (s.emit o).ave = s.ave := rfl
@[simp] theorem State.emit_hcq (s : State) (o : Out) : (s.emit o).hcq = s.hcq := rfl
@[simp] theorem State.emit_mnt (s : State) (o : Out) : (s.emit o).mnt = s.mnt := rfl
@[simp] theorem State.emit_pwr (s : State) (o : Out) : (s.emit o).pwr = s.pwr := rfl
@[simp] theorem State.emit_pending (s : State) (o : Out) : (s.emit o).pending = s.pending := rfl

@[simp] theorem State.offer_dts (s : State) (e : EvRec) : (s.offer e).dts = s.dts := rfl
@[simp] theorem State.offer_regs (s : State) (e : EvRec) : (s.offer e).regs = s.regs := rfl
@[simp] theorem State.offer_ctrs (s : State) (e : EvRec) : (s.offer e).ctrs = s.ctrs := rfl
@[simp] theorem State.offer_stat (s : State) (e : EvRec) : (s.offer e).stat = s.stat := rfl
@[simp] theorem State.offer_pulses (s : State) (e : EvRec) : (s.offer e).pulses = s.pulses := rfl
@[simp] theorem State.offer_irq (s : State) (e : EvRec) : (s.offer e).irq = s.irq := rfl
@[simp] theorem State.offer_freeCtr (s : State) (e : EvRec) : (s.offer e).freeCtr = s.freeCtr := rfl
@[simp] theorem State.offer_out (s : State) (e : EvRec) : (s.offer e).out = s.out := rfl
@[simp] theorem State.offer_violUnread (s : State) (e : EvRec) : (s.offer e).violUnread = s.violUnread := rfl
@[simp] theorem State.offer_que (s : State) (e : EvRec) : (s.offer e).que = s.que := rfl
@[simp] theorem State.offer_jrm (s : State) (e : EvRec) : (s.offer e).jrm = s.jrm := rfl
@[simp] theorem State.offer_pm (s : State) (e : EvRec) : (s.offer e).pm = s.pm := rfl
@[simp] theorem State.offer_lin (s : State) (e : EvRec) : (s.offer e).lin = s.lin := rfl
@[simp] theorem State.offer_frm (s : State) (e : EvRec) : (s.offer e).frm = s.frm := rfl
@[simp] theorem State.offer_map (s : State) (e : EvRec) : (s.offer e).map = s.map := rfl
@[simp] theorem State.offer_plz (s : State) (e : EvRec) : (s.offer e).plz = s.plz := rfl
@[simp] theorem State.offer_pins (s : State) (e : EvRec) : (s.offer e).pins = s.pins := rfl
@[simp] theorem State.offer_oap (s : State) (e : EvRec) : (s.offer e).oap = s.oap := rfl
@[simp] theorem State.offer_arc (s : State) (e : EvRec) : (s.offer e).arc = s.arc := rfl
@[simp] theorem State.offer_cvu (s : State) (e : EvRec) : (s.offer e).cvu = s.cvu := rfl
@[simp] theorem State.offer_und (s : State) (e : EvRec) : (s.offer e).und = s.und := rfl
@[simp] theorem State.offer_pair (s : State) (e : EvRec) : (s.offer e).pair = s.pair := rfl
@[simp] theorem State.offer_apsEnd (s : State) (e : EvRec) : (s.offer e).apsEnd = s.apsEnd := rfl
@[simp] theorem State.offer_red (s : State) (e : EvRec) : (s.offer e).red = s.red := rfl
@[simp] theorem State.offer_tim (s : State) (e : EvRec) : (s.offer e).tim = s.tim := rfl
@[simp] theorem State.offer_sysg (s : State) (e : EvRec) : (s.offer e).sysg = s.sysg := rfl
@[simp] theorem State.offer_ave (s : State) (e : EvRec) : (s.offer e).ave = s.ave := rfl
@[simp] theorem State.offer_hcq (s : State) (e : EvRec) : (s.offer e).hcq = s.hcq := rfl
@[simp] theorem State.offer_mnt (s : State) (e : EvRec) : (s.offer e).mnt = s.mnt := rfl
@[simp] theorem State.offer_pwr (s : State) (e : EvRec) : (s.offer e).pwr = s.pwr := rfl
@[simp] theorem State.offer_pending (s : State) (e : EvRec) : (s.offer e).pending = s.pending := rfl

@[simp] theorem State.log_dts (s : State) (t c x y : Nat) : (s.log t c x y).dts = s.dts := rfl
@[simp] theorem State.log_regs (s : State) (t c x y : Nat) : (s.log t c x y).regs = s.regs := rfl
@[simp] theorem State.log_ctrs (s : State) (t c x y : Nat) : (s.log t c x y).ctrs = s.ctrs := rfl
@[simp] theorem State.log_stat (s : State) (t c x y : Nat) : (s.log t c x y).stat = s.stat := rfl
@[simp] theorem State.log_pulses (s : State) (t c x y : Nat) : (s.log t c x y).pulses = s.pulses := rfl
@[simp] theorem State.log_irq (s : State) (t c x y : Nat) : (s.log t c x y).irq = s.irq := rfl
@[simp] theorem State.log_freeCtr (s : State) (t c x y : Nat) : (s.log t c x y).freeCtr = s.freeCtr := rfl
@[simp] theorem State.log_out (s : State) (t c x y : Nat) : (s.log t c x y).out = s.out := rfl
@[simp] theorem State.log_violUnread (s : State) (t c x y : Nat) : (s.log t c x y).violUnread = s.violUnread := rfl
@[simp] theorem State.log_que (s : State) (t c x y : Nat) : (s.log t c x y).que = s.que := rfl
@[simp] theorem State.log_jrm (s : State) (t c x y : Nat) : (s.log t c x y).jrm = s.jrm := rfl
@[simp] theorem State.log_pm (s : State) (t c x y : Nat) : (s.log t c x y).pm = s.pm := rfl
@[simp] theorem State.log_lin (s : State) (t c x y : Nat) : (s.log t c x y).lin = s.lin := rfl
@[simp] theorem State.log_frm (s : State) (t c x y : Nat) : (s.log t c x y).frm = s.frm := rfl
@[simp] theorem State.log_map (s : State) (t c x y : Nat) : (s.log t c x y).map = s.map := rfl
@[simp] theorem State.log_plz (s : State) (t c x y : Nat) : (s.log t c x y).plz = s.plz := rfl
@[simp] theorem State.log_pins (s : State) (t c x y : Nat) : (s.log t c x y).pins = s.pins := rfl
@[simp] theorem State.log_oap (s : State) (t c x y : Nat) : (s.log t c x y).oap = s.oap := rfl
@[simp] theorem State.log_arc (s : State) (t c x y : Nat) : (s.log t c x y).arc = s.arc := rfl
@[simp] theorem State.log_cvu (s : State) (t c x y : Nat) : (s.log t c x y).cvu = s.cvu := rfl
@[simp] theorem State.log_und (s : State) (t c x y : Nat) : (s.log t c x y).und = s.und := rfl
@[simp] theorem State.log_pair (s : State) (t c x y : Nat) : (s.log t c x y).pair = s.pair := rfl
@[simp] theorem State.log_apsEnd (s : State) (t c x y : Nat) : (s.log t c x y).apsEnd = s.apsEnd := rfl
@[simp] theorem State.log_red (s : State) (t c x y : Nat) : (s.log t c x y).red = s.red := rfl
@[simp] theorem State.log_tim (s : State) (t c x y : Nat) : (s.log t c x y).tim = s.tim := rfl
@[simp] theorem State.log_sysg (s : State) (t c x y : Nat) : (s.log t c x y).sysg = s.sysg := rfl
@[simp] theorem State.log_ave (s : State) (t c x y : Nat) : (s.log t c x y).ave = s.ave := rfl
@[simp] theorem State.log_hcq (s : State) (t c x y : Nat) : (s.log t c x y).hcq = s.hcq := rfl
@[simp] theorem State.log_mnt (s : State) (t c x y : Nat) : (s.log t c x y).mnt = s.mnt := rfl
@[simp] theorem State.log_pwr (s : State) (t c x y : Nat) : (s.log t c x y).pwr = s.pwr := rfl
@[simp] theorem State.log_pending (s : State) (t c x y : Nat) : (s.log t c x y).pending = s.pending := rfl

@[simp] theorem State.logSev_dts (s : State) (t v c x y : Nat) : (s.logSev t v c x y).dts = s.dts := rfl
@[simp] theorem State.logSev_regs (s : State) (t v c x y : Nat) : (s.logSev t v c x y).regs = s.regs := rfl
@[simp] theorem State.logSev_ctrs (s : State) (t v c x y : Nat) : (s.logSev t v c x y).ctrs = s.ctrs := rfl
@[simp] theorem State.logSev_stat (s : State) (t v c x y : Nat) : (s.logSev t v c x y).stat = s.stat := rfl
@[simp] theorem State.logSev_pulses (s : State) (t v c x y : Nat) : (s.logSev t v c x y).pulses = s.pulses := rfl
@[simp] theorem State.logSev_irq (s : State) (t v c x y : Nat) : (s.logSev t v c x y).irq = s.irq := rfl
@[simp] theorem State.logSev_freeCtr (s : State) (t v c x y : Nat) : (s.logSev t v c x y).freeCtr = s.freeCtr := rfl
@[simp] theorem State.logSev_out (s : State) (t v c x y : Nat) : (s.logSev t v c x y).out = s.out := rfl
@[simp] theorem State.logSev_violUnread (s : State) (t v c x y : Nat) : (s.logSev t v c x y).violUnread = s.violUnread := rfl
@[simp] theorem State.logSev_que (s : State) (t v c x y : Nat) : (s.logSev t v c x y).que = s.que := rfl
@[simp] theorem State.logSev_jrm (s : State) (t v c x y : Nat) : (s.logSev t v c x y).jrm = s.jrm := rfl
@[simp] theorem State.logSev_pm (s : State) (t v c x y : Nat) : (s.logSev t v c x y).pm = s.pm := rfl
@[simp] theorem State.logSev_lin (s : State) (t v c x y : Nat) : (s.logSev t v c x y).lin = s.lin := rfl
@[simp] theorem State.logSev_frm (s : State) (t v c x y : Nat) : (s.logSev t v c x y).frm = s.frm := rfl
@[simp] theorem State.logSev_map (s : State) (t v c x y : Nat) : (s.logSev t v c x y).map = s.map := rfl
@[simp] theorem State.logSev_plz (s : State) (t v c x y : Nat) : (s.logSev t v c x y).plz = s.plz := rfl
@[simp] theorem State.logSev_pins (s : State) (t v c x y : Nat) : (s.logSev t v c x y).pins = s.pins := rfl
@[simp] theorem State.logSev_oap (s : State) (t v c x y : Nat) : (s.logSev t v c x y).oap = s.oap := rfl
@[simp] theorem State.logSev_arc (s : State) (t v c x y : Nat) : (s.logSev t v c x y).arc = s.arc := rfl
@[simp] theorem State.logSev_cvu (s : State) (t v c x y : Nat) : (s.logSev t v c x y).cvu = s.cvu := rfl
@[simp] theorem State.logSev_und (s : State) (t v c x y : Nat) : (s.logSev t v c x y).und = s.und := rfl
@[simp] theorem State.logSev_pair (s : State) (t v c x y : Nat) : (s.logSev t v c x y).pair = s.pair := rfl
@[simp] theorem State.logSev_apsEnd (s : State) (t v c x y : Nat) : (s.logSev t v c x y).apsEnd = s.apsEnd := rfl
@[simp] theorem State.logSev_red (s : State) (t v c x y : Nat) : (s.logSev t v c x y).red = s.red := rfl
@[simp] theorem State.logSev_tim (s : State) (t v c x y : Nat) : (s.logSev t v c x y).tim = s.tim := rfl
@[simp] theorem State.logSev_sysg (s : State) (t v c x y : Nat) : (s.logSev t v c x y).sysg = s.sysg := rfl
@[simp] theorem State.logSev_ave (s : State) (t v c x y : Nat) : (s.logSev t v c x y).ave = s.ave := rfl
@[simp] theorem State.logSev_hcq (s : State) (t v c x y : Nat) : (s.logSev t v c x y).hcq = s.hcq := rfl
@[simp] theorem State.logSev_mnt (s : State) (t v c x y : Nat) : (s.logSev t v c x y).mnt = s.mnt := rfl
@[simp] theorem State.logSev_pwr (s : State) (t v c x y : Nat) : (s.logSev t v c x y).pwr = s.pwr := rfl
@[simp] theorem State.logSev_pending (s : State) (t v c x y : Nat) : (s.logSev t v c x y).pending = s.pending := rfl

@[simp] theorem State.setStat_dts (s : State) (a : Nat) (r : StatRec) : (s.setStat a r).dts = s.dts := rfl
@[simp] theorem State.setStat_regs (s : State) (a : Nat) (r : StatRec) : (s.setStat a r).regs = s.regs := rfl
@[simp] theorem State.setStat_ctrs (s : State) (a : Nat) (r : StatRec) : (s.setStat a r).ctrs = s.ctrs := rfl
@[simp] theorem State.setStat_pulses (s : State) (a : Nat) (r : StatRec) : (s.setStat a r).pulses = s.pulses := rfl
@[simp] theorem State.setStat_irq (s : State) (a : Nat) (r : StatRec) : (s.setStat a r).irq = s.irq := rfl
@[simp] theorem State.setStat_freeCtr (s : State) (a : Nat) (r : StatRec) : (s.setStat a r).freeCtr = s.freeCtr := rfl
@[simp] theorem State.setStat_out (s : State) (a : Nat) (r : StatRec) : (s.setStat a r).out = s.out := rfl
@[simp] theorem State.setStat_evl (s : State) (a : Nat) (r : StatRec) : (s.setStat a r).evl = s.evl := rfl
@[simp] theorem State.setStat_violUnread (s : State) (a : Nat) (r : StatRec) : (s.setStat a r).violUnread = s.violUnread := rfl
@[simp] theorem State.setStat_que (s : State) (a : Nat) (r : StatRec) : (s.setStat a r).que = s.que := rfl
@[simp] theorem State.setStat_jrm (s : State) (a : Nat) (r : StatRec) : (s.setStat a r).jrm = s.jrm := rfl
@[simp] theorem State.setStat_pm (s : State) (a : Nat) (r : StatRec) : (s.setStat a r).pm = s.pm := rfl
@[simp] theorem State.setStat_lin (s : State) (a : Nat) (r : StatRec) : (s.setStat a r).lin = s.lin := rfl
@[simp] theorem State.setStat_frm (s : State) (a : Nat) (r : StatRec) : (s.setStat a r).frm = s.frm := rfl
@[simp] theorem State.setStat_map (s : State) (a : Nat) (r : StatRec) : (s.setStat a r).map = s.map := rfl
@[simp] theorem State.setStat_plz (s : State) (a : Nat) (r : StatRec) : (s.setStat a r).plz = s.plz := rfl
@[simp] theorem State.setStat_pins (s : State) (a : Nat) (r : StatRec) : (s.setStat a r).pins = s.pins := rfl
@[simp] theorem State.setStat_oap (s : State) (a : Nat) (r : StatRec) : (s.setStat a r).oap = s.oap := rfl
@[simp] theorem State.setStat_arc (s : State) (a : Nat) (r : StatRec) : (s.setStat a r).arc = s.arc := rfl
@[simp] theorem State.setStat_cvu (s : State) (a : Nat) (r : StatRec) : (s.setStat a r).cvu = s.cvu := rfl
@[simp] theorem State.setStat_und (s : State) (a : Nat) (r : StatRec) : (s.setStat a r).und = s.und := rfl
@[simp] theorem State.setStat_pair (s : State) (a : Nat) (r : StatRec) : (s.setStat a r).pair = s.pair := rfl
@[simp] theorem State.setStat_apsEnd (s : State) (a : Nat) (r : StatRec) : (s.setStat a r).apsEnd = s.apsEnd := rfl
@[simp] theorem State.setStat_red (s : State) (a : Nat) (r : StatRec) : (s.setStat a r).red = s.red := rfl
@[simp] theorem State.setStat_tim (s : State) (a : Nat) (r : StatRec) : (s.setStat a r).tim = s.tim := rfl
@[simp] theorem State.setStat_sysg (s : State) (a : Nat) (r : StatRec) : (s.setStat a r).sysg = s.sysg := rfl
@[simp] theorem State.setStat_ave (s : State) (a : Nat) (r : StatRec) : (s.setStat a r).ave = s.ave := rfl
@[simp] theorem State.setStat_hcq (s : State) (a : Nat) (r : StatRec) : (s.setStat a r).hcq = s.hcq := rfl
@[simp] theorem State.setStat_mnt (s : State) (a : Nat) (r : StatRec) : (s.setStat a r).mnt = s.mnt := rfl
@[simp] theorem State.setStat_pwr (s : State) (a : Nat) (r : StatRec) : (s.setStat a r).pwr = s.pwr := rfl
@[simp] theorem State.setStat_pending (s : State) (a : Nat) (r : StatRec) : (s.setStat a r).pending = s.pending := rfl

/-! ### The end of a step -/

/-- A message of a vector changes the outputs and the pending bits only. -/
@[simp] theorem State.msixSend_dts (s : State) (v : Nat) : (s.msixSend v).dts = s.dts := by unfold State.msixSend; split <;> rfl
theorem State.msixSends_dts (l : List Nat) (s : State) : (l.foldl State.msixSend s).dts = s.dts := by
  induction l generalizing s with
  | nil => rfl
  | cons v r ih => simp [ih]
@[simp] theorem State.settle_dts (s : State) : s.settle.dts = s.dts := by unfold State.settle; dsimp only; split <;> simp [State.msixSends_dts]
@[simp] theorem State.msixSend_regs (s : State) (v : Nat) : (s.msixSend v).regs = s.regs := by unfold State.msixSend; split <;> rfl
theorem State.msixSends_regs (l : List Nat) (s : State) : (l.foldl State.msixSend s).regs = s.regs := by
  induction l generalizing s with
  | nil => rfl
  | cons v r ih => simp [ih]
@[simp] theorem State.settle_regs (s : State) : s.settle.regs = s.regs := by unfold State.settle; dsimp only; split <;> simp [State.msixSends_regs]
@[simp] theorem State.msixSend_ctrs (s : State) (v : Nat) : (s.msixSend v).ctrs = s.ctrs := by unfold State.msixSend; split <;> rfl
theorem State.msixSends_ctrs (l : List Nat) (s : State) : (l.foldl State.msixSend s).ctrs = s.ctrs := by
  induction l generalizing s with
  | nil => rfl
  | cons v r ih => simp [ih]
@[simp] theorem State.settle_ctrs (s : State) : s.settle.ctrs = s.ctrs := by unfold State.settle; dsimp only; split <;> simp [State.msixSends_ctrs]
@[simp] theorem State.msixSend_stat (s : State) (v : Nat) : (s.msixSend v).stat = s.stat := by unfold State.msixSend; split <;> rfl
theorem State.msixSends_stat (l : List Nat) (s : State) : (l.foldl State.msixSend s).stat = s.stat := by
  induction l generalizing s with
  | nil => rfl
  | cons v r ih => simp [ih]
@[simp] theorem State.settle_stat (s : State) : s.settle.stat = s.stat := by unfold State.settle; dsimp only; split <;> simp [State.msixSends_stat]
@[simp] theorem State.msixSend_pulses (s : State) (v : Nat) : (s.msixSend v).pulses = s.pulses := by unfold State.msixSend; split <;> rfl
theorem State.msixSends_pulses (l : List Nat) (s : State) : (l.foldl State.msixSend s).pulses = s.pulses := by
  induction l generalizing s with
  | nil => rfl
  | cons v r ih => simp [ih]
@[simp] theorem State.settle_pulses (s : State) : s.settle.pulses = s.pulses := by unfold State.settle; dsimp only; split <;> simp [State.msixSends_pulses]
@[simp] theorem State.msixSend_freeCtr (s : State) (v : Nat) : (s.msixSend v).freeCtr = s.freeCtr := by unfold State.msixSend; split <;> rfl
theorem State.msixSends_freeCtr (l : List Nat) (s : State) : (l.foldl State.msixSend s).freeCtr = s.freeCtr := by
  induction l generalizing s with
  | nil => rfl
  | cons v r ih => simp [ih]
@[simp] theorem State.settle_freeCtr (s : State) : s.settle.freeCtr = s.freeCtr := by unfold State.settle; dsimp only; split <;> simp [State.msixSends_freeCtr]
@[simp] theorem State.msixSend_evl (s : State) (v : Nat) : (s.msixSend v).evl = s.evl := by unfold State.msixSend; split <;> rfl
theorem State.msixSends_evl (l : List Nat) (s : State) : (l.foldl State.msixSend s).evl = s.evl := by
  induction l generalizing s with
  | nil => rfl
  | cons v r ih => simp [ih]
@[simp] theorem State.settle_evl (s : State) : s.settle.evl = s.evl := by unfold State.settle; dsimp only; split <;> simp [State.msixSends_evl]
@[simp] theorem State.msixSend_violUnread (s : State) (v : Nat) : (s.msixSend v).violUnread = s.violUnread := by unfold State.msixSend; split <;> rfl
theorem State.msixSends_violUnread (l : List Nat) (s : State) : (l.foldl State.msixSend s).violUnread = s.violUnread := by
  induction l generalizing s with
  | nil => rfl
  | cons v r ih => simp [ih]
@[simp] theorem State.settle_violUnread (s : State) : s.settle.violUnread = s.violUnread := by unfold State.settle; dsimp only; split <;> simp [State.msixSends_violUnread]
@[simp] theorem State.msixSend_que (s : State) (v : Nat) : (s.msixSend v).que = s.que := by unfold State.msixSend; split <;> rfl
theorem State.msixSends_que (l : List Nat) (s : State) : (l.foldl State.msixSend s).que = s.que := by
  induction l generalizing s with
  | nil => rfl
  | cons v r ih => simp [ih]
@[simp] theorem State.settle_que (s : State) : s.settle.que = s.que := by unfold State.settle; dsimp only; split <;> simp [State.msixSends_que]
@[simp] theorem State.msixSend_jrm (s : State) (v : Nat) : (s.msixSend v).jrm = s.jrm := by unfold State.msixSend; split <;> rfl
theorem State.msixSends_jrm (l : List Nat) (s : State) : (l.foldl State.msixSend s).jrm = s.jrm := by
  induction l generalizing s with
  | nil => rfl
  | cons v r ih => simp [ih]
@[simp] theorem State.settle_jrm (s : State) : s.settle.jrm = s.jrm := by unfold State.settle; dsimp only; split <;> simp [State.msixSends_jrm]
@[simp] theorem State.msixSend_pm (s : State) (v : Nat) : (s.msixSend v).pm = s.pm := by unfold State.msixSend; split <;> rfl
theorem State.msixSends_pm (l : List Nat) (s : State) : (l.foldl State.msixSend s).pm = s.pm := by
  induction l generalizing s with
  | nil => rfl
  | cons v r ih => simp [ih]
@[simp] theorem State.settle_pm (s : State) : s.settle.pm = s.pm := by unfold State.settle; dsimp only; split <;> simp [State.msixSends_pm]
@[simp] theorem State.msixSend_lin (s : State) (v : Nat) : (s.msixSend v).lin = s.lin := by unfold State.msixSend; split <;> rfl
theorem State.msixSends_lin (l : List Nat) (s : State) : (l.foldl State.msixSend s).lin = s.lin := by
  induction l generalizing s with
  | nil => rfl
  | cons v r ih => simp [ih]
@[simp] theorem State.settle_lin (s : State) : s.settle.lin = s.lin := by unfold State.settle; dsimp only; split <;> simp [State.msixSends_lin]
@[simp] theorem State.msixSend_frm (s : State) (v : Nat) : (s.msixSend v).frm = s.frm := by unfold State.msixSend; split <;> rfl
theorem State.msixSends_frm (l : List Nat) (s : State) : (l.foldl State.msixSend s).frm = s.frm := by
  induction l generalizing s with
  | nil => rfl
  | cons v r ih => simp [ih]
@[simp] theorem State.settle_frm (s : State) : s.settle.frm = s.frm := by unfold State.settle; dsimp only; split <;> simp [State.msixSends_frm]
@[simp] theorem State.msixSend_map (s : State) (v : Nat) : (s.msixSend v).map = s.map := by unfold State.msixSend; split <;> rfl
theorem State.msixSends_map (l : List Nat) (s : State) : (l.foldl State.msixSend s).map = s.map := by
  induction l generalizing s with
  | nil => rfl
  | cons v r ih => simp [ih]
@[simp] theorem State.settle_map (s : State) : s.settle.map = s.map := by unfold State.settle; dsimp only; split <;> simp [State.msixSends_map]
@[simp] theorem State.msixSend_plz (s : State) (v : Nat) : (s.msixSend v).plz = s.plz := by unfold State.msixSend; split <;> rfl
theorem State.msixSends_plz (l : List Nat) (s : State) : (l.foldl State.msixSend s).plz = s.plz := by
  induction l generalizing s with
  | nil => rfl
  | cons v r ih => simp [ih]
@[simp] theorem State.settle_plz (s : State) : s.settle.plz = s.plz := by unfold State.settle; dsimp only; split <;> simp [State.msixSends_plz]
@[simp] theorem State.msixSend_pins (s : State) (v : Nat) : (s.msixSend v).pins = s.pins := by unfold State.msixSend; split <;> rfl
theorem State.msixSends_pins (l : List Nat) (s : State) : (l.foldl State.msixSend s).pins = s.pins := by
  induction l generalizing s with
  | nil => rfl
  | cons v r ih => simp [ih]
@[simp] theorem State.settle_pins (s : State) : s.settle.pins = s.pins := by unfold State.settle; dsimp only; split <;> simp [State.msixSends_pins]
@[simp] theorem State.msixSend_oap (s : State) (v : Nat) : (s.msixSend v).oap = s.oap := by unfold State.msixSend; split <;> rfl
theorem State.msixSends_oap (l : List Nat) (s : State) : (l.foldl State.msixSend s).oap = s.oap := by
  induction l generalizing s with
  | nil => rfl
  | cons v r ih => simp [ih]
@[simp] theorem State.settle_oap (s : State) : s.settle.oap = s.oap := by unfold State.settle; dsimp only; split <;> simp [State.msixSends_oap]
@[simp] theorem State.msixSend_arc (s : State) (v : Nat) : (s.msixSend v).arc = s.arc := by unfold State.msixSend; split <;> rfl
theorem State.msixSends_arc (l : List Nat) (s : State) : (l.foldl State.msixSend s).arc = s.arc := by
  induction l generalizing s with
  | nil => rfl
  | cons v r ih => simp [ih]
@[simp] theorem State.settle_arc (s : State) : s.settle.arc = s.arc := by unfold State.settle; dsimp only; split <;> simp [State.msixSends_arc]
@[simp] theorem State.msixSend_cvu (s : State) (v : Nat) : (s.msixSend v).cvu = s.cvu := by unfold State.msixSend; split <;> rfl
theorem State.msixSends_cvu (l : List Nat) (s : State) : (l.foldl State.msixSend s).cvu = s.cvu := by
  induction l generalizing s with
  | nil => rfl
  | cons v r ih => simp [ih]
@[simp] theorem State.settle_cvu (s : State) : s.settle.cvu = s.cvu := by unfold State.settle; dsimp only; split <;> simp [State.msixSends_cvu]
@[simp] theorem State.msixSend_und (s : State) (v : Nat) : (s.msixSend v).und = s.und := by unfold State.msixSend; split <;> rfl
theorem State.msixSends_und (l : List Nat) (s : State) : (l.foldl State.msixSend s).und = s.und := by
  induction l generalizing s with
  | nil => rfl
  | cons v r ih => simp [ih]
@[simp] theorem State.settle_und (s : State) : s.settle.und = s.und := by unfold State.settle; dsimp only; split <;> simp [State.msixSends_und]
@[simp] theorem State.msixSend_pair (s : State) (v : Nat) : (s.msixSend v).pair = s.pair := by unfold State.msixSend; split <;> rfl
theorem State.msixSends_pair (l : List Nat) (s : State) : (l.foldl State.msixSend s).pair = s.pair := by
  induction l generalizing s with
  | nil => rfl
  | cons v r ih => simp [ih]
@[simp] theorem State.settle_pair (s : State) : s.settle.pair = s.pair := by unfold State.settle; dsimp only; split <;> simp [State.msixSends_pair]
@[simp] theorem State.msixSend_apsEnd (s : State) (v : Nat) : (s.msixSend v).apsEnd = s.apsEnd := by unfold State.msixSend; split <;> rfl
theorem State.msixSends_apsEnd (l : List Nat) (s : State) : (l.foldl State.msixSend s).apsEnd = s.apsEnd := by
  induction l generalizing s with
  | nil => rfl
  | cons v r ih => simp [ih]
@[simp] theorem State.settle_apsEnd (s : State) : s.settle.apsEnd = s.apsEnd := by unfold State.settle; dsimp only; split <;> simp [State.msixSends_apsEnd]
@[simp] theorem State.msixSend_red (s : State) (v : Nat) : (s.msixSend v).red = s.red := by unfold State.msixSend; split <;> rfl
theorem State.msixSends_red (l : List Nat) (s : State) : (l.foldl State.msixSend s).red = s.red := by
  induction l generalizing s with
  | nil => rfl
  | cons v r ih => simp [ih]
@[simp] theorem State.settle_red (s : State) : s.settle.red = s.red := by unfold State.settle; dsimp only; split <;> simp [State.msixSends_red]
@[simp] theorem State.msixSend_tim (s : State) (v : Nat) : (s.msixSend v).tim = s.tim := by unfold State.msixSend; split <;> rfl
theorem State.msixSends_tim (l : List Nat) (s : State) : (l.foldl State.msixSend s).tim = s.tim := by
  induction l generalizing s with
  | nil => rfl
  | cons v r ih => simp [ih]
@[simp] theorem State.settle_tim (s : State) : s.settle.tim = s.tim := by unfold State.settle; dsimp only; split <;> simp [State.msixSends_tim]
@[simp] theorem State.msixSend_sysg (s : State) (v : Nat) : (s.msixSend v).sysg = s.sysg := by unfold State.msixSend; split <;> rfl
theorem State.msixSends_sysg (l : List Nat) (s : State) : (l.foldl State.msixSend s).sysg = s.sysg := by
  induction l generalizing s with
  | nil => rfl
  | cons v r ih => simp [ih]
@[simp] theorem State.settle_sysg (s : State) : s.settle.sysg = s.sysg := by unfold State.settle; dsimp only; split <;> simp [State.msixSends_sysg]
@[simp] theorem State.msixSend_ave (s : State) (v : Nat) : (s.msixSend v).ave = s.ave := by unfold State.msixSend; split <;> rfl
theorem State.msixSends_ave (l : List Nat) (s : State) : (l.foldl State.msixSend s).ave = s.ave := by
  induction l generalizing s with
  | nil => rfl
  | cons v r ih => simp [ih]
@[simp] theorem State.settle_ave (s : State) : s.settle.ave = s.ave := by unfold State.settle; dsimp only; split <;> simp [State.msixSends_ave]
@[simp] theorem State.msixSend_hcq (s : State) (v : Nat) : (s.msixSend v).hcq = s.hcq := by unfold State.msixSend; split <;> rfl
theorem State.msixSends_hcq (l : List Nat) (s : State) : (l.foldl State.msixSend s).hcq = s.hcq := by
  induction l generalizing s with
  | nil => rfl
  | cons v r ih => simp [ih]
@[simp] theorem State.settle_hcq (s : State) : s.settle.hcq = s.hcq := by unfold State.settle; dsimp only; split <;> simp [State.msixSends_hcq]
@[simp] theorem State.msixSend_mnt (s : State) (v : Nat) : (s.msixSend v).mnt = s.mnt := by unfold State.msixSend; split <;> rfl
theorem State.msixSends_mnt (l : List Nat) (s : State) : (l.foldl State.msixSend s).mnt = s.mnt := by
  induction l generalizing s with
  | nil => rfl
  | cons v r ih => simp [ih]
@[simp] theorem State.settle_mnt (s : State) : s.settle.mnt = s.mnt := by unfold State.settle; dsimp only; split <;> simp [State.msixSends_mnt]
@[simp] theorem State.msixSend_pwr (s : State) (v : Nat) : (s.msixSend v).pwr = s.pwr := by unfold State.msixSend; split <;> rfl
theorem State.msixSends_pwr (l : List Nat) (s : State) : (l.foldl State.msixSend s).pwr = s.pwr := by
  induction l generalizing s with
  | nil => rfl
  | cons v r ih => simp [ih]
@[simp] theorem State.settle_pwr (s : State) : s.settle.pwr = s.pwr := by unfold State.settle; dsimp only; split <;> simp [State.msixSends_pwr]
@[simp] theorem State.msixSend_pending (s : State) (v : Nat) : (s.msixSend v).pending = s.pending := by unfold State.msixSend; split <;> rfl
theorem State.msixSends_pending (l : List Nat) (s : State) : (l.foldl State.msixSend s).pending = s.pending := by
  induction l generalizing s with
  | nil => rfl
  | cons v r ih => simp [ih]
@[simp] theorem State.settle_pending (s : State) : s.settle.pending = s.pending := by unfold State.settle; dsimp only; split <;> simp [State.msixSends_pending]

@[simp] theorem State.tidy_dts (s : State) : s.tidy.dts = s.dts := by unfold State.tidy; split <;> rfl
@[simp] theorem State.tidy_stat (s : State) : s.tidy.stat = s.stat := by unfold State.tidy; split <;> rfl
@[simp] theorem State.tidy_pulses (s : State) : s.tidy.pulses = s.pulses := by unfold State.tidy; split <;> rfl
@[simp] theorem State.tidy_irq (s : State) : s.tidy.irq = s.irq := by unfold State.tidy; split <;> rfl
@[simp] theorem State.tidy_freeCtr (s : State) : s.tidy.freeCtr = s.freeCtr := by unfold State.tidy; split <;> rfl
@[simp] theorem State.tidy_out (s : State) : s.tidy.out = s.out := by unfold State.tidy; split <;> rfl
@[simp] theorem State.tidy_evl (s : State) : s.tidy.evl = s.evl := by unfold State.tidy; split <;> rfl
@[simp] theorem State.tidy_violUnread (s : State) : s.tidy.violUnread = s.violUnread := by unfold State.tidy; split <;> rfl
@[simp] theorem State.tidy_que (s : State) : s.tidy.que = s.que := by unfold State.tidy; split <;> rfl
@[simp] theorem State.tidy_pm (s : State) : s.tidy.pm = s.pm := by unfold State.tidy; split <;> rfl
@[simp] theorem State.tidy_lin (s : State) : s.tidy.lin = s.lin := by unfold State.tidy; split <;> rfl
@[simp] theorem State.tidy_frm (s : State) : s.tidy.frm = s.frm := by unfold State.tidy; split <;> rfl
@[simp] theorem State.tidy_map (s : State) : s.tidy.map = s.map := by unfold State.tidy; split <;> rfl
@[simp] theorem State.tidy_plz (s : State) : s.tidy.plz = s.plz := by unfold State.tidy; split <;> rfl
@[simp] theorem State.tidy_pins (s : State) : s.tidy.pins = s.pins := by unfold State.tidy; split <;> rfl
@[simp] theorem State.tidy_oap (s : State) : s.tidy.oap = s.oap := by unfold State.tidy; split <;> rfl
@[simp] theorem State.tidy_arc (s : State) : s.tidy.arc = s.arc := by unfold State.tidy; split <;> rfl
@[simp] theorem State.tidy_cvu (s : State) : s.tidy.cvu = s.cvu := by unfold State.tidy; split <;> rfl
@[simp] theorem State.tidy_pair (s : State) : s.tidy.pair = s.pair := by unfold State.tidy; split <;> rfl
@[simp] theorem State.tidy_apsEnd (s : State) : s.tidy.apsEnd = s.apsEnd := by unfold State.tidy; split <;> rfl
@[simp] theorem State.tidy_red (s : State) : s.tidy.red = s.red := by unfold State.tidy; split <;> rfl
@[simp] theorem State.tidy_tim (s : State) : s.tidy.tim = s.tim := by unfold State.tidy; split <;> rfl
@[simp] theorem State.tidy_sysg (s : State) : s.tidy.sysg = s.sysg := by unfold State.tidy; split <;> rfl
@[simp] theorem State.tidy_ave (s : State) : s.tidy.ave = s.ave := by unfold State.tidy; split <;> rfl
@[simp] theorem State.tidy_hcq (s : State) : s.tidy.hcq = s.hcq := by unfold State.tidy; split <;> rfl
@[simp] theorem State.tidy_mnt (s : State) : s.tidy.mnt = s.mnt := by unfold State.tidy; split <;> rfl
@[simp] theorem State.tidy_pwr (s : State) : s.tidy.pwr = s.pwr := by unfold State.tidy; split <;> rfl
@[simp] theorem State.tidy_pending (s : State) : s.tidy.pending = s.pending := by unfold State.tidy; split <;> rfl

/-- A state in canonical form is tidy. -/
@[simp] theorem State.tidy_wf {s : State} (h : s.wf = true) : s.tidy = s := by simp [State.tidy, h]

@[simp] theorem State.ended_stat (s z : State) (n : Nat) : (s.ended z n).stat = z.stat := by simp [State.ended]
@[simp] theorem State.ended_pulses (s z : State) (n : Nat) : (s.ended z n).pulses = z.pulses := by simp [State.ended]
@[simp] theorem State.ended_freeCtr (s z : State) (n : Nat) : (s.ended z n).freeCtr = z.freeCtr := by simp [State.ended]
@[simp] theorem State.ended_evl (s z : State) (n : Nat) : (s.ended z n).evl = z.evl := by simp [State.ended]
@[simp] theorem State.ended_violUnread (s z : State) (n : Nat) : (s.ended z n).violUnread = z.violUnread := by simp [State.ended]
@[simp] theorem State.ended_que (s z : State) (n : Nat) : (s.ended z n).que = z.que := by simp [State.ended]
@[simp] theorem State.ended_pm (s z : State) (n : Nat) : (s.ended z n).pm = z.pm := by simp [State.ended]
@[simp] theorem State.ended_lin (s z : State) (n : Nat) : (s.ended z n).lin = z.lin := by simp [State.ended]
@[simp] theorem State.ended_frm (s z : State) (n : Nat) : (s.ended z n).frm = z.frm := by simp [State.ended]
@[simp] theorem State.ended_map (s z : State) (n : Nat) : (s.ended z n).map = z.map := by simp [State.ended]
@[simp] theorem State.ended_plz (s z : State) (n : Nat) : (s.ended z n).plz = z.plz := by simp [State.ended]
@[simp] theorem State.ended_pins (s z : State) (n : Nat) : (s.ended z n).pins = z.pins := by simp [State.ended]
@[simp] theorem State.ended_oap (s z : State) (n : Nat) : (s.ended z n).oap = z.oap := by simp [State.ended]
@[simp] theorem State.ended_arc (s z : State) (n : Nat) : (s.ended z n).arc = z.arc := by simp [State.ended]
@[simp] theorem State.ended_cvu (s z : State) (n : Nat) : (s.ended z n).cvu = z.cvu := by simp [State.ended]
@[simp] theorem State.ended_pair (s z : State) (n : Nat) : (s.ended z n).pair = z.pair := by simp [State.ended]
@[simp] theorem State.ended_apsEnd (s z : State) (n : Nat) : (s.ended z n).apsEnd = z.apsEnd := by simp [State.ended]
@[simp] theorem State.ended_red (s z : State) (n : Nat) : (s.ended z n).red = z.red := by simp [State.ended]
@[simp] theorem State.ended_tim (s z : State) (n : Nat) : (s.ended z n).tim = z.tim := by simp [State.ended]
@[simp] theorem State.ended_sysg (s z : State) (n : Nat) : (s.ended z n).sysg = z.sysg := by simp [State.ended]
@[simp] theorem State.ended_ave (s z : State) (n : Nat) : (s.ended z n).ave = z.ave := by simp [State.ended]
@[simp] theorem State.ended_hcq (s z : State) (n : Nat) : (s.ended z n).hcq = z.hcq := by simp [State.ended]
@[simp] theorem State.ended_mnt (s z : State) (n : Nat) : (s.ended z n).mnt = z.mnt := by simp [State.ended]
@[simp] theorem State.ended_pwr (s z : State) (n : Nat) : (s.ended z n).pwr = z.pwr := by simp [State.ended]
@[simp] theorem State.ended_dts (s z : State) (n : Nat) : (s.ended z n).dts = n := rfl
@[simp] theorem State.ended_pending (s z : State) (n : Nat) : (s.ended z n).pending = s.pending := rfl
theorem State.ended_regs (s : State) {z : State} (n : Nat) (h : z.wf = true) : (s.ended z n).regs = z.regs := by simp [State.ended, h]
theorem State.ended_ctrs (s : State) {z : State} (n : Nat) (h : z.wf = true) : (s.ended z n).ctrs = z.ctrs := by simp [State.ended, h]

end Sys2Proof.Machine
end

