-- ==== Sys2Proof/Laws/Tbl.lean ====
section
/-! SUPPORT. Sparse stores: reading after writing, and the canonical form every operation keeps. -/
namespace Sys2Proof.Machine
open Sys2Proof

variable {α : Type} [DecidableEq α] {d : Nat → α}

/-- A weaker lower bound is kept. -/
theorem tcanonAbove_mono {m n : Nat} (h : m ≤ n) {t : Tbl α} (c : tcanonAbove d (some n) t = true) : tcanonAbove d (some m) t = true := by
  cases t with
  | nil => rfl
  | cons p r => simp only [tcanonAbove, Bool.and_eq_true, decide_eq_true_eq] at c ⊢; exact ⟨⟨by omega, c.1.2⟩, c.2⟩

/-- A store above a bound is one above none. -/
theorem tcanonAbove_none {b : Option Nat} {t : Tbl α} (c : tcanonAbove d b t = true) : tcanonAbove d none t = true := by
  cases t with
  | nil => rfl
  | cons p r => simp only [tcanonAbove, Bool.and_eq_true] at c ⊢; exact ⟨⟨trivial, c.1.2⟩, c.2⟩

/-- Keys at or below the bound are unlisted. -/
theorem tget_below {n k : Nat} (h : k ≤ n) {t : Tbl α} (c : tcanonAbove d (some n) t = true) : tget d t k = d k := by
  cases t with
  | nil => rfl
  | cons p r =>
    simp only [tcanonAbove, Bool.and_eq_true, decide_eq_true_eq] at c
    have h1 : p.1 ≠ k := by omega
    have h2 : k < p.1 := by omega
    simp [tget, h1, h2]

omit [DecidableEq α] in
/-- Above its key a cut changes nothing. -/
theorem tget_tcut_above {k i : Nat} (h : k < i) (t : Tbl α) : tget d (tcut k t) i = tget d t i := by
  induction t with
  | nil => rfl
  | cons p r ih =>
    obtain ⟨j, w⟩ := p
    by_cases h1 : j ≤ k
    · have h2 : j ≠ i := by omega
      have h3 : ¬ i < j := by omega
      simp [tcut, h1, tget, h2, h3, ih]
    · simp [tcut, h1]

omit [DecidableEq α] in
/-- Up to its key a cut leaves nothing listed. -/
theorem tget_tcut_below {k i : Nat} (h : i ≤ k) (t : Tbl α) : tget d (tcut k t) i = d i := by
  induction t with
  | nil => rfl
  | cons p r ih =>
    obtain ⟨j, w⟩ := p
    by_cases h1 : j ≤ k
    · simp [tcut, h1, ih]
    · have h2 : j ≠ i := by omega
      have h3 : i < j := by omega
      simp [tcut, h1, tget, h2, h3]

/-- A cut of a store above its key is the store. -/
theorem tcut_above {k : Nat} {t : Tbl α} (c : tcanonAbove d (some k) t = true) : tcut k t = t := by
  cases t with
  | nil => rfl
  | cons p r =>
    simp only [tcanonAbove, Bool.and_eq_true, decide_eq_true_eq] at c
    have h1 : ¬ p.1 ≤ k := by omega
    simp [tcut, h1]

/-- A put keeps the form above a bound below its key. -/
theorem tput_canonAbove {b : Option Nat} {k : Nat} {v : α} (hb : ∀ n, b = some n → n < k) {t : Tbl α} (c : tcanonAbove d b t = true) :
    tcanonAbove d b (tput d t k v) = true := by
  induction t generalizing b with
  | nil =>
    by_cases hv : v = d k
    · simp [tput, tcons, hv, tcanonAbove]
    · cases b with
      | none => simp [tput, tcons, hv, tcanonAbove]
      | some n => simp [tput, tcons, hv, tcanonAbove, hb n rfl]
  | cons p r ih =>
    obtain ⟨j, w⟩ := p
    simp only [tcanonAbove, Bool.and_eq_true, decide_eq_true_eq] at c
    by_cases h1 : k < j
    · by_cases hv : v = d k
      · simp only [tput, h1, if_true, tcons, hv, if_true]
        simp only [tcanonAbove, Bool.and_eq_true, decide_eq_true_eq]; exact c
      · simp only [tput, h1, if_true, tcons, if_neg hv]
        simp only [tcanonAbove, Bool.and_eq_true, decide_eq_true_eq]
        refine ⟨⟨?_, hv⟩, ⟨h1, c.1.2⟩, c.2⟩
        cases b with
        | none => rfl
        | some n => simpa using hb n rfl
    · by_cases h2 : j = k
      · subst h2
        by_cases hv : v = d j
        · simp only [tput, h1, if_false, if_true, tcons, hv, tcut_above c.2]
          cases b with
          | none => exact tcanonAbove_none c.2
          | some n => exact tcanonAbove_mono (Nat.le_of_lt (hb n rfl)) c.2
        · simp only [tput, h1, if_false, if_true, tcons, if_neg hv, tcut_above c.2]
          simp only [tcanonAbove, Bool.and_eq_true, decide_eq_true_eq]
          exact ⟨⟨c.1.1, hv⟩, c.2⟩
      · have h3 : j < k := by omega
        simp only [tput, h1, if_false, h2]
        simp only [tcanonAbove, Bool.and_eq_true, decide_eq_true_eq]
        exact ⟨c.1, ih (fun n hn => by cases hn; exact h3) c.2⟩

/-- A put keeps the canonical form. -/
theorem tput_canon {t : Tbl α} (k : Nat) (v : α) (c : tcanon d t = true) : tcanon d (tput d t k v) = true :=
  tput_canonAbove (fun _ h => by cases h) c

/-- What a put wrote is read. -/
@[simp] theorem tget_tput_same (t : Tbl α) (k : Nat) (v : α) : tget d (tput d t k v) k = v := by
  induction t with
  | nil => by_cases hv : v = d k <;> simp [tput, tcons, hv, tget]
  | cons p r ih =>
    obtain ⟨j, w⟩ := p
    by_cases h1 : k < j
    · have h4 : j ≠ k := by omega
      by_cases hv : v = d k <;> simp [tput, h1, tcons, hv, tget, h4]
    · by_cases h2 : j = k
      · subst h2
        by_cases hv : v = d j
        · simp [tput, tcons, hv, tget_tcut_below]
        · simp [tput, tcons, hv, tget]
      · simp only [tput, h1, if_false, h2, tget]
        exact ih

/-- A put leaves every other key as it was. -/
theorem tget_tput_ne (t : Tbl α) {k i : Nat} (v : α) (h : i ≠ k) : tget d (tput d t k v) i = tget d t i := by
  have hki : k ≠ i := fun e => h e.symm
  induction t with
  | nil => by_cases hv : v = d k <;> simp [tput, tcons, hv, tget, hki]
  | cons p r ih =>
    obtain ⟨j, w⟩ := p
    by_cases h1 : k < j
    · by_cases hv : v = d k
      · simp [tput, h1, tcons, hv]
      · simp only [tput, h1, if_true, tcons, if_neg hv, tget, hki, if_false]
        by_cases h3 : i < k
        · have h4 : j ≠ i := by omega
          have h5 : i < j := by omega
          simp [h3, h4, h5]
        · simp [h3]
    · by_cases h2 : j = k
      · subst h2
        by_cases h3 : i < j
        · by_cases hv : v = d j <;> simp [tput, tcons, hv, tget, hki, h3, tget_tcut_below (Nat.le_of_lt h3)]
        · have h4 : j < i := by omega
          by_cases hv : v = d j <;> simp [tput, tcons, hv, tget, hki, h3, tget_tcut_above h4]
      · simp only [tput, h1, if_false, h2, tget]
        by_cases h3 : j = i
        · simp [h3]
        · by_cases h4 : i < j
          · simp [h4]
          · simp [h3, h4, ih]

/-- Reading after a put. -/
theorem tget_tput (t : Tbl α) (k i : Nat) (v : α) : tget d (tput d t k v) i = if i = k then v else tget d t i := by
  by_cases h : i = k
  · simp [h]
  · simp [h, tget_tput_ne]

omit [DecidableEq α] in
/-- A key that is not listed reads its default. -/
theorem tget_unlisted {k : Nat} {t : Tbl α} (h : k ∉ tkeys t) : tget d t k = d k := by
  induction t with
  | nil => rfl
  | cons p r ih =>
    simp only [tkeys, List.map_cons, List.mem_cons, not_or] at h
    have h1 : p.1 ≠ k := fun e => h.1 e.symm
    simp only [tget, h1, if_false]
    split
    · rfl
    · exact ih h.2

/-- A part of a store above a bound is above it. -/
theorem tfilter_canonAbove {b : Option Nat} {t : Tbl α} (p : Nat × α → Bool) (c : tcanonAbove d b t = true) :
    tcanonAbove d b (t.filter p) = true := by
  induction t generalizing b with
  | nil => simpa using c
  | cons q r ih =>
    simp only [tcanonAbove, Bool.and_eq_true, decide_eq_true_eq] at c
    by_cases hq : p q = true
    · simp only [List.filter_cons, hq, if_true, tcanonAbove, Bool.and_eq_true, decide_eq_true_eq]
      exact ⟨c.1, ih c.2⟩
    · simp only [List.filter_cons, hq]
      cases b with
      | none => exact tcanonAbove_none (ih c.2)
      | some n =>
        have hn : n < q.1 := by simpa using c.1.1
        exact tcanonAbove_mono (Nat.le_of_lt hn) (ih c.2)

/-- A part of a canonical store is canonical. -/
theorem tfilter_canon {t : Tbl α} (p : Nat × α → Bool) (c : tcanon d t = true) : tcanon d (t.filter p) = true := tfilter_canonAbove p c

/-- A store built by puts is canonical. -/
theorem tputs_canon (f : Nat → α) (l : List Nat) (t : Tbl α) (c : tcanon d t = true) : tcanon d (l.foldl (fun m k => tput d m k (f k)) t) = true := by
  induction l generalizing t with
  | nil => exact c
  | cons p r ih => exact ih _ (tput_canon _ _ c)

/-- A store built by puts reads what was put, and elsewhere as before. -/
theorem tget_tputs (f : Nat → α) (l : List Nat) (t : Tbl α) (i : Nat) :
    tget d (l.foldl (fun m k => tput d m k (f k)) t) i = if i ∈ l then f i else tget d t i := by
  induction l generalizing t with
  | nil => simp
  | cons k r ih =>
    rw [List.foldl_cons, ih, tget_tput]
    by_cases h : i ∈ r
    · simp [h]
    · by_cases e : i = k <;> simp [h, e]

/-- A byte written keeps a memory's canonical form. -/
theorem mput_wf {m : List Host.Cell} (a : Nat) (b : Byte) (c : Memory.wf m = true) : Memory.wf (mput m a b) = true := tput_canon a b c

/-- A run of bytes written keeps a memory's canonical form. -/
theorem mputs_wf {m : List Host.Cell} (a : Nat) (l : List Byte) (c : Memory.wf m = true) : Memory.wf (mputs m a l) = true := by
  induction l generalizing m a with
  | nil => exact c
  | cons b r ih => exact ih _ (mput_wf a b c)

/-- A number written keeps a memory's canonical form. -/
theorem mwrite_wf {m : List Host.Cell} (a n v : Nat) (c : Memory.wf m = true) : Memory.wf (mwrite m a n v) = true := mputs_wf a _ c

/-- The byte written is read. -/
@[simp] theorem mget_mput_same (m : List Host.Cell) (a : Nat) (b : Byte) : mget (mput m a b) a = b := tget_tput_same m a b

/-- Every other byte is as it was. -/
theorem mget_mput_ne (m : List Host.Cell) {a i : Nat} (b : Byte) (h : i ≠ a) : mget (mput m a b) i = mget m i := tget_tput_ne m b h

/-- An empty store is canonical. -/
theorem tcanon_nil : tcanon d ([] : Tbl α) = true := rfl

end Sys2Proof.Machine
end

