-- ==== Sys2Proof/Laws/Regs.lean ====
section
/-! SUPPORT. Registers, counters, LIVE and STATUS bits: what is read after what was written, and that every operation keeps the canonical
form. -/
namespace Sys2Proof.Machine
open Sys2Proof

/-! ### Bit fields -/

/-- A word with a field replaced, by powers of two. -/
theorem setBits_eq (x lo w v : Nat) : setBits x lo w v = x % 2 ^ lo + 2 ^ lo * (v % 2 ^ w + 2 ^ w * (x / 2 ^ (lo + w))) := by
  rw [setBits, Nat.pow_add]
  generalize x / (2 ^ lo * 2 ^ w) = q
  generalize v % 2 ^ w = r
  generalize x % 2 ^ lo = m
  rw [Nat.mul_add, Nat.mul_comm r, Nat.add_assoc, Nat.mul_comm q, Nat.mul_assoc]
/-- The field written is read. -/
theorem bits_setBits_same (x lo w v : Nat) : bits (setBits x lo w v) lo w = v % 2 ^ w := by
  have h1 : x % 2 ^ lo < 2 ^ lo := Nat.mod_lt _ (Nat.two_pow_pos lo)
  rw [bits, setBits_eq, Nat.add_mul_div_left _ _ (Nat.two_pow_pos lo), Nat.div_eq_of_lt h1, Nat.zero_add, Nat.add_mul_mod_self_left, Nat.mod_mod]

/-- A field below is as it was. -/
theorem bits_setBits_below {x lo w v l k : Nat} (h : l + k ≤ lo) : bits (setBits x lo w v) l k = bits x l k := by
  apply Nat.eq_of_testBit_eq
  intro i
  simp only [bits, Nat.testBit_mod_two_pow, Nat.testBit_div_two_pow]
  by_cases hi : i < k
  · have h2 : i + l < lo := by omega
    rw [setBits_eq, Nat.add_comm (x % 2 ^ lo), Nat.testBit_two_pow_mul_add _ (Nat.mod_lt _ (Nat.two_pow_pos _))]
    simp [h2, hi, Nat.testBit_mod_two_pow]
  · simp [hi]

/-- A field above is as it was. -/
theorem bits_setBits_above {x lo w v l k : Nat} (h : lo + w ≤ l) : bits (setBits x lo w v) l k = bits x l k := by
  obtain ⟨m, rfl⟩ := Nat.exists_eq_add_of_le h
  have h1 : x % 2 ^ lo + (v % 2 ^ w) * 2 ^ lo < 2 ^ (lo + w) := by
    have a : x % 2 ^ lo < 2 ^ lo := Nat.mod_lt _ (Nat.two_pow_pos lo)
    have b : v % 2 ^ w + 1 ≤ 2 ^ w := Nat.mod_lt _ (Nat.two_pow_pos w)
    calc x % 2 ^ lo + (v % 2 ^ w) * 2 ^ lo < 2 ^ lo + (v % 2 ^ w) * 2 ^ lo := by omega
      _ = (v % 2 ^ w + 1) * 2 ^ lo := by rw [Nat.add_mul, Nat.one_mul, Nat.add_comm]
      _ ≤ 2 ^ w * 2 ^ lo := Nat.mul_le_mul_right _ b
      _ = 2 ^ (lo + w) := by rw [Nat.pow_add, Nat.mul_comm]
  have e : setBits x lo w v / 2 ^ (lo + w) = x / 2 ^ (lo + w) := by
    rw [setBits, Nat.add_mul_div_right _ _ (Nat.two_pow_pos (lo + w)), Nat.div_eq_of_lt h1, Nat.zero_add]
  rw [bits, bits, Nat.pow_add 2 (lo + w) m, ← Nat.div_div_eq_div_mul, ← Nat.div_div_eq_div_mul, e]

/-- A word with a field replaced is a word. -/
theorem setBits_lt {x lo w v n : Nat} (h : lo + w ≤ n) (hx : x < 2 ^ n) : setBits x lo w v < 2 ^ n := by
  apply Nat.lt_pow_two_of_testBit
  intro i hi
  have e : bits (setBits x lo w v) i 1 = bits x i 1 := bits_setBits_above (by omega)
  have t (y : Nat) : y.testBit i = (bits y i 1).testBit 0 := by
    rw [bits, Nat.testBit_mod_two_pow, Nat.testBit_div_two_pow, Nat.zero_add]; rfl
  rw [t, e, ← t]
  exact Nat.testBit_lt_two_pow (Nat.lt_of_lt_of_le hx (Nat.pow_le_pow_right (by omega) hi))

/-! ### The canonical form -/

/-- The parts of the canonical form. -/
theorem State.wf_iff (s : State) : s.wf = true ↔
    tcanon resetWord s.regs = true ∧ tcanon (fun _ => 0) s.ctrs = true ∧ Memory.wf s.jrm.trail = true ∧ Memory.wf s.und.mem = true ∧
    tcanon (fun _ => ({} : CtxH)) s.jrm.ctx = true := by
  simp [State.wf, Bool.and_eq_true, and_assoc]
/-- The registers of a state in canonical form. -/
theorem State.wf_regs {s : State} (h : s.wf = true) : tcanon resetWord s.regs = true := (s.wf_iff.1 h).1
/-- The counters of a state in canonical form. -/
theorem State.wf_ctrs {s : State} (h : s.wf = true) : tcanon (fun _ => 0) s.ctrs = true := (s.wf_iff.1 h).2.1
/-- A state whose stores are those of one in canonical form is in it. -/
theorem State.wf_of_eq {s z : State} (h : s.wf = true) (a : z.regs = s.regs) (b : z.ctrs = s.ctrs) (c : z.jrm = s.jrm) (d : z.und = s.und) :
    z.wf = true := by simp only [State.wf, a, b, c, d]; exact h

@[simp] theorem State.at_wf {s : State} (t : Nat) : (s.at_ t).wf = s.wf := rfl
@[simp] theorem State.emit_wf {s : State} (o : Out) : (s.emit o).wf = s.wf := rfl
@[simp] theorem State.offer_wf {s : State} (e : EvRec) : (s.offer e).wf = s.wf := rfl
@[simp] theorem State.log_wf {s : State} (t c x y : Nat) : (s.log t c x y).wf = s.wf := rfl
@[simp] theorem State.logSev_wf {s : State} (t v c x y : Nat) : (s.logSev t v c x y).wf = s.wf := rfl
@[simp] theorem State.setStat_wf {s : State} (a : Nat) (r : StatRec) : (s.setStat a r).wf = s.wf := rfl
theorem State.setWord_wf {s : State} (a w : Nat) (h : s.wf = true) : (s.setWord a w).wf = true := by
  rw [State.wf_iff] at h ⊢; exact ⟨tput_canon _ _ h.1, h.2⟩
theorem State.rset_wf {s : State} (f : RF) (v : Nat) (h : s.wf = true) : (s.rset f v).wf = true := State.setWord_wf _ _ h
theorem State.rsetb_wf {s : State} (f : RF) (b : Bool) (h : s.wf = true) : (s.rsetb f b).wf = true := State.setWord_wf _ _ h
theorem State.setDtsWords_wf {s : State} (a t : Nat) (h : s.wf = true) : (s.setDtsWords a t).wf = true :=
  State.setWord_wf _ _ (State.setWord_wf _ _ (State.setWord_wf _ _ h))
theorem State.cadd_wf {s : State} (a n : Nat) (h : s.wf = true) : (s.cadd a n).wf = true := by
  rw [State.wf_iff] at h ⊢; exact ⟨h.1, tput_canon _ _ h.2.1, h.2.2⟩
theorem State.cinc_wf {s : State} (a : Nat) (h : s.wf = true) : (s.cinc a).wf = true := State.cadd_wf _ _ h
theorem State.statSet_wf {s : State} (a b t : Nat) (h : s.wf = true) : (s.statSet a b t).wf = true := by
  unfold State.statSet
  dsimp only
  split
  · exact h
  · split
    · exact State.setDtsWords_wf _ _ (State.setWord_wf _ _ h)
    · exact State.setWord_wf _ _ h
theorem State.liveRaw_wf {s : State} (t : Nat) (f : RF) (src : Nat) (on : Bool) (h : s.wf = true) : (s.liveRaw t f src on).wf = true := by
  unfold State.liveRaw
  dsimp only
  split
  · exact h
  · split
    · exact State.statSet_wf _ _ _ (State.rsetb_wf _ _ h)
    · exact State.rsetb_wf _ _ h
theorem State.statFollow_wf {s : State} (t a : Nat) (h : s.wf = true) : (s.statFollow t a).wf = true := by
  unfold State.statFollow
  split
  · exact State.liveRaw_wf _ _ _ _ (State.rsetb_wf _ _ h)
  · exact h
theorem State.live_wf {s : State} (t : Nat) (f : RF) (src : Nat) (on : Bool) (h : s.wf = true) : (s.live t f src on).wf = true :=
  State.statFollow_wf _ _ (State.liveRaw_wf _ _ _ _ h)
theorem State.sticky_wf {s : State} (t : Nat) (f : RF) (h : s.wf = true) : (s.sticky t f).wf = true :=
  State.statFollow_wf _ _ (State.statSet_wf _ _ _ h)
theorem State.pulseFor_wf {s : State} (t : Nat) (f : RF) (src d : Nat) (h : s.wf = true) : (s.pulseFor t f src d).wf = true :=
  State.statSet_wf _ _ _ (State.live_wf _ _ _ _ h)
theorem State.pulse_wf {s : State} (t : Nat) (f : RF) (src : Nat) (h : s.wf = true) : (s.pulse t f src).wf = true := State.pulseFor_wf _ _ _ _ h

/-- A store made tidy is canonical. -/
theorem tidyT_canon {α : Type} [DecidableEq α] (d : Nat → α) (t : Tbl α) : tcanon d (tidyT d t) = true := by
  unfold tidyT
  split
  · assumption
  · exact tputs_canon _ _ _ tcanon_nil
/-- A store made tidy reads as it did. -/
@[simp] theorem tget_tidyT {α : Type} [DecidableEq α] (d : Nat → α) (t : Tbl α) (k : Nat) : tget d (tidyT d t) k = tget d t k := by
  unfold tidyT
  split
  · rfl
  · rw [tget_tputs]
    by_cases h : k ∈ tkeys t
    · simp [h]
    · simp [h, tget_unlisted h, tget]
/-- A state made tidy is in canonical form. -/
theorem State.tidy_isWf (s : State) : s.tidy.wf = true := by
  unfold State.tidy
  split
  · assumption
  · rw [State.wf_iff]; exact ⟨tidyT_canon _ _, tidyT_canon _ _, tidyT_canon _ _, tidyT_canon _ _, tidyT_canon _ _⟩
/-- Every step ends in canonical form. -/
theorem State.ended_wf (s z : State) (n : Nat) : (s.ended z n).wf = true :=
  State.wf_of_eq (State.tidy_isWf z) (by simp [State.ended]) (by simp [State.ended]) (by simp [State.ended]) (by simp [State.ended])

/-! ### Registers -/

@[simp] theorem State.word_setWord_same (s : State) (a w : Nat) : (s.setWord a w).word a = BitVec.ofNat 32 w := tget_tput_same _ _ _
theorem State.word_setWord_ne (s : State) {a b : Nat} (w : Nat) (n : b ≠ a) : (s.setWord a w).word b = s.word b := tget_tput_ne _ _ n
@[simp] theorem State.wordN_setWord_same (s : State) (a w : Nat) : (s.setWord a w).wordN a = w % 2 ^ 32 := by
  rw [State.wordN, State.word_setWord_same, BitVec.toNat_ofNat]
theorem State.wordN_setWord_ne (s : State) {a b : Nat} (w : Nat) (n : b ≠ a) : (s.setWord a w).wordN b = s.wordN b := by
  rw [State.wordN, State.word_setWord_ne _ _ n, State.wordN]
/-- A word after a word is written. -/
theorem State.wordN_setWord (s : State) (a b w : Nat) : (s.setWord a w).wordN b = if b = a then w % 2 ^ 32 else s.wordN b := by
  by_cases h : b = a
  · simp [h]
  · simp [h, State.wordN_setWord_ne]
theorem State.wordN_lt (s : State) (a : Nat) : s.wordN a < 2 ^ 32 := (s.word a).isLt
/-- A word after a field is written. -/
theorem State.wordN_rset_ne (s : State) {f : RF} {b : Nat} (v : Nat) (n : b ≠ f.addr) : (s.rset f v).wordN b = s.wordN b := s.wordN_setWord_ne _ n
theorem State.wordN_rsetb_ne (s : State) {f : RF} {b : Nat} (v : Bool) (n : b ≠ f.addr) : (s.rsetb f v).wordN b = s.wordN b := s.wordN_setWord_ne _ n

/-- The field written is read. -/
theorem State.rget_rset_same (s : State) {f : RF} (v : Nat) (hf : f.lo + f.w ≤ 32) : (s.rset f v).rget f = v % 2 ^ f.w := by
  rw [State.rget, State.rset, State.wordN_setWord_same, Nat.mod_eq_of_lt (setBits_lt hf (s.wordN_lt _)), bits_setBits_same]
/-- A field of another word is as it was. -/
theorem State.rget_rset_ne (s : State) {f g : RF} (v : Nat) (n : g.addr ≠ f.addr) : (s.rset f v).rget g = s.rget g := by
  rw [State.rget, State.rset, State.wordN_setWord_ne _ _ n, State.rget]
/-- Another field of the same word is as it was. -/
theorem State.rget_rset_apart (s : State) {f g : RF} (v : Nat) (e : g.addr = f.addr) (hf : f.lo + f.w ≤ 32)
    (n : g.lo + g.w ≤ f.lo ∨ f.lo + f.w ≤ g.lo) : (s.rset f v).rget g = s.rget g := by
  rw [State.rget, State.rset, e, State.wordN_setWord_same, Nat.mod_eq_of_lt (setBits_lt hf (s.wordN_lt _)), State.rget, e]
  rcases n with n | n
  · exact bits_setBits_below n
  · exact bits_setBits_above n
/-- The bit written is read. -/
theorem State.rbit_rsetb_same (s : State) {f : RF} (b : Bool) (hf : f.lo < 32) (hw : f.w = 1) : (s.rsetb f b).rbit f = b := by
  rw [State.rbit, State.rsetb, State.rget_rset_same _ _ (by omega), hw]
  cases b <;> simp [b2n]
/-- A bit of another word is as it was. -/
theorem State.rbit_rsetb_ne (s : State) {f g : RF} (b : Bool) (n : g.addr ≠ f.addr) : (s.rsetb f b).rbit g = s.rbit g := by
  rw [State.rbit, State.rsetb, State.rget_rset_ne _ _ n, State.rbit]
/-- A word outside the three of a DTS is as it was. -/
theorem State.wordN_setDtsWords_ne (s : State) {a b : Nat} (t : Nat) (n0 : b ≠ a) (n1 : b ≠ a + 4) (n2 : b ≠ a + 8) :
    (s.setDtsWords a t).wordN b = s.wordN b := by
  rw [State.setDtsWords, State.wordN_setWord_ne _ _ n2, State.wordN_setWord_ne _ _ n1, State.wordN_setWord_ne _ _ n0]

/-! ### Counters -/

@[simp] theorem State.cget_cadd_same (s : State) (a n : Nat) : (s.cadd a n).cget a = (s.cget a + n) % 2 ^ 48 := tget_tput_same _ _ _
theorem State.cget_cadd_ne (s : State) {a b : Nat} (n : Nat) (e : b ≠ a) : (s.cadd a n).cget b = s.cget b := tget_tput_ne _ _ e
@[simp] theorem State.cget_cinc_same (s : State) (a : Nat) : (s.cinc a).cget a = (s.cget a + 1) % 2 ^ 48 := s.cget_cadd_same a 1
theorem State.cget_cinc_ne (s : State) {a b : Nat} (e : b ≠ a) : (s.cinc a).cget b = s.cget b := s.cget_cadd_ne 1 e

/-! ### Reads that updates of other state leave -/

@[simp] theorem State.wordN_at (s : State) (t a : Nat) : (s.at_ t).wordN a = s.wordN a := rfl
@[simp] theorem State.rget_at (s : State) (t : Nat) (f : RF) : (s.at_ t).rget f = s.rget f := rfl
@[simp] theorem State.rbit_at (s : State) (t : Nat) (f : RF) : (s.at_ t).rbit f = s.rbit f := rfl
@[simp] theorem State.cget_at (s : State) (t a : Nat) : (s.at_ t).cget a = s.cget a := rfl
@[simp] theorem State.wordN_log (s : State) (t c x y a : Nat) : (s.log t c x y).wordN a = s.wordN a := rfl
@[simp] theorem State.rget_log (s : State) (t c x y : Nat) (f : RF) : (s.log t c x y).rget f = s.rget f := rfl
@[simp] theorem State.rbit_log (s : State) (t c x y : Nat) (f : RF) : (s.log t c x y).rbit f = s.rbit f := rfl
@[simp] theorem State.cget_log (s : State) (t c x y a : Nat) : (s.log t c x y).cget a = s.cget a := rfl
@[simp] theorem State.wordN_emit (s : State) (o : Out) (a : Nat) : (s.emit o).wordN a = s.wordN a := rfl
@[simp] theorem State.rget_emit (s : State) (o : Out) (f : RF) : (s.emit o).rget f = s.rget f := rfl
@[simp] theorem State.rbit_emit (s : State) (o : Out) (f : RF) : (s.emit o).rbit f = s.rbit f := rfl
@[simp] theorem State.cget_emit (s : State) (o : Out) (a : Nat) : (s.emit o).cget a = s.cget a := rfl
@[simp] theorem State.wordN_cadd (s : State) (c n a : Nat) : (s.cadd c n).wordN a = s.wordN a := rfl
@[simp] theorem State.rget_cadd (s : State) (c n : Nat) (f : RF) : (s.cadd c n).rget f = s.rget f := rfl
@[simp] theorem State.rbit_cadd (s : State) (c n : Nat) (f : RF) : (s.cadd c n).rbit f = s.rbit f := rfl
@[simp] theorem State.wordN_cinc (s : State) (c a : Nat) : (s.cinc c).wordN a = s.wordN a := rfl
@[simp] theorem State.rget_cinc (s : State) (c : Nat) (f : RF) : (s.cinc c).rget f = s.rget f := rfl
@[simp] theorem State.rbit_cinc (s : State) (c : Nat) (f : RF) : (s.cinc c).rbit f = s.rbit f := rfl
@[simp] theorem State.cget_setWord (s : State) (a w c : Nat) : (s.setWord a w).cget c = s.cget c := rfl
@[simp] theorem State.cget_rset (s : State) (f : RF) (v c : Nat) : (s.rset f v).cget c = s.cget c := rfl
@[simp] theorem State.cget_rsetb (s : State) (f : RF) (b : Bool) (c : Nat) : (s.rsetb f b).cget c = s.cget c := rfl

/-! ### LIVE and STATUS -/

/-- The words a setting of a STATUS bit may change: the register and its first-set DTS. -/
theorem State.wordN_statSet_ne (s : State) {a c : Nat} (b t : Nat) (n0 : c ≠ a) (n1 : c ≠ a + 4) (n2 : c ≠ a + 8) (n3 : c ≠ a + 12) :
    (s.statSet a b t).wordN c = s.wordN c := by
  unfold State.statSet
  dsimp only
  split
  · rfl
  · split
    · rw [State.wordN_setDtsWords_ne _ _ n1 n2 n3, State.wordN_setWord_ne _ _ n0]; rfl
    · rw [State.wordN_setWord_ne _ _ n0]; rfl
/-- A LIVE bit has the level it takes. -/
theorem State.rbit_liveRaw_same (s : State) {f : RF} (t src : Nat) (on : Bool) (hf : f.lo < 32) (hw : f.w = 1) :
    (s.liveRaw t f src on).rbit f = on := by
  unfold State.liveRaw
  dsimp only
  split
  · assumption
  · split
    · rw [State.rbit, State.rget, State.wordN_statSet_ne _ _ _ (by omega) (by omega) (by omega) (by omega)]
      exact State.rbit_rsetb_same s on hf hw
    · rename_i g
      have g' : on = false := by simpa using g
      rw [g']
      exact State.rbit_rsetb_same s false hf hw
/-- A word that a LIVE bit's change does not touch. -/
theorem State.wordN_liveRaw_ne (s : State) {f : RF} {c : Nat} (t src : Nat) (on : Bool) (n0 : c ≠ f.addr) (n1 : c ≠ f.addr + 4)
    (n2 : c ≠ f.addr + 8) (n3 : c ≠ f.addr + 12) (n4 : c ≠ f.addr + 16) : (s.liveRaw t f src on).wordN c = s.wordN c := by
  unfold State.liveRaw
  dsimp only
  split
  · rfl
  · split
    · rw [State.wordN_statSet_ne _ _ _ (by omega) (by omega) (by omega) (by omega)]
      exact s.wordN_setWord_ne _ n0
    · exact s.wordN_setWord_ne _ n0
/-- A LIVE bit's level leaves the other bits of its register. -/
theorem State.rget_liveRaw_apart (s : State) {f g : RF} (t src : Nat) (on : Bool) (e : g.addr = f.addr) (hf : f.lo < 32) (hw : f.w = 1)
    (n : g.lo + g.w ≤ f.lo ∨ f.lo + f.w ≤ g.lo) : (s.liveRaw t f src on).rget g = s.rget g := by
  have h : (s.rsetb f on).rget g = s.rget g := s.rget_rset_apart _ e (by omega) n
  unfold State.liveRaw
  dsimp only
  split
  · rfl
  · split
    · rw [State.rget, State.wordN_statSet_ne _ _ _ (by omega) (by omega) (by omega) (by omega)]; exact h
    · exact h
/-- Only the STATUS registers of queue groups have a summary that follows them. -/
theorem State.statFollow_id (s : State) {a : Nat} (t : Nat) (n : famIndex a (Reg.QUE_GRP_STATUS 0) 256 0x40 1 4 = none) : s.statFollow t a = s := by
  simp [State.statFollow, n]
/-- A LIVE bit has the level it takes, queue groups apart. -/
theorem State.rbit_live_same (s : State) {f : RF} (t src : Nat) (on : Bool) (hf : f.lo < 32) (hw : f.w = 1)
    (n : famIndex (f.addr + 4) (Reg.QUE_GRP_STATUS 0) 256 0x40 1 4 = none) : (s.live t f src on).rbit f = on := by
  rw [State.live, State.statFollow_id _ _ n]; exact s.rbit_liveRaw_same _ _ _ hf hw
/-- A word that a LIVE bit's change does not touch, queue groups apart. -/
theorem State.wordN_live_ne (s : State) {f : RF} {c : Nat} (t src : Nat) (on : Bool) (n0 : c ≠ f.addr) (n1 : c ≠ f.addr + 4) (n2 : c ≠ f.addr + 8)
    (n3 : c ≠ f.addr + 12) (n4 : c ≠ f.addr + 16) (n : famIndex (f.addr + 4) (Reg.QUE_GRP_STATUS 0) 256 0x40 1 4 = none) :
    (s.live t f src on).wordN c = s.wordN c := by
  rw [State.live, State.statFollow_id _ _ n]; exact s.wordN_liveRaw_ne _ _ _ n0 n1 n2 n3 n4
/-- The other bits of its register, queue groups apart. -/
theorem State.rget_live_apart (s : State) {f g : RF} (t src : Nat) (on : Bool) (e : g.addr = f.addr) (hf : f.lo < 32) (hw : f.w = 1)
    (n : g.lo + g.w ≤ f.lo ∨ f.lo + f.w ≤ g.lo) (q : famIndex (f.addr + 4) (Reg.QUE_GRP_STATUS 0) 256 0x40 1 4 = none) :
    (s.live t f src on).rget g = s.rget g := by
  rw [State.live, State.statFollow_id _ _ q]; exact s.rget_liveRaw_apart _ _ _ e hf hw n
/-- A bit of the "in the last 1 ms" kind rises. -/
theorem State.rbit_pulse_same (s : State) {f : RF} (t src : Nat) (hf : f.lo < 32) (hw : f.w = 1)
    (n : famIndex (f.addr + 4) (Reg.QUE_GRP_STATUS 0) 256 0x40 1 4 = none) : (s.pulse t f src).rbit f = true := by
  have h : ∀ z : State, (z.statSet (f.addr + 4) f.lo t).rbit f = z.rbit f := fun z => by
    rw [State.rbit, State.rget, State.wordN_statSet_ne _ _ _ (by omega) (by omega) (by omega) (by omega)]; rfl
  exact (h _).trans (s.rbit_live_same t src true hf hw n)
/-- A word that such a bit's rise does not touch. -/
theorem State.wordN_pulse_ne (s : State) {f : RF} {c : Nat} (t src : Nat) (n0 : c ≠ f.addr) (n1 : c ≠ f.addr + 4) (n2 : c ≠ f.addr + 8)
    (n3 : c ≠ f.addr + 12) (n4 : c ≠ f.addr + 16) (n : famIndex (f.addr + 4) (Reg.QUE_GRP_STATUS 0) 256 0x40 1 4 = none) :
    (s.pulse t f src).wordN c = s.wordN c := by
  refine (State.wordN_statSet_ne _ _ _ n1 (by omega) (by omega) (by omega)).trans ?_
  exact s.wordN_live_ne t src true n0 n1 n2 n3 n4 n
@[simp] theorem State.cget_statSet (s : State) (a b t c : Nat) : (s.statSet a b t).cget c = s.cget c := by
  unfold State.statSet; dsimp only; split
  · rfl
  · split <;> rfl
@[simp] theorem State.cget_liveRaw (s : State) (t : Nat) (f : RF) (src : Nat) (on : Bool) (c : Nat) : (s.liveRaw t f src on).cget c = s.cget c := by
  unfold State.liveRaw; dsimp only; split
  · rfl
  · split
    · rw [State.cget_statSet]; rfl
    · rfl
@[simp] theorem State.cget_live (s : State) (t : Nat) (f : RF) (src : Nat) (on : Bool) (c : Nat) : (s.live t f src on).cget c = s.cget c := by
  unfold State.live State.statFollow
  split
  · rw [State.grpSum, State.cget_liveRaw, State.cget_rsetb, State.cget_liveRaw]
  · exact s.cget_liveRaw _ _ _ _ _
@[simp] theorem State.cget_pulse (s : State) (t : Nat) (f : RF) (src : Nat) (c : Nat) : (s.pulse t f src).cget c = s.cget c := by
  have h : (s.pulse t f src).cget c = ((s.live t f src true).statSet (f.addr + 4) f.lo t).cget c := rfl
  rw [h, State.cget_statSet, State.cget_live]

/-! ### What every step gives -/

/-- An ordinary step answers a next state. -/
theorem event_next (t : Nat) (f : State → State) (s : State) : event t f s = .next (s.ended (f (s.at_ t)) (max s.dts t)) := rfl
/-- A step that sets the time answers a next state. -/
theorem timeEvent_next (t : Nat) (f : State → State) (s : State) : timeEvent t f s = .next (s.ended (f (s.at_ t)) (f (s.at_ t)).dts) := rfl
/-- Registers read the same in the canonical form. -/
@[simp] theorem State.word_tidy (s : State) (a : Nat) : s.tidy.word a = s.word a := by
  unfold State.tidy
  split
  · rfl
  · exact tget_tidyT _ _ _
/-- Counters read the same in the canonical form. -/
@[simp] theorem State.cget_tidy (s : State) (a : Nat) : s.tidy.cget a = s.cget a := by
  unfold State.tidy
  split
  · rfl
  · exact tget_tidyT _ _ _
/-- A word after a step is the effect's. -/
@[simp] theorem State.word_ended (s z : State) (n a : Nat) : (s.ended z n).word a = z.word a := by
  rw [← State.word_tidy z a]; simp [State.ended, State.word]
/-- A word after a step is the effect's. -/
@[simp] theorem State.wordN_ended (s z : State) (n a : Nat) : (s.ended z n).wordN a = z.wordN a := by
  rw [State.wordN, State.word_ended, State.wordN]
/-- A field after a step is the effect's. -/
@[simp] theorem State.rget_ended (s z : State) (n : Nat) (f : RF) : (s.ended z n).rget f = z.rget f := by
  rw [State.rget, State.wordN_ended, State.rget]
/-- A bit after a step is the effect's. -/
@[simp] theorem State.rbit_ended (s z : State) (n : Nat) (f : RF) : (s.ended z n).rbit f = z.rbit f := by
  rw [State.rbit, State.rget_ended, State.rbit]
/-- A counter after a step is the effect's. -/
@[simp] theorem State.cget_ended (s z : State) (n a : Nat) : (s.ended z n).cget a = z.cget a := by
  rw [← State.cget_tidy z a]; simp [State.ended, State.cget]
/-- The routine machine after a step is the effect's, its trail table and contexts in canonical form. -/
@[simp] theorem State.jrm_ended (s z : State) (n : Nat) :
    (s.ended z n).jrm = { z.jrm with trail := tidyT (fun _ => 0) z.jrm.trail, ctx := tidyT (fun _ => {}) z.jrm.ctx } := by
  have h : z.tidy.jrm = { z.jrm with trail := tidyT (fun _ => 0) z.jrm.trail, ctx := tidyT (fun _ => {}) z.jrm.ctx } := by
    unfold State.tidy
    split
    · rename_i g
      have g' : tcanon (fun _ => 0) z.jrm.trail = true := (z.wf_iff.1 g).2.2.1
      have e : tidyT (fun _ => 0) z.jrm.trail = z.jrm.trail := if_pos g'
      have f : tidyT (fun _ => ({} : CtxH)) z.jrm.ctx = z.jrm.ctx := if_pos (z.wf_iff.1 g).2.2.2.2
      rw [e, f]
    · rfl
  simp [State.ended, h]
/-- The Underpass after a step is the effect's, its memory in canonical form. -/
@[simp] theorem State.und_ended (s z : State) (n : Nat) : (s.ended z n).und = { z.und with mem := tidyT (fun _ => 0) z.und.mem } := by
  have h : z.tidy.und = { z.und with mem := tidyT (fun _ => 0) z.und.mem } := by
    unfold State.tidy
    split
    · rename_i g
      have g' : tcanon (fun _ => 0) z.und.mem = true := (z.wf_iff.1 g).2.2.2.1
      have e : tidyT (fun _ => 0) z.und.mem = z.und.mem := if_pos g'
      rw [e]
    · rfl
  simp [State.ended, h]
/-- A byte of a memory reads the same in the canonical form. -/
@[simp] theorem mget_tidyT (m : List Host.Cell) (a : Nat) : mget (tidyT (fun _ => 0) m) a = mget m a := tget_tidyT _ _ _
/-- What left the device in an effect has left it after the step. -/
theorem State.out_ended (s z : State) (n : Nat) {o : Out} (h : o ∈ z.out) : o ∈ (s.ended z n).out := by
  have fold : ∀ (l : List Nat) (y : State), o ∈ y.out → o ∈ (l.foldl State.msixSend y).out := by
    intro l
    induction l with
    | nil => exact fun _ h => h
    | cons v r ih =>
      intro y hy
      refine ih _ ?_
      unfold State.msixSend
      split
      · exact hy
      · exact List.mem_cons_of_mem _ hy
  have h' : o ∈ z.tidy.out := by unfold State.tidy; split <;> exact h
  show o ∈ z.tidy.settle.out
  unfold State.settle
  dsimp only
  split
  · exact h'
  · exact fold _ _ h'

end Sys2Proof.Machine
end

