-- ==== Sys2Proof/Safety.lean ====
section
/-! DEFINITION. What a settled state is, and what a safe run is. -/
namespace Sys2Proof.Machine
open Sys2Proof

/-- The interrupts are settled (17 R519, R520): the roll-up and the causes follow from the registers, and no vector has an armed cause
that is still to be sent. -/
def State.settled (s : State) : Bool :=
  s.irq.status == rollup s.regs && s.irq.cause == causes s.regs s.irq.status && (s.irq.cause &&& s.irq.armed) == 0

/-- n steps from s, each with a next state. -/
def safeRun : Nat → State → Bool
  | 0, _ => true
  | n + 1, s =>
    match step s with
    | .next s' => safeRun n s'
    | .fault _ => false
    | .refused _ => false

/-- A host write of one word to the BAR0 offset a that nothing refuses (17 R503). -/
def State.stores4 (s : State) (w : HostStore) (a : Nat) : Bool := (s.accessFault w.acc).isNone && w.acc.off == a && w.acc.size == 4

/-- Command i runs from s and leaves a next state with property P. -/
def Runs (i : Instr) (s : State) (P : State → Prop) : Prop := ∃ u, exec i s = .next u ∧ P u

/-! ### The command ring, as claims speak of it -/

/-- At t the next command of the ring passes the checks that every command passes (17 R509 to R512, R515, R26). -/
def State.cmdReady (s : State) (t : Nat) (d : Desc) : Bool :=
  s.ringReady t && s.rbit Reg.HCQ_STAT_HELLO_DONE && d.hcp == s.rget Reg.HCQ_STAT_HCP && d.resv.isNone && !d.fetchFail

/-- From s to u one descriptor is read and completion c is written at the next position of its ring (17 R508, R509, Table HST-7). -/
abbrev State.completes (s u : State) (c : CplRec) : Prop :=
  u.rget Reg.CMD_CI_V = (s.rget Reg.CMD_CI_V + 1) % 65536 ∧ u.rget Reg.CPL_PI_V = (s.rget Reg.CPL_PI_V + 1) % 65536 ∧
  Out.completion (s.rget Reg.CPL_PI_V % 2 ^ s.ringLog) (c.bytes (decide (s.rget Reg.CPL_PI_V / 2 ^ s.ringLog % 2 = 0))) ∈ u.out

/-- The completion of a command that took its effect at t. -/
def okCpl (d : Desc) (op t : Nat) : CplRec := ⟨d.tag, 0, op, noOfs, t, 0⟩

/-! ### Routines, as claims speak of them -/

/-- Context c executes instruction op with fields w in run r at t: the engine executes it, the word at its offset is this one, its guard
holds, and its cost keeps the run within WCSC (20 R558, R559, R562). -/
abbrev State.executes (s : State) (t c : Nat) (op : JOp) (w : JWord) (r : RunSt) : Prop :=
  s.running t c = some r ∧ atWord (s.cx c) r op w = true ∧ guardHolds r w = true ∧ r.steps + op.cost ≤ (s.cx c).bind.wcsc
/-- From s to u context c differs only in its run, which is r1 with the steps of op added to those of r and at offset n. -/
abbrev State.ranTo (s u : State) (c : Nat) (op : JOp) (r r1 : RunSt) (n : Nat) : Prop :=
  u.cx c = { s.cx c with run := some { r1 with steps := r.steps + op.cost, pc := n } }
/-- From s to u run r of context c traps with a code and an address (03 R91, Tables JRM-3, JRM-4). -/
abbrev State.trapped (u : State) (c code addr : Nat) (r : RunSt) : Prop :=
  (u.cx c).state = 2 ∧ (u.cx c).trapCode = code ∧ (u.cx c).trapAddr = addr % 2 ^ 32 ∧ (u.cx c).trapDts = r.rel ∧ (u.cx c).run = none ∧
  (u.evl.pend.any fun x => x.code == 0x5000 + code && x.src == c % 131072 && x.dts == r.rel) = true

/-! ### Fences, as claims speak of them -/

/-- An Avenue that a mismatch fences: in service, spare or seeding. -/
def State.fenceable (s : State) (a : Nat) : Bool := s.aveState a == 0 || s.aveState a == 1 || s.aveState a == 5
/-- From s to u Avenue a has a mismatch of a kind and is fenced (16 R462, R463, Table RED-12). -/
abbrev State.fencedBy (s u : State) (a kind : Nat) : Prop :=
  u.aveState a = 2 ∧ u.rget (Reg.AVE_MED_STAT_LAST_KIND a) = kind ∧
  u.cget (Ctr.AVE_MISMATCHES a) = (s.cget (Ctr.AVE_MISMATCHES a) + 1) % 2 ^ 48 ∧ u.rbit Reg.AVE_POOL_LIVE_FAILOVER = true ∧
  (u.evl.pend.any fun x => x.code == 0x8101 && x.src == a && x.detail % 256 == kind) = true

/-! ### The instant and the reach of a command, as claims speak of them -/

/-- The DTS at which a command comes about; none for the commands that set the device count themselves (11 R364 to R366, 19 R542). -/
def instantOf (i : Instr) : Option Nat :=
  match i with
  | .registerWrite t _ _ => some t
  | .statusWrite t _ _ => some t
  | .rcFieldRead t _ => some t
  | .counterLowerWordRead t _ => some t
  | .bar2Read t _ => some t
  | .edgeFifoWrite t _ _ => some t
  | .edgeFifoRead t _ _ => some t
  | .tokenTransfer t _ => some t
  | .paceGateEnd t _ _ _ _ _ => some t
  | .shedRestore t _ _ => some t
  | .calibration t _ _ _ _ => some t
  | .delayCodeApply t _ _ _ _ => some t
  | .calStale t _ _ => some t
  | .calAbsent t _ _ => some t
  | .medianCompare t _ => some t
  | .stallTimeout t _ _ => some t
  | .selfError t _ _ => some t
  | .spareRelease t _ _ _ => some t
  | .fenceFillEnd t _ _ => some t
  | .avenueRepairComplete t _ _ _ => some t
  | .checkpointSeal t => some t
  | .engineDispatch t _ => some t
  | .contextRelease t _ _ _ => some t
  | .stallResume t _ => some t
  | .add t _ _ => some t
  | .sub t _ _ => some t
  | .and t _ _ => some t
  | .or t _ _ => some t
  | .xor t _ _ => some t
  | .shl t _ _ => some t
  | .shr t _ _ => some t
  | .sar t _ _ => some t
  | .mul t _ _ => some t
  | .minu t _ _ => some t
  | .maxu t _ _ => some t
  | .addsu t _ _ => some t
  | .subsu t _ _ => some t
  | .mov t _ _ => some t
  | .not t _ _ => some t
  | .popc t _ _ => some t
  | .clz t _ _ => some t
  | .bswap t _ _ => some t
  | .ldih t _ _ => some t
  | .bext t _ _ => some t
  | .bins t _ _ => some t
  | .cmp t _ _ => some t
  | .pand t _ _ => some t
  | .por t _ _ => some t
  | .pxor t _ _ => some t
  | .pandn t _ _ => some t
  | .pset t _ _ => some t
  | .prdv t _ _ => some t
  | .pwrv t _ _ => some t
  | .br t _ _ => some t
  | .call t _ _ => some t
  | .ret t _ _ => some t
  | .lset t _ _ => some t
  | .loop t _ _ => some t
  | .ld t _ _ => some t
  | .st t _ _ => some t
  | .prm t _ _ => some t
  | .tld t _ _ => some t
  | .tst t _ _ => some t
  | .ohr t _ _ => some t
  | .ohw t _ _ => some t
  | .intgStep t _ _ => some t
  | .intgSeed t _ _ => some t
  | .pmadd t _ _ => some t
  | .push t _ _ => some t
  | .pop t _ _ => some t
  | .pktb t _ _ => some t
  | .pktc t _ _ => some t
  | .pkta t _ _ => some t
  | .qlen t _ _ => some t
  | .evt t _ _ => some t
  | .tset t _ _ => some t
  | .ttst t _ _ => some t
  | .tclr t _ _ => some t
  | .trd t _ _ => some t
  | .srd t _ _ => some t
  | .commit t _ _ _ => some t
  | .waitItem t _ _ => some t
  | .waitRoom t _ _ => some t
  | .nop t _ _ => some t
  | .illegalInstruction t _ => some t
  | .signalDetectChange t _ _ => some t
  | .cdrLockChange t _ _ => some t
  | .losDeclare t _ => some t
  | .losClear t _ => some t
  | .alignmentMarker t _ _ _ _ _ _ => some t
  | .fecCodeword t _ _ _ _ => some t
  | .fecDegWindow t _ => some t
  | .groupFormation t _ => some t
  | .groupFailClear t _ => some t
  | .groupReform t _ => some t
  | .prbsLock t _ => some t
  | .prbsLossOfLock t _ _ => some t
  | .linLanePrbsCfgWrite t _ _ => some t
  | .candidateSighting t _ _ _ _ => some t
  | .frameCheck t _ _ _ _ => some t
  | .dlofDeclare t _ => some t
  | .dlofClear t _ => some t
  | .dlomDeclare t _ => some t
  | .dlomClear t _ => some t
  | .dloomfiDeclare t _ => some t
  | .dloomfiClear t _ => some t
  | .frameReceived t _ => some t
  | .insertionPoint t _ _ _ => some t
  | .fastPathAisEnd t _ => some t
  | .gmpPeriodRx t _ _ _ _ _ _ => some t
  | .gmpUnlockDeclare t _ => some t
  | .gmpUnlockClear t _ => some t
  | .gmpPeriodTx t _ _ => some t
  | .msiChange t _ => some t
  | .clientSignalFail t _ => some t
  | .csfClear t _ => some t
  | .rateWindow t _ _ => some t
  | .cnClampRateOor t _ => some t
  | .flowStarved t _ => some t
  | .epochInstant t => some t
  | .connectionChangeApply t _ _ => some t
  | .moveInstall t _ => some t
  | .moveCutover t _ => some t
  | .moveRetire t _ => some t
  | .moveAbort t _ => some t
  | .selectionChange t _ => some t
  | .mapScrub t _ _ => some t
  | .aonFault t => some t
  | .linkFecLock t _ _ => some t
  | .linkFecLockLoss t _ _ => some t
  | .linkDelineated t _ => some t
  | .delineationLoss t _ => some t
  | .cellTimeout t _ => some t
  | .peerRxDown t _ => some t
  | .negTimeout t _ => some t
  | .holddownEnd t _ => some t
  | .cellReceived t _ _ _ _ => some t
  | .offsetEstimate t _ _ => some t
  | .timeCellStale t _ _ => some t
  | .cellSend t _ _ => some t
  | .timeCellSend t _ _ => some t
  | .linkStateSend t _ => some t
  | .negotiationCellSend t _ => some t
  | .drainEnd t _ => some t
  | .cellPlayout t _ => some t
  | .underpassRead t _ _ _ _ _ _ => some t
  | .underpassWrite t _ _ _ _ => some t
  | .pageRetire t _ _ => some t
  | .pcFail t _ _ => some t
  | .serviceWindow t _ _ => some t
  | .holdoffExpiry t _ => some t
  | .wtrExpiry t _ => some t
  | .fopNrDeclare t _ _ => some t
  | .selectorFrameArrival t _ _ _ _ => some t
  | .descriptorComplete t _ _ _ => some t
  | .pairLock t _ _ => some t
  | .pairLoseAlignment t _ _ => some t
  | .pairBeyond t _ _ _ => some t
  | .pairReturnLocked t _ _ => some t
  | .pairIdle t _ _ => some t
  | .selectorOutput t _ _ => some t
  | .activityWindow t _ _ => some t
  | .frequencyGate t _ _ => some t
  | .referenceDisqualify t _ => some t
  | .referenceQualifying t _ => some t
  | .referenceQualified t _ => some t
  | .driftEvaluation t => some t
  | .dpllNarrow t _ _ => some t
  | .dpllLock t _ _ => some t
  | .dpllPhaseLost t _ _ => some t
  | .ocxoLost t => some t
  | .ppsEdge _ => none
  | .todMessage t _ _ => some t
  | .dp1HostHoldover t => some t
  | .timDp1AdjFreqWrite t w => if w.acc.size = 4 then some t else none
  | .timDp1AdjPhaseWrite _ _ => none
  | .timDtsSnapWrite t _ => some t
  | .timLrefMapWrite t _ _ => some t
  | .hardwarePush t _ _ => some t
  | .xoffMinHoldEnd t _ => some t
  | .popSlotRead t _ _ => some t
  | .hostStallEnd t _ => some t
  | .pushSlotWrite t _ _ => some t
  | .ssFrameReceived t _ _ => some t
  | .ssFrameSend t _ => some t
  | .ssBatchTimeout t _ _ => some t
  | .ssBlockLockChange t _ _ => some t
  | .portFrameStart t _ _ => some t
  | .portFrameComplete t _ _ _ => some t
  | .fsMissing t _ => some t
  | .dropRecordAvailable t _ _ _ _ => some t
  | .ratioOorClear t _ => some t
  | .ratioWindow t _ => some t
  | .go t => some t
  | .startInstant t _ => some t
  | .clkLost t _ => some t
  | .realign t _ => some t
  | .oapCfgWrite t _ _ => some t
  | .oapMaskWrite t _ _ => some t
  | .oapSrcWrite t _ _ => some t
  | .pmSecondEnd t => some t
  | .eventLog t => some t
  | .logbookMirrorWrite t => some t
  | .mirrorBucketRefill t => some t
  | .checkUnitEnd t _ _ => some t
  | .cvuExpGuardWrite t _ _ => some t
  | .cvuFifoGuardWrite t _ _ => some t
  | .testGo t _ => some t
  | .cvuFifoEmptyCmd t _ => some t
  | .cvuCfgWrite t _ _ => some t
  | .cvuTapWrite t _ _ => some t
  | .leaseRenewal t => some t
  | .leaseLapse t => some t
  | .leaseGrant t _ _ => some t
  | .kioskReloadComplete t _ => some t
  | .foreignWrite t _ => some t
  | .heartbeatSend t => some t
  | .mateHeartbeatRecord t _ => some t
  | .heartbeatWindow t => some t
  | .mlpNegotiation t _ _ => some t
  | .renew t _ => some t
  | .release t _ => some t
  | .present t _ => some t
  | .refBad t _ => some t
  | .activeLeaseLapse t => some t
  | .standbyStale t => some t
  | .epochCut t => some t
  | .epochReceived t _ _ _ => some t
  | .cmdPiWrite t _ _ => some t
  | .cplCiWrite t _ _ => some t
  | .hcqCtlWrite t _ _ => some t
  | .hcqBaseWrite t _ _ => some t
  | .sysIrqAckWrite t _ _ => some t
  | .hello t _ _ => some t
  | .versionRange t _ _ _ _ => some t
  | .setDevid t _ _ => some t
  | .setTime t _ _ _ => some t
  | .setTimeEffect _ => none
  | .lineIfCfg t _ _ _ _ _ _ => some t
  | .lineGrpCfg t _ _ _ _ _ _ _ => some t
  | .sysPortCfg t _ _ _ _ _ _ => some t
  | .arcLink t _ _ _ => some t
  | .oduCfg t _ _ => some t
  | .oduRemove t _ _ => some t
  | .oduLck t _ _ _ _ => some t
  | .trailCfg t _ _ _ _ => some t
  | .pmCfg t _ _ _ _ _ => some t
  | .connBatch t _ _ _ _ => some t
  | .move t _ _ _ _ _ => some t
  | .protCmd t _ _ _ => some t
  | .pairRetime t _ _ _ _ => some t
  | .imageLoad t _ _ => some t
  | .bind t _ _ _ => some t
  | .unbind t _ _ => some t
  | .queueCfg t _ _ _ _ _ _ _ _ => some t
  | .qgroupCfg t _ _ _ _ _ => some t
  | .slotClaim t _ _ _ _ _ => some t
  | .oapStart t _ => some t
  | .permitTake t _ _ _ => some t
  | .permitRelease t _ _ _ => some t
  | .telemetryCfg t _ _ _ _ => some t
  | .pairCfg t _ _ _ => some t
  | .reset t _ _ => some t
  | .undefinedOpcode t _ _ => some t
  | .resetBegin t => some t
  | .scrubPageRead t _ => some t
  | .sramScrub t _ _ => some t
  | .thermalSample t _ => some t
  | .thermalTrip _ _ => none
  | .snapshotWrite t _ _ => some t
  | .lbClearComplete t => some t
  | .rotationInstant t => some t
  | .rotationRetry t => some t
  | .telemetryPacket t => some t
  | .domainFault t _ _ => some t
  | .domainReturn t _ => some t
  | .railUndervoltage _ => none
  | .porRelease _ => none
  | .startupStageComplete t _ _ => some t
  | .linkReset t => some t
  | .stackRetrainComplete t _ => some t
  | .conditionedInputTransition t _ _ => some t
  | .stuck t _ => some t
  | .chatterEnd t _ => some t
  | .pwrInCfgWrite t _ _ => some t
  | .porNLow _ => none
  | .last1MsExpiry t _ _ => some t

/-- The parts of the state beside the registers, the counters, the interrupts, the event logger and what is sent. -/
inductive Part | que | jrm | pm | lin | frm | map | plz | pins | oap | arc | cvu | und | pair | apsEnd | red | tim | sysg | ave | hcq | mnt | pwr
  deriving DecidableEq, Repr
/-- From s to u a part is unchanged. -/
def Part.kept (p : Part) (s u : State) : Bool :=
  match p with
  | .que => decide (u.que = s.que)
  | .jrm => decide (u.jrm = s.jrm)
  | .pm => decide (u.pm = s.pm)
  | .lin => decide (u.lin = s.lin)
  | .frm => decide (u.frm = s.frm)
  | .map => decide (u.map = s.map)
  | .plz => decide (u.plz = s.plz)
  | .pins => decide (u.pins = s.pins)
  | .oap => decide (u.oap = s.oap)
  | .arc => decide (u.arc = s.arc)
  | .cvu => decide (u.cvu = s.cvu)
  | .und => decide (u.und = s.und)
  | .pair => decide (u.pair = s.pair)
  | .apsEnd => decide (u.apsEnd = s.apsEnd)
  | .red => decide (u.red = s.red)
  | .tim => decide (u.tim = s.tim)
  | .sysg => decide (u.sysg = s.sysg)
  | .ave => decide (u.ave = s.ave)
  | .hcq => decide (u.hcq = s.hcq)
  | .mnt => decide (u.mnt = s.mnt)
  | .pwr => decide (u.pwr = s.pwr)

/-- The parts a command acts on, for the commands that act on few. -/
def partsOf (i : Instr) : Option (List Part) :=
  match i with
  | .registerWrite _ _ _ => some [.lin, .tim]
  | .statusWrite _ _ _ => some []
  | .rcFieldRead _ _ => some [.ave]
  | .counterLowerWordRead _ _ => some []
  | .bar2Read _ _ => some []
  | .edgeFifoWrite _ _ _ => some [.ave]
  | .edgeFifoRead _ _ _ => some [.ave]
  | .tokenTransfer _ _ => some [.ave]
  | .paceGateEnd _ _ _ _ _ _ => some [.ave, .map]
  | .shedRestore _ _ _ => some [.ave, .map]
  | .calibration _ _ _ _ _ => some [.ave]
  | .delayCodeApply _ _ _ _ _ => some [.ave]
  | .calStale _ _ _ => some []
  | .calAbsent _ _ _ => none
  | .medianCompare _ _ => none
  | .stallTimeout _ _ _ => none
  | .selfError _ _ _ => none
  | .spareRelease _ _ _ _ => none
  | .fenceFillEnd _ _ _ => some [.plz]
  | .avenueRepairComplete _ _ _ _ => none
  | .checkpointSeal _ => some [.ave]
  | .engineDispatch _ _ => some [.jrm]
  | .contextRelease _ _ _ _ => none
  | .stallResume _ _ => some [.jrm, .que]
  | .add _ _ _ => none
  | .sub _ _ _ => none
  | .and _ _ _ => none
  | .or _ _ _ => none
  | .xor _ _ _ => none
  | .shl _ _ _ => none
  | .shr _ _ _ => none
  | .sar _ _ _ => none
  | .mul _ _ _ => none
  | .minu _ _ _ => none
  | .maxu _ _ _ => none
  | .addsu _ _ _ => none
  | .subsu _ _ _ => none
  | .mov _ _ _ => none
  | .not _ _ _ => none
  | .popc _ _ _ => none
  | .clz _ _ _ => none
  | .bswap _ _ _ => none
  | .ldih _ _ _ => none
  | .bext _ _ _ => none
  | .bins _ _ _ => none
  | .cmp _ _ _ => none
  | .pand _ _ _ => none
  | .por _ _ _ => none
  | .pxor _ _ _ => none
  | .pandn _ _ _ => none
  | .pset _ _ _ => none
  | .prdv _ _ _ => none
  | .pwrv _ _ _ => none
  | .br _ _ _ => none
  | .call _ _ _ => none
  | .ret _ _ _ => none
  | .lset _ _ _ => none
  | .loop _ _ _ => none
  | .ld _ _ _ => none
  | .st _ _ _ => none
  | .prm _ _ _ => none
  | .tld _ _ _ => none
  | .tst _ _ _ => none
  | .ohr _ _ _ => none
  | .ohw _ _ _ => none
  | .intgStep _ _ _ => none
  | .intgSeed _ _ _ => none
  | .pmadd _ _ _ => none
  | .push _ _ _ => none
  | .pop _ _ _ => none
  | .pktb _ _ _ => none
  | .pktc _ _ _ => none
  | .pkta _ _ _ => none
  | .qlen _ _ _ => none
  | .evt _ _ _ => none
  | .tset _ _ _ => none
  | .ttst _ _ _ => none
  | .tclr _ _ _ => none
  | .trd _ _ _ => none
  | .srd _ _ _ => none
  | .commit _ _ _ _ => none
  | .waitItem _ _ _ => none
  | .waitRoom _ _ _ => none
  | .nop _ _ _ => none
  | .illegalInstruction _ _ => none
  | .signalDetectChange _ _ _ => some [.lin]
  | .cdrLockChange _ _ _ => none
  | .losDeclare _ _ => none
  | .losClear _ _ => none
  | .alignmentMarker _ _ _ _ _ _ _ => none
  | .fecCodeword _ _ _ _ _ => some [.lin]
  | .fecDegWindow _ _ => some [.lin]
  | .groupFormation _ _ => none
  | .groupFailClear _ _ => none
  | .groupReform _ _ => none
  | .prbsLock _ _ => some []
  | .prbsLossOfLock _ _ _ => some []
  | .linLanePrbsCfgWrite _ _ _ => some []
  | .candidateSighting _ _ _ _ _ => some [.frm, .jrm]
  | .frameCheck _ _ _ _ _ => some [.frm, .jrm]
  | .dlofDeclare _ _ => none
  | .dlofClear _ _ => none
  | .dlomDeclare _ _ => none
  | .dlomClear _ _ => none
  | .dloomfiDeclare _ _ => none
  | .dloomfiClear _ _ => none
  | .frameReceived _ _ => none
  | .insertionPoint _ _ _ _ => some [.frm, .map, .oap]
  | .fastPathAisEnd _ _ => none
  | .gmpPeriodRx _ _ _ _ _ _ _ => some [.map]
  | .gmpUnlockDeclare _ _ => some [.map, .plz]
  | .gmpUnlockClear _ _ => some [.map, .plz]
  | .gmpPeriodTx _ _ _ => some [.map]
  | .msiChange _ _ => some [.map]
  | .clientSignalFail _ _ => some [.map]
  | .csfClear _ _ => some [.map]
  | .rateWindow _ _ _ => some [.map]
  | .cnClampRateOor _ _ => some [.map]
  | .flowStarved _ _ => some [.arc, .map]
  | .epochInstant _ => none
  | .connectionChangeApply _ _ _ => some [.plz]
  | .moveInstall _ _ => none
  | .moveCutover _ _ => some [.jrm, .plz]
  | .moveRetire _ _ => none
  | .moveAbort _ _ => none
  | .selectionChange _ _ => some [.plz]
  | .mapScrub _ _ _ => none
  | .aonFault _ => none
  | .linkFecLock _ _ _ => some [.arc]
  | .linkFecLockLoss _ _ _ => some [.arc, .map]
  | .linkDelineated _ _ => some [.arc]
  | .delineationLoss _ _ => some [.arc, .map]
  | .cellTimeout _ _ => some [.arc, .map]
  | .peerRxDown _ _ => some [.arc, .map]
  | .negTimeout _ _ => some [.arc, .map]
  | .holddownEnd _ _ => some [.arc]
  | .cellReceived _ _ _ _ _ => some [.arc, .map]
  | .offsetEstimate _ _ _ => some [.arc]
  | .timeCellStale _ _ _ => some [.arc]
  | .cellSend _ _ _ => some [.arc, .jrm]
  | .timeCellSend _ _ _ => some [.arc]
  | .linkStateSend _ _ => some []
  | .negotiationCellSend _ _ => some [.arc, .map]
  | .drainEnd _ _ => some [.arc, .map]
  | .cellPlayout _ _ => some [.arc, .map]
  | .underpassRead _ _ _ _ _ _ _ => none
  | .underpassWrite _ _ _ _ _ => some [.und]
  | .pageRetire _ _ _ => some [.que, .und]
  | .pcFail _ _ _ => none
  | .serviceWindow _ _ _ => some [.que, .und]
  | .holdoffExpiry _ _ => none
  | .wtrExpiry _ _ => none
  | .fopNrDeclare _ _ _ => some [.jrm]
  | .selectorFrameArrival _ _ _ _ _ => some [.pair, .tim]
  | .descriptorComplete _ _ _ _ => some [.pair]
  | .pairLock _ _ _ => some [.pair]
  | .pairLoseAlignment _ _ _ => some [.pair]
  | .pairBeyond _ _ _ _ => some [.pair]
  | .pairReturnLocked _ _ _ => some [.pair]
  | .pairIdle _ _ _ => some [.pair]
  | .selectorOutput _ _ _ => some [.pair]
  | .activityWindow _ _ _ => some [.tim]
  | .frequencyGate _ _ _ => some [.tim]
  | .referenceDisqualify _ _ => some [.tim]
  | .referenceQualifying _ _ => some [.tim]
  | .referenceQualified _ _ => some [.tim]
  | .driftEvaluation _ => some [.tim]
  | .dpllNarrow _ _ _ => some [.tim]
  | .dpllLock _ _ _ => some [.tim]
  | .dpllPhaseLost _ _ _ => some [.tim]
  | .ocxoLost _ => none
  | .ppsEdge _ => some [.pm, .tim]
  | .todMessage _ _ _ => some [.tim]
  | .dp1HostHoldover _ => some [.tim]
  | .timDp1AdjFreqWrite _ _ => some [.pm, .tim]
  | .timDp1AdjPhaseWrite _ _ => some [.pm, .tim]
  | .timDtsSnapWrite _ _ => some []
  | .timLrefMapWrite _ _ _ => some [.tim]
  | .hardwarePush _ _ _ => none
  | .xoffMinHoldEnd _ _ => some []
  | .popSlotRead _ _ _ => some [.que]
  | .hostStallEnd _ _ => some [.que]
  | .pushSlotWrite _ _ _ => some [.que]
  | .ssFrameReceived _ _ _ => none
  | .ssFrameSend _ _ => some [.que]
  | .ssBatchTimeout _ _ _ => some [.que]
  | .ssBlockLockChange _ _ _ => some [.que]
  | .portFrameStart _ _ _ => some [.oap]
  | .portFrameComplete _ _ _ _ => some [.oap]
  | .fsMissing _ _ => some [.oap]
  | .dropRecordAvailable _ _ _ _ _ => some [.oap]
  | .ratioOorClear _ _ => some []
  | .ratioWindow _ _ => some [.oap]
  | .go _ => some [.oap]
  | .startInstant _ _ => some [.oap]
  | .clkLost _ _ => some [.oap]
  | .realign _ _ => some [.oap]
  | .oapCfgWrite _ _ _ => some [.oap]
  | .oapMaskWrite _ _ _ => some []
  | .oapSrcWrite _ _ _ => some []
  | .pmSecondEnd _ => some [.pm]
  | .eventLog _ => some [.que]
  | .logbookMirrorWrite _ => some []
  | .mirrorBucketRefill _ => some []
  | .checkUnitEnd _ _ _ => some [.cvu]
  | .cvuExpGuardWrite _ _ _ => some [.cvu]
  | .cvuFifoGuardWrite _ _ _ => some [.cvu]
  | .testGo _ _ => some []
  | .cvuFifoEmptyCmd _ _ => some [.cvu]
  | .cvuCfgWrite _ _ _ => some [.cvu]
  | .cvuTapWrite _ _ _ => some []
  | .leaseRenewal _ => some []
  | .leaseLapse _ => some [.red]
  | .leaseGrant _ _ _ => some [.red]
  | .kioskReloadComplete _ _ => some [.red]
  | .foreignWrite _ _ => some []
  | .heartbeatSend _ => some [.red]
  | .mateHeartbeatRecord _ _ => some [.red]
  | .heartbeatWindow _ => some [.red]
  | .mlpNegotiation _ _ _ => some [.red]
  | .renew _ _ => none
  | .release _ _ => none
  | .present _ _ => some [.red]
  | .refBad _ _ => some []
  | .activeLeaseLapse _ => none
  | .standbyStale _ => some []
  | .epochCut _ => some [.red]
  | .epochReceived _ _ _ _ => none
  | .cmdPiWrite _ _ _ => some []
  | .cplCiWrite _ _ _ => some []
  | .hcqCtlWrite _ _ _ => none
  | .hcqBaseWrite _ _ _ => some []
  | .sysIrqAckWrite _ _ _ => some []
  | .hello _ _ _ => none
  | .versionRange _ _ _ _ _ => none
  | .setDevid _ _ _ => none
  | .setTime _ _ _ _ => none
  | .setTimeEffect _ => none
  | .lineIfCfg _ _ _ _ _ _ _ => none
  | .lineGrpCfg _ _ _ _ _ _ _ _ => none
  | .sysPortCfg _ _ _ _ _ _ _ => none
  | .arcLink _ _ _ _ => none
  | .oduCfg _ _ _ => none
  | .oduRemove _ _ _ => none
  | .oduLck _ _ _ _ _ => none
  | .trailCfg _ _ _ _ _ => none
  | .pmCfg _ _ _ _ _ _ => none
  | .connBatch _ _ _ _ _ => none
  | .move _ _ _ _ _ _ => none
  | .protCmd _ _ _ _ => none
  | .pairRetime _ _ _ _ _ => none
  | .imageLoad _ _ _ => none
  | .bind _ _ _ _ => none
  | .unbind _ _ _ => none
  | .queueCfg _ _ _ _ _ _ _ _ _ => none
  | .qgroupCfg _ _ _ _ _ _ => none
  | .slotClaim _ _ _ _ _ _ => none
  | .oapStart _ _ => none
  | .permitTake _ _ _ _ => none
  | .permitRelease _ _ _ _ => none
  | .telemetryCfg _ _ _ _ _ => none
  | .pairCfg _ _ _ _ => none
  | .reset _ _ _ => none
  | .undefinedOpcode _ _ _ => none
  | .resetBegin _ => none
  | .scrubPageRead _ _ => none
  | .sramScrub _ _ _ => none
  | .thermalSample _ _ => some [.mnt]
  | .thermalTrip _ _ => none
  | .snapshotWrite _ _ _ => some [.mnt]
  | .lbClearComplete _ => some [.pm]
  | .rotationInstant _ => none
  | .rotationRetry _ => none
  | .telemetryPacket _ => none
  | .domainFault _ _ _ => none
  | .domainReturn _ _ => some []
  | .railUndervoltage _ => none
  | .porRelease _ => some [.pwr]
  | .startupStageComplete _ _ _ => none
  | .linkReset _ => some [.hcq]
  | .stackRetrainComplete _ _ => none
  | .conditionedInputTransition _ _ _ => none
  | .stuck _ _ => none
  | .chatterEnd _ _ => none
  | .pwrInCfgWrite _ _ _ => some [.pins]
  | .porNLow _ => none
  | .last1MsExpiry _ _ _ => some []

end Sys2Proof.Machine
end

