-- ==== Sys2Proof/Certificates/Slice0/Obligations.lean ====
section
/-! DEFINITION. The statements for the provers. A claim about one command says, for every state and operands that meet its premises, that the
command completes and what it leaves; an obligation joins the claims of one kind. -/
namespace Sys2Proof.Claims
open Sys2Proof Sys2Proof.Machine

/-! ### Words that several claims use -/

/-- Registers whose write has a bound or a consequence of its own beside the stored word. -/
def tiedRows : List Nat :=
  [Reg.TIM_REF_CFG 0, Reg.TIM_DP_CFG 0, Reg.TIM_MON_CFG, Reg.SYP_AL_TC 0, Reg.LIN_LIF_LOS_CFG 0, Reg.QUE_XOFF_IN_CFG, Reg.QUE_GRP_CFG 0,
   Reg.LIN_GRP_TIMERS 0]

/-- An offset holds the lower word of a 48-bit counter. -/
def isCounter (x : Nat) : Bool := ctrRows.any fun c => (famIndex x c.1 c.2.1 c.2.2.1 c.2.2.2.1 c.2.2.2.2).isSome

/-- Entry n of the violation log in u is that of access a (17 Table HST-2), and the count is c. -/
abbrev violationEntry (u : State) (n : Nat) (a : Access) (write : Bool) (reason : Nat) (ca : Bool) (c : Nat) : Prop :=
  u.wordN (Reg.SYS_VIOL_LOG n 0) = bits a.off 0 32 ∧
  u.wordN (Reg.SYS_VIOL_LOG n 0 + 8) = (a.req % 65536 + (a.bar % 4 + b2n write * 4) * 2 ^ 16 + reason * 2 ^ 24) % 2 ^ 32 ∧
  u.wordN (Reg.SYS_VIOL_LOG n 0 + 12) = a.size % 65536 + b2n ca * 2 ^ 16 ∧
  u.wordN (Reg.SYS_VIOL_LOG n 0 + 28) = c ∧ u.wordN Reg.SYS_VIOL_CNT = c

/-- From s to u no register word but those that the record of a violation writes changes (17 R504, Table HST-2), and no counter. -/
abbrev violationFrame (s u : State) (n : Nat) : Prop :=
  (∀ c, (c < Reg.SYS_VIOL_LOG n 0 ∨ Reg.SYS_VIOL_LOG n 0 + 28 < c) → c ∉ [Reg.SYS_VIOL_CNT, 0x90, 0x94, 0x98, 0x9C, 0xA0] → u.wordN c = s.wordN c) ∧
  (∀ c, u.cget c = s.cget c)

/-- What the monitors of half h of Avenue a show in u at the end of a gate with the counts rx and tx of its replica loops (02 R50, R51). -/
abbrev gateShows (s u : State) (a h rx tx : Nat) : Prop :=
  u.rget (Reg.AVE_PACE_PACE_MT_RX a h) = rx / 10 % 65536 ∧ u.rget (Reg.AVE_PACE_PACE_MT_TX a h) = tx / 10 % 65536 ∧
  u.rget (Reg.AVE_PACE_MIN_MIN_MT_RX a h) = (if (s.half a h).rxLd then min (s.rget (Reg.AVE_PACE_MIN_MIN_MT_RX a h)) (rx / 10 % 65536) else rx / 10 % 65536) ∧
  u.rget (Reg.AVE_PACE_MIN_MIN_MT_TX a h) = (if (s.half a h).txLd then min (s.rget (Reg.AVE_PACE_MIN_MIN_MT_TX a h)) (tx / 10 % 65536) else tx / 10 % 65536) ∧
  u.rbit (Reg.AVE_PACE_LIVE_PACE_WARN a h) = decide (rx / 10 % 65536 < s.rget (Reg.AVE_PACE_CFG_WARN_MT a h) ∨ tx / 10 % 65536 < s.rget (Reg.AVE_PACE_CFG_WARN_MT a h)) ∧
  u.rbit (Reg.AVE_PACE_LIVE_EDGE_OVF a h) = (s.av a).ovf ∧ u.rbit (Reg.AVE_PACE_LIVE_EDGE_UFL a h) = (s.av a).ufl

/-- Context c, bound to a standard routine on entry e, commits run r on time in both halves; the run has staged nothing before (03 R79, R99). -/
abbrev stdCommits (s : State) (t c t1 e : Nat) (r : RunSt) : Prop :=
  s.running t c = some r ∧ (s.cx c).entry0 = e ∧ ((s.cx c).bind.tt.headD (0, 0)).2 ≠ 0 ∧ t1 < (s.cx c).nextRel ∧ (s.cx c).shadow = false ∧
  r.scr = [] ∧ r.tab = [] ∧ r.oh = [] ∧ r.intg = []
/-- Bit k of DEFECTS of entry e (05 Table OVH-6). -/
abbrev defectOf (u : State) (e k : Nat) : Bool := bit (u.trailGet e 0x80 4) k

/-- Entry e as the PM engine sees it once second x has ended (14 R428). -/
abbrev pmAt (s : State) (e x : Nat) : PmH := (s.pmEnd e x).pmE e

/-- The current fifteen-minute bin of h once second y has entered it, availability decided as R426 says (14 R427). -/
abbrev settledBin (h : PmH) (y : Nat) : BinRec :=
  h.cur15.addSec (h.sec y) (if (h.sec y).bad = true then h.nUnavail else unavailAt h y h.nUnavail SecAcc.nSes)
    (if (h.sec y).bad = true then h.fUnavail else unavailAt h y h.fUnavail SecAcc.fSes)

/-- At t the second ten before settles for entry e, which has PM_EN throughout it and a current bin (14 R424, R427). -/
abbrev settles (s : State) (t e : Nat) : Prop :=
  t % sec 1 = 0 ∧ 10 ≤ secOf t ∧ s.pm.settled ≤ secOf t - 10 ∧ (s.pm.ent.map (·.1)).Nodup ∧ (s.pm.ent.any fun x => x.1 == e && x.2.en) = true ∧
    (s.pmE e).en = true ∧ (s.pmE e).since < sec (secOf t - 9) ∧ (s.pmE e).cur15.current = true ∧ s.dayOfs = s.pm.ofsSeen ∧
    s.pm.ofs15 = s.pm.ofsSeen

/-- The descriptor and instant of a ring command other than HELLO (17 Table HST-9). -/
def ringCmd : Instr → Option (Nat × Desc)
  | .versionRange t d _ _ _ | .setDevid t d _ | .setTime t d _ _ | .lineIfCfg t d _ _ _ _ _ | .lineGrpCfg t d _ _ _ _ _ _ | .sysPortCfg t d _ _ _ _ _
  | .arcLink t d _ _ | .oduCfg t d _ | .oduRemove t d _ | .oduLck t d _ _ _ | .trailCfg t d _ _ _ | .pmCfg t d _ _ _ _ | .connBatch t d _ _ _
  | .move t d _ _ _ _ | .protCmd t d _ _ | .pairRetime t d _ _ _ | .imageLoad t d _ | .bind t d _ _ | .unbind t d _ | .queueCfg t d _ _ _ _ _ _ _
  | .qgroupCfg t d _ _ _ _ | .slotClaim t d _ _ _ _ | .oapStart t d | .permitTake t d _ _ | .permitRelease t d _ _ | .telemetryCfg t d _ _ _
  | .pairCfg t d _ _ | .reset t d _ => some (t, d)
  | _ => none
/-- The instant, descriptor and opcode of a command marked P in 17 Table HST-9. -/
def privCmd : Instr → Option (Nat × Desc × Nat)
  | .setTime t d _ _ => some (t, d, 0x0004)
  | .lineGrpCfg t d _ _ _ _ _ _ => some (t, d, 0x0101)
  | .oduCfg t d _ => some (t, d, 0x0200)
  | .oduRemove t d _ => some (t, d, 0x0201)
  | .connBatch t d _ _ _ => some (t, d, 0x0300)
  | .move t d _ _ _ _ => some (t, d, 0x0301)
  | .protCmd t d _ _ => some (t, d, 0x0400)
  | .pairRetime t d _ _ _ => some (t, d, 0x0401)
  | .pairCfg t d _ _ => some (t, d, 0x0800)
  | _ => none
/-- Instructions of a routine that compute, read, branch or stage: they act on the run alone (20 Table JIR-3). -/
def stagingOps : List (JOp × (Nat → Nat → JWord → Instr)) :=
  [(.add, .add), (.sub, .sub), (.and, .and), (.or, .or), (.xor, .xor), (.shl, .shl), (.shr, .shr), (.sar, .sar), (.mul, .mul), (.minu, .minu),
   (.maxu, .maxu), (.addsu, .addsu), (.subsu, .subsu), (.mov, .mov), (.not, .not), (.popc, .popc), (.clz, .clz), (.bswap, .bswap), (.ldih, .ldih),
   (.bext, .bext), (.bins, .bins), (.cmp, .cmp)] ++
  [(.pand, .pand), (.por, .por), (.pxor, .pxor), (.pandn, .pandn), (.pset, .pset), (.prdv, .prdv), (.pwrv, .pwrv), (.br, .br), (.call, .call),
   (.ret, .ret), (.lset, .lset), (.loop, .loop), (.ld, .ld), (.st, .st), (.prm, .prm), (.tld, .tld), (.tst, .tst), (.ohr, .ohr), (.ohw, .ohw),
   (.tset, .tset), (.ttst, .ttst), (.tclr, .tclr), (.trd, .trd), (.srd, .srd), (.nop, .nop)]

/-- Those of them that trap for no reason but the budget. -/
def computeOps : List (JOp × (Nat → Nat → JWord → Instr)) :=
  [(.add, .add), (.sub, .sub), (.and, .and), (.or, .or), (.xor, .xor), (.shl, .shl), (.shr, .shr), (.sar, .sar), (.mul, .mul), (.minu, .minu),
   (.maxu, .maxu), (.addsu, .addsu), (.subsu, .subsu), (.mov, .mov), (.not, .not), (.popc, .popc), (.clz, .clz), (.bswap, .bswap), (.ldih, .ldih),
   (.bext, .bext), (.bins, .bins), (.cmp, .cmp)] ++
  [(.pand, .pand), (.por, .por), (.pxor, .pxor), (.pandn, .pandn), (.pset, .pset), (.prdv, .prdv), (.pwrv, .pwrv), (.trd, .trd), (.nop, .nop)]

/-! ### StepTakesTheFrontCommand -/

/-- step takes the front of the queue, first in, first out. -/
def frontRuns : Prop :=
    ∀ (c : Instr) (rest : List Instr) (s : State), step { s with pending := c :: rest } = exec c { s with pending := rest }

/-- With no command waiting nothing changes: DESIGN CHOICE, log entry 3. -/
def idles : Prop :=
    ∀ s : State, s.pending = [] → step s = .next s

/-- A command is no business of the commands behind it. -/
def queueKept : Prop :=
    ∀ (c : Instr) (s u : State), exec c s = .next u → u.pending = s.pending

/-- A happening or command that is offered enters before the first waiting one of its DTS that ranks after it, else last; those that wait keep
their order (17 R514). How the queue holds that order is the model's choice (log entry 4). -/
def arrivalPlace : Prop :=
  ∀ (c : Instr) (s : State),
  ∃ l r, s.pending = l ++ r ∧ (s.arrive c).pending = l ++ c :: r ∧ (∀ d ∈ l, ahead c d = false) ∧ (∀ d ∈ r.head?, ahead c d = true)

/-- A queue in which nothing stands behind what it goes before stays one. -/
def orderKept : Prop :=
  ∀ (c : Instr) (s : State),
  s.pending.Pairwise (fun a b => ahead b a = false) → (s.arrive c).pending.Pairwise (fun a b => ahead b a = false)

/-- Of two of one DTS the one that ranks first runs first, whichever is offered first (01 R44; 17 R514). -/
def firstRanksFirst : Prop :=
  ∀ (c d : Instr) (s : State) (t : Nat),
  dtsOf c = some t ∧ dtsOf d = some t ∧ orderRank c < orderRank d →
  (∃ l m r, ((s.arrive c).arrive d).pending = l ++ c :: m ++ d :: r) ∧ (∃ l m r, ((s.arrive d).arrive c).pending = l ++ c :: m ++ d :: r)

/-- A command of the ring ranks after every hardware event of its DTS (17 R514) but before the telemetry packet, which the configuration in
effect at its instant forms (18 R536), a domain fault before a RESET command (19 R547), and the
triggers of 01 Table TOU-8, the domain faults of a stack and of a half among them, rank in the table's order (01 R44). -/
def commandsRankLast : Prop :=
  (∀ c, (ringCmd c).isSome = true → orderRank c = 9) ∧
  (∀ c, orderRank c < 9 ∨ orderRank c = 9 ∧ ((ringCmd c).isSome = true ∨
    (match c with | .registerWrite _ _ _ | .hello _ _ _ | .undefinedOpcode _ _ _ | .setTimeEffect _ | .epochInstant _ => True | _ => False)) ∨
    orderRank c = 10 ∧ (match c with | .telemetryPacket _ => True | _ => False)) ∧
  (∀ t d x a r0 x0 r1 x1, orderRank (.domainFault t d x) < 9 ∧
    (72 ≤ d ∧ (d < 91 ∨ 95 ≤ d) → orderRank (.domainFault t d x) < orderRank (.paceGateEnd t a r0 x0 r1 x1)) ∧
    (d < 72 ∨ 91 ≤ d ∧ d < 95 → orderRank (.paceGateEnd t a r0 x0 r1 x1) < orderRank (.domainFault t d x))) ∧
  (∀ t a r0 x0 r1 x1 k x page bad w d h e y, orderRank (.paceGateEnd t a r0 x0 r1 x1) < orderRank (.pcFail t k x) ∧
    orderRank (.pcFail t k x) = orderRank (.pageRetire t page bad) ∧ orderRank (.pcFail t k x) < orderRank (.medianCompare t w) ∧
    orderRank (.medianCompare t w) = orderRank (.stallTimeout t a d) ∧ orderRank (.medianCompare t w) = orderRank (.selfError t a h) ∧
    (91 ≤ e → e < 95 → orderRank (.domainFault t e y) = orderRank (.pcFail t k x)) ∧
    (e < 72 → orderRank (.domainFault t e y) = orderRank (.selfError t a h)))

/-! ### EveryCommandCompletesAtItsInstant -/

/-- No command faults or is refused, in any state. -/
def everyCommandCompletes : Prop :=
    ∀ (c : Instr) (s : State), ∃ u, exec c s = .next u

/-- The count after a command at t is the later of t and the count before (00 R8). -/
def countGoesForward : Prop :=
    ∀ (c : Instr) (s : State) (t : Nat), instantOf c = some t → Runs c s fun u => u.dts = max s.dts t

/-! ### StepKeepsCanonicalFormAndSettledInterrupts -/

/-- The invariant of a step (17 R519, R520); the canonical form makes equal contents equal data. -/
def stepKeepsForm : Prop :=
    ∀ s u : State, s.wf = true → s.settled = true → step s = .next u → u.wf = true ∧ u.settled = true

/-- A command brings it about from any state. -/
def commandBringsForm : Prop :=
    ∀ (c : Instr) (s u : State), exec c s = .next u → u.wf = true ∧ u.settled = true

/-! ### ResetStandsAsTheSpecSays -/

/-- The invariant holds at reset. -/
def resetForm : Prop :=
    State.reset.wf = true ∧ State.reset.settled = true ∧ State.reset.pending = []

/-- The registers and stores after reset (19 Table PWR-4, R557; 21 R601). -/
def resetState : Prop :=
    State.reset.pwr.held = true ∧ State.reset.red.fenceOut = true ∧ State.reset.roleOut = false ∧ State.reset.rbit Reg.HCQ_CTL_EN = false ∧
    State.reset.rbit Reg.KSK_LEASE_VALID = false ∧ (∀ d, d < 99 → State.reset.rget (Reg.PWR_DOM_STATE d) = 0) ∧
    (∀ a, State.reset.wordN a = (resetWord a).toNat) ∧ (∀ c x, State.reset.permitHeld c x = false) ∧ (∀ d i, (State.reset.cn d i).valid = false) ∧ (∀ r k, (State.reset.rsv r k).pages = []) ∧
    (∀ c, (State.reset.cx c).state = 0) ∧ (∀ a, State.reset.cget a = 0) ∧ (∀ q, 16 ≤ q → (State.reset.q q).items = []) ∧ State.reset.evl.pend = []

/-! ### RoutineWordsRoundTrip -/

/-- The decoder reads back what the encoder writes (20 R558, Table JIR-1). -/
def decodesEncoded : Prop :=
    ∀ (op : JOp) (w : JWord), op.legal w = true → jdec (jenc op w) = some (op, w)

/-- A word that decodes is legal and is its instruction's one word. -/
def encodesDecoded : Prop :=
    ∀ (d : DWord) (op : JOp) (w : JWord), jdec d = some (op, w) → op.legal w = true ∧ jenc op w = d

/-! ### WearWarningKeepsWriting -/

/-- LB_WEAR, the event, and the snapshot none the less (18 R528). -/
def wearReaches : Prop :=
  ∀ (s : State) (t w : Nat),
  t % sec 60 = 0 ∧ 80 ≤ w ∧ s.rbit Reg.MNT_LIVE_LB_WEAR = false →
  s.permitHeld 0x0302 0 = false ∧ s.permitHeld 0x0301 0 = false ∧ s.permitAt 511 = none →
  Runs (.snapshotWrite t w true) s fun u =>
    u.rget Reg.MNT_LB_STAT_WEAR_PCT = min 100 w ∧ u.rbit Reg.MNT_LIVE_LB_WEAR = true ∧
    (u.evl.pend.any fun e => e.code == 0x8430 && e.sev == 2 && e.src == 0 && e.detail == min 100 w && e.dts == t) = true ∧
    ((if s.olderSnap = true then u.mnt.snap1 else u.mnt.snap0).map fun n => n.at_) = some t ∧ u.mnt.sealedAt = some t ∧ u.rbit Reg.MNT_LB_STAT_SNAP_VALID = true

/-- Below 80 LB_WEAR is clear and no 0x8430 is added. -/
def wearStays : Prop :=
  ∀ (s : State) (t w : Nat) (ok : Bool),
  t % sec 60 = 0 ∧ w < 80 →
  Runs (.snapshotWrite t w ok) s fun u =>
    u.rbit Reg.MNT_LIVE_LB_WEAR = false ∧ (u.evl.pend.filter fun e => e.code == 0x8430) = (s.evl.pend.filter fun e => e.code == 0x8430)

/-! ### ChatterIsDeclaredInItsWindow -/

/-- With fewer than N transitions before it, or with N zero, a transition declares no CHATTER (21 R594). -/
def pinFewer : Prop :=
  ∀ (s : State) (t i : Nat) (lv : Bool),
  i < 58 ∧ s.pwr.held = false ∧ s.pinLevel i = !lv ∧ (s.pin i).seen = true ∧ s.rbit (pinBit Reg.PWR_IN_CHATTER i) = false →
  (s.conditioning i).n = 0 ∨ (s.pin i).trans.length < (s.conditioning i).n →
  Runs (.conditionedInputTransition t i lv) s fun u =>
    u.rbit (pinBit Reg.PWR_IN_CHATTER i) = false ∧ u.cget Ctr.PWR_IN_CHATTERS = s.cget Ctr.PWR_IN_CHATTERS

/-- It declares CHATTER when the N-th transition before it lies within W, half-open at the end (21 R594). -/
def pinChatter : Prop :=
  ∀ (s : State) (t i o : Nat) (lv : Bool) (l r : List Nat),
  i < 58 ∧ s.pwr.held = false ∧ s.pinLevel i = !lv ∧ (s.pin i).seen = true ∧ s.rbit (pinBit Reg.PWR_IN_CHATTER i) = false →
  (s.pin i).trans = l ++ o :: r ∧ l.length + 1 = (s.conditioning i).n ∧ l.length + 1 ≤ 63 ∧ ns (10 * ((s.conditioning i).g - 1)) ≤ t →
  Runs (.conditionedInputTransition t i lv) s fun u =>
    u.rbit (pinBit Reg.PWR_IN_CHATTER i) = decide (t - ns (10 * ((s.conditioning i).g - 1)) < o + (s.conditioning i).w) ∧
    u.cget Ctr.PWR_IN_CHATTERS = (s.cget Ctr.PWR_IN_CHATTERS + if t - ns (10 * ((s.conditioning i).g - 1)) < o + (s.conditioning i).w then 1 else 0) % 2 ^ 48

/-! ### PrmReadsZeroBeyondItsBlock -/

/-- The bytes of the block, then zeros (20 R572). -/
def prmBeyond : Prop :=
  ∀ (s : State) (t c : Nat) (w : JWord) (r : RunSt),
  s.executes t c .prm w r →
  accAddr w r % accSize w = 0 →
  Runs (.prm t c w) s fun u =>
    s.ranTo u c .prm r (r.setReg w.dst (loadVal w (readLe (fun k => if k < (s.cx c).bind.param.length then (s.cx c).bind.param.getD k 0 else 0) (accAddr w r) (accSize w)))) (r.pc + 1) ∧
    ((s.cx c).bind.param.length ≤ accAddr w r → s.ranTo u c .prm r (r.setReg w.dst 0) (r.pc + 1)) ∧
    (u.cx c).state = (s.cx c).state ∧ (u.cx c).run.isSome = true

/-! ### CheckUnitsIgnoreBitsAboveTheirWidth -/

/-- W from 1 to 64 (15 R451). -/
def widthRange : Prop :=
    ∀ (s : State) (n : Nat), 1 ≤ s.cvW n ∧ s.cvW n ≤ 64

/-- POLY, INIT and XOROUT count below W only (15 R451). -/
def parametersBelowWidth : Prop :=
    ∀ (p q : CrcP) (l : List Byte), 1 ≤ p.w → p.w = q.w → p.refin = q.refin → p.refout = q.refout → p.poly % 2 ^ p.w = q.poly % 2 ^ p.w →
    p.init % 2 ^ p.w = q.init % 2 ^ p.w → p.xorout % 2 ^ p.w = q.xorout % 2 ^ p.w → crc p l = crc q l

/-- The expected value counts below W only, in the comparison, in its guard and in what a mismatch captures (15 R451). -/
def expectedBelowWidth : Prop :=
    ∀ (s : State) (t n res idx v x : Nat) (g : Option Nat), v % 2 ^ s.cvW n = x % 2 ^ s.cvW n →
    s.cvOutcome t n res idx (.value v g) = s.cvOutcome t n res idx (.value x g)

/-! ### RoutineInstructionsKeepTheRest -/

/-- The frame of the instructions that act on the run alone (03 R78 to R80). -/
def instructionFrame : Prop :=
    ∀ (p : JOp × (Nat → Nat → JWord → Instr)) (s : State) (t c : Nat) (w : JWord) (r : RunSt), p ∈ stagingOps → s.executes t c p.1 w r →
    Runs (p.2 t c w) s fun u => (u.cx c).run.isSome = true →
      (∀ a, u.wordN a = s.wordN a ∧ u.cget a = s.cget a) ∧ (∀ k, k ≠ c → u.cx k = s.cx k) ∧ u.cx c = { s.cx c with run := (u.cx c).run } ∧
      (∀ a, mget u.jrm.trail a = mget s.jrm.trail a ∧ mget u.und.mem a = mget s.und.mem a) ∧ u.evl = s.evl ∧
      u.jrm.images = s.jrm.images ∧ ∀ x : Part, x ≠ .jrm → x ≠ .und → x.kept s u = true

/-! ### CommandsOfOneUnitKeepTheOthers -/

/-- The parts a command does not act on are unchanged; the stores stand in canonical form. -/
def unitsApart : Prop :=
    ∀ (c : Instr) (l : List Part) (s : State), partsOf c = some l → s.wf = true → Runs c s fun u => ∀ p, p ∉ l → p.kept s u = true

/-- A ring command refused by the checks that every command passes (17 R510, R515). -/
def refusedKeeps : Prop :=
    ∀ (c : Instr) (t : Nat) (d : Desc) (s : State), ringCmd c = some (t, d) → s.cmdReady t d = false → s.wf = true → Runs c s fun u =>
      (∀ p : Part, p.kept s u = true) ∧ (∀ a, blockOf a ≠ some 2 → u.wordN a = s.wordN a) ∧ (∀ a, u.cget a = s.cget a) ∧
      u.evl = { s.evl with pend := u.evl.pend }

/-- A privileged command in another role than SOLO or ACTIVE (17 R512). -/
def privilegedRefused : Prop :=
    ∀ (c : Instr) (t op : Nat) (d : Desc) (s : State), privCmd c = some (t, d, op) → s.cmdReady t d = true → s.role ≠ 0 → s.role ≠ 2 → s.wf = true →
    Runs c s fun u => s.completes u ⟨d.tag, 6, op, noOfs, t, 0⟩ ∧ (∀ p : Part, p.kept s u = true) ∧
      (∀ a, blockOf a ≠ some 2 → u.wordN a = s.wordN a) ∧ (∀ a, u.cget a = s.cget a)

/-! ### HostAccessesAct -/

/-- REGISTER_WRITE (00 R4, R609): the word that the field types and ranges give is stored and no other word changes. -/
def registerWrite : Prop :=
  ∀ (s : State) (t : Nat) (a : Access) (v : Nat) (r : RegRow) (i j : Nat),
  s.accessFault a = none →
  a.size = 4 →
  rowAt a.off = some (r, i, j) →
  r.special = .plain →
  r.base ∉ tiedRows →
  Runs (.registerWrite t a v) s fun u =>
    u.wordN a.off = rowStore r (s.wordN a.off) (bits v 0 32) % 2 ^ 32 ∧
    (∀ c, c ≠ a.off → u.wordN c = s.wordN c) ∧
    (∀ c, u.cget c = s.cget c)

/-- An 8-byte REGISTER_WRITE (00 R4; 17 R503): both words are stored by their rows. -/
def registerWriteTwo : Prop :=
  ∀ (s : State) (t : Nat) (a : Access) (v : Nat) (r r2 : RegRow) (i j i2 j2 : Nat),
  s.accessFault a = none →
  a.size = 8 →
  rowAt a.off = some (r, i, j) ∧ rowAt (a.off + 4) = some (r2, i2, j2) →
  r.special = .plain ∧ r2.special = .plain →
  r.base ∉ tiedRows ∧ r2.base ∉ tiedRows →
  Runs (.registerWrite t a v) s fun u =>
    u.wordN a.off = rowStore r (s.wordN a.off) (bits v 0 32) % 2 ^ 32 ∧
    u.wordN (a.off + 4) = rowStore r2 (s.wordN (a.off + 4)) (bits v 32 32) % 2 ^ 32 ∧
    (∀ c, c ≠ a.off → c ≠ a.off + 4 → u.wordN c = s.wordN c) ∧
    (∀ c, u.cget c = s.cget c)

/-- REGISTER_WRITE to a vector's control word (17 R520): a vector unmasked with its pending bit set sends its message, and the bit clears. -/
def vectorUnmasked : Prop :=
  ∀ (s : State) (t : Nat) (a : Access) (v n : Nat),
  s.wf = true →
  s.accessFault a = none →
  a.size = 4 →
  n < 64 →
  a.off = Reg.MSIX_CTRL n →
  s.irq.pba.getLsbD n = true →
  s.irq.cause.getLsbD n = true ∧ s.settled = true →
  bit v 0 = false →
  Runs (.registerWrite t a v) s fun u =>
    s.msixOut n ∈ u.out ∧
    u.irq.pba.getLsbD n = false

/-- STATUS_WRITE (00 R608): a bit written with one stays set only by a setting at or after the write's DTS; other bits stay as they are. -/
def statusWrite : Prop :=
  ∀ (s : State) (t : Nat) (a : Access) (v k b : Nat),
  s.accessFault a = none →
  statusBlock a.off = some k →
  b < 32 →
  Runs (.statusWrite t a v) s fun u =>
    bit (u.wordN a.off) b = (if bit v b then (s.statRec a.off).sets.any (fun p => p.1 = b ∧ t ≤ p.2) else bit (s.wordN a.off) b) ∧
    (famIndex a.off (Reg.QUE_GRP_STATUS 0) 256 0x40 1 4 = none → ∀ c, c ∉ [a.off, a.off + 4, a.off + 8, a.off + 12] → u.wordN c = s.wordN c) ∧
    (∀ c, u.cget c = s.cget c)

/-- RC_FIELD_READ (00 R4): the word is returned, then its RC fields read zero; a word with none stays as it is. -/
def rcFieldRead : Prop :=
  ∀ (s : State) (t : Nat) (a : Access) (r : RegRow) (i j : Nat),
  s.accessFault a = none →
  a.size = 4 →
  rowAt a.off = some (r, i, j) →
  Runs (.rcFieldRead t a) s fun u =>
    Out.readData a.tag 4 ((s.at_ t).readWord a.off) ∈ u.out ∧
    (∀ f ∈ r.fields, f.acc = .rc → bits (u.wordN a.off) f.lo f.w = 0) ∧
    ((∀ f ∈ r.fields, f.acc ≠ .rc) → u.wordN a.off = s.wordN a.off) ∧
    (∀ c, c ≠ a.off → u.wordN c = s.wordN c) ∧
    (∀ c, u.cget c = s.cget c)

/-- COUNTER_LOWER_WORD_READ (00 R6): the lower word is returned and the upper bits are latched in the upper word. -/
def counterLowerWordRead : Prop :=
  ∀ (s : State) (t : Nat) (a : Access),
  s.accessFault a = none →
  a.size = 4 →
  isCounter a.off = true →
  s.readsZero a.off = false →
  Runs (.counterLowerWordRead t a) s fun u =>
    Out.readData a.tag 4 (s.cget a.off % 2 ^ 32) ∈ u.out ∧
    u.wordN (a.off + 4) = s.cget a.off / 2 ^ 32 % 2 ^ 32 ∧
    (∀ c, c ≠ a.off + 4 → u.wordN c = s.wordN c) ∧
    (∀ c, u.cget c = s.cget c)

/-- BAR2_READ (17 R505, R506): the bytes of the table space at the BAR2 offset, the aperture standing where SYS_APT_BASE puts it; nothing else
changes. -/
def bar2Read : Prop :=
  ∀ (s : State) (t : Nat) (a : Access),
  a.bar = 2 →
  a.off < 0x10000000 →
  4 ≤ a.size ∧ a.size ≤ 512 ∧ a.off % 4 = 0 →
  Runs (.bar2Read t a) s fun u =>
    Out.readData a.tag a.size (ofLe ((List.range a.size).map fun k => (s.at_ t).tableByte (if a.off + k < 0x8000000 then a.off + k else s.rget Reg.SYS_APT_BASE_BASE * 2 ^ 27 + (a.off + k - 0x8000000)))) ∈ u.out ∧
    (∀ c, u.wordN c = s.wordN c ∧ u.cget c = s.cget c)

/-! ### RefusedAccessesAreRecorded -/

/-- A write that R503 refuses (17 R503, R504). -/
def accessRefused : Prop :=
  ∀ (s : State) (t : Nat) (a : Access) (v reason : Nat) (ca : Bool),
  s.accessFault a = some (reason, ca) →
  Runs (.registerWrite t a v) s fun u =>
    Out.refused a.tag ca ∈ u.out ∧
    violationEntry u (s.wordN Reg.SYS_VIOL_CNT % 64) a true reason ca ((s.wordN Reg.SYS_VIOL_CNT + 1) % 2 ^ 32) ∧
    violationFrame s u (s.wordN Reg.SYS_VIOL_CNT % 64)

/-- A read that R503 refuses (17 R503, R504): it answers no data. -/
def readRefused : Prop :=
  ∀ (s : State) (t : Nat) (a : Access) (reason : Nat) (ca : Bool),
  s.accessFault a = some (reason, ca) →
  Runs (.rcFieldRead t a) s fun u =>
    Out.refused a.tag ca ∈ u.out ∧
    violationEntry u (s.wordN Reg.SYS_VIOL_CNT % 64) a false reason ca ((s.wordN Reg.SYS_VIOL_CNT + 1) % 2 ^ 32) ∧
    violationFrame s u (s.wordN Reg.SYS_VIOL_CNT % 64)

/-- A BAR2 read of the wrong size or alignment (17 R503). -/
def bar2ReadRefused : Prop :=
  ∀ (s : State) (t : Nat) (a : Access),
  a.bar = 2 →
  a.off < 0x10000000 →
  a.size < 4 ∨ 512 < a.size ∨ a.off % 4 ≠ 0 →
  Runs (.bar2Read t a) s fun u =>
    Out.refused a.tag true ∈ u.out ∧
    violationEntry u (s.wordN Reg.SYS_VIOL_CNT % 64) a false 3 true ((s.wordN Reg.SYS_VIOL_CNT + 1) % 2 ^ 32) ∧
    violationFrame s u (s.wordN Reg.SYS_VIOL_CNT % 64)

/-- A write of CMD_PI beyond the ring is ignored and logged with REASON 8 (17 R508). -/
def overrunIgnored : Prop :=
  ∀ (s : State) (t : Nat) (a : Access) (v : Nat),
  s.accessFault a = none →
  a.off = Reg.CMD_PI →
  2 ^ s.ringLog < idxDiff (v % 65536) (s.rget Reg.CMD_CI_V) →
  Runs (.cmdPiWrite t a v) s fun u =>
    u.rget Reg.CMD_PI_V = s.rget Reg.CMD_PI_V ∧
    violationEntry u (s.wordN Reg.SYS_VIOL_CNT % 64) a true 8 false ((s.wordN Reg.SYS_VIOL_CNT + 1) % 2 ^ 32) ∧
    violationFrame s u (s.wordN Reg.SYS_VIOL_CNT % 64)

/-- A write of a ring address while the ring is enabled completes with CA (17 R517). -/
def baseRefused : Prop :=
  ∀ (s : State) (t : Nat) (a : Access) (v : Nat),
  s.accessFault a = none →
  Reg.CMD_BASE_LO ≤ a.off ∧ a.off ≤ Reg.CPL_BASE_HI →
  s.rbit Reg.HCQ_CTL_EN = true →
  Runs (.hcqBaseWrite t a v) s fun u =>
    Out.refused a.tag true ∈ u.out ∧
    u.wordN a.off = s.wordN a.off ∧
    violationEntry u (s.wordN Reg.SYS_VIOL_CNT % 64) a true 4 true ((s.wordN Reg.SYS_VIOL_CNT + 1) % 2 ^ 32) ∧
    violationFrame s u (s.wordN Reg.SYS_VIOL_CNT % 64)

/-! ### RingRegistersAndVersions -/

/-- CMD_PI_WRITE (17 R508). -/
def cmdPiWrite : Prop :=
  ∀ (s : State) (t : Nat) (a : Access) (v : Nat),
  s.accessFault a = none →
  a.off = Reg.CMD_PI →
  idxDiff (v % 65536) (s.rget Reg.CMD_CI_V) ≤ 2 ^ s.ringLog →
  Runs (.cmdPiWrite t a v) s fun u =>
    u.rget Reg.CMD_PI_V = v % 65536 ∧
    u.rget Reg.CMD_CI_V = s.rget Reg.CMD_CI_V ∧ u.wordN Reg.SYS_VIOL_CNT = s.wordN Reg.SYS_VIOL_CNT

/-- CPL_CI_WRITE (17 R509). -/
def cplCiWrite : Prop :=
  ∀ (s : State) (t : Nat) (a : Access) (v : Nat),
  s.accessFault a = none →
  a.off = Reg.CPL_CI →
  Runs (.cplCiWrite t a v) s fun u =>
    u.rget Reg.CPL_CI_V = v % 65536 ∧
    u.rget Reg.CPL_PI_V = s.rget Reg.CPL_PI_V

/-- HCQ_CTL_WRITE while the ring is off (17 R517). -/
def hcqCtlWrite : Prop :=
  ∀ (s : State) (t : Nat) (a : Access) (v : Nat),
  s.accessFault a = none →
  a.off = Reg.HCQ_CTL →
  s.rbit Reg.HCQ_CTL_EN = false →
  Runs (.hcqCtlWrite t a v) s fun u =>
    u.rbit Reg.HCQ_CTL_EN = bit v 0 ∧
    u.rget Reg.HCQ_CTL_RING_LOG2 = bits v 1 4

/-- HCQ_CTL_WRITE that clears EN with no command in execution (17 Table HST-11, HCQ_CTL.EN). -/
def ringDisabled : Prop :=
  ∀ (s : State) (t : Nat) (a : Access) (v : Nat),
  s.accessFault a = none →
  a.off = Reg.HCQ_CTL →
  s.rbit Reg.HCQ_CTL_EN = true ∧ bits v 1 4 = s.rget Reg.HCQ_CTL_RING_LOG2 →
  bit v 0 = false →
  s.hcq.exec = none →
  Runs (.hcqCtlWrite t a v) s fun u =>
    u.rbit Reg.HCQ_CTL_EN = false ∧
    u.rget Reg.CMD_PI_V = 0 ∧ u.rget Reg.CMD_CI_V = 0 ∧ u.rget Reg.CPL_PI_V = 0 ∧ u.rget Reg.CPL_CI_V = 0 ∧
    u.rbit Reg.HCQ_STAT_HELLO_DONE = false

/-- HCQ_BASE_WRITE of one word while the ring is off (17 R517, Table HST-11). -/
def hcqBaseWrite : Prop :=
  ∀ (s : State) (t : Nat) (a : Access) (v : Nat),
  s.accessFault a = none →
  a.size = 4 →
  a.off ∈ [Reg.CMD_BASE_LO, Reg.CMD_BASE_HI, Reg.CPL_BASE_LO, Reg.CPL_BASE_HI] →
  s.rbit Reg.HCQ_CTL_EN = false →
  Runs (.hcqBaseWrite t a v) s fun u =>
    u.wordN a.off = (let x := v % 2 ^ 32; if a.off = Reg.CMD_BASE_LO then x / 64 * 64 else if a.off = Reg.CPL_BASE_LO then x / 32 * 32 else x) ∧
    (∀ c, c ≠ a.off → u.wordN c = s.wordN c)

/-- SYS_IRQ_ACK_WRITE (17 R520): the vector sends at once if its cause is 1, and else may send at the next rise. -/
def sysIrqAckWrite : Prop :=
  ∀ (s : State) (t : Nat) (a : Access) (v : Nat),
  s.wf = true →
  s.accessFault a = none →
  a.off = Reg.SYS_IRQ_ACK →
  v < 64 →
  Runs (.sysIrqAckWrite t a v) s fun u =>
    u.irq.armed.getLsbD v = !(causes s.regs (rollup s.regs)).getLsbD v ∧
    ((causes s.regs (rollup s.regs)).getLsbD v = true → s.vecMasked v = false → s.msixOut v ∈ u.out) ∧
    ((causes s.regs (rollup s.regs)).getLsbD v = true → s.vecMasked v = true → u.irq.pba.getLsbD v = true)

/-- HELLO (17 R510; 00 R15 to R17): the chosen version is in force and RESULT shows it. -/
def hello : Prop :=
  ∀ (s : State) (t : Nat) (d : Desc) (rng x : Nat),
  s.ringReady t = true →
  s.rbit Reg.HCQ_STAT_HELLO_DONE = false →
  d.resv = none ∧ d.fetchFail = false →
  s.hcq.journal = [] →
  commonOf s.red.hcpRange rng = some x →
  Runs (.hello t d rng) s fun u =>
    u.rbit Reg.HCQ_STAT_HELLO_DONE = true ∧
    u.rget Reg.HCQ_STAT_HCP = x ∧
    s.completes u ⟨d.tag, 0, 1, noOfs, t, x⟩

/-- HELLO after a link reset (19 R544): the records journalled are written and the journal is empty. -/
def journalReplayed : Prop :=
  ∀ (s : State) (t : Nat) (d : Desc) (rng x : Nat),
  s.ringReady t = true →
  s.rbit Reg.HCQ_STAT_HELLO_DONE = false →
  d.resv = none ∧ d.fetchFail = false →
  commonOf s.red.hcpRange rng = some x →
  Runs (.hello t d rng) s fun u =>
    (∀ c ∈ s.hcq.journal, u.out.any fun o => match o with | .completion _ w => w == c.bytes true || w == c.bytes false | _ => false) ∧
    u.hcq.journal = []

/-- HELLO with no common version completes with E_VERSION (17 Table HST-9). -/
def noCommonVersion : Prop :=
  ∀ (s : State) (t : Nat) (d : Desc) (rng : Nat),
  s.ringReady t = true →
  s.rbit Reg.HCQ_STAT_HELLO_DONE = false →
  d.resv = none ∧ d.fetchFail = false →
  commonOf s.red.hcpRange rng = none →
  Runs (.hello t d rng) s fun u =>
    u.rbit Reg.HCQ_STAT_HELLO_DONE = false ∧
    s.completes u ⟨d.tag, 1, 1, noOfs, t, 0⟩

/-- VERSION_RANGE (00 R25; 17 Table HST-9): a record within the built one is advertised at the next bring-up. -/
def versionRange : Prop :=
  ∀ (s : State) (t : Nat) (d : Desc) (iface link rng : Nat),
  s.cmdReady t d = true →
  iface ≤ 3 →
  (iface = 2 → link < 160 ∨ link = 0xFF) →
  narrows (if iface = 2 then 0x01000200 else 0x01000000) rng = true →
  rng < 2 ^ 32 →
  Runs (.versionRange t d iface link rng) s fun u =>
    (iface = 0 → u.red.hcpRange = rng) ∧ (iface = 1 → u.red.jabiRange = rng) ∧ (iface = 3 → u.red.mlpRange = rng) ∧
    (iface = 2 → ∀ l < 160, link = l ∨ link = 0xFF → u.rget (Reg.SYP_AL_ADV_V l) = rng) ∧
    s.completes u (okCpl d 2 t)

/-- SET_DEVID (08 R247) while no link is enabled. -/
def setDevid : Prop :=
  ∀ (s : State) (t : Nat) (d : Desc) (v : Nat),
  s.cmdReady t d = true →
  (List.range 160).any s.alEnabled = false →
  Runs (.setDevid t d v) s fun u =>
    u.rget Reg.SYP_ARC_ID_DEVID = v % 65536 ∧
    u.rbit Reg.SYP_ARC_ID_VALID = true ∧
    s.completes u (okCpl d 3 t)

/-- UNDEFINED_OPCODE (17 R515): E_OPCODE, and no other effect on a register outside the ring's block. -/
def undefinedOpcode : Prop :=
  ∀ (s : State) (t : Nat) (d : Desc) (op : Nat),
  s.cmdReady t d = true →
  Runs (.undefinedOpcode t d op) s fun u =>
    s.completes u ⟨d.tag, 0xA, op, noOfs, t, 0⟩ ∧
    (∀ c, blockOf c ≠ some 2 → u.wordN c = s.wordN c)

/-! ### TokensMoveInOrder -/

/-- EDGE_FIFO_WRITE with room (02 R56, Table PAC-2), the port not turned to its own output: the token is the last of its FIFO, with its DTS
where the port captures one; no other FIFO changes. -/
def edgeFifoWrite : Prop :=
  ∀ (s : State) (t port : Nat) (k : Token),
  s.turned port = false ∧ s.portOff port = false →
  (s.fifo 0 port).length < s.fifoDepth port →
  Runs (.edgeFifoWrite t port k) s fun u =>
    (u.fifo 0 port).map (·.1) = (s.fifo 0 port).map (·.1) ++ [{ k with leg := 0, dts := if k.mark then some t else none, jc := none }] ∧
    (∀ side p, side * 1024 + p ≠ port → u.fifo side p = s.fifo side p) ∧
    (∀ c, u.wordN c = s.wordN c ∧ u.cget c = s.cget c)

/-- EDGE_FIFO_WRITE with no room (02 R58): the token is dropped and counted once in AVE_EDGE_OVF of each Avenue it was destined for. -/
def edgeFifoOverflow : Prop :=
  ∀ (s : State) (t port : Nat) (k : Token),
  s.turned port = false ∧ s.portOff port = false →
  s.fifoDepth port ≤ (s.fifo 0 port).length →
  port < 448 →
  k.slice < 256 ∨ 256 ≤ k.key →
  Runs (.edgeFifoWrite t port k) s fun u =>
    u.fifo 0 port = s.fifo 0 port ∧
    (∀ p ∈ s.nextDests { k with leg := 0 }, u.cget (Ctr.AVE_EDGE_OVF (p.pipe / 2)) = (s.cget (Ctr.AVE_EDGE_OVF (p.pipe / 2)) + 1) % 2 ^ 48 ∧
      (u.av (p.pipe / 2)).ovf = true)

/-- EDGE_FIFO_READ (02 R56) of a stream that nothing replaces, at a port under no loopback: the oldest token leaves, with the DTS of the read
where the port captures one. -/
def edgeFifoRead : Prop :=
  ∀ (s : State) (t port key : Nat) (k : Token) (l : List Dest) (r : List (Token × List Dest)),
  s.fillAt port key = none →
  s.loopAt port 1 = false ∧ s.turned port = false ∧ s.portOff port = false →
  s.fifo 1 port = (k, l) :: r →
  Runs (.edgeFifoRead t port key) s fun u =>
    Out.token port (some { k with dts := if k.mark then some t else none }) ∈ u.out ∧
    u.fifo 1 port = r ∧
    (∀ c, u.wordN c = s.wordN c ∧ u.cget c = s.cget c)

/-- EDGE_FIFO_READ of an empty FIFO (02 R58) at a port under no loopback: the all-ones token, counted in AVE_EDGE_UFL of the Avenues that
serve the slice. -/
def edgeFifoUnderflow : Prop :=
  ∀ (s : State) (t port key : Nat),
  s.fillAt port key = none →
  s.loopAt port 1 = false ∧ s.turned port = false ∧ s.portOff port = false →
  s.fifo 1 port = [] →
  port < 448 →
  key < 256 →
  Runs (.edgeFifoRead t port key) s fun u =>
    Out.token port none ∈ u.out ∧
    (∀ p ∈ s.sliceDests 1 key key, (u.av (p.pipe / 2)).ufl = true) ∧
    (((s.sliceDests 1 key key).map (·.pipe / 2)).Nodup → ∀ p ∈ s.sliceDests 1 key key,
      u.cget (Ctr.AVE_EDGE_UFL (p.pipe / 2)) = (s.cget (Ctr.AVE_EDGE_UFL (p.pipe / 2)) + 1) % 2 ^ 48)

/-- EDGE_FIFO_READ of a stream that is replaced (02 R68; 05 R166 to R168; 07 R210): the port sends what stands in its place, ODU-LCK, ODU-AIS,
ODU-OCI or local fault, counts no underflow, and sends no token. -/
def edgeFifoReplaced : Prop :=
  ∀ (s : State) (t port key : Nat) (f : FillKind),
  s.fillAt port key = some f ∧ s.portOff port = false →
  Runs (.edgeFifoRead t port key) s fun u =>
    Out.fill port key f ∈ u.out ∧ u.out.length = s.out.length + 1 ∧
    (∀ c, u.wordN c = s.wordN c ∧ u.cget c = s.cget c)

/-- No token, and no signal of a lane, a port block or the Mate Link, crosses the boundary of a domain that is not ON (19 R539): the registers,
the counters and the edge FIFOs stay as they are. -/
def offDomainIsSilent : Prop :=
  (∀ (s : State) (t port : Nat) (k : Token), s.portOff port = true →
    Runs (.edgeFifoWrite t port k) s fun u => u.regs = s.regs ∧ u.ctrs = s.ctrs ∧ u.ave = s.ave) ∧
  (∀ (s : State) (t port key : Nat), s.portOff port = true →
    Runs (.edgeFifoRead t port key) s fun u => u.ave = s.ave ∧ u.out = s.out) ∧
  (∀ (s : State) (t l : Nat) (on : Bool), s.domOn (72 + l / 16) = false →
    Runs (.signalDetectChange t l on) s (fun u => u.regs = s.regs ∧ u.lin = s.lin) ∧
    Runs (.cdrLockChange t l on) s (fun u => u.regs = s.regs ∧ u.ctrs = s.ctrs ∧ u.lin = s.lin ∧ u.arc = s.arc)) ∧
  (∀ (s : State) (t p : Nat) (lock : Bool), s.domOn 97 = false → Runs (.ssBlockLockChange t p lock) s fun u => u.que = s.que) ∧
  (∀ (s : State) (t n : Nat), s.domOn 97 = false → Runs (.realign t n) s fun u => u.oap = s.oap) ∧
  (∀ (s : State) (t : Nat) (recs : List Nat) (theirs : Option Nat), s.domOn 90 = false →
    Runs (.mlpNegotiation t recs theirs) s fun u => u.red = s.red)

/-- EDGE_FIFO_READ under a facility loopback (04 Table LIN-4): the token read leaves no port. -/
def facilityLoopback : Prop :=
  ∀ (s : State) (t port key : Nat) (k : Token) (l : List Dest) (r : List (Token × List Dest)),
  s.fillAt port key = none →
  s.loopAt port 1 = true ∧ s.portOff port = false →
  s.fifo 1 port = (k, l) :: r →
  Runs (.edgeFifoRead t port key) s fun u =>
    u.out = s.out ∧ u.fifo 1 port = r

/-- TOKEN_TRANSFER into a kerb buffer with room (02 R46): the oldest token that waits for the pipeline, its onward way clear, joins the end. -/
def kerbBuffer : Prop :=
  ∀ (s : State) (t port a d : Nat) (k : Token) (ps : List Dest) (y : Dest),
  a < 36 ∧ d < 2 →
  (s.fifo 0 port).find? (fun x => (x.2.any fun q => q.pipe == a * 2 + d) && s.clearWay x.1) = some (k, ps) →
  (ps.filter fun q => q.pipe = a * 2 + d) = [y] →
  (s.pipe a d).kerb.length < 256 ∧ s.aveOut a = false →
  toSliceStage k = true ∨ y.key < 256 ∨ s.tribBroken (y.key - 256) = false →
  Runs (.tokenTransfer t (.kerb port a d)) s fun u =>
    (u.pipe a d).kerb = (s.pipe a d).kerb ++ [{ k with key := y.key, epoch := y.epoch }] ∧
    (∀ c, u.wordN c = s.wordN c ∧ u.cget c = s.cget c)

/-- TOKEN_TRANSFER towards a full kerb buffer (02 R46): nothing moves. -/
def kerbFull : Prop :=
  ∀ (s : State) (t port a d : Nat),
  a < 36 ∧ d < 2 →
  256 ≤ (s.pipe a d).kerb.length ∧ s.aveOut a = false →
  Runs (.tokenTransfer t (.kerb port a d)) s fun u =>
    u.ave = s.ave

/-- TOKEN_TRANSFER into stage k of a half (02 R45; 02 "Tokens and handshakes"): from its kerb buffer into stage 0, from the stage before into
any other; the stage it leaves is empty. -/
def stageFilled : Prop :=
  ∀ (s : State) (t a d h k : Nat) (z : Token),
  a < 36 ∧ d < 2 ∧ h < 2 →
  k ≤ Config.stagesLess1 →
  s.aveOut a = false →
  (s.pipe a d).at_ h k = none →
  (if k = 0 then (s.pipe a d).kerb[(s.pipe a d).took h]? else (s.pipe a d).at_ h (k - 1)) = some z →
  Runs (.tokenTransfer t (.stage a d h k)) s fun u =>
    (u.pipe a d).at_ h k = some z ∧
    (k ≠ 0 → (u.pipe a d).at_ h (k - 1) = none) ∧
    (∀ c, u.wordN c = s.wordN c ∧ u.cget c = s.cget c)

/-- TOKEN_TRANSFER of a compared token to its one way out (02 R45; 07 R213, R216, R218): it joins the egress FIFO of a port of its entry. -/
def tokenTransfer : Prop :=
  ∀ (s : State) (t a d port : Nat) (k : Token) (l : List Nat),
  (s.pipe a d).out = some k →
  2 ≤ k.leg →
  s.forwarded a k = true →
  s.exitWay k = .one l ∧ port ∈ l →
  (s.fifo 1 port).length < s.fifoDepth port →
  Runs (.tokenTransfer t (.egress a d port none)) s fun u =>
    (u.pipe a d).out = none ∧
    (u.fifo 1 port).map (·.1) = (s.fifo 1 port).map (·.1) ++ [k] ∧
    (∀ c, u.wordN c = s.wordN c ∧ u.cget c = s.cget c)

/-- TOKEN_TRANSFER of a bridged token (07 R211): PORT_A and PORT_B each take one while there is room. -/
def tokenBridged : Prop :=
  ∀ (s : State) (t a d port other : Nat) (k : Token) (l m : List Nat),
  (s.pipe a d).out = some k →
  2 ≤ k.leg →
  s.forwarded a k = true →
  s.exitWay k = .two l m ∧ port ∈ l ∧ other ∈ m ∧ port ≠ other →
  (s.fifo 1 port).length < s.fifoDepth port ∧ (s.fifo 1 other).length < s.fifoDepth other →
  Runs (.tokenTransfer t (.egress a d port (some other))) s fun u =>
    (u.pipe a d).out = none ∧
    (u.fifo 1 port).map (·.1) = (s.fifo 1 port).map (·.1) ++ [k] ∧
    (u.fifo 1 other).map (·.1) = (s.fifo 1 other).map (·.1) ++ [k]

/-- TOKEN_TRANSFER of a token that stays behind: of a route that is not in force, counted in PLZ_OVERLAP_DROP (07 R218), of an unselected
partner or of an entry with no port, dropped (07 R210, R213); of a Class A pair, handed to the selector (07 R214). -/
def tokenKept : Prop :=
  ∀ (s : State) (t a d port : Nat) (o : Option Nat) (k : Token),
  (s.pipe a d).out = some k →
  2 ≤ k.leg →
  Runs (.tokenTransfer t (.egress a d port o)) s fun u =>
    (s.forwarded a k = false → (u.pipe a d).out = none ∧ u.cget Ctr.PLZ_OVERLAP_DROP = (s.cget Ctr.PLZ_OVERLAP_DROP + 1) % 2 ^ 48 ∧
      u.out = s.out ∧ u.ave.fifos = s.ave.fifos) ∧
    (s.forwarded a k = true → s.exitWay k = .away → (u.pipe a d).out = none ∧ u.out = s.out ∧ u.ave.fifos = s.ave.fifos) ∧
    (s.forwarded a k = true → s.exitWay k = .selector → (u.pipe a d).out = none ∧ Out.toSelector (k.key - 256) k ∈ u.out ∧
      u.ave.fifos = s.ave.fifos)

/-- TOKEN_TRANSFER from the last stage to the half's skew FIFO (02 R45, R56; 16 R461): the stage is empty, and of the token only its contents,
the mark of Table PAC-2 that they bear at its egress port, and the count of its stages change: its stream, its place and its DTS stay. -/
def tokenOffered : Prop :=
  ∀ (s : State) (t a d h : Nat) (data : BitVec 2048) (mark : Bool) (z : Token),
  a < 36 ∧ d < 2 ∧ h < 2 →
  s.aveOut a = false →
  (s.pipe a d).at_ h Config.stagesLess1 = some z →
  ((s.pipe a d).skew h).length < 64 →
  Runs (.tokenTransfer t (.offer a d h data mark)) s fun u =>
    (u.pipe a d).skew h = (s.pipe a d).skew h ++ [{ z with leg := z.leg + 1, data := data, mark := mark }] ∧
    (u.pipe a d).at_ h Config.stagesLess1 = none ∧ (u.pipe a d).since = t

/-- TOKEN_TRANSFER of a compared token to the Plaza (02 R46): it leaves the Median, and where every kerb buffer it goes to has room and
nothing is held back it joins the end of each, but for that of a broken tributary (02 R68), in the stream and epoch it is bound for (07
R218), with the JC bytes of its ODU (06 R174). -/
def tokenPassed : Prop :=
  ∀ (s : State) (t a d : Nat) (k : Token),
  a < 36 ∧ d < 2 →
  (s.pipe a d).out = some k →
  k.leg < 2 →
  s.forwarded a k = true →
  (s.pipe a d).held = [] →
  (∀ p ∈ s.nextDests k, s.aveOut (p.pipe / 2) = false ∧ (s.pipe (p.pipe / 2) (p.pipe % 2)).kerb.length < 256) →
  Runs (.tokenTransfer t (.pass a d)) s fun u =>
    (u.pipe a d).out = none ∧ (u.pipe a d).held = [] ∧
    (((s.nextDests k).map (·.pipe)).Nodup → ∀ p ∈ s.nextDests k, toSliceStage k = true ∨ p.key < 256 ∨ s.tribBroken (p.key - 256) = false →
      (u.pipe (p.pipe / 2) (p.pipe % 2)).kerb = (s.pipe (p.pipe / 2) (p.pipe % 2)).kerb ++ [{ s.tagJc k with key := p.key, epoch := p.epoch }]) ∧
    (∀ c, u.wordN c = s.wordN c ∧ u.cget c = s.cget c)

/-- MEDIAN_COMPARE of two equal tokens (16 R461): they pass as one, when the one before has gone. -/
def medianCompare : Prop :=
  ∀ (s : State) (t a d : Nat) (x : Token) (ra rb : List Token),
  (s.pipe a d).skA = x :: ra →
  (s.pipe a d).skB = x :: rb →
  (s.pipe a d).out = none →
  Runs (.medianCompare t (.token a d)) s fun u =>
    (u.pipe a d).out = some x ∧ (u.pipe a d).skA = ra ∧ (u.pipe a d).skB = rb ∧
    (∀ c, u.wordN c = s.wordN c ∧ u.cget c = s.cget c)

/-! ### PaceIsMeasuredAndCalibrated -/

/-- PACE_GATE_END (02 R50, R51): both halves and both directions. -/
def paceGateEnd : Prop :=
  ∀ (s : State) (t a r0 x0 r1 x1 : Nat),
  a < 36 →
  Runs (.paceGateEnd t a r0 x0 r1 x1) s fun u =>
    gateShows s u a 0 r0 x0 ∧ gateShows s u a 1 r1 x1 ∧ (u.av a).ovf = false ∧ (u.av a).ufl = false

/-- SHED_RESTORE (02 R70): 10 ms after the one before, the tributary next in the order of R41 is restored. -/
def shedRestore : Prop :=
  ∀ (s : State) (t a d r i : Nat),
  a < 36 ∧ d < 2 →
  (s.pipe a d).restored = some r ∧ r + ms 10 ≤ t →
  nextRestore s ((s.pipe a d).shed.filter fun x => (s.odu x).broken.isSome) = some i →
  Runs (.shedRestore t a d) s fun u =>
    (u.odu i).broken = none ∧
    i ∉ (u.pipe a d).shed

/-- CALIBRATION at the spacing and with the margin that R52 names (02 R52, R54). -/
def calibration : Prop :=
  ∀ (s : State) (t a h : Nat) (codes : List DelayCode) (margin : Nat),
  a < 36 ∧ h < 2 ∧ 12 ≤ margin →
  (s.half a h).calAt = 0 ∨ (s.half a h).calAt + us 9500 ≤ t →
  Runs (.calibration t a h codes margin) s fun u =>
    u.rget (Reg.AVE_CAL_CAL_COUNT a h) = (s.rget (Reg.AVE_CAL_CAL_COUNT a h) + 1) % 65536 ∧
    u.rget (Reg.AVE_CAL_WORST_MARGIN_PCT a h) = min margin 255 ∧
    u.rget (Reg.AVE_CAL_LAST_STEPS a h) = min 255 ((codes.map fun c => c.stage * 2 + c.pipe).eraseDups.map fun k =>
      max (tget (fun _ => 0) (s.half a h).cur k) (tget (fun _ => 0) (u.half a h).tgt k) - min (tget (fun _ => 0) (s.half a h).cur k) (tget (fun _ => 0) (u.half a h).tgt k)).sum ∧
    u.rbit (Reg.AVE_PACE_LIVE_CAL_STALE a h) = false ∧
    (u.half a h).calAt = t ∧ (u.half a h).cur = (s.half a h).cur ∧
    ((codes.map fun c => c.stage * 2 + c.pipe).Nodup → ∀ c ∈ codes, tget (fun _ => 0) (u.half a h).tgt (c.stage * 2 + c.pipe) = c.code)

/-- DELAY_CODE_APPLY while the stage of that matched delay is empty (02 R53): one step at most, toward the code wanted. -/
def delayCodeApply : Prop :=
  ∀ (s : State) (t a h d k : Nat),
  a < 36 ∧ h < 2 ∧ d < 2 ∧ k ≤ Config.stagesLess1 →
  (s.pipe a d).at_ h k = none →
  Runs (.delayCodeApply t a h d k) s fun u =>
    (let x := tget (fun _ => 0) (s.half a h).cur (k * 2 + d); let y := tget (fun _ => 0) (s.half a h).tgt (k * 2 + d)
     tget (fun _ => 0) (u.half a h).cur (k * 2 + d) = if x < y then x + 1 else if y < x then x - 1 else x) ∧
    (∀ c, u.wordN c = s.wordN c ∧ u.cget c = s.cget c)

/-- DELAY_CODE_APPLY while that stage holds a token (02 R53): no code changes. -/
def delayCodeHeld : Prop :=
  ∀ (s : State) (t a h d k : Nat),
  ((s.pipe a d).at_ h k).isSome = true →
  Runs (.delayCodeApply t a h d k) s fun u =>
    u.ave = s.ave

/-- CAL_STALE (02 R54). -/
def calStale : Prop :=
  ∀ (s : State) (t a h : Nat),
  a < 36 ∧ h < 2 →
  (s.half a h).calAt + ms 30 ≤ t →
  Runs (.calStale t a h) s fun u =>
    u.rbit (Reg.AVE_PACE_LIVE_CAL_STALE a h) = true

/-! ### MismatchFencesTheAvenue -/

/-- CAL_ABSENT (02 R54; 16 R462): no calibration for 100 ms is a CAL mismatch. -/
def calAbsent : Prop :=
  ∀ (s : State) (t a h : Nat),
  a < 36 ∧ h < 2 →
  (s.half a h).calAt + ms 100 ≤ t →
  s.fenceable a = true →
  Runs (.calAbsent t a h) s fun u =>
    s.fencedBy u a 5

/-- MEDIAN_COMPARE of two tokens that differ (16 R462): a TOKEN mismatch. -/
def tokensDiffer : Prop :=
  ∀ (s : State) (t a d : Nat) (x y : Token) (ra rb : List Token),
  a < 36 →
  (s.pipe a d).skA = x :: ra →
  (s.pipe a d).skB = y :: rb →
  x ≠ y →
  s.fenceable a = true →
  Runs (.medianCompare t (.token a d)) s fun u =>
    s.fencedBy u a 1

/-- MEDIAN_COMPARE of the change sets of a COMMIT that differ (16 R462): a COMMIT mismatch of the Avenue that runs the context. -/
def changesDiffer : Prop :=
  ∀ (s : State) (t c : Nat) (r : RunSt),
  s.ctxAve c < 36 →
  s.running t c = some r →
  s.fenceable (s.ctxAve c) = true →
  Runs (.medianCompare t (.commit c false)) s fun u =>
    s.fencedBy u (s.ctxAve c) 2

/-- MEDIAN_COMPARE of a skew FIFO that holds 64 tokens the other half has not matched, with a 65th to come (16 R461, R462): a SKEW mismatch. -/
def skewOverflow : Prop :=
  ∀ (s : State) (t a d h : Nat) (z : Token),
  a < 36 ∧ h < 2 →
  ((s.pipe a d).skew h).length = 64 ∧ (s.pipe a d).skew (1 - h) = [] →
  (s.pipe a d).at_ h Config.stagesLess1 = some z →
  s.fenceable a = true →
  Runs (.medianCompare t (.skew a d)) s fun u =>
    s.fencedBy u a 3

/-- STALL_TIMEOUT (16 R462): tokens wait, and neither half has delivered one for 1 µs. -/
def stallTimeout : Prop :=
  ∀ (s : State) (t a d : Nat),
  a < 36 →
  (s.pipe a d).kerb ≠ [] ∨ s.offered (a * 2 + d) = true →
  (s.pipe a d).since + us 1 ≤ t →
  s.fenceable a = true →
  Runs (.stallTimeout t a d) s fun u =>
    s.fencedBy u a 4

/-- SELF_ERROR (16 R462). -/
def selfError : Prop :=
  ∀ (s : State) (t a h : Nat),
  a < 36 ∧ h < 2 →
  s.fenceable a = true →
  Runs (.selfError t a h) s fun u =>
    s.fencedBy u a 6

/-- CHECKPOINT_SEAL at a whole multiple of 8,000 ns (16 R464): the open bank holds the slot's committed state, and the other is open. -/
def checkpointSeal : Prop :=
  ∀ (s : State) (t sl : Nat),
  t % ns 8000 = 0 →
  sl < 32 →
  Runs (.checkpointSeal t) s fun u =>
    (if (s.store sl).open1 then (u.store sl).b1 else (u.store sl).b0) = some (s.image t sl) ∧
    (u.store sl).open1 = !(s.store sl).open1 ∧
    (∀ c, u.wordN c = s.wordN c ∧ u.cget c = s.cget c)

/-- SPARE_RELEASE (16 R466): the spare enters service and its contexts will be released with g3 bit 1 set. -/
def spareRelease : Prop :=
  ∀ (s : State) (t sl : Nat) (ok0 ok1 : Bool),
  sl < 32 →
  s.rbit (Reg.PLZ_SLOT_MAP_FENCED sl) = false →
  s.aveState (s.phys sl) = 5 →
  s.phys sl < 36 →
  Runs (.spareRelease t sl ok0 ok1) s fun u =>
    u.aveState (s.phys sl) = 0 ∧ u.rget (Reg.AVE_MED_STAT_SLOT (s.phys sl)) = sl ∧
    (∀ c ∈ s.slotCtxs sl, (u.cx c).seed = true) ∧
    (u.evl.pend.any fun x => x.code == 0x8102 && x.src == sl) = true

/-- FENCE_FILL_END (07 R228; 16 R472). -/
def fenceFillEnd : Prop :=
  ∀ (s : State) (t d i : Nat),
  d < 2 →
  (s.cn d i).aisFill = true →
  s.servedNow d i = true →
  Runs (.fenceFillEnd t d i) s fun u =>
    (u.cn d i).aisFill = false

/-- AVENUE_REPAIR_COMPLETE with both halves passed (16 R468), no slot waiting and no rotation in progress. -/
def avenueRepairComplete : Prop :=
  ∀ (s : State) (t a : Nat),
  a < 36 →
  s.aveState a = 3 ∨ s.aveState a = 2 ∧ ((s.av a).fences.filter fun x => t < x + sec 86400).length < 3 →
  s.ave.exh = [] ∧ s.ave.rot = none →
  Runs (.avenueRepairComplete t a true true) s fun u =>
    u.aveState a = 1 ∧ (u.av a).spareSince = t ∧
    (u.evl.pend.any fun x => x.code == 0x8103 && x.src == a && x.detail == 0) = true

/-- AVENUE_REPAIR_COMPLETE with a half that failed, or at the third fence within 24 h (16 R468). -/
def avenueRetired : Prop :=
  ∀ (s : State) (t a : Nat) (ok0 ok1 : Bool),
  a < 36 →
  (s.aveState a = 3 ∨ s.aveState a = 2) ∧ (ok0 = false ∨ ok1 = false) ∨ s.aveState a = 2 ∧ 3 ≤ ((s.av a).fences.filter fun x => t < x + sec 86400).length →
  s.ave.rot = none →
  Runs (.avenueRepairComplete t a ok0 ok1) s fun u =>
    u.aveState a = 4 ∧
    u.rbit (Reg.AVE_MED_STAT_BAD_HALF0 a) = !ok0 ∧ u.rbit (Reg.AVE_MED_STAT_BAD_HALF1 a) = !ok1 ∧
    (u.evl.pend.any fun x => x.code == 0x8103 && x.src == a && x.detail == 1) = true

/-! ### AluInstructionsCompute -/

/-- ADD (20 R565, Table JIR-4). -/
def add : Prop :=
  ∀ (s : State) (t c : Nat) (w : JWord) (r : RunSt),
  s.executes t c .add w r →
  Runs (.add t c w) s fun u =>
    s.ranTo u c .add r (r.setReg w.dst ((r.reg w.s1) + (if jImm w then w.imm.signExtend 64 else r.reg w.s2))) (r.pc + 1)

/-- SUB (20 R565, Table JIR-4). -/
def sub : Prop :=
  ∀ (s : State) (t c : Nat) (w : JWord) (r : RunSt),
  s.executes t c .sub w r →
  Runs (.sub t c w) s fun u =>
    s.ranTo u c .sub r (r.setReg w.dst ((r.reg w.s1) - (if jImm w then w.imm.signExtend 64 else r.reg w.s2))) (r.pc + 1)

/-- AND (20 R565, Table JIR-4). -/
def and : Prop :=
  ∀ (s : State) (t c : Nat) (w : JWord) (r : RunSt),
  s.executes t c .and w r →
  Runs (.and t c w) s fun u =>
    s.ranTo u c .and r (r.setReg w.dst ((r.reg w.s1) &&& (if jImm w then w.imm.signExtend 64 else r.reg w.s2))) (r.pc + 1)

/-- OR (20 R565, Table JIR-4). -/
def or : Prop :=
  ∀ (s : State) (t c : Nat) (w : JWord) (r : RunSt),
  s.executes t c .or w r →
  Runs (.or t c w) s fun u =>
    s.ranTo u c .or r (r.setReg w.dst ((r.reg w.s1) ||| (if jImm w then w.imm.signExtend 64 else r.reg w.s2))) (r.pc + 1)

/-- XOR (20 R565, Table JIR-4). -/
def xor : Prop :=
  ∀ (s : State) (t c : Nat) (w : JWord) (r : RunSt),
  s.executes t c .xor w r →
  Runs (.xor t c w) s fun u =>
    s.ranTo u c .xor r (r.setReg w.dst ((r.reg w.s1) ^^^ (if jImm w then w.imm.signExtend 64 else r.reg w.s2))) (r.pc + 1)

/-- SHL (20 R565, Table JIR-4). -/
def shl : Prop :=
  ∀ (s : State) (t c : Nat) (w : JWord) (r : RunSt),
  s.executes t c .shl w r →
  Runs (.shl t c w) s fun u =>
    s.ranTo u c .shl r (r.setReg w.dst ((r.reg w.s1) <<< ((if jImm w then w.imm.signExtend 64 else r.reg w.s2).toNat % 64))) (r.pc + 1)

/-- SHR (20 R565, Table JIR-4). -/
def shr : Prop :=
  ∀ (s : State) (t c : Nat) (w : JWord) (r : RunSt),
  s.executes t c .shr w r →
  Runs (.shr t c w) s fun u =>
    s.ranTo u c .shr r (r.setReg w.dst ((r.reg w.s1) >>> ((if jImm w then w.imm.signExtend 64 else r.reg w.s2).toNat % 64))) (r.pc + 1)

/-- SAR (20 R565, Table JIR-4). -/
def sar : Prop :=
  ∀ (s : State) (t c : Nat) (w : JWord) (r : RunSt),
  s.executes t c .sar w r →
  Runs (.sar t c w) s fun u =>
    s.ranTo u c .sar r (r.setReg w.dst ((r.reg w.s1).sshiftRight ((if jImm w then w.imm.signExtend 64 else r.reg w.s2).toNat % 64))) (r.pc + 1)

/-- MUL (20 R565, Table JIR-4). -/
def mul : Prop :=
  ∀ (s : State) (t c : Nat) (w : JWord) (r : RunSt),
  s.executes t c .mul w r →
  Runs (.mul t c w) s fun u =>
    s.ranTo u c .mul r (r.setReg w.dst ((r.reg w.s1) * (if jImm w then w.imm.signExtend 64 else r.reg w.s2))) (r.pc + 1)

/-- MINU (20 R565, Table JIR-4). -/
def minu : Prop :=
  ∀ (s : State) (t c : Nat) (w : JWord) (r : RunSt),
  s.executes t c .minu w r →
  Runs (.minu t c w) s fun u =>
    s.ranTo u c .minu r (r.setReg w.dst (BitVec.ofNat 64 (min (r.reg w.s1).toNat (if jImm w then w.imm.signExtend 64 else r.reg w.s2).toNat))) (r.pc + 1)

/-- MAXU (20 R565, Table JIR-4). -/
def maxu : Prop :=
  ∀ (s : State) (t c : Nat) (w : JWord) (r : RunSt),
  s.executes t c .maxu w r →
  Runs (.maxu t c w) s fun u =>
    s.ranTo u c .maxu r (r.setReg w.dst (BitVec.ofNat 64 (max (r.reg w.s1).toNat (if jImm w then w.imm.signExtend 64 else r.reg w.s2).toNat))) (r.pc + 1)

/-- ADDSU (20 R565, Table JIR-4). -/
def addsu : Prop :=
  ∀ (s : State) (t c : Nat) (w : JWord) (r : RunSt),
  s.executes t c .addsu w r →
  Runs (.addsu t c w) s fun u =>
    s.ranTo u c .addsu r (r.setReg w.dst (BitVec.ofNat 64 (min (2 ^ 64 - 1) ((r.reg w.s1).toNat + (if jImm w then w.imm.signExtend 64 else r.reg w.s2).toNat)))) (r.pc + 1)

/-- SUBSU (20 R565, Table JIR-4). -/
def subsu : Prop :=
  ∀ (s : State) (t c : Nat) (w : JWord) (r : RunSt),
  s.executes t c .subsu w r →
  Runs (.subsu t c w) s fun u =>
    s.ranTo u c .subsu r (r.setReg w.dst (BitVec.ofNat 64 ((r.reg w.s1).toNat - (if jImm w then w.imm.signExtend 64 else r.reg w.s2).toNat))) (r.pc + 1)

/-- General registers (20 R560): the register written reads the value, g0 reads zero whatever is written, and every other register reads as
before. -/
def registerFile : Prop :=
    ∀ (r : RunSt) (n m : BitVec 5) (v : DWord),
    r.g.length = 32 →
    (r.setReg n v).reg m = if m = 0 then 0 else if m = n then v else r.reg m

/-! ### BitFieldInstructionsCompute -/

/-- MOV (20 R565, Table JIR-4). -/
def mov : Prop :=
  ∀ (s : State) (t c : Nat) (w : JWord) (r : RunSt),
  s.executes t c .mov w r →
  Runs (.mov t c w) s fun u =>
    s.ranTo u c .mov r (r.setReg w.dst (if jImm w then w.imm.signExtend 64 else r.reg w.s1)) (r.pc + 1)

/-- NOT (20 R565, Table JIR-4). -/
def not : Prop :=
  ∀ (s : State) (t c : Nat) (w : JWord) (r : RunSt),
  s.executes t c .not w r →
  Runs (.not t c w) s fun u =>
    s.ranTo u c .not r (r.setReg w.dst (~~~(r.reg w.s1))) (r.pc + 1)

/-- POPC: the number of bits set in s1 (20 Table JIR-4). -/
def popc : Prop :=
  ∀ (s : State) (t c : Nat) (w : JWord) (r : RunSt),
  s.executes t c .popc w r →
  Runs (.popc t c w) s fun u =>
    (∃ v : DWord, v.toNat = ((List.range 64).map fun k => b2n ((r.reg w.s1).getLsbD k)).sum ∧ s.ranTo u c .popc r (r.setReg w.dst v) (r.pc + 1))

/-- CLZ: v bits at the top of s1 are zero and the next is one; 64 for zero (20 Table JIR-4). -/
def clz : Prop :=
  ∀ (s : State) (t c : Nat) (w : JWord) (r : RunSt),
  s.executes t c .clz w r →
  Runs (.clz t c w) s fun u =>
    (∃ v : DWord, v.toNat ≤ 64 ∧ (r.reg w.s1).toNat < 2 ^ (64 - v.toNat) ∧ (v.toNat < 64 → 2 ^ (63 - v.toNat) ≤ (r.reg w.s1).toNat) ∧ s.ranTo u c .clz r (r.setReg w.dst v) (r.pc + 1))

/-- BSWAP: byte k of d is byte 7 - k of s1 (20 Table JIR-4). -/
def bswap : Prop :=
  ∀ (s : State) (t c : Nat) (w : JWord) (r : RunSt),
  s.executes t c .bswap w r →
  Runs (.bswap t c w) s fun u =>
    (∃ v : DWord, (∀ k < 8, v.extractLsb' (8 * k) 8 = (r.reg w.s1).extractLsb' (8 * (7 - k)) 8) ∧ s.ranTo u c .bswap r (r.setReg w.dst v) (r.pc + 1))

/-- LDIH: the immediate above the low half of d (20 Table JIR-4). -/
def ldih : Prop :=
  ∀ (s : State) (t c : Nat) (w : JWord) (r : RunSt),
  s.executes t c .ldih w r →
  Runs (.ldih t c w) s fun u =>
    (∃ v : DWord, v.extractLsb' 32 32 = w.imm ∧ v.extractLsb' 0 32 = (r.reg w.dst).extractLsb' 0 32 ∧ s.ranTo u c .ldih r (r.setReg w.dst v) (r.pc + 1))

/-- BEXT: bits [imm[5:0] + imm[11:6] : imm[5:0]] of s1, zero above (20 Table JIR-4). -/
def bext : Prop :=
  ∀ (s : State) (t c : Nat) (w : JWord) (r : RunSt),
  s.executes t c .bext w r →
  Runs (.bext t c w) s fun u =>
    (∃ v : DWord, (∀ k < 64, v.getLsbD k = (decide (k ≤ w.imm.toNat / 64 % 64) && (r.reg w.s1).getLsbD (w.imm.toNat % 64 + k))) ∧ s.ranTo u c .bext r (r.setReg w.dst v) (r.pc + 1))

/-- BINS: d with bits [imm[5:0] + imm[11:6] : imm[5:0]] replaced by the low bits of s1 (20 Table JIR-4). -/
def bins : Prop :=
  ∀ (s : State) (t c : Nat) (w : JWord) (r : RunSt),
  s.executes t c .bins w r →
  Runs (.bins t c w) s fun u =>
    (∃ v : DWord, (∀ k < 64, v.getLsbD k = if w.imm.toNat % 64 ≤ k ∧ k ≤ w.imm.toNat % 64 + w.imm.toNat / 64 % 64 then (r.reg w.s1).getLsbD (k - w.imm.toNat % 64) else (r.reg w.dst).getLsbD k) ∧ s.ranTo u c .bins r (r.setReg w.dst v) (r.pc + 1))

/-- NOP (20 Table JIR-3). -/
def nop : Prop :=
  ∀ (s : State) (t c : Nat) (w : JWord) (r : RunSt),
  s.executes t c .nop w r →
  Runs (.nop t c w) s fun u =>
    s.ranTo u c .nop r (r) (r.pc + 1)

/-! ### PredicatesAndComparisons -/

/-- CMP (20 R566). -/
def cmp : Prop :=
  ∀ (s : State) (t c : Nat) (w : JWord) (r : RunSt),
  s.executes t c .cmp w r →
  Runs (.cmp t c w) s fun u =>
    s.ranTo u c .cmp r (r.setPred w.dst.toNat (let a := (r.reg w.s1); let b := (if jImm w then w.imm.signExtend 64 else r.reg w.s2); match w.minor.toNat % 64 with | 0 => decide (a = b) | 1 => decide (a ≠ b) | 2 => decide (a.toNat < b.toNat) | 3 => decide (a.toNat ≤ b.toNat) | 4 => decide (a.toInt < b.toInt) | 5 => decide (a.toInt ≤ b.toInt) | _ => decide (a &&& b ≠ 0))) (r.pc + 1)

/-- PAND (20 R567). -/
def pand : Prop :=
  ∀ (s : State) (t c : Nat) (w : JWord) (r : RunSt),
  s.executes t c .pand w r →
  Runs (.pand t c w) s fun u =>
    s.ranTo u c .pand r (r.setPred w.dst.toNat ((r.pred w.s1.toNat) && (r.pred w.s2.toNat))) (r.pc + 1)

/-- POR (20 R567). -/
def por : Prop :=
  ∀ (s : State) (t c : Nat) (w : JWord) (r : RunSt),
  s.executes t c .por w r →
  Runs (.por t c w) s fun u =>
    s.ranTo u c .por r (r.setPred w.dst.toNat ((r.pred w.s1.toNat) || (r.pred w.s2.toNat))) (r.pc + 1)

/-- PXOR (20 R567). -/
def pxor : Prop :=
  ∀ (s : State) (t c : Nat) (w : JWord) (r : RunSt),
  s.executes t c .pxor w r →
  Runs (.pxor t c w) s fun u =>
    s.ranTo u c .pxor r (r.setPred w.dst.toNat ((r.pred w.s1.toNat) != (r.pred w.s2.toNat))) (r.pc + 1)

/-- PANDN (20 R567). -/
def pandn : Prop :=
  ∀ (s : State) (t c : Nat) (w : JWord) (r : RunSt),
  s.executes t c .pandn w r →
  Runs (.pandn t c w) s fun u =>
    s.ranTo u c .pandn r (r.setPred w.dst.toNat ((r.pred w.s1.toNat) && !(r.pred w.s2.toNat))) (r.pc + 1)

/-- PSET (20 R567). -/
def pset : Prop :=
  ∀ (s : State) (t c : Nat) (w : JWord) (r : RunSt),
  s.executes t c .pset w r →
  Runs (.pset t c w) s fun u =>
    s.ranTo u c .pset r (r.setPred w.dst.toNat (w.imm.getLsbD 0)) (r.pc + 1)

/-- PRDV (20 R567). -/
def prdv : Prop :=
  ∀ (s : State) (t c : Nat) (w : JWord) (r : RunSt),
  s.executes t c .prdv w r →
  Runs (.prdv t c w) s fun u =>
    s.ranTo u c .prdv r (r.setReg w.dst (BitVec.ofNat 64 r.p.toNat)) (r.pc + 1)

/-- PWRV (20 R567). -/
def pwrv : Prop :=
  ∀ (s : State) (t c : Nat) (w : JWord) (r : RunSt),
  s.executes t c .pwrv w r →
  Runs (.pwrv t c w) s fun u =>
    s.ranTo u c .pwrv r ({ r with p := BitVec.ofNat 8 ((r.reg w.s1).toNat % 256) }) (r.pc + 1)

/-- A guard that does not hold (20 R559): one step, the next offset, and no other effect on the context. -/
def guardFalse : Prop :=
  ∀ (p : JOp × (Nat → Nat → JWord → Instr)) (s : State) (t c : Nat) (w : JWord) (r : RunSt), p ∈ stagingOps →
  s.running t c = some r ∧ atWord (s.cx c) r p.1 w = true →
  guardHolds r w = false →
  r.steps + 1 ≤ (s.cx c).bind.wcsc →
  Runs (p.2 t c w) s fun u =>
    u.cx c = { s.cx c with run := some { r with steps := r.steps + 1, pc := r.pc + 1 } }

/-- An instruction that would take the run beyond WCSC traps with BUDGET at its offset (20 R562; 03 R91). -/
def budgetTrap : Prop :=
  ∀ (p : JOp × (Nat → Nat → JWord → Instr)) (s : State) (t c : Nat) (w : JWord) (r : RunSt), p ∈ computeOps →
  s.running t c = some r ∧ atWord (s.cx c) r p.1 w = true →
  guardHolds r w = true →
  (s.cx c).bind.wcsc < r.steps + p.1.cost →
  Runs (p.2 t c w) s fun u =>
    u.trapped c 0x0A r.pc r

/-! ### ControlInstructionsBranch -/

/-- BR within the code (20 R568). -/
def br : Prop :=
  ∀ (s : State) (t c : Nat) (w : JWord) (r : RunSt),
  s.executes t c .br w r →
  1 ≤ w.imm.toNat ∧ w.imm.toNat ≤ 8191 ∧ r.pc + w.imm.toNat < (s.cx c).bind.code.length →
  Runs (.br t c w) s fun u =>
    s.ranTo u c .br r (r) (r.pc + w.imm.toNat)

/-- CALL with room on the return stack (20 R569). -/
def call : Prop :=
  ∀ (s : State) (t c : Nat) (w : JWord) (r : RunSt),
  s.executes t c .call w r →
  r.stack.length < 8 →
  Runs (.call t c w) s fun u =>
    s.ranTo u c .call r ({ r with stack := (r.pc + 1) :: r.stack }) w.imm.toNat

/-- RET (20 R569). -/
def ret : Prop :=
  ∀ (s : State) (t c : Nat) (w : JWord) (r : RunSt) (a : Nat) (k : List Nat),
  s.executes t c .ret w r →
  r.stack = a :: k →
  Runs (.ret t c w) s fun u =>
    s.ranTo u c .ret r ({ r with stack := k }) a

/-- LSET (20 R570). -/
def lset : Prop :=
  ∀ (s : State) (t c : Nat) (w : JWord) (r : RunSt),
  s.executes t c .lset w r →
  1 ≤ w.imm.toNat ∧ w.imm.toNat ≤ 65535 →
  Runs (.lset t c w) s fun u =>
    s.ranTo u c .lset r ({ r with sl := r.sl.set (w.dst.toNat % 4) (BitVec.ofNat 16 w.imm.toNat) }) (r.pc + 1)

/-- LOOP (20 R570). -/
def loop : Prop :=
  ∀ (s : State) (t c : Nat) (w : JWord) (r : RunSt) (n : Nat),
  s.executes t c .loop w r →
  1 ≤ w.imm.toNat ∧ w.imm.toNat ≤ 8191 ∧ w.imm.toNat ≤ r.pc →
  n = (r.sl.getD (w.dst.toNat % 4) 0).toNat →
  Runs (.loop t c w) s fun u =>
    s.ranTo u c .loop r ({ r with sl := r.sl.set (w.dst.toNat % 4) (BitVec.ofNat 16 (n - 1)) }) (if n ≤ 1 then r.pc + 1 else r.pc - w.imm.toNat)

/-- BR, CALL, RET, LSET and LOOP outside their bounds trap with ILLEGAL_OP (20 R568 to R570). -/
def controlTraps : Prop :=
  ∀ (s : State) (t c : Nat) (w : JWord) (r : RunSt),
  s.running t c = some r →
  atWord (s.cx c) r .br w = true →
  guardHolds r w = true →
  w.imm.toNat = 0 ∨ 8191 < w.imm.toNat ∨ (s.cx c).bind.code.length ≤ r.pc + w.imm.toNat →
  Runs (.br t c w) s fun u =>
    u.trapped c 1 r.pc r

/-- CALL with eight entries held traps with ILLEGAL_OP (20 R569). -/
def stackTraps : Prop :=
  ∀ (s : State) (t c : Nat) (w : JWord) (r : RunSt),
  s.running t c = some r →
  atWord (s.cx c) r .call w = true →
  guardHolds r w = true →
  8 ≤ r.stack.length →
  Runs (.call t c w) s fun u =>
    u.trapped c 1 r.pc r

/-- RET with none held traps with ILLEGAL_OP (20 R569). -/
def emptyStackTraps : Prop :=
  ∀ (s : State) (t c : Nat) (w : JWord) (r : RunSt),
  s.running t c = some r →
  atWord (s.cx c) r .ret w = true →
  guardHolds r w = true →
  r.stack = [] →
  Runs (.ret t c w) s fun u =>
    u.trapped c 1 r.pc r

/-- LSET of zero or above 65,535 traps with ILLEGAL_OP (20 R570). -/
def lsetTraps : Prop :=
  ∀ (s : State) (t c : Nat) (w : JWord) (r : RunSt),
  s.running t c = some r →
  atWord (s.cx c) r .lset w = true →
  guardHolds r w = true →
  w.imm.toNat = 0 ∨ 65535 < w.imm.toNat →
  Runs (.lset t c w) s fun u =>
    u.trapped c 1 r.pc r

/-- LOOP by zero, above 8,191, or to before offset 0 traps with ILLEGAL_OP (20 R570). -/
def loopTraps : Prop :=
  ∀ (s : State) (t c : Nat) (w : JWord) (r : RunSt),
  s.running t c = some r →
  atWord (s.cx c) r .loop w = true →
  guardHolds r w = true →
  w.imm.toNat = 0 ∨ 8191 < w.imm.toNat ∨ r.pc < w.imm.toNat →
  Runs (.loop t c w) s fun u =>
    u.trapped c 1 r.pc r

/-- ILLEGAL_INSTRUCTION (20 R558, R563): a word that stands for no instruction, or the end of the code, traps with ILLEGAL_OP. -/
def illegalInstruction : Prop :=
  ∀ (s : State) (t c : Nat) (r : RunSt),
  s.running t c = some r →
  ((s.cx c).bind.code[r.pc]?.bind jdec) = none →
  Runs (.illegalInstruction t c) s fun u =>
    u.trapped c 1 r.pc r

/-! ### MemoryInstructionsReachTheirSpaces -/

/-- LD (20 R571 to R573, Table JIR-5). -/
def ld : Prop :=
  ∀ (s : State) (t c : Nat) (w : JWord) (r : RunSt),
  s.executes t c .ld w r →
  accAddr w r + accSize w ≤ 0x1000 ∧ accAddr w r % accSize w = 0 →
  Runs (.ld t c w) s fun u =>
    s.ranTo u c .ld r (r.setReg w.dst (loadVal w (readLe (scrByte (s.cx c) r) (accAddr w r) (accSize w)))) (r.pc + 1)

/-- PRM (20 R571 to R573, Table JIR-5). -/
def prm : Prop :=
  ∀ (s : State) (t c : Nat) (w : JWord) (r : RunSt),
  s.executes t c .prm w r →
  accAddr w r % accSize w = 0 →
  Runs (.prm t c w) s fun u =>
    s.ranTo u c .prm r (r.setReg w.dst (loadVal w (readLe (fun k => (s.cx c).bind.param.getD k 0) (accAddr w r) (accSize w)))) (r.pc + 1)

/-- OHR (20 R571 to R573, Table JIR-5). -/
def ohr : Prop :=
  ∀ (s : State) (t c : Nat) (w : JWord) (r : RunSt),
  s.executes t c .ohr w r →
  accAddr w r % accSize w = 0 ∧ accAddr w r < 0x100 →
  Runs (.ohr t c w) s fun u =>
    s.ranTo u c .ohr r (r.setReg w.dst (loadVal w (if bit w.minor.toNat 3 then readLe (s.cx c).win.byte (accAddr w r) (accSize w) else readBe (s.cx c).win.byte (accAddr w r) (accSize w)))) (r.pc + 1)

/-- TLD (20 R571, R573). -/
def tld : Prop :=
  ∀ (s : State) (t c : Nat) (w : JWord) (r : RunSt) (e role : Nat),
  s.executes t c .tld w r →
  accAddr w r % accSize w = 0 ∧ accAddr w r < 0x800 →
  ttSlot (s.cx c) (accAddr w r / 256) = some (e, role) →
  Runs (.tld t c w) s fun u =>
    s.ranTo u c .tld r (r.setReg w.dst (loadVal w (readLe (s.tabByte r) (e * 256 + accAddr w r % 256) (accSize w)))) (r.pc + 1)

/-- ST (20 R571, R573; 03 R78). -/
def st : Prop :=
  ∀ (s : State) (t c : Nat) (w : JWord) (r : RunSt),
  s.executes t c .st w r →
  accAddr w r + accSize w ≤ 0x1000 ∧ accAddr w r % accSize w = 0 →
  Runs (.st t c w) s fun u =>
    s.ranTo u c .st r ({ r with scr := sputs r.scr (accAddr w r) (leBytes (accSize w) (r.reg w.s2).toNat) }) (r.pc + 1)

/-- TST of bytes its role may write (20 R571; 05 R169). -/
def tst : Prop :=
  ∀ (s : State) (t c : Nat) (w : JWord) (r : RunSt) (e role : Nat),
  s.executes t c .tst w r →
  accAddr w r % accSize w = 0 ∧ accAddr w r < 0x800 →
  ttSlot (s.cx c) (accAddr w r / 256) = some (e, role) →
  (∀ k < accSize w, rolePermits role (accAddr w r % 256 + k) = true) →
  Runs (.tst t c w) s fun u =>
    s.ranTo u c .tst r ({ r with tab := sputs r.tab (e * 256 + accAddr w r % 256) (leBytes (accSize w) (r.reg w.s2).toNat) }) (r.pc + 1)

/-- OHW (20 R571, R573). -/
def ohw : Prop :=
  ∀ (s : State) (t c : Nat) (w : JWord) (r : RunSt),
  s.executes t c .ohw w r →
  accAddr w r % accSize w = 0 ∧ accAddr w r < 0x40 →
  Runs (.ohw t c w) s fun u =>
    s.ranTo u c .ohw r ({ r with oh := sputs r.oh (accAddr w r) (if bit w.minor.toNat 3 then leBytes (accSize w) (r.reg w.s2).toNat else beBytes (accSize w) (r.reg w.s2).toNat) }) (r.pc + 1)

/-- A misaligned LD within scratch traps with ALIGN, and one beyond 0xFFF with SCRATCH_RANGE (20 R571). -/
def memoryTraps : Prop :=
  ∀ (s : State) (t c : Nat) (w : JWord) (r : RunSt),
  s.running t c = some r →
  atWord (s.cx c) r .ld w = true →
  guardHolds r w = true →
  0x1000 < accAddr w r + accSize w ∨ accAddr w r % accSize w ≠ 0 →
  Runs (.ld t c w) s fun u =>
    u.trapped c (if 0x1000 < accAddr w r + accSize w then 2 else 3) (accAddr w r) r

/-- A staged scratch byte is the one the run reads, and every other byte is the committed one (03 R78). -/
def stagedBytesAreSeen : Prop :=
    ∀ (h : CtxH) (r : RunSt) (a o : Nat) (l : List Byte),
    scrByte h { r with scr := sputs r.scr a l } o =
      if a ≤ o ∧ o < a + l.length then l.getD (o - a) 0 else scrByte h r o

/-! ### DefectTimeAndEventInstructions -/

/-- INTG STEP (20 R575, R577, R578) of record k of the entry bound in slot IMM [2:0]: the record, the result and the events. -/
def intgStepRun : Prop :=
  ∀ (s : State) (t c : Nat) (w : JWord) (r : RunSt) (e role k : Nat) (x : IntgOut),
  s.executes t c .intgStep w r →
  ttSlot (s.cx c) (w.imm.toNat % 8) = some (e, role) ∧ role ≠ 0 →
  k = w.imm.toNat / 8 % 16 ∧ k ≤ 8 →
  x = intgStep (intgOfNat (readLe (s.tabByte r) (e * 256 + intgOfs k) 8)) ((r.reg w.s1).getLsbD 0) (sdtsm r.rel) (s.tabByte r (e * 256 + 0x33)).toNat (s.tabByte r (e * 256 + 0x34)).toNat →
  r.evs.length + x.logs.length ≤ 32 →
  Runs (.intgStep t c w) s fun u =>
    s.ranTo u c .intgStep r { (r.setReg w.dst (BitVec.ofNat 64 (intgResult x))) with tab := sputs r.tab (e * 256 + intgOfs k) (leBytes 8 (intgToNat x.ig)), intg := (e, k) :: r.intg, evs := r.evs ++ x.logs.flatMap (intgEvent r.rel e x.ig.dbit) } (r.pc + 1)

/-- INTG SEED (20 R576, R577) of record k of the entry bound in slot IMM [2:0]: the record, the result and the events. -/
def intgSeedRun : Prop :=
  ∀ (s : State) (t c : Nat) (w : JWord) (r : RunSt) (e role k : Nat) (x : IntgOut),
  s.executes t c .intgSeed w r →
  ttSlot (s.cx c) (w.imm.toNat % 8) = some (e, role) ∧ role ≠ 0 →
  k = w.imm.toNat / 8 % 16 ∧ k ≤ 8 →
  x = intgSeed (intgOfNat (readLe (s.tabByte r) (e * 256 + intgOfs k) 8)) (sdtsm r.rel) →
  r.evs.length + x.logs.length ≤ 32 →
  Runs (.intgSeed t c w) s fun u =>
    s.ranTo u c .intgSeed r { (r.setReg w.dst (BitVec.ofNat 64 (intgResult x))) with tab := sputs r.tab (e * 256 + intgOfs k) (leBytes 8 (intgToNat x.ig)), intg := (e, k) :: r.intg, evs := r.evs ++ x.logs.flatMap (intgEvent r.rel e x.ig.dbit) } (r.pc + 1)

/-- The procedure of R575 outside SUSPECT, with its counts already taken: DX is declared after SET_N present samples and cleared after CLR_N
absent ones, and no other step changes it. -/
def integratorRule : Prop :=
    ∀ (i : IntgRec) (x : Bool) (now fs fc : Nat),
    i.state < 2 →
    (intgStep i x now fs fc).ig.dx =
      (if x = true ∧ max 1 i.setN ≤ (intgCount i x).run then true else if x = false ∧ max 1 i.clrN ≤ (intgCount i x).run then false else i.dx)

/-- PMADD of a parameter the entry carries (20 R579). -/
def pmadd : Prop :=
  ∀ (s : State) (t c : Nat) (w : JWord) (r : RunSt) (e role : Nat),
  s.executes t c .pmadd w r →
  ttSlot (s.cx c) (w.imm.toNat % 8) = some (e, role) →
  (s.pmE e).carries (s.layer e) (w.imm.toNat / 16 % 8) = true →
  Runs (.pmadd t c w) s fun u =>
    s.ranTo u c .pmadd r ({ r with pm := r.pm ++ [(e, w.imm.toNat / 16 % 8, (r.reg w.s1).toNat % 2 ^ 32)] }) (r.pc + 1)

/-- EVT with room for the event (20 R583, R584; 03 R81). -/
def evt : Prop :=
  ∀ (s : State) (t c : Nat) (w : JWord) (r : RunSt),
  s.executes t c .evt w r →
  r.evs.length < 32 →
  Runs (.evt t c w) s fun u =>
    s.ranTo u c .evt r ({ r with evs := r.evs ++ [⟨r.rel, w.minor.toNat, 0x5800 + w.imm.toNat, (r.reg w.s1).toNat % 2 ^ 32, (r.reg w.s2).toNat % 2 ^ 48⟩] }) (r.pc + 1)

/-- TSET (20 R585). -/
def tset : Prop :=
  ∀ (s : State) (t c : Nat) (w : JWord) (r : RunSt) (v : DWord),
  s.executes t c .tset w r →
  v = sdtsn r.rel + r.reg w.s1 + BitVec.ofNat 64 w.imm.toNat →
  Runs (.tset t c w) s fun u =>
    s.ranTo u c .tset r ({ r with st := r.st.set (w.dst.toNat % 4) (if v = 0 then 1 else v) }) (r.pc + 1)

/-- TTST (20 R585). -/
def ttst : Prop :=
  ∀ (s : State) (t c : Nat) (w : JWord) (r : RunSt) (v : DWord),
  s.executes t c .ttst w r →
  v = r.st.getD (w.s1.toNat % 4) 0 →
  Runs (.ttst t c w) s fun u =>
    s.ranTo u c .ttst r (r.setPred w.dst.toNat (decide (v ≠ 0 ∧ v.toNat ≤ (sdtsn r.rel).toNat))) (r.pc + 1)

/-- TCLR (20 R585). -/
def tclr : Prop :=
  ∀ (s : State) (t c : Nat) (w : JWord) (r : RunSt),
  s.executes t c .tclr w r →
  Runs (.tclr t c w) s fun u =>
    s.ranTo u c .tclr r ({ r with st := r.st.set (w.dst.toNat % 4) 0 }) (r.pc + 1)

/-- TRD (20 R586, Table JIR-2): seconds, nanoseconds, fraction, nanoseconds in all, the release period, or milliseconds. -/
def trd : Prop :=
  ∀ (s : State) (t c : Nat) (w : JWord) (r : RunSt),
  s.executes t c .trd w r →
  Runs (.trd t c w) s fun u =>
    s.ranTo u c .trd r (r.setReg w.dst (BitVec.ofNat 64 (match w.minor.toNat with | 0 => secOf r.rel % 2 ^ 48 | 1 => nsOf r.rel | 2 => r.rel % 65536 | 3 => secOf r.rel * 1000000000 + nsOf r.rel | 4 => r.per | _ => (secOf r.rel * 1000 + nsOf r.rel / 1000000) % 2 ^ 32))) (r.pc + 1)

/-- SRD (20 R586, Table JIR-2). -/
def srd : Prop :=
  ∀ (s : State) (t c : Nat) (w : JWord) (r : RunSt),
  s.executes t c .srd w r →
  Runs (.srd t c w) s fun u =>
    s.ranTo u c .srd r (r.setReg w.dst (match w.s1.toNat with | 0 => BitVec.ofNat 64 (c % 131072) | 1 => BitVec.ofNat 64 r.steps | 2 => BitVec.ofNat 64 (s.cx c).bind.jabi | n => if n < 8 then BitVec.ofNat 64 (r.sl.getD (n - 4) 0).toNat else r.st.getD (n - 8) 0)) (r.pc + 1)

/-! ### QueueInstructionsAndStalls -/

/-- PUSH (20 R580, R584). -/
def push : Prop :=
  ∀ (s : State) (t c : Nat) (w : JWord) (r : RunSt) (q : Nat),
  s.executes t c .push w r →
  (r.reg w.s1).toNat % 32 = 0 ∧ (r.reg w.s1).toNat + 32 ≤ 0x1000 →
  qBound s (s.cx c) w false (some 1) = some q →
  stagedWords r < 64 →
  Runs (.push t c w) s fun u =>
    s.ranTo u c .push r ({ r with acts := r.acts ++ [.push q (BitVec.ofNat 256 (readLe (scrByte (s.cx c) r) (r.reg w.s1).toNat 32))] }) (r.pc + 1)

/-- POP of a queue that holds an item (20 R580, R582; 12 R375). -/
def pop : Prop :=
  ∀ (s : State) (t c : Nat) (w : JWord) (r : RunSt) (q : Nat) (i : QItem) (rest : List QItem),
  s.executes t c .pop w r →
  (r.reg w.s1).toNat % 32 = 0 ∧ (r.reg w.s1).toNat + 32 ≤ 0x1000 →
  qBound s (s.cx c) w true none = some q →
  (s.cx c).shadow = false →
  r.pops.length < 16 →
  (s.q q).items = i :: rest →
  Runs (.pop t c w) s fun u =>
    s.ranTo u c .pop r ({ (r.setReg w.dst (BitVec.ofNat 64 (i.kind + i.plen * 2 ^ 16))) with scr := sputs r.scr (r.reg w.s1).toNat (leBytes 32 i.data.toNat), pops := (q, i) :: r.pops }) (r.pc + 1) ∧
    (u.q q).items = rest ∧ (u.q q).depth = (s.q q).depth

/-- PKTB with no packet open (20 R581, R584). -/
def pktb : Prop :=
  ∀ (s : State) (t c : Nat) (w : JWord) (r : RunSt) (q : Nat),
  s.executes t c .pktb w r →
  (r.reg w.s1).toNat % 32 = 0 ∧ (r.reg w.s1).toNat + 32 ≤ 0x1000 →
  qBound s (s.cx c) w false (some 2) = some q →
  openPkt (s.cx c) r q = none →
  1 ≤ (r.reg w.s2).toNat ∧ (r.reg w.s2).toNat ≤ 16384 →
  stagedWords r < 64 →
  Runs (.pktb t c w) s fun u =>
    s.ranTo u c .pktb r ({ r with acts := r.acts ++ [.pktBegin q (r.reg w.s2).toNat (BitVec.ofNat 256 (readLe (scrByte (s.cx c) r) (r.reg w.s1).toNat 32))] }) (r.pc + 1)

/-- PKTC of an open packet (20 R581, R584). -/
def pktc : Prop :=
  ∀ (s : State) (t c : Nat) (w : JWord) (r : RunSt) (q : Nat),
  s.executes t c .pktc w r →
  (r.reg w.s1).toNat % 32 = 0 ∧ (r.reg w.s1).toNat + 32 ≤ 0x1000 →
  qBound s (s.cx c) w false (some 2) = some q →
  (openPkt (s.cx c) r q).isSome = true →
  stagedWords r < 64 →
  Runs (.pktc t c w) s fun u =>
    s.ranTo u c .pktc r ({ r with acts := r.acts ++ [.pktWord q (BitVec.ofNat 256 (readLe (scrByte (s.cx c) r) (r.reg w.s1).toNat 32))] }) (r.pc + 1)

/-- PKTA of an open packet (20 R581; 03 R84). -/
def pkta : Prop :=
  ∀ (s : State) (t c : Nat) (w : JWord) (r : RunSt) (q : Nat),
  s.executes t c .pkta w r →
  qBound s (s.cx c) w false (some 2) = some q →
  (openPkt (s.cx c) r q).isSome = true →
  Runs (.pkta t c w) s fun u =>
    s.ranTo u c .pkta r ({ r with acts := r.acts ++ [.pktAbort q] }) (r.pc + 1)

/-- QLEN of a slot bound for push, pop or both (20 R580, Table JIR-7): the items visible, without those the run has popped, and the free
slots, with those the run has popped and without those it has pushed. -/
def qlen : Prop :=
  ∀ (s : State) (t c : Nat) (w : JWord) (r : RunSt) (q m : Nat),
  s.executes t c .qlen w r →
  qSlot (s.cx c) w = some (q, m) →
  m = 1 ∨ m = 2 ∨ m = 3 →
  (s.cx c).shadow = false →
  Runs (.qlen t c w) s fun u =>
    s.ranTo u c .qlen r (r.setReg w.dst (BitVec.ofNat 64 (let vis := (s.q q).items.length; let free := (s.q q).cap - 1 - ((s.q q).depth - poppedFrom r q) - stagedOn r q; if m = 1 then free else if m = 2 then vis else vis + free * 2 ^ 32))) (r.pc + 1)

/-- WAIT for an item that is there (20 R587). -/
def waitItem : Prop :=
  ∀ (s : State) (t c : Nat) (w : JWord) (r : RunSt) (q : Nat),
  s.executes t c .waitItem w r →
  qBound s (s.cx c) w true none = some q →
  (s.q q).items ≠ [] →
  Runs (.waitItem t c w) s fun u =>
    s.ranTo u c .waitItem r (r) (r.pc + 1)

/-- WAIT for room that is there (20 R587). -/
def waitRoom : Prop :=
  ∀ (s : State) (t c : Nat) (w : JWord) (r : RunSt) (q : Nat),
  s.executes t c .waitRoom w r →
  qBound s (s.cx c) w false none = some q →
  (s.q q).full = false →
  Runs (.waitRoom t c w) s fun u =>
    s.ranTo u c .waitRoom r (r) (r.pc + 1)

/-- POP of an empty queue stalls the run and frees the engine (20 R582; 03 R82). -/
def popStalls : Prop :=
  ∀ (s : State) (t c : Nat) (w : JWord) (r : RunSt) (q : Nat),
  s.executes t c .pop w r →
  (r.reg w.s1).toNat % 32 = 0 ∧ (r.reg w.s1).toNat + 32 ≤ 0x1000 →
  qBound s (s.cx c) w true none = some q →
  (s.cx c).shadow = false ∧ r.pops.length < 16 →
  (s.q q).items = [] →
  Runs (.pop t c w) s fun u =>
    (u.cx c).run = some { r with steps := r.steps + 3, stall := some (.pop (w.imm.toNat % 4) (r.reg w.s1).toNat w.dst.toNat) } ∧
    u.curCx (engineOf c) = none

/-- WAIT for an item of an empty queue (20 R587; 03 R82): the run stalls, the engine is free. -/
def waitItemStalls : Prop :=
  ∀ (s : State) (t c : Nat) (w : JWord) (r : RunSt) (q : Nat),
  s.executes t c .waitItem w r →
  qBound s (s.cx c) w true none = some q →
  (s.q q).items = [] ∧ (s.cx c).shadow = false →
  Runs (.waitItem t c w) s fun u =>
    (u.cx c).run = some { r with steps := r.steps + 2, stall := some (.item (w.imm.toNat % 4)) } ∧
    u.curCx (engineOf c) = none

/-- WAIT for room in a full queue (20 R587; 03 R82): the run stalls, the engine is free. -/
def waitRoomStalls : Prop :=
  ∀ (s : State) (t c : Nat) (w : JWord) (r : RunSt) (q : Nat),
  s.executes t c .waitRoom w r →
  qBound s (s.cx c) w false none = some q →
  (s.q q).full = true ∧ (s.cx c).shadow = false →
  Runs (.waitRoom t c w) s fun u =>
    (u.cx c).run = some { r with steps := r.steps + 2, stall := some (.room (w.imm.toNat % 4)) } ∧
    u.curCx (engineOf c) = none

/-- STALL_RESUME of a POP whose item has arrived (20 R582): the POP completes at its step cost. -/
def stallResume : Prop :=
  ∀ (s : State) (t c sl ofs dst q : Nat) (r : RunSt) (i : QItem) (rest : List QItem),
  (s.cx c).state = 1 ∧ t < (s.cx c).nextRel →
  (s.cx c).run = some r ∧ r.stall = some (.pop sl ofs dst) →
  q = ((s.cx c).bind.qs.getD sl (0, 0)).1 →
  (s.q q).items = i :: rest →
  Runs (.stallResume t c) s fun u =>
    (u.cx c).run = some { (r.setReg (BitVec.ofNat 5 dst) (BitVec.ofNat 64 (i.kind + i.plen * 2 ^ 16))) with scr := sputs r.scr ofs (leBytes 32 i.data.toNat), pops := (q, i) :: r.pops, stall := none, pc := r.pc + 1 } ∧
    (u.q q).items = rest

/-- STALL_RESUME of a WAIT whose condition has come (20 R587). -/
def stallEnds : Prop :=
  ∀ (s : State) (t c sl : Nat) (r : RunSt),
  (s.cx c).state = 1 ∧ t < (s.cx c).nextRel →
  (s.cx c).run = some r →
  r.stall = some (.item sl) ∧ (s.q ((s.cx c).bind.qs.getD sl (0, 0)).1).items ≠ [] ∨ r.stall = some (.room sl) ∧ (s.q ((s.cx c).bind.qs.getD sl (0, 0)).1).full = false →
  Runs (.stallResume t c) s fun u =>
    (u.cx c).run = some { r with stall := none, pc := r.pc + 1 }

/-! ### RunsAreReleasedDispatchedAndCommitted -/

/-- CONTEXT_RELEASE (02 R59, R60; 03 R62, R77, R97): a context bound and not halted, its frame due, is released at t with the frame period times
its divider as its period; the registers at release are those of Table JRM-5. -/
def contextRelease : Prop :=
  ∀ (s : State) (t c per next k : Nat),
  (s.cx c).state = 1 ∧ t < next →
  (s.cx c).rels = 0 ∨ (s.cx c).nextRel ≤ t →
  s.entryKey (s.cx c).entry0 = some k ∧ s.frameDue t k (s.cx c) = true →
  s.roleRuns = true ∧ s.ctxHeld c = false →
  Runs (.contextRelease t c per next) s fun u =>
    (u.cx c).nextRel = next ∧
    (u.cx c).late = (if (s.cx c).run.isSome then min 0xFFFF ((s.cx c).late + 1) else (s.cx c).late) ∧
    (u.cx c).run = some { rel := t, per := per * 2 ^ (s.cx c).bind.divLog2, st := (s.cx c).st, p := (s.cx c).p, g := (((s.cx c).g.set 1 (BitVec.ofNat 64 ((s.cx c).rels + 1))).set 2 0x40).set 3 (BitVec.ofNat 64 (b2n (decide ((s.cx c).rels = 0)) + 2 * b2n (s.cx c).seed + 4 * b2n ((s.cx c).run.isSome || (s.cx c).halfLate) + 8 * b2n (decide ((s.cx c).acc.lost ≠ 0)))) } ∧
    (u.cx c).win.now = (s.cx c).fnow ∧ (u.cx c).win.prev = (s.cx c).fprev

/-- ENGINE_DISPATCH of an idle engine (03 R75). -/
def engineDispatch : Prop :=
  ∀ (s : State) (t e c : Nat) (r : RunSt),
  s.curCx e = none →
  pickReady (s.ready e) = some c →
  (s.cx c).run = some r →
  Runs (.engineDispatch t e) s fun u =>
    u.curCx e = some c ∧
    (u.cx c).run = some (if r.started then r else { r with started := true, steps := r.steps + 6 })

/-- The context dispatched has the earliest next release of the ready ones, and the lower number among equals listed in rising order (03 R75). -/
def earliestIsPicked : Prop :=
    ∀ (l : List (Nat × CtxH)) (c : Nat),
    pickReady l = some c → ∃ h, (c, h) ∈ l ∧ ∀ p ∈ l, h.nextRel ≤ p.2.nextRel

/-- COMMIT on time in both halves, of a run that is no shadow run (03 R79, R83; 20 R588). -/
def commit : Prop :=
  ∀ (s : State) (t c t1 : Nat) (w : JWord) (r : RunSt),
  s.running t c = some r ∧ atWord (s.cx c) r .commit w = true →
  stdRow (s.cx c).bind.routine = none ∧ r.steps + 8 ≤ (s.cx c).bind.wcsc →
  t1 < (s.cx c).nextRel →
  (s.cx c).shadow = false →
  (r.scr.map (·.1)).Nodup ∧ (r.tab.map (·.1)).Nodup →
  Runs (.commit t c w t1) s fun u =>
    (u.cx c).run = none ∧ (u.cx c).g = r.g ∧ (u.cx c).p = r.p ∧ (u.cx c).st = r.st ∧
    (u.cx c).commits = ((s.cx c).commits + 1) % 2 ^ 32 ∧
    (∀ o, mget (u.cx c).scr o = (sget r.scr o).getD (mget (s.cx c).scr o)) ∧
    (∀ k, k % 256 < 0x80 ∨ 0x8A ≤ k % 256 → mget u.jrm.trail k = (sget r.tab k).getD (mget s.jrm.trail k)) ∧
    u.curCx (engineOf c) = none

/-- COMMIT that the other half reaches too late (03 R83): the run is discarded and LATE counts once. -/
def commitLateInOneHalf : Prop :=
  ∀ (s : State) (t c t1 : Nat) (w : JWord) (r : RunSt),
  s.running t c = some r ∧ atWord (s.cx c) r .commit w = true →
  stdRow (s.cx c).bind.routine = none ∧ r.steps + 8 ≤ (s.cx c).bind.wcsc →
  (s.cx c).nextRel ≤ t1 →
  Runs (.commit t c w t1) s fun u =>
    (u.cx c).run = none ∧ (u.cx c).g = (s.cx c).g ∧ (u.cx c).scr = (s.cx c).scr ∧
    (u.cx c).late = min 0xFFFF ((s.cx c).late + 1) ∧
    (u.cx c).commits = (s.cx c).commits ∧
    (∀ k, mget u.jrm.trail k = mget s.jrm.trail k)

/-! ### LineSignalMarkersFecAndPrbs -/

/-- SIGNAL_DETECT_CHANGE (04 R126, LIN_LANE_STAT). -/
def signalDetectChange : Prop :=
  ∀ (s : State) (t l : Nat) (on : Bool),
  l < 128 ∧ s.domOn (72 + l / 16) = true →
  Runs (.signalDetectChange t l on) s fun u =>
    u.rbit (Reg.LIN_LANE_STAT_SIG_DET l) = on ∧
    (∀ c, c ≠ (Reg.LIN_LANE_STAT_SIG_DET l).addr → u.wordN c = s.wordN c)

/-- Energy lost on a lane whose interface takes signal detect as a source of LOS (04 R126, Table LIN-3): the source is present since then, or
since it was. -/
def energyLost : Prop :=
  ∀ (s : State) (t l i : Nat),
  l < 128 ∧ s.domOn (72 + l / 16) = true →
  s.laneLif l = some i →
  s.rbit (Reg.LIN_LIF_LOS_CFG_SD_EN i) = true →
  Runs (.signalDetectChange t l false) s fun u =>
    (u.lif i).sd = some ((s.lif i).sd.getD t)

/-- CDR_LOCK_CHANGE of a line lane (04 R127): a loss is counted in LIN_LANE_CDR_LOL. -/
def cdrLockChange : Prop :=
  ∀ (s : State) (t l : Nat) (on : Bool),
  l < 128 ∧ s.domOn (72 + l / 16) = true →
  Runs (.cdrLockChange t l on) s fun u =>
    u.rbit (Reg.LIN_LANE_STAT_CDR_LOCK l) = on ∧
    u.cget (Ctr.LIN_LANE_CDR_LOL l) = (s.cget (Ctr.LIN_LANE_CDR_LOL l) + if s.rbit (Reg.LIN_LANE_STAT_CDR_LOCK l) = true ∧ on = false then 1 else 0) % 2 ^ 48

/-- CDR lock lost on a lane is a source of LOS of its interface (04 R127). -/
def cdrLost : Prop :=
  ∀ (s : State) (t l i : Nat),
  l < 128 ∧ s.domOn (72 + l / 16) = true →
  s.laneLif l = some i →
  Runs (.cdrLockChange t l false) s fun u =>
    (u.lif i).cdr = some ((s.lif i).cdr.getD t)

/-- LOS_DECLARE (04 R126 to R128): LOS with a cause bit for each source present, and the bits it keeps down. -/
def losDeclare : Prop :=
  ∀ (s : State) (t i : Nat),
  i < 128 →
  s.losDue t i = true →
  s.losOn i = false →
  Runs (.losDeclare t i) s fun u =>
    u.rbit (Reg.LIN_LIF_LIVE_LOS i) = true ∧
    ((s.lif i).cdr.isSome → u.rbit (Reg.LIN_LIF_LIVE_CDR_LOL i) = true) ∧
    ((s.lif i).sd.isSome → u.rbit (Reg.LIN_LIF_LIVE_SD_LOS i) = true) ∧
    ((s.lif i).gei.isSome → u.rbit (Reg.LIN_LIF_LIVE_GEI_LOS i) = true) ∧
    u.rbit (Reg.LIN_LIF_LIVE_AM_UNLOCK i) = false ∧ u.rbit (Reg.LIN_LIF_LIVE_LANE_DESKEW_FAIL i) = false ∧
    u.rbit (Reg.LIN_LIF_LIVE_FEC_DEG i) = false ∧ u.rbit (Reg.LIN_LIF_LIVE_FEC_UNCORR i) = false

/-- LOS_CLEAR once every source has been absent for LOS_CLR_US (04 R126). -/
def losClear : Prop :=
  ∀ (s : State) (t i : Nat),
  i < 128 →
  s.losOn i = true →
  (s.lif i).sd = none ∧ (s.lif i).cdr = none ∧ (s.lif i).gei = none →
  (s.lif i).clear + s.losClr i ≤ t →
  Runs (.losClear t i) s fun u =>
    (s.lifType i = 0 ∨ u.rbit (Reg.LIN_LIF_LIVE_LOS i) = false) ∧
    u.rbit (Reg.LIN_LIF_LIVE_CDR_LOL i) = false ∧ u.rbit (Reg.LIN_LIF_LIVE_SD_LOS i) = false ∧ u.rbit (Reg.LIN_LIF_LIVE_GEI_LOS i) = false ∧
    u.rbit (Reg.LIN_LIF_LIVE_AM_UNLOCK i) = !s.amLocked i

/-- ALIGNMENT_MARKER of a logical lane (04 R109): the lane counts it, and AM_UNLOCK shows whether every lane has lock. -/
def alignmentMarker : Prop :=
  ∀ (s : State) (t i lane num errs : Nat) (spaced : Bool) (mfas : Nat),
  i < 128 ∧ s.lifType i ≠ 0 →
  lane < s.logical i →
  s.losOn i = false →
  Runs (.alignmentMarker t i lane num errs spaced mfas) s fun u =>
    (u.lif i).lane lane = ((s.lif i).lane lane).mark t num errs spaced ∧
    u.rbit (Reg.LIN_LIF_LIVE_AM_UNLOCK i) = !u.amLocked i

/-- AM lock (04 R109): two consecutive markers with at most 3 errored bits at the marker spacing bring it; four consecutive ones with more
at the expected positions end it; one elsewhere changes nothing of a locked lane; and fewer than four keep it. -/
def markerRule : Prop :=
    ∀ (a : AmLane) (t0 t1 t2 t3 n0 n1 n2 n3 e0 e1 e2 e3 : Nat) (p0 p1 p2 : Bool),
    (e0 ≤ 3 → e1 ≤ 3 → ((a.mark t0 n0 e0 true).mark t1 n1 e1 true).lock = true) ∧
    (3 < e0 → 3 < e1 → 3 < e2 → 3 < e3 → ((((a.mark t0 n0 e0 true).mark t1 n1 e1 true).mark t2 n2 e2 true).mark t3 n3 e3 true).lock = false) ∧
    (a.lock = true ∨ 3 < e0 → a.mark t0 n0 e0 false = a) ∧
    (a.bad = 0 → (((a.mark t0 n0 e0 p0).mark t1 n1 e1 p1).mark t2 n2 e2 p2).lock = false → a.lock = false)

/-- FEC_CODEWORD corrected (04 R112, Table LIN-6; R132 for 8-bit symbols). -/
def fecCodeword : Prop :=
  ∀ (s : State) (t i syms nbits : Nat),
  i < 128 ∧ s.lifType i ≠ 0 →
  s.losOn i = false →
  syms ≤ (if s.lifType i = 15 then 8 else 15) →
  Runs (.fecCodeword t i syms nbits false) s fun u =>
    u.cget (Ctr.LIN_CW_TOTAL i) = (s.cget (Ctr.LIN_CW_TOTAL i) + 1) % 2 ^ 48 ∧
    u.cget (Ctr.LIN_HIST i syms) = (s.cget (Ctr.LIN_HIST i syms) + 1) % 2 ^ 48 ∧
    (syms ≠ 0 → u.cget (Ctr.LIN_CW_CORR i) = (s.cget (Ctr.LIN_CW_CORR i) + 1) % 2 ^ 48) ∧
    (syms ≠ 0 → u.cget (Ctr.LIN_SYM_CORR i) = (s.cget (Ctr.LIN_SYM_CORR i) + syms) % 2 ^ 48) ∧
    (syms ≠ 0 → u.cget (Ctr.LIN_BIT_CORR i) = (s.cget (Ctr.LIN_BIT_CORR i) + nbits) % 2 ^ 48) ∧
    (∀ c, u.wordN c = s.wordN c)

/-- FEC_CODEWORD uncorrectable (04 R112): counted, and shown for 10 µs. -/
def fecUncorrectable : Prop :=
  ∀ (s : State) (t i syms nbits : Nat),
  i < 128 ∧ s.lifType i ≠ 0 →
  s.losOn i = false →
  Runs (.fecCodeword t i syms nbits true) s fun u =>
    u.cget (Ctr.LIN_CW_TOTAL i) = (s.cget (Ctr.LIN_CW_TOTAL i) + 1) % 2 ^ 48 ∧
    u.cget (Ctr.LIN_CW_UNCORR i) = (s.cget (Ctr.LIN_CW_UNCORR i) + 1) % 2 ^ 48 ∧
    u.rbit (Reg.LIN_LIF_LIVE_FEC_UNCORR i) = true ∧
    Pulse.mk (Reg.LIN_LIF_LIVE_FEC_UNCORR i).addr 8 (t + us 10) ∈ u.pulses

/-- No FEC counter advances while the interface has LOS (04 R114). -/
def fecCounterFrozen : Prop :=
  ∀ (s : State) (t i syms nbits : Nat) (uncorr : Bool),
  s.losOn i = true →
  Runs (.fecCodeword t i syms nbits uncorr) s fun u =>
    (∀ c, u.cget c = s.cget c ∧ u.wordN c = s.wordN c)

/-- FEC_DEG_WINDOW without LOS (04 R115): BIT_CORR_WIN, and FEC_DEG after DEG_SET windows above or DEG_CLR at or below. Lane rates are in
kb/s, DEG_WIN in 10 ms. -/
def fecDegWindow : Prop :=
  ∀ (s : State) (t i win : Nat) (above : Bool),
  i < 128 ∧ s.lifType i ≠ 0 →
  win = max 1 (s.rget (Reg.LIN_LIF_FEC_CFG_DEG_WIN i)) ∧ t % ms (10 * win) = 0 →
  s.losOn i = false ∧ (s.lif i).losInWin = false →
  above = decide (s.rget (Reg.LIN_LIF_FEC_CFG_DEG_MANT i) * (lifLanes (s.lifType i) * lifLaneRate (s.lifType i) * 1000) * win < (s.lif i).winBits * 10 ^ s.rget (Reg.LIN_LIF_FEC_CFG_DEG_EXP i) * 100) →
  Runs (.fecDegWindow t i) s fun u =>
    u.cget (Ctr.LIN_BIT_CORR_WIN i) = (s.lif i).winBits % 2 ^ 48 ∧ (u.lif i).winBits = 0 ∧
    (u.lif i).degAbove = (if above then (s.lif i).degAbove + 1 else 0) ∧ (u.lif i).degBelow = (if above then 0 else (s.lif i).degBelow + 1) ∧
    u.rbit (Reg.LIN_LIF_LIVE_FEC_DEG i) = (if s.rget (Reg.LIN_LIF_FEC_CFG_DEG_SET i) ≤ (u.lif i).degAbove then true else if s.rget (Reg.LIN_LIF_FEC_CFG_DEG_CLR i) ≤ (u.lif i).degBelow then false else s.rbit (Reg.LIN_LIF_LIVE_FEC_DEG i))

/-- A degrade window with LOS counts as neither above nor below (04 R115). -/
def losWindow : Prop :=
  ∀ (s : State) (t i win : Nat),
  i < 128 ∧ s.lifType i ≠ 0 →
  win = max 1 (s.rget (Reg.LIN_LIF_FEC_CFG_DEG_WIN i)) ∧ t % ms (10 * win) = 0 →
  s.losOn i = false ∧ (s.lif i).losInWin = true →
  Runs (.fecDegWindow t i) s fun u =>
    (u.lif i).degAbove = (s.lif i).degAbove ∧ (u.lif i).degBelow = (s.lif i).degBelow ∧ (u.lif i).losInWin = false

/-- PRBS_LOCK (04 R134). -/
def prbsLock : Prop :=
  ∀ (s : State) (t l : Nat),
  l < 128 →
  s.rbit (Reg.LIN_LANE_PRBS_CFG_CHK_EN l) = true ∧ s.prbsPermit l = true →
  Runs (.prbsLock t l) s fun u =>
    u.rbit (Reg.LIN_LANE_STAT_PRBS_LOCK l) = true ∧
    (∀ c, c ≠ (Reg.LIN_LANE_STAT_PRBS_LOCK l).addr → u.wordN c = s.wordN c)

/-- PRBS_LOSS_OF_LOCK (04 R134): 1,024 bits with their mismatches; more than 32 end the lock and count it. -/
def prbsLossOfLock : Prop :=
  ∀ (s : State) (t l errs : Nat),
  l < 128 ∧ errs ≤ 1024 →
  s.rbit (Reg.LIN_LANE_STAT_PRBS_LOCK l) = true →
  Runs (.prbsLossOfLock t l errs) s fun u =>
    u.cget (Ctr.LIN_LANE_PRBS_ERR l) = (s.cget (Ctr.LIN_LANE_PRBS_ERR l) + errs) % 2 ^ 48 ∧
    u.rbit (Reg.LIN_LANE_STAT_PRBS_LOCK l) = decide (errs ≤ 32) ∧
    u.cget (Ctr.LIN_LANE_PRBS_LOL l) = (s.cget (Ctr.LIN_LANE_PRBS_LOL l) + if errs ≤ 32 then 0 else 1) % 2 ^ 48

/-- LIN_LANE_PRBS_CFG_WRITE under a PRBS permit (04 R135). -/
def linLanePrbsCfgWrite : Prop :=
  ∀ (s : State) (t : Nat) (a : Access) (v l : Nat),
  s.accessFault a = none →
  l < 128 ∧ a.off = Reg.LIN_LANE_PRBS_CFG l →
  v % 16 ≤ 8 →
  s.prbsPermit l = true →
  Runs (.linLanePrbsCfgWrite t a v) s fun u =>
    u.wordN a.off = v % 128

/-- LIN_LANE_PRBS_CFG_WRITE of a reserved pattern, or without a permit (04 R135): nothing is stored, the write completes with CA and is
recorded. -/
def prbsWriteRefused : Prop :=
  ∀ (s : State) (t : Nat) (a : Access) (v l : Nat),
  s.accessFault a = none →
  l < 128 ∧ a.off = Reg.LIN_LANE_PRBS_CFG l →
  8 < v % 16 ∨ s.prbsPermit l = false →
  Runs (.linLanePrbsCfgWrite t a v) s fun u =>
    u.wordN a.off = s.wordN a.off ∧
    Out.refused a.tag true ∈ u.out ∧
    u.wordN Reg.SYS_VIOL_CNT = (s.wordN Reg.SYS_VIOL_CNT + 1) % 2 ^ 32

/-! ### InterfacesAndGroupsAreConfiguredAndFormed -/

/-- LINE_IF_CFG of an interface that is not configured yet (04 R106, R126): it is enabled with LOS declared and its lanes take its class. -/
def lineIfCfg : Prop :=
  ∀ (s : State) (t : Nat) (d : Desc) (lif ty dpll : Nat),
  s.cmdReady t d = true →
  lif < 128 ∧ 1 ≤ ty ∧ ty ≤ 9 ∧ lif % lifLanes ty = 0 →
  2 ≤ dpll ∧ dpll ≤ 7 →
  s.lifType lif = 0 ∧ s.rbit (Reg.LIN_LIF_CFG_GROUPED lif) = false →
  (∀ j ∈ s.lifsUsed, lanesMeet lif (lifLanes ty) j (lifLanes (s.lifType j)) = false) →
  (∀ j ∈ s.lifsUsed, quadsMeet lif (lifLanes ty) j (lifLanes (s.lifType j)) = true → lifClass (s.lifType j) = lifClass ty) →
  Runs (.lineIfCfg t d lif ty dpll 0 0) s fun u =>
    s.completes u (okCpl d 0x0100 t) ∧
    u.lifType lif = ty ∧ u.rbit (Reg.LIN_LIF_CFG_ENABLED lif) = true ∧ u.rbit (Reg.LIN_LIF_LIVE_LOS lif) = true ∧
    (∀ k < lifLanes ty, u.rget (Reg.LIN_LANE_STAT_CLASS (lif + k)) = lifClass ty)

/-- LINE_IF_CFG of an OTU4 interface (04 R130, R131): it takes the slice in the slot. -/
def interfaceOtu4 : Prop :=
  ∀ (s : State) (t : Nat) (d : Desc) (lif dpll slice slot : Nat),
  s.cmdReady t d = true →
  lif ≤ 28 ∧ lif % 4 = 0 →
  2 ≤ dpll ∧ dpll ≤ 7 →
  slice < 256 ∧ slot < 32 →
  s.sliceTaken slice = false ∧ s.slotSlices slot [] < 8 →
  s.lifType lif = 0 ∧ s.rbit (Reg.LIN_LIF_CFG_GROUPED lif) = false →
  (∀ j ∈ s.lifsUsed, lanesMeet lif 4 j (lifLanes (s.lifType j)) = false) →
  (∀ j ∈ s.lifsUsed, quadsMeet lif 4 j (lifLanes (s.lifType j)) = true → lifClass (s.lifType j) = 3) →
  Runs (.lineIfCfg t d lif 15 dpll slice slot) s fun u =>
    s.completes u (okCpl d 0x0100 t) ∧
    u.lifType lif = 15 ∧ u.rget (Reg.LIN_LIF_CFG_OS_FIRST lif) = slice ∧ u.sliceSlot slice = some slot ∧
    u.rbit (Reg.LIN_LIF_LIVE_LOS lif) = true

/-- LINE_IF_CFG on a lane of another interface (04 R106): E_STATE naming LIF, and nothing changes. -/
def laneTaken : Prop :=
  ∀ (s : State) (t : Nat) (d : Desc) (lif ty dpll j : Nat),
  s.cmdReady t d = true →
  lif < 128 ∧ 1 ≤ ty ∧ ty ≤ 9 ∧ lif % lifLanes ty = 0 →
  2 ≤ dpll ∧ dpll ≤ 7 →
  s.lifType lif = 0 ∧ j ∈ s.lifsUsed →
  lanesMeet lif (lifLanes ty) j (lifLanes (s.lifType j)) = true →
  Runs (.lineIfCfg t d lif ty dpll 0 0) s fun u =>
    s.completes u ⟨d.tag, 9, 0x0100, 0x10, t, 0⟩ ∧
    u.lin = s.lin ∧ u.wordN (Reg.LIN_LIF_CFG_TYPE lif).addr = s.wordN (Reg.LIN_LIF_CFG_TYPE lif).addr

/-- LINE_IF_CFG of another class than an interface of its quads has (04 R103, R106): E_CAPACITY naming TYPE, and nothing changes. -/
def classMixed : Prop :=
  ∀ (s : State) (t : Nat) (d : Desc) (lif ty dpll j : Nat),
  s.cmdReady t d = true →
  lif < 128 ∧ 1 ≤ ty ∧ ty ≤ 9 ∧ lif % lifLanes ty = 0 →
  2 ≤ dpll ∧ dpll ≤ 7 →
  s.lifType lif = 0 ∧ s.rbit (Reg.LIN_LIF_CFG_GROUPED lif) = false →
  (∀ k ∈ s.lifsUsed, lanesMeet lif (lifLanes ty) k (lifLanes (s.lifType k)) = false) →
  j ∈ s.lifsUsed ∧ quadsMeet lif (lifLanes ty) j (lifLanes (s.lifType j)) = true ∧ lifClass (s.lifType j) ≠ lifClass ty →
  Runs (.lineIfCfg t d lif ty dpll 0 0) s fun u =>
    s.completes u ⟨d.tag, 8, 0x0100, 0x11, t, 0⟩ ∧
    u.lin = s.lin ∧ u.lifType lif = 0

/-- LINE_IF_CFG with TYPE 0 (04 R106): an interface in no group and under no permit is removed. -/
def interfaceRemoved : Prop :=
  ∀ (s : State) (t : Nat) (d : Desc) (lif dpll : Nat),
  s.cmdReady t d = true →
  lif < 128 ∧ s.lifType lif ≠ 0 ∧ s.rbit (Reg.LIN_LIF_CFG_GROUPED lif) = false ∧ s.anyPermit linePermits lif = false →
  Runs (.lineIfCfg t d lif 0 dpll 0 0) s fun u =>
    s.completes u (okCpl d 0x0100 t) ∧
    u.lifType lif = 0 ∧ u.lif lif = {} ∧ u.rbit (Reg.LIN_LIF_LIVE_LOS lif) = false ∧
    (∀ n ∈ s.lifSlices lif, u.sliceSlot n = none)

/-- LINE_GRP_CFG of a group that is not formed (04 R116, R117, R123): members and slices are taken, and it begins with GROUP_FAIL. -/
def lineGrpCfg : Prop :=
  ∀ (s : State) (t : Nat) (d : Desc) (og base gid n ty : Nat) (ms : List (Nat × Nat)) (slots : List Nat),
  s.cmdReady t d = true ∧ s.privileged t = true →
  og < 64 ∧ gid < 2 ^ 20 ∧ s.rbit (Reg.LIN_GRP_CFG_ENABLED og) = false →
  ms ≠ [] ∧ ms.length ≤ 32 ∧ (ms.map (·.1)).Nodup ∧ (ms.map (·.2)).Nodup →
  ty ≠ 0 ∧ ty ≠ 15 →
  (∀ m ∈ ms, m.1 < 128 ∧ 1 ≤ m.2 ∧ m.2 ≤ 255 ∧ s.lifType m.1 = ty ∧ s.rbit (Reg.LIN_LIF_CFG_GROUPED m.1) = false ∧ s.anyPermit linePermits m.1 = false) →
  n = (ms.map fun m => lifInst (s.lifType m.1)).sum ∧ n ≤ 64 ∧ base + n ≤ 256 ∧ slots.length = n →
  (∀ j < n, s.sliceTaken (base + j) = false) →
  (∀ x ∈ slots, x < 32 ∧ s.slotSlices x [] + (slots.filter (· == x)).length ≤ 8) →
  1 ≤ n →
  Runs (.lineGrpCfg t d og base ms.length gid ms slots) s fun u =>
    s.completes u (okCpl d 0x0101 t) ∧
    u.rbit (Reg.LIN_GRP_CFG_ENABLED og) = true ∧ u.grpN og = n ∧ u.rget (Reg.LIN_GRP_CFG_OS_BASE og) = base ∧ u.rget (Reg.LIN_GRP_GID_GID og) = gid ∧
    (∀ m ∈ ms, u.rbit (Reg.LIN_LIF_CFG_GROUPED m.1) = true ∧ u.rget (Reg.LIN_LIF_CFG_GROUP m.1) = og ∧ u.rget (Reg.LIN_LIF_CFG_PID m.1) = m.2) ∧
    (∀ j < n, u.sliceSlot (base + j) = slots[j]?) ∧
    u.rbit (Reg.LIN_GRP_LIVE_GROUP_FAIL og) = true

/-- LINE_GRP_CFG with COUNT 0 (04 R116, R120): a group that carries no connection and whose members are under no permit is taken apart, its slices
are free, and its members belong to no group. -/
def groupRemoved : Prop :=
  ∀ (s : State) (t : Nat) (d : Desc) (og base gid : Nat) (ms : List (Nat × Nat)) (slots : List Nat),
  s.cmdReady t d = true ∧ s.privileged t = true →
  og < 64 ∧ s.rbit (Reg.LIN_GRP_CFG_ENABLED og) = true ∧ s.grpConnected og = false →
  (∀ m ∈ (s.grp og).members, s.anyPermit linePermits m.lif = false) →
  Runs (.lineGrpCfg t d og base 0 gid ms slots) s fun u =>
    s.completes u (okCpl d 0x0101 t) ∧
    u.rbit (Reg.LIN_GRP_CFG_ENABLED og) = false ∧ u.grp og = {} ∧ u.rbit (Reg.LIN_GRP_LIVE_GROUP_FAIL og) = false ∧
    (∀ m ∈ (s.grp og).members, m.lif < 128 → u.rbit (Reg.LIN_LIF_CFG_GROUPED m.lif) = false) ∧
    (∀ n ∈ s.grpSlices og, u.sliceSlot n = none)

/-- GROUP_FORMATION (04 R119): every member is delayed to the latest marker plus the headroom, when that is within DESKEW_MAX_NS for each. -/
def groupFormation : Prop :=
  ∀ (s : State) (t g last : Nat),
  g < 64 ∧ s.rbit (Reg.LIN_GRP_CFG_ENABLED g) = true →
  s.grpReady g = true ∧ (s.grp g).formed = false →
  last = (s.grp g).members.foldl (fun x m => max x m.arr) 0 →
  (∀ m ∈ (s.grp g).members, last + ns (min (s.rget (Reg.LIN_GRP_TIMERS_DESKEW_MAX_NS g)) (s.rget (Reg.LIN_GRP_TIMERS_HEADROOM_NS g))) ≤ m.arr + ns (s.rget (Reg.LIN_GRP_TIMERS_DESKEW_MAX_NS g))) →
  Runs (.groupFormation t g) s fun u =>
    (u.grp g).formed = true ∧ (u.grp g).okSince = some t ∧
    (∀ m ∈ (u.grp g).members, m.aligned = true ∧ m.arr + m.delay = last + ns (min (s.rget (Reg.LIN_GRP_TIMERS_DESKEW_MAX_NS g)) (s.rget (Reg.LIN_GRP_TIMERS_HEADROOM_NS g))))

/-- GROUP_FAIL_CLEAR after REFORM_US of every member aligned (04 R123). -/
def groupFailClear : Prop :=
  ∀ (s : State) (t g a : Nat),
  g < 64 ∧ s.rbit (Reg.LIN_GRP_LIVE_GROUP_FAIL g) = true →
  (s.grp g).okSince = some a ∧ a + us (s.grp g).reform ≤ t →
  Runs (.groupFailClear t g) s fun u =>
    u.rbit (Reg.LIN_GRP_LIVE_GROUP_FAIL g) = false ∧
    (u.grp g).everClear = true

/-- GROUP_REFORM after DESKEW_FAIL for 10 ms (04 R124): a new release point and event 0x6020. -/
def groupReform : Prop :=
  ∀ (s : State) (t g a : Nat),
  g < 64 ∧ s.rbit (Reg.LIN_GRP_CFG_ENABLED g) = true →
  (s.grp g).lateSince = some a ∧ a + ms 10 ≤ t →
  s.grpReady g = true ∧ ((s.grp g).members.all fun m => m.aligned || m.late) = true →
  Runs (.groupReform t g) s fun u =>
    (u.evl.pend.any fun x => x.code == 0x6020 && x.src == g && x.detail == (s.grp g).relOfs % 2 ^ 24 + (u.grp g).relOfs % 2 ^ 24 * 2 ^ 24) = true ∧
    u.rbit (Reg.LIN_GRP_LIVE_REFORMED g) = true ∧ (u.grp g).formed = true ∧ (u.grp g).lateSince = none

/-- A recovered member is delayed to the standing release point when its marker comes at or before it within DESKEW_MAX_NS; one that comes
after it is late and stays out (04 R123, R124). -/
def lateMemberWaits : Prop :=
    ∀ (m r : MemberH) (dmax : Nat),
    (m.arr ≤ r.arr + r.delay → r.arr + r.delay - m.arr ≤ ns dmax →
      (m.align dmax (some r)).aligned = true ∧ m.arr + (m.align dmax (some r)).delay = r.arr + r.delay) ∧
    (r.arr + r.delay < m.arr → (m.align dmax (some r)).late = true ∧ (m.align dmax (some r)).aligned = m.aligned)

/-! ### AlignersFindFramesAndDeclareDefects -/

/-- CANDIDATE_SIGHTING of the alignment signal at a position that no candidate is due at (05 R142): it starts one. -/
def candidateSighting : Prop :=
  ∀ (s : State) (t k b mfas : Nat) (a : AlignerH),
  (s.al k).on = true ∧ (s.al k).st ≠ .inFrame →
  a = (s.al k).pass (s.frameBytes k) b →
  a.due (s.frameBytes k) b = none ∧ (s.al k).held = none →
  a.cands.length < 8 →
  Runs (.candidateSighting t k b 0xF6F6F6282828 mfas) s fun u =>
    (u.al k).cands = a.cands ++ [(b, 0)] ∧ (u.al k).st = (s.al k).st ∧
    (∀ c, u.wordN c = s.wordN c ∧ u.cget c = s.cget c)

/-- A position found while eight candidates stand makes none and counts in ALIGN_OVF (05 R142). -/
def candidatesFull : Prop :=
  ∀ (s : State) (t k b mfas : Nat) (a : AlignerH),
  s.wf = true →
  (s.al k).on = true ∧ (s.al k).st ≠ .inFrame →
  a = (s.al k).pass (s.frameBytes k) b →
  a.due (s.frameBytes k) b = none ∧ (s.al k).held = none →
  8 ≤ a.cands.length →
  Runs (.candidateSighting t k b 0xF6F6F6282828 mfas) s fun u =>
    u.al k = a ∧
    (∀ x ∈ s.alignEntries k, u.trailGet x 0x8A 2 = min 0xFFFF (s.trailGet x 0x8A 2 + 1))

/-- A match one frame period after a candidate's last sighting counts a repeat (05 R143). -/
def candidateRepeats : Prop :=
  ∀ (s : State) (t k b mfas : Nat) (a : AlignerH) (c : Nat × Nat),
  (s.al k).on = true ∧ (s.al k).st ≠ .inFrame →
  a = (s.al k).pass (s.frameBytes k) b →
  a.due (s.frameBytes k) b = some c ∧ c.2 + 1 < s.ifFrames k →
  Runs (.candidateSighting t k b 0xF6F6F6282828 mfas) s fun u =>
    (u.al k).cands = a.cands.map fun x => if x = c then (b, c.2 + 1) else x

/-- The first candidate to reach IF_FRAMES repeats in HUNT becomes the frame position, and its MFAS the reference (05 R144): a realignment. -/
def candidateConfirms : Prop :=
  ∀ (s : State) (t k b mfas : Nat) (a : AlignerH) (c : Nat × Nat),
  (s.al k).on = true ∧ (s.al k).st = .hunt →
  a = (s.al k).pass (s.frameBytes k) b →
  a.due (s.frameBytes k) b = some c ∧ s.ifFrames k ≤ c.2 + 1 →
  Runs (.candidateSighting t k b 0xF6F6F6282828 mfas) s fun u =>
    (u.al k).st = .inFrame ∧ (u.al k).pos = b % s.frameBytes k ∧ (u.al k).cands = [] ∧ (u.al k).mfas.ref = mfas % 256 ∧ (u.al k).since = t ∧
    (u.al k).realigns = (s.al k).realigns + 1

/-- One that confirms in OOF is held (05 R146). -/
def candidateHeld : Prop :=
  ∀ (s : State) (t k b mfas : Nat) (a : AlignerH) (c : Nat × Nat),
  (s.al k).on = true ∧ (s.al k).st = .oof →
  a = (s.al k).pass (s.frameBytes k) b →
  a.due (s.frameBytes k) b = some c ∧ s.ifFrames k ≤ c.2 + 1 →
  Runs (.candidateSighting t k b 0xF6F6F6282828 mfas) s fun u =>
    (u.al k).st = .oof ∧ (u.al k).held = some (b % s.frameBytes k) ∧ (u.al k).cands = []

/-- Another pattern one frame period after its last sighting discards a candidate (05 R143). -/
def candidateDropped : Prop :=
  ∀ (s : State) (t k b mfas : Nat) (pat : BitVec 48) (a : AlignerH) (c : Nat × Nat),
  (s.al k).on = true ∧ (s.al k).st ≠ .inFrame →
  a = (s.al k).pass (s.frameBytes k) b →
  a.due (s.frameBytes k) b = some c ∧ pat ≠ 0xF6F6F6282828 →
  Runs (.candidateSighting t k b pat mfas) s fun u =>
    (u.al k).cands = a.cands.filter fun x => x ≠ c

/-- FRAME_CHECK of a good frame in IF (05 R145). -/
def frameCheck : Prop :=
  ∀ (s : State) (t k mfas omfi : Nat),
  (s.al k).on = true ∧ (s.al k).st = .inFrame →
  1 ≤ s.oofFrames k →
  Runs (.frameCheck t k 0xF6F62828 mfas omfi) s fun u =>
    (u.al k).st = .inFrame ∧ (u.al k).err = 0 ∧ (u.al k).good = (s.al k).good + 1 ∧
    (u.al k).mfas = (s.al k).mfas.check t 256 (mfas % 256) (s.ifFrames k) (s.oofFrames k) ∧
    (∀ c, u.wordN c = s.wordN c ∧ u.cget c = s.cget c)

/-- OOF_FRAMES errored frames in a row (05 R145, R153): OOF, and TTI_STABLE of every context of the instance is 0. -/
def frameLost : Prop :=
  ∀ (s : State) (t k mfas omfi : Nat) (fas : Word),
  (s.al k).on = true ∧ (s.al k).st = .inFrame →
  fas ≠ 0xF6F62828 →
  s.oofFrames k ≤ (s.al k).err + 1 →
  Runs (.frameCheck t k fas mfas omfi) s fun u =>
    (u.al k).st = .oof ∧ (u.al k).since = t ∧
    (∀ c ∈ s.ctxOf k, (u.cx c).acc.ttiStable = 0)

/-- IF_FRAMES good frames at the old position bring the aligner back to it (05 R146). -/
def oofReturns : Prop :=
  ∀ (s : State) (t k mfas omfi : Nat),
  (s.al k).on = true ∧ (s.al k).st = .oof →
  s.ifFrames k ≤ (s.al k).good + 1 →
  Runs (.frameCheck t k 0xF6F62828 mfas omfi) s fun u =>
    (u.al k).st = .inFrame ∧ (u.al k).pos = (s.al k).pos ∧ (u.al k).held = none

/-- Otherwise the aligner moves to the held candidate at that check (05 R146, R152): a realignment. -/
def oofMoves : Prop :=
  ∀ (s : State) (t k mfas omfi b : Nat) (fas : Word),
  (s.al k).on = true ∧ (s.al k).st = .oof ∧ (s.al k).held = some b →
  (if fas = 0xF6F62828 then (s.al k).good + 1 else 0) < s.ifFrames k →
  Runs (.frameCheck t k fas mfas omfi) s fun u =>
    (u.al k).st = .inFrame ∧ (u.al k).pos = b ∧ (u.al k).held = none ∧ (u.al k).err = 0 ∧ (u.al k).good = 0 ∧
    (u.al k).realigns = (s.al k).realigns + 1

/-- OOM (05 R148, R149 with its own modulus): an expected value ends the run of unexpected ones, OOF_FRAMES unexpected in a row declare it,
and IF_FRAMES values that increase by one from each other after it end it with the last as the reference. -/
def multiframeRule : Prop :=
    ∀ (m : MfH) (t n v ifF oofF : Nat),
    (m.out = false → m.have_ = true → v = (m.ref + 1) % n → (m.check t n v ifF oofF).out = false ∧ (m.check t n v ifF oofF).err = 0) ∧
    (m.out = false → m.have_ = true → v ≠ (m.ref + 1) % n → (m.check t n v ifF oofF).out = decide (oofF ≤ m.err + 1)) ∧
    (m.out = true → (m.check t n v ifF oofF).ref = v ∧
      (m.check t n v ifF oofF).out = decide ((if m.good ≠ 0 ∧ v = (m.ref + 1) % n then m.good + 1 else 1) < ifF))

/-- DLOF_DECLARE (05 R147, R170): the defect, HW_DEFECTS [0] of every entry of the instance, and the instant of the change. -/
def dlofDeclare : Prop :=
  ∀ (s : State) (t k : Nat),
  (s.al k).on = true ∧ (s.al k).st ≠ .inFrame ∧ (s.al k).dlof = false ∧ (s.al k).since + s.lofTicks k ≤ t →
  Runs (.dlofDeclare t k) s fun u =>
    (u.al k).dlof = true ∧
    (∀ x ∈ s.entriesOf k, bit (u.trailByte x 0x88) 0 = true ∧ (bit (s.trailByte x 0x88) 0 = false → u.trailGet x 0x8C 4 = nsOf t))

/-- DLOM_DECLARE (05 R148, R170): the defect, HW_DEFECTS [1] of every entry of the instance, and the instant of the change. -/
def dlomDeclare : Prop :=
  ∀ (s : State) (t k : Nat),
  (s.al k).mfas.out = true ∧ (s.al k).mfas.dec = false ∧ (s.al k).mfas.since + s.lofTicks k ≤ t →
  Runs (.dlomDeclare t k) s fun u =>
    (u.al k).mfas.dec = true ∧
    (∀ x ∈ s.entriesOf k, bit (u.trailByte x 0x88) 1 = true ∧ (bit (s.trailByte x 0x88) 1 = false → u.trailGet x 0x8C 4 = nsOf t))

/-- DLOOMFI_DECLARE (05 R149, R170): the defect, HW_DEFECTS [2] of every entry of the instance, and the instant of the change. -/
def dloomfiDeclare : Prop :=
  ∀ (s : State) (t k : Nat),
  (s.al k).omfi.out = true ∧ (s.al k).omfi.dec = false ∧ (s.al k).omfi.since + s.lofTicks k ≤ t →
  Runs (.dloomfiDeclare t k) s fun u =>
    (u.al k).omfi.dec = true ∧
    (∀ x ∈ s.entriesOf k, bit (u.trailByte x 0x88) 2 = true ∧ (bit (s.trailByte x 0x88) 2 = false → u.trailGet x 0x8C 4 = nsOf t))

/-- DLOF_CLEAR (05 R147). -/
def dlofClear : Prop :=
  ∀ (s : State) (t k : Nat),
  (s.al k).dlof = true ∧ (s.al k).st = .inFrame ∧ (s.al k).since + s.lofTicks k ≤ t →
  Runs (.dlofClear t k) s fun u =>
    (u.al k).dlof = false ∧
    (∀ x ∈ s.entriesOf k, bit (u.trailByte x 0x88) 0 = false)

/-- DLOM_CLEAR (05 R148). -/
def dlomClear : Prop :=
  ∀ (s : State) (t k : Nat),
  (s.al k).mfas.dec = true ∧ (s.al k).mfas.out = false ∧ (s.al k).mfas.since + s.lofTicks k ≤ t →
  Runs (.dlomClear t k) s fun u =>
    (u.al k).mfas.dec = false ∧
    (∀ x ∈ s.entriesOf k, bit (u.trailByte x 0x88) 1 = false)

/-- DLOOMFI_CLEAR (05 R149). -/
def dloomfiClear : Prop :=
  ∀ (s : State) (t k : Nat),
  (s.al k).omfi.dec = true ∧ (s.al k).omfi.out = false ∧ (s.al k).omfi.since + s.lofTicks k ≤ t →
  Runs (.dloomfiClear t k) s fun u =>
    (u.al k).omfi.dec = false ∧
    (∀ x ∈ s.entriesOf k, bit (u.trailByte x 0x88) 2 = false)

/-- FAST_PATH_AIS_END (05 R164): the replacement ends at the ODU's next frame start once no trigger stands. -/
def fastPathAisEnd : Prop :=
  ∀ (s : State) (t i : Nat),
  (s.odu i).fast = true ∧ s.trig (256 + i) = false →
  Runs (.fastPathAisEnd t i) s fun u =>
    (u.odu i).fast = false ∧
    (∀ x ∈ s.entriesOf (256 + i), bit (u.trailByte x 0x88) 5 = false)

/-! ### OverheadIsSampledAndInserted -/

/-- FRAME_RECEIVED of an OTUC, OTU4 or ODU frame (05 R139, R140, R150): bytes as the stage of the instance sees them, and the violations of its
BIP-8 against the parity of the frame two before. -/
def frameReceived : Prop :=
  ∀ (s : State) (t k c : Nat) (oh : List Byte) (par : Byte) (x : MapRx),
  s.wf = true →
  c ∈ s.ctxOf k →
  Runs (.frameReceived t (.otn k oh par x)) s fun u =>
    (u.cx c).fnow = s.seenFrame k oh ∧ (u.cx c).fprev = (s.cx c).fnow ∧ (u.cx c).fAt = some t ∧
    (u.cx c).acc.frames = (s.cx c).acc.frames + 1 ∧ (u.cx c).acc.lost = (s.cx c).acc.lost + b2n (s.fastOn k) ∧
    (s.transparent (s.cx c).entry0 = false →
      (u.cx c).acc.bipViol = (s.cx c).acc.bipViol + violOf (s.par k)[1]? (s.seenFrame k oh) (s.fieldOf (s.cx c).entry0)) ∧
    (u.par k).head? = some (if s.seenRepl k then 0 else par) ∧
    (∀ x, u.wordN x = s.wordN x ∧ u.cget x = s.cget x)

/-- One frame in the accumulators (05 R140, Table OVH-3): violations, errored frames, BEI from 0 to 8 alone, and the run of equal STAT values. -/
def accumulatorRule : Prop :=
    ∀ (a : OhAcc) (f viol : Nat) (sm lost : Bool) (oh : List Byte) (b : Nat),
    b = (oh.getD (f + 2) 0).toNat →
    (a.frame f viol sm lost oh).bipViol = a.bipViol + viol ∧
    (a.frame f viol sm lost oh).bipBlocks = a.bipBlocks + (if viol = 0 then 0 else 1) ∧
    (a.frame f viol sm lost oh).beiSum = a.beiSum + (if b / 16 % 16 ≤ 8 then b / 16 % 16 else 0) ∧
    (a.frame f viol sm lost oh).beiBlocks = a.beiBlocks + (if 1 ≤ b / 16 % 16 ∧ b / 16 % 16 ≤ 8 then 1 else 0) ∧
    (a.frame f viol sm lost oh).statLast = b % 8 ∧
    (a.frame f viol sm lost oh).statRun = (if a.statRun ≠ 0 ∧ b % 8 = a.statLast then a.statRun + 1 else 1)

/-- FRAME_RECEIVED of a FlexO frame (04 R118; 05 Table OVH-6): the third frame in a row with another GID or PID declares dGIDM or dPMM, the
third equal one clears it. -/
def gidMismatch : Prop :=
  ∀ (s : State) (t i gid pid g : Nat) (map : List Nat),
  s.lifGrp i = some g ∧ s.looped i 2 = false →
  Runs (.frameReceived t (.flexo i gid pid map)) s fun u =>
    (u.lif i).gidMis = (if (s.lif i).gidMis then decide (gid ≠ s.rget (Reg.LIN_GRP_GID_GID g) ∨ (s.lif i).gidGood + 1 < 3) else decide (gid ≠ s.rget (Reg.LIN_GRP_GID_GID g) ∧ 3 ≤ (s.lif i).gidBad + 1)) ∧
    (u.lif i).pidMis = (if (s.lif i).pidMis then decide (pid ≠ s.rget (Reg.LIN_LIF_CFG_PID i) ∨ (s.lif i).pidGood + 1 < 3) else decide (pid ≠ s.rget (Reg.LIN_LIF_CFG_PID i) ∧ 3 ≤ (s.lif i).pidBad + 1))

/-- INSERTION_POINT of a slice (03 R86; 05 R139): FAS and the next MFAS, and the phase moves on. -/
def insertionPoint : Prop :=
  ∀ (s : State) (t k : Nat) (src : List Byte) (bip : Byte),
  k < 256 →
  s.roleRuns = true →
  Runs (.insertionPoint t k src bip) s fun u =>
    (u.out.any fun o => match o with | .overhead j l => j == k && l.take 7 == [0xF6, 0xF6, 0xF6, 0x28, 0x28, 0x28, BitVec.ofNat 8 (s.nextMfas k)] | _ => false) = true ∧
    u.nextMfas k = (s.nextMfas k + 1) % 256

/-- What hardware and routines own in a source's field (05 R150 to R152, R156, R157): the parity, BEI or BIAE, BDI, the TTI byte of TX_TTI, and
the STAT of an operational TCM level, 0b001, or 0b000 once it is removed; other STAT stays. -/
def fieldRule : Prop :=
    ∀ (s : State) (k e m : Nat) (bip : Byte) (oh : List Byte),
    oh.length = 64 →
    (s.fieldBytes k m bip oh e).getD (s.fieldOf e + 1) 0 = bip ∧
    bits ((s.fieldBytes k m bip oh e).getD (s.fieldOf e + 2) 0).toNat 4 4 = s.beiOf e ∧
    bit ((s.fieldBytes k m bip oh e).getD (s.fieldOf e + 2) 0).toNat 3 =
      (bit (s.trailByte e 0x89) 1 || ((s.layer e == 1 || s.layer e == 2 || s.layer e == 4) && s.fastBdi k)) ∧
    bits ((s.fieldBytes k m bip oh e).getD (s.fieldOf e + 2) 0).toNat 0 3 =
      (if s.layer e = 5 then (if bit (s.trailByte e 1) 7 then 0 else 1) else bits (oh.getD (s.fieldOf e + 2) 0).toNat 0 3) ∧
    (s.fieldBytes k m bip oh e).getD (s.fieldOf e) 0 = (match s.ttiSource e with
      | some h => h.bind.param.getD (64 + m % 64) 0
      | none => oh.getD (s.fieldOf e) 0)

/-- BEI and BIAE (05 R151): zero without BEI_EN; 0b1011 with BIAE_EN and IAE received; else the violations, at most 8. -/
def beiRule : Prop :=
    ∀ (s : State) (e : Nat) (b : BackH),
    b = tget (fun _ => {}) s.frm.back e →
    (bit (s.trailByte e 1) 5 = false → s.beiOf e = 0) ∧
    (bit (s.trailByte e 1) 5 = true → bit (s.trailByte e 1) 6 = true → b.biae = true → s.beiOf e = 11) ∧
    (bit (s.trailByte e 1) 5 = true → bit (s.trailByte e 1) 6 = false ∨ b.biae = false → s.beiOf e = min 8 b.viol)

/-- INSERTION_POINT of an ODU that ODU-LCK replaces (05 R166, R167): whatever else is due. -/
def lockedOdu : Prop :=
  ∀ (s : State) (t i : Nat) (src : List Byte) (bip : Byte),
  s.roleRuns = true ∧ (s.odu i).msiWait = false →
  (s.odu i).lckTx = true →
  Runs (.insertionPoint t (256 + i) src bip) s fun u =>
    Out.overhead (256 + i) (replBytes 0x55 5 (s.nextMfas (256 + i))) ∈ u.out

/-- ODU-AIS of an ODU that the class ladder has broken, a fence fills, or a mapper has lost (05 R166, R167; 06 R195, R198; 07 R228). -/
def aisOdu : Prop :=
  ∀ (s : State) (t i : Nat) (src : List Byte) (bip : Byte),
  s.roleRuns = true ∧ (s.odu i).msiWait = false →
  (s.odu i).lckTx = false →
  s.tribBroken i = true ∨ (s.cn 1 i).aisFill = true ∨ (s.mp i 1).starved = true ∨ ((s.mp i 1).rateOor = true ∧ (s.odu i).client = 0) →
  Runs (.insertionPoint t (256 + i) src bip) s fun u =>
    Out.overhead (256 + i) (replBytes 0xFF 7 (s.nextMfas (256 + i))) ∈ u.out

/-- ODU-OCI of an output whose route in force has no endpoint in the connection map (05 R167; 07 R210, R216). -/
def openOdu : Prop :=
  ∀ (s : State) (t i : Nat) (src : List Byte) (bip : Byte),
  s.roleRuns = true ∧ (s.odu i).msiWait = false →
  (s.odu i).lckTx = false ∧ s.tribBroken i = false ∧ (s.cn 1 i).aisFill = false ∧ (s.mp i 1).starved = false ∧ (s.mp i 1).rateOor = false →
  (s.cn 1 i).noEnd = true →
  Runs (.insertionPoint t (256 + i) src bip) s fun u =>
    Out.overhead (256 + i) (replBytes 0x66 6 (s.nextMfas (256 + i))) ∈ u.out

/-- The form of a replaced ODU (05 R166): FAS, MFAS, zeros at 0x07 to 0x0D, STAT in the PM field, the pattern elsewhere. -/
def replacementForm : Prop :=
    ∀ (fill stat mfas o : Nat),
    fill < 256 → stat < 8 → mfas < 256 → o < 64 →
    ((replBytes fill stat mfas).getD o 0).toNat =
      if o ≤ 2 then 0xF6 else if o ≤ 5 then 0x28 else if o = 6 then mfas else if o ≤ 0x0D then 0
      else if o = 0x2B then fill / 8 * 8 + stat else fill

/-- INSERTION_POINT of an ODU the device carries on, with nothing to write or replace (03 R86): the bytes its source delivered. -/
def carriedOdu : Prop :=
  ∀ (s : State) (t i : Nat) (src : List Byte) (bip : Byte),
  s.roleRuns = true ∧ (s.odu i).msiWait = false →
  s.originates (256 + i) = false ∧ s.replaced 1 i = .none ∧ s.nullSent (256 + i) = false →
  s.ctxOf (256 + i) = [] ∧ s.insPorts (256 + i) = [] ∧ s.entriesOf (256 + i) = [] ∧ s.fastBdi (256 + i) = false →
  src.length = 64 →
  Runs (.insertionPoint t (256 + i) src bip) s fun u =>
    Out.overhead (256 + i) src ∈ u.out

/-- The same while the fast path asks for BDI (05 R163): the PM BDI bit is set, every other byte stays as the source delivered it. -/
def carriedOduBdi : Prop :=
  ∀ (s : State) (t i : Nat) (src : List Byte) (bip : Byte),
  s.roleRuns = true ∧ (s.odu i).msiWait = false →
  s.originates (256 + i) = false ∧ s.replaced 1 i = .none ∧ s.nullSent (256 + i) = false →
  s.ctxOf (256 + i) = [] ∧ s.insPorts (256 + i) = [] ∧ s.entriesOf (256 + i) = [] ∧ s.fastBdi (256 + i) = true →
  src.length = 64 →
  Runs (.insertionPoint t (256 + i) src bip) s fun u =>
    Out.overhead (256 + i) (src.set 0x2B (src.getD 0x2B 0 ||| 8)) ∈ u.out

/-- PT in the PSI of an ODU into which the device maps a client (06 R178). -/
def payloadType : Prop :=
  ∀ (s : State) (t i : Nat) (src : List Byte) (bip : Byte),
  s.roleRuns = true ∧ (s.odu i).msiWait = false →
  (s.odu i).client ≠ 0 ∧ s.replaced 1 i = .none ∧ s.nextMfas (256 + i) = 0 ∧ s.isHo i = false ∧ s.nullSent (256 + i) = false →
  Runs (.insertionPoint t (256 + i) src bip) s fun u =>
    (u.out.any fun o => match o with | .overhead j l => j == 256 + i && l.getD 0x3E 0 == BitVec.ofNat 8 (s.odu i).pt | _ => false) = true

/-- ODU_LCK (05 R167). -/
def oduLck : Prop :=
  ∀ (s : State) (t : Nat) (d : Desc) (i dir on : Nat),
  s.cmdReady t d = true →
  i < 20480 ∧ dir < 2 ∧ on < 2 →
  (s.odu i).conf = true →
  Runs (.oduLck t d i dir on) s fun u =>
    s.completes u (okCpl d 0x0202 t) ∧
    (if dir = 0 then (u.odu i).lckRx else (u.odu i).lckTx) = decide (on = 1) ∧
    (if dir = 0 then (u.odu i).lckTx = (s.odu i).lckTx else (u.odu i).lckRx = (s.odu i).lckRx)

/-- TRAIL_CFG write (05 R169): bytes 0x00 to 0x3F are those of the buffer. -/
def trailCfg : Prop :=
  ∀ (s : State) (t : Nat) (d : Desc) (x : Nat) (b : List Byte),
  s.cmdReady t d = true →
  x < 65536 ∧ b.length = 64 ∧ trailFault b = none →
  s.entryBound x = false →
  Runs (.trailCfg t d x 1 b) s fun u =>
    s.completes u (okCpl d 0x0203 t) ∧
    (∀ o < 64, u.trailByte x o = (b.getD o 0).toNat) ∧
    (∀ y o, y ≠ x → o < 256 → u.trailByte y o = s.trailByte y o)

/-- TRAIL_CFG free (05 R169; 17 Table HST-9): the entry reads zero. -/
def trailFreed : Prop :=
  ∀ (s : State) (t : Nat) (d : Desc) (x : Nat) (b : List Byte),
  s.cmdReady t d = true →
  x < 65536 →
  s.entryBound x = false →
  Runs (.trailCfg t d x 2 b) s fun u =>
    s.completes u (okCpl d 0x0203 t) ∧
    (∀ o < 256, u.trailByte x o = 0)

/-- A field out of range or a reserved byte that is not zero is refused with E_RANGE at its buffer offset (05 R169). -/
def trailRefused : Prop :=
  ∀ (s : State) (t : Nat) (d : Desc) (x o : Nat) (b : List Byte),
  s.cmdReady t d = true →
  x < 65536 ∧ trailFault b = some o →
  Runs (.trailCfg t d x 1 b) s fun u =>
    s.completes u ⟨d.tag, 2, 0x0203, bufOfs o, t, 0⟩ ∧
    (∀ y z, u.trailByte y z = s.trailByte y z)

/-! ### MappersAndDemappersFollowGmp -/

/-- GMP_PERIOD_RX accepted (06 R174, R184, R185, R187): the Cm that the six JC bytes carry, those the side tags brought before the operands. -/
def gmpPeriodRx : Prop :=
  ∀ (s : State) (t i jc12 jc45 w cm : Nat) (jc3 jc6 : Byte),
  (s.odu i).conf = true ∧ mapProc (s.odu i).type (s.hoType i) = 1 →
  (match (s.odu i).inHo with | some x => (s.odu x).fast | none => s.grpTrig (s.odu i).server) = false →
  w = (s.mp i 0).jcAt.getD (jcWord jc12 jc45 jc3 jc6) →
  jcOk8 w = true ∧ cm = jcCm (s.mp i 0).cmRx (jc12Of w) →
  (s.cRange i).1 ≤ cm ∧ cm ≤ (s.cRange i).2 →
  Runs (.gmpPeriodRx t i jc12 jc45 jc3 jc6 false) s fun u =>
    (u.mp i 0).cm = cm ∧ (u.mp i 0).held = 0 ∧ (u.mp i 0).okRun = (s.mp i 0).okRun + 1 ∧ (u.mp i 0).jcErr = (s.mp i 0).jcErr ∧
    (u.mp i 0).scnd = (if jcOk5 w then jcScnd w % 1024 else 0) ∧
    (u.mp i 0).scndErr = (if jcOk5 w then (s.mp i 0).scndErr else ((s.mp i 0).scndErr + 1) % 2 ^ 32) ∧
    (∀ c, u.wordN c = s.wordN c ∧ u.cget c = s.cget c)

/-- A Cm with a bad CRC-8 or out of range is held and counted (06 R185). -/
def gmpHeld : Prop :=
  ∀ (s : State) (t i jc12 jc45 w cm : Nat) (jc3 jc6 : Byte),
  (s.odu i).conf = true ∧ mapProc (s.odu i).type (s.hoType i) = 1 →
  (match (s.odu i).inHo with | some x => (s.odu x).fast | none => s.grpTrig (s.odu i).server) = false →
  w = (s.mp i 0).jcAt.getD (jcWord jc12 jc45 jc3 jc6) →
  cm = jcCm (s.mp i 0).cmRx (jc12Of w) →
  jcOk8 w = false ∨ cm < (s.cRange i).1 ∨ (s.cRange i).2 < cm →
  Runs (.gmpPeriodRx t i jc12 jc45 jc3 jc6 false) s fun u =>
    (u.mp i 0).cm = (s.mp i 0).cm ∧ (u.mp i 0).held = (s.mp i 0).held + 1 ∧ (u.mp i 0).okRun = 0 ∧
    (u.mp i 0).jcErr = ((s.mp i 0).jcErr + 1) % 2 ^ 32 ∧
    (u.mp i 0).cmOor = (if jcOk8 w then ((s.mp i 0).cmOor + 1) % 2 ^ 32 else (s.mp i 0).cmOor)

/-- JC bytes in a frame the fast path has replaced hold Cm without JC_ERR (06 R201). -/
def gmpReplaced : Prop :=
  ∀ (s : State) (t i jc12 jc45 : Nat) (jc3 jc6 : Byte),
  (s.odu i).conf = true ∧ mapProc (s.odu i).type (s.hoType i) = 1 →
  (match (s.odu i).inHo with | some x => (s.odu x).fast | none => s.grpTrig (s.odu i).server) = true →
  Runs (.gmpPeriodRx t i jc12 jc45 jc3 jc6 false) s fun u =>
    (u.mp i 0).cm = (s.mp i 0).cm ∧ (u.mp i 0).held = (s.mp i 0).held + 1 ∧ (u.mp i 0).jcErr = (s.mp i 0).jcErr

/-- A demapper FIFO that leaves its range, whether it demaps by GMP or by AMP (06 R192): counted, replaced to the next frame, and event 0x6032. -/
def fifoSlips : Prop :=
  ∀ (s : State) (t i jc12 jc45 : Nat) (jc3 jc6 : Byte),
  (s.odu i).conf = true →
  Runs (.gmpPeriodRx t i jc12 jc45 jc3 jc6 true) s fun u =>
    (u.mp i 0).slips = ((s.mp i 0).slips + 1) % 2 ^ 32 ∧ (u.mp i 0).slip = true ∧
    (u.evl.pend.any fun x => x.code == 0x6032 && x.src == i && x.dts == t) = true

/-- What JC1 to JC6 carry (06 R184): decoding the six bytes that a mapper sends for Cm after `old`, with the value last read, gives Cm and ΣCnD
again, and both checks pass. The code of G.709 is the model's (PRESUMED, log entry 131). -/
def jcRoundTrip : Prop :=
    ∀ (old cm scnd : Nat), old < 2 ^ 14 → cm < 2 ^ 14 → scnd < 1024 →
    jcCm old (jc12Of (jcEncode old cm scnd)) = cm ∧ jcOk8 (jcEncode old cm scnd) = true ∧ jcScnd (jcEncode old cm scnd) = scnd ∧
    jcOk5 (jcEncode old cm scnd) = true

/-- GMP_UNLOCK_DECLARE after JC_HOLD_MAX holds (06 R186). -/
def gmpUnlockDeclare : Prop :=
  ∀ (s : State) (t i : Nat),
  (s.odu i).conf = true ∧ (s.mp i 0).unlock = false →
  (s.odu i).jcHold ≤ (s.mp i 0).held →
  Runs (.gmpUnlockDeclare t i) s fun u =>
    (u.mp i 0).unlock = true ∧
    (u.evl.pend.any fun x => x.code == 0x6030 && x.src == i && x.dts == t) = true

/-- GMP_UNLOCK_CLEAR after JC_RESYNC accepted periods (06 R186). -/
def gmpUnlockClear : Prop :=
  ∀ (s : State) (t i : Nat),
  (s.mp i 0).unlock = true →
  (s.odu i).jcResync ≤ (s.mp i 0).okRun →
  Runs (.gmpUnlockClear t i) s fun u =>
    (u.mp i 0).unlock = false ∧
    (u.evl.pend.any fun x => x.code == 0x6031 && x.src == i && x.dts == t) = true

/-- GMP_PERIOD_TX of a mapper fed by its own clock (06 R187, R188): Cm from the bytes of the period and the remainder, within Cmin to Cmax, and
the JC bytes that carry it. -/
def gmpPeriodTx : Prop :=
  ∀ (s : State) (t i n : Nat),
  (s.odu i).conf = true ∧ mapProc (s.odu i).type (s.hoType i) = 1 →
  s.fromArcade i = false →
  Runs (.gmpPeriodTx t i (.fill n)) s fun u =>
    (u.mp i 1).cm = clampC (s.cRange i).1 (s.cRange i).2 ((n + (s.mp i 1).dres) / gmpM (s.hoType i) (s.odu i).ts.length) ∧
    (u.mp i 1).dres = (n + (s.mp i 1).dres) % gmpM (s.hoType i) (s.odu i).ts.length ∧
    (u.mp i 1).jc = some (jcEncode (s.mp i 1).cm (u.mp i 1).cm ((u.mp i 1).dres % 1024)) ∧
    (∀ c, u.wordN c = s.wordN c ∧ u.cget c = s.cget c)

/-- GMP_PERIOD_TX of the other mappings (06 R189, R190): the justification of an AMP frame, the idle blocks of IMP, the client's own GMP. -/
def otherMappers : Prop :=
  ∀ (s : State) (t i n : Nat),
  (s.odu i).conf = true →
  (mapProc (s.odu i).type (s.hoType i) = 2 → Runs (.gmpPeriodTx t i (.amp n)) s fun u => (u.mp i 1).just = n % 4) ∧
  ((s.odu i).imp = true → Runs (.gmpPeriodTx t i (.imp n)) s fun u => (u.mp i 1).ampErr = ((s.mp i 1).ampErr + n) % 2 ^ 32) ∧
  ((s.odu i).client = 1 → Runs (.gmpPeriodTx t i (.client n)) s fun u =>
    (u.mp i 1).cmC = clampC clientRange.1 clientRange.2 (n / clientM))

/-- FRAME_RECEIVED of an ODU mapped by AMP (06 R189): the majority of the three justification controls decides; three that differ give none and
count in AMP_ERR. The next frame ends a slip (06 R192). -/
def ampMajority : Prop :=
  ∀ (s : State) (t i a b c : Nat) (oh : List Byte) (par : Byte),
  a < 4 ∧ b < 4 ∧ c < 4 →
  mapProc (s.odu i).type (s.hoType i) = 2 →
  Runs (.frameReceived t (.otn (256 + i) oh par (.amp a b c))) s fun u =>
    (u.mp i 0).slip = false ∧
    (a = b ∨ a = c → (u.mp i 0).just = a ∧ (u.mp i 0).ampErr = (s.mp i 0).ampErr) ∧
    (b = c → (u.mp i 0).just = b ∧ (u.mp i 0).ampErr = (s.mp i 0).ampErr) ∧
    (a ≠ b ∧ a ≠ c ∧ b ≠ c → (u.mp i 0).just = 0 ∧ (u.mp i 0).ampErr = ((s.mp i 0).ampErr + 1) % 2 ^ 32)

/-- GMP_PERIOD_TX of a mapper fed over Arcade (06 R196, R199): Cn from the rate, the remainder and the fill; Cm and its remainder from Cn. -/
def timestampedMapper : Prop :=
  ∀ (s : State) (t i per fill n : Nat) (rate x : Q),
  (s.odu i).conf = true ∧ mapProc (s.odu i).type (s.hoType i) = 1 ∧ s.fromArcade i = true ∧ (s.odu i).client = 0 →
  (s.mp i 1).starved = false →
  (s.flow 1 (s.flowOwner 1 i)).rate (s.odu i).rateWinTicks ((s.flow 1 (s.flowOwner 1 i)).mapEps t) = some rate →
  fill = (s.bufNow t (s.flowOwner 1 i)).buf.length →
  x = qsub (qadd (qmul rate (qint per)) (s.mp i 1).acc) (if (s.odu i).fillGain = 0 then qint 0 else qmul (qsub (qint fill) ⟨1984 * (s.odu i).fillTarget, 100⟩) ⟨1, 2 ^ (s.odu i).fillGain⟩) →
  n = (qfloor x).toNat + (s.mp i 1).dres →
  Runs (.gmpPeriodTx t i (.arcade per)) s fun u =>
    (u.mp i 1).cm = clampC (s.cRange i).1 (s.cRange i).2 (n / gmpM (s.hoType i) (s.odu i).ts.length) ∧
    (u.mp i 1).dres = n % gmpM (s.hoType i) (s.odu i).ts.length ∧ (u.mp i 1).acc = qsub x (qint (qfloor x)) ∧
    ((u.mp i 1).clamps = ((s.mp i 1).clamps + if (u.mp i 1).cm = n / gmpM (s.hoType i) (s.odu i).ts.length then 0 else 1) % 2 ^ 32 ∨ 2 ^ 32 ≤ (s.mp i 1).clamps)

/-- MSI_CHANGE (06 R179): the new multiframe begins: an added ODU's bytes begin with it, and a removed one's slots leave the MSI. -/
def msiChange : Prop :=
  ∀ (s : State) (t i : Nat),
  Runs (.msiChange t i) s fun u =>
    u.odu i = { s.odu i with msiWait := false } ∧ (∀ p ∈ u.map.gone, p.1 ≠ i) ∧ (∀ p ∈ s.map.gone, p.1 ≠ i → p ∈ u.map.gone)

/-- Before that multiframe an added ODU sends nothing (06 R179). -/
def addedOdu : Prop :=
  ∀ (s : State) (t i : Nat) (src : List Byte) (bip : Byte),
  (s.odu i).msiWait = true →
  Runs (.insertionPoint t (256 + i) src bip) s fun u =>
    u.frm = s.frm ∧ u.freeCtr = s.freeCtr

/-- CLIENT_SIGNAL_FAIL of an instance with a client (06 R193): CSF is set, and the next frame carries local fault in place of the client. -/
def clientSignalFail : Prop :=
  ∀ (s : State) (t i : Nat),
  (s.odu i).client ≠ 0 →
  Runs (.clientSignalFail t i) s fun u =>
    (u.mp i 1).csf = true ∧ (u.mp i 1).cause = true

/-- INSERTION_POINT of an ODU with a client (06 R193, R195): local fault and CSF while the cause or RATE_OOR stands; without either the client
passes, and CSF clears in the next multiframe. -/
def clientFrames : Prop :=
  ∀ (s : State) (t i : Nat) (src : List Byte) (bip : Byte),
  s.roleRuns = true ∧ (s.odu i).msiWait = false ∧ (s.odu i).client ≠ 0 →
  Runs (.insertionPoint t (256 + i) src bip) s fun u =>
    ((s.mp i 1).cause = true ∨ (s.mp i 1).rateOor = true → (u.mp i 1).lf = true ∧ (u.mp i 1).csf = true) ∧
    ((s.mp i 1).cause = false ∧ (s.mp i 1).rateOor = false → (u.mp i 1).lf = false ∧ (s.nextMfas (256 + i) = 0 → (u.mp i 1).csf = false))

/-- CSF_CLEAR once the cause at the PHY is gone (06 R193, R195): local fault ends unless RATE_OOR stands. -/
def csfClear : Prop :=
  ∀ (s : State) (t i : Nat),
  (s.odu i).client ≠ 0 →
  Runs (.csfClear t i) s fun u =>
    (u.mp i 1).cause = false ∧ ((s.mp i 1).rateOor = false → (u.mp i 1).lf = false) ∧ (u.mp i 1).csf = (s.mp i 1).csf

/-- RATE_WINDOW (06 R194): three windows in a row more than 50 ppm beyond the tolerance set RATE_OOR, three within clear it. -/
def rateWindow : Prop :=
  ∀ (s : State) (t i tol : Nat) (ppb : Int),
  (s.odu i).conf = true ∧ t % ms 1 = 0 →
  tol = (if (s.odu i).client = 0 then oduTol (s.odu i).type else 100) →
  Runs (.rateWindow t i ppb) s fun u =>
    (u.mp i 1).outRun = (if (tol + 50) * 1000 < ppb.natAbs then (s.mp i 1).outRun + 1 else 0) ∧
    (u.mp i 1).inRun = (if (tol + 50) * 1000 < ppb.natAbs then 0 else (s.mp i 1).inRun + 1) ∧
    (u.mp i 1).oorRate = (if 3 ≤ (u.mp i 1).outRun then true else if 3 ≤ (u.mp i 1).inRun then false else (s.mp i 1).oorRate) ∧
    (u.mp i 1).rateOor = ((u.mp i 1).oorRate || (u.mp i 1).oorClamp) ∧
    ((s.odu i).client ≠ 0 → (u.mp i 1).rateOor = true → (u.mp i 1).csf = true)

/-- CN_CLAMP_RATE_OOR (06 R199): 10 ms of clamping set RATE_OOR, 10 ms without clear it. -/
def cnClampRateOor : Prop :=
  ∀ (s : State) (t i a : Nat) (on : Bool),
  if on then (s.mp i 1).clampSince = some a else (s.mp i 1).clampSince = none ∧ (s.mp i 1).freeSince = some a →
  a + ms 10 ≤ t →
  Runs (.cnClampRateOor t i) s fun u =>
    (u.mp i 1).oorClamp = on ∧ (u.mp i 1).rateOor = ((s.mp i 1).oorRate || on)

/-! ### OdusAreConfiguredAndRemoved -/

/-- ODU_CFG of a new instance in a group, of any type, client and class that the rules admit (06 R171, R172, R175, R176, R179, R202). -/
def oduCfg : Prop :=
  ∀ (s : State) (t : Nat) (d : Desc) (p : OduParams) (g : Nat),
  s.cmdReady t d = true ∧ s.privileged t = true →
  p.inst < 20480 ∧ (s.odu p.inst).conf = false ∧ s.connected p.inst = false ∧ s.lower p.inst = [] →
  p.type ≤ 6 ∧ p.cls ≤ 2 ∧ classBRefused p.cls p.type p.rate = false ∧ p.slot ≤ 31 ∧ p.server = g →
  (p.client = 0 ∨ (p.client = 1 ∧ p.type = 5) ∨ ((p.client = 2 ∨ p.client = 3) ∧ p.type = 6 ∧ p.pt ≠ 0)) ∧ (p.type = 6 → 0 < p.rate ∧ flexSlots p.rate none ≤ flexMax none) →
  g < 64 ∧ s.rbit (Reg.LIN_GRP_CFG_ENABLED g) = true →
  p.tsCount = slotsNeeded p.type p.rate none ∧ p.ts.length = p.tsCount ∧ p.tu.length = 4 * p.tsCount →
  p.rateWin ≤ 128 ∧ (p.fillTarget = 0 ∨ (25 ≤ p.fillTarget ∧ p.fillTarget ≤ 75)) ∧ (p.fillGain = 0 ∨ (6 ≤ p.fillGain ∧ p.fillGain ≤ 31)) →
  p.ts.Nodup ∧ p.tu.Nodup ∧ (∀ x ∈ p.ts, 1 ≤ x ∧ x ≤ 20 * s.grpN g) ∧ (∀ x ∈ p.tu, x < 20480) →
  (∀ j ∈ s.odusUsed, (s.odu j).server = g → ∀ x ∈ p.ts, x ∉ (s.odu j).ts) →
  (∀ j ∈ s.odusUsed, (s.odu j).inHo = none → ∀ x ∈ p.tu, x ∉ (s.odu j).tu) →
  ((s.chargedOn p.slot).map fun j => (s.odu j).tus).sum + 4 * p.tsCount ≤ 640 →
  (s.oduSet t p.inst (oduOf p (s.odu p.inst))).classATu 0 ≤ 5120 ∧ (s.oduSet t p.inst (oduOf p (s.odu p.inst))).classATu 1 ≤ 5120 →
  (s.oduSet t p.inst (oduOf p (s.odu p.inst))).deskewRoom [(0, (s.oduSet t p.inst (oduOf p (s.odu p.inst))).pairX 0 p.inst), (1, (s.oduSet t p.inst (oduOf p (s.odu p.inst))).pairX 1 p.inst)] = true →
  (s.oduSet t p.inst (oduOf p (s.odu p.inst))).overAdmitted (256 + p.inst) = none →
  Runs (.oduCfg t d p) s fun u =>
    s.completes u (okCpl d 0x0200 t) ∧
    (u.odu p.inst).conf = true ∧ (u.odu p.inst).type = p.type ∧ (u.odu p.inst).server = g ∧ (u.odu p.inst).slot = p.slot ∧ (u.odu p.inst).rank = p.rank ∧
    (u.odu p.inst).client = p.client ∧ (u.odu p.inst).cls = p.cls ∧ (u.odu p.inst).rate = (if p.type = 6 then p.rate else 0) ∧ (u.odu p.inst).inHo = none ∧
    (u.odu p.inst).pt = (if p.pt = 0 ∧ p.client = 1 then 7 else p.pt) ∧
    (u.odu p.inst).ts = p.ts ∧ (u.odu p.inst).tu = p.tu ∧ (u.odu p.inst).msiWait = true ∧
    (u.odu p.inst).jcHold = (if p.jcHold = 0 then 5 else p.jcHold) ∧ (u.odu p.inst).jcResync = (if p.jcResync = 0 then 3 else p.jcResync) ∧
    (u.odu p.inst).rateWin = (if p.rateWin = 0 then 8 else p.rateWin) ∧ (u.odu p.inst).fillTarget = (if p.fillTarget = 0 then 50 else p.fillTarget) ∧
    (u.al (256 + p.inst)).st = .hunt ∧ (u.al (256 + p.inst)).on = true ∧ u.mp p.inst 0 = {} ∧ u.mp p.inst 1 = {}

/-- ODU_CFG of a new lower-order ODU (06 R171, R175 to R177): its server is a higher-order ODU that maps its type, in the server's slot, with slots and
TU numbers of the server that no other ODU of it has. -/
def oduCfgLower : Prop :=
  ∀ (s : State) (t : Nat) (d : Desc) (p : OduParams) (h : Nat),
  s.cmdReady t d = true ∧ s.privileged t = true →
  p.inst < 20480 ∧ (s.odu p.inst).conf = false ∧ s.connected p.inst = false ∧ s.lower p.inst = [] →
  p.server = 32768 + h ∧ (s.odu h).conf = true ∧ h ≠ p.inst ∧ (s.odu h).inHo = none ∧ (s.odu h).client = 0 ∧ mapProc p.type (some (s.odu h).type) ≠ 0 →
  ((s.cn 0 h).valid = true → (s.cn 0 h).kind ≠ 0) ∧ ((s.cn 1 h).valid = true → (s.cn 1 h).kind ≠ 0) →
  p.type ≤ 6 ∧ p.cls ≤ 2 ∧ classBRefused p.cls p.type p.rate = false ∧ p.slot ≤ 31 ∧ p.slot = (s.odu h).slot →
  (p.client = 0 ∨ (p.client = 1 ∧ p.type = 5) ∨ ((p.client = 2 ∨ p.client = 3) ∧ p.type = 6 ∧ p.pt ≠ 0)) ∧
    (p.type = 6 → 0 < p.rate ∧ flexSlots p.rate (some (s.odu h).type) ≤ flexMax (some (s.odu h).type)) →
  p.tsCount = slotsNeeded p.type p.rate (some (s.odu h).type) ∧ p.ts.length = p.tsCount ∧ p.tu.length = p.tsCount →
  p.rateWin ≤ 128 ∧ (p.fillTarget = 0 ∨ (25 ≤ p.fillTarget ∧ p.fillTarget ≤ 75)) ∧ (p.fillGain = 0 ∨ (6 ≤ p.fillGain ∧ p.fillGain ≤ 31)) →
  p.ts.Nodup ∧ p.tu.Nodup ∧ (∀ x ∈ p.ts, 1 ≤ x ∧ x ≤ slotCount (some (s.odu h).type)) ∧ (∀ x ∈ p.tu, x < 20480 ∧ x ∈ (s.odu h).tu) →
  (∀ j ∈ s.odusUsed, (s.odu j).server = p.server → ∀ x ∈ p.ts, x ∉ (s.odu j).ts) →
  (∀ j ∈ s.odusUsed, (s.odu j).server = p.server → ∀ x ∈ p.tu, x ∉ (s.odu j).tu) →
  (s.oduSet t p.inst (oduOf p (s.odu p.inst))).classATu 0 ≤ 5120 ∧ (s.oduSet t p.inst (oduOf p (s.odu p.inst))).classATu 1 ≤ 5120 →
  (s.oduSet t p.inst (oduOf p (s.odu p.inst))).deskewRoom [(0, (s.oduSet t p.inst (oduOf p (s.odu p.inst))).pairX 0 p.inst), (1, (s.oduSet t p.inst (oduOf p (s.odu p.inst))).pairX 1 p.inst)] = true →
  (s.oduSet t p.inst (oduOf p (s.odu p.inst))).overAdmitted (256 + p.inst) = none →
  Runs (.oduCfg t d p) s fun u =>
    s.completes u (okCpl d 0x0200 t) ∧
    (u.odu p.inst).conf = true ∧ (u.odu p.inst).type = p.type ∧ (u.odu p.inst).inHo = some h ∧ (u.odu p.inst).slot = p.slot ∧ (u.odu p.inst).cls = p.cls ∧
    (u.odu p.inst).client = p.client ∧ (u.odu p.inst).ts = p.ts ∧ (u.odu p.inst).tu = p.tu ∧ (u.odu p.inst).msiWait = true ∧
    ((u.cn 0 h).valid = true → (u.cn 0 h).kind = 1) ∧ ((u.cn 1 h).valid = true → (u.cn 1 h).kind = 1) ∧
    (u.al (256 + p.inst)).st = .hunt ∧ (u.al (256 + p.inst)).on = true

/-- ODU_CFG that would change what an instance with a connection is and where it stands (06 R180): E_STATE naming INSTANCE, and nothing changes. -/
def placeHeld : Prop :=
  ∀ (s : State) (t : Nat) (d : Desc) (p : OduParams) (g : Nat),
  s.cmdReady t d = true ∧ s.privileged t = true →
  p.inst < 20480 ∧ (s.odu p.inst).conf = true ∧ s.connected p.inst = true ∧ (s.odu p.inst).place ≠ (oduOf p (s.odu p.inst)).place →
  p.type ≤ 5 ∧ p.cls ≤ 2 ∧ classBRefused p.cls p.type p.rate = false ∧ p.slot ≤ 31 ∧ p.server = g →
  p.client = 0 ∨ (p.client = 1 ∧ p.type = 5) →
  g < 64 ∧ s.rbit (Reg.LIN_GRP_CFG_ENABLED g) = true →
  p.tsCount = mapSlots p.type none ∧ p.ts.length = p.tsCount ∧ (∀ x ∈ p.ts, 1 ≤ x ∧ x ≤ 20 * s.grpN g) →
  p.rateWin ≤ 128 ∧ (p.fillTarget = 0 ∨ (25 ≤ p.fillTarget ∧ p.fillTarget ≤ 75)) ∧ (p.fillGain = 0 ∨ (6 ≤ p.fillGain ∧ p.fillGain ≤ 31)) →
  Runs (.oduCfg t d p) s fun u =>
    s.completes u ⟨d.tag, 9, 0x0200, 0x10, t, 0⟩ ∧
    u.map = s.map ∧ u.plz = s.plz

/-- ODU_CFG with another slot count than Table MAP-1 gives (06 R171): E_RANGE at TS_COUNT. -/
def wrongSlotCount : Prop :=
  ∀ (s : State) (t : Nat) (d : Desc) (p : OduParams) (g : Nat),
  s.cmdReady t d = true ∧ s.privileged t = true →
  p.inst < 20480 ∧ p.type ≤ 5 ∧ p.client = 0 ∧ p.cls = 0 ∧ p.slot ≤ 31 ∧ p.server = g →
  g < 64 ∧ s.rbit (Reg.LIN_GRP_CFG_ENABLED g) = true →
  p.tsCount ≠ mapSlots p.type none →
  Runs (.oduCfg t d p) s fun u =>
    s.completes u ⟨d.tag, 2, 0x0200, 0x1C, t, 0⟩ ∧
    u.map = s.map

/-- ODU_REMOVE of an ODU that nothing uses (06 R179). -/
def oduRemove : Prop :=
  ∀ (s : State) (t : Nat) (d : Desc) (i : Nat),
  s.cmdReady t d = true ∧ s.privileged t = true →
  i < 20480 ∧ (s.odu i).conf = true →
  s.connected i = false ∧ s.lower i = [] ∧ (s.plz.conn.any fun x => x.2.valid && x.2.partner == i) = false →
  Runs (.oduRemove t d i) s fun u =>
    s.completes u (okCpl d 0x0201 t) ∧
    u.odu i = {} ∧ u.mp i 0 = {} ∧ u.mp i 1 = {}

/-- ODU_REMOVE of an ODU with a connection map entry (06 R180; 17 Table HST-9): E_STATE, and nothing changes. -/
def removalRefused : Prop :=
  ∀ (s : State) (t : Nat) (d : Desc) (i : Nat),
  s.cmdReady t d = true ∧ s.privileged t = true →
  i < 20480 ∧ (s.odu i).conf = true →
  s.connected i = true →
  Runs (.oduRemove t d i) s fun u =>
    s.completes u ⟨d.tag, 9, 0x0201, 0x10, t, 0⟩ ∧
    u.map = s.map

/-! ### ConnectionsAndMovesTakeAnEpoch -/

/-- CONN_BATCH accepted (17 R516, 07 R215): it waits for its epoch instant. -/
def connBatch : Prop :=
  ∀ (s : State) (t : Nat) (d : Desc) (recs : List ConnRec),
  s.cmdReady t d = true ∧ s.privileged t = true →
  recs ≠ [] ∧ recs.length ≤ 1024 →
  (∀ r ∈ recs, s.recRange recs r = none ∧ s.recCapacity (s.placeRecs recs) recs r = none) →
  (∀ k < recs.length, (recs[k]?.bind (s.recState (s.placeRecs recs) recs k)) = none) →
  recs.filter s.recActs ≠ [] →
  Runs (.connBatch t d recs.length recs none) s fun u =>
    u.plz.batch = s.plz.batch ++ [.conn (recs.filter s.recActs)] ∧
    u.hcq.exec = some ⟨d.tag, 0x0300, .batch ((recs.filter s.recActs).any fun r => !r.tx) ((recs.filter s.recActs).any fun r => r.tx)⟩ ∧
    u.rbit Reg.HCQ_STAT_BUSY = true ∧ u.plz.conn = s.plz.conn ∧ u.rget Reg.CMD_CI_V = (s.rget Reg.CMD_CI_V + 1) % 65536

/-- A batch that removes only entries not in use completes with OK and takes no epoch (07 R610). -/
def connBatchIdle : Prop :=
  ∀ (s : State) (t : Nat) (d : Desc) (r : ConnRec),
  s.cmdReady t d = true ∧ s.privileged t = true →
  r.op = 2 ∧ r.inst < 20480 ∧ (s.cn (b2n r.tx) r.inst).valid = false →
  Runs (.connBatch t d 1 [r] none) s fun u =>
    s.completes u (okCpl d 0x0300 t) ∧
    u.plz = s.plz ∧ u.epochOf 0 = s.epochOf 0 ∧ u.epochOf 1 = s.epochOf 1

/-- A record of an instance above 20,479 (17 R516, Table HST-8): E_RANGE at its INSTANCE field, and nothing changes. -/
def connBatchRange : Prop :=
  ∀ (s : State) (t : Nat) (d : Desc) (recs : List ConnRec) (r : ConnRec),
  s.cmdReady t d = true ∧ s.privileged t = true →
  recs.length < 1024 →
  (∀ q ∈ recs, s.recRange (recs ++ [r]) q = none) →
  (r.op = 1 ∨ r.op = 2) ∧ 20479 < r.inst →
  Runs (.connBatch t d (recs.length + 1) (recs ++ [r]) none) s fun u =>
    s.completes u ⟨d.tag, 2, 0x0300, bufOfs (24 * recs.length + 2), t, 0⟩ ∧
    u.plz = s.plz

/-- A receive record of a port that another entry, no partner of it, has (07 R209): E_STATE at PORT_A. -/
def connBatchShare : Prop :=
  ∀ (s : State) (t i : Nat) (d : Desc) (r : ConnRec),
  s.cmdReady t d = true ∧ s.privileged t = true →
  s.recRange [r] r = none ∧ r.op = 1 ∧ r.tx = false ∧ r.partner = 0xFFFF ∧ r.portA ≠ 0 →
  (s.odu r.inst).conf = true ∧ s.moveStands r.inst = false ∧ s.kindOf r.inst ≠ 1 →
  i < 20480 ∧ i ≠ r.inst ∧ (s.cn 0 i).valid = true ∧ (s.cn 0 i).portA = r.portA ∧ (s.cn 0 i).partner ≠ r.inst →
  Runs (.connBatch t d 1 [r] none) s fun u =>
    s.completes u ⟨d.tag, 9, 0x0300, bufOfs 8, t, 0⟩ ∧
    u.plz = s.plz

/-- EPOCH_INSTANT of a batch of records (07 R215): the epochs advance, the entries hold the records, and CONN_BATCH completes with both
epochs. -/
def epochConn : Prop :=
  ∀ (s : State) (t : Nat) (l : List ConnRec) (rest : List BatchWork) (tag : Nat) (rx tx : Bool),
  s.plz.batch = .conn l :: rest →
  s.hcq.exec = some ⟨tag, 0x0300, .batch rx tx⟩ ∧ s.hcq.cut = false ∧ s.hcq.closing = false ∧ s.privileged t = true →
  rx = (l.any fun r => !r.tx) ∧ tx = (l.any fun r => r.tx) →
  (∀ r ∈ l, r.inst < 20480) ∧ (l.map fun r => (r.tx, r.inst)).Nodup →
  Runs (.epochInstant t) s fun u =>
    u.epochOf 0 = (if rx then epochAfter (s.epochOf 0) else s.epochOf 0) ∧ u.epochOf 1 = (if tx then epochAfter (s.epochOf 1) else s.epochOf 1) ∧
    (rx = true → u.dtsWords Reg.PLZ_EPOCH_RX0 = dts96 t % 2 ^ 96) ∧ (tx = true → u.dtsWords Reg.PLZ_EPOCH_TX0 = dts96 t % 2 ^ 96) ∧
    (∀ r ∈ l, r.op = 1 → (u.cn (b2n r.tx) r.inst).valid = true ∧ (u.cn (b2n r.tx) r.inst).portA = r.portA ∧ (u.cn (b2n r.tx) r.inst).portB = r.portB ∧ (u.cn (b2n r.tx) r.inst).partner = r.partner ∧ (u.cn (b2n r.tx) r.inst).bridge = r.bridge ∧ (u.cn (b2n r.tx) r.inst).fastEn = r.fastEn ∧ (u.cn (b2n r.tx) r.inst).epoch0 = u.epochOf (b2n r.tx)) ∧
    (∀ r ∈ l, r.op = 2 → (u.cn (b2n r.tx) r.inst).valid = false) ∧
    u.plz.batch = rest ∧ u.hcq.exec = none ∧ u.rbit Reg.HCQ_STAT_BUSY = false ∧
    Out.completion (s.rget Reg.CPL_PI_V % 2 ^ s.ringLog) ((⟨tag, 0, 0x0300, noOfs, t, (if rx then u.epochOf 0 else 0) + (if tx then u.epochOf 1 else 0) * 65536⟩ : CplRec).bytes (decide (s.rget Reg.CPL_PI_V / 2 ^ s.ringLog % 2 = 0))) ∈ u.out

/-- MOVE of a tributary to another slot (07 R217): accepted, it waits for its epoch instant. -/
def move : Prop :=
  ∀ (s : State) (t : Nat) (d : Desc) (dir i new : Nat),
  s.cmdReady t d = true ∧ s.privileged t = true →
  dir ≤ 1 ∧ i < 20480 ∧ new < 32 →
  (s.cn dir i).valid = true ∧ (s.odu i).inHo = none ∧ s.moveStands i = false ∧ s.slotParts (s.odu i).slot = [] →
  new ≠ (s.odu i).slot ∧ s.rbit (Reg.PLZ_SLOT_MAP_FENCED new) = false ∧ s.rbit (Reg.PLZ_SLOT_MAP_PEND_VALID new) = false →
  (∀ x ∈ [0, 1], (s.partnerOf x i).all (fun p => (s.odu p).slot != new) = true) →
  s.slotTu new + (s.odu i).tus ≤ 640 →
  (s.copyFault { tx := dir == 1, inst := i, old := (s.odu i).slot, new := new } (s.moveCtxs { tx := dir == 1, inst := i, old := (s.odu i).slot, new := new })).isNone = true →
  Runs (.move t d 0 dir i new) s fun u =>
    u.plz.batch = s.plz.batch ++ [.move (dir == 1) i new] ∧
    u.hcq.exec = some ⟨d.tag, 0x0301, .batch (dir == 0) (dir == 1)⟩ ∧ u.rbit Reg.HCQ_STAT_BUSY = true

/-- MOVE of a slot to the spare longest in the pool (07 R206, R217). -/
def moveSlot : Prop :=
  ∀ (s : State) (t : Nat) (d : Desc) (dir slot new a : Nat),
  s.cmdReady t d = true ∧ s.privileged t = true →
  dir ≤ 1 ∧ slot < 32 ∧ s.slotBusy slot = false ∧ s.rbit (Reg.PLZ_SLOT_MAP_FENCED slot) = false ∧ s.permitHeld 0x0201 slot = false →
  s.pickSpare = some a →
  Runs (.move t d 1 dir slot new) s fun u =>
    u.plz.batch = s.plz.batch ++ [.rotate slot a] ∧
    u.hcq.exec = some ⟨d.tag, 0x0301, .batch true true⟩ ∧ u.rbit Reg.HCQ_STAT_BUSY = true

/-- MOVE to the slot that serves the tributary is refused with E_STATE naming NEW. -/
def moveSameSlot : Prop :=
  ∀ (s : State) (t : Nat) (d : Desc) (dir i : Nat),
  s.cmdReady t d = true ∧ s.privileged t = true →
  dir ≤ 1 ∧ i < 20480 ∧ (s.odu i).slot < 32 →
  (s.cn dir i).valid = true ∧ (s.odu i).inHo = none ∧ s.moveStands i = false ∧ s.slotParts (s.odu i).slot = [] →
  Runs (.move t d 0 dir i (s.odu i).slot) s fun u =>
    s.completes u ⟨d.tag, 9, 0x0301, 0x14, t, 0⟩ ∧
    u.plz = s.plz

/-- EPOCH_INSTANT of a tributary's move (07 R215, R217): the epoch of each direction in which it has an entry advances, and the move waits
for its install. -/
def epochMove : Prop :=
  ∀ (s : State) (t i new tag : Nat) (tx rx tx2 : Bool) (rest : List BatchWork),
  s.plz.batch = .move tx i new :: rest →
  s.hcq.exec = some ⟨tag, 0x0301, .batch rx tx2⟩ ∧ s.hcq.cut = false ∧ s.hcq.closing = false ∧ s.privileged t = true →
  Runs (.epochInstant t) s fun u =>
    u.epochOf (b2n tx) = epochAfter (s.epochOf (b2n tx)) ∧ u.epochOf (1 - b2n tx) = (if (s.cn (1 - b2n tx) i).valid then epochAfter (s.epochOf (1 - b2n tx)) else s.epochOf (1 - b2n tx)) ∧
    u.mv (moveKey false tx i) = { tx := tx, inst := i, old := (s.odu i).slot, new := new, epoch := u.epochOf (b2n tx), epochTx := u.epochOf (1 - b2n tx), install := t, live := true } ∧
    u.plz.batch = rest ∧ u.hcq.exec = none ∧ u.plz.conn = s.plz.conn ∧
    Out.completion (s.rget Reg.CPL_PI_V % 2 ^ s.ringLog) ((⟨tag, 0, 0x0301, noOfs, t, 0⟩ : CplRec).bytes (decide (s.rget Reg.CPL_PI_V / 2 ^ s.ringLog % 2 = 0))) ∈ u.out

/-- EPOCH_INSTANT of a slot move (07 R215, R217; 16 R466): both epochs advance, the slot waits for the Avenue, which is seeding, and every
tributary charged to the slot becomes a part. -/
def epochRotate : Prop :=
  ∀ (s : State) (t slot a : Nat) (rest : List BatchWork),
  s.plz.batch = .rotate slot a :: rest →
  s.privileged t = true ∧ slot < 32 ∧ a < 36 ∧ s.aveState a = 1 ∧ s.chargedOn slot ≠ [] →
  (∀ i ∈ s.chargedOn slot, i < 20480) →
  Runs (.epochInstant t) s fun u =>
    u.epochOf 0 = epochAfter (s.epochOf 0) ∧ u.epochOf 1 = epochAfter (s.epochOf 1) ∧
    u.rget (Reg.PLZ_SLOT_MAP_PEND slot) = a ∧ u.rbit (Reg.PLZ_SLOT_MAP_PEND_VALID slot) = true ∧ u.aveState a = 5 ∧
    (∀ i ∈ s.chargedOn slot, (u.mv (moveKey false false i)).live = true ∧ (u.mv (moveKey false false i)).slotMove = some slot ∧ (u.mv (moveKey false false i)).epochTx = u.epochOf 1) ∧
    (∀ n ∈ s.slicesOn slot, (u.mv (moveKey true false n)).live = true ∧ (u.mv (moveKey true false n)).slotMove = some slot)

/-- Past the Active lease a batch has no effect at its instant, and the command that waits is refused with E_NOT_LEASEHOLDER (00 R13).
(DEDUCED, log entry 149) -/
def epochPastLease : Prop :=
  ∀ (s : State) (t tag op : Nat) (rx tx : Bool) (b : BatchWork) (rest : List BatchWork),
  s.plz.batch = b :: rest ∧ s.privileged t = false →
  (∀ slot a, b ≠ .rotate slot a) →
  s.hcq.exec = some ⟨tag, op, .batch rx tx⟩ ∧ s.hcq.cut = false ∧ s.hcq.closing = false →
  Runs (.epochInstant t) s fun u =>
    u.plz = { s.plz with batch := rest } ∧ u.epochOf 0 = s.epochOf 0 ∧ u.epochOf 1 = s.epochOf 1 ∧ u.hcq.exec = none ∧
    Out.completion (s.rget Reg.CPL_PI_V % 2 ^ s.ringLog) ((⟨tag, 6, op, noOfs, t, 0⟩ : CplRec).bytes (decide (s.rget Reg.CPL_PI_V / 2 ^ s.ringLog % 2 = 0))) ∈ u.out

/-! ### MovesInstallCutOverAndRetire -/

/-- MOVE_INSTALL of a tributary (07 R218): route 1 is written, the new contexts are seeded shadows, and event 0x6001 carries the epoch and
both slots. -/
def moveInstall : Prop :=
  ∀ (s : State) (t m : Nat) (l : List (Nat × Nat)),
  (s.mv m).live = true ∧ (s.mv m).phase = .waiting ∧ (s.mv m).slice = false ∧ (s.mv m).slotMove = none ∧ (s.mv m).back = false ∧ (s.mv m).install ≤ t →
  (s.cn (s.mv m).dir (s.mv m).inst).valid = true →
  (s.copyCtxs (s.mv m) (s.moveCtxs (s.mv m))).map (·.2) = some l →
  Runs (.moveInstall t m) s fun u =>
    u.mv m = { s.mv m with phase := .overlap, install := t, period := s.movePeriod (s.mv m), ctxs := l } ∧
    (u.cn (s.mv m).dir (s.mv m).inst) = { s.cn (s.mv m).dir (s.mv m).inst with route1 := true, slot1 := (s.mv m).new, epoch1 := (s.mv m).epoch } ∧
    (∀ p ∈ l, (u.cx p.2).seed = true ∧ (u.cx p.2).shadow = true ∧ (u.cx p.2).g = (s.cx p.1).g ∧ (u.cx p.2).scr = (s.cx p.1).scr) ∧
    (u.evl.pend.any fun x => x.code == 0x6001 && x.src == (s.mv m).inst && x.detail == ((s.mv m).epoch % 65536 + (s.mv m).old * 2 ^ 16 + (s.mv m).new * 2 ^ 24) % 2 ^ 48) = true ∧
    u.rbit Reg.PLZ_LIVE_MOVE_ACTIVE = true

/-- MOVE_CUTOVER of a tributary at the release that follows its new contexts' on-time COMMITs, within install + 2 P (07 R218, R613): FWD is
route 1 with its instant, the old contexts are the shadows, and the move is counted with event 0x6002. -/
def moveCutover : Prop :=
  ∀ (s : State) (t m : Nat),
  (s.mv m).live = true ∧ (s.mv m).phase = .overlap ∧ (s.mv m).slice = false ∧ (s.mv m).slotMove = none ∧ (s.mv m).back = false →
  s.moveReady (s.mv m) = true ∧ (s.mv m).install < t →
  s.releasesPast t (s.mv m) = true ∧ t ≤ (s.mv m).install + 2 * (s.mv m).period →
  (s.cn (s.mv m).dir (s.mv m).inst).valid = true →
  ((s.mv m).ctxs.flatMap fun p => [p.1, p.2]).Nodup →
  Runs (.moveCutover t m) s fun u =>
    (u.mv m).phase = .cut ∧ (u.mv m).cutAt = t ∧
    (u.cn (s.mv m).dir (s.mv m).inst) = { s.cn (s.mv m).dir (s.mv m).inst with fwd := true, chg := t } ∧
    (∀ p ∈ (s.mv m).ctxs, (u.cx p.1).shadow = true ∧ (u.cx p.2).shadow = false) ∧
    u.cget Ctr.PLZ_MOVES = (s.cget Ctr.PLZ_MOVES + 1) % 2 ^ 48 ∧
    (u.evl.pend.any fun x => x.code == 0x6002 && x.src == (s.mv m).inst) = true

/-- Once a fence has taken the old Avenue the next frame start cuts a ready move over, whatever release it waited for, and the event names
the fence (07 R221). -/
def moveForced : Prop :=
  ∀ (s : State) (t m : Nat),
  (s.mv m).live = true ∧ (s.mv m).phase = .overlap ∧ (s.mv m).slice = false ∧ (s.mv m).slotMove = none ∧ (s.mv m).back = false →
  s.moveReady (s.mv m) = true ∧ (s.mv m).install < t →
  (s.mv m).forced = true →
  (s.cn (s.mv m).dir (s.mv m).inst).valid = true →
  Runs (.moveCutover t m) s fun u =>
    (u.mv m).phase = .cut ∧ (u.mv m).forced = false ∧
    (u.cn (s.mv m).dir (s.mv m).inst) = { s.cn (s.mv m).dir (s.mv m).inst with fwd := true, chg := t } ∧
    (u.evl.pend.any fun x => x.code == 0x6002 && x.src == (s.mv m).inst && x.detail == ((s.mv m).epoch % 65536 + (s.mv m).old * 2 ^ 16 + (s.mv m).new * 2 ^ 24 + 2 ^ 32) % 2 ^ 48) = true

/-- MOVE_RETIRE of a tributary (07 R218): the old contexts are unbound, route 1 becomes route 0 in both directions, and the ODU is in the
new slot. -/
def moveRetire : Prop :=
  ∀ (s : State) (t m : Nat),
  (s.mv m).live = true ∧ (s.mv m).phase = .cut ∧ (s.mv m).slice = false ∧ (s.mv m).slotMove = none ∧ (s.mv m).back = false ∧ (s.mv m).cutAt < t →
  (s.mv m).inst < 20480 ∧ (s.cn (s.mv m).dir (s.mv m).inst).valid = true ∧ (s.odu (s.mv m).inst).inHo ≠ some (s.mv m).inst →
  Runs (.moveRetire t m) s fun u =>
    (u.mv m).live = false ∧
    (∀ x ∈ [0, 1], (s.cn x (s.mv m).inst).valid = true →
      u.cn x (s.mv m).inst = { s.cn x (s.mv m).inst with slot0 := (s.cn x (s.mv m).inst).slot1, epoch0 := (s.cn x (s.mv m).inst).epoch1, slot1 := 0, epoch1 := 0, route1 := false, fwd := false }) ∧
    (∀ p ∈ (s.mv m).ctxs, u.cx p.1 = {}) ∧
    (u.odu (s.mv m).inst).slot = (s.mv m).new

/-- MOVE_ABORT of a tributary at install + 2 P (07 R219): route 1 is removed, FWD stays, the new contexts are unbound, and the abort is
counted with event 0x6003. -/
def moveAbort : Prop :=
  ∀ (s : State) (t m : Nat),
  (s.mv m).live = true ∧ (s.mv m).phase = .overlap ∧ (s.mv m).slice = false ∧ (s.mv m).slotMove = none ∧ (s.mv m).back = false ∧ (s.mv m).forced = false →
  (s.cn (s.mv m).dir (s.mv m).inst).valid = true →
  (s.mv m).install + 2 * (s.mv m).period ≤ t →
  Runs (.moveAbort t m) s fun u =>
    (u.mv m).live = false ∧
    (u.cn (s.mv m).dir (s.mv m).inst) = { s.cn (s.mv m).dir (s.mv m).inst with route1 := false, epoch1 := 0, slot1 := 0 } ∧
    (∀ p ∈ (s.mv m).ctxs, u.cx p.2 = {}) ∧
    u.cget Ctr.PLZ_MOVE_ABORTS = (s.cget Ctr.PLZ_MOVE_ABORTS + 1) % 2 ^ 48 ∧ u.rbit Reg.PLZ_LIVE_MOVE_ABORT = true ∧
    (u.evl.pend.any fun x => x.code == 0x6003 && x.src == (s.mv m).inst) = true

/-- MOVE_CUTOVER before every new context has committed on time changes no register, counter, connection or context (07 R218). -/
def moveNotYet : Prop :=
  ∀ (s : State) (t m : Nat),
  s.moveReady (s.mv m) = false →
  Runs (.moveCutover t m) s fun u =>
    u.plz = s.plz ∧
    (∀ c, u.wordN c = s.wordN c ∧ u.cget c = s.cget c ∧ u.cx c = s.cx c)

/-- CONNECTION_CHANGE_APPLY (07 R211, R216): the frame start puts the change, PORT_A and the bridge, at the output. -/
def connectionChangeApply : Prop :=
  ∀ (s : State) (t d i : Nat),
  d < 2 ∧ i < 20480 ∧ (s.cn d i).changed = true →
  Runs (.connectionChangeApply t d i) s fun u =>
    u.cn d i = { s.cn d i with changed := false, out := (s.cn d i).route, outB := (s.cn d i).routeB, outCopies := [], outDual := false } ∧
    (∀ c, u.wordN c = s.wordN c ∧ u.cget c = s.cget c ∧ u.cx c = s.cx c)

/-- SELECTION_CHANGE of the fast path that nothing stands against, at a frame start after its trigger (07 R225 to R227): the entry is forwarded, its partner is not, and the switch is counted. -/
def selectionFast : Prop :=
  ∀ (s : State) (t i p : Nat) (r : SelReq),
  s.switchPartner i = some p ∧ i ≠ p →
  (s.cn 0 i).req = some r ∧ r.fast = true ∧ r.at_ < t →
  s.hwSf i = false ∨ s.hwSf p = false ∧ (s.cn 0 p).inhibit = true →
  Runs (.selectionChange t i) s fun u =>
    (u.cn 0 i).sel = true ∧ (u.cn 0 p).sel = false ∧ (u.cn 0 i).req = none ∧
    u.cget Ctr.PLZ_FAST_SWITCHES = (s.cget Ctr.PLZ_FAST_SWITCHES + 1) % 2 ^ 48 ∧ u.rbit Reg.PLZ_LIVE_FAST_SWITCH = true ∧
    ((s.cn 0 i).sel = false → (u.cn 0 i).switches = ((s.cn 0 i).switches + 1) % 2 ^ 32 ∧ (u.cn 0 i).chg = t)

/-- SELECTION_CHANGE of a committed request that nothing stands against (07 R226, R227). -/
def selectionCommanded : Prop :=
  ∀ (s : State) (t i p : Nat) (r : SelReq),
  s.switchPartner i = some p ∧ i ≠ p →
  (s.cn 0 i).req = some r ∧ r.fast = false ∧ r.at_ < t →
  s.hwSf i = false ∨ s.hwSf p = false ∧ (s.cn 0 p).inhibit = true →
  Runs (.selectionChange t i) s fun u =>
    (u.cn 0 i).sel = true ∧ (u.cn 0 p).sel = false ∧ (u.cn 0 i).req = none ∧
    u.cget Ctr.PLZ_CMD_SWITCHES = (s.cget Ctr.PLZ_CMD_SWITCHES + 1) % 2 ^ 48

/-- A committed request for an entry with a hardware signal fail is held while the other has none and is not inhibited, and while both have
one (07 R226). -/
def selectionHeld : Prop :=
  ∀ (s : State) (t i p : Nat) (r : SelReq),
  s.switchPartner i = some p →
  (s.cn 0 i).req = some r ∧ r.fast = false ∧ r.at_ < t →
  s.hwSf i = true ∧ (s.hwSf p = true ∨ (s.cn 0 p).inhibit = false) →
  Runs (.selectionChange t i) s fun u =>
    u.cn 0 i = { s.cn 0 i with req := none, held := true } ∧
    (∀ c, u.wordN c = s.wordN c ∧ u.cget c = s.cget c)

/-- The fast path asks for the other partner when the selected one alone has a hardware signal fail, both entries have FAST_EN and the other
is not inhibited, and asks for nothing where the partner has one too (07 R225, R226). -/
def fastPathTrigger : Prop :=
    ∀ (s : State) (t i p : Nat), s.switchPartner i = some p → i ≠ p → (s.cn 0 i).sel = true → s.hwSf i = true → (s.cn 0 p).req = none →
    (s.hwSf p = false → (s.cn 0 i).fastEn = true → (s.cn 0 p).fastEn = true → (s.cn 0 p).inhibit = false →
      ((s.fastPair t i).cn 0 p).req = some { fast := true, at_ := t } ∧ ((s.fastPair t i).cn 0 i).held = false) ∧
    ((s.hwSf p = true ∨ (s.cn 0 p).inhibit = true) → s.fastPair t i = s)

/-- MAP_SCRUB (07 R229): corrected errors are counted, one that cannot be corrected is a device fault. -/
def mapScrub : Prop :=
  ∀ (s : State) (t corr : Nat) (uncorr : Bool),
  s.dueWork 2 (sec 1) t = true →
  Runs (.mapScrub t corr uncorr) s fun u =>
    u.cget Ctr.PLZ_ECC_CORR = (s.cget Ctr.PLZ_ECC_CORR + corr) % 2 ^ 48 ∧
    (corr ≠ 0 → u.rbit Reg.PLZ_LIVE_ECC_CORR = true) ∧
    (uncorr = true → u.rbit Reg.PLZ_LIVE_ECC_UNCORR = true ∧ u.role = 4) ∧
    (uncorr = false → u.role = s.role ∧ u.plz = s.plz)

/-! ### ArcadeLinksComeUpAndGoDown -/

/-- SYS_PORT_CFG of a lane group nothing uses (17 Table HST-8): its mode is shown, and a group that is no Arcade group has no enabled link. -/
def sysPortCfg : Prop :=
  ∀ (s : State) (t : Nat) (d : Desc) (g mode phy plane dpll : Nat),
  s.cmdReady t d = true →
  g < 20 ∧ mode ≤ 2 ∧ phy ≤ 2 ∧ plane ≤ 1 ∧ (mode ≠ 0 → 2 ≤ dpll ∧ dpll ≤ 7) →
  s.grpNamed g = false ∧ s.anyPermit sysPermits g = false →
  Runs (.sysPortCfg t d g mode phy plane dpll) s fun u =>
    s.completes u (okCpl d 0x0102 t) ∧
    u.sysGrp g = { mode := mode, phy := phy, plane := plane, dpll := dpll } ∧
    u.rbit (Reg.SYP_ARG_CFG_ENABLED g) = (mode == 2) ∧ u.rget (Reg.SYP_ARG_CFG_PLANE g) = (if mode = 2 then plane else 0) ∧
    (mode ≠ 2 → ∀ l ∈ groupLinks g, u.alEnabled l = false)

/-- ARC_LINK enables a link of an Arcade group once the DEVID is set (08 R239, R247). -/
def arcLinkEnable : Prop :=
  ∀ (s : State) (t : Nat) (d : Desc) (l : Nat),
  s.cmdReady t d = true →
  l < 160 ∧ s.rbit Reg.SYP_ARC_ID_VALID = true ∧ (s.sysGrp (l / 8)).mode = 2 ∧ s.alEnabled l = false ∧ s.alState l = 0 →
  Runs (.arcLink t d l 1) s fun u =>
    s.completes u (okCpl d 0x0103 t) ∧
    u.alEnabled l = true ∧ u.alState l = 0 ∧ u.rget (Reg.SYP_AL_STAT_REASON l) = (if (s.alk l).cdr then 2 else 1) ∧
    u.rbit (Reg.SYP_AL_LIVE_LINK_DOWN l) = true

/-- ARC_LINK that enables a link while the DEVID is unset: E_STATE (08 R247). -/
def arcLinkNoDevid : Prop :=
  ∀ (s : State) (t : Nat) (d : Desc) (l : Nat),
  s.cmdReady t d = true →
  l < 160 ∧ s.rbit Reg.SYP_ARC_ID_VALID = false →
  Runs (.arcLink t d l 1) s fun u =>
    s.completes u ⟨d.tag, 9, 0x0103, 0x10, t, 0⟩ ∧
    u.alEnabled l = s.alEnabled l

/-- ARC_LINK disables a link (08 R239, Table ARC-3). -/
def arcLinkDisable : Prop :=
  ∀ (s : State) (t : Nat) (d : Desc) (l : Nat),
  s.cmdReady t d = true →
  l < 160 ∧ s.alEnabled l = true →
  Runs (.arcLink t d l 0) s fun u =>
    s.completes u (okCpl d 0x0103 t) ∧
    u.alEnabled l = false ∧ u.alState l = 0 ∧ u.rget (Reg.SYP_AL_STAT_REASON l) = 10 ∧ u.alChosen l = 0

/-- ARC_LINK drains a link that is UP (08 R246): no data cell is placed on it from the next cell. -/
def arcLinkDrain : Prop :=
  ∀ (s : State) (t : Nat) (d : Desc) (l : Nat),
  s.cmdReady t d = true →
  l < 160 ∧ s.alEnabled l = true ∧ s.alUp l = true →
  Runs (.arcLink t d l 2) s fun u =>
    s.completes u (okCpl d 0x0103 t) ∧
    (u.alk l).drainAt = some t ∧ u.alUp l = true ∧
    (∀ dual, u.nextLink (l / 8) dual ≠ some l)

/-- LINK_FEC_LOCK (08 R231, R239): DELINEATE. -/
def linkFecLock : Prop :=
  ∀ (s : State) (t l corr : Nat),
  l < 160 ∧ s.alEnabled l = true ∧ s.alState l = 0 ∧ (s.alk l).cdr = true ∧ (s.alk l).hold ≤ t →
  Runs (.linkFecLock t l corr) s fun u =>
    u.alState l = 1 ∧ u.rget (Reg.SYP_AL_STAT_REASON l) = 3 ∧ u.cget (Ctr.SYP_FEC_CW_CORR l) = (s.cget (Ctr.SYP_FEC_CW_CORR l) + corr) % 2 ^ 48

/-- LINK_DELINEATED (08 R239): NEGOTIATE. -/
def linkDelineated : Prop :=
  ∀ (s : State) (t l : Nat),
  l < 160 ∧ s.alState l = 1 →
  Runs (.linkDelineated t l) s fun u =>
    u.alState l = 2 ∧ u.rget (Reg.SYP_AL_STAT_REASON l) = 0 ∧ (u.alk l).since = t ∧ (u.alk l).choice = none

/-- LINK_FEC_LOCK_LOSS (08 R231, R239): DOWN with reason FEC_LOCK; a link that was UP waits HOLDDOWN. -/
def linkFecLockLoss : Prop :=
  ∀ (s : State) (t l n : Nat),
  l < 160 ∧ s.alState l ≠ 0 ∧ (s.alk l).drainRx = false →
  Runs (.linkFecLockLoss t l n) s fun u =>
    u.alState l = 0 ∧ u.rget (Reg.SYP_AL_STAT_REASON l) = 2 ∧ u.alChosen l = 0 ∧
    (u.alk l).hold = (if s.alUp l then t + us (500 * s.rget (Reg.SYP_AL_CFG_HOLDDOWN l)) else t) ∧
    u.cget (Ctr.SYP_FEC_CW_UNCORR l) = (s.cget (Ctr.SYP_FEC_CW_UNCORR l) + n) % 2 ^ 48 ∧ u.rbit (Reg.SYP_AL_LIVE_FEC_UNCORR l) = true

/-- DELINEATION_LOSS after 7 invalid cells (08 R239). -/
def delineationLoss : Prop :=
  ∀ (s : State) (t l : Nat),
  l < 160 ∧ 2 ≤ s.alState l ∧ 7 ≤ (s.alk l).bad ∧ (s.alk l).drainRx = false →
  Runs (.delineationLoss t l) s fun u =>
    u.alState l = 0 ∧ u.alChosen l = 0 ∧ (u.alk l).hold = (if s.alUp l then t + us (500 * s.rget (Reg.SYP_AL_CFG_HOLDDOWN l)) else t) ∧ u.rget (Reg.SYP_AL_STAT_REASON l) = 3 ∧
    u.cget (Ctr.SYP_DELIN_LOSS l) = (s.cget (Ctr.SYP_DELIN_LOSS l) + 1) % 2 ^ 48 ∧ u.rbit (Reg.SYP_AL_LIVE_DELIN_LOSS l) = true

/-- CELL_TIMEOUT after 2 µs (08 R239); a link that heard DRAIN records DRAINED and raises no LINK_DOWN (R246). -/
def cellTimeout : Prop :=
  ∀ (s : State) (t l : Nat),
  l < 160 ∧ s.alUp l = true ∧ (s.alk l).lastValid + us 2 ≤ t →
  Runs (.cellTimeout t l) s fun u =>
    u.alState l = 0 ∧ u.alChosen l = 0 ∧ (u.alk l).hold = t + us (500 * s.rget (Reg.SYP_AL_CFG_HOLDDOWN l)) ∧ u.rget (Reg.SYP_AL_STAT_REASON l) = (if (s.alk l).drainRx then 11 else 8) ∧
    u.rbit (Reg.SYP_AL_LIVE_LINK_DOWN l) = (s.alEnabled l && !(s.alk l).drainRx)

/-- PEER_RX_DOWN after three LINK_STATE cells (08 R239). -/
def peerRxDown : Prop :=
  ∀ (s : State) (t l : Nat),
  l < 160 ∧ s.alUp l = true ∧ 3 ≤ (s.alk l).rxDown ∧ (s.alk l).drainRx = false →
  Runs (.peerRxDown t l) s fun u =>
    u.alState l = 0 ∧ u.alChosen l = 0 ∧ (u.alk l).hold = t + us (500 * s.rget (Reg.SYP_AL_CFG_HOLDDOWN l)) ∧ u.rget (Reg.SYP_AL_STAT_REASON l) = 7

/-- NEG_TIMEOUT after 10 ms (08 R239): NEG_TIMEOUT, or LOOPED when the latest cell carried the device's own DEVID (R243), which waits
HOLDDOWN. -/
def negTimeout : Prop :=
  ∀ (s : State) (t l : Nat),
  l < 160 ∧ s.alState l = 2 ∧ (s.alk l).since + ms 10 ≤ t →
  Runs (.negTimeout t l) s fun u =>
    u.alState l = 0 ∧ u.alChosen l = 0 ∧ u.rget (Reg.SYP_AL_STAT_REASON l) = (if (s.alk l).negDevid = some s.devid then 6 else 5) ∧
    (u.alk l).hold = (if (s.alk l).negDevid = some s.devid then t + us (500 * s.rget (Reg.SYP_AL_CFG_HOLDDOWN l)) else t)

/-- HOLDDOWN_END (08 R239). -/
def holddownEnd : Prop :=
  ∀ (s : State) (t l : Nat),
  l < 160 ∧ s.alState l = 0 ∧ (s.alk l).hold ≠ 0 ∧ (s.alk l).hold ≤ t →
  Runs (.holddownEnd t l) s fun u =>
    (u.alk l).hold = 0 ∧
    (∀ c, u.wordN c = s.wordN c ∧ u.cget c = s.cget c)

/-- CELL_RECEIVED in NEGOTIATE of a negotiation cell whose ACK carries the choice this side has sent, by the record advertised when the
bring-up began (08 R240, R243): UP. -/
def negotiationAgrees : Prop :=
  ∀ (s : State) (t l v : Nat) (c : List Byte),
  l < 160 ∧ s.alState l = 2 ∧ (s.alk l).acked = true ∧ (s.alk l).choice = some v →
  c.length = 1024 ∧ cellValid c = true ∧ pcrcOk c = true ∧ cellType c = 4 →
  cellBe c 32 2 ≠ s.devid →
  chooseVersion (s.alk l).adv (negRecords c) = some v ∧ v < 65536 →
  bit (cellBe c 35 1) 1 = true ∧ cellBe c 36 2 = v →
  Runs (.cellReceived t l 0 0 c) s fun u =>
    u.alState l = 3 ∧ u.alChosen l = v ∧ u.rget (Reg.SYP_AL_STAT_REASON l) = 0 ∧
    u.rget (Reg.SYP_AL_PEER_PEER_DEVID l) = cellBe c 32 2 ∧ u.rget (Reg.SYP_AL_PEER_PEER_LINK l) = cellBe c 34 1 ∧ u.rbit (Reg.SYP_AL_PEER_PEER_PLANE l) = bit (cellBe c 35 1) 0 ∧
    (u.evl.pend.any fun x => x.code == 0x6010 && x.src == l && x.detail == v) = true ∧
    u.rbit (Reg.SYP_AL_LIVE_LINK_DOWN l) = false

/-- CELL_RECEIVED in NEGOTIATE of a negotiation cell with no version common to both sides (00 R18; 08 R240): DOWN with reason NO_COMMON_VERSION, event
0x6011. -/
def linkNoCommonVersion : Prop :=
  ∀ (s : State) (t l : Nat) (c : List Byte),
  l < 160 ∧ s.alState l = 2 →
  c.length = 1024 ∧ cellValid c = true ∧ pcrcOk c = true ∧ cellType c = 4 →
  cellBe c 32 2 ≠ s.devid →
  chooseVersion (s.alk l).adv (negRecords c) = none →
  Runs (.cellReceived t l 0 0 c) s fun u =>
    u.alState l = 0 ∧ u.alChosen l = 0 ∧ u.rget (Reg.SYP_AL_STAT_REASON l) = 4 ∧ u.rbit (Reg.SYP_AL_LIVE_NO_COMMON_VERSION l) = true ∧
    (u.evl.pend.any fun x => x.code == 0x6011 && x.src == l && x.detail == 0) = true

/-- CELL_RECEIVED in NEGOTIATE of a negotiation cell that carries the device's own DEVID, no loopback permit of its lane group held (08 R243): the
link stays in NEGOTIATE with reason LOOPED and no choice. -/
def ownDevid : Prop :=
  ∀ (s : State) (t l : Nat) (c : List Byte),
  l < 160 ∧ s.alState l = 2 →
  c.length = 1024 ∧ cellValid c = true ∧ pcrcOk c = true ∧ cellType c = 4 →
  cellBe c 32 2 = s.devid ∧ s.loopPermit l = false →
  Runs (.cellReceived t l 0 0 c) s fun u =>
    u.alState l = 2 ∧ u.rget (Reg.SYP_AL_STAT_REASON l) = 6 ∧ (u.alk l).choice = none ∧ (u.alk l).acked = false

/-- CELL_RECEIVED on an UP link of a negotiation cell (08 R240, Table ARC-3): the peer has gone back, and the link is in NEGOTIATE again with reason
PEER_RESTART. -/
def peerNegotiates : Prop :=
  ∀ (s : State) (t l v : Nat) (c : List Byte),
  l < 160 ∧ s.alUp l = true →
  c.length = 1024 ∧ cellValid c = true ∧ pcrcOk c = true ∧ cellType c = 4 →
  cellBe c 32 2 ≠ s.devid ∧ chooseVersion (s.wordN (Reg.SYP_AL_ADV l)) (negRecords c) = some v →
  Runs (.cellReceived t l 0 0 c) s fun u =>
    u.alState l = 2 ∧ u.alChosen l = 0 ∧ u.rget (Reg.SYP_AL_STAT_REASON l) = 9 ∧ (u.alk l).since = t ∧ (u.alk l).choice = some v ∧ (u.alk l).acked = false

/-- The chosen version is the highest common to the own record and one received, and none where there is no common version (00 R16, R17; 08
R240). -/
def versionChoice : Prop :=
    ∀ (a b : Nat) (l h m n : Nat), rangeOf a = some (l, h) → rangeOf b = some (m, n) →
    (max l m ≤ min h n → commonOf a b = some (min h n)) ∧ (min h n < max l m → commonOf a b = none)

/-! ### ArcadeCellsAndFlows -/

/-- CELL_RECEIVED of a cell that is not valid (08 R234): HDR_ERR, one more invalid cell in the run, and nothing else of the link. -/
def cellInvalid : Prop :=
  ∀ (s : State) (t l : Nat) (c : List Byte),
  l < 160 ∧ 2 ≤ s.alState l ∧ c.length = 1024 ∧ cellValid c = false →
  Runs (.cellReceived t l 0 0 c) s fun u =>
    u.alk l = { s.alk l with bad := (s.alk l).bad + 1 } ∧ u.alState l = s.alState l ∧
    u.cget (Ctr.SYP_HDR_ERR l) = (s.cget (Ctr.SYP_HDR_ERR l) + 1) % 2 ^ 48 ∧ u.rbit (Reg.SYP_AL_LIVE_HDR_ERR l) = true ∧
    u.arc.flows = s.arc.flows

/-- A data, time or control cell of another version than the chosen one (08 R242). -/
def cellVersion : Prop :=
  ∀ (s : State) (t l : Nat) (c : List Byte),
  l < 160 ∧ s.alUp l = true ∧ c.length = 1024 ∧ cellValid c = true ∧ pcrcOk c = true ∧ cellType c ≠ 4 →
  cellBe c 0 2 ≠ s.alChosen l →
  Runs (.cellReceived t l 0 0 c) s fun u =>
    u.cget (Ctr.SYP_VER_DROP l) = (s.cget (Ctr.SYP_VER_DROP l) + 1) % 2 ^ 48 ∧ u.cget (Ctr.SYP_CELLS_RX l) = (s.cget (Ctr.SYP_CELLS_RX l) + 1) % 2 ^ 48 ∧
    u.arc.flows = s.arc.flows ∧ (u.alk l).lastValid = t ∧ (u.alk l).bad = 0

/-- The first cell an idle or starved flow accepts (08 R263): ACTIVE, NEXT_SEQ is its SEQ, and it is held. -/
def flowStarts : Prop :=
  ∀ (s : State) (t l i : Nat) (c : List Byte),
  l < 160 ∧ s.alUp l = true ∧ c.length = 1024 ∧ cellValid c = true ∧ pcrcOk c = true ∧ cellType c = 1 →
  cellBe c 0 2 = s.alChosen l ∧ cellBe c 6 2 = s.devid →
  s.flowMatch (cellBe c 4 2) (cellBe c 8 3 % 2 ^ 20) = some i ∧ arcGroup (s.cn 1 i).portA = l / 8 →
  (s.flow 1 i).state ≠ 1 →
  (s.flow 1 i).due (extendTs (cellBe c 18 8) t ((s.flow 1 i).offset t)) (s.cn 1 i).playout t = false →
  Runs (.cellReceived t l 0 0 c) s fun u =>
    (u.flow 1 i).state = 1 ∧ (u.flow 1 i).next = cellBe c 12 4 ∧ (u.flow 1 i).source = cellBe c 4 2 ∧
    (u.flow 1 i).held = [⟨cellBe c 12 4, extendTs (cellBe c 18 8) t ((s.flow 1 i).offset t), c.drop 32⟩]

/-- A data cell of an active flow within the window (08 R259, R261, R262). -/
def cellHeld : Prop :=
  ∀ (s : State) (t l i : Nat) (c : List Byte),
  l < 160 ∧ s.alUp l = true ∧ c.length = 1024 ∧ cellValid c = true ∧ pcrcOk c = true ∧ cellType c = 1 →
  cellBe c 0 2 = s.alChosen l ∧ cellBe c 6 2 = s.devid →
  s.flowMatch (cellBe c 4 2) (cellBe c 8 3 % 2 ^ 20) = some i ∧ arcGroup (s.cn 1 i).portA = l / 8 →
  (s.flow 1 i).state = 1 ∧ (s.cn 1 i).altValid = false →
  (s.flow 1 i).fate (s.reservedCells i) (cellBe c 12 4) = .hold ∧ (s.flow 1 i).held.length < s.reservedCells i →
  (s.flow 1 i).due (extendTs (cellBe c 18 8) t ((s.flow 1 i).offset t)) (s.cn 1 i).playout t = false →
  Runs (.cellReceived t l 0 0 c) s fun u =>
    u.flow 1 i = { s.flow 1 i with held := (s.flow 1 i).held ++ [⟨cellBe c 12 4, extendTs (cellBe c 18 8) t ((s.flow 1 i).offset t), c.drop 32⟩] }

/-- A data cell that arrives at or after its playout instant (08 R258): LATE_DROP. -/
def cellLate : Prop :=
  ∀ (s : State) (t l i : Nat) (c : List Byte),
  l < 160 ∧ s.alUp l = true ∧ c.length = 1024 ∧ cellValid c = true ∧ pcrcOk c = true ∧ cellType c = 1 →
  cellBe c 0 2 = s.alChosen l ∧ cellBe c 6 2 = s.devid →
  s.flowMatch (cellBe c 4 2) (cellBe c 8 3 % 2 ^ 20) = some i ∧ arcGroup (s.cn 1 i).portA = l / 8 →
  (s.flow 1 i).state = 1 ∧ (s.cn 1 i).altValid = false →
  (s.flow 1 i).fate (s.reservedCells i) (cellBe c 12 4) = .hold →
  (s.flow 1 i).due (extendTs (cellBe c 18 8) t ((s.flow 1 i).offset t)) (s.cn 1 i).playout t = true →
  Runs (.cellReceived t l 0 0 c) s fun u =>
    u.flow 1 i = { s.flow 1 i with late := ((s.flow 1 i).late + 1) % 2 ^ 32 }

/-- The ranges of 08 R262: within the 1,024 numbers below NEXT_SEQ a cell is a second copy or late; one held already is a second copy; inside
the reservation it is held; any other is outside. -/
def seqRanges : Prop :=
    ∀ (f : FlowH) (n seq : Nat), n ≤ 2 ^ 32 - 1024 →
    (2 ^ 32 - 1024 ≤ seqDiff seq f.next → f.fate n seq = if f.played.contains seq then .dup else .late) ∧
    (seqDiff seq f.next < 2 ^ 32 - 1024 → (f.held.any fun h => h.seq == seq) = true → f.fate n seq = .dup) ∧
    (seqDiff seq f.next < n → (f.held.any fun h => h.seq == seq) = false → f.fate n seq = .hold) ∧
    (n ≤ seqDiff seq f.next → seqDiff seq f.next < 2 ^ 32 - 1024 → (f.held.any fun h => h.seq == seq) = false → f.fate n seq = .outside)

/-- CELL_PLAYOUT of the next held cell (08 R259): fill for every number before it, counted in MISSING, then the cell; the mapper it feeds is
starved no more. -/
def cellPlayout : Prop :=
  ∀ (s : State) (t i : Nat) (c : HeldCell),
  (s.flow 1 i).head = some c ∧ (s.flow 1 i).due c.src (s.cn 1 i).playout t = true →
  Runs (.cellPlayout t i) s fun u =>
    (u.flow 1 i).next = (c.seq + 1) % 2 ^ 32 ∧ (u.flow 1 i).missing = ((s.flow 1 i).missing + seqDiff c.seq (s.flow 1 i).next) % 2 ^ 32 ∧
    (u.flow 1 i).cells = ((s.flow 1 i).cells + seqDiff c.seq (s.flow 1 i).next + 1) % 2 ^ 32 ∧
    (u.flow 1 i).held = (s.flow 1 i).held.filter (fun x => x.seq != c.seq) ∧ (u.flow 1 i).lastPlay = t ∧ (u.mp i 1).starved = false ∧
    (∀ a, u.wordN a = s.wordN a ∧ u.cget a = s.cget a)

/-- FLOW_STARVED (06 R198): no cell played for RATE_WIN. -/
def flowStarved : Prop :=
  ∀ (s : State) (t i : Nat),
  (s.flow 1 i).state = 1 ∧ (s.flow 1 i).lastPlay + (s.odu i).rateWinTicks ≤ t →
  Runs (.flowStarved t i) s fun u =>
    (u.flow 1 i).state = 2 ∧ (u.mp i 1).starved = true ∧
    (∀ a, u.wordN a = s.wordN a ∧ u.cget a = s.cget a)

/-- CELL_SEND of an IDLE cell on an UP link (08 R242, R244): payload byte 0 is 0x00; SEQ is free. -/
def cellSend : Prop :=
  ∀ (s : State) (t l : Nat),
  l < 160 ∧ s.alEnabled l = true ∧ s.alUp l = true →
  Runs (.cellSend t l .idle) s fun u =>
    u.cget (Ctr.SYP_CELLS_TX l) = (s.cget (Ctr.SYP_CELLS_TX l) + 1) % 2 ^ 48 ∧
    (∃ q, Out.cell l (cellBytes { ver := s.alChosen l, type := 3, plane := decide (0x0101 ≤ s.alChosen l) && s.rbit (Reg.SYP_ARG_CFG_PLANE (l / 8)), src := s.devid, dst := s.rget (Reg.SYP_AL_PEER_PEER_DEVID l), seq := q, len := 1, ts := t } [0]) ∈ u.out) ∧
    (∀ a, u.wordN a = s.wordN a)

/-- CELL_SEND of a DRAIN cell (08 R244, R246): subtype 0x02, on a link that drains at ALP 1.2 or above. -/
def drainCellSend : Prop :=
  ∀ (s : State) (t l : Nat),
  l < 160 ∧ s.alEnabled l = true ∧ s.alUp l = true ∧ (s.alk l).drainAt.isSome = true ∧ 0x0102 ≤ s.alChosen l →
  Runs (.cellSend t l .drain) s fun u =>
    u.cget (Ctr.SYP_CELLS_TX l) = (s.cget (Ctr.SYP_CELLS_TX l) + 1) % 2 ^ 48 ∧
    (∃ q, Out.cell l (cellBytes { ver := s.alChosen l, type := 3, plane := s.rbit (Reg.SYP_ARG_CFG_PLANE (l / 8)), src := s.devid, dst := s.rget (Reg.SYP_AL_PEER_PEER_DEVID l), seq := q, len := 1, ts := t } [2]) ∈ u.out) ∧
    (∀ a, u.wordN a = s.wordN a)

/-- CELL_SEND of a data cell of a flow with one copy (01 R31; 08 R236, R237, R242, R252): the group's next link carries it with the ingress DTS
of its first byte, and SEQ advances. -/
def cellSendData : Prop :=
  ∀ (s : State) (t l i ts : Nat) (pos : BytePos) (p : List Byte),
  l < 160 ∧ s.alEnabled l = true ∧ s.alUp l = true →
  (s.cn 0 i).arcade = true ∧ (s.cn 0 i).changed = false ∧ (s.cn 0 i).dual = false ∧ (s.cn 0 i).bridge = false ∧ arcPort (s.cn 0 i).portA = true ∧ (s.cn 0 i).cls ≠ 2 →
  s.roleRuns = true ∧ s.flowOwner 0 i = i ∧ s.flowStopped i = false ∧ s.replaced 0 (s.flowSource i) = .none ∧
    (s.flowEth i = true → s.localFault (s.flowSource i) = false) →
  s.flowCarries i pos.port = true ∧ (s.stamp pos.port).byteAt pos.back pos.off = some ts →
  s.nextLink (arcGroup (s.cn 0 i).portA) false = some l →
  Runs (.cellSend t l (.data i pos p)) s fun u =>
    Out.cell l (cellBytes { ver := s.alChosen l, type := 1, plane := decide (0x0101 ≤ s.alChosen l) && s.rbit (Reg.SYP_ARG_CFG_PLANE (arcGroup (s.cn 0 i).portA)), first := (s.flow 0 i).first != 0, src := s.devid, dst := (s.cn 0 i).peerA, flow := arcFlowId (s.cn 0 i).portA, seq := (s.flow 0 i).next, len := s.flowLen i, ts := ts } (p.take (s.flowLen i))) ∈ u.out ∧
    (u.flow 0 i).next = ((s.flow 0 i).next + 1) % 2 ^ 32 ∧ (u.flow 0 i).first = (s.flow 0 i).first - 1 ∧ (u.flow 0 i).state = 1 ∧
    u.cget (Ctr.SYP_CELLS_TX l) = (s.cget (Ctr.SYP_CELLS_TX l) + 1) % 2 ^ 48

/-- LINK_STATE_SEND (08 R244): byte 1 bit 0 reports whether the receive side is UP. -/
def linkStateSend : Prop :=
  ∀ (s : State) (t l : Nat),
  l < 160 ∧ s.alEnabled l = true ∧ s.alUp l = true →
  Runs (.linkStateSend t l) s fun u =>
    u.cget (Ctr.SYP_CELLS_TX l) = (s.cget (Ctr.SYP_CELLS_TX l) + 1) % 2 ^ 48 ∧
    (∃ q, Out.cell l (cellBytes { ver := s.alChosen l, type := 3, plane := decide (0x0101 ≤ s.alChosen l) && s.rbit (Reg.SYP_ARG_CFG_PLANE (l / 8)), src := s.devid, dst := s.rget (Reg.SYP_AL_PEER_PEER_DEVID l), seq := q, len := 2, ts := t } [1, 1]) ∈ u.out)

/-- NEGOTIATION_CELL_SEND of a choice that the peer has not acknowledged (08 R240, R241): VERSION 0x0100, the payload of Table ARC-4, and ACK
is sent. -/
def negotiationCellSend : Prop :=
  ∀ (s : State) (t l v : Nat),
  l < 160 ∧ s.alState l = 2 ∧ (s.alk l).choice = some v ∧ (s.alk l).peerAck = none →
  Runs (.negotiationCellSend t l) s fun u =>
    u.cget (Ctr.SYP_CELLS_TX l) = (s.cget (Ctr.SYP_CELLS_TX l) + 1) % 2 ^ 48 ∧ (u.alk l).acked = true ∧
    (∃ q, Out.cell l (cellBytes { ver := 0x0100, type := 4, src := s.devid, dst := (s.alk l).negDevid.getD 0, seq := q, len := 12, ts := t } (beBytes 2 s.devid ++ beBytes 1 l ++ beBytes 1 (b2n (s.rbit (Reg.SYP_ARG_CFG_PLANE (l / 8))) + 2) ++ beBytes 2 v ++ [1, 0] ++ beBytes 4 (s.alk l).adv)) ∈ u.out)

/-- TIME_CELL_SEND within 1 ms ± 10 µs of the last (08 R264, R265). -/
def timeCellSend : Prop :=
  ∀ (s : State) (t l p : Nat),
  l < 160 ∧ s.alUp l = true ∧ (s.timePeers l).contains p = true →
  (s.tp l p).txLog = [] ∨ (s.tp l p).txLast + us 990 ≤ t ∧ t ≤ (s.tp l p).txLast + us 1010 →
  Runs (.timeCellSend t l p) s fun u =>
    (u.tp l p).txSeq = ((s.tp l p).txSeq + 1) % 2 ^ 32 ∧ (u.tp l p).txLast = t ∧
    u.cget (Ctr.SYP_CELLS_TX l) = (s.cget (Ctr.SYP_CELLS_TX l) + 1) % 2 ^ 48 ∧
    Out.cell l (cellBytes { ver := s.alChosen l, type := 2, plane := decide (0x0101 ≤ s.alChosen l) && s.rbit (Reg.SYP_ARG_CFG_PLANE (l / 8)), src := s.devid, dst := p, seq := (s.tp l p).txSeq, len := 33, ts := t } (beBytes 12 (dts96 (s.tp l p).txLast) ++ beBytes 4 (((s.tp l p).txSeq + 2 ^ 32 - 1) % 2 ^ 32) ++ beBytes 12 (dts96 (s.tp l p).rxAt) ++ beBytes 4 (s.tp l p).rxSeq ++ beBytes 1 (if 0x0102 ≤ s.alChosen l then s.dp1State else 0))) ∈ u.out

/-- DRAIN_END 100 µs after the drain began (08 R246): DOWN with reason DRAINED. -/
def drainEnd : Prop :=
  ∀ (s : State) (t l a : Nat),
  l < 160 ∧ s.alUp l = true ∧ (s.alk l).drainAt = some a ∧ a + us 100 ≤ t →
  Runs (.drainEnd t l) s fun u =>
    u.alState l = 0 ∧ u.alChosen l = 0 ∧ (u.alk l).hold = t + us (500 * s.rget (Reg.SYP_AL_CFG_HOLDDOWN l)) ∧ u.rget (Reg.SYP_AL_STAT_REASON l) = 11 ∧ u.rbit (Reg.SYP_AL_LIVE_LINK_DOWN l) = false

/-- OFFSET_ESTIMATE (08 R267): Θ is the θ of the exchange with the least d, the last FREQ_N estimates stay, and the window is empty. -/
def offsetEstimate : Prop :=
  ∀ (s : State) (t l p t4 : Nat) (th : Q) (d : Int),
  l < 160 ∧ (s.tp l p).win ≤ (s.tp l p).ex.length ∧ leastD (s.tp l p).ex = some (t4, th, d) →
  Runs (.offsetEstimate t l p) s fun u =>
    (u.tp l p).theta = th ∧ (u.tp l p).rtt = d.toNat ∧ (u.tp l p).ex = [] ∧
    (u.tp l p).est = ((s.tp l p).est ++ [(t4, th)]).drop ((s.tp l p).est.length + 1 - (s.tp l p).freqN) ∧
    (u.tp l p).valid = ((s.tp l p).valid || decide (4 ≤ (u.tp l p).est.length))

/-- TIME_CELL_STALE after 8 ms (08 R269): Θ and ε stay. -/
def timeCellStale : Prop :=
  ∀ (s : State) (t l p : Nat),
  l < 160 ∧ s.alUp l = true ∧ (s.timePeers l).contains p = true ∧ (s.tp l p).stale = false →
  max (s.tp l p).rxAt (s.alk l).since + ms 8 ≤ t →
  Runs (.timeCellStale t l p) s fun u =>
    u.tp l p = { s.tp l p with stale := true } ∧
    u.rbit (Reg.SYP_AL_LIVE_TC_STALE l) = true

/-! ### UnderpassReadsWritesAndReservations -/

/-- UNDERPASS_READ of a burst without a symbol in error, and not the last of a ring's slot that fails its FCRC (09 R275, R296): the user of
the page's row gets the 64 bytes. -/
def underpassRead : Prop :=
  ∀ (s : State) (t page unit burst onDie : Nat) (use_ : UndUse),
  s.burstOk page unit burst = true ∧ (s.page page).unreadable unit = false →
  (match use_ with | .deskew d x n => !(s.slotBurst d x n 239 == some (page, unit) && burst == 3 && s.fcrcFails d x n) | _ => true) = true →
  Runs (.underpassRead t page unit burst ⟨0⟩ onDie use_) s fun u =>
    Out.underpass (((s.pageRsv page).map (·.1)).getD 3) (some (s.burst page unit burst)) ∈ u.out ∧
    u.cget Ctr.UND_ON_DIE_CORR = (s.cget Ctr.UND_ON_DIE_CORR + onDie) % 2 ^ 48 ∧
    (∀ a, u.wordN a = s.wordN a ∧ mget u.und.mem a = mget s.und.mem a)

/-- UNDERPASS_READ of a burst with 1 to 3 symbols in error, which the controller corrects (09 R275, R276): the right bytes, counted. -/
def underpassReadCorrected : Prop :=
  ∀ (s : State) (t page unit burst n onDie : Nat) (use_ : UndUse),
  s.burstOk page unit burst = true ∧ (s.page page).unreadable unit = false →
  1 ≤ n ∧ n ≤ 3 →
  (match use_ with | .deskew d x k => !(s.slotBurst d x k 239 == some (page, unit) && burst == 3 && s.fcrcFails d x k) | _ => true) = true →
  Runs (.underpassRead t page unit burst ⟨n⟩ onDie use_) s fun u =>
    Out.underpass (((s.pageRsv page).map (·.1)).getD 3) (some (s.burst page unit burst)) ∈ u.out ∧
    u.cget Ctr.UND_CORR = (s.cget Ctr.UND_CORR + 1) % 2 ^ 48 ∧ u.rbit Reg.UND_LIVE_ECC_CORR = true ∧
    (u.page page).ce = t :: lately (s.page page).ce t (sec 86400)

/-- UNDERPASS_READ of a burst with 4 or 5 symbols in error, or of a unit that is poisoned (09 R275, R279, R280): counted, recorded, and no data. -/
def underpassReadBad : Prop :=
  ∀ (s : State) (t page unit burst n onDie : Nat),
  s.burstOk page unit burst = true ∧ (s.page page).unwritten unit = false →
  (s.page page).poison.contains unit = true ∧ n ≤ 5 ∨ 4 ≤ n ∧ n ≤ 5 →
  Runs (.underpassRead t page unit burst ⟨n⟩ onDie .none) s fun u =>
    Out.underpass (((s.pageRsv page).map (·.1)).getD 3) none ∈ u.out ∧
    u.cget Ctr.UND_UNCORR = (s.cget Ctr.UND_UNCORR + 1) % 2 ^ 48 ∧ u.rbit Reg.UND_LIVE_ECC_UNCORR = true ∧
    u.wordN Reg.UND_UE_ADDR = page + unit * 2 ^ 16 ∧ u.dtsWords Reg.UND_UE_DTS0 = dts96 t % 2 ^ 96 ∧
    u.rget Reg.UND_UE_USE_ROW = ((s.pageRsv page).map (·.1)).getD 3 % 16 ∧ u.rbit Reg.UND_UE_USE_POISON = (s.page page).poison.contains unit ∧
    u.wordN Reg.UND_CFG = s.wordN Reg.UND_CFG

/-- UNDERPASS_READ of a unit lost with its pseudo-channel and not written since (09 R281): the outcome of Table UND-2 for its user, no data, and no
uncorrectable read is counted. -/
def underpassReadLost : Prop :=
  ∀ (s : State) (t page unit burst n onDie : Nat),
  s.burstOk page unit burst = true ∧ (s.page page).unwritten unit = true ∧ n ≤ 5 →
  Runs (.underpassRead t page unit burst ⟨n⟩ onDie .none) s fun u =>
    Out.underpass (((s.pageRsv page).map (·.1)).getD 3) none ∈ u.out ∧
    u.cget Ctr.UND_UNCORR = s.cget Ctr.UND_UNCORR ∧ u.evl.pend = s.evl.pend ∧ (∀ a, u.wordN a = s.wordN a)

/-- UNDERPASS_READ of a unit of a routine image or library that cannot be read (09 R279, Table UND-2; R289): it is loaded again and can be read; while row
5 is broken the reload waits. -/
def underpassReadImage : Prop :=
  ∀ (s : State) (t page unit burst n onDie k : Nat),
  s.burstOk page unit burst = true ∧ (s.page page).unreadable unit = true ∧ n ≤ 5 →
  s.pageRsv page = some (5, k) →
  Runs (.underpassRead t page unit burst ⟨n⟩ onDie .image) s fun u =>
    Out.underpass 5 none ∈ u.out ∧
    (u.page page).unreadable unit = s.rsvBroken 5 0 ∧
    (s.rsvBroken 5 0 = true → (page, unit) ∈ u.und.reloads)

/-- UNDERPASS_WRITE (09 R277, R281): the burst is read back, its unit is readable, and no other byte of the memory changes. -/
def underpassWrite : Prop :=
  ∀ (s : State) (t page unit burst : Nat) (b : List Byte),
  s.burstOk page unit burst = true ∧ b.length = 64 →
  Runs (.underpassWrite t page unit burst b) s fun u =>
    u.burst page unit burst = b ∧
    (u.page page).unreadable unit = false ∧
    (∀ a, a < burstAddr page unit burst ∨ burstAddr page unit burst + 64 ≤ a → mget u.und.mem a = mget s.und.mem a) ∧
    (∀ c, u.wordN c = s.wordN c ∧ u.cget c = s.cget c)

/-- PAGE_RETIRE of a page with RETIRE_CE corrected reads in 24 h while the pool is not empty (09 R273, R278): its region takes another page in its
place, its pages in ascending pseudo-channel order. -/
def pageRetire : Prop :=
  ∀ (s : State) (t page row k : Nat) (bad : List Nat),
  s.burstOk page 0 0 = true ∧ s.retireCe ≤ (lately (s.page page).ce t (sec 86400)).length ∧ s.freePages ≠ 0 →
  s.pageRsv page = some (row, k) →
  Runs (.pageRetire t page bad) s fun u =>
    u.und.retired = page :: s.und.retired ∧
    u.cget Ctr.UND_PAGE_RETIRE = (s.cget Ctr.UND_PAGE_RETIRE + 1) % 2 ^ 48 ∧ u.rbit Reg.UND_LIVE_PAGE_RETIRED = true ∧
    (∃ new, (u.rsv row k).pages = ((s.rsv row k).pages.map fun p => if p = page then new else p).foldr pcInsert [] ∧
      (u.evl.pend.any fun x => x.src == page && x.detail == new) = true ∧
      ((s.rsv row k).pages.Pairwise (fun a b => pcOf a ≤ pcOf b) → pcOf new = pcOf page →
        (u.rsv row k).pages = (s.rsv row k).pages.map fun p => if p = page then new else p))

/-- With the pool empty the page stays in use (09 R278). -/
def pageStays : Prop :=
  ∀ (s : State) (t page : Nat) (bad : List Nat),
  s.burstOk page 0 0 = true ∧ s.retireCe ≤ (lately (s.page page).ce t (sec 86400)).length ∧ s.freePages = 0 →
  Runs (.pageRetire t page bad) s fun u =>
    u.und.rsv = s.und.rsv ∧ u.und.retired = s.und.retired ∧ u.rbit Reg.UND_LIVE_NO_SPARE_PAGE = true

/-- PC_FAIL of a pseudo-channel whose stack keeps another (09 R281, R284): its bit is set, it is counted, one fewer works. -/
def pcFail : Prop :=
  ∀ (s : State) (t k j cause : Nat),
  k < 128 ∧ s.pcUp k = true ∧ cause ≠ 0 →
  j < 128 ∧ j / 32 = k / 32 ∧ j ≠ k ∧ s.pcUp j = true →
  s.rget (Reg.UND_STACK_PC_WORKING (k / 32)) ≠ 0 →
  Runs (.pcFail t k cause) s fun u =>
    u.pcUp k = false ∧ u.pcUp j = true ∧ u.rbit Reg.UND_LIVE_PC_FAIL = true ∧
    u.cget Ctr.UND_PC_FAILS = (s.cget Ctr.UND_PC_FAILS + 1) % 2 ^ 48 ∧
    u.rget (Reg.UND_STACK_PC_WORKING (k / 32)) + 1 = s.rget (Reg.UND_STACK_PC_WORKING (k / 32)) ∧
    u.rget Reg.UND_CEIL_CEIL_GBPS = 255 * u.pcW ∧ u.role = s.role

/-- PC_FAIL of the last pseudo-channel of a stack (09 R283): a device fault. -/
def pcFailLast : Prop :=
  ∀ (s : State) (t k cause : Nat),
  k < 128 ∧ s.pcUp k = true ∧ cause ≠ 0 →
  (∀ j < 128, j / 32 = k / 32 → j ≠ k → s.pcUp j = false) →
  Runs (.pcFail t k cause) s fun u =>
    u.role = 4 ∧ u.rbit (Reg.UND_STACK_FAILED (k / 32)) = true ∧
    u.cget Ctr.UND_PC_FAILS = (s.cget Ctr.UND_PC_FAILS + 1) % 2 ^ 48

/-- The ceiling is 0.85 × 0.3 Tb/s of each working pseudo-channel, in Mb/s (09 R284): 32.64 Tb/s of 128. -/
def ceilingRule : Prop :=
    ∀ (s : State), s.ceilMb = 255000 * ((List.range 128).filter s.pcUp).length

/-- SERVICE_WINDOW at a whole 1 µs (09 R286): the grants of a working pseudo-channel name requests that waited, each at most what it waited
for, in all at most what the window carries. -/
def serviceWindow : Prop :=
  ∀ (s : State) (t pc : Nat) (demand : List (Nat × Nat)),
  pc < 128 ∧ s.pcUp pc = true ∧ t % us 1 = 0 →
  Runs (.serviceWindow t pc demand) s fun u =>
    (∃ l, Out.service pc l ∈ u.out ∧ (l.map (·.2)).sum ≤ windowBits ∧ ∀ x ∈ l, ∃ want, (x.1, want) ∈ demand ∧ x.2 ≤ want)

/-- Where the entitlements fit the window, every request gets at least what it waits for up to its entitlement, in whatever order (09 R286). -/
def entitlementsComeFirst : Prop :=
    ∀ (most : Nat → Nat) (left : Nat) (l : List (Nat × Nat × Nat)), (l.map fun x => most x.1).sum ≤ left →
    ∀ x ∈ l, ∃ y ∈ (servePass most left l).2, y.1 = x.1 ∧ y.2.2 = x.2.2 + min x.2.1 (most x.1)

/-- A ring of n slots of 15,360 bytes takes the least whole number of pages (09 R293, R294). -/
def ringGeometry : Prop :=
    ∀ n : Nat, n * 15360 ≤ ringPages n * 2097152 ∧ ringPages n * 2097152 < n * 15360 + 2097152

/-- QGROUP_CFG within the ceiling and the pool (09 R285, R286; 17 Table HST-8): the group is in the row of its class with its bandwidth and
pages. -/
def qgroupCfg : Prop :=
  ∀ (s : State) (t : Nat) (d : Desc) (g cls mb pages : Nat),
  s.cmdReady t d = true →
  2 ≤ g ∧ g ≤ 255 ∧ cls ≤ 2 →
  s.que.qs.any (fun p => p.2.mode != 0 && p.2.group == g) = false →
  (if cls = 0 then 8 else if cls = 1 then 7 else 4) = s.spillRow g ∧ s.rsvBroken (s.spillRow g) g = false →
  qle (qadd (rsvSum s.und.rsv) (qsub (qint mb) (s.rsv (s.spillRow g) g).bw)) (qint s.ceilMb) = true →
  pages ≤ (s.rsv (s.spillRow g) g).pages.length →
  mb ≠ 0 →
  Runs (.qgroupCfg t d g cls mb pages) s fun u =>
    s.completes u (okCpl d 0x0601 t) ∧
    u.rget (Reg.QUE_GRP_CFG_CLASS g) = cls ∧
    (u.rsv (s.spillRow g) g).bw = qint mb ∧ (u.rsv (s.spillRow g) g).pages = (s.rsv (s.spillRow g) g).pages.take pages

/-- QGROUP_CFG that would leave the free pool below 256 pages (09 R274): E_CAPACITY naming PAGES. -/
def qgroupPool : Prop :=
  ∀ (s : State) (t : Nat) (d : Desc) (g cls mb pages : Nat),
  s.cmdReady t d = true →
  2 ≤ g ∧ g ≤ 255 ∧ cls ≤ 2 →
  s.que.qs.any (fun p => p.2.mode != 0 && p.2.group == g) = false →
  (if cls = 0 then 8 else if cls = 1 then 7 else 4) = s.spillRow g ∧ s.rsvBroken (s.spillRow g) g = false →
  qle (qadd (rsvSum s.und.rsv) (qsub (qint mb) (s.rsv (s.spillRow g) g).bw)) (qint s.ceilMb) = true →
  (s.rsv (s.spillRow g) g).pages.length < pages ∧ (s.rsv (s.spillRow g) g).pages.length + s.freePages < pages + 256 →
  Runs (.qgroupCfg t d g cls mb pages) s fun u =>
    s.completes u ⟨d.tag, 8, 0x0601, 0x18, t, 0⟩ ∧
    u.und.rsv = s.und.rsv

/-- QGROUP_CFG that would bring the reserved bandwidth above the ceiling (09 R285, R286): E_CAPACITY naming the bandwidth. -/
def qgroupCeiling : Prop :=
  ∀ (s : State) (t : Nat) (d : Desc) (g cls mb pages : Nat),
  s.cmdReady t d = true →
  2 ≤ g ∧ g ≤ 255 ∧ cls ≤ 2 →
  s.que.qs.any (fun p => p.2.mode != 0 && p.2.group == g) = false →
  (if cls = 0 then 8 else if cls = 1 then 7 else 4) = s.spillRow g ∧ s.rsvBroken (s.spillRow g) g = false →
  qle (qadd (rsvSum s.und.rsv) (qsub (qint mb) (s.rsv (s.spillRow g) g).bw)) (qint s.ceilMb) = false →
  Runs (.qgroupCfg t d g cls mb pages) s fun u =>
    s.completes u ⟨d.tag, 8, 0x0601, 0x14, t, 0⟩ ∧
    u.und.rsv = s.und.rsv

/-! ### LinearProtectionTimersAndCommands -/

/-- PROT_CMD of a code from 1 to 5 on the protection path of a Class B group, not outranked (10 R316, Table PRT-3): the code is written for the next
release; LO sets FAST_INHIBIT of the protection path, FS that of the working path, and the others leave both. -/
def protLockout : Prop :=
  ∀ (s : State) (t p w c code : Nat) (d : Desc),
  s.cmdReady t d = true ∧ s.privileged t = true →
  p < 20480 ∧ s.apsCtx p = some c ∧ s.mateOf 1 0 p = some w ∧ w ≠ p →
  1 ≤ code ∧ code ≤ 5 ∧ s.trailByte (s.cx c).entry0 0xF0 / 16 ≤ cmdRank code ∧ cmdRank (s.trailByte (s.cx c).entry0 0x36) ≤ cmdRank code →
  Runs (.protCmd t d p code) s fun u =>
    s.completes u (okCpl d 0x0400 t) ∧
    u.trailByte (s.cx c).entry0 0x36 = code ∧
    (u.cn 0 p).inhibit = (decide (code = 1) || (s.cn 0 p).inhibit) ∧ (u.cn 0 w).inhibit = (decide (code = 2) || (s.cn 0 w).inhibit)

/-- PROT_CMD CLEAR (10 R316): both FAST_INHIBIT bits are clear, and a WTR timer ends. -/
def protClear : Prop :=
  ∀ (s : State) (t p w c : Nat) (d : Desc),
  s.cmdReady t d = true ∧ s.privileged t = true →
  p < 20480 ∧ s.apsCtx p = some c ∧ s.mateOf 1 0 p = some w →
  Runs (.protCmd t d p 0) s fun u =>
    s.completes u (okCpl d 0x0400 t) ∧
    u.trailByte (s.cx c).entry0 0x36 = 0 ∧ (u.cn 0 p).inhibit = false ∧ (u.cn 0 w).inhibit = false ∧
    (bits (s.trailByte (s.cx c).entry0 0xF2) 3 2 = 2 → bits (u.trailByte (s.cx c).entry0 0xF2) 3 2 = 0 ∧ u.trailGet (s.cx c).entry0 0xF4 4 = 0)

/-- PROT_CMD below the rank in force: E_STATE, and nothing changes (10 R316). -/
def protOutranked : Prop :=
  ∀ (s : State) (t p w c code : Nat) (d : Desc),
  s.cmdReady t d = true ∧ s.privileged t = true →
  p < 20480 ∧ s.apsCtx p = some c ∧ s.mateOf 1 0 p = some w →
  1 ≤ code ∧ code ≤ 5 ∧ cmdRank code < s.trailByte (s.cx c).entry0 0xF0 / 16 →
  Runs (.protCmd t d p code) s fun u =>
    s.completes u ⟨d.tag, 9, 0x0400, 0x12, t, 0⟩ ∧
    u.trailByte (s.cx c).entry0 0x36 = s.trailByte (s.cx c).entry0 0x36 ∧ u.plz = s.plz

/-- PROT_CMD of a code above 5: E_RANGE at the code (10 R316). -/
def protCode : Prop :=
  ∀ (s : State) (t p code : Nat) (d : Desc),
  s.cmdReady t d = true ∧ s.privileged t = true →
  p < 20480 ∧ 5 < code →
  Runs (.protCmd t d p code) s fun u =>
    s.completes u ⟨d.tag, 2, 0x0400, 0x12, t, 0⟩

/-- PROT_CMD for an instance without a context of APS_LIN or without a Class B partner: E_STATE (10 R307, R316). -/
def protNoGroup : Prop :=
  ∀ (s : State) (t p code : Nat) (d : Desc),
  s.cmdReady t d = true ∧ s.privileged t = true →
  p < 20480 ∧ code ≤ 5 →
  s.apsCtx p = none ∨ s.mateOf 1 0 p = none →
  Runs (.protCmd t d p code) s fun u =>
    s.completes u ⟨d.tag, 9, 0x0400, 0x10, t, 0⟩ ∧ u.plz = s.plz ∧ u.jrm = s.jrm

/-- PAIR_RETIME to a path with a usable frame in the last 16 Tf (10 R331): the timing waits for its next frame start. -/
def pairRetime : Prop :=
  ∀ (s : State) (t dir x anchor : Nat) (d : Desc),
  s.cmdReady t d = true ∧ s.privileged t = true →
  dir ≤ 1 ∧ x < 20480 ∧ anchor ≤ 1 ∧ s.isPair dir x = true →
  ((s.pr dir x).path (anchor == 1)).usable ≠ 0 ∧ t ≤ ((s.pr dir x).path (anchor == 1)).usable + 16 * s.tf x →
  Runs (.pairRetime t d dir x anchor) s fun u =>
    s.completes u (okCpl d 0x0401 t) ∧
    u.pr dir x = { s.pr dir x with retime := some (anchor == 1) }

/-- PAIR_RETIME of instances that are no Class A pair: E_STATE (10 R331). -/
def pairRetimeRefused : Prop :=
  ∀ (s : State) (t dir x anchor : Nat) (d : Desc),
  s.cmdReady t d = true ∧ s.privileged t = true →
  dir ≤ 1 ∧ x < 20480 ∧ anchor ≤ 1 ∧ s.isPair dir x = false →
  Runs (.pairRetime t d dir x anchor) s fun u =>
    s.completes u ⟨d.tag, 9, 0x0401, 0x12, t, 0⟩ ∧
    u.pair = s.pair

/-- HOLDOFF_EXPIRY with a signal fail or degrade still present that is not outranked by the far end (10 R314, R308, Table PRT-4). -/
def holdoffExpiry : Prop :=
  ∀ (s : State) (t c r : Nat) (sel : Bool),
  s.apsTimerDone t c 1 = true →
  s.apsLocal t (s.cx c) = (r, some sel) ∧ 6 ≤ r ∧ (bit ((s.cx c).apsByte 64) 0 = false ∨ s.trailByte (s.cx c).entry0 0xF1 % 16 ≤ r) →
  Runs (.holdoffExpiry t c) s fun u =>
    u.trailByte (s.cx c).entry0 0xF0 / 16 = r ∧ bit (u.trailByte (s.cx c).entry0 0xF0) 0 = sel ∧
    bits (u.trailByte (s.cx c).entry0 0xF2) 3 2 = 0 ∧ u.trailGet (s.cx c).entry0 0xF4 4 = 0

/-- HOLDOFF_EXPIRY with no request present, or with one that the far end's outranks in a bidirectional group: the timer ends and nothing
else (10 R314). -/
def holdoffDiscarded : Prop :=
  ∀ (s : State) (t c r : Nat) (sel : Option Bool),
  s.apsTimerDone t c 1 = true →
  s.apsLocal t (s.cx c) = (r, sel) ∧ (r < 6 ∨ bit ((s.cx c).apsByte 64) 0 = true ∧ r < s.trailByte (s.cx c).entry0 0xF1 % 16) →
  Runs (.holdoffExpiry t c) s fun u =>
    u.trailByte (s.cx c).entry0 0xF0 = s.trailByte (s.cx c).entry0 0xF0 ∧ u.plz = s.plz ∧
    bits (u.trailByte (s.cx c).entry0 0xF2) 3 2 = 0

/-- WTR_EXPIRY (10 R315): NR, and the selection on W. -/
def wtrExpiry : Prop :=
  ∀ (s : State) (t c : Nat),
  s.apsTimerDone t c 2 = true →
  Runs (.wtrExpiry t c) s fun u =>
    u.trailByte (s.cx c).entry0 0xF0 = 0 ∧ bits (u.trailByte (s.cx c).entry0 0xF2) 3 2 = 0

/-- FOP_NR_DECLARE in a group that is not 1+1 unidirectional, 50 ms after the accepted bridged signal began to differ from the signal requested
(10 R305); since when it differs is what the group's last run left. -/
def fopNrDeclare : Prop :=
  ∀ (s : State) (t c since p w : Nat),
  s.apsGroup c = some (p, w) ∧ (s.cx c).apsByte 64 % 4 ≠ 0 →
  mread (s.cx c).scr apsFop 8 = (sdtsn since).toNat + 1 →
  bit (s.trailByte (s.cx c).entry0 0xF1) 5 = false ∧ since + ms 50 ≤ t →
  Runs (.fopNrDeclare t c since) s fun u =>
    bit (u.trailByte (s.cx c).entry0 0xF1) 5 = true ∧
    (u.evl.pend.any fun x => x.code == 0x5803 && x.sev == 2 && x.src == p && x.detail == w % 2 ^ 48) = true

/-! ### TheHitlessSelectorLosesNoFrame -/

/-- SELECTOR_FRAME_ARRIVAL in IDLE of a usable frame (10 R319 to R321): SEARCH with the output timing on its path. -/
def firstUsableFrame : Prop :=
  ∀ (s : State) (t d x : Nat) (p : Bool) (f : PairFrame),
  s.isPair d x = true ∧ s.tf x ≠ 0 ∧ (s.pr d x).state = 0 →
  f.hwSf = false ∧ (d = 0 → s.hwSf (s.pathInst d x p) = false) ∧ frameStat f.bytes < 5 →
  Runs (.selectorFrameArrival t d x p f) s fun u =>
    (u.pr d x).state = 1 ∧ (u.pr d x).anchor = p ∧ (u.pr d x).sel = p ∧ (u.pr d x).chg = t ∧
    (u.pr d x).lastO + s.tf x = t + 4 * s.tf x ∧ (u.pr d x).aConst = ((t + 4 * s.tf x : Nat) : Int) - f.fdts ∧
    ((u.pr d x).path p).aligned = true ∧ ((u.pr d x).path (!p)).aligned = false ∧ (u.pr d x).gap = (s.pr d x).gap ∧ (u.pr d x).skipped = (s.pr d x).skipped

/-- SELECTOR_FRAME_ARRIVAL in SEARCH with one candidate (10 R323): a hit at the same difference within half a frame, else the first of a new
count. -/
def searchHit : Prop :=
  ∀ (s : State) (t d x : Nat) (p : Bool) (f : PairFrame) (c : SelFrame),
  s.isPair d x = true ∧ s.tf x ≠ 0 ∧ (s.pr d x).state = 1 ∧ (s.pr d x).retime = none ∧ (s.pr d x).noReach < 3 →
  f.hwSf = false ∧ (d = 0 → s.hwSf (s.pathInst d x p) = false) ∧ f.errored = false →
  (((s.pr d x).path (!p)).frames.filter fun g => decide (g.arr ≤ t ∧ t ≤ g.arr + s.ddMax d x) && g.mfas == frameMfas f.bytes && g.omfi == (if s.hasOmfi x then frameOmfi f.bytes else 0) && g.sig == opuSig f.bytes) = [c] →
  Runs (.selectorFrameArrival t d x p f) s fun u =>
    (u.pr d x).dlast = (if p then (t : Int) - c.arr else (c.arr : Int) - t) ∧
    (u.pr d x).hits = (if (s.pr d x).hits ≠ 0 ∧ ((u.pr d x).dlast - (s.pr d x).dlast).natAbs ≤ s.tf x / 2 then (s.pr d x).hits + 1 else 1) ∧
    (u.pr d x).state = 1 ∧ ((u.pr d x).path p).frames.length = ((s.pr d x).path p).frames.length + 1

/-- With no candidate, or more than one, the count stays (10 R323). -/
def identicalFrames : Prop :=
  ∀ (s : State) (t d x : Nat) (p : Bool) (f : PairFrame),
  s.isPair d x = true ∧ s.tf x ≠ 0 ∧ (s.pr d x).state = 1 ∧ (s.pr d x).retime = none ∧ (s.pr d x).noReach < 3 →
  (((s.pr d x).path (!p)).frames.filter fun g => decide (g.arr ≤ t ∧ t ≤ g.arr + s.ddMax d x) && g.mfas == frameMfas f.bytes && g.omfi == (if s.hasOmfi x then frameOmfi f.bytes else 0) && g.sig == opuSig f.bytes).length ≠ 1 →
  Runs (.selectorFrameArrival t d x p f) s fun u =>
    (u.pr d x).hits = (s.pr d x).hits ∧ (u.pr d x).state = 1

/-- SELECTOR_FRAME_ARRIVAL in LOCKED or BEYOND (10 R325): the partner on the other path gives the new difference, and the two frames have found
each other; a frame with none leaves it. -/
def trackedFrame : Prop :=
  ∀ (s : State) (t d x : Nat) (p : Bool) (f : PairFrame) (g : SelFrame),
  s.isPair d x = true ∧ s.tf x ≠ 0 ∧ 2 ≤ (s.pr d x).state ∧ (s.pr d x).retime = none ∧ (s.pr d x).noReach < 3 →
  g.arr = t ∧ g.mfas = frameMfas f.bytes →
  Runs (.selectorFrameArrival t d x p f) s fun u =>
    (u.pr d x).delta = (match (s.pr d x).mate p g (s.tf x) with
      | some c => some (if p then (t : Int) - c.arr else (c.arr : Int) - t)
      | none => (s.pr d x).delta) ∧
    (∀ c, (s.pr d x).mate p g (s.tf x) = some c → ∀ y ∈ ((u.pr d x).path (!p)).frames, y.arr = c.arr → y.mated = true) ∧
    (((s.pr d x).mate p g (s.tf x)).isSome = true → (((u.pr d x).path p).frames.any fun y => y.arr == t && y.mated) = true) ∧
    (u.pr d x).state = (s.pr d x).state ∧ ((u.pr d x).path p).frames.length = ((s.pr d x).path p).frames.length + 1

/-- DESCRIPTOR_COMPLETE two frames after the arrival of the oldest frame that waits for its verdict (10 R318). -/
def descriptorComplete : Prop :=
  ∀ (s : State) (t d x : Nat) (p : Bool) (f : SelFrame) (r : List SelFrame),
  s.isPair d x = true ∧ ((s.pr d x).path p).frames = f :: r ∧ f.done = false ∧ f.arr + 2 * s.tf x ≤ t →
  Runs (.descriptorComplete t d x p) s fun u =>
    ((u.pr d x).path p).frames = { f with done := true } :: r ∧ (u.pr d x).path (!p) = (s.pr d x).path (!p) ∧
    (∀ c, u.wordN c = s.wordN c ∧ u.cget c = s.cget c)

/-- PAIR_LOCK after 8 hits (10 R323, R324): LOCKED with Δ of the last hit; the path that arrives earlier is the ring path, and the anchor
stays. -/
def pairLock : Prop :=
  ∀ (s : State) (t d x : Nat),
  s.isPair d x = true ∧ (s.pr d x).state = 1 ∧ 8 ≤ (s.pr d x).hits →
  Runs (.pairLock t d x) s fun u =>
    (u.pr d x).state = 2 ∧ (u.pr d x).delta = some (s.pr d x).dlast ∧ (u.pr d x).anchor = (s.pr d x).anchor ∧ (u.pr d x).chg = t ∧
    (u.pr d x).relocks = min 0xFFFF ((s.pr d x).relocks + 1) ∧ (u.pr d x).x.aligned = true ∧ (u.pr d x).y.aligned = true ∧
    (0 < (s.pr d x).dlast → (u.pr d x).ring = false) ∧ ((s.pr d x).dlast < 0 → (u.pr d x).ring = true)

/-- PAIR_LOSE_ALIGNMENT (10 R325): SEARCH for the path that is not selected. -/
def pairLoseAlignment : Prop :=
  ∀ (s : State) (t d x : Nat),
  s.isPair d x = true ∧ (s.pr d x).state = 2 →
  (s.pr d x).alone t false (s.tf x) = true ∨ (s.pr d x).alone t true (s.tf x) = true →
  Runs (.pairLoseAlignment t d x) s fun u =>
    (u.pr d x).state = 1 ∧ ((u.pr d x).path (!(s.pr d x).sel)).aligned = false ∧ (u.pr d x).path (s.pr d x).sel = (s.pr d x).path (s.pr d x).sel ∧
    (u.pr d x).hits = 0 ∧ (u.pr d x).sel = (s.pr d x).sel

/-- PAIR_BEYOND after three frames out of reach (10 R328, Table PRT-7). -/
def pairBeyond : Prop :=
  ∀ (s : State) (t d x : Nat) (p : Bool),
  s.isPair d x = true ∧ (s.pr d x).state = 2 ∧ 3 ≤ ((s.pr d x).path p).out →
  Runs (.pairBeyond t d x p) s fun u =>
    (u.pr d x).state = 3 ∧ (u.pr d x).beyond = p ∧ (u.pr d x).chg = t ∧
    (∀ o, u.grade d x (u.pr d x) p o (s.tf x) = 0)

/-- PAIR_RETURN_LOCKED after 1 s in reach (10 R328). -/
def pairReturnLocked : Prop :=
  ∀ (s : State) (t d x a : Nat),
  s.isPair d x = true ∧ (s.pr d x).state = 3 ∧ ((s.pr d x).path (s.pr d x).beyond).inSince = some a ∧ a + sec 1 ≤ t →
  Runs (.pairReturnLocked t d x) s fun u =>
    u.pr d x = { s.pr d x with state := 2, chg := t }

/-- PAIR_IDLE after 1 ms without a usable frame (10 Table PRT-7): no output timing is held. -/
def pairIdle : Prop :=
  ∀ (s : State) (t d x : Nat),
  s.isPair d x = true ∧ (s.pr d x).state ≠ 0 ∧ max (s.pr d x).x.usable (s.pr d x).y.usable + ms 1 ≤ t →
  Runs (.pairIdle t d x) s fun u =>
    (u.pr d x).state = 0 ∧ (u.pr d x).chg = t ∧ (u.pr d x).delta = none ∧ (u.pr d x).aisOut = true ∧
    (u.pr d x).x.aligned = false ∧ (u.pr d x).y.aligned = false

/-- SELECTOR_OUTPUT at O(k) (10 R320, R327): the frame of higher grade leaves with O(k) − A as its ingress DTS, the same path on equal grades;
ODU-AIS when both grade 0. -/
def selectorOutput : Prop :=
  ∀ (s : State) (t d x : Nat),
  s.isPair d x = true ∧ (s.pr d x).state ≠ 0 ∧ s.tf x ≠ 0 ∧ t = (s.pr d x).nextO (s.tf x) →
  Runs (.selectorOutput t d x) s fun u =>
    (u.pr d x).lastO = t ∧
    (s.grade d x (s.pr d x) true t (s.tf x) < s.grade d x (s.pr d x) false t (s.tf x) → (u.pr d x).sel = false) ∧
    (s.grade d x (s.pr d x) false t (s.tf x) < s.grade d x (s.pr d x) true t (s.tf x) → (u.pr d x).sel = true) ∧
    (s.grade d x (s.pr d x) false t (s.tf x) = s.grade d x (s.pr d x) true t (s.tf x) → (u.pr d x).sel = (s.pr d x).sel) ∧
    ((u.pr d x).aisOut = true ↔ s.grade d x (s.pr d x) false t (s.tf x) = 0 ∧ s.grade d x (s.pr d x) true t (s.tf x) = 0) ∧
    (u.pr d x).ais = (if (u.pr d x).aisOut then ((s.pr d x).ais + 1) % 2 ^ 32 else (s.pr d x).ais) ∧
    (u.pr d x).switches = (if (u.pr d x).sel ≠ (s.pr d x).sel then ((s.pr d x).switches + 1) % 2 ^ 32 else (s.pr d x).switches) ∧
    (∃ mfas bytes, Out.selected d x (if d = 0 then (s.cn 0 x).out else 0) (if (u.pr d x).aisOut then none else some (u.pr d x).sel) mfas
      ((t : Int) - (s.pr d x).aConst).toNat bytes ∈ u.out)

/-! ### ReferencesAreMonitoredAndQualified -/

/-- ACTIVITY_WINDOW with no edge or too many (11 R338, R355): a bad window; every DPLL that follows the reference bridges. -/
def activityBad : Prop :=
  ∀ (s : State) (t r edges : Nat),
  s.refEn r = true ∧ s.refHz r ≠ 0 →
  edges = 0 ∨ maxEdges (s.refHz r) < edges →
  Runs (.activityWindow t r edges) s fun u =>
    u.ref r = { s.ref r with bad := (s.ref r).bad + 1, good := 0, acc := t } ∧
    (∀ i < 8, s.selRef i = r → u.rbit (Reg.TIM_DP_STAT_BRIDGE i) = true) ∧
    (∀ i < 8, u.dpState i = s.dpState i ∧ u.selRef i = s.selRef i)

/-- ACTIVITY_WINDOW with edges within bounds (11 R338, R340, R355): a good window; with no bad gate, the DPLLs follow the reference again. -/
def activityGood : Prop :=
  ∀ (s : State) (t r edges : Nat),
  s.refEn r = true ∧ s.refHz r ≠ 0 →
  edges ≠ 0 ∧ edges ≤ maxEdges (s.refHz r) →
  Runs (.activityWindow t r edges) s fun u =>
    u.ref r = { s.ref r with bad := 0, good := (s.ref r).good + 1 } ∧
    ((s.ref r).rej = 0 → ∀ i < 8, s.selRef i = r → u.rbit (Reg.TIM_DP_STAT_BRIDGE i) = false)

/-- FREQUENCY_GATE (11 R339, R340): the count of gates outside REJECT, the start of the accept dwell, the one-second mean. -/
def frequencyGate : Prop :=
  ∀ (s : State) (t r : Nat) (ofs : Int),
  s.refEn r = true ∧ s.ocxoLost = false →
  Runs (.frequencyGate t r ofs) s fun u =>
    u.ref r = { s.ref r with rej := if s.reject < ofs.natAbs then (s.ref r).rej + 1 else 0, acc := if s.accept < ofs.natAbs then t else (s.ref r).acc, sum := (s.ref r).sum + ofs, n := (s.ref r).n + 1 } ∧
    (s.reject < ofs.natAbs → ∀ i < 8, s.selRef i = r → u.rbit (Reg.TIM_DP_STAT_BRIDGE i) = true)

/-- The monitors freeze while OCXO_LOST holds (11 R337). -/
def frequencyFrozen : Prop :=
  ∀ (s : State) (t r : Nat) (ofs : Int),
  s.ocxoLost = true →
  Runs (.frequencyGate t r ofs) s fun u =>
    u.tim = s.tim ∧
    (∀ a, u.wordN a = s.wordN a)

/-- The accept threshold in force is at least 0.5 ppm below the reject threshold (11 R342). -/
def acceptBelowReject : Prop :=
    ∀ (s : State), 5 ≤ s.rget Reg.TIM_MON_CFG_REJECT_DPPM → s.accept + 500000 ≤ s.reject

/-- REFERENCE_DISQUALIFY after 4 bad windows in a row (11 R338): DISQUALIFIED with cause 1, counted, and no DPLL under automatic or manual
selection has it. -/
def disqualifyActivity : Prop :=
  ∀ (s : State) (t r : Nat),
  s.refEn r = true ∧ 4 ≤ (s.ref r).bad ∧ s.qstate r ≠ 0 ∧ s.hostMode = false →
  Runs (.referenceDisqualify t r) s fun u =>
    u.qstate r = 0 ∧ u.rget (Reg.TIM_REF_STAT_CAUSE r) = 1 ∧ u.rbit (Reg.TIM_REF_STAT_DISQ_SEEN r) = true ∧
    u.cget Ctr.TIM_DISQUALIFICATIONS = (s.cget Ctr.TIM_DISQUALIFICATIONS + 1) % 2 ^ 48 ∧ u.rbit Reg.TIM_LIVE_REF_CHG = true ∧
    (∀ i < 8, u.selRef i ≠ r)

/-- REFERENCE_DISQUALIFY after every gate of the reject dwell lay outside (11 R339): cause 2. -/
def disqualifyFrequency : Prop :=
  ∀ (s : State) (t r : Nat),
  s.refEn r = true ∧ (s.ref r).bad < 4 ∧ s.rejGates r ≤ (s.ref r).rej ∧ s.ocxoLost = false ∧ s.qstate r ≠ 0 →
  Runs (.referenceDisqualify t r) s fun u =>
    u.qstate r = 0 ∧ u.rget (Reg.TIM_REF_STAT_CAUSE r) = 2 ∧
    (u.ref r).good = 0

/-- REFERENCE_QUALIFYING after 4 good windows in a row (11 R340): QUALIFYING, and the accept dwell starts. -/
def referenceQualifying : Prop :=
  ∀ (s : State) (t r : Nat),
  s.refEn r = true ∧ s.qstate r = 0 ∧ 4 ≤ (s.ref r).good →
  Runs (.referenceQualifying t r) s fun u =>
    u.qstate r = 1 ∧ (u.ref r).acc = t ∧
    (∀ i < 8, u.selRef i = s.selRef i)

/-- REFERENCE_QUALIFIED when the accept dwell has run (11 R340). -/
def referenceQualified : Prop :=
  ∀ (s : State) (t r : Nat),
  s.refEn r = true ∧ s.qstate r = 1 ∧ (s.ref r).acc + sec (s.rget Reg.TIM_MON_CFG_ACC_DWELL_S) ≤ t ∧ s.ocxoLost = false →
  Runs (.referenceQualified t r) s fun u =>
    u.qstate r = 2 ∧ u.rbit Reg.TIM_LIVE_REF_CHG = true

/-- A free-running DPLL in automatic mode whose only enabled candidate is the reference just qualified takes it and enters ACQUIRE (11 R343,
R344, Table TIM-4). -/
def dpllTakesReference : Prop :=
  ∀ (s : State) (t r d k rank : Nat),
  s.refEn r = true ∧ s.qstate r = 1 ∧ (s.ref r).acc + sec (s.rget Reg.TIM_MON_CFG_ACC_DWELL_S) ≤ t ∧ s.ocxoLost = false →
  d < 8 ∧ d ≠ 1 ∧ s.manual d = false ∧ s.cands d = [⟨k, r, rank⟩] ∧ (s.dp d).soft.contains r = false →
  s.dpState d = 0 ∧ s.selRef d = 0x1FF ∧ k < 16 →
  Runs (.referenceQualified t r) s fun u =>
    u.dpState d = 1 ∧ u.selRef d = r ∧ u.rget (Reg.TIM_DP_STAT_SEL_CAND d) = k

/-- DRIFT_EVALUATION (11 R347 to R349): the one-second offset of each monitored reference, in units of 10^-9 in TIM_REF_OFS, with SOFT and
DRIFT. -/
def driftEvaluation : Prop :=
  ∀ (s : State) (t r : Nat),
  t % sec 1 = 0 ∧ s.ocxoLost = false ∧ (s.tim.refs.map (·.1)).Nodup →
  r ∈ s.tim.refs.map (·.1) ∧ s.refEn r = true ∧ (s.ref r).n ≠ 0 →
  Runs (.driftEvaluation t) s fun u =>
    (u.ref r).ofs = some ((s.ref r).sum / ((s.ref r).n : Int)) ∧ (u.ref r).n = 0 ∧ (u.ref r).sum = 0 ∧
    u.wordN (Reg.TIM_REF_OFS r) = toField ((s.ref r).sum / ((s.ref r).n : Int) / 1000) 32 ∧
    u.rbit (Reg.TIM_REF_STAT_SOFT r) = decide (s.softReject ≤ ((s.ref r).sum / ((s.ref r).n : Int)).natAbs) ∧
    (s.qstate r = 2 ∧ s.drifts { s.ref r with hist := ((s.ref r).sum / ((s.ref r).n : Int) :: (s.ref r).hist).take 60 } = true → u.rbit (Reg.TIM_REF_STAT_DRIFT r) = true ∧ u.rbit (Reg.TIM_REF_STAT_DRIFT_SEEN r) = true)

/-- TIM_LREF_MAP_WRITE of entry j (11 R334, R609): the lane, 159 where the value is above it; LREF128 + j is DISQUALIFIED and starts afresh. -/
def lrefMap : Prop :=
  ∀ (s : State) (t j v : Nat) (a : Access),
  s.accessFault a = none ∧ a.off = Reg.TIM_LREF_MAP j ∧ j < 128 →
  Runs (.timLrefMapWrite t a v) s fun u =>
    u.rget (Reg.TIM_LREF_MAP_LANE j) = min 159 (v % 256) ∧ u.qstate (144 + j) = 0 ∧ u.ref (144 + j) = {}

/-- OCXO_LOST (11 R337): its LIVE level rises, and it is a device fault. -/
def ocxoLost : Prop :=
  ∀ (s : State) (t : Nat),
  Runs (.ocxoLost t) s fun u =>
    u.rbit Reg.TIM_LIVE_OCXO_LOST = true ∧ u.role = 4

/-! ### DpllsAcquireLockAndLosePhase -/

/-- DPLL_NARROW (11 R352). -/
def dpllNarrow : Prop :=
  ∀ (s : State) (t d : Nat) (ph : Int),
  d < 8 ∧ s.dpState d = 1 ∧ s.dwelt t d ph = true →
  Runs (.dpllNarrow t d ph) s fun u =>
    u.dpState d = 2 ∧ u.wordN (Reg.TIM_DP_PHASE d) = toField ph 32 ∧
    (∀ i < 8, i ≠ d → u.dpState i = s.dpState i) ∧
    u.rbit ⟨Reg.TIM_LIVE, d, 1⟩ = true ∧ u.rbit ⟨Reg.TIM_LIVE, 8 + d, 1⟩ = false

/-- DPLL_LOCK (11 R352): the NOT_LOCKED level of the DPLL falls. -/
def dpllLock : Prop :=
  ∀ (s : State) (t d : Nat) (ph : Int),
  d < 8 ∧ s.dpState d = 2 ∧ s.dwelt t d ph = true →
  Runs (.dpllLock t d ph) s fun u =>
    u.dpState d = 3 ∧ u.wordN (Reg.TIM_DP_PHASE d) = toField ph 32 ∧
    u.rbit ⟨Reg.TIM_LIVE, d, 1⟩ = false ∧ u.rbit ⟨Reg.TIM_LIVE, 8 + d, 1⟩ = false

/-- A DPLL steps only when NARROW_DWELL seconds have passed in its state with the phase error below NARROW_THR nanoseconds (11 R352). -/
def dwellNeeded : Prop :=
    ∀ (s : State) (t d : Nat) (ph : Int), s.dwelt t d ph = true →
    (s.dp d).since + sec (s.rget (Reg.TIM_DP_NARROW_NARROW_DWELL d)) ≤ t ∧ ph.natAbs < 1000 * s.rget (Reg.TIM_DP_NARROW_NARROW_THR d)

/-- DPLL_PHASE_LOST (11 R353): in NARROW or LOCKED, once every sample of 100 ms lay above ten times the threshold, the state returns to
ACQUIRE with phase build-out. (DESIGN CHOICE, log entry 81) -/
def dpllPhaseLost : Prop :=
  ∀ (s : State) (t d a : Nat) (ph : Int),
  d < 8 ∧ (s.dpState d = 2 ∨ s.dpState d = 3) →
  10 * s.narrowThr d < ph.natAbs ∧ (s.dp d).above = some a ∧ a + ms 100 ≤ t ∧ ¬ (d = 1 ∧ s.hostMode = true) →
  Runs (.dpllPhaseLost t d ph) s fun u =>
    u.dpState d = 1 ∧ u.wordN (Reg.TIM_DP_PHASE d) = 0 ∧ u.rbit ⟨Reg.TIM_LIVE, d, 1⟩ = true

/-- A first sample above ten times the threshold begins the 100 ms of 11 R353, one at or below it ends them, and the state stays. -/
def dpllPhaseNear : Prop :=
  ∀ (s : State) (t d : Nat) (ph : Int),
  d < 8 ∧ (s.dpState d = 2 ∨ s.dpState d = 3) ∧ ¬ (d = 1 ∧ s.hostMode = true) →
  ((s.dp d).above = none ∨ ph.natAbs ≤ 10 * s.narrowThr d) →
  Runs (.dpllPhaseLost t d ph) s fun u =>
    (u.dp d).above = (if 10 * s.narrowThr d < ph.natAbs then some t else none) ∧ u.dpState d = s.dpState d ∧
    u.wordN (Reg.TIM_DP_PHASE d) = toField ph 32

/-- TIM_DP1_ADJ_FREQ_WRITE in host mode (11 R363, R354): DP1 is LOCKED at the offset written, limited to REJECT, in units of 10^-11, and
while OCXO_LOST holds the offset stays (R337). -/
def hostSteers : Prop :=
  ∀ (s : State) (t : Nat) (w : HostStore),
  s.stores4 w Reg.TIM_DP1_ADJ_FREQ = true →
  s.hostMode = true ∧ w.v < 2 ^ 32 →
  Runs (.timDp1AdjFreqWrite t w) s fun u =>
    u.wordN Reg.TIM_DP1_ADJ_FREQ = w.v ∧ u.dpState 1 = 3 ∧ u.tim.steer = t ∧
    (s.ocxoLost = false → u.wordN (Reg.TIM_DP_FREQ 1) = toField ((max (-(s.reject : Int)) (min (s.reject : Int) (sext w.v 32 * 1000000000000 / (2 ^ 40 : Int)))) / 10) 32) ∧
    (s.ocxoLost = true → u.wordN (Reg.TIM_DP_FREQ 1) = s.wordN (Reg.TIM_DP_FREQ 1))

/-- Outside host mode the write is only kept, with its time (11 R363). -/
def hostSteersNot : Prop :=
  ∀ (s : State) (t : Nat) (w : HostStore),
  s.stores4 w Reg.TIM_DP1_ADJ_FREQ = true →
  s.hostMode = false →
  Runs (.timDp1AdjFreqWrite t w) s fun u =>
    u.wordN Reg.TIM_DP1_ADJ_FREQ = w.v % 2 ^ 32 ∧ u.tim = { s.tim with steer := some t } ∧
    (∀ a, a ≠ Reg.TIM_DP1_ADJ_FREQ → u.wordN a = s.wordN a)

/-- DP1_HOST_HOLDOVER after 4 s without a steering write (11 R363). -/
def hostHoldover : Prop :=
  ∀ (s : State) (t : Nat),
  s.hostMode = true ∧ s.dpState 1 ≠ 4 ∧ (s.tim.steer.all fun a => decide (a + sec 4 ≤ t)) = true →
  Runs (.dp1HostHoldover t) s fun u =>
    u.dpState 1 = 4 ∧ u.rbit ⟨Reg.TIM_LIVE, 9, 1⟩ = true ∧ u.rbit ⟨Reg.TIM_LIVE, 1, 1⟩ = true ∧
    u.cget Ctr.TIM_HOLDOVER_ENTRIES = (s.cget Ctr.TIM_HOLDOVER_ENTRIES + 1) % 2 ^ 48

/-- Earlier the loop stays LOCKED (11 R363). -/
def hostHoldoverEarly : Prop :=
  ∀ (s : State) (t a : Nat),
  s.hostMode = true ∧ s.tim.steer = some a ∧ t < a + sec 4 →
  Runs (.dp1HostHoldover t) s fun u =>
    u.tim = s.tim ∧ u.dpState 1 = s.dpState 1

/-! ### DeviceTimeIsSetSteppedAndCompared -/

/-- TOD_MESSAGE that is valid and arrives within its window, DP1 following a reference (11 R365, Table TIM-5): SECONDS waits for the edge,
the UTC offset is shown. -/
def todMessage : Prop :=
  ∀ (s : State) (t edge : Nat) (b : List Byte),
  s.rbit Reg.TIM_TIME_CFG_TOD_EN = true ∧ s.hostMode = false ∧ s.selRef 1 < 16 ∧ todOk b = true ∧ edge ≤ t + ms 900 ∧ t + ms 10 < edge →
  Runs (.todMessage t b edge) s fun u =>
    u.tim.tod = some ⟨ofBe ((b.drop 4).take 6), edge⟩ ∧
    u.rget Reg.TIM_TOD_STAT_UTC_OFS = ofBe ((b.drop 10).take 2) ∧ u.rbit Reg.TIM_TOD_STAT_UTC_OFS_VALID = bit (b.getD 3 0).toNat 3

/-- A message that is not valid, or outside its window, or while DP1 has no selected reference, is counted and not used (11 R365). -/
def todMessageBad : Prop :=
  ∀ (s : State) (t edge : Nat) (b : List Byte),
  s.rbit Reg.TIM_TIME_CFG_TOD_EN = true →
  s.hostMode = true ∨ 16 ≤ s.selRef 1 ∨ todOk b = false ∨ t + ms 900 < edge ∨ edge ≤ t + ms 10 →
  Runs (.todMessage t b edge) s fun u =>
    u.tim = s.tim ∧ u.cget Ctr.TIM_TOD_ERR = (s.cget Ctr.TIM_TOD_ERR + 1) % 2 ^ 48 ∧ u.rbit Reg.TIM_LIVE_TOD_ERR = true

/-- PPS_EDGE with a message waiting and the time unset (11 R366): the device time becomes SECONDS. -/
def ppsFirst : Prop :=
  ∀ (s : State) (t : Nat) (x : TodMsg),
  s.hostMode = false ∧ s.selRef 1 < 16 ∧ s.rbit Reg.TIM_TOD_STAT_TIME_SET = false ∧ s.tim.tod = some x →
  Runs (.ppsEdge t) s fun u =>
    u.dts = sec x.secs ∧ u.rbit Reg.TIM_TOD_STAT_TIME_SET = true ∧ u.tim.tod = none

/-- PPS_EDGE within STEP_THR of the whole second (11 R368): nothing to step or slew. -/
def ppsNear : Prop :=
  ∀ (s : State) (t : Nat),
  s.hostMode = false ∧ s.selRef 1 < 16 ∧ s.rbit Reg.TIM_TOD_STAT_TIME_SET = true ∧ s.tim.tod = none →
  (nearSec t).2.natAbs ≤ s.stepThr →
  Runs (.ppsEdge t) s fun u =>
    u.rbit Reg.TIM_TOD_STAT_SLEWING = false ∧ u.dts = max s.dts t ∧ u.cget Ctr.TIM_TIME_STEPS = s.cget Ctr.TIM_TIME_STEPS

/-- PPS_EDGE that finds the device late, forward steps permitted (11 R368, R434): the time steps to the second, counted and shown. -/
def ppsStep : Prop :=
  ∀ (s : State) (t : Nat),
  s.hostMode = false ∧ s.selRef 1 < 16 ∧ s.rbit Reg.TIM_TOD_STAT_TIME_SET = true ∧ s.tim.tod = none →
  s.stepThr < (nearSec t).2.natAbs ∧ (nearSec t).2 < 0 ∧ s.stepEn = true →
  Runs (.ppsEdge t) s fun u =>
    u.dts = sec (nearSec t).1 ∧ u.cget Ctr.TIM_TIME_STEPS = (s.cget Ctr.TIM_TIME_STEPS + 1) % 2 ^ 48 ∧ u.rbit Reg.TIM_LIVE_TIME_STEP = true

/-- PPS_EDGE with a larger offset and no step allowed (11 R368): the device slews; the count does not jump. -/
def ppsSlew : Prop :=
  ∀ (s : State) (t : Nat),
  s.hostMode = false ∧ s.selRef 1 < 16 ∧ s.rbit Reg.TIM_TOD_STAT_TIME_SET = true ∧ s.tim.tod = none →
  s.stepThr < (nearSec t).2.natAbs ∧ (0 ≤ (nearSec t).2 ∨ s.stepEn = false) →
  Runs (.ppsEdge t) s fun u =>
    u.rbit Reg.TIM_TOD_STAT_SLEWING = true ∧ u.dts = max s.dts t ∧ u.cget Ctr.TIM_TIME_STEPS = s.cget Ctr.TIM_TIME_STEPS

/-- The third message in a row with one difference, which may not be stepped (11 R367): TOD_CONFLICT, counted. -/
def todConflict : Prop :=
  ∀ (s : State) (t : Nat) (x : TodMsg),
  s.hostMode = false ∧ s.selRef 1 < 16 ∧ s.rbit Reg.TIM_TOD_STAT_TIME_SET = true ∧ s.tim.tod = some x →
  (x.secs : Int) - (nearSec t).1 = s.tim.diff ∧ s.tim.diff ≠ 0 ∧ 2 ≤ s.tim.diffRun ∧ (s.tim.diff < 0 ∨ s.stepEn = false) →
  (nearSec t).2.natAbs ≤ s.stepThr →
  Runs (.ppsEdge t) s fun u =>
    u.rbit Reg.TIM_TOD_STAT_TOD_CONFLICT = true ∧ u.rbit Reg.TIM_TOD_STAT_TOD_VALID = false ∧ u.dts = max s.dts t ∧
    u.cget Ctr.TIM_TOD_MISMATCH = (s.cget Ctr.TIM_TOD_MISMATCH + 1) % 2 ^ 48

/-- The same with the message ahead and forward steps permitted (11 R367, R368): the seconds step by the difference, and where the edge lies
before its second by more than STEP_THR the time steps to SECONDS. -/
def todForward : Prop :=
  ∀ (s : State) (t : Nat) (x : TodMsg),
  s.hostMode = false ∧ s.selRef 1 < 16 ∧ s.rbit Reg.TIM_TOD_STAT_TIME_SET = true ∧ s.tim.tod = some x →
  (x.secs : Int) - (nearSec t).1 = s.tim.diff ∧ 0 < s.tim.diff ∧ 2 ≤ s.tim.diffRun ∧ s.stepEn = true →
  Runs (.ppsEdge t) s fun u =>
    u.dts = (if s.stepThr < (nearSec t).2.natAbs ∧ (nearSec t).2 < 0 then sec x.secs else t + sec s.tim.diff.toNat) ∧ u.cget Ctr.TIM_TOD_MISMATCH = (s.cget Ctr.TIM_TOD_MISMATCH + 1) % 2 ^ 48

/-- A message that agrees with the device (11 R367). -/
def todAgrees : Prop :=
  ∀ (s : State) (t : Nat) (x : TodMsg),
  s.hostMode = false ∧ s.selRef 1 < 16 ∧ s.rbit Reg.TIM_TOD_STAT_TIME_SET = true ∧ s.tim.tod = some x ∧ x.secs = (nearSec t).1 →
  (nearSec t).2.natAbs ≤ s.stepThr →
  Runs (.ppsEdge t) s fun u =>
    u.rbit Reg.TIM_TOD_STAT_TOD_VALID = true ∧ u.rbit Reg.TIM_TOD_STAT_TOD_CONFLICT = false ∧ u.dts = max s.dts t

/-- TIM_DP1_ADJ_PHASE_WRITE within STEP_THR (11 R363, R368): through the loop; the count does not jump. -/
def adjPhaseLoop : Prop :=
  ∀ (s : State) (t : Nat) (w : HostStore),
  s.stores4 w Reg.TIM_DP1_ADJ_PHASE = true →
  s.hostMode = true ∧ ns (sext w.v 32).natAbs ≤ s.stepThr →
  Runs (.timDp1AdjPhaseWrite t w) s fun u =>
    u.dpState 1 = 3 ∧ u.tim.steer = t ∧ u.dts = max s.dts t ∧ u.cget Ctr.TIM_TIME_STEPS = s.cget Ctr.TIM_TIME_STEPS

/-- A larger forward adjustment with forward steps permitted is a step (11 R368). -/
def adjPhaseStep : Prop :=
  ∀ (s : State) (t : Nat) (w : HostStore),
  s.stores4 w Reg.TIM_DP1_ADJ_PHASE = true →
  s.hostMode = true ∧ s.stepThr < ns (sext w.v 32).natAbs ∧ 0 < sext w.v 32 ∧ s.stepEn = true →
  Runs (.timDp1AdjPhaseWrite t w) s fun u =>
    u.dts = t + ns (sext w.v 32).natAbs ∧ u.cget Ctr.TIM_TIME_STEPS = (s.cget Ctr.TIM_TIME_STEPS + 1) % 2 ^ 48

/-- Any other larger adjustment is slewed (11 R368). -/
def adjPhaseSlew : Prop :=
  ∀ (s : State) (t : Nat) (w : HostStore),
  s.stores4 w Reg.TIM_DP1_ADJ_PHASE = true →
  s.hostMode = true ∧ s.stepThr < ns (sext w.v 32).natAbs ∧ (sext w.v 32 ≤ 0 ∨ s.stepEn = false) →
  Runs (.timDp1AdjPhaseWrite t w) s fun u =>
    u.rbit Reg.TIM_TOD_STAT_SLEWING = true ∧ u.dts = max s.dts t

/-- TIM_DTS_SNAP_WRITE with bit 0 set latches the DTS of its arrival (11 R371). -/
def dtsSnap : Prop :=
  ∀ (s : State) (t : Nat) (w : HostStore),
  s.stores4 w Reg.TIM_DTS_SNAP = true →
  bit w.v 0 = true →
  Runs (.timDtsSnapWrite t w) s fun u =>
    u.dtsWords Reg.TIM_SNAP0 = dts96 t % 2 ^ 96 ∧
    (∀ a, a ≠ Reg.TIM_SNAP0 ∧ a ≠ Reg.TIM_SNAP0 + 4 ∧ a ≠ Reg.TIM_SNAP0 + 8 → u.wordN a = s.wordN a)

/-- SET_TIME while the time is unset, or with FORCE (11 R366): it stays in execution for the next whole second of DP1. -/
def setTime : Prop :=
  ∀ (s : State) (t secs : Nat) (d : Desc) (force : Bool),
  s.cmdReady t d = true ∧ s.privileged t = true →
  s.rbit Reg.TIM_TOD_STAT_TIME_SET = false ∨ force = true →
  Runs (.setTime t d secs force) s fun u =>
    u.hcq.exec = some ⟨d.tag, 0x0004, .setTime secs force⟩ ∧ u.rbit Reg.HCQ_STAT_BUSY = true ∧
    u.rget Reg.CMD_CI_V = (s.rget Reg.CMD_CI_V + 1) % 65536 ∧ u.dts = max s.dts t

/-- SET_TIME once the time is set and without FORCE: E_STATE at FORCE (11 R366). -/
def setTimeRefused : Prop :=
  ∀ (s : State) (t secs : Nat) (d : Desc),
  s.cmdReady t d = true ∧ s.privileged t = true →
  s.rbit Reg.TIM_TOD_STAT_TIME_SET = true →
  Runs (.setTime t d secs false) s fun u =>
    s.completes u ⟨d.tag, 9, 0x0004, 0x16, t, 0⟩ ∧
    u.dts = max s.dts t

/-- SET_TIME_EFFECT (11 R364, R366): at a whole second of DP1 the time becomes the one set, and the command completes. -/
def setTimeEffect : Prop :=
  ∀ (s : State) (t secs tag : Nat) (force : Bool),
  s.hcq.exec = some ⟨tag, 0x0004, .setTime secs force⟩ ∧ s.hcq.cut = false ∧ s.hcq.closing = false →
  t % sec 1 = 0 ∧ s.privileged t = true →
  Runs (.setTimeEffect t) s fun u =>
    u.dts = sec secs ∧ u.hcq.exec = none ∧ u.rbit Reg.HCQ_STAT_BUSY = false ∧
    (s.rbit Reg.TIM_TOD_STAT_TIME_SET = false → u.rbit Reg.TIM_TOD_STAT_TIME_SET = true) ∧
    (s.rbit Reg.TIM_TOD_STAT_TIME_SET = true → u.cget Ctr.TIM_TIME_STEPS = (s.cget Ctr.TIM_TIME_STEPS + 1) % 2 ^ 48) ∧
    Out.completion (s.rget Reg.CPL_PI_V % 2 ^ s.ringLog) ((⟨tag, 0, 0x0004, noOfs, sec secs, 0⟩ : CplRec).bytes (decide (s.rget Reg.CPL_PI_V / 2 ^ s.ringLog % 2 = 0))) ∈ u.out

/-- A forced step back moves every held release instant by the same amount (11 R364). -/
def setTimeBack : Prop :=
  ∀ (s : State) (t secs tag c : Nat) (force : Bool),
  s.hcq.exec = some ⟨tag, 0x0004, .setTime secs force⟩ ∧ s.hcq.cut = false ∧ s.hcq.closing = false →
  t % sec 1 = 0 ∧ s.privileged t = true ∧ sec secs < t ∧ s.rbit Reg.TIM_TOD_STAT_TIME_SET = true →
  Runs (.setTimeEffect t) s fun u =>
    (u.cx c).nextRel = back (t - sec secs) (s.cx c).nextRel ∧ u.dts = sec secs

/-- Past the Active lease SET_TIME has no effect at the whole second and is refused with E_NOT_LEASEHOLDER (00 R13). (DEDUCED, log entry 149) -/
def setTimePastLease : Prop :=
  ∀ (s : State) (t secs tag : Nat) (force : Bool),
  s.hcq.exec = some ⟨tag, 0x0004, .setTime secs force⟩ ∧ s.hcq.cut = false ∧ s.hcq.closing = false →
  t % sec 1 = 0 ∧ s.privileged t = false →
  Runs (.setTimeEffect t) s fun u =>
    u.dts = max s.dts t ∧ u.tim = s.tim ∧ u.hcq.exec = none ∧ u.rbit Reg.HCQ_STAT_BUSY = false ∧
    Out.completion (s.rget Reg.CPL_PI_V % 2 ^ s.ringLog) ((⟨tag, 6, 0x0004, noOfs, t, 0⟩ : CplRec).bytes (decide (s.rget Reg.CPL_PI_V / 2 ^ s.ringLog % 2 = 0))) ∈ u.out

/-! ### QueuesPushPopAndMark -/

/-- HARDWARE_PUSH of an item into an item-mode queue with room (12 R374): at the tail with its DTS, counted, in the depth of the group. -/
def hardwarePush : Prop :=
  ∀ (s : State) (t q : Nat) (x : Item256),
  (s.q q).mode = 1 ∧ ((s.q q).producer = 2 ∨ (s.q q).producer = 6) ∧ (s.q q).full = false ∧ (s.q q).group < 256 →
  (s.que.waits.all fun w => w.queue != q) = true →
  Runs (.hardwarePush t q (.item x)) s fun u =>
    (u.q q).items = (s.q q).items ++ [{ data := x, kind := 1, dts := t, vis := t }] ∧
    (u.q q).pushed = ((s.q q).pushed + 1) % 2 ^ 32 ∧ (u.q q).dropped = (s.q q).dropped ∧ (u.q q).marker = (s.q q).marker ∧
    u.wordN (Reg.QUE_GRP_DEPTH (s.q q).group) = (s.wordN (Reg.QUE_GRP_DEPTH (s.q q).group) + 1) % 2 ^ 32 ∧
    (s.q q).depth + 1 ≤ (u.q q).peak ∧
    (∀ k, k ≠ q → u.q k = s.q k)

/-- A push into a full queue is dropped (12 R377): it opens a marker with COUNT 1, or adds to the open one; it is counted in DROPPED and
DROPS. -/
def hardwarePushFull : Prop :=
  ∀ (s : State) (t q : Nat) (x : Item256),
  (s.q q).mode = 1 ∧ ((s.q q).producer = 2 ∨ (s.q q).producer = 6) ∧ (s.q q).full = true ∧ (s.q q).group < 256 →
  Runs (.hardwarePush t q (.item x)) s fun u =>
    (u.q q).items = (s.q q).items ∧ (u.q q).dropped = ((s.q q).dropped + 1) % 2 ^ 32 ∧
    ((s.q q).marker = none → (u.q q).marker.map (fun m => (m.count, m.first, m.last, m.pkt)) = some (1, t, t, false)) ∧
    (∀ n ∈ (s.q q).marker, (u.q q).marker.map (fun m => (m.count, m.first, m.last, m.pkt)) = some (min 0xFFFFFFFF (n.count + 1), n.first, t, n.pkt)) ∧
    u.cget (Ctr.QUE_GRP_DROPS (s.q q).group) = (s.cget (Ctr.QUE_GRP_DROPS (s.q q).group) + 1) % 2 ^ 48

/-- HARDWARE_PUSH of a packet into a packet-mode queue with room (12 R376, Table QUE-2): its words become visible together; it counts once. -/
def hardwarePacket : Prop :=
  ∀ (s : State) (t q len : Nat) (ws : List Item256),
  (s.q q).mode = 2 ∧ ((s.q q).producer = 2 ∨ (s.q q).producer = 6) ∧ (s.q q).spillFull = false ∧ (s.q q).group < 256 →
  1 ≤ len ∧ len ≤ 16384 ∧ ws.length = pktWords len ∧ (s.q q).depth + ws.length < (s.q q).cap →
  (s.que.waits.all fun w => w.queue != q) = true →
  Runs (.hardwarePush t q (.packet len ws)) s fun u =>
    (u.q q).items = (s.q q).items ++ pktItems len ws t t ∧ (u.q q).pushed = ((s.q q).pushed + 1) % 2 ^ 32

/-- A packet with a word that meets the full queue is dropped whole and counted once (12 R379, R378): the words stored are rewound, which
seals the marker. -/
def hardwarePacketDropped : Prop :=
  ∀ (s : State) (t q len : Nat) (ws : List Item256),
  (s.q q).mode = 2 ∧ ((s.q q).producer = 2 ∨ (s.q q).producer = 6) ∧ (s.q q).full = false ∧ (s.q q).group < 256 ∧ (s.q q).marker = none →
  1 ≤ len ∧ len ≤ 16384 ∧ ws.length = pktWords len ∧ (s.q q).cap ≤ (s.q q).depth + ws.length →
  Runs (.hardwarePush t q (.packet len ws)) s fun u =>
    (u.q q).items = (s.q q).items ++ [(⟨true, true, false, false, 1, t, t⟩ : Marker).item] ∧
    (u.q q).marker = none ∧ (u.q q).markers = ((s.q q).markers + 1) % 2 ^ 32 ∧ (u.q q).dropped = ((s.q q).dropped + 1) % 2 ^ 32 ∧ (u.q q).pushed = (s.q q).pushed

/-- An item for a packet-mode queue is refused and counted in DROPPED (12 R376). -/
def wrongKind : Prop :=
  ∀ (s : State) (t q : Nat) (x : Item256),
  (s.q q).mode = 2 ∧ ((s.q q).producer = 2 ∨ (s.q q).producer = 6) ∧ (s.q q).group < 256 →
  Runs (.hardwarePush t q (.item x)) s fun u =>
    (u.q q).items = (s.q q).items ∧ (u.q q).marker = (s.q q).marker ∧ (u.q q).dropped = ((s.q q).dropped + 1) % 2 ^ 32

/-- The depth of a queue (12 R372), and when it is full. -/
def depthRule : Prop :=
    ∀ (h : QueH), h.depth = h.items.length + h.build.length + h.taken ∧ (h.spillFull = false → (h.full = true ↔ h.cap ≤ h.depth + 1))

/-- The first release after a marker opened seals it into the slot, behind every item (12 R378). -/
def markerSealed : Prop :=
    ∀ (h g : QueH) (i : QItem) (m : Marker), h.marker = some m → h.pop = some (i, g) →
    h.items.head? = some i ∧ g.items = h.items.tail ++ [m.item] ∧ g.marker = none ∧ g.markers = (h.markers + 1) % 2 ^ 32

/-- A push that takes the depth of its group to HIGH (12 R387 to R389): the high state, counted, and its XOFF_OUT pin asserted. -/
def watermarkHigh : Prop :=
  ∀ (s : State) (t q : Nat) (x : Item256),
  (s.q q).mode = 1 ∧ ((s.q q).producer = 2 ∨ (s.q q).producer = 6) ∧ (s.q q).full = false ∧ (s.q q).group < 256 →
  (s.que.waits.all fun w => w.queue != q) = true →
  s.rbit (Reg.QUE_GRP_CFG_WM_EN (s.q q).group) = true ∧ s.rbit (Reg.QUE_GRP_LIVE_XOFF (s.q q).group) = false →
  s.wordN (Reg.QUE_GRP_HIGH (s.q q).group) ≤ s.wordN (Reg.QUE_GRP_DEPTH (s.q q).group) + 1 ∧ s.wordN (Reg.QUE_GRP_DEPTH (s.q q).group) + 1 < 2 ^ 32 →
  Runs (.hardwarePush t q (.item x)) s fun u =>
    u.rbit (Reg.QUE_GRP_LIVE_XOFF (s.q q).group) = true ∧ u.cget (Ctr.QUE_GRP_CROSSINGS (s.q q).group) = (s.cget (Ctr.QUE_GRP_CROSSINGS (s.q q).group) + 1) % 2 ^ 48 ∧
    (s.rbit (Reg.QUE_GRP_CFG_XOFF_OUT_EN (s.q q).group) = true → u.rbit (xoffOutBit (s.rget (Reg.QUE_GRP_CFG_XOFF_OUT_SEL (s.q q).group))) = true)

/-- XOFF_MIN_HOLD_END once no group holds the pin and MIN_HOLD has passed (12 R388); MIN_HOLD 0 acts as 1. -/
def xoffEnds : Prop :=
  ∀ (s : State) (t pin : Nat),
  pin < 16 ∧ s.xoffHeld pin = false →
  tget (fun _ => 0) s.que.xoffAt pin + ns (10 * max 1 (s.rget Reg.QUE_XOFF_OUT_CFG_MIN_HOLD)) ≤ t →
  Runs (.xoffMinHoldEnd t pin) s fun u =>
    u.rbit (xoffOutBit pin) = false ∧
    (∀ k, k < 16 → k ≠ pin → u.rbit (xoffOutBit k) = s.rbit (xoffOutBit k))

/-- While a group holds the pin, or before MIN_HOLD has passed, it stays asserted (12 R388). -/
def xoffStays : Prop :=
  ∀ (s : State) (t pin : Nat),
  pin < 16 ∧ s.rbit (xoffOutBit pin) = true →
  s.xoffHeld pin = true ∨ t < tget (fun _ => 0) s.que.xoffAt pin + ns (10 * max 1 (s.rget Reg.QUE_XOFF_OUT_CFG_MIN_HOLD)) →
  Runs (.xoffMinHoldEnd t pin) s fun u =>
    u.rbit (xoffOutBit pin) = true

/-- POP_SLOT_READ of 64 bytes at offset 0 of a slot whose queue holds an item (12 R383, R375): the record of Table QUE-5; the slot is
released. -/
def hostPop : Prop :=
  ∀ (s : State) (t i q : Nat) (a : Access) (x : QItem) (rest : List QItem),
  a.bar = 0 ∧ a.off = 0x1C8000 + i * 0x40 ∧ i < 256 ∧ a.size = 64 ∧ s.popSlot i = some q →
  (s.q q).consumer = 2 ∧ (s.q q).items = x :: rest ∧ (s.q q).group < 256 →
  Runs (.popSlotRead t a none) s fun u =>
    Out.readData a.tag 64 (popRecord x (rest.length + b2n (s.q q).marker.isSome + (s.q q).build.length + (s.q q).taken)) ∈ u.out ∧
    (u.q q).items = rest ++ (s.q q).marker.toList.map Marker.item ∧ (u.q q).marker = none ∧
    (x.kind = 1 → (u.q q).popped = ((s.q q).popped + 1) % 2 ^ 32)

/-- With no visible item the read waits (12 R384): the queue and the host see nothing yet. -/
def hostPopWaits : Prop :=
  ∀ (s : State) (t i q : Nat) (a : Access),
  a.bar = 0 ∧ a.off = 0x1C8000 + i * 0x40 ∧ i < 256 ∧ a.size = 64 ∧ s.popSlot i = some q →
  (s.q q).consumer = 2 ∧ (s.q q).items = [] →
  Runs (.popSlotRead t a none) s fun u =>
    u.que.waits = s.que.waits ++ [⟨i, q, t, a.tag⟩] ∧ u.q q = s.q q

/-- A push inside the window, or on the read's arrival, is what the read returns (12 R384). -/
def hostPopServed : Prop :=
  ∀ (s : State) (t q : Nat) (x : Item256) (p : PopWait),
  (s.q q).mode = 1 ∧ ((s.q q).producer = 2 ∨ (s.q q).producer = 6) ∧ (s.q q).full = false ∧ (s.q q).group < 256 →
  s.que.waits = [p] ∧ p.queue = q ∧ (t = p.arrival ∨ t < p.arrival + s.hostStall) →
  (s.q q).items = [] ∧ (s.q q).build = [] ∧ (s.q q).taken = 0 ∧ (s.q q).marker = none →
  Runs (.hardwarePush t q (.item x)) s fun u =>
    Out.readData p.tag 64 (popRecord { data := x, kind := 1, dts := t, vis := t } 0) ∈ u.out ∧
    (u.q q).items = [] ∧ u.que.waits = []

/-- A read and a push that coincide at depth C − 1 with no marker open (12 R381, Table QUE-4): the read takes the head, the push is accepted. -/
def hostPopCoincident : Prop :=
  ∀ (s : State) (t i q : Nat) (a : Access) (x : QItem) (rest : List QItem) (d : Item256),
  a.bar = 0 ∧ a.off = 0x1C8000 + i * 0x40 ∧ i < 256 ∧ a.size = 64 ∧ s.popSlot i = some q →
  (s.q q).consumer = 2 ∧ (s.q q).mode = 1 ∧ (s.q q).items = x :: rest ∧ (s.q q).group < 256 ∧ (s.q q).marker = none →
  (s.q q).cap = (s.q q).depth + 1 ∧ (s.q q).spillFull = false ∧ s.shareOut (s.q q).group = false →
  (s.que.waits.all fun w => w.queue != q) = true →
  Runs (.popSlotRead t a (some d)) s fun u =>
    Out.readData a.tag 64 (popRecord x (rest.length + (s.q q).build.length + (s.q q).taken)) ∈ u.out ∧
    (u.q q).items = rest ++ [{ data := d, kind := 1, dts := t, vis := t }] ∧ (u.q q).marker = none ∧ (u.q q).dropped = (s.q q).dropped

/-- The same with a marker open (12 R381): the freed slot seals it, and the push meets a full queue. -/
def hostPopCoincidentMarked : Prop :=
  ∀ (s : State) (t i q : Nat) (a : Access) (x : QItem) (rest : List QItem) (d : Item256) (m : Marker),
  a.bar = 0 ∧ a.off = 0x1C8000 + i * 0x40 ∧ i < 256 ∧ a.size = 64 ∧ s.popSlot i = some q →
  (s.q q).consumer = 2 ∧ (s.q q).mode = 1 ∧ (s.q q).items = x :: rest ∧ (s.q q).group < 256 ∧ (s.q q).marker = some m →
  (s.q q).cap = (s.q q).depth + 1 →
  Runs (.popSlotRead t a (some d)) s fun u =>
    (u.q q).items = rest ++ [m.item] ∧ (u.q q).marker.map (fun n => (n.count, n.first, n.last)) = some (1, t, t)

/-- Any other read of a pop slot pops nothing (12 R383): CA, the violation log, SLOT_VIOL. -/
def hostPopBad : Prop :=
  ∀ (s : State) (t : Nat) (a : Access) (c : Option Item256),
  a.bar = 0 ∧ 0x1C8000 ≤ a.off ∧ a.off < 0x1CC000 →
  a.off % 0x40 ≠ 0 ∨ a.size ≠ 64 ∨ s.popSlot ((a.off - 0x1C8000) / 0x40) = none →
  Runs (.popSlotRead t a c) s fun u =>
    Out.refused a.tag true ∈ u.out ∧ u.que.qs = s.que.qs ∧ u.que.waits = s.que.waits ∧ u.rbit Reg.QUE_LIVE_SLOT_VIOL = true ∧
    u.wordN Reg.SYS_VIOL_CNT = (s.wordN Reg.SYS_VIOL_CNT + 1) % 2 ^ 32

/-- HOST_STALL_END (12 R384): the waiting read returns the EMPTY sentinel with the depth. -/
def hostStallEnd : Prop :=
  ∀ (s : State) (t slot : Nat) (p : PopWait),
  s.que.waits = [p] ∧ p.slot = slot ∧ p.arrival + s.hostStall ≤ t →
  Runs (.hostStallEnd t slot) s fun u =>
    Out.readData p.tag 64 ((s.q p.queue).depth * 2 ^ 384) ∈ u.out ∧ u.que.waits = [] ∧ u.que.qs = s.que.qs

/-- HOST_STALL_US above 40 acts as 40 (12 R384). -/
def stallLimit : Prop :=
    ∀ (s : State), s.hostStall ≤ us 40

/-- PUSH_SLOT_WRITE of 32 bytes at offset 0 (12 R386): an ITEM with the DTS of the push. -/
def hostPush : Prop :=
  ∀ (s : State) (t k q : Nat) (a : Access) (x : Item256),
  a.bar = 0 ∧ a.off = 0x1CC000 + k * 0x40 ∧ k < 64 ∧ a.size = 32 ∧ s.pushSlot k = some q →
  (s.q q).producer = 3 ∧ (s.q q).mode = 1 ∧ (s.q q).full = false ∧ (s.q q).group < 256 ∧ (s.que.waits.all fun w => w.queue != q) = true →
  Runs (.pushSlotWrite t a x) s fun u =>
    (u.q q).items = (s.q q).items ++ [{ data := x, kind := 1, dts := t, vis := t }]

/-- Any other write of a push slot pushes nothing (12 R386). -/
def hostPushBad : Prop :=
  ∀ (s : State) (t : Nat) (a : Access) (x : Item256),
  a.bar = 0 ∧ 0x1CC000 ≤ a.off ∧ a.off < 0x1CD000 →
  a.off % 0x40 ≠ 0 ∨ a.size ≠ 32 ∨ s.pushSlot ((a.off - 0x1CC000) / 0x40) = none →
  Runs (.pushSlotWrite t a x) s fun u =>
    u.que.qs = s.que.qs ∧ u.rbit Reg.QUE_LIVE_SLOT_VIOL = true ∧ u.wordN Reg.SYS_VIOL_CNT = (s.wordN Reg.SYS_VIOL_CNT + 1) % 2 ^ 32

/-! ### QueuesAreConfiguredAndClaimed -/

/-- QUEUE_CFG of a queue nothing uses (12 R372, R397). -/
def queueCfg : Prop :=
  ∀ (s : State) (t q mode group cap prod cons sel : Nat) (d : Desc),
  s.cmdReady t d = true →
  16 ≤ q ∧ q ≤ 4095 ∧ 1 ≤ mode ∧ mode ≤ 2 ∧ 2 ≤ group ∧ group ≤ 255 →
  64 ≤ cap ∧ cap ≤ 4194304 ∧ cap % 64 = 0 ∧ prod ≤ 6 ∧ cons ≤ 6 ∧ s.queueUsed q = false →
  Runs (.queueCfg t d q mode group cap prod cons sel) s fun u =>
    s.completes u (okCpl d 0x0600 t) ∧
    (u.q q).mode = mode ∧ (u.q q).producer = prod ∧ (u.q q).consumer = cons ∧ (u.q q).group = group ∧ (u.q q).cap = cap ∧ (u.q q).items = [] ∧
    (u.q q).pushed = 0 ∧ (u.q q).popped = 0 ∧ (u.q q).dropped = 0 ∧ (u.q q).markers = 0 ∧ (u.q q).peak = 0 ∧ (u.q q).ssSeq = 0

/-- QUEUE_CFG with mode 0 removes a queue nothing uses (12 R376). -/
def queueUnused : Prop :=
  ∀ (s : State) (t q group cap prod cons sel : Nat) (d : Desc),
  s.cmdReady t d = true →
  16 ≤ q ∧ q ≤ 4095 ∧ s.queueUsed q = false →
  Runs (.queueCfg t d q 0 group cap prod cons sel) s fun u =>
    s.completes u (okCpl d 0x0600 t) ∧
    (u.q q).mode = 0

/-- QUEUE_CFG of a queue that a bound context names or a slot claims: E_STATE (17 R610). -/
def queueBusy : Prop :=
  ∀ (s : State) (t q mode group cap prod cons sel : Nat) (d : Desc),
  s.cmdReady t d = true →
  16 ≤ q ∧ q ≤ 4095 ∧ 1 ≤ mode ∧ mode ≤ 2 ∧ 2 ≤ group ∧ group ≤ 255 →
  64 ≤ cap ∧ cap ≤ 4194304 ∧ cap % 64 = 0 ∧ prod ≤ 6 ∧ cons ≤ 6 ∧ s.queueUsed q = true ∧ (s.q q).mode ≠ 0 →
  Runs (.queueCfg t d q mode group cap prod cons sel) s fun u =>
    s.completes u ⟨d.tag, 9, 0x0600, 0x10, t, 0⟩ ∧
    u.que = s.que

/-- QUEUE_CFG of a queue of fixed role: E_RANGE (12 R372). -/
def queueFixed : Prop :=
  ∀ (s : State) (t q mode group cap prod cons sel : Nat) (d : Desc),
  s.cmdReady t d = true →
  q < 16 →
  Runs (.queueCfg t d q mode group cap prod cons sel) s fun u =>
    s.completes u ⟨d.tag, 2, 0x0600, 0x10, t, 0⟩ ∧
    u.que = s.que

/-- QUEUE_CFG with a capacity that is below 64, above 4,194,304 or no multiple of 64 (12 R372): E_RANGE naming CAPACITY. -/
def queueCapacity : Prop :=
  ∀ (s : State) (t q mode group cap prod cons sel : Nat) (d : Desc),
  s.cmdReady t d = true →
  16 ≤ q ∧ q ≤ 4095 ∧ 1 ≤ mode ∧ mode ≤ 2 ∧ 2 ≤ group ∧ group ≤ 255 →
  cap < 64 ∨ 4194304 < cap ∨ cap % 64 ≠ 0 →
  Runs (.queueCfg t d q mode group cap prod cons sel) s fun u =>
    s.completes u ⟨d.tag, 2, 0x0600, 0x14, t, 0⟩ ∧
    u.que = s.que

/-- SLOT_CLAIM of a free pop slot on a queue whose consumer is the host or none (12 R382). -/
def popClaim : Prop :=
  ∀ (s : State) (t slot q : Nat) (d : Desc),
  s.cmdReady t d = true →
  12 ≤ slot ∧ slot ≤ 255 ∧ 16 ≤ q ∧ q ≤ 4095 ∧ (s.q q).mode ≠ 0 ∧ ((s.q q).consumer = 0 ∨ (s.q q).consumer = 2) ∧ (s.q q).group < 256 →
  s.rbit (Reg.QUE_SLOT_MAP_BOUND slot) = false →
  (∀ i < 256, s.rbit (Reg.QUE_SLOT_MAP_BOUND i) = true → s.rget (Reg.QUE_SLOT_MAP_QUEUE i) ≠ q) →
  Runs (.slotClaim t d 0 slot q 1) s fun u =>
    s.completes u (okCpl d 0x0602 t) ∧
    u.popSlot slot = some q ∧ (u.q q).consumer = 2 ∧ (u.q q).items = (s.q q).items ∧ (u.q q).producer = (s.q q).producer

/-- SLOT_CLAIM while another slot claims the queue in the same role: E_STATE (12 R382). -/
def popClaimRefused : Prop :=
  ∀ (s : State) (t slot q k : Nat) (d : Desc),
  s.cmdReady t d = true →
  12 ≤ slot ∧ slot ≤ 255 ∧ 16 ≤ q ∧ q ≤ 4095 ∧ (s.q q).mode ≠ 0 →
  s.rbit (Reg.QUE_SLOT_MAP_BOUND slot) = false →
  k < 256 ∧ s.popSlot k = some q →
  Runs (.slotClaim t d 0 slot q 1) s fun u =>
    s.completes u ⟨d.tag, 9, 0x0602, 0x12, t, 0⟩ ∧
    u.que = s.que ∧ u.popSlot slot = none

/-- SLOT_CLAIM of a push slot on a packet-mode queue: E_STATE (12 R382). -/
def pushClaimPacket : Prop :=
  ∀ (s : State) (t slot q : Nat) (d : Desc),
  s.cmdReady t d = true →
  4 ≤ slot ∧ slot ≤ 63 ∧ 16 ≤ q ∧ q ≤ 4095 ∧ (s.q q).mode = 2 →
  s.rbit (Reg.QUE_PUSH_MAP_BOUND slot) = false →
  Runs (.slotClaim t d 1 slot q 1) s fun u =>
    s.completes u ⟨d.tag, 9, 0x0602, 0x12, t, 0⟩

/-- SLOT_CLAIM with ON 0 of a push slot whose claim set the code (12 R382): the code is 0 again. -/
def pushRelease : Prop :=
  ∀ (s : State) (t slot q : Nat) (d : Desc),
  s.cmdReady t d = true →
  4 ≤ slot ∧ slot ≤ 63 ∧ 16 ≤ q ∧ q ≤ 4095 ∧ (s.q q).mode = 1 ∧ (s.q q).group < 256 →
  s.pushSlot slot = some q →
  Runs (.slotClaim t d 1 slot q 0) s fun u =>
    s.completes u (okCpl d 0x0602 t) ∧
    u.pushSlot slot = none ∧ (u.q q).producer = if (s.q q).lentP = true then 0 else (s.q q).producer

/-! ### SideStreetPortsSendAndReceive -/

/-- The scheduler picks a queue that may send, of the highest SS_PRIO among those (12 R393, R394). -/
def schedulerPriority : Prop :=
    ∀ (s : State) (p q : Nat), s.ssPick p = some q →
    ∃ x, (x, q) ∈ s.ssEligible p ∧ ∀ y ∈ s.ssEligible p, y.1 ≤ x

/-- A group held by its XOFF_IN pin starts no frame (12 R394). -/
def heldGroupsWait : Prop :=
    ∀ (s : State) (p q : Nat), s.ssPick p = some q → (s.que.qs.map (·.1)).Nodup → s.xoffInHeld (s.q q).group = false

/-- SS_FRAME_SEND of a queue with single items at its head (12 R391 to R393): an items frame of up to 30 of them. -/
def ssSendItems : Prop :=
  ∀ (s : State) (t p q : Nat) (i : QItem),
  p < 2 ∧ s.rbit (Reg.QUE_SS_CFG_EN p) = true ∧ (s.ssp p).lock = true ∧ s.ssPick p = some q →
  (s.q q).items.head? = some i ∧ i.kind = 1 ∧ (s.q q).marker = none ∧ (s.q q).group < 256 →
  Runs (.ssFrameSend t p) s fun u =>
    Out.ssFrame p (s.ssWire p ⟨q, 1, (s.q q).ssSeq, i.dts, (leadItems (s.q q).items).length, false⟩ ((leadItems (s.q q).items).flatMap (QItem.record q))) ∈ u.out ∧
    (u.q q).items = (s.q q).items.drop (leadItems (s.q q).items).length ∧ (u.q q).ssSeq = ((s.q q).ssSeq + 1) % 2 ^ 32 ∧
    u.cget (Ctr.QUE_SS_FRAMES_TX p) = (s.cget (Ctr.QUE_SS_FRAMES_TX p) + 1) % 2 ^ 48

/-- SS_FRAME_SEND of a queue with a marker at its head (12 R392): a marker frame of one record. -/
def ssSendMarker : Prop :=
  ∀ (s : State) (t p q : Nat) (i : QItem) (rest : List QItem) (w : List Byte),
  p < 2 ∧ s.rbit (Reg.QUE_SS_CFG_EN p) = true ∧ (s.ssp p).lock = true ∧ s.ssPick p = some q →
  (s.q q).items = i :: rest ∧ i.kind = 6 ∧ (s.q q).marker = none ∧ (s.q q).group < 256 →
  w = s.ssWire p ⟨q, 3, (s.q q).ssSeq, i.dts, 1, false⟩ (i.record q) →
  Runs (.ssFrameSend t p) s fun u =>
    Out.ssFrame p w ∈ u.out ∧ (u.q q).items = rest ∧
    u.cget (Ctr.QUE_SS_BYTES_TX p) = (s.cget (Ctr.QUE_SS_BYTES_TX p) + w.length) % 2 ^ 48

/-- SS_FRAME_SEND of a packet longer than FRAG_MAX (12 R392): its first FRAG_MAX bytes leave and its words stay. -/
def ssSendFragment : Prop :=
  ∀ (s : State) (t p q : Nat) (i : QItem),
  p < 2 ∧ s.rbit (Reg.QUE_SS_CFG_EN p) = true ∧ (s.ssp p).lock = true ∧ s.ssPick p = some q →
  (s.q q).items.head? = some i ∧ i.kind = 2 ∧ (s.q q).fragOfs = 0 ∧ s.rget (Reg.QUE_SS_FRAME_FRAG_MAX p) < i.plen ∧ (s.q q).group < 256 →
  Runs (.ssFrameSend t p) s fun u =>
    Out.ssFrame p (s.ssWire p ⟨q, 2, (s.q q).ssSeq, i.dts, 0, false⟩ (((headPacket (s.q q).items).flatMap fun y => leBytes 32 y.data.toNat).take (s.rget (Reg.QUE_SS_FRAME_FRAG_MAX p)))) ∈ u.out ∧
    (u.q q).items = (s.q q).items ∧ (u.q q).fragOfs = s.rget (Reg.QUE_SS_FRAME_FRAG_MAX p)

/-- The form of a Side Street frame (12 R391, Table QUE-8, 00 R7): destination and source, the tag where VLAN_EN is set, ETYPE, the 24 bytes of
the header from DEVID on, the payload, zeros up to 60 bytes, and the FCS. The FCS and the padding are those of IEEE 802.3 (PRESUMED, log
entry 139). -/
def ssFrameForm : Prop :=
    ∀ (s : State) (p : Nat) (h : SsHead) (l : List Byte),
    ((s.ssWire p h l).take (s.ssBody p h l).length = s.ssBody p h l) ∧ (s.ssWire p h l).length = max 60 (s.ssBody p h l).length + 4 ∧
    (s.ssBody p h l).take 12 = beBytes 6 (s.ssMac (Reg.QUE_SS_DST_LO p) (Reg.QUE_SS_DST_HI p)) ++ beBytes 6 (s.ssMac (Reg.QUE_SS_SRC_LO p) (Reg.QUE_SS_SRC_HI p)) ∧
    (∀ n, n = (if s.rbit (Reg.QUE_SS_CFG_VLAN_EN p) then 16 else 12) →
      ((s.ssBody p h l).drop n).take 2 = beBytes 2 (s.rget (Reg.QUE_SS_FRAME_ETYPE p)) ∧
      ((s.ssBody p h l).drop (n + 2)).take 4 = beBytes 2 s.devid ++ beBytes 2 (h.kind * 2 ^ 12 + h.queue) ∧
      ((s.ssBody p h l).drop (n + 6)).take 16 = beBytes 4 h.seq ++ beBytes 12 (dts96 h.dts) ∧
      ((s.ssBody p h l).drop (n + 26)).take l.length = l)

/-- A port that is not enabled, or has no block lock, sends nothing (12 R395). -/
def ssSendNothing : Prop :=
  ∀ (s : State) (t p : Nat),
  s.rbit (Reg.QUE_SS_CFG_EN p) = false ∨ (s.ssp p).lock = false →
  Runs (.ssFrameSend t p) s fun u =>
    u.que = s.que ∧
    (∀ a, u.wordN a = s.wordN a ∧ u.cget a = s.cget a)

/-- SS_BATCH_TIMEOUT of a queue whose first item has waited BATCH_NS (12 R393): its items frame may leave. -/
def ssBatchTimeout : Prop :=
  ∀ (s : State) (t p q : Nat) (i : QItem) (rest : List QItem),
  p < 2 ∧ s.ssConsumer (s.q q).consumer = some p ∧ (s.q q).items = i :: rest ∧ i.kind = 1 ∧ i.vis + s.ssBatch p ≤ t →
  Runs (.ssBatchTimeout t p q) s fun u =>
    u.ssReady p q = true ∧ u.q q = s.q q

/-- SS_BLOCK_LOCK_CHANGE (12 R395): LINK_DOWN follows, and code 5 names SS1 while SS0 has no lock. -/
def ssLock : Prop :=
  ∀ (s : State) (t p : Nat) (lock : Bool),
  p < 2 ∧ s.domOn 97 = true →
  Runs (.ssBlockLockChange t p lock) s fun u =>
    (u.ssp p).lock = lock ∧ u.rbit (Reg.QUE_SS_LIVE_LINK_DOWN p) = !lock ∧
    (p = 0 → u.rbit Reg.QUE_LIVE_SS0_DOWN = (!lock) ∧ u.ssConsumer 5 = some (if lock = true then 0 else 1)) ∧
    (p = 1 → u.rbit Reg.QUE_LIVE_SS1_DOWN = (!lock) ∧ u.ssConsumer 5 = s.ssConsumer 5)

/-- SS_FRAME_RECEIVED of an items frame of one item that R396 accepts (12 R396, R374): counted, and the item is pushed with the DTS of the
frame's entry. -/
def ssItems : Prop :=
  ∀ (s : State) (t p : Nat) (f : SsFrame),
  p < 2 ∧ s.rbit (Reg.QUE_SS_CFG_EN p) = true ∧ (s.ssp p).lock = true ∧ f.etype ≠ 0x8808 →
  f.fcsOk = true ∧ f.dst = s.wordN (Reg.QUE_SS_SRC_LO p) + s.wordN (Reg.QUE_SS_SRC_HI p) % 65536 * 2 ^ 32 ∧ f.etype = s.rget (Reg.QUE_SS_FRAME_ETYPE p) →
  s.rbit (Reg.QUE_SS_CFG_VLAN_EN p) = false ∧ f.vid = none ∧ f.devid = s.rget Reg.SYP_ARC_ID_DEVID →
  (s.q f.queue).mode = 1 ∧ (s.q f.queue).producer = 4 + p ∧ f.kind = 1 ∧ f.countOfs = 1 ∧ 48 ≤ f.payload.length ∧ (s.q f.queue).full = false ∧ (s.q f.queue).group < 256 →
  (s.que.waits.all fun w => w.queue != f.queue) = true →
  Runs (.ssFrameReceived t p f) s fun u =>
    (u.q f.queue).items = (s.q f.queue).items ++ [{ data := BitVec.ofNat 256 (ofLe (f.payload.take 32)), kind := 1, dts := t - f.age, vis := t }] ∧
    u.cget (Ctr.QUE_SS_FRAMES_RX p) = (s.cget (Ctr.QUE_SS_FRAMES_RX p) + 1) % 2 ^ 48 ∧ u.cget (Ctr.QUE_SS_BYTES_RX p) = (s.cget (Ctr.QUE_SS_BYTES_RX p) + f.len) % 2 ^ 48

/-- A fragment that ends its packet commits it (12 R396): the words of all its bytes become visible. -/
def ssFragments : Prop :=
  ∀ (s : State) (t p : Nat) (f : SsFrame),
  p < 2 ∧ s.rbit (Reg.QUE_SS_CFG_EN p) = true ∧ (s.ssp p).lock = true ∧ f.etype ≠ 0x8808 →
  f.fcsOk = true ∧ f.dst = s.wordN (Reg.QUE_SS_SRC_LO p) + s.wordN (Reg.QUE_SS_SRC_HI p) % 65536 * 2 ^ 32 ∧ f.etype = s.rget (Reg.QUE_SS_FRAME_ETYPE p) →
  s.rbit (Reg.QUE_SS_CFG_VLAN_EN p) = false ∧ f.vid = none ∧ f.devid = s.rget Reg.SYP_ARC_ID_DEVID →
  (s.q f.queue).mode = 2 ∧ (s.q f.queue).producer = 4 + p ∧ f.kind = 2 ∧ f.last = true ∧ f.payload ≠ [] ∧ (s.q f.queue).group < 256 →
  (s.q f.queue).frag ≠ [] ∧ f.countOfs = (s.q f.queue).frag.length ∧ (s.q f.queue).frag.length + f.payload.length ≤ 16384 →
  (s.q f.queue).spillFull = false ∧ s.shareOut (s.q f.queue).group = false ∧ (s.q f.queue).items.length + (s.q f.queue).taken + pktWords ((s.q f.queue).frag.length + f.payload.length) < (s.q f.queue).cap →
  (s.que.waits.all fun w => w.queue != f.queue) = true →
  Runs (.ssFrameReceived t p f) s fun u =>
    (u.q f.queue).items = (s.q f.queue).items ++ pktItems ((s.q f.queue).frag.length + f.payload.length) (wordsOf ((s.q f.queue).frag ++ f.payload)) (((s.q f.queue).build.head?.map (·.dts)).getD (t - f.age)) t ∧
    (u.q f.queue).frag = [] ∧ (u.q f.queue).build = [] ∧ (u.q f.queue).pushed = ((s.q f.queue).pushed + 1) % 2 ^ 32

/-- A frame that R396 does not accept is discarded and counted; one with a bad FCS counts there too. -/
def ssDropped : Prop :=
  ∀ (s : State) (t p : Nat) (f : SsFrame),
  p < 2 ∧ s.rbit (Reg.QUE_SS_CFG_EN p) = true ∧ (s.ssp p).lock = true ∧ f.etype ≠ 0x8808 →
  f.fcsOk = false ∨ f.dst ≠ s.wordN (Reg.QUE_SS_SRC_LO p) + s.wordN (Reg.QUE_SS_SRC_HI p) % 65536 * 2 ^ 32 ∨ f.etype ≠ s.rget (Reg.QUE_SS_FRAME_ETYPE p) ∨ f.devid ≠ s.rget Reg.SYP_ARC_ID_DEVID ∨ (s.q f.queue).producer ≠ 4 + p →
  Runs (.ssFrameReceived t p f) s fun u =>
    u.que.qs = s.que.qs ∧ u.cget (Ctr.QUE_SS_RX_DROP p) = (s.cget (Ctr.QUE_SS_RX_DROP p) + 1) % 2 ^ 48 ∧ u.rbit (Reg.QUE_SS_LIVE_RX_DROP p) = true ∧
    (f.fcsOk = false → u.cget (Ctr.QUE_SS_FCS_ERR p) = (s.cget (Ctr.QUE_SS_FCS_ERR p) + 1) % 2 ^ 48) ∧
    u.cget (Ctr.QUE_SS_FRAMES_RX p) = s.cget (Ctr.QUE_SS_FRAMES_RX p)

/-- A MAC control frame is discarded and counted in CTRL_DROP (12 R390). -/
def ssControl : Prop :=
  ∀ (s : State) (t p : Nat) (f : SsFrame),
  p < 2 ∧ s.rbit (Reg.QUE_SS_CFG_EN p) = true ∧ (s.ssp p).lock = true ∧ f.etype = 0x8808 →
  Runs (.ssFrameReceived t p f) s fun u =>
    u.que = s.que ∧ u.cget (Ctr.QUE_SS_CTRL_DROP p) = (s.cget (Ctr.QUE_SS_CTRL_DROP p) + 1) % 2 ^ 48 ∧ u.rbit (Reg.QUE_SS_LIVE_CTRL_RX p) = true

/-! ### OverheadPortsCarryRecordsBothWays -/

/-- PORT_FRAME_START of a RUNNING port (13 R399, R404, R405): OCC, and the records available before the start, up to R_max, oldest first, then
zeros: L slots. -/
def oapFrame : Prop :=
  ∀ (s : State) (t n : Nat) (l : List DropRec) (b : List Byte),
  n < 8 ∧ s.rbit (Reg.OAP_CFG_EN n) = true ∧ s.rbit (Reg.OAP_CFG_DROP_EN n) = true ∧ s.oapState n = oapRunning →
  l = (((s.port n).drop.filter fun r => decide (r.avail < t)).take (rMax (s.oapL n) (s.dropMask n))) →
  b = BitVec.ofNat 8 l.length :: l.flatMap (fun r => BitVec.ofNat 8 r.tag :: r.bytes) →
  Runs (.portFrameStart t n false) s fun u =>
    Out.oapFrame n (b ++ List.replicate (s.oapL n - b.length) 0) ∈ u.out ∧
    (u.port n).drop = (s.port n).drop ∧ (u.port n).open_ = true ∧ u.oapState n = oapRunning ∧ (u.port n).placed = l.length

/-- R_max records of K + 1 bytes fit the slots after OCC, and one more does not (13 R404). -/
def rMaxRule : Prop :=
    ∀ (l m : Nat), 1 ≤ l → 1 + rMax l m * (ones64 m + 1) ≤ l ∧ l < 1 + (rMax l m + 1) * (ones64 m + 1)

/-- PORT_FRAME_START before the frame ended (13 R401, R405, R408): FS_ERR; the records cut short stay in the FIFO; the insert frame is
discarded and counted. -/
def oapEarly : Prop :=
  ∀ (s : State) (t n : Nat),
  n < 8 ∧ s.rbit (Reg.OAP_CFG_EN n) = true ∧ (s.port n).open_ = true →
  Runs (.portFrameStart t n true) s fun u =>
    u.cget (Ctr.OAP_FS_ERR n) = (s.cget (Ctr.OAP_FS_ERR n) + 1) % 2 ^ 48 ∧ u.rbit (Reg.OAP_LIVE_FS_ERR n) = true ∧
    (u.port n).drop = (s.port n).drop ∧ (u.port n).ins = (s.port n).ins ∧
    (s.rbit (Reg.OAP_CFG_INS_EN n) = true → u.cget (Ctr.OAP_INS_FRAME_ERR n) = (s.cget (Ctr.OAP_INS_FRAME_ERR n) + 1) % 2 ^ 48)

/-- In CLK_LOST the port sends fill frames (13 R418). -/
def oapFill : Prop :=
  ∀ (s : State) (t n : Nat) (early : Bool),
  n < 8 ∧ s.rbit (Reg.OAP_CFG_EN n) = true ∧ s.oapState n = oapLost →
  Runs (.portFrameStart t n early) s fun u =>
    Out.oapFrame n (0xFF :: List.replicate (s.oapL n - 1) 0) ∈ u.out ∧ (u.port n).open_ = false ∧ u.oapState n = oapLost

/-- PORT_FRAME_COMPLETE (13 R405): the records it carried leave the FIFO and count. -/
def oapComplete : Prop :=
  ∀ (s : State) (t n occ : Nat) (recs : List InsRec),
  n < 8 ∧ (s.port n).open_ = true →
  Runs (.portFrameComplete t n occ recs) s fun u =>
    (u.port n).drop = (s.port n).drop.drop (s.port n).placed ∧ (u.port n).open_ = false ∧
    u.cget (Ctr.OAP_DROP_RECORDS n) = (s.cget (Ctr.OAP_DROP_RECORDS n) + (s.port n).placed) % 2 ^ 48

/-- A complete insert frame with OCC up to R_max (13 R408): its records enter the FIFO. -/
def oapInsert : Prop :=
  ∀ (s : State) (t n occ : Nat) (recs : List InsRec),
  n < 8 ∧ (s.port n).open_ = true ∧ s.rbit (Reg.OAP_CFG_INS_EN n) = true →
  occ ≤ rMax (s.oapL n) (s.insMask n) ∧ recs.length = occ ∧ (s.port n).ins.length + occ ≤ 16 ∧ (s.oapState n ≠ oapArmed ∨ (s.port n).start ≠ none) →
  Runs (.portFrameComplete t n occ recs) s fun u =>
    (u.port n).ins = (s.port n).ins ++ recs ∧ u.cget (Ctr.OAP_INS_FRAME_ERR n) = s.cget (Ctr.OAP_INS_FRAME_ERR n) ∧
    u.rget (Reg.OAP_STAT_INS_FIFO n) = (s.port n).ins.length + occ

/-- An OCC above R_max: the whole frame is discarded and counted (13 R408). -/
def oapInsertBad : Prop :=
  ∀ (s : State) (t n occ : Nat) (recs : List InsRec),
  n < 8 ∧ (s.port n).open_ = true ∧ s.rbit (Reg.OAP_CFG_INS_EN n) = true ∧ rMax (s.oapL n) (s.insMask n) < occ →
  Runs (.portFrameComplete t n occ recs) s fun u =>
    (u.port n).ins = (s.port n).ins ∧ u.cget (Ctr.OAP_INS_FRAME_ERR n) = (s.cget (Ctr.OAP_INS_FRAME_ERR n) + 1) % 2 ^ 48

/-- A record for a full insert FIFO is dropped and counted in INS_LATE (13 R408). -/
def oapInsertFull : Prop :=
  ∀ (s : State) (t n : Nat) (r : InsRec),
  n < 8 ∧ (s.port n).open_ = true ∧ s.rbit (Reg.OAP_CFG_INS_EN n) = true ∧ 1 ≤ rMax (s.oapL n) (s.insMask n) ∧ (s.port n).ins.length = 16 ∧ (s.oapState n ≠ oapArmed ∨ (s.port n).start ≠ none) →
  Runs (.portFrameComplete t n 1 [r]) s fun u =>
    (u.port n).ins = (s.port n).ins ∧ u.cget (Ctr.OAP_INS_LATE n) = (s.cget (Ctr.OAP_INS_LATE n) + 1) % 2 ^ 48 ∧ u.rbit (Reg.OAP_LIVE_INS_LATE n) = true

/-- Before its start instant an ARMED port discards the records it is sent, too (13 R415: every record). (DEDUCED, log entry 72) -/
def armedInsertDiscards : Prop :=
  ∀ (s : State) (t n occ : Nat) (recs : List InsRec),
  n < 8 ∧ (s.port n).open_ = true ∧ s.oapState n = oapArmed ∧ (s.port n).start = none →
  Runs (.portFrameComplete t n occ recs) s fun u =>
    (u.port n).ins = (s.port n).ins ∧ (u.port n).open_ = false

/-- The head of the insert FIFO for a frame of MFAS x at t (13 R409): d is 0 and its last byte 1 µs old: inserted; sooner: kept; d from 1 to
127: kept. -/
def insertRule : Prop :=
    ∀ (t x : Nat) (r : InsRec) (rest : List InsRec),
    ((r.tag + 256 - x % 256) % 256 = 0 → r.at_ + us 1 ≤ t → insHead t x (r :: rest) = (0, rest, some r)) ∧
    ((r.tag + 256 - x % 256) % 256 = 0 → t < r.at_ + us 1 → insHead t x (r :: rest) = (0, r :: rest, none)) ∧
    (1 ≤ (r.tag + 256 - x % 256) % 256 → (r.tag + 256 - x % 256) % 256 ≤ 127 → insHead t x (r :: rest) = (0, r :: rest, none)) ∧
    (128 ≤ (r.tag + 256 - x % 256) % 256 → insHead t x (r :: rest) = ((insHead t x rest).1 + 1, (insHead t x rest).2.1, (insHead t x rest).2.2))

/-- FS_MISSING (13 R401): counted; what OAn_DIN carries is ignored until the next assertion. -/
def fsMissing : Prop :=
  ∀ (s : State) (t n : Nat),
  n < 8 ∧ s.rbit (Reg.OAP_CFG_EN n) = true ∧ s.oapState n ≠ oapLost →
  Runs (.fsMissing t n) s fun u =>
    u.cget (Ctr.OAP_FS_ERR n) = (s.cget (Ctr.OAP_FS_ERR n) + 1) % 2 ^ 48 ∧ (u.port n).open_ = false ∧ (u.port n).drop = (s.port n).drop

/-- DROP_RECORD_AVAILABLE on a RUNNING port with room (13 R402): the tag and the bytes DROP_MASK selects, in ascending order. -/
def dropRecord : Prop :=
  ∀ (s : State) (t n mfas arr : Nat) (oh : List Byte),
  n < 8 ∧ s.rbit (Reg.OAP_CFG_EN n) = true ∧ s.rbit (Reg.OAP_CFG_DROP_EN n) = true ∧ s.oapState n = oapRunning ∧ (s.port n).drop.length < 16 →
  s.oapSource t n oh = true ∧ (oh.getD 6 0).toNat = mfas ∧ arr ≤ t →
  Runs (.dropRecordAvailable t n mfas arr oh) s fun u =>
    (u.port n).drop = (s.port n).drop ++ [⟨t, mfas, selectBytes (s.dropMask n) oh⟩] ∧
    u.rget (Reg.OAP_STAT_DROP_FIFO n) = (s.port n).drop.length + 1

/-- With the FIFO full the new record is dropped, counted, and RATIO_OOR rises (13 R406). -/
def dropRecordFull : Prop :=
  ∀ (s : State) (t n mfas arr : Nat) (oh : List Byte),
  n < 8 ∧ s.rbit (Reg.OAP_CFG_EN n) = true ∧ s.rbit (Reg.OAP_CFG_DROP_EN n) = true ∧ s.oapState n = oapRunning ∧ 16 ≤ (s.port n).drop.length →
  s.oapSource t n oh = true ∧ (oh.getD 6 0).toNat = mfas ∧ arr ≤ t →
  Runs (.dropRecordAvailable t n mfas arr oh) s fun u =>
    (u.port n).drop = (s.port n).drop ∧ u.cget (Ctr.OAP_DROP_OVF n) = (s.cget (Ctr.OAP_DROP_OVF n) + 1) % 2 ^ 48 ∧ u.rbit (Reg.OAP_LIVE_RATIO_OOR n) = true

/-- RATIO_OOR_CLEAR after 1 ms without a drop (13 R406). -/
def ratioClear : Prop :=
  ∀ (s : State) (t n : Nat),
  n < 8 ∧ (s.port n).lastDrop + ms 1 ≤ t →
  Runs (.ratioOorClear t n) s fun u =>
    u.rbit (Reg.OAP_LIVE_RATIO_OOR n) = false ∧ u.port n = s.port n

/-- RATIO_WINDOW (13 R407): source frames per port frame of the millisecond, in units of 1/256. -/
def ratioWindow : Prop :=
  ∀ (s : State) (t n : Nat),
  n < 8 ∧ s.rbit (Reg.OAP_CFG_EN n) = true ∧ t % ms 1 = 0 ∧ (s.port n).pframes ≠ 0 ∧ (s.port n).frames * 256 / (s.port n).pframes ≤ 0xFFFF →
  Runs (.ratioWindow t n) s fun u =>
    u.rget (Reg.OAP_RATIO_V n) = (s.port n).frames * 256 / (s.port n).pframes ∧ (u.port n).frames = 0 ∧ (u.port n).pframes = 0

/-- What happens on one port changes nothing in another (13 R413). -/
def portsApart : Prop :=
    ∀ (s : State) (t n m occ mfas arr : Nat) (early : Bool) (recs : List InsRec) (oh : List Byte), m < 8 → m ≠ n →
    ∀ c ∈ [Instr.portFrameStart t n early, .portFrameComplete t n occ recs, .fsMissing t n, .dropRecordAvailable t n mfas arr oh,
      .ratioOorClear t n, .ratioWindow t n, .clkLost t n, .realign t n],
    Runs c s fun u => u.port m = s.port m ∧ (∀ a ∈ [Reg.OAP_CFG m, Reg.OAP_STAT m, Reg.OAP_RATIO m, Reg.OAP_LIVE m], u.wordN a = s.wordN a) ∧
      ∀ a ∈ [Ctr.OAP_DROP_RECORDS m, Ctr.OAP_DROP_OVF m, Ctr.OAP_INS_RECORDS m, Ctr.OAP_INS_UNDERRUN m, Ctr.OAP_INS_LATE m, Ctr.OAP_INS_FRAME_ERR m,
        Ctr.OAP_FS_ERR m, Ctr.OAP_CLK_LOSSES m], u.cget a = s.cget a

/-! ### OverheadPortsStartRealignAndAreConfigured -/

/-- GO (13 R414): a start instant is awaited. -/
def go : Prop :=
  ∀ (s : State) (t : Nat),
  s.domOn 97 = true ∧ s.rbit Reg.OAP_START_PENDING = false →
  Runs (.go t) s fun u =>
    u.rbit Reg.OAP_START_PENDING = true ∧ u.oap.trig = t ∧ u.cget Ctr.OAP_START_IGNORED = s.cget Ctr.OAP_START_IGNORED

/-- A trigger while a start instant is pending is ignored and counted, unless it falls at the DTS of the first (13 R416). -/
def goIgnored : Prop :=
  ∀ (s : State) (t : Nat),
  s.domOn 97 = true ∧ s.rbit Reg.OAP_START_PENDING = true →
  s.cget Ctr.OAP_START_IGNORED < 2 ^ 48 →
  Runs (.go t) s fun u =>
    u.oap = s.oap ∧ u.cget Ctr.OAP_START_IGNORED = (s.cget Ctr.OAP_START_IGNORED + if s.oap.trig = t then 0 else 1) % 2 ^ 48

/-- OAP_START writes GO (13 R414). -/
def oapStart : Prop :=
  ∀ (s : State) (t : Nat) (d : Desc),
  s.cmdReady t d = true →
  s.domOn 97 = true ∧ s.rbit Reg.OAP_START_PENDING = false →
  Runs (.oapStart t d) s fun u =>
    s.completes u (okCpl d 0x0603 t) ∧
    u.rbit Reg.OAP_START_PENDING = true ∧ u.oap.trig = t

/-- START_INSTANT of a slice of GROUP, in frame with MFAS 0, at or after the trigger (13 R414, R415): recorded; the armed ports keep it. -/
def startInstant : Prop :=
  ∀ (s : State) (t n : Nat),
  s.rbit Reg.OAP_START_PENDING = true ∧ s.sliceGrp n = some (s.rget Reg.OAP_START_GROUP) ∧ s.oap.trig ≤ t →
  (s.al (sliceKey n)).on = true ∧ (s.al (sliceKey n)).st = .inFrame →
  (s.al (sliceKey n)).mfas.have_ = true ∧ (s.al (sliceKey n)).mfas.out = false ∧ (s.al (sliceKey n)).mfas.ref = 0 →
  Runs (.startInstant t n) s fun u =>
    u.rbit Reg.OAP_START_PENDING = false ∧ u.dtsWords Reg.OAP_START_DTS0 = dts96 t % 2 ^ 96 ∧
    (∀ m < 8, s.rbit (Reg.OAP_CFG_EN m) = true ∧ s.rbit (Reg.OAP_CFG_START_ARM m) = true ∧ s.oapState m = oapArmed → (u.port m).start = some t)

/-- An ARMED port discards every record of a frame that arrives before the start instant (13 R415). -/
def armedDiscards : Prop :=
  ∀ (s : State) (t n mfas arr : Nat) (oh : List Byte),
  n < 8 ∧ s.rbit (Reg.OAP_CFG_EN n) = true ∧ s.oapState n = oapArmed ∧ (s.port n).start.all (fun x => decide (arr < x)) = true →
  Runs (.dropRecordAvailable t n mfas arr oh) s fun u =>
    (u.port n).drop = (s.port n).drop ∧ u.oapState n = oapArmed

/-- From the start instant on it keeps them (13 R415). -/
def armedKeeps : Prop :=
  ∀ (s : State) (t n mfas arr x : Nat) (oh : List Byte),
  n < 8 ∧ s.rbit (Reg.OAP_CFG_EN n) = true ∧ s.rbit (Reg.OAP_CFG_DROP_EN n) = true ∧ s.oapState n = oapArmed →
  (s.port n).start = some x ∧ x ≤ arr ∧ (s.port n).drop = [] →
  s.oapSource t n oh = true ∧ (oh.getD 6 0).toNat = mfas ∧ arr ≤ t →
  Runs (.dropRecordAvailable t n mfas arr oh) s fun u =>
    (u.port n).drop = [⟨t, mfas, selectBytes (s.dropMask n) oh⟩] ∧ u.oapState n = oapArmed

/-- The first port frame that starts after the first record became available carries it; the port is RUNNING and START_ARM clear (13 R415,
R419). -/
def armedRuns : Prop :=
  ∀ (s : State) (t n : Nat) (r : DropRec),
  n < 8 ∧ s.rbit (Reg.OAP_CFG_EN n) = true ∧ s.rbit (Reg.OAP_CFG_DROP_EN n) = true ∧ (s.oapState n = oapArmed ∨ s.oapState n = oapRealign) →
  (s.port n).drop = [r] ∧ r.avail < t ∧ 1 ≤ rMax (s.oapL n) (s.dropMask n) →
  Runs (.portFrameStart t n false) s fun u =>
    Out.oapFrame n (s.oapSlots n 1 [r]) ∈ u.out ∧
    u.oapState n = oapRunning ∧ u.rbit (Reg.OAP_CFG_START_ARM n) = false ∧ u.rbit (Reg.OAP_LIVE_STARTED n) = true ∧ u.rbit (Reg.OAP_LIVE_CLK_LOST n) = false

/-- CLK_LOST (13 R417, R418): both FIFOs clear, the drop records count in DROP_OVF without RATIO_OOR; a start instant at that DTS is lost
(R419). -/
def clkLost : Prop :=
  ∀ (s : State) (t n : Nat),
  n < 8 ∧ s.rbit (Reg.OAP_CFG_EN n) = true ∧ s.oapState n ≠ oapLost →
  Runs (.clkLost t n) s fun u =>
    u.oapState n = oapLost ∧ u.rbit (Reg.OAP_LIVE_CLK_LOST n) = true ∧ (u.port n).drop = [] ∧ (u.port n).ins = [] ∧ (u.port n).start = none ∧
    u.cget (Ctr.OAP_DROP_OVF n) = (s.cget (Ctr.OAP_DROP_OVF n) + (s.port n).drop.length) % 2 ^ 48 ∧
    u.cget (Ctr.OAP_CLK_LOSSES n) = (s.cget (Ctr.OAP_CLK_LOSSES n) + 1) % 2 ^ 48 ∧ u.rbit (Reg.OAP_LIVE_RATIO_OOR n) = s.rbit (Reg.OAP_LIVE_RATIO_OOR n)

/-- REALIGN after a good millisecond (13 R419): STATE is REALIGN and LIVE.CLK_LOST stays. -/
def realign : Prop :=
  ∀ (s : State) (t n : Nat),
  n < 8 ∧ s.domOn 97 = true ∧ s.oapState n = oapLost ∧ (s.port n).realign + ms 1 ≤ t →
  Runs (.realign t n) s fun u =>
    u.oapState n = oapRealign ∧ u.rbit (Reg.OAP_LIVE_CLK_LOST n) = true ∧ (u.port n).realign = t

/-- In REALIGN the record of the first frame with MFAS 0 that arrived after the millisecond is kept (13 R419): it is the first that a port
frame carries, with which the port is RUNNING. -/
def realignRuns : Prop :=
  ∀ (s : State) (t n arr : Nat) (oh : List Byte),
  n < 8 ∧ s.rbit (Reg.OAP_CFG_EN n) = true ∧ s.rbit (Reg.OAP_CFG_DROP_EN n) = true ∧ s.oapState n = oapRealign →
  (s.port n).realign < arr ∧ (s.port n).drop = [] →
  s.oapSource t n oh = true ∧ oh.getD 6 0 = 0 ∧ arr ≤ t →
  Runs (.dropRecordAvailable t n 0 arr oh) s fun u =>
    (u.port n).drop = [⟨t, 0, selectBytes (s.dropMask n) oh⟩] ∧ u.oapState n = oapRealign

/-- OAP_CFG_WRITE that enables a port (13 R420, R415): its FIFOs are empty; ARMED with START_ARM, else RUNNING. -/
def oapEnable : Prop :=
  ∀ (s : State) (t n v : Nat) (a : Access),
  s.accessFault a = none ∧ a.off = Reg.OAP_CFG n ∧ n < 8 ∧ s.rbit (Reg.OAP_CFG_EN n) = false →
  bit v 0 = true ∧ bit v 2 = false ∧ (bit v 1 = true → 1 ≤ rMax (bits v 6 10 + 1) (s.dropMask n)) →
  (a.size = 8 → 1 ≤ s.layer (bits v 32 16) ∧ s.layer (bits v 32 16) ≤ 4) →
  Runs (.oapCfgWrite t a v) s fun u =>
    u.wordN (Reg.OAP_CFG n) = v % 2 ^ 16 ∧ (a.size = 8 → u.rget (Reg.OAP_SRC_ENTRY n) = bits v 32 16) ∧ u.port n = {} ∧ u.oapState n = if bit v 5 = true then oapArmed else oapRunning

/-- A write that clears EN and changes nothing else disables the port and discards both FIFOs (13 R420). -/
def oapDisable : Prop :=
  ∀ (s : State) (t n v : Nat) (a : Access),
  s.accessFault a = none ∧ a.size = 4 ∧ a.off = Reg.OAP_CFG n ∧ n < 8 ∧ s.rbit (Reg.OAP_CFG_EN n) = true →
  v % 2 ^ 16 = s.wordN (Reg.OAP_CFG n) % 2 ^ 16 - 1 →
  Runs (.oapCfgWrite t a v) s fun u =>
    u.rbit (Reg.OAP_CFG_EN n) = false ∧ u.port n = {} ∧ u.oapState n = 0

/-- The same of an access that also covers OAP_SRC is refused whole: OAP_SRC does not change while EN is set (14 R420; 17 R503). -/
def oapDisableWide : Prop :=
  ∀ (s : State) (t n v : Nat) (a : Access),
  s.accessFault a = none ∧ a.size = 8 ∧ a.off = Reg.OAP_CFG n ∧ n < 8 ∧ s.rbit (Reg.OAP_CFG_EN n) = true →
  Runs (.oapCfgWrite t a v) s fun u =>
    u.wordN (Reg.OAP_CFG n) = s.wordN (Reg.OAP_CFG n) ∧ u.oap = s.oap ∧
    violationEntry u (s.wordN Reg.SYS_VIOL_CNT % 64) a true 4 true ((s.wordN Reg.SYS_VIOL_CNT + 1) % 2 ^ 32)

/-- Any other write of OAP_CFG while EN is set is refused with CA and recorded (13 R420). -/
def oapCfgHeld : Prop :=
  ∀ (s : State) (t n v : Nat) (a : Access),
  s.accessFault a = none ∧ a.off = Reg.OAP_CFG n ∧ n < 8 ∧ s.rbit (Reg.OAP_CFG_EN n) = true →
  bits v 6 10 ≠ s.rget (Reg.OAP_CFG_SLOTS_M1 n) →
  Runs (.oapCfgWrite t a v) s fun u =>
    Out.refused a.tag true ∈ u.out ∧ u.oap = s.oap ∧ u.wordN (Reg.OAP_CFG n) = s.wordN (Reg.OAP_CFG n) ∧ u.wordN Reg.SYS_VIOL_CNT = (s.wordN Reg.SYS_VIOL_CNT + 1) % 2 ^ 32

/-- OAP_MASK_WRITE of the lower DROP_MASK word while the port is off (13 R402, R420): the mask, and K_D in OAP_STAT. -/
def oapMask : Prop :=
  ∀ (s : State) (t n v : Nat) (a : Access),
  s.accessFault a = none ∧ a.off = Reg.OAP_DROP_MASK_LO n ∧ n < 8 ∧ s.rbit (Reg.OAP_CFG_EN n) = false ∧ s.rbit (Reg.OAP_CFG_DROP_EN n) = false →
  Runs (.oapMaskWrite t a v) s fun u =>
    u.wordN (Reg.OAP_DROP_MASK_LO n) = v % 2 ^ 32 ∧ u.rget (Reg.OAP_STAT_K_DROP n) = ones64 (v % 2 ^ 32 + (if a.size = 8 then bits v 32 32 else s.wordN (Reg.OAP_DROP_MASK_HI n)) * 2 ^ 32)

/-- INS_MASK bits 0 to 6 must be zero (13 R403): discarded, CA, REASON 9. -/
def oapMaskRefused : Prop :=
  ∀ (s : State) (t n v : Nat) (a : Access),
  s.accessFault a = none ∧ a.off = Reg.OAP_INS_MASK_LO n ∧ n < 8 ∧ s.rbit (Reg.OAP_CFG_EN n) = false ∧ v % 128 ≠ 0 →
  Runs (.oapMaskWrite t a v) s fun u =>
    u.wordN (Reg.OAP_INS_MASK_LO n) = s.wordN (Reg.OAP_INS_MASK_LO n) ∧ Out.refused a.tag true ∈ u.out ∧
    violationEntry u (s.wordN Reg.SYS_VIOL_CNT % 64) a true 9 true ((s.wordN Reg.SYS_VIOL_CNT + 1) % 2 ^ 32)

/-- OAP_SRC_WRITE of an entry of LAYER 1 to 4 while the port is off and inserts nothing (13 R420). -/
def oapSource : Prop :=
  ∀ (s : State) (t n v : Nat) (a : Access),
  s.accessFault a = none ∧ a.off = Reg.OAP_SRC n ∧ n < 8 ∧ s.rbit (Reg.OAP_CFG_EN n) = false ∧ s.rbit (Reg.OAP_CFG_INS_EN n) = false →
  1 ≤ s.layer (v % 65536) ∧ s.layer (v % 65536) ≤ 4 →
  Runs (.oapSrcWrite t a v) s fun u =>
    u.rget (Reg.OAP_SRC_ENTRY n) = v % 65536

/-- Any other LAYER is refused with REASON 9 (13 R420). -/
def oapSourceBad : Prop :=
  ∀ (s : State) (t n v : Nat) (a : Access),
  s.accessFault a = none ∧ a.off = Reg.OAP_SRC n ∧ n < 8 ∧ s.rbit (Reg.OAP_CFG_EN n) = false →
  s.layer (v % 65536) = 0 ∨ 4 < s.layer (v % 65536) →
  Runs (.oapSrcWrite t a v) s fun u =>
    u.rget (Reg.OAP_SRC_ENTRY n) = s.rget (Reg.OAP_SRC_ENTRY n) ∧ violationEntry u (s.wordN Reg.SYS_VIOL_CNT % 64) a true 9 true ((s.wordN Reg.SYS_VIOL_CNT + 1) % 2 ^ 32)

/-- A port that would insert into bytes another port inserts into, in one source, is refused (13 R412). -/
def oapOverlap : Prop :=
  ∀ (s : State) (t n m v : Nat) (a : Access),
  s.accessFault a = none ∧ a.off = Reg.OAP_CFG n ∧ n < 8 ∧ m < 8 ∧ m ≠ n ∧ s.rbit (Reg.OAP_CFG_EN n) = false ∧ bit v 2 = true →
  s.rbit (Reg.OAP_CFG_INS_EN m) = true ∧ s.rget (Reg.OAP_SRC_ENTRY m) = s.rget (Reg.OAP_SRC_ENTRY n) ∧ (s.insMask m &&& s.insMask n) ≠ 0 →
  Runs (.oapCfgWrite t a v) s fun u =>
    u.wordN (Reg.OAP_CFG n) = s.wordN (Reg.OAP_CFG n) ∧ u.oap = s.oap ∧ Out.refused a.tag true ∈ u.out

/-! ### PmSecondsSettleIntoBinsAndAlerts -/

/-- Table PMN-2: SES when the defect flag is set or 20 × errored blocks ≥ 3 × BLOCKS (14 R424), literally also of a second without blocks; ES
when SES or an errored block; BBE the errored blocks of an ES that is not SES. -/
def sesRule : Prop :=
    (∀ (d : Bool) (eb blocks : Nat), sesOf d eb blocks = true ↔ d = true ∨ 3 * blocks ≤ 20 * eb) ∧
    (∀ (ses : Bool) (eb : Nat), endPar false ses eb = [if ses = true ∨ 0 < eb then 1 else 0, if ses = true then 1 else 0, if ses = true then 0 else eb, 0]) ∧
    (∀ (ses : Bool) (eb : Nat), endPar true ses eb = [0, 0, 0, 1])

/-- While the near end has N_DEF the far end of the second is neither ES, SES nor BBE, and non-SES for unavailability (14 R425). -/
def farEndRule : Prop :=
    ∀ (b : BinRec) (a : SecAcc) (nU : Bool), a.nDef = true → a.bad = false → b.par.length = 8 → (∀ x ∈ b.par, x ≤ 0xFFFFFFFF) →
    a.fSes = false ∧ (b.addSec a nU false).par.drop 4 = b.par.drop 4

/-- Unavailable from the first of 10 consecutive SES, available from the first of 10 consecutive non-SES, all of them classified (14 R426,
R428). -/
def availabilityRule : Prop :=
    ∀ (h : PmH) (x : Nat) (p : SecAcc → Bool),
    (unavailAt h x false p = true ↔ ∀ k < 10, (h.sec (x + k)).bad = false ∧ p (h.sec (x + k)) = true) ∧
    (unavailAt h x true p = false ↔ ∀ k < 10, (h.sec (x + k)).bad = false ∧ p (h.sec (x + k)) = false)

/-- PM_SECOND_END: the second ten before enters the current fifteen-minute bin (14 R427); the bin goes on. -/
def pmSettles : Prop :=
  ∀ (s : State) (t e : Nat),
  settles s t e →
  (secOf t - 9) % 900 ≠ s.pm.ofs15 % 900 →
  Runs (.pmSecondEnd t) s fun u =>
    (u.pmE e).cur15.par = (settledBin (pmAt s e (secOf t - 1)) (secOf t - 10)).par ∧ (u.pmE e).cur15.validS = (settledBin (pmAt s e (secOf t - 1)) (secOf t - 10)).validS ∧
    (u.pmE e).cur15.nEb = (settledBin (pmAt s e (secOf t - 1)) (secOf t - 10)).nEb ∧ (u.pmE e).cur15.start = (s.pmE e).cur15.start ∧ (u.pmE e).hist15 = (s.pmE e).hist15 ∧
    u.pm.settled = secOf t - 9

/-- The bin whose last second has settled moves to the history, and its successor starts (14 R430). -/
def pmBinCompletes : Prop :=
  ∀ (s : State) (t e : Nat),
  settles s t e →
  (secOf t - 9) % 900 = s.pm.ofs15 % 900 →
  Runs (.pmSecondEnd t) s fun u =>
    ((u.pmE e).hist15.headD {}).par = (settledBin (pmAt s e (secOf t - 1)) (secOf t - 10)).par ∧ ((u.pmE e).hist15.headD {}).current = false ∧ (u.pmE e).hist15.tail = (s.pmE e).hist15.take 95 ∧
    (u.pmE e).cur15.start = secOf t - 9 ∧ (u.pmE e).cur15.current = true ∧ (u.pmE e).cur15.validS = 0 ∧ u.rbit Reg.PMN_LIVE_BIN15_DONE = true

/-- A count of the current fifteen-minute bin that reaches SET15 raises its alert and logs 0x4001 (14 R438, R440), unless it was raised in
this bin or still stands. -/
def pmAlert : Prop :=
  ∀ (s : State) (t e i : Nat),
  settles s t e →
  (secOf t - 9) % 900 ≠ s.pm.ofs15 % 900 ∧ i < 8 →
  0 < s.tca ((s.pmE e).profile % 64) i 0 ∧ (s.pmE e).profile < 64 →
  s.tca ((s.pmE e).profile % 64) i 0 ≤ (settledBin (pmAt s e (secOf t - 1)) (secOf t - 10)).par.getD i 0 →
  bit8 (s.pmE e).cur15.raised i = false ∧ bit8 (s.pmE e).stand i = false →
  Runs (.pmSecondEnd t) s fun u =>
    bit8 (u.pmE e).cur15.raised i = true ∧ u.rbit Reg.PMN_LIVE_TCA = true ∧
    (u.evl.pend.any fun x => x.code == 0x4001 && x.src == e && x.dts == t && x.detail == (i + (settledBin (pmAt s e (secOf t - 1)) (secOf t - 10)).par.getD i 0 * 65536) % 2 ^ 48) = true

/-- A RESET15 at or above SET15 acts as SET15 − 1 (14 R437). -/
def resetThreshold : Prop :=
    ∀ (s : State) (p i : Nat), s.tcaReset p i = if s.tca p i 0 ≤ s.tca p i 1 then s.tca p i 0 - 1 else s.tca p i 1

/-- PM_CFG of an entry that is in use (14 R431): the control word is written and the bins are clear. -/
def pmCfg : Prop :=
  ∀ (s : State) (t e prof : Nat) (d : Desc) (en fe : Bool),
  s.cmdReady t d = true →
  e ≤ 65535 ∧ prof ≤ 63 ∧ s.layer e ≠ 0 →
  Runs (.pmCfg t d e en fe prof) s fun u =>
    s.completes u (okCpl d 0x0204 t) ∧
    (u.pmE e).control = b2n en + 2 * b2n fe + prof * 256 ∧ (u.pmE e).hist15 = [] ∧ (u.pmE e).hist24 = [] ∧ (u.pmE e).cur15.validS = 0 ∧ (u.pmE e).secs = []

/-- PM_CFG of an entry with LAYER 0: E_STATE (17 Table HST-8). -/
def pmCfgUnused : Prop :=
  ∀ (s : State) (t e prof : Nat) (d : Desc) (en fe : Bool),
  s.cmdReady t d = true →
  e ≤ 65535 ∧ prof ≤ 63 ∧ s.layer e = 0 →
  Runs (.pmCfg t d e en fe prof) s fun u =>
    s.completes u ⟨d.tag, 9, 0x0204, 0x10, t, 0⟩ ∧
    u.pm = s.pm

/-! ### EventsAreNumberedAndFiled -/

/-- EVENT_LOG (14 R442, R443): the next SEQ, the count, the ring. -/
def eventLog : Prop :=
  ∀ (s : State) (t : Nat) (e : EvRec) (rest : List EvRec),
  s.evl.pend = e :: rest ∧ s.rbit Reg.EVL_LIVE_RING_OFF = false →
  Runs (.eventLog t) s fun u =>
    u.wordN Reg.EVL_SEQ = (s.wordN Reg.EVL_SEQ + 1) % 2 ^ 32 ∧ u.cget Ctr.EVL_LOGGED = (s.cget Ctr.EVL_LOGGED + 1) % 2 ^ 48 ∧
    (u.evl.ring.head?.map fun x => (x.1, x.2.ev, x.2.seq, x.2.devid, x.2.timeUnset)) = some (s.wordN Reg.EVL_SEQ % 2 ^ 26, e, s.wordN Reg.EVL_SEQ, s.rget Reg.SYP_ARC_ID_DEVID, !s.rbit Reg.TIM_TOD_STAT_TIME_SET) ∧
    u.evl.pend.take rest.length = rest ∧ u.evl.book = s.evl.book

/-- While row 6 is broken the ring is not written, and the record counts in RING_SKIPPED (14 R445). -/
def eventRingOff : Prop :=
  ∀ (s : State) (t : Nat) (e : EvRec) (rest : List EvRec),
  s.evl.pend = e :: rest ∧ s.rbit Reg.EVL_LIVE_RING_OFF = true →
  Runs (.eventLog t) s fun u =>
    u.evl.ring = s.evl.ring ∧ u.cget Ctr.EVL_RING_SKIPPED = (s.cget Ctr.EVL_RING_SKIPPED + 1) % 2 ^ 48 ∧ u.wordN Reg.EVL_SEQ = (s.wordN Reg.EVL_SEQ + 1) % 2 ^ 32

/-- A record whose SEV is in Q_MASK goes to Q7 for codes 0x4000 to 0x4FFF, else to Q[SEV] (14 R443). -/
def eventQueued : Prop :=
  ∀ (s : State) (t q : Nat) (e : EvRec) (rest : List EvRec),
  s.evl.pend = e :: rest ∧ bit (s.rget Reg.EVL_CFG_Q_MASK) e.sev = true →
  q = (if 0x4000 ≤ e.code ∧ e.code < 0x5000 then 7 else e.sev) ∧ q < 8 →
  (s.q q).mode = 1 ∧ (s.q q).full = false ∧ (s.q q).group < 256 ∧ (s.que.waits.all fun w => w.queue != q) = true →
  Runs (.eventLog t) s fun u =>
    (u.q q).items.length = (s.q q).items.length + 1 ∧ (u.q q).items.take (s.q q).items.length = (s.q q).items ∧ (u.q q).pushed = ((s.q q).pushed + 1) % 2 ^ 32 ∧
    ((u.q q).items.getLast?.map fun x => (x.kind, x.dts, x.data.toNat % 2 ^ 96)) = some (1, t, dts96 e.dts % 2 ^ 96)

/-- A record at or below LOGBOOK_SEV takes one record of the bucket and is MIRRORED (14 R443, R444). -/
def eventMirrored : Prop :=
  ∀ (s : State) (t : Nat) (e : EvRec) (rest : List EvRec),
  s.evl.pend = e :: rest ∧ s.rget Reg.EVL_CFG_LOGBOOK_SEV ≠ 7 ∧ e.sev ≤ s.rget Reg.EVL_CFG_LOGBOOK_SEV ∧ 0 < s.evl.bucket →
  Runs (.eventLog t) s fun u =>
    u.evl.bucket = s.evl.bucket - 1 ∧ u.cget Ctr.EVL_LB_SKIPPED = s.cget Ctr.EVL_LB_SKIPPED ∧
    (u.evl.mirror.map fun x => (x.1, x.2.ev, x.2.mirrored)) = (s.evl.mirror.map fun x => (x.1, x.2.ev, x.2.mirrored)) ++ [(t + ms 100, e, true)]

/-- A record that finds the bucket empty is not mirrored and counts in LB_SKIPPED (14 R444). -/
def eventSkipped : Prop :=
  ∀ (s : State) (t : Nat) (e : EvRec) (rest : List EvRec),
  s.evl.pend = e :: rest ∧ s.rget Reg.EVL_CFG_LOGBOOK_SEV ≠ 7 ∧ e.sev ≤ s.rget Reg.EVL_CFG_LOGBOOK_SEV ∧ s.evl.bucket = 0 →
  Runs (.eventLog t) s fun u =>
    u.evl.mirror = s.evl.mirror ∧ u.evl.skipped = s.evl.skipped + 1 ∧ u.cget Ctr.EVL_LB_SKIPPED = (s.cget Ctr.EVL_LB_SKIPPED + 1) % 2 ^ 48 ∧
    (s.evl.skipped = 0 → u.evl.skipSeq = s.wordN Reg.EVL_SEQ)

/-- LOGBOOK_MIRROR_WRITE (14 R443): the oldest mirrored record is the newest of the event area, which keeps 2,097,152. -/
def mirrorWrite : Prop :=
  ∀ (s : State) (t n : Nat) (r : LogRec) (rest : List (Nat × LogRec)),
  s.evl.mirror = (n, r) :: rest →
  Runs (.logbookMirrorWrite t) s fun u =>
    u.evl.mirror = rest ∧ u.evl.book = (r :: s.evl.book).take 2097152 ∧ u.cget Ctr.EVL_LB_WRITTEN = (s.cget Ctr.EVL_LB_WRITTEN + 1) % 2 ^ 48

/-- MIRROR_BUCKET_REFILL (14 R444): 2,000 records a second since the last, up to 20,000. -/
def bucketRefill : Prop :=
  ∀ (s : State) (t : Nat),
  Runs (.mirrorBucketRefill t) s fun u =>
    u.evl.bucket = min 20000 (s.evl.bucket + (t - s.evl.lastRefill) / us 500) ∧
    (s.evl.skipped = 0 ∨ u.evl.bucket = 0 → u.evl.skipped = s.evl.skipped)

/-- Once the bucket holds a record, 0x7001 carries the number skipped and the SEQ of the first (14 R444). -/
def bucketNotice : Prop :=
  ∀ (s : State) (t : Nat),
  0 < s.evl.skipped ∧ s.evl.skipped < 2 ^ 32 ∧ 0 < s.evl.bucket + (t - s.evl.lastRefill) / us 500 →
  Runs (.mirrorBucketRefill t) s fun u =>
    u.evl.skipped = 0 ∧ (u.evl.pend.any fun x => x.code == 0x7001 && x.sev == 3 && x.src == s.evl.skipSeq && x.detail == s.evl.skipped) = true

/-- LAST_1_MS_EXPIRY of a bit whose window has run out (14 R441): the LIVE bit falls. -/
def liveExpires : Prop :=
  ∀ (s : State) (t addr b : Nat) (p : Pulse),
  s.pulses.find? (fun x => decide (x.addr = addr ∧ x.bit = b ∧ x.until_ ≤ t)) = some p →
  Runs (.last1MsExpiry t addr b) s fun u =>
    u.rbit ⟨addr, b, 1⟩ = false ∧ u.pulses = s.pulses.filter fun x => x ≠ p

/-- Before that it stays up (14 R441). -/
def liveStays : Prop :=
  ∀ (s : State) (t addr b : Nat),
  s.pulses.find? (fun x => decide (x.addr = addr ∧ x.bit = b ∧ x.until_ ≤ t)) = none →
  Runs (.last1MsExpiry t addr b) s fun u =>
    u.pulses = s.pulses ∧
    (∀ x, u.wordN x = s.wordN x)

/-! ### CheckValueUnitsReportOneOutcome -/

/-- CHECK_UNIT_END whose value equals the expected one, the guard right (15 R456). -/
def unitMatch : Prop :=
  ∀ (s : State) (t n v : Nat) (g : Option Nat) (l : List Byte),
  n < 32 ∧ s.domOn 98 = true ∧ s.rbit (Reg.CVU_CFG_EN n) = true ∧ (s.cvUnitLen n).all (fun x => l.length == x) = true →
  s.cvExpect t n l = .value v g ∧ g.all (fun y => y == cvGuard (s.cvW n) v) = true ∧ crc (s.cvParam n) (s.cvData n l) = v % 2 ^ s.cvW n →
  Runs (.checkUnitEnd t n l) s fun u =>
    u.cget (Ctr.CVU_UNITS n) = (s.cget (Ctr.CVU_UNITS n) + 1) % 2 ^ 48 ∧ u.cget (Ctr.CVU_MATCHES n) = (s.cget (Ctr.CVU_MATCHES n) + 1) % 2 ^ 48 ∧
    u.cget (Ctr.CVU_MISMATCHES n) = s.cget (Ctr.CVU_MISMATCHES n) ∧ u.val64 (Reg.CVU_RESULT_LO n) = crc (s.cvParam n) (s.cvData n l) ∧
    (u.cv n).fifo = (if s.rget (Reg.CVU_CFG_EXP_SRC n) = 2 then (s.cv n).fifo.drop 1 else (s.cv n).fifo) ∧ (u.cv n).index = ((s.cv n).index + 1) % 2 ^ 32

/-- CHECK_UNIT_END with another value (15 R456): counted; the first since MISMATCH was cleared is captured. -/
def unitMismatch : Prop :=
  ∀ (s : State) (t n v : Nat) (g : Option Nat) (l : List Byte),
  n < 32 ∧ s.domOn 98 = true ∧ s.rbit (Reg.CVU_CFG_EN n) = true ∧ (s.cvUnitLen n).all (fun x => l.length == x) = true →
  s.cvExpect t n l = .value v g ∧ g.all (fun y => y == cvGuard (s.cvW n) v) = true ∧ crc (s.cvParam n) (s.cvData n l) ≠ v % 2 ^ s.cvW n →
  Runs (.checkUnitEnd t n l) s fun u =>
    u.cget (Ctr.CVU_MISMATCHES n) = (s.cget (Ctr.CVU_MISMATCHES n) + 1) % 2 ^ 48 ∧ u.cget (Ctr.CVU_MATCHES n) = s.cget (Ctr.CVU_MATCHES n) ∧ u.rbit (Reg.CVU_LIVE_MISMATCH n) = true ∧
    (bit (s.wordN (Reg.CVU_STATUS n)) 0 = false → u.val64 (Reg.CVU_MM_RESULT_LO n) = crc (s.cvParam n) (s.cvData n l) ∧ u.val64 (Reg.CVU_MM_EXP_LO n) = v % 2 ^ s.cvW n ∧ u.dtsWords (Reg.CVU_MM_DTS0 n) = dts96 t % 2 ^ 96 ∧ u.wordN (Reg.CVU_MM_INDEX n) = (s.cv n).index % 2 ^ 32) ∧
    (bit (s.wordN (Reg.CVU_STATUS n)) 0 = true → u.val64 (Reg.CVU_MM_RESULT_LO n) = s.val64 (Reg.CVU_MM_RESULT_LO n) ∧ u.wordN (Reg.CVU_MM_INDEX n) = s.wordN (Reg.CVU_MM_INDEX n)) ∧
    (s.rbit (Reg.CVU_CFG_FREEZE n) = true → u.rbit (Reg.CVU_CFG_EN n) = false ∧ u.rbit (Reg.CVU_LIVE_FROZEN n) = true) ∧
    (s.rbit (Reg.CVU_CFG_FREEZE n) = false → u.rbit (Reg.CVU_CFG_EN n) = true)

/-- CHECK_UNIT_END whose expected value has a wrong guard (15 R456): EXPECT_CORRUPT, no mismatch; the FIFO head is consumed. -/
def unitCorrupt : Prop :=
  ∀ (s : State) (t n v g : Nat) (l : List Byte),
  n < 32 ∧ s.domOn 98 = true ∧ s.rbit (Reg.CVU_CFG_EN n) = true ∧ (s.cvUnitLen n).all (fun x => l.length == x) = true →
  s.cvExpect t n l = .value v (some g) ∧ g ≠ cvGuard (s.cvW n) v →
  Runs (.checkUnitEnd t n l) s fun u =>
    u.cget (Ctr.CVU_EXPECT_CORRUPT n) = (s.cget (Ctr.CVU_EXPECT_CORRUPT n) + 1) % 2 ^ 48 ∧ u.cget (Ctr.CVU_MISMATCHES n) = s.cget (Ctr.CVU_MISMATCHES n) ∧ u.cget (Ctr.CVU_MATCHES n) = s.cget (Ctr.CVU_MATCHES n) ∧
    (u.cv n).fifo = (if s.rget (Reg.CVU_CFG_EXP_SRC n) = 2 then (s.cv n).fifo.drop 1 else (s.cv n).fifo) ∧ u.rbit (Reg.CVU_LIVE_EXPECT_CORRUPT n) = true

/-- CHECK_UNIT_END with no expectation (15 R456): NO_EXPECT, and nothing is consumed. -/
def unitNoExpect : Prop :=
  ∀ (s : State) (t n : Nat) (l : List Byte),
  n < 32 ∧ s.domOn 98 = true ∧ s.rbit (Reg.CVU_CFG_EN n) = true ∧ (s.cvUnitLen n).all (fun x => l.length == x) = true →
  s.cvExpect t n l = .missing →
  Runs (.checkUnitEnd t n l) s fun u =>
    u.cget (Ctr.CVU_NO_EXPECT n) = (s.cget (Ctr.CVU_NO_EXPECT n) + 1) % 2 ^ 48 ∧ (u.cv n).fifo = (s.cv n).fifo ∧ u.rbit (Reg.CVU_LIVE_NO_EXPECT n) = true

/-- With EXP_SRC NONE only the result is kept (15 R454). -/
def unitDone : Prop :=
  ∀ (s : State) (t n : Nat) (l : List Byte),
  n < 32 ∧ s.domOn 98 = true ∧ s.rbit (Reg.CVU_CFG_EN n) = true ∧ (s.cvUnitLen n).all (fun x => l.length == x) = true →
  s.rget (Reg.CVU_CFG_EXP_SRC n) = 3 →
  Runs (.checkUnitEnd t n l) s fun u =>
    u.val64 (Reg.CVU_RESULT_LO n) = crc (s.cvParam n) l ∧ u.cget (Ctr.CVU_UNITS n) = (s.cget (Ctr.CVU_UNITS n) + 1) % 2 ^ 48 ∧
    (∀ a, a ≠ Ctr.CVU_UNITS n → u.cget a = s.cget a)

/-- A unit that is not enabled, or whose domain is off, reports nothing (15 R449, R452). -/
def unitOff : Prop :=
  ∀ (s : State) (t n : Nat) (l : List Byte),
  s.domOn 98 = false ∨ s.rbit (Reg.CVU_CFG_EN n) = false →
  Runs (.checkUnitEnd t n l) s fun u =>
    u.cvu = s.cvu ∧
    (∀ a, u.wordN a = s.wordN a ∧ u.cget a = s.cget a)

/-- Where the expected value comes from (15 R454, R457): the committed register value, the one before a commit at t itself; the head of the
FIFO, one pushed at t not seen; the trailing bytes, big-endian. -/
def expectedValue : Prop :=
    ∀ (s : State) (t n : Nat) (l : List Byte),
    (s.rget (Reg.CVU_CFG_EXP_SRC n) = 0 → (s.cv n).expAt ≠ some t → s.cvExpect t n l = .value (s.cv n).exp (some (s.cv n).guard)) ∧
    (s.rget (Reg.CVU_CFG_EXP_SRC n) = 0 → (s.cv n).expAt = some t → s.cvExpect t n l = .value (s.cv n).expOld (some (s.cv n).guardOld)) ∧
    (∀ v g p r, s.rget (Reg.CVU_CFG_EXP_SRC n) = 2 → (s.cv n).fifo = (v, g, p) :: r → s.cvExpect t n l = if p = t then .missing else .value v (some g)) ∧
    (∀ d f, s.rget (Reg.CVU_CFG_EXP_SRC n) = 1 → s.rbit (Reg.CVU_CFG_TRAIL_GUARD n) = false → s.rbit (Reg.CVU_CFG_TRAIL_LE n) = false → l = d ++ f →
      d ≠ [] → f.length = (s.cvW n + 7) / 8 → s.cvExpect t n l = .value (ofBe f) none ∧ s.cvData n l = d)

/-- The guard of R455 shows every single flipped bit of an expected value. -/
def guardDetects : Prop :=
    ∀ (w v k : Nat), k < w → w ≤ 64 → v < 2 ^ w → cvGuard w (v ^^^ 2 ^ k) ≠ cvGuard w v

/-- CVU_EXP_GUARD_WRITE commits the staged value with its guard (15 R457). -/
def expGuard : Prop :=
  ∀ (s : State) (t n v : Nat) (a : Access),
  s.accessFault a = none ∧ a.off = Reg.CVU_EXP_GUARD n ∧ n < 32 →
  Runs (.cvuExpGuardWrite t a v) s fun u =>
    (u.cv n).exp = s.val64 (Reg.CVU_EXP_LO n) ∧ (u.cv n).guard = v % 256 ∧ (u.cv n).expAt = some t ∧ (u.cv n).fifo = (s.cv n).fifo ∧
    u.wordN (Reg.CVU_EXP_GUARD n) = v % 256

/-- CVU_FIFO_GUARD_WRITE pushes the entry while the FIFO has room (15 R457). -/
def fifoGuard : Prop :=
  ∀ (s : State) (t n v : Nat) (a : Access),
  s.accessFault a = none ∧ a.off = Reg.CVU_FIFO_GUARD n ∧ n < 32 ∧ (s.cv n).fifo.length < 16 →
  Runs (.cvuFifoGuardWrite t a v) s fun u =>
    (u.cv n).fifo = (s.cv n).fifo ++ [(s.val64 (Reg.CVU_FIFO_LO n), v % 256, t)] ∧ u.rget ⟨Reg.CVU_FIFO_LEVEL n, 0, 5⟩ = (s.cv n).fifo.length + 1

/-- A push into a full FIFO is discarded and counted (15 R457). -/
def fifoFull : Prop :=
  ∀ (s : State) (t n v : Nat) (a : Access),
  s.accessFault a = none ∧ a.off = Reg.CVU_FIFO_GUARD n ∧ n < 32 ∧ 16 ≤ (s.cv n).fifo.length →
  Runs (.cvuFifoGuardWrite t a v) s fun u =>
    (u.cv n).fifo = (s.cv n).fifo ∧ u.cget (Ctr.CVU_FIFO_OVF n) = (s.cget (Ctr.CVU_FIFO_OVF n) + 1) % 2 ^ 48

/-- TEST_GO while EN is clear (15 R459): CVU_CHECK is the value of "123456789". -/
def testGo : Prop :=
  ∀ (s : State) (t n : Nat),
  n < 32 ∧ s.domOn 98 = true ∧ s.rbit (Reg.CVU_CFG_EN n) = false →
  Runs (.testGo t n) s fun u =>
    u.val64 (Reg.CVU_CHECK_LO n) = crc (s.cvParam n) [0x31, 0x32, 0x33, 0x34, 0x35, 0x36, 0x37, 0x38, 0x39]

/-- While EN is set TEST_GO is ignored (15 R459). -/
def testGoIgnored : Prop :=
  ∀ (s : State) (t n : Nat),
  s.rbit (Reg.CVU_CFG_EN n) = true →
  Runs (.testGo t n) s fun u =>
    u.cvu = s.cvu ∧
    (∀ a, u.wordN a = s.wordN a ∧ u.cget a = s.cget a)

/-- CVU_FIFO_EMPTY_CMD empties the FIFO (15 Table CVU-4). -/
def fifoEmptied : Prop :=
  ∀ (s : State) (t n : Nat),
  n < 32 ∧ s.domOn 98 = true →
  Runs (.cvuFifoEmptyCmd t n) s fun u =>
    (u.cv n).fifo = [] ∧ u.rget ⟨Reg.CVU_FIFO_LEVEL n, 0, 5⟩ = 0 ∧ u.rbit (Reg.CVU_LIVE_FIFO_EMPTY n) = (s.rget (Reg.CVU_CFG_EXP_SRC n) == 2)

/-- CVU_CFG_WRITE that sets EN with a framing the tap has (15 R452, R453, R458): the index starts at 0 and FROZEN falls. -/
def cvuCfg : Prop :=
  ∀ (s : State) (t n v : Nat) (a : Access),
  s.accessFault a = none ∧ a.off = Reg.CVU_CFG n ∧ n < 32 ∧ s.rbit (Reg.CVU_CFG_EN n) = false →
  bit v 0 = true ∧ tapAllows (if a.size = 8 then bits v 32 4 else s.rget (Reg.CVU_TAP_TAP n)) (bits v 9 2) = true →
  Runs (.cvuCfgWrite t a v) s fun u =>
    u.wordN (Reg.CVU_CFG n) = v % 2 ^ 32 ∧ (a.size = 8 → u.wordN (Reg.CVU_TAP n) = bits v 32 21) ∧ (u.cv n).index = 0 ∧ u.rbit (Reg.CVU_LIVE_FROZEN n) = false

/-- While EN is set a write that clears it is taken (15 R460). -/
def cvuCfgClears : Prop :=
  ∀ (s : State) (t n v : Nat) (a : Access),
  s.accessFault a = none ∧ a.size = 4 ∧ a.off = Reg.CVU_CFG n ∧ n < 32 ∧ s.rbit (Reg.CVU_CFG_EN n) = true ∧ v < 2 ^ 32 →
  bit v 0 = false ∧ tapAllows (s.rget (Reg.CVU_TAP_TAP n)) (bits v 9 2) = true →
  Runs (.cvuCfgWrite t a v) s fun u =>
    u.wordN (Reg.CVU_CFG n) = v ∧ u.rbit (Reg.CVU_CFG_EN n) = false ∧ (u.cv n).index = (s.cv n).index

/-- The same of an access that also covers CVU_TAP is refused whole: CVU_TAP does not change while EN is set (15 R460; 17 R503). -/
def cvuCfgClearsWide : Prop :=
  ∀ (s : State) (t n v : Nat) (a : Access),
  s.accessFault a = none ∧ a.size = 8 ∧ a.off = Reg.CVU_CFG n ∧ n < 32 ∧ s.rbit (Reg.CVU_CFG_EN n) = true ∧
    (bit v 0 = false → tapAllows (bits v 32 4) (bits v 9 2) = true) →
  Runs (.cvuCfgWrite t a v) s fun u =>
    u.wordN (Reg.CVU_CFG n) = s.wordN (Reg.CVU_CFG n) ∧ u.cvu = s.cvu ∧
    violationEntry u (s.wordN Reg.SYS_VIOL_CNT % 64) a true 4 true ((s.wordN Reg.SYS_VIOL_CNT + 1) % 2 ^ 32)

/-- Any other write of CVU_CFG while EN is set is refused with CA and recorded (15 R460). -/
def cvuCfgHeld : Prop :=
  ∀ (s : State) (t n v : Nat) (a : Access),
  s.accessFault a = none ∧ a.off = Reg.CVU_CFG n ∧ n < 32 ∧ s.rbit (Reg.CVU_CFG_EN n) = true ∧ bit v 0 = true →
  Runs (.cvuCfgWrite t a v) s fun u =>
    u.wordN (Reg.CVU_CFG n) = s.wordN (Reg.CVU_CFG n) ∧ Out.refused a.tag true ∈ u.out ∧ u.wordN Reg.SYS_VIOL_CNT = (s.wordN Reg.SYS_VIOL_CNT + 1) % 2 ^ 32

/-- CVU_TAP_WRITE of a tap that has the framing, while EN is clear (15 R453). -/
def cvuTap : Prop :=
  ∀ (s : State) (t n v : Nat) (a : Access),
  s.accessFault a = none ∧ a.off = Reg.CVU_TAP n ∧ n < 32 ∧ s.rbit (Reg.CVU_CFG_EN n) = false ∧ v < 2 ^ 21 →
  tapAllows (v % 16) (s.rget (Reg.CVU_CFG_FRAMING n)) = true →
  Runs (.cvuTapWrite t a v) s fun u =>
    u.wordN (Reg.CVU_TAP n) = v

/-- A tap that has no such framing, codes 8 to 15 among them, is refused with CA and recorded (15 R453, Table CVU-2). -/
def cvuTapRefused : Prop :=
  ∀ (s : State) (t n v : Nat) (a : Access),
  s.accessFault a = none ∧ a.off = Reg.CVU_TAP n ∧ n < 32 ∧ s.rbit (Reg.CVU_CFG_EN n) = false →
  8 ≤ v % 16 ∨ (s.rget (Reg.CVU_CFG_FRAMING n) = 1 ∧ (v % 16 = 4 ∨ v % 16 = 5)) ∨ (s.rget (Reg.CVU_CFG_FRAMING n) = 2 ∧ v % 16 ≠ 4 ∧ v % 16 ≠ 5 ∧ v % 16 ≠ 6) →
  Runs (.cvuTapWrite t a v) s fun u =>
    u.wordN (Reg.CVU_TAP n) = s.wordN (Reg.CVU_TAP n) ∧ Out.refused a.tag true ∈ u.out ∧ u.wordN Reg.SYS_VIOL_CNT = (s.wordN Reg.SYS_VIOL_CNT + 1) % 2 ^ 32

/-! ### TheKioskLeaseHasOneHolder -/

/-- LEASE_RENEWAL of a valid lease (16 R474). -/
def leaseRenewed : Prop :=
  ∀ (s : State) (t : Nat),
  s.leaseAt t = true →
  Runs (.leaseRenewal t) s fun u =>
    u.dtsWords Reg.KSK_LEASE_EXP0 = dts96 (t + ms 10) % 2 ^ 96 ∧ u.holder = s.holder ∧ u.rbit Reg.KSK_LEASE_VALID = true

/-- A renewal at or after expiry is refused (16 R474). -/
def leaseRenewalLate : Prop :=
  ∀ (s : State) (t : Nat),
  s.rbit Reg.KSK_LEASE_VALID = false ∨ s.dtsWords Reg.KSK_LEASE_EXP0 ≤ dts96 t →
  Runs (.leaseRenewal t) s fun u =>
    u.dtsWords Reg.KSK_LEASE_EXP0 = s.dtsWords Reg.KSK_LEASE_EXP0 ∧
    (∀ x, u.wordN x = s.wordN x)

/-- LEASE_LAPSE (16 R476): no lease is valid, the lapsed Kiosk is held in reset, the ring is not executed. -/
def leaseLapses : Prop :=
  ∀ (s : State) (t : Nat),
  s.rbit Reg.KSK_LEASE_VALID = true ∧ s.dtsWords Reg.KSK_LEASE_EXP0 ≤ dts96 t →
  Runs (.leaseLapse t) s fun u =>
    u.rbit Reg.KSK_LEASE_VALID = false ∧ u.red.kReset.contains s.holder = true ∧ u.red.kLapse = t ∧ u.rbit Reg.HCQ_STAT_READY = false ∧
    (u.evl.pend.any fun x => x.code == 0x8110 && x.sev == 1 && x.src == s.holder && x.dts == t) = true ∧ u.role = s.role

/-- LEASE_GRANT with no lease valid and the guard interval over (16 R476, R477). -/
def leaseGranted : Prop :=
  ∀ (s : State) (t k : Nat) (r0 r1 : Bool),
  s.rbit Reg.KSK_LEASE_VALID = false ∧ (s.red.kPrev = none ∨ s.red.kLapse + us 100 ≤ t) →
  s.grantTo r0 r1 = some k ∧ k < 2 →
  Runs (.leaseGrant t r0 r1) s fun u =>
    u.holder = k ∧ u.rbit Reg.KSK_LEASE_VALID = true ∧ u.dtsWords Reg.KSK_LEASE_EXP0 = dts96 (t + ms 10) % 2 ^ 96 ∧ u.red.kPrev = some k ∧
    u.rget Reg.KSK_LEASE_GRANTS = min 0xFFFF (s.rget Reg.KSK_LEASE_GRANTS + 1) ∧
    (s.rget Reg.PWR_BOOT_STAGE = 5 → u.rbit Reg.HCQ_STAT_READY = true)

/-- Within 100 µs of the lapse there is no grant (16 R476). -/
def leaseGuard : Prop :=
  ∀ (s : State) (t : Nat) (r0 r1 : Bool),
  s.red.kPrev.isSome = true ∧ t < s.red.kLapse + us 100 →
  Runs (.leaseGrant t r0 r1) s fun u =>
    u.rbit Reg.KSK_LEASE_VALID = s.rbit Reg.KSK_LEASE_VALID ∧ u.holder = s.holder ∧ u.red = s.red

/-- Of two Kiosks that may both be granted the one that did not hold the last lease gets it, K0 at the first grant; a Kiosk whose self-test
failed gets none (16 R477). -/
def grantRule : Prop :=
    ∀ (s : State), (s.grantable 0 = true → s.grantable 1 = true →
      (s.red.kPrev = none → s.grantTo true true = some 0) ∧ (s.red.kPrev = some 0 → s.grantTo true true = some 1) ∧
      (s.red.kPrev = some 1 → s.grantTo true true = some 0)) ∧
    (s.rbit Reg.KSK_LEASE_K0_FAULT = true → ∀ r0 r1, s.grantTo r0 r1 ≠ some 0) ∧
    (s.rbit Reg.KSK_LEASE_K1_FAULT = true → ∀ r0 r1, s.grantTo r0 r1 ≠ some 1)

/-- KIOSK_RELOAD_COMPLETE (16 R476, R477; 19 R539): the first Kiosk held in reset, its domain ON, is the halted standby; one that is not
verified has its fault bit set. -/
def kioskReload : Prop :=
  ∀ (s : State) (t k : Nat) (r : List Nat) (ok : Bool),
  s.red.kReset = k :: r ∧ k < 2 ∧ s.domOn (95 + k) = true →
  Runs (.kioskReloadComplete t ok) s fun u =>
    u.red.kReset = r ∧ (k = 0 → u.rbit Reg.KSK_LEASE_K0_FAULT = !ok) ∧ (k = 1 → u.rbit Reg.KSK_LEASE_K1_FAULT = !ok)

/-- FOREIGN_WRITE by the Kiosk without the lease (16 R475): no guarded resource changes; counted, and one event. -/
def foreignWriteRefused : Prop :=
  ∀ (s : State) (t k : Nat),
  s.rbit Reg.KSK_LEASE_VALID = false ∨ s.holder ≠ k →
  Runs (.foreignWrite t k) s fun u =>
    u.cget Ctr.KSK_FOREIGN = (s.cget Ctr.KSK_FOREIGN + 1) % 2 ^ 48 ∧ u.plz = s.plz ∧ u.map = s.map ∧ u.mnt = s.mnt ∧
    u.evl.pend.length = s.evl.pend.length + 1 ∧
    (∀ x, u.wordN x = s.wordN x)

/-- AON_FAULT (16 R491): a device fault; FENCE_OUT is asserted, PAIR_ROLE_OUT is not, and the role is FENCED. -/
def aonFence : Prop :=
  ∀ (s : State) (t : Nat),
  s.role ≠ 4 →
  Runs (.aonFault t) s fun u =>
    u.role = 4 ∧ u.red.fenceOut = true ∧ u.roleOut = false ∧ u.rbit Reg.KSK_PAIR_LIVE_ROLE_CHG = true ∧
    (u.evl.pend.any fun x => x.code == 0x8120 && x.sev == 1 && x.dts == t && x.detail == (s.role + 4 * 2 ^ 8 + 3 * 2 ^ 16) % 2 ^ 48) = true

/-! ### TheMatedPairChangesRolesByTheReferee -/

/-- HEARTBEAT_SEND (16 R483): the record of Table RED-6 on the Mate Link and a toggle of the pins. -/
def heartbeat : Prop :=
  ∀ (s : State) (t : Nat),
  s.pairOn = true ∧ s.red.hbLast.all (fun a => decide (a + us 19 ≤ t ∧ t ≤ a + us 21)) = true →
  Runs (.heartbeatSend t) s fun u =>
    u.red.hbPin = !s.red.hbPin ∧ u.red.hbSeq = (s.red.hbSeq + 1) % 2 ^ 32 ∧ u.red.hbLast = some t ∧
    Out.heartbeat (if s.red.mlp.isSome = true then some (s.hbRecord t) else none) (!s.red.hbPin) ∈ u.out

/-- The record (16 Table RED-6): 32 bytes, big-endian, with the CRC-32 of the first 28. -/
def heartbeatRecord : Prop :=
    ∀ (s : State) (t : Nat), (s.hbRecord t).length = 32 ∧ ofBe ((s.hbRecord t).take 2) = s.devid ∧
    ofBe ((s.hbRecord t).drop 28) = crc crc32 ((s.hbRecord t).take 28) ∧ ofBe (((s.hbRecord t).drop 4).take 4) = s.red.hbSeq % 2 ^ 32

/-- MATE_HEARTBEAT_RECORD with a good CRC (16 R483): the Mate Link path has a heartbeat in this window. -/
def mateHeartbeat : Prop :=
  ∀ (s : State) (t : Nat) (b : List Byte),
  s.pairOn = true ∧ s.red.mlp.isSome = true ∧ b.length = 32 ∧ crc crc32 (b.take 28) = ofBe (b.drop 28) →
  Runs (.mateHeartbeatRecord t b) s fun u =>
    u.red.hbLink.seen = true ∧ u.red.hbPins = s.red.hbPins ∧ u.role = s.role ∧
    ((s.role = 2 ∨ s.role = 3) → (b.getD 2 0).toNat % 8 = 1 → (s.red.images.any fun p => p.1 == ofBe ((b.drop 8).take 4)) = true → u.red.acked = ofBe ((b.drop 8).take 4))

/-- A record with a bad CRC is no heartbeat (16 Table RED-6). -/
def mateHeartbeatBad : Prop :=
  ∀ (s : State) (t : Nat) (b : List Byte),
  crc crc32 (b.take 28) ≠ ofBe (b.drop 28) →
  Runs (.mateHeartbeatRecord t b) s fun u =>
    u.red = s.red ∧
    (∀ x, u.wordN x = s.wordN x)

/-- HEARTBEAT_WINDOW (16 R483): both paths are judged; the mate is lost when both are. -/
def heartbeatWindow : Prop :=
  ∀ (s : State) (t : Nat),
  s.pairOn = true ∧ t % us 20 = 0 →
  s.cget Ctr.KSK_HB_MISSED < 2 ^ 48 →
  Runs (.heartbeatWindow t) s fun u =>
    u.red.hbLink = s.red.hbLink.window ∧ u.red.hbPins = s.red.hbPins.window ∧ u.role = s.role ∧
    u.rbit Reg.KSK_PAIR_LIVE_PATH_LOST = (u.red.hbLink.lost || u.red.hbPins.lost) ∧ u.rbit Reg.KSK_PAIR_LIVE_MATE_LOST = (u.red.hbLink.lost && u.red.hbPins.lost) ∧
    u.cget Ctr.KSK_HB_MISSED = (s.cget Ctr.KSK_HB_MISSED + (if s.red.hbLink.seen = true then 0 else 1) + (if s.red.hbPins.seen = true then 0 else 1)) % 2 ^ 48

/-- A path is lost after three windows in a row without a heartbeat and returns after ten in a row with one (16 R483). -/
def pathRule : Prop :=
    ∀ (p : HbPath), (p.seen = false → 2 ≤ p.missed → p.window.lost = true) ∧ (p.seen = false → p.missed < 2 → p.window.lost = p.lost) ∧
    (p.seen = true → p.lost = true → p.good < 9 → p.window.lost = true) ∧ (p.seen = true → 9 ≤ p.good → p.window.lost = false) ∧
    (p.seen = true → p.window.missed = 0) ∧ (p.seen = false → p.window.good = 0)

/-- MLP_NEGOTIATION in which both sides choose one version (00 R17 to R20): the Mate Link uses it. -/
def mlpChosen : Prop :=
  ∀ (s : State) (t v : Nat) (recs : List Nat),
  s.pairOn = true ∧ s.domOn 90 = true ∧ s.red.mlp = none ∧ chooseVersion s.red.mlpRange recs = some v →
  Runs (.mlpNegotiation t recs (some v)) s fun u =>
    u.red.mlp = some v ∧ u.rbit Reg.KSK_PAIR_LIVE_NO_COMMON_VERSION = false ∧ (u.evl.pend.any fun x => x.code == 0x6010 && x.dts == t && x.detail == v % 2 ^ 48) = true

/-- No common version, or two choices that differ (00 R19, R20): NO_COMMON_VERSION. -/
def mlpNone : Prop :=
  ∀ (s : State) (t : Nat) (recs : List Nat) (theirs : Option Nat),
  s.pairOn = true ∧ s.domOn 90 = true ∧ s.red.mlp = none →
  chooseVersion s.red.mlpRange recs = none ∨ (theirs.isSome = true ∧ chooseVersion s.red.mlpRange recs ≠ theirs) →
  Runs (.mlpNegotiation t recs theirs) s fun u =>
    u.red.mlp = none ∧ u.rbit Reg.KSK_PAIR_LIVE_NO_COMMON_VERSION = true ∧ (u.evl.pend.any fun x => x.code == 0x6011 && x.dts == t) = true

/-- RENEW at a STANDBY device (16 R487, R497): it is ACTIVE for 200 µs from the pattern's instant, owns the outputs, sends FIRST, and its
contexts are released as seeded. -/
def renewTakesOver : Prop :=
  ∀ (s : State) (t inst : Nat),
  s.refHeard t inst 0 = true ∧ s.role = 1 ∧ s.red.fenceOut = false ∧ tcanon (fun _ => ({} : CtxH)) s.jrm.ctx = true →
  Runs (.renew t inst) s fun u =>
    u.role = 2 ∧ u.roleOut = true ∧ u.dtsWords Reg.KSK_PAIR_EXP0 = dts96 (inst + us 200) % 2 ^ 96 ∧
    u.rbit Reg.KSK_PAIR_STAT_OWNED = true ∧ (∀ i < 4, u.rbit (Reg.TIM_OUT_CFG_OWNED i) = true) ∧
    (∀ c, (s.cx c).state = 1 → (u.cx c).seed = true) ∧
    (∀ i ∈ s.flowList 0, (u.flow 0 i).first = 16)

/-- RENEW at an ACTIVE device only extends its lease; at an ORPHAN it makes it ACTIVE (16 R489). -/
def renewExtends : Prop :=
  ∀ (s : State) (t inst : Nat),
  s.refHeard t inst 0 = true ∧ (s.role = 2 ∨ s.role = 3) →
  tcanon (fun _ => ({} : CtxH)) s.jrm.ctx = true ∧ Memory.wf s.jrm.trail = true →
  Runs (.renew t inst) s fun u =>
    u.role = 2 ∧ u.dtsWords Reg.KSK_PAIR_EXP0 = dts96 (inst + us 200) % 2 ^ 96 ∧ u.jrm = s.jrm ∧ u.arc = s.arc

/-- RENEW changes nothing at a SOLO or FENCED device, before 2 µs of low, or at an input at its safe state (16 R484, Table RED-8). -/
def renewNothing : Prop :=
  ∀ (s : State) (t inst : Nat),
  s.role = 0 ∨ s.role = 4 ∨ s.refHeard t inst 0 = false →
  Runs (.renew t inst) s fun u =>
    u.role = s.role ∧ u.red = s.red ∧
    (∀ x, u.wordN x = s.wordN x)

/-- RELEASE at an ACTIVE or ORPHAN device (16 R488, R489): a final epoch is sent, and the device is STANDBY without the outputs. -/
def releaseGivesUp : Prop :=
  ∀ (s : State) (t inst : Nat),
  s.refHeard t inst 0 = true ∧ (s.role = 2 ∨ s.role = 3) ∧ s.red.mlp.isSome = true ∧ tcanon (fun _ => ({} : CtxH)) s.jrm.ctx = true →
  Runs (.release t inst) s fun u =>
    u.role = 1 ∧ u.roleOut = false ∧ u.rbit Reg.KSK_PAIR_STAT_OWNED = false ∧ (∀ i < 4, u.rbit (Reg.TIM_OUT_CFG_OWNED i) = false) ∧
    u.cget Ctr.KSK_EPOCHS_SENT = (s.cget Ctr.KSK_EPOCHS_SENT + 1) % 2 ^ 48 ∧
    (∀ c, (u.cx c).run = none)

/-- PRESENT (16 R484): the referee is present for 200 µs from the pattern's instant. -/
def presentHeard : Prop :=
  ∀ (s : State) (t inst : Nat),
  s.refHeard t inst 1 = true →
  Runs (.present t inst) s fun u =>
    u.red.present = some inst ∧ u.rbit Reg.KSK_PAIR_STAT_REF_PRESENT = decide (t < inst + us 200) ∧ u.role = s.role

/-- REF_BAD (16 R484): a sequence of any other form is discarded and counted. -/
def refBadCounted : Prop :=
  ∀ (s : State) (t k : Nat),
  s.refHeard t 0 k = true →
  Runs (.refBad t k) s fun u =>
    u.cget Ctr.KSK_REF_BAD = (s.cget Ctr.KSK_REF_BAD + 1) % 2 ^ 48 ∧ u.rbit Reg.KSK_PAIR_LIVE_REF_BAD = true ∧ u.role = s.role ∧ u.red = s.red

/-- ACTIVE_LEASE_LAPSE with PRESENT recognised within the 200 µs before the lapse (16 R489): STANDBY. -/
def lapseStandby : Prop :=
  ∀ (s : State) (t a : Nat),
  s.role = 2 ∧ s.dtsWords Reg.KSK_PAIR_EXP0 ≠ 0 ∧ s.dtsWords Reg.KSK_PAIR_EXP0 ≤ dts96 t →
  s.red.present = some a ∧ a ≤ ofDts96 (s.dtsWords Reg.KSK_PAIR_EXP0) ∧ ofDts96 (s.dtsWords Reg.KSK_PAIR_EXP0) < a + us 200 →
  Runs (.activeLeaseLapse t) s fun u =>
    u.role = 1 ∧ u.roleOut = false ∧ u.rbit Reg.KSK_PAIR_STAT_OWNED = false

/-- Without it the device is ORPHAN and keeps its outputs (16 R489). -/
def lapseOrphan : Prop :=
  ∀ (s : State) (t : Nat),
  s.role = 2 ∧ s.dtsWords Reg.KSK_PAIR_EXP0 ≠ 0 ∧ s.dtsWords Reg.KSK_PAIR_EXP0 ≤ dts96 t →
  s.red.present.all (fun a => decide (a + us 200 ≤ ofDts96 (s.dtsWords Reg.KSK_PAIR_EXP0))) = true →
  Runs (.activeLeaseLapse t) s fun u =>
    u.role = 3 ∧ u.rbit Reg.KSK_PAIR_LIVE_ORPHAN = true ∧ u.rbit Reg.KSK_PAIR_STAT_OWNED = s.rbit Reg.KSK_PAIR_STAT_OWNED ∧ (∀ x, u.privileged x = false)

/-- A FENCED device's clock outputs go when its lease expires (16 R491). -/
def lapseFenced : Prop :=
  ∀ (s : State) (t : Nat),
  s.role = 4 ∧ s.dtsWords Reg.KSK_PAIR_EXP0 ≠ 0 ∧ s.dtsWords Reg.KSK_PAIR_EXP0 ≤ dts96 t →
  Runs (.activeLeaseLapse t) s fun u =>
    u.role = 4 ∧ u.rbit Reg.KSK_PAIR_STAT_OWNED = false ∧ (∀ i < 4, u.rbit (Reg.TIM_OUT_CFG_OWNED i) = false)

/-- PAIR_CFG with the DEVID set (19 R555): PAIR_EN and the mate's DEVID wait for the next reset. -/
def pairCfg : Prop :=
  ∀ (s : State) (t on mate : Nat) (d : Desc),
  s.cmdReady t d = true ∧ s.privileged t = true →
  on ≤ 1 ∧ s.rbit Reg.SYP_ARC_ID_VALID = true →
  Runs (.pairCfg t d on mate) s fun u =>
    s.completes u (okCpl d 0x0800 t) ∧
    u.red.pairNext = (on == 1) ∧ u.red.mate = mate ∧ u.rbit Reg.KSK_PAIR_STAT_PAIR_EN = s.rbit Reg.KSK_PAIR_STAT_PAIR_EN ∧ u.role = s.role

/-- PAIR_CFG while the DEVID is unset: E_STATE (19 R555). -/
def pairCfgEarly : Prop :=
  ∀ (s : State) (t on mate : Nat) (d : Desc),
  s.cmdReady t d = true ∧ s.privileged t = true →
  on ≤ 1 ∧ s.rbit Reg.SYP_ARC_ID_VALID = false →
  Runs (.pairCfg t d on mate) s fun u =>
    s.completes u ⟨d.tag, 9, 0x0800, noOfs, t, 0⟩ ∧
    u.red = s.red

/-! ### EpochsCarryCommittedState -/

/-- EPOCH_CUT at a whole multiple of 100 µs of an ACTIVE or ORPHAN device with a Mate Link (16 R492). -/
def epochSent : Prop :=
  ∀ (s : State) (t : Nat),
  s.pairOn = true ∧ (s.role = 2 ∨ s.role = 3) ∧ t % us 100 = 0 ∧ s.red.mlp.isSome = true →
  Runs (.epochCut t) s fun u =>
    u.red.epochNo = nextEpoch s.red.epochNo ∧ u.cget Ctr.KSK_EPOCHS_SENT = (s.cget Ctr.KSK_EPOCHS_SENT + 1) % 2 ^ 48 ∧
    (∃ m : EpochMsg, Out.epoch m ∈ u.out ∧ m.num = nextEpoch s.red.epochNo ∧ m.base = s.red.acked ∧ m.cut = t ∧ m.recs.length ≤ 131072)

/-- At another DTS, or in another role, none is sent (16 R492). -/
def epochNotCut : Prop :=
  ∀ (s : State) (t : Nat),
  t % us 100 ≠ 0 ∨ (s.role ≠ 2 ∧ s.role ≠ 3) →
  Runs (.epochCut t) s fun u =>
    u.red = s.red ∧ u.cget Ctr.KSK_EPOCHS_SENT = s.cget Ctr.KSK_EPOCHS_SENT

/-- The changes between two images, applied to the older, give the newer at every line (16 R492, R493). -/
def deltaRebuilds : Prop :=
    ∀ (old new : Tbl LineData), (old.map (·.1)).Nodup → (new.map (·.1)).Nodup →
    ∀ k, lineAt (lineOver old (lineDelta old new)) k = lineAt new k

/-- EPOCH_RECEIVED that is complete, with a good CRC, built on the last epoch applied (16 R493): applied, acknowledged, no longer stale. -/
def epochApplied : Prop :=
  ∀ (s : State) (t : Nat) (m : EpochMsg),
  s.pairOn = true ∧ s.role = 1 ∧ s.red.mlp.isSome = true ∧ s.red.bufBad = false ∧ s.red.rxBad = false →
  m.base = s.red.applied ∧ m.continued = false →
  Runs (.epochReceived t m true true) s fun u =>
    u.red.applied = m.num ∧ u.red.appliedAt = t ∧ u.red.appliedCut = m.cut ∧ u.red.rxSeries = [] ∧
    u.wordN Reg.KSK_PAIR_EPOCH = m.num % 2 ^ 32 ∧ u.rbit Reg.KSK_PAIR_STAT_STANDBY_STALE = false ∧ u.cget Ctr.KSK_EPOCHS_APPLIED = (s.cget Ctr.KSK_EPOCHS_APPLIED + 1) % 2 ^ 48

/-- A context line makes the committed registers of its context those of the epoch (16 R492, R493). -/
def epochContext : Prop :=
  ∀ (s : State) (t c n cut : Nat) (g : List DWord) (p : BitVec 8) (st : List DWord) (scr : List Host.Cell) (ins : List (Nat × Byte)),
  s.pairOn = true ∧ s.role = 1 ∧ s.red.mlp.isSome = true ∧ s.red.bufBad = false ∧ s.red.rxBad = false ∧ s.red.rxSeries = [] ∧ c < 2 ^ 20 →
  Runs (.epochReceived t ⟨n, s.red.applied, cut, false, false, 0, [(c, some (.ctx g p st scr ins))]⟩ true true) s fun u =>
    (u.cx c).g = g ∧ (u.cx c).p = p ∧ (u.cx c).st = st ∧ (u.cx c).scr = scr ∧ (u.cx c).bind = (s.cx c).bind ∧ (u.cx c).state = (s.cx c).state

/-- An epoch with CONTINUED set is kept until the last of its series (16 R494). -/
def epochSeries : Prop :=
  ∀ (s : State) (t : Nat) (m : EpochMsg),
  s.pairOn = true ∧ s.role = 1 ∧ s.red.mlp.isSome = true ∧ s.red.bufBad = false ∧ s.red.rxBad = false →
  m.base = s.red.applied ∧ m.continued = true →
  Runs (.epochReceived t m true true) s fun u =>
    u.red.rxSeries = s.red.rxSeries ++ m.recs ∧ u.red.applied = s.red.applied ∧ u.plz = s.plz ∧ u.apsEnd = s.apsEnd

/-- An epoch that is incomplete, fails its CRC, or has another BASE is discarded, counted and logged with its cause (16 R493, Table RED-12). -/
def epochRejected : Prop :=
  ∀ (s : State) (t : Nat) (m : EpochMsg) (crcOk complete : Bool),
  s.pairOn = true ∧ s.role = 1 ∧ s.red.mlp.isSome = true →
  complete = false ∨ crcOk = false ∨ m.base ≠ s.red.applied →
  Runs (.epochReceived t m crcOk complete) s fun u =>
    u.red.applied = s.red.applied ∧ u.plz = s.plz ∧ u.apsEnd = s.apsEnd ∧ u.cget Ctr.KSK_EPOCH_REJECT = (s.cget Ctr.KSK_EPOCH_REJECT + 1) % 2 ^ 48 ∧
    (u.evl.pend.any fun x => x.code == 0x8122 && x.sev == 3 && x.src == m.num && x.detail == (if complete = false then 1 else if crcOk = false ∨ s.red.bufBad = true then 0 else 2)) = true ∧
    u.rbit Reg.KSK_PAIR_LIVE_EPOCH_REJECT = true

/-- STANDBY_STALE after 1 ms without an epoch applied (16 KSK_PAIR_STAT); loss of the mate changes no role (R490). -/
def standbyStale : Prop :=
  ∀ (s : State) (t : Nat),
  s.role = 1 ∧ s.red.appliedAt + ms 1 ≤ t →
  Runs (.standbyStale t) s fun u =>
    u.rbit Reg.KSK_PAIR_STAT_STANDBY_STALE = true ∧ u.role = 1

/-- Before that it stays as it is. -/
def standbyFresh : Prop :=
  ∀ (s : State) (t : Nat),
  s.role ≠ 1 ∨ t < s.red.appliedAt + ms 1 →
  Runs (.standbyStale t) s fun u =>
    u.rbit Reg.KSK_PAIR_STAT_STANDBY_STALE = s.rbit Reg.KSK_PAIR_STAT_STANDBY_STALE ∧ u.role = s.role

/-! ### RoutinesAreLoadedBoundAndUnbound -/

/-- IMAGE_LOAD of a signed host routine (03 R100). -/
def imageLoad : Prop :=
  ∀ (s : State) (t : Nat) (d : Desc) (f : ImageFile),
  s.cmdReady t d = true →
  0xFFFF < f.routine ∧ f.signed = true ∧ f.code.length ≤ 8192 →
  Runs (.imageLoad t d f) s fun u =>
    s.completes u ⟨d.tag, 0, 0x0500, noOfs, t, f.routine⟩ ∧
    (u.imageOf f.routine).valid = true ∧ (u.imageOf f.routine).jabi = f.jabi ∧ (u.imageOf f.routine).wcsc = f.wcsc ∧ (u.imageOf f.routine).code = f.code ∧
    u.jrm.ctx = s.jrm.ctx

/-- One whose signature fails: E_SIGNATURE, nothing stored (03 R100). -/
def imageUnsigned : Prop :=
  ∀ (s : State) (t : Nat) (d : Desc) (f : ImageFile),
  s.cmdReady t d = true →
  0xFFFF < f.routine ∧ f.signed = false →
  Runs (.imageLoad t d f) s fun u =>
    s.completes u ⟨d.tag, 4, 0x0500, noOfs, t, 0⟩ ∧
    u.jrm.images = s.jrm.images

/-- One of more than 8,192 words: E_CAPACITY, nothing stored. -/
def imageLong : Prop :=
  ∀ (s : State) (t : Nat) (d : Desc) (f : ImageFile),
  s.cmdReady t d = true →
  0xFFFF < f.routine ∧ f.signed = true ∧ 8192 < f.code.length →
  Runs (.imageLoad t d f) s fun u =>
    s.completes u ⟨d.tag, 8, 0x0500, 0x18, t, 0⟩ ∧
    u.jrm.images = s.jrm.images

/-- BIND of a free context (03 R88 to R90, R96). -/
def bind : Prop :=
  ∀ (s : State) (t c : Nat) (d : Desc) (b : BindBlock),
  s.cmdReady t d = true →
  c ≤ 131071 ∧ (s.cx c).state = 0 ∧ b.jabi = 0x0100 ∧ s.blockRange b (blockBytes b) = none ∧ (s.imageOf b.routine).jabi = 0x0100 →
  ((stdRow b.routine).isSome = true → s.rbit Reg.PWR_BOOT_LIB_FAIL = false) →
  (b.routine = 0x20 → s.apsState c (blockBytes b) = false) →
  (b.qs.take b.qCount).all (fun x => !s.queueTaken c x) = true →
  overClass (s.admitItem { state := 1, bind := { wcsc := (s.imageOf b.routine).wcsc, divLog2 := b.divLog2, tt := b.tt.take b.ttCount } } :: s.engineItems (engineOf c) c) = none →
  Runs (.bind t d c b) s fun u =>
    s.completes u (okCpl d 0x0501 t) ∧
    (u.cx c).state = 1 ∧ (u.cx c).g = List.replicate 32 0 ∧ (u.cx c).p = 0 ∧ (u.cx c).run = none ∧
    (u.cx c).bind.routine = b.routine ∧ (u.cx c).bind.code = (s.imageOf b.routine).code ∧ (u.cx c).bind.tt = b.tt.take b.ttCount ∧
    (u.cx c).bind.divLog2 = b.divLog2 ∧ (u.cx c).bind.wcsc = (s.imageOf b.routine).wcsc

/-- Within its budget (03 R92 to R95): no class of the items has, with the classes inside it, more than the engine's steps. -/
def admissionLimit : Prop :=
    ∀ l : List AdmitItem, overClass l = none ↔ ∀ a ∈ l, ((l.filter fun b => b.within a).map AdmitItem.load).sum ≤ admitMax

/-- BIND that its engine's budget does not take: E_ADMISSION, and no context changes (03 R96). -/
def bindOver : Prop :=
  ∀ (s : State) (t c : Nat) (d : Desc) (b : BindBlock) (a : AdmitItem),
  s.cmdReady t d = true →
  c ≤ 131071 ∧ b.jabi = 0x0100 ∧ s.blockRange b (blockBytes b) = none ∧ (s.imageOf b.routine).jabi = 0x0100 →
  (stdRow b.routine).isSome = false ∧ (b.qs.take b.qCount).all (fun x => !s.queueTaken c x) = true →
  overClass (s.admitItem { state := 1, bind := { wcsc := (s.imageOf b.routine).wcsc, divLog2 := b.divLog2, tt := b.tt.take b.ttCount } } :: s.engineItems (engineOf c) c) = some a →
  Runs (.bind t d c b) s fun u =>
    s.completes u ⟨d.tag, 3, 0x0501, noOfs, t, a.div⟩ ∧
    u.jrm.ctx = s.jrm.ctx

/-- BIND of a block of another version: E_VERSION (03 R99). -/
def bindVersion : Prop :=
  ∀ (s : State) (t c : Nat) (d : Desc) (b : BindBlock),
  s.cmdReady t d = true →
  c ≤ 131071 ∧ b.jabi ≠ 0x0100 →
  Runs (.bind t d c b) s fun u =>
    s.completes u ⟨d.tag, 1, 0x0501, bufOfs 0, t, 0⟩ ∧
    u.jrm.ctx = s.jrm.ctx

/-- BIND of a standard routine while LIB_FAIL is set: E_SIGNATURE (19 R550). -/
def bindNoLibrary : Prop :=
  ∀ (s : State) (t c : Nat) (d : Desc) (b : BindBlock),
  s.cmdReady t d = true →
  c ≤ 131071 ∧ b.jabi = 0x0100 ∧ s.blockRange b (blockBytes b) = none ∧ (s.imageOf b.routine).jabi = 0x0100 →
  (stdRow b.routine).isSome = true ∧ s.rbit Reg.PWR_BOOT_LIB_FAIL = true →
  Runs (.bind t d c b) s fun u =>
    s.completes u ⟨d.tag, 4, 0x0501, noOfs, t, 0⟩ ∧
    u.jrm.ctx = s.jrm.ctx

/-- BIND and UNBIND of a context that does not exist: E_RANGE. -/
def bindRange : Prop :=
  ∀ (s : State) (t c : Nat) (d : Desc) (b : BindBlock),
  s.cmdReady t d = true →
  131071 < c →
  Runs (.bind t d c b) s fun u =>
    s.completes u ⟨d.tag, 2, 0x0501, 0x10, t, 0⟩ ∧
    u.jrm.ctx = s.jrm.ctx

/-- UNBIND of a bound context: it is FREE (03 R84; 17 R515). -/
def unbind : Prop :=
  ∀ (s : State) (t c : Nat) (d : Desc),
  s.cmdReady t d = true →
  c ≤ 131071 ∧ (s.cx c).state ≠ 0 →
  Runs (.unbind t d c) s fun u =>
    s.completes u (okCpl d 0x0502 t) ∧
    (u.cx c).state = 0 ∧ (u.cx c).run = none

/-- UNBIND of a FREE context: E_STATE. -/
def unbindFree : Prop :=
  ∀ (s : State) (t c : Nat) (d : Desc),
  s.cmdReady t d = true →
  c ≤ 131071 ∧ (s.cx c).state = 0 →
  Runs (.unbind t d c) s fun u =>
    s.completes u ⟨d.tag, 9, 0x0502, 0x10, t, 0⟩ ∧
    u.jrm.ctx = s.jrm.ctx

/-! ### PermitsAreGrantedAndReleasedByTable -/

/-- PERMIT_TAKE of a line permit (18 R529, R533). -/
def permitGranted : Prop :=
  ∀ (s : State) (t c x : Nat) (d : Desc),
  s.cmdReady t d = true →
  0x0101 ≤ c ∧ c ≤ 0x0105 ∧ x ≤ 127 ∧ s.lifType x ≠ 0 ∧ (c = 0x0101 ∨ s.lifConnected x = false) →
  s.permitClash c x = none ∧ (∃ n, n < 512 ∧ s.permitAt n = none) →
  Runs (.permitTake t d c x) s fun u =>
    s.completes u (okCpl d 0x0700 t) ∧
    u.permitHeld c x = true ∧ u.rbit Reg.MNT_LIVE_PERMIT_CHG = true ∧
    (u.evl.pend.any fun e => e.code == 0x8400 && e.sev == 5 && e.src == 0 && e.detail == c + x * 2 ^ 16 && e.dts == t) = true

/-- A grant changes no other entry. -/
def permitKeeps : Prop :=
  ∀ (s : State) (t c x n : Nat) (d : Desc),
  s.cmdReady t d = true →
  n < 512 ∧ (s.permitAt n).isSome = true ∧ (∃ m, m < 512 ∧ s.permitAt m = none) →
  Runs (.permitTake t d c x) s fun u =>
    u.permitAt n = s.permitAt n

/-- PERMIT_TAKE of SELFTEST on a spare Avenue (18 R529): it leaves the pool for its self-test. -/
def permitSelftest : Prop :=
  ∀ (s : State) (t x : Nat) (d : Desc),
  s.cmdReady t d = true →
  x < 36 ∧ s.aveState x = 1 ∧ s.permitClash 0x0202 x = none ∧ (∃ n, n < 512 ∧ s.permitAt n = none) →
  Runs (.permitTake t d 0x0202 x) s fun u =>
    s.completes u (okCpl d 0x0700 t) ∧
    u.permitHeld 0x0202 x = true ∧ u.aveState x = 3

/-- A conflict with a held permit (18 R530): E_BUSY_CONFLICT, RESULT names the holder, the table stays. -/
def permitBusy : Prop :=
  ∀ (s : State) (t c x : Nat) (d : Desc) (p : Nat × Nat),
  s.cmdReady t d = true →
  (permitKind c).isSome = true ∧ c ≠ 0x0201 ∧ c ≠ 0x0301 ∧ x ≤ ((permitKind c).map PermitKind.top).getD 0 →
  s.permitClash c x = some p →
  Runs (.permitTake t d c x) s fun u =>
    s.completes u ⟨d.tag, 5, 0x0700, noOfs, t, p.1 + p.2 * 65536⟩ ∧
    (∀ n, n < 512 → u.permitAt n = s.permitAt n)

/-- The permit a conflict names is held and conflicts with the one asked for; without one none does (18 R530). -/
def clashRule : Prop :=
    ∀ (s : State) (c x : Nat), (∀ p, s.permitClash c x = some p → s.permitHeld p.1 p.2 = true ∧ permitConflict c x p.1 p.2 = true) ∧
    (s.permitClash c x = none → ∀ y z, s.permitHeld y z = true → permitConflict c x y z = false)

/-- Two line permits conflict on one interface but for L-FAC with L-FEC, L-ANA with L-PRBS and L-ANA with L-FEC (18 Table MNT-4); never on
two. -/
def lineConflicts : Prop :=
    ∀ (a b x y : Nat), 0x0101 ≤ a → a ≤ 0x0105 → 0x0101 ≤ b → b ≤ 0x0105 →
    (permitConflict a x b y = true ↔ x = y ∧ ¬((a = 0x0101 ∧ b = 0x0105) ∨ (a = 0x0105 ∧ b = 0x0101) ∨ (a = 0x0103 ∧ b = 0x0104) ∨
      (a = 0x0104 ∧ b = 0x0103) ∨ (a = 0x0103 ∧ b = 0x0105) ∨ (a = 0x0105 ∧ b = 0x0103)))

/-- System permits conflict on one lane group but for S-ANA with S-PRBS; ROTATE with ROTATE and SELFTEST on any target; SELFTEST with itself
on one Avenue; LB-SNAP with LB-CLEAR; a line permit with no other kind (18 R530). -/
def otherConflicts : Prop :=
    ∀ (a b x y : Nat),
    (0x0112 ≤ a → a ≤ 0x0114 → 0x0112 ≤ b → b ≤ 0x0114 →
      (permitConflict a x b y = true ↔ x = y ∧ ¬((a = 0x0113 ∧ b = 0x0114) ∨ (a = 0x0114 ∧ b = 0x0113)))) ∧
    permitConflict 0x0201 x 0x0201 y = true ∧ permitConflict 0x0201 x 0x0202 y = true ∧ permitConflict 0x0202 x 0x0201 y = true ∧
    (permitConflict 0x0202 x 0x0202 y = true ↔ x = y) ∧ permitConflict 0x0301 x 0x0302 y = true ∧ permitConflict 0x0302 x 0x0301 y = true ∧
    (0x0101 ≤ a → a ≤ 0x0105 → (b < 0x0101 ∨ 0x0105 < b) → permitConflict a x b y = false)

/-- A code of no permit, or of one the device holds (18 R529): E_RANGE. -/
def permitCode : Prop :=
  ∀ (s : State) (t c x : Nat) (d : Desc),
  s.cmdReady t d = true →
  permitKind c = none ∨ c = 0x0201 ∨ c = 0x0301 →
  Runs (.permitTake t d c x) s fun u =>
    s.completes u ⟨d.tag, 2, 0x0700, 0x10, t, 0⟩ ∧
    u.permitHeld c x = s.permitHeld c x

/-- A target out of range (18 R529, Table MNT-3): E_RANGE. -/
def permitTarget : Prop :=
  ∀ (s : State) (t c x : Nat) (d : Desc) (k : PermitKind),
  s.cmdReady t d = true →
  permitKind c = some k ∧ c ≠ 0x0201 ∧ c ≠ 0x0301 ∧ k.top < x →
  Runs (.permitTake t d c x) s fun u =>
    s.completes u ⟨d.tag, 2, 0x0700, 0x12, t, 0⟩ ∧
    u.permitHeld c x = s.permitHeld c x

/-- The condition of Table MNT-3 fails (18 R529): E_STATE, no permit. -/
def permitCondition : Prop :=
  ∀ (s : State) (t c x : Nat) (d : Desc),
  s.cmdReady t d = true →
  0x0101 ≤ c ∧ c ≤ 0x0105 ∧ x ≤ 127 ∧ s.permitClash c x = none →
  s.lifType x = 0 ∨ c ≠ 0x0101 ∧ s.lifConnected x = true →
  Runs (.permitTake t d c x) s fun u =>
    s.completes u ⟨d.tag, 9, 0x0700, 0x12, t, 0⟩ ∧
    u.permitHeld c x = s.permitHeld c x

/-- PERMIT_RELEASE of a held permit (18 R533). -/
def permitReleased : Prop :=
  ∀ (s : State) (t c x : Nat) (d : Desc),
  s.cmdReady t d = true →
  (permitKind c).isSome = true ∧ c ≠ 0x0201 ∧ c ≠ 0x0301 ∧ s.permitHeld c x = true →
  Runs (.permitRelease t d c x) s fun u =>
    s.completes u (okCpl d 0x0701 t) ∧
    u.permitHeld c x = false ∧ u.rbit Reg.MNT_LIVE_PERMIT_CHG = true ∧
    (u.evl.pend.any fun e => e.code == 0x8400 && e.detail == c + x * 2 ^ 16 + 2 ^ 32 && e.dts == t) = true ∧
    (∀ y z, (y ≠ c ∨ z ≠ x) → u.permitHeld y z = s.permitHeld y z)

/-- PERMIT_RELEASE of one that is not held: E_STATE. -/
def permitNotHeld : Prop :=
  ∀ (s : State) (t c x : Nat) (d : Desc),
  s.cmdReady t d = true →
  (permitKind c).isSome = true ∧ c ≠ 0x0201 ∧ c ≠ 0x0301 ∧ s.permitHeld c x = false →
  Runs (.permitRelease t d c x) s fun u =>
    s.completes u ⟨d.tag, 9, 0x0701, 0x10, t, 0⟩ ∧
    (∀ y z, u.permitHeld y z = s.permitHeld y z)

/-- LB_CLEAR_COMPLETE (18 R529): the event area and the daily PM area are erased, and the device releases LB-CLEAR. -/
def lbClear : Prop :=
  ∀ (s : State) (t : Nat),
  s.permitHeld 0x0302 0 = true →
  Runs (.lbClearComplete t) s fun u =>
    u.evl.book = [] ∧ u.pm.daily = [] ∧ u.permitHeld 0x0302 0 = false ∧
    (u.evl.pend.any fun e => e.code == 0x8400 && e.detail == 0x0302 + 2 ^ 32 && e.dts == t) = true

/-- Without the permit there is nothing to complete. -/
def lbClearNone : Prop :=
  ∀ (s : State) (t : Nat),
  s.permitHeld 0x0302 0 = false →
  Runs (.lbClearComplete t) s fun u =>
    u.evl.book = s.evl.book ∧ u.pm.daily = s.pm.daily

/-! ### BackgroundWorkRunsOnSchedule -/

/-- SCRUB_PAGE_READ of a good page (18 R521): the next page is the Sweeper's next; a pass ends with the last. -/
def scrubPage : Prop :=
  ∀ (s : State) (t : Nat),
  s.dueWork 0 (ns 1757812500) t = true →
  s.mnt.sweep < 49152 ∧ s.pcUp (pcOf s.mnt.sweep) = true →
  Runs (.scrubPageRead t []) s fun u =>
    u.mnt.sweep = (if s.mnt.sweep + 1 < 49152 then s.mnt.sweep + 1 else 0) ∧
    u.cget Ctr.MNT_HBM_PASSES = (if s.mnt.sweep = 49151 then (s.cget Ctr.MNT_HBM_PASSES + 1) % 2 ^ 48 else s.cget Ctr.MNT_HBM_PASSES) ∧
    u.und.rsv = s.und.rsv

/-- Pages of failed pseudo-channels are skipped (18 R521). -/
def scrubSkips : Prop :=
  ∀ (s : State) (t : Nat),
  s.dueWork 0 (ns 1757812500) t = true →
  s.mnt.sweep + 1 < 49152 ∧ s.pcUp (pcOf s.mnt.sweep) = false ∧ s.pcUp (pcOf (s.mnt.sweep + 1)) = true →
  Runs (.scrubPageRead t []) s fun u =>
    u.mnt.sweep = (if s.mnt.sweep + 2 < 49152 then s.mnt.sweep + 2 else 0) ∧ u.cget Ctr.MNT_HBM_PASSES = (if s.mnt.sweep + 1 = 49151 then (s.cget Ctr.MNT_HBM_PASSES + 1) % 2 ^ 48 else s.cget Ctr.MNT_HBM_PASSES)

/-- An error found counts as one found by service does (18 R521; 09 R276). -/
def scrubFinds : Prop :=
  ∀ (s : State) (t a b n : Nat) (use_ : UndUse),
  s.dueWork 0 (ns 1757812500) t = true →
  s.mnt.sweep < 49152 ∧ s.pcUp (pcOf s.mnt.sweep) = true ∧ s.burstOk s.mnt.sweep a b = true ∧ (s.page s.mnt.sweep).unreadable a = false →
  1 ≤ n ∧ n ≤ 3 →
  Runs (.scrubPageRead t [⟨a, b, ⟨n⟩, 0, use_⟩]) s fun u =>
    u.cget Ctr.UND_CORR = (s.cget Ctr.UND_CORR + 1) % 2 ^ 48 ∧ u.rbit Reg.UND_LIVE_ECC_CORR = true ∧ u.cget Ctr.UND_SCRUB_CORR = (s.cget Ctr.UND_SCRUB_CORR + 1) % 2 ^ 48

/-- A poisoned unit that the Sweeper reads is reported as an uncorrectable read (09 R279, R280). -/
def scrubPoison : Prop :=
  ∀ (s : State) (t a : Nat),
  s.dueWork 0 (ns 1757812500) t = true →
  s.mnt.sweep < 49152 ∧ s.pcUp (pcOf s.mnt.sweep) = true ∧ s.burstOk s.mnt.sweep a 0 = true ∧ (s.page s.mnt.sweep).poison = [a] →
  Runs (.scrubPageRead t []) s fun u =>
    u.cget Ctr.UND_UNCORR = (s.cget Ctr.UND_UNCORR + 1) % 2 ^ 48 ∧ u.wordN Reg.UND_UE_ADDR = s.mnt.sweep + a * 2 ^ 16

/-- SRAM_SCRUB (18 R522): corrected words count in SRAM_CORR; an uncorrectable one elsewhere is logged with its structure and address and
counts. -/
def sramOther : Prop :=
  ∀ (s : State) (t corr k a : Nat),
  s.dueWork 1 (sec 1) t = true →
  Runs (.sramScrub t corr [.other k a]) s fun u =>
    u.cget Ctr.MNT_SRAM_CORR = (s.cget Ctr.MNT_SRAM_CORR + corr) % 2 ^ 48 ∧ u.cget Ctr.MNT_SRAM_UNCORR = (s.cget Ctr.MNT_SRAM_UNCORR + 1) % 2 ^ 48 ∧
    (u.evl.pend.any fun e => e.code == 0x8401 && e.sev == 1 && e.src == k && e.detail == a % 2 ^ 32 && e.dts == t) = true

/-- One in an Avenue half is a SELF mismatch (18 R522; 16 Table RED-2). -/
def sramHalf : Prop :=
  ∀ (s : State) (t corr a k : Nat),
  s.dueWork 1 (sec 1) t = true →
  a < 36 ∧ k < 2 ∧ s.fenceable a = true →
  Runs (.sramScrub t corr [.half a k]) s fun u =>
    s.fencedBy u a 6

/-- One in the Plaza maps is a device fault (18 R522; 07 R229). -/
def sramPlaza : Prop :=
  ∀ (s : State) (t corr : Nat),
  s.dueWork 1 (sec 1) t = true →
  s.role ≠ 4 →
  Runs (.sramScrub t corr [.plaza]) s fun u =>
    u.role = 4 ∧ u.red.fenceOut = true

/-- Background work that comes before its time is up does nothing (18 R521, R522, R525; log entry 142). -/
def workEarly : Prop :=
  ∀ (s : State) (t corr : Nat) (bad : List SramLoc) (l : List Int) (finds : List ScrubFind),
  (s.dueWork 0 (ns 1757812500) t = false → Runs (.scrubPageRead t finds) s fun u => u.mnt = s.mnt ∧ u.und = s.und) ∧
  (s.dueWork 1 (sec 1) t = false → Runs (.sramScrub t corr bad) s fun u => u.mnt = s.mnt ∧ u.evl.pend = s.evl.pend) ∧
  (s.dueWork 3 (ms 1) t = false → Runs (.thermalSample t l) s fun u => u.mnt = s.mnt ∧ u.evl.pend = s.evl.pend)

/-- THERMAL_SAMPLE (18 R525): each reading stands in MNT_TEMP, and TEMP_WARN says whether one has reached the threshold. -/
def thermal : Prop :=
  ∀ (s : State) (t : Nat) (l : List Int),
  s.dueWork 3 (ms 1) t = true →
  l.length = 64 ∧ l.all (fun v => decide (-2048 ≤ v ∧ v ≤ 2047)) = true →
  Runs (.thermalSample t l) s fun u =>
    (List.range 64).all (fun k => u.rget (Reg.MNT_TEMP_V k) == toField (l.getD k 0) 12) = true ∧
    u.rbit Reg.MNT_LIVE_TEMP_WARN = l.any (fun v => decide ((4 : Int) * (s.rget Reg.MNT_TEMP_CFG_TEMP_WARN : Int) ≤ v))

/-- When the first sensor reaches TEMP_WARN, code 0x8420 is logged with its reading (18 R525). -/
def thermalLog : Prop :=
  ∀ (s : State) (t k : Nat) (v : Int),
  s.dueWork 3 (ms 1) t = true →
  k < 64 ∧ (4 : Int) * (s.rget Reg.MNT_TEMP_CFG_TEMP_WARN : Int) ≤ v ∧ v ≤ 2047 ∧ 0 < s.rget Reg.MNT_TEMP_CFG_TEMP_WARN ∧ s.rbit Reg.MNT_LIVE_TEMP_WARN = false →
  Runs (.thermalSample t ((List.replicate 64 (0 : Int)).set k v)) s fun u =>
    (u.evl.pend.any fun e => e.code == 0x8420 && e.sev == 2 && e.src == k && e.detail == toField v 16 && e.dts == t) = true

/-- A rise or fall of more than 1.0 °C within 10 ms sets TEMP_SLEW and is logged (18 R525). -/
def thermalSlew : Prop :=
  ∀ (s : State) (t t0 k : Nat) (v v0 : Int),
  s.dueWork 3 (ms 1) t = true →
  k < 64 ∧ (t0, v0) ∈ tget (fun _ => []) s.mnt.temps k ∧ t0 ≤ t ∧ t < t0 + ms 10 ∧ 4 < (v0 - v).natAbs ∧ -2048 ≤ v ∧ v ≤ 2047 →
  (List.range k).all (fun j => (tget (fun _ => []) s.mnt.temps j).all fun p => decide ((p.2 - 0).natAbs ≤ 4)) = true ∧ s.rbit Reg.MNT_LIVE_TEMP_SLEW = false →
  Runs (.thermalSample t ((List.replicate 64 (0 : Int)).set k v)) s fun u =>
    u.rbit Reg.MNT_LIVE_TEMP_SLEW = true ∧
    (u.evl.pend.any fun e => e.code == 0x8421 && e.sev == 2 && e.src == k && e.dts == t) = true

/-- A change of 1.0 °C or less, or over 10 ms or more, does not (18 R525). -/
def thermalSteady : Prop :=
  ∀ (s : State) (t : Nat) (v : Int),
  s.dueWork 3 (ms 1) t = true →
  (List.range 64).all (fun k => (tget (fun _ => []) s.mnt.temps k).all fun p => decide (p.1 + ms 10 ≤ t ∨ (p.2 - v).natAbs ≤ 4)) = true →
  Runs (.thermalSample t (List.replicate 64 v)) s fun u =>
    u.rbit Reg.MNT_LIVE_TEMP_SLEW = false

/-- SNAPSHOT_WRITE at a whole minute (18 R527): the older copy, or one never written, holds the configuration now; no permit stays. -/
def snapshotTaken : Prop :=
  ∀ (s : State) (t w : Nat),
  t % sec 60 = 0 ∧ s.permitHeld 0x0302 0 = false ∧ s.permitHeld 0x0301 0 = false ∧ w ≤ 100 ∧ (s.permitAt 511) = none →
  Runs (.snapshotWrite t w true) s fun u =>
    ((if s.olderSnap = true then u.mnt.snap1 else u.mnt.snap0).map fun n => n.at_) = some t ∧
    ((if s.olderSnap = true then u.mnt.snap1 else u.mnt.snap0).map fun n => n.lifs) = some (s.lifsUsed.map s.snapLif) ∧
    ((if s.olderSnap = true then u.mnt.snap1 else u.mnt.snap0).map fun n => n.odus) = some (s.odusUsed.map fun i => (i, s.odu i)) ∧
    ((if s.olderSnap = true then u.mnt.snap1 else u.mnt.snap0).map fun n => n.images) = some (imagesIn 4194304 s.jrm.images) ∧
    (if s.olderSnap = true then u.mnt.snap0 = s.mnt.snap0 else u.mnt.snap1 = s.mnt.snap1) ∧
    u.rbit Reg.MNT_LB_STAT_SNAP_VALID = true ∧ u.rbit Reg.MNT_LIVE_SNAP_FAIL = false ∧ u.mnt.sealedAt = some t ∧ u.permitHeld 0x0301 0 = false ∧
    u.rget Reg.MNT_LB_STAT_WEAR_PCT = w ∧ u.rbit Reg.MNT_LIVE_LB_WEAR = decide (80 ≤ w)

/-- One that cannot be written, or that LB-CLEAR keeps out (18 R527, R530): the copies stay, SNAP_FAIL and code 0x8431. -/
def snapshotFails : Prop :=
  ∀ (s : State) (t w : Nat) (ok : Bool),
  t % sec 60 = 0 ∧ (ok = false ∨ s.permitHeld 0x0302 0 = true) →
  Runs (.snapshotWrite t w ok) s fun u =>
    u.mnt.snap0 = s.mnt.snap0 ∧ u.mnt.snap1 = s.mnt.snap1 ∧ u.rbit Reg.MNT_LIVE_SNAP_FAIL = true ∧
    (u.evl.pend.any fun e => e.code == 0x8431 && e.sev == 1 && e.dts == t) = true

/-- When the wear reaches 80 percent, LB_WEAR and code 0x8430 (18 R528). -/
def snapshotWear : Prop :=
  ∀ (s : State) (t w : Nat) (ok : Bool),
  t % sec 60 = 0 ∧ 80 ≤ w ∧ s.rbit Reg.MNT_LIVE_LB_WEAR = false →
  Runs (.snapshotWrite t w ok) s fun u =>
    (u.evl.pend.any fun e => e.code == 0x8430 && e.sev == 2 && e.detail == min 100 w && e.dts == t) = true

/-- At another instant there is none (18 R527). -/
def snapshotElsewhere : Prop :=
  ∀ (s : State) (t w : Nat) (ok : Bool),
  t % sec 60 ≠ 0 →
  Runs (.snapshotWrite t w ok) s fun u =>
    u.mnt = s.mnt

/-- ROTATION_INSTANT (18 R534): ROTATE is taken on the slot in service longest, which moves to the spare longest in the pool. -/
def rotation : Prop :=
  ∀ (s : State) (t x a : Nat),
  s.rbit Reg.MNT_CFG_ROT_EN = true ∧ t % sec 1 = 0 ∧ secOf t % 86400 = min 86399 (s.rget Reg.MNT_CFG_ROT_SEC) →
  s.longestSlot = some x ∧ s.rotDefers t x = false ∧ s.pickSpare = some a ∧ (s.permitAt 511) = none →
  Runs (.rotationInstant t) s fun u =>
    u.permitHeld 0x0201 x = true ∧ u.ave.rot = some ⟨x, s.phys x, a⟩ ∧ u.plz.batch = s.plz.batch ++ [.rotate x a] ∧ u.rbit Reg.MNT_LIVE_ROT_DEFER = false

/-- The slot in service longest, and the spare longest in the pool (18 R534). -/
def rotationChoice : Prop :=
    ∀ (s : State),
    (∀ x, s.longestSlot = some x → s.aveState (s.phys x) = 0 ∧ ∀ y, y < 32 → s.aveState (s.phys y) = 0 → (s.av (s.phys x)).inSince ≤ (s.av (s.phys y)).inSince) ∧
    (∀ a, s.pickSpare = some a → s.aveState a = 1 ∧ ∀ b, b < 36 → s.aveState b = 1 → s.permitHeld 0x0202 b = false → (s.av a).spareSince ≤ (s.av b).spareSince)

/-- With fewer than 2 spares, a permit in the way, an overlap, spare exhaustion or a takeover (18 R535): logged, ROT_DEFER, a retry in 1 h. -/
def rotationDeferred : Prop :=
  ∀ (s : State) (t x : Nat),
  s.rbit Reg.MNT_CFG_ROT_EN = true ∧ t % sec 1 = 0 ∧ secOf t % 86400 = min 86399 (s.rget Reg.MNT_CFG_ROT_SEC) ∧ s.longestSlot = some x →
  ((List.range 36).filter fun a => s.aveState a = 1).length < 2 ∨ (s.permitClash 0x0201 x).isSome = true ∨ s.ave.exh ≠ [] ∨ s.leaseAt t = false →
  Runs (.rotationInstant t) s fun u =>
    u.rbit Reg.MNT_LIVE_ROT_DEFER = true ∧ u.mnt.retry = some (t + sec 3600) ∧ u.ave.rot = s.ave.rot ∧ u.plz.batch = s.plz.batch ∧
    (u.evl.pend.any fun e => e.code == 0x8411 && e.sev == 3 && e.src == x && e.dts == t) = true

/-- With ROT_EN clear, or at another second, none begins (18 R534). -/
def rotationOff : Prop :=
  ∀ (s : State) (t : Nat),
  s.rbit Reg.MNT_CFG_ROT_EN = false ∨ t % sec 1 ≠ 0 ∨ secOf t % 86400 ≠ min 86399 (s.rget Reg.MNT_CFG_ROT_SEC) →
  Runs (.rotationInstant t) s fun u =>
    u.ave.rot = s.ave.rot ∧ u.plz.batch = s.plz.batch ∧ u.mnt = s.mnt

/-- ROTATION_RETRY of a deferred rotation before the next rotation instant (18 R535) follows the same rule. -/
def rotationRetried : Prop :=
  ∀ (s : State) (t r x a : Nat),
  s.rbit Reg.MNT_CFG_ROT_EN = true ∧ s.mnt.retry = some r ∧ r ≤ t ∧ t < s.mnt.rotUntil →
  s.longestSlot = some x ∧ s.rotDefers t x = false ∧ s.pickSpare = some a ∧ (s.permitAt 511) = none →
  Runs (.rotationRetry t) s fun u =>
    u.permitHeld 0x0201 x = true ∧ u.ave.rot = some ⟨x, s.phys x, a⟩ ∧ u.plz.batch = s.plz.batch ++ [.rotate x a] ∧ u.mnt.retry = none

/-- Without one deferred there is no retry. -/
def rotationNoRetry : Prop :=
  ∀ (s : State) (t : Nat),
  s.mnt.retry = none →
  Runs (.rotationRetry t) s fun u =>
    u.ave.rot = s.ave.rot ∧ u.plz.batch = s.plz.batch ∧ u.mnt = s.mnt

/-- TELEMETRY_CFG on a packet queue whose producer is the hardware source (18 R536). -/
def telemetryCfg : Prop :=
  ∀ (s : State) (t r n q : Nat) (d : Desc),
  s.cmdReady t d = true →
  r ≤ 255 ∧ 1 ≤ n ∧ n ≤ 60000 ∧ q ≤ 4095 ∧ (s.q q).mode = 2 ∧ (s.q q).producer = 2 →
  Runs (.telemetryCfg t d r n q) s fun u =>
    s.completes u (okCpl d 0x0702 t) ∧
    u.mnt.tele.set = r ∧ u.mnt.tele.cadence = n ∧ u.mnt.tele.queue = q

/-- On any other queue: E_RANGE (18 R536). -/
def telemetryRefused : Prop :=
  ∀ (s : State) (t r n q : Nat) (d : Desc),
  s.cmdReady t d = true →
  r ≤ 255 ∧ 1 ≤ n ∧ n ≤ 60000 ∧ ((s.q q).mode ≠ 2 ∨ (s.q q).producer ≠ 2) →
  Runs (.telemetryCfg t d r n q) s fun u =>
    s.completes u ⟨d.tag, 2, 0x0702, 0x16, t, 0⟩ ∧
    u.mnt = s.mnt

/-- TELEMETRY_PACKET at a multiple of the cadence into a queue with room (18 R536, R537): header and sections as one packet; it counts. -/
def telemetryPacket : Prop :=
  ∀ (s : State) (t : Nat),
  s.mnt.tele.cadence ≠ 0 ∧ t % ms s.mnt.tele.cadence = 0 →
  (s.q s.mnt.tele.queue).mode = 2 ∧ (s.q s.mnt.tele.queue).spillFull = false ∧ (s.q s.mnt.tele.queue).group < 256 →
  (s.q s.mnt.tele.queue).depth + (teleWords (s.telePacket t)).length < (s.q s.mnt.tele.queue).cap →
  (s.que.waits.all fun w => w.queue != s.mnt.tele.queue) = true →
  Runs (.telemetryPacket t) s fun u =>
    (u.q s.mnt.tele.queue).items = (s.q s.mnt.tele.queue).items ++ pktItems (s.telePacket t).length (teleWords (s.telePacket t)) t t ∧
    u.mnt.tele.count = (s.mnt.tele.count + 1) % 2 ^ 32 ∧ u.cget Ctr.MNT_TELE_PACKETS = (s.cget Ctr.MNT_TELE_PACKETS + 1) % 2 ^ 48

/-- The header (18 R537): the DTS, the DEVID, the packet count, the record set, the length; then a section for each bit set, in ascending
order. -/
def telemetryHeader : Prop :=
    ∀ (s : State) (t : Nat), (s.telePacket t).take 12 = leBytes 12 (dts96 t) ∧ ((s.telePacket t).drop 12).take 2 = leBytes 2 s.devid ∧
    ((s.telePacket t).drop 14).take 4 = leBytes 4 s.mnt.tele.count ∧ ((s.telePacket t).drop 18).take 4 = leBytes 4 s.mnt.tele.set ∧
    ((s.telePacket t).drop 22).take 2 = leBytes 2 (s.telePacket t).length ∧ ((s.telePacket t).drop 24).take 8 = List.replicate 8 0 ∧
    (s.telePacket t).drop 32 = ((List.range 8).filter fun k => s.mnt.tele.set.testBit k).flatMap (fun k =>
      [BitVec.ofNat 8 k, 0] ++ leBytes 2 (s.teleData k).length ++ s.teleData k)

/-- A packet that finds its queue full is dropped whole (18 R537): TELE_DROP. -/
def telemetryDropped : Prop :=
  ∀ (s : State) (t : Nat),
  s.mnt.tele.cadence ≠ 0 ∧ t % ms s.mnt.tele.cadence = 0 →
  (s.q s.mnt.tele.queue).mode = 2 ∧ (s.q s.mnt.tele.queue).full = true ∧ (s.q s.mnt.tele.queue).group < 256 →
  Runs (.telemetryPacket t) s fun u =>
    (u.q s.mnt.tele.queue).items = (s.q s.mnt.tele.queue).items ∧ u.cget Ctr.MNT_TELE_DROP = (s.cget Ctr.MNT_TELE_DROP + 1) % 2 ^ 48 ∧ u.rbit Reg.MNT_LIVE_TELE_DROP = true ∧
    u.cget Ctr.MNT_TELE_PACKETS = s.cget Ctr.MNT_TELE_PACKETS

/-- Without a cadence, or between its instants, there is no packet (18 R536). -/
def telemetryOff : Prop :=
  ∀ (s : State) (t : Nat),
  s.mnt.tele.cadence = 0 ∨ t % ms s.mnt.tele.cadence ≠ 0 →
  Runs (.telemetryPacket t) s fun u =>
    u.que = s.que ∧ u.mnt = s.mnt

/-! ### PowerOnResetAndDomainFaultsContainFaults -/

/-- POR_N_LOW (19 R542, Table PWR-4). -/
def porNLow : Prop :=
  ∀ (s : State) (t : Nat),
  Runs (.porNLow t) s fun u =>
    u.pwr.held = true ∧ u.dts = 0 ∧ u.evl.book = s.evl.book ∧ u.pm.daily = s.pm.daily ∧ u.mnt.snap0 = s.mnt.snap0 ∧ u.mnt.snap1 = s.mnt.snap1 ∧
    u.plz = State.reset.plz ∧ u.lin = State.reset.lin ∧ u.map = State.reset.map ∧ u.que = State.reset.que ∧ u.tim = State.reset.tim ∧ u.jrm = State.reset.jrm ∧
    u.hcq = State.reset.hcq ∧ u.evl.pend = [] ∧ u.pwr.faults = [] ∧
    (∀ a, a ≠ Reg.PWR_BOOT → a ≠ Reg.MNT_LB_STAT → u.wordN a = State.reset.wordN a) ∧
    (∀ c x, u.permitHeld c x = false) ∧ (∀ a, u.cget a = 0)

/-- RAIL_UNDERVOLTAGE (19 R543): the same, whatever POR_N. -/
def railUndervoltage : Prop :=
  ∀ (s : State) (t : Nat),
  Runs (.railUndervoltage t) s fun u =>
    u.pwr.held = true ∧ u.dts = 0 ∧ u.evl.book = s.evl.book ∧ u.mnt.snap0 = s.mnt.snap0 ∧ u.mnt.snap1 = s.mnt.snap1 ∧ u.plz = State.reset.plz ∧ u.jrm = State.reset.jrm ∧
    (∀ a, a ≠ Reg.PWR_BOOT → a ≠ Reg.MNT_LB_STAT → u.wordN a = State.reset.wordN a)

/-- THERMAL_TRIP (21 R605): a sensor at 125 °C for 1 ms; the device enters power-on reset. -/
def thermalTrip : Prop :=
  ∀ (s : State) (t k : Nat),
  tget (fun _ => 0) s.mnt.hot k ≠ 0 ∧ tget (fun _ => 0) s.mnt.hot k + ms 1 ≤ t →
  Runs (.thermalTrip t k) s fun u =>
    u.pwr.held = true ∧ u.dts = 0 ∧ u.evl.book = s.evl.book ∧ u.plz = State.reset.plz ∧ u.jrm = State.reset.jrm

/-- Below 125 °C, or not yet for 1 ms, it does not (21 R605). -/
def thermalNoTrip : Prop :=
  ∀ (s : State) (t k : Nat),
  tget (fun _ => 0) s.mnt.hot k = 0 ∨ t < tget (fun _ => 0) s.mnt.hot k + ms 1 →
  Runs (.thermalTrip t k) s fun u =>
    u.pwr = s.pwr ∧ u.plz = s.plz ∧ u.dts = max s.dts t

/-- POR_RELEASE (19 R551, R553, R547): BOOT_RESTORE is sampled, the count starts at zero, the reset is logged. -/
def porRelease : Prop :=
  ∀ (s : State) (b : Bool),
  s.pwr.held = true →
  Runs (.porRelease b) s fun u =>
    u.pwr.held = false ∧ u.pwr.strap = b ∧ u.dts = 0 ∧ u.rbit Reg.PWR_BOOT_RESTORE_REQ = b ∧ u.rget Reg.PWR_BOOT_LAST_RESET = 0 ∧
    (u.evl.pend.any fun e => e.code == 0x8520 && e.detail == 0 && e.dts == 0) = true

/-- A device that is not held takes no second sample (19 R553). -/
def porReleaseAgain : Prop :=
  ∀ (s : State) (b : Bool),
  s.pwr.held = false →
  Runs (.porRelease b) s fun u =>
    u.pwr = s.pwr ∧ u.dts = s.dts

/-- DOMAIN_FAULT (19 R540): off, FAULT, counted, logged with its cause. -/
def domainFault : Prop :=
  ∀ (s : State) (t d cause : Nat),
  d < 99 ∧ s.rget (Reg.PWR_DOM_STATE d) ≠ 0 →
  Runs (.domainFault t d cause) s fun u =>
    u.rget (Reg.PWR_DOM_STATE d) = 0 ∧ u.rbit (Reg.PWR_DOM_FAULT d) = true ∧ u.cget Ctr.PWR_DOM_FAULTS = (s.cget Ctr.PWR_DOM_FAULTS + 1) % 2 ^ 48 ∧
    (u.evl.pend.any fun e => e.code == 0x8500 && e.sev == 2 && e.src == d && e.detail == cause % 2 ^ 48 && e.dts == t) = true ∧ u.rbit Reg.PWR_LIVE_DOM_FAULT = true ∧
    u.rget (Reg.PWR_DOM_FAULTS_24H d) = min 255 ((s.domFaults t d).length + 1)

/-- Of an Avenue half (19 Table PWR-2): a SELF mismatch of its Avenue. -/
def domainFaultAvenue : Prop :=
  ∀ (s : State) (t d cause : Nat),
  d < 72 ∧ s.rget (Reg.PWR_DOM_STATE d) ≠ 0 ∧ s.fenceable (d / 2) = true ∧ (s.domFaults t d).length < 2 →
  Runs (.domainFault t d cause) s fun u =>
    s.fencedBy u (d / 2) 6

/-- Of a line SerDes block (19 Table PWR-2): its lanes lose CDR lock. -/
def domainFaultLine : Prop :=
  ∀ (s : State) (t d l cause : Nat),
  72 ≤ d ∧ d < 80 ∧ s.rget (Reg.PWR_DOM_STATE d) ≠ 0 ∧ l / 16 = d - 72 →
  Runs (.domainFault t d cause) s fun u =>
    u.rbit (Reg.LIN_LANE_STAT_CDR_LOCK l) = false

/-- Of a stack (19 Table PWR-2; 09 R283): a device fault. -/
def domainFaultStack : Prop :=
  ∀ (s : State) (t d cause : Nat),
  91 ≤ d ∧ d < 95 ∧ s.rget (Reg.PWR_DOM_STATE d) ≠ 0 ∧ s.role ≠ 4 →
  Runs (.domainFault t d cause) s fun u =>
    u.role = 4 ∧ u.red.fenceOut = true ∧ u.rbit (Reg.UND_STACK_FAILED (d - 91)) = true

/-- Of the leaseholder's Kiosk (19 Table PWR-2; 16 R476): the lease lapses; of the other: no effect on service. -/
def domainFaultHolder : Prop :=
  ∀ (s : State) (t d cause : Nat),
  95 ≤ d ∧ d < 97 ∧ s.rget (Reg.PWR_DOM_STATE d) ≠ 0 ∧ s.leaseAt t = true →
  Runs (.domainFault t d cause) s fun u =>
    u.red.kReset.contains (d - 95) = true ∧ u.rbit Reg.KSK_LEASE_VALID = decide (s.holder ≠ d - 95) ∧ u.role = s.role ∧ u.plz = s.plz

/-- Of PX0 (19 Table PWR-2; 13 R418): every enabled Overhead Access Port enters CLK_LOST. -/
def domainFaultPorts : Prop :=
  ∀ (s : State) (t n cause : Nat),
  s.rget (Reg.PWR_DOM_STATE 97) ≠ 0 ∧ n < 8 ∧ s.rbit (Reg.OAP_CFG_EN n) = true →
  Runs (.domainFault t 97 cause) s fun u =>
    u.oapState n = oapLost

/-- The third fault within 24 h retires the domain (19 R541), for an Avenue half its Avenue (16 R468). -/
def domainFaultThird : Prop :=
  ∀ (s : State) (t d cause : Nat),
  d < 99 ∧ s.rget (Reg.PWR_DOM_STATE d) ≠ 0 ∧ 2 ≤ (s.domFaults t d).length →
  Runs (.domainFault t d cause) s fun u =>
    u.rbit (Reg.PWR_DOM_RETIRED d) = true ∧ u.rget (Reg.PWR_DOM_STATE d) = 0 ∧ u.rbit Reg.PWR_LIVE_DOM_RETIRED = true ∧
    (d < 72 → u.aveState (d / 2) = 4)

/-- A domain that is off has no fault. -/
def domainFaultOff : Prop :=
  ∀ (s : State) (t d cause : Nat),
  99 ≤ d ∨ s.rget (Reg.PWR_DOM_STATE d) = 0 →
  Runs (.domainFault t d cause) s fun u =>
    u.pwr = s.pwr ∧ u.cget Ctr.PWR_DOM_FAULTS = s.cget Ctr.PWR_DOM_FAULTS

/-- DOMAIN_RETURN of a domain a fault switched off (19 R540): ON again and logged; check-value units return with EN clear. -/
def domainReturn : Prop :=
  ∀ (s : State) (t d : Nat),
  d < 91 ∨ 95 ≤ d ∧ d < 99 →
  s.rget (Reg.PWR_DOM_STATE d) = 0 ∧ s.rbit (Reg.PWR_DOM_RETIRED d) = false ∧ tget (fun _ => []) s.pwr.faults d ≠ [] →
  Runs (.domainReturn t d) s fun u =>
    u.rget (Reg.PWR_DOM_STATE d) = 2 ∧ (u.evl.pend.any fun e => e.code == 0x8501 && e.sev == 4 && e.src == d && e.dts == t) = true ∧
    (d = 98 → (List.range 32).all (fun n => !u.rbit (Reg.CVU_CFG_EN n)) = true)

/-- A stack, and a retired domain, return with a power-on reset only (19 R540, R541). -/
def domainStaysOff : Prop :=
  ∀ (s : State) (t d : Nat),
  91 ≤ d ∧ d < 95 ∨ s.rbit (Reg.PWR_DOM_RETIRED d) = true →
  Runs (.domainReturn t d) s fun u =>
    u.rget (Reg.PWR_DOM_STATE d) = s.rget (Reg.PWR_DOM_STATE d) ∧ u.pwr = s.pwr

/-! ### StartUpPassesItsStages -/

/-- STARTUP_STAGE_COMPLETE 1 (19 R551): STAGE, the time in ms, code 0x8510. -/
def stageFirst : Prop :=
  ∀ (s : State) (t : Nat) (f : StageFind),
  s.pwr.held = false ∧ s.rbit Reg.PWR_BOOT_BOOT_FAIL = false ∧ s.rget Reg.PWR_BOOT_STAGE = 0 ∧ (t - s.pwr.began) / ms 1 < 65536 →
  Runs (.startupStageComplete t 1 f) s fun u =>
    u.rget Reg.PWR_BOOT_STAGE = 1 ∧ u.rget (Reg.PWR_STAGE_MS_V 0) = (t - s.pwr.began) / ms 1 ∧ u.rbit Reg.PWR_LIVE_STAGE_DONE = true ∧
    (u.evl.pend.any fun e => e.code == 0x8510 && e.sev == 5 && e.src == 1 && e.detail == (t - s.pwr.began) / ms 1 && e.dts == t) = true

/-- A stage out of order, of a device in reset, or after BOOT_FAIL, does not complete (19 R550, R551). -/
def stageOrder : Prop :=
  ∀ (s : State) (t k : Nat) (f : StageFind),
  s.pwr.held = true ∨ s.rbit Reg.PWR_BOOT_BOOT_FAIL = true ∨ k ≠ s.rget Reg.PWR_BOOT_STAGE + 1 →
  Runs (.startupStageComplete t k f) s fun u =>
    (∀ a, u.wordN a = s.wordN a) ∧
    u.plz = s.plz ∧ u.pwr = s.pwr

/-- Stage 2 (19 R550; 16 R477): the active slot, or the other when it is rejected, runs; K0 holds the first lease. -/
def stageKiosk : Prop :=
  ∀ (s : State) (t : Nat) (f : StageFind),
  s.pwr.held = false ∧ s.rbit Reg.PWR_BOOT_BOOT_FAIL = false ∧ s.rget Reg.PWR_BOOT_STAGE = 1 →
  (if f.active = true then f.rejB else f.rejA) = none ∨ (if f.active = true then f.rejA else f.rejB) = none →
  s.red.kPrev = none ∧ s.rbit Reg.KSK_LEASE_VALID = false ∧ s.grantable 0 = true →
  Runs (.startupStageComplete t 2 f) s fun u =>
    u.rget Reg.PWR_BOOT_STAGE = 2 ∧ u.rbit Reg.KSK_LEASE_VALID = true ∧ u.holder = 0 ∧
    u.rbit Reg.PWR_BOOT_FW_SLOT = (if (if f.active = true then f.rejB else f.rejA) = none then f.active else !f.active) ∧
    u.cget Ctr.PWR_IMG_REJECT = (s.cget Ctr.PWR_IMG_REJECT + if (if f.active = true then f.rejB else f.rejA) = none then 0 else 1) % 2 ^ 48

/-- With both firmware images rejected (19 R550): BOOT_FAIL, the stage does not complete, both rejections logged, no lease. -/
def stageBootFail : Prop :=
  ∀ (s : State) (t x y : Nat) (f : StageFind),
  s.pwr.held = false ∧ s.rbit Reg.PWR_BOOT_BOOT_FAIL = false ∧ s.rget Reg.PWR_BOOT_STAGE = 1 ∧ f.rejA = some x ∧ f.rejB = some y →
  Runs (.startupStageComplete t 2 f) s fun u =>
    u.rbit Reg.PWR_BOOT_BOOT_FAIL = true ∧ u.rget Reg.PWR_BOOT_STAGE = 1 ∧ u.rbit Reg.KSK_LEASE_VALID = s.rbit Reg.KSK_LEASE_VALID ∧
    (u.evl.pend.any fun e => e.code == 0x8511 && e.sev == 1 && e.src == 0 && e.detail == x % 2 ^ 48) = true ∧
    (u.evl.pend.any fun e => e.code == 0x8511 && e.sev == 1 && e.src == 1 && e.detail == y % 2 ^ 48) = true ∧
    u.rbit Reg.HCQ_STAT_READY = s.rbit Reg.HCQ_STAT_READY

/-- Stage 3 (19 Table PWR-6): the stacks are trained with all their pseudo-channels; with both libraries rejected LIB_FAIL is set and start-up
goes on (R550). -/
def stageStacks : Prop :=
  ∀ (s : State) (t k : Nat) (f : StageFind),
  s.pwr.held = false ∧ s.rbit Reg.PWR_BOOT_BOOT_FAIL = false ∧ s.rget Reg.PWR_BOOT_STAGE = 2 ∧ k < 4 ∧ s.rbit Reg.PWR_BOOT_LIB_FAIL = false →
  Runs (.startupStageComplete t 3 f) s fun u =>
    u.rget Reg.PWR_BOOT_STAGE = 3 ∧ u.rbit (Reg.UND_STACK_TRAINED k) = true ∧ u.rget (Reg.UND_STACK_PC_WORKING k) = 32 ∧
    u.rbit Reg.PWR_BOOT_LIB_FAIL = (f.rejA.isSome && f.rejB.isSome)

/-- Stage 4 (19 R552): slot s is the s-th Avenue in ascending order whose halves pass; the rest are spare; a failed one is retired. -/
def stageSlots : Prop :=
  ∀ (s : State) (t : Nat) (f : StageFind),
  s.pwr.held = false ∧ s.rbit Reg.PWR_BOOT_BOOT_FAIL = false ∧ s.rget Reg.PWR_BOOT_STAGE = 3 →
  (List.range 72).all (fun d => !s.rbit (Reg.PWR_DOM_RETIRED d)) = true ∧ s.ave = State.reset.ave ∧ s.jrm.ctx = [] ∧ s.plz.conn = [] ∧
    (List.range 36).all (fun a => s.aveState a != 4) = true →
  32 ≤ ((List.range 36).filter fun a => !(f.halves.contains (2 * a) || f.halves.contains (2 * a + 1))).length →
  Runs (.startupStageComplete t 4 f) s fun u =>
    u.rget Reg.PWR_BOOT_STAGE = 4 ∧
    (List.range 32).map u.phys = ((List.range 36).filter fun a => !(f.halves.contains (2 * a) || f.halves.contains (2 * a + 1))).take 32 ∧
    (List.range 32).all (fun x => u.aveState (u.phys x) == 0 && !u.rbit (Reg.PLZ_SLOT_MAP_FENCED x)) = true ∧
    (((List.range 36).filter fun a => !(f.halves.contains (2 * a) || f.halves.contains (2 * a + 1))).drop 32).all (fun a => u.aveState a == 1) = true ∧
    (List.range 36).all (fun a => !(f.halves.contains (2 * a) || f.halves.contains (2 * a + 1)) || u.aveState a == 4) = true

/-- Stage 5 without a restore (19 R555; 17 R518): SOLO without PAIR_EN, STANDBY with it; READY with a valid lease. -/
def stageService : Prop :=
  ∀ (s : State) (t : Nat) (f : StageFind),
  s.pwr.held = false ∧ s.rbit Reg.PWR_BOOT_BOOT_FAIL = false ∧ s.rget Reg.PWR_BOOT_STAGE = 4 ∧ s.pwr.strap = false ∧ s.role = 0 →
  Runs (.startupStageComplete t 5 f) s fun u =>
    u.rget Reg.PWR_BOOT_STAGE = 5 ∧ u.role = (if s.red.pairNext = true then 1 else 0) ∧ u.pairOn = s.red.pairNext ∧ u.roleOut = !s.red.pairNext ∧
    (s.rbit Reg.KSK_LEASE_VALID = true → u.rbit Reg.HCQ_STAT_READY = true) ∧
    (s.red.pairNext = true → u.rbit Reg.KSK_PAIR_STAT_STANDBY_STALE = true)

/-- Stage 5 with BOOT_RESTORE high and no copy whose seal holds, or one of another major version (19 R554): RESTORE_SKIPPED, unconfigured, and
stage 5. -/
def stageSkipped : Prop :=
  ∀ (s : State) (t : Nat) (f : StageFind),
  s.pwr.held = false ∧ s.rbit Reg.PWR_BOOT_BOOT_FAIL = false ∧ s.rget Reg.PWR_BOOT_STAGE = 4 ∧ s.pwr.strap = true →
  s.usableSnap f = none ∨ (∃ n, s.usableSnap f = some n ∧ (n.hcp ≠ s.red.hcpRange / 2 ^ 24 ∨ n.jabi ≠ s.red.jabiRange / 2 ^ 24)) →
  Runs (.startupStageComplete t 5 f) s fun u =>
    u.rget Reg.PWR_BOOT_STAGE = 5 ∧ u.rbit Reg.PWR_BOOT_RESTORE_SKIPPED = true ∧ u.rbit Reg.PWR_LIVE_RESTORE_SKIPPED = true ∧
    u.plz = s.plz ∧ u.map = s.map ∧ u.que.qs = s.que.qs ∧ u.jrm.images = s.jrm.images ∧
    (u.evl.pend.any fun e => e.code == 0x8512 && e.sev == 2 && e.src == 0 && (e.detail == 3 || e.detail == 1)) = true

/-- Stage 5 with a usable snapshot (19 R553): the configuration it holds stands again, bound contexts with their seed; RESTORED and code
0x8512. -/
def stageRestored : Prop :=
  ∀ (s : State) (t : Nat) (f : StageFind) (n : SnapH),
  s.pwr.held = false ∧ s.rbit Reg.PWR_BOOT_BOOT_FAIL = false ∧ s.rget Reg.PWR_BOOT_STAGE = 4 ∧ s.pwr.strap = true →
  s.usableSnap f = some n ∧ n.hcp = s.red.hcpRange / 2 ^ 24 ∧ n.jabi = s.red.jabiRange / 2 ^ 24 →
  Runs (.startupStageComplete t 5 f) s fun u =>
    u.rget Reg.PWR_BOOT_STAGE = 5 ∧ u.rbit Reg.PWR_BOOT_RESTORED = true ∧ u.rbit Reg.PWR_BOOT_RESTORE_SKIPPED = s.rbit Reg.PWR_BOOT_RESTORE_SKIPPED ∧
    u.jrm.images = n.images.filter (fun p => !f.badImages.contains p.1) ∧ u.red.pairNext = n.pairEn ∧
    (u.evl.pend.any fun e => e.code == 0x8512 && e.sev == 4 && e.detail == 0 && e.dts == t) = true

/-- Of two copies whose seals hold the newer serves; with one, that one; with none, none (18 R527, 19 R553). -/
def newestCopy : Prop :=
    ∀ (s : State) (f : StageFind),
    (f.seal0 = false → f.seal1 = false → s.usableSnap f = none) ∧
    (f.seal0 = true → f.seal1 = false → s.usableSnap f = s.mnt.snap0) ∧ (f.seal0 = false → f.seal1 = true → s.usableSnap f = s.mnt.snap1) ∧
    (∀ a b, f.seal0 = true → f.seal1 = true → s.mnt.snap0 = some a → s.mnt.snap1 = some b → ∃ c, s.usableSnap f = some c ∧ (c = a ∨ c = b) ∧ a.at_ ≤ c.at_ ∧ b.at_ ≤ c.at_)

/-! ### ResetsByCommandAndOfTheLink -/

/-- RESET (19 R545): OK at once, effective 100 µs later. -/
def resetCmd : Prop :=
  ∀ (s : State) (t code : Nat) (d : Desc),
  s.cmdReady t d = true →
  code = 2 ∨ 0x10 ≤ code ∧ code ≤ 0x13 ∨ code = 1 ∧ s.role ≠ 2 ∧ s.role ≠ 3 →
  Runs (.reset t d code) s fun u =>
    s.completes u (okCpl d 0x0900 (t + us 100)) ∧
    u.hcq.reset = some (code, t + us 100) ∧ u.plz = s.plz ∧ u.role = s.role

/-- A full reset of an ACTIVE or ORPHAN device first gives up its role (19 R545; 16 R488). -/
def resetGivesUp : Prop :=
  ∀ (s : State) (t : Nat) (d : Desc),
  s.cmdReady t d = true →
  s.role = 2 ∨ s.role = 3 →
  Runs (.reset t d 1) s fun u =>
    u.roleOut = false ∧ u.hcq.reset = some (1, t + us 100)

/-- RESET with another code: E_RANGE. -/
def resetCode : Prop :=
  ∀ (s : State) (t code : Nat) (d : Desc),
  s.cmdReady t d = true →
  resetCodes.contains code = false →
  Runs (.reset t d code) s fun u =>
    s.completes u ⟨d.tag, 2, 0x0900, 0x10, t, 0⟩ ∧
    u.hcq.reset = s.hcq.reset

/-- RESET_BEGIN of a full reset (19 R545, R547, Table PWR-4). -/
def resetFull : Prop :=
  ∀ (s : State) (t x : Nat),
  s.hcq.reset = some (1, x) ∧ x ≤ t →
  Runs (.resetBegin t) s fun u =>
    (List.range 99).all (fun d => u.rget (Reg.PWR_DOM_STATE d) == 0) = true ∧ u.rget Reg.PWR_BOOT_LAST_RESET = 1 ∧ u.cget Ctr.PWR_RESETS = (s.cget Ctr.PWR_RESETS + 1) % 2 ^ 48 ∧
    u.plz = State.reset.plz ∧ u.lin = State.reset.lin ∧ u.map = State.reset.map ∧ u.que = State.reset.que ∧ u.jrm = State.reset.jrm ∧ u.hcq.reset = none ∧
    u.dts = max s.dts t ∧ u.tim = s.tim ∧ u.evl.book = s.evl.book ∧ u.mnt.snap0 = s.mnt.snap0 ∧ u.mnt.snap1 = s.mnt.snap1 ∧ u.pm.daily = s.pm.daily ∧
    (u.evl.pend.any fun e => e.code == 0x8520 && e.sev == 3 && e.detail == 1 && e.dts == t) = true ∧ u.rbit Reg.HCQ_STAT_READY = false ∧
    (∀ c y, u.permitHeld c y = false)

/-- RESET_BEGIN of a Kiosk handover (19 R547; 16 R476): the lease lapses; permits and traffic stay. -/
def resetHandover : Prop :=
  ∀ (s : State) (t x : Nat),
  s.hcq.reset = some (2, x) ∧ x ≤ t ∧ s.leaseAt t = true →
  Runs (.resetBegin t) s fun u =>
    u.rbit Reg.KSK_LEASE_VALID = false ∧ u.red.kReset.contains s.holder = true ∧ u.rget Reg.PWR_BOOT_LAST_RESET = 2 ∧ u.plz = s.plz ∧ u.role = s.role ∧
    (∀ c y, u.permitHeld c y = s.permitHeld c y)

/-- RESET_BEGIN of a stack (19 R546, R547): the stack retrains; permits, connections and the role stay. -/
def resetStack : Prop :=
  ∀ (s : State) (t k x : Nat),
  k < 4 ∧ s.hcq.reset = some (16 + k, x) ∧ x ≤ t →
  Runs (.resetBegin t) s fun u =>
    u.rbit (Reg.UND_STACK_TRAINED k) = false ∧ u.rget (Reg.UND_STACK_PC_WORKING k) = 0 ∧ u.pwr.retrain.contains k = true ∧ u.rget Reg.PWR_BOOT_LAST_RESET = 16 + k ∧
    u.plz.conn = s.plz.conn ∧ u.role = s.role ∧
    (∀ c y, u.permitHeld c y = s.permitHeld c y)

/-- Without one, or before its instant, nothing begins. -/
def resetNone : Prop :=
  ∀ (s : State) (t : Nat),
  s.hcq.reset.all (fun r => decide (t < r.2)) = true →
  Runs (.resetBegin t) s fun u =>
    (∀ a, u.wordN a = s.wordN a ∧ u.cget a = s.cget a) ∧
    u.hcq.reset = s.hcq.reset ∧ u.plz = s.plz

/-- LINK_RESET (19 R544, R547): the ring is off and its registers at reset; permits, the datapath and the Kiosk go on; code 0x8520 with 0xFF. -/
def linkReset : Prop :=
  ∀ (s : State) (t : Nat),
  Runs (.linkReset t) s fun u =>
    u.rbit Reg.HCQ_CTL_EN = false ∧ u.rbit Reg.HCQ_STAT_HELLO_DONE = false ∧ u.rget Reg.HCQ_STAT_HCP = 0 ∧ u.rbit Reg.HCQ_STAT_READY = s.rbit Reg.HCQ_STAT_READY ∧
    u.rget Reg.CMD_PI_V = 0 ∧ u.rget Reg.CMD_CI_V = 0 ∧ u.rget Reg.CPL_PI_V = 0 ∧ u.hcq.exec = s.hcq.exec ∧ u.hcq.cut = s.hcq.exec.isSome ∧
    u.plz = s.plz ∧ u.role = s.role ∧ u.holder = s.holder ∧ u.rget Reg.PWR_BOOT_LAST_RESET = s.rget Reg.PWR_BOOT_LAST_RESET ∧
    (u.evl.pend.any fun e => e.code == 0x8520 && e.detail == 0xFF && e.dts == t) = true ∧ u.cget Ctr.PWR_RESETS = (s.cget Ctr.PWR_RESETS + 1) % 2 ^ 48 ∧
    (∀ c y, u.permitHeld c y = s.permitHeld c y)

/-- STACK_RETRAIN_COMPLETE (19 R546; 09 R282): the stack's pseudo-channels work again. -/
def stackRetrained : Prop :=
  ∀ (s : State) (t k : Nat),
  k < 4 ∧ s.pwr.retrain.contains k = true →
  Runs (.stackRetrainComplete t k) s fun u =>
    u.rbit (Reg.UND_STACK_TRAINED k) = true ∧ u.wordN (Reg.UND_PC_FAIL k) = 0 ∧ u.rbit (Reg.UND_STACK_FAILED k) = false ∧ u.rget (Reg.UND_STACK_PC_WORKING k) = 32 ∧
    u.pwr.retrain.contains k = false

/-- A stack that does not retrain has nothing to complete. -/
def stackNotRetraining : Prop :=
  ∀ (s : State) (t k : Nat),
  s.pwr.retrain.contains k = false →
  Runs (.stackRetrainComplete t k) s fun u =>
    (∀ a, u.wordN a = s.wordN a ∧ u.cget a = s.cget a) ∧
    u.pwr = s.pwr ∧ u.und.rsv = s.und.rsv

/-! ### ConditionedInputsAreFilteredAndWatched -/

/-- CONDITIONED_INPUT_TRANSITION (21 R592, R607): the level, stamped with the first of the G samples; a stuck state ends (R593). -/
def pinTransition : Prop :=
  ∀ (s : State) (t i : Nat) (lv : Bool),
  i < 58 ∧ s.pwr.held = false ∧ s.pinLevel i = !lv ∧ (s.pin i).seen = true →
  Runs (.conditionedInputTransition t i lv) s fun u =>
    u.pinLevel i = lv ∧ u.rbit (pinBit Reg.PWR_IN_STUCK i) = false ∧ (u.pin i).since = t - ns (10 * ((s.conditioning i).g - 1)) ∧
    (∀ j, j < 58 → j ≠ i → u.pinLevel j = s.pinLevel j ∧ u.pin j = s.pin j)

/-- The first G agreeing samples after the release of POR_N end the safe state (21 R595). -/
def pinFirst : Prop :=
  ∀ (s : State) (t i : Nat) (lv : Bool),
  i < 58 ∧ s.pwr.held = false ∧ (s.pin i).seen = false ∧ s.rbit (pinBit Reg.PWR_IN_CHATTER i) = false ∧ s.rbit (pinBit Reg.PWR_IN_STUCK i) = false →
  s.pinLevel i = lv →
  Runs (.conditionedInputTransition t i lv) s fun u =>
    u.pinLevel i = lv ∧ u.pinSafe i = false

/-- The level it already has is no transition. -/
def pinSame : Prop :=
  ∀ (s : State) (t i : Nat) (lv : Bool),
  (s.pin i).seen = true ∧ s.pinLevel i = lv →
  Runs (.conditionedInputTransition t i lv) s fun u =>
    u.pins = s.pins ∧
    (∀ a, u.wordN a = s.wordN a ∧ u.cget a = s.cget a)

/-- An input is taken at its safe state while stuck, in CHATTER, or before its first samples (21 R595); GEI then counts as asserted, XOFF_IN
as deasserted (Table PKG-3). -/
def pinSafeRule : Prop :=
    ∀ (s : State) (i : Nat), (s.pinSafe i = true ↔ s.rbit (pinBit Reg.PWR_IN_STUCK i) = true ∨ s.rbit (pinBit Reg.PWR_IN_CHATTER i) = true ∨ (s.pin i).seen = false) ∧
    (s.pinSafe i = true → (∀ low, s.geiOn i low = true)) ∧ (∀ n, s.pinSafe (32 + n) = true → s.xoffIn n = false)

/-- The settings are those of PWR_IN_CFG (21 R607), fixed for REFEREE_IN and MATE_ALIVE_IN (Table PKG-2). -/
def pinSettings : Prop :=
    ∀ (s : State) (i : Nat), (i < 54 → (s.conditioning i).g = s.rget (Reg.PWR_IN_CFG_GLITCH_M1 i) + 1 ∧ (s.conditioning i).n = s.rget (Reg.PWR_IN_CFG_CH_N i) ∧
      (s.conditioning i).w = us (10 * 2 ^ s.rget (Reg.PWR_IN_CFG_CH_W i)) ∧ (s.conditioning i).quiet = us (100 * 2 ^ s.rget (Reg.PWR_IN_CFG_QUIET i)) ∧
      ((s.conditioning i).stuck = none ↔ s.rget (Reg.PWR_IN_CFG_STUCK i) = 0)) ∧
    (i = 54 ∨ i = 55 → s.conditioning i = ⟨3, 24, us 10, us 100, some (us 1, some true)⟩) ∧
    (i = 56 ∨ i = 57 → s.conditioning i = ⟨3, 8, us 10, us 100, some (us 60, none)⟩)

/-- STUCK (21 R593): the input has been at its stuck level for its limit; counted. -/
def pinStuck : Prop :=
  ∀ (s : State) (t i lim : Nat) (lvl : Option Bool),
  i < 58 ∧ (s.pin i).seen = true ∧ s.rbit (pinBit Reg.PWR_IN_STUCK i) = false ∧ (s.conditioning i).stuck = some (lim, lvl) →
  (s.pin i).since + lim ≤ t ∧ (lvl = none ∨ lvl = some (s.pinLevel i)) →
  Runs (.stuck t i) s fun u =>
    u.rbit (pinBit Reg.PWR_IN_STUCK i) = true ∧ u.pinSafe i = true ∧ u.cget Ctr.PWR_IN_STUCKS = (s.cget Ctr.PWR_IN_STUCKS + 1) % 2 ^ 48 ∧ u.rbit Reg.PWR_IN_LIVE_STUCK = true

/-- Before the limit, at the other level, or with the limit disabled, it is not (21 R593, R596). -/
def pinNotStuck : Prop :=
  ∀ (s : State) (t i : Nat),
  (s.conditioning i).stuck.all (fun x => decide (t < (s.pin i).since + x.1 ∨ x.2 = some (!s.pinLevel i))) = true →
  Runs (.stuck t i) s fun u =>
    u.rbit (pinBit Reg.PWR_IN_STUCK i) = s.rbit (pinBit Reg.PWR_IN_STUCK i) ∧ u.cget Ctr.PWR_IN_STUCKS = s.cget Ctr.PWR_IN_STUCKS

/-- CHATTER_END after the quiet time without a transition (21 R595). -/
def chatterEnds : Prop :=
  ∀ (s : State) (t i : Nat),
  i < 58 ∧ s.rbit (pinBit Reg.PWR_IN_CHATTER i) = true ∧ (s.pin i).since + (s.conditioning i).quiet ≤ t →
  Runs (.chatterEnd t i) s fun u =>
    u.rbit (pinBit Reg.PWR_IN_CHATTER i) = false ∧ u.pinLevel i = s.pinLevel i ∧ u.cget Ctr.PWR_IN_CHATTERS = s.cget Ctr.PWR_IN_CHATTERS

/-- Before that it continues (21 R596). -/
def chatterGoesOn : Prop :=
  ∀ (s : State) (t i : Nat),
  i < 58 ∧ t < (s.pin i).since + (s.conditioning i).quiet →
  Runs (.chatterEnd t i) s fun u =>
    u.rbit (pinBit Reg.PWR_IN_CHATTER i) = s.rbit (pinBit Reg.PWR_IN_CHATTER i) ∧ u.pins = s.pins

/-- PWR_IN_CFG_WRITE of one word (21 R597, R607): the fields are stored; history and timers restart; the stuck and CHATTER states persist. -/
def pinCfg : Prop :=
  ∀ (s : State) (t i v : Nat) (a : Access),
  s.accessFault a = none ∧ a.off = Reg.PWR_IN_CFG i ∧ a.size = 4 ∧ i < 54 ∧ v < 2 ^ 24 →
  Runs (.pwrInCfgWrite t a v) s fun u =>
    u.wordN (Reg.PWR_IN_CFG i) % 2 ^ 24 = v ∧ (u.pin i).trans = [] ∧ (u.pin i).since = t ∧ (u.pin i).seen = (s.pin i).seen ∧
    u.rbit (pinBit Reg.PWR_IN_STUCK i) = s.rbit (pinBit Reg.PWR_IN_STUCK i) ∧ u.rbit (pinBit Reg.PWR_IN_CHATTER i) = s.rbit (pinBit Reg.PWR_IN_CHATTER i) ∧ u.pinLevel i = s.pinLevel i ∧
    (∀ x, x ≠ Reg.PWR_IN_CFG i → u.wordN x = s.wordN x)

/-- The settings of inputs 54 to 57 do not change (21 Table PKG-2). -/
def pinCfgFixed : Prop :=
  ∀ (s : State) (t i v : Nat) (a : Access),
  s.accessFault a = none ∧ a.off = Reg.PWR_IN_CFG i ∧ a.size = 4 ∧ 54 ≤ i ∧ i < 64 →
  Runs (.pwrInCfgWrite t a v) s fun u =>
    u.conditioning i = s.conditioning i ∧ u.pins = s.pins ∧
    (∀ x, u.wordN x = s.wordN x)


/-! ### StandardRoutinesProcessOverhead -/

/-- A run of a trail routine accepts a TTI that has stood for 3 multiframes (05 R154): ACC_TTI holds it, and the run commits. -/
def stdTtiAccepted : Prop :=
  ∀ (s : State) (t c t1 e : Nat) (w : JWord) (r : RunSt),
  stdCommits s t c t1 e r →
  (s.cx c).bind.routine ∈ [0x01, 0x02, 0x10] ∨ ((s.cx c).bind.routine = 0x11 ∧ s.trailByte e 1 % 4 ≠ 0) →
  3 ≤ (s.cx c).wb 0x9B →
  Runs (.commit t c w t1) s fun u =>
    (∀ k < 64, u.trailByte e (0x40 + k) = ((s.cx c).win.byte (0xC0 + k)).toNat) ∧
    (u.cx c).run = none ∧ (u.cx c).commits = ((s.cx c).commits + 1) % 2 ^ 32

/-- Then dTIM says whether the accepted SAPI or DAPI, as TIM_MODE asks, differs from the expected one (05 R154). -/
def stdTim : Prop :=
  ∀ (s : State) (t c t1 e m : Nat) (w : JWord) (r : RunSt),
  stdCommits s t c t1 e r →
  (s.cx c).bind.routine ∈ [0x01, 0x02, 0x10] ∨ ((s.cx c).bind.routine = 0x11 ∧ s.trailByte e 1 % 4 ≠ 0) →
  3 ≤ (s.cx c).wb 0x9B →
  m = bits (s.trailByte e 1) 2 2 →
  Runs (.commit t c w t1) s fun u =>
    defectOf u e 7 = ((bit m 0 && (List.range 16).any fun k => ((s.cx c).win.byte (0xC0 + k)).toNat != s.trailByte e (0x10 + k)) ||
      (bit m 1 && (List.range 16).any fun k => ((s.cx c).win.byte (0xD0 + k)).toNat != s.trailByte e (0x20 + k)))

/-- ODUC PM and ODUk PM: dAIS, dOCI and dLCK follow a STAT value that has stood for 3 frames (05 R155, Table OVH-6). -/
def stdStat : Prop :=
  ∀ (s : State) (t c t1 e : Nat) (w : JWord) (r : RunSt),
  stdCommits s t c t1 e r →
  (s.cx c).bind.routine ∈ [0x02, 0x10] →
  3 ≤ (s.cx c).wb 0x97 →
  Runs (.commit t c w t1) s fun u =>
    defectOf u e 0 = decide ((s.cx c).wb 0x96 = 7) ∧ defectOf u e 1 = decide ((s.cx c).wb 0x96 = 6) ∧ defectOf u e 2 = decide ((s.cx c).wb 0x96 = 5)

/-- With fewer frames of one STAT value they stay as they are (05 R155). -/
def stdStatStays : Prop :=
  ∀ (s : State) (t c t1 e : Nat) (w : JWord) (r : RunSt),
  stdCommits s t c t1 e r →
  (s.cx c).bind.routine ∈ [0x02, 0x10] →
  (s.cx c).wb 0x97 < 3 →
  Runs (.commit t c w t1) s fun u =>
    ∀ k < 3, defectOf u e k = bit (s.trailByte e (0xC0 + 8 * k)) 2

/-- A TCM level that is monitored or terminated adds dLTC and dIAE (05 R155, Table OVH-6). -/
def stdTcm : Prop :=
  ∀ (s : State) (t c t1 e : Nat) (w : JWord) (r : RunSt),
  stdCommits s t c t1 e r →
  (s.cx c).bind.routine = 0x11 ∧ s.trailByte e 1 % 4 ≠ 0 →
  3 ≤ (s.cx c).wb 0x97 →
  Runs (.commit t c w t1) s fun u =>
    defectOf u e 0 = decide ((s.cx c).wb 0x96 = 7) ∧ defectOf u e 1 = decide ((s.cx c).wb 0x96 = 6) ∧ defectOf u e 2 = decide ((s.cx c).wb 0x96 = 5) ∧
    defectOf u e 3 = decide ((s.cx c).wb 0x96 = 0) ∧ defectOf u e 4 = decide ((s.cx c).wb 0x96 = 2)

/-- A transparent TCM level declares nothing and controls nothing (05 R156). -/
def stdTransparent : Prop :=
  ∀ (s : State) (t c t1 e : Nat) (w : JWord) (r : RunSt),
  stdCommits s t c t1 e r →
  (s.cx c).bind.routine = 0x11 ∧ s.trailByte e 1 % 4 = 0 →
  Runs (.commit t c w t1) s fun u =>
    (∀ k < 9, defectOf u e k = false) ∧ u.trailByte e 0x89 % 16 = 0

/-- The controls of a terminated ODUk PM (05 R165, Table OVH-7): open or locked, it sets aAIS, aBDI and aTSF; under AIS, aBDI and aTSF. -/
def stdControls : Prop :=
  ∀ (s : State) (t c t1 e : Nat) (w : JWord) (r : RunSt),
  stdCommits s t c t1 e r →
  (s.cx c).bind.routine = 0x10 →
  3 ≤ (s.cx c).wb 0x97 →
  Runs (.commit t c w t1) s fun u =>
    ((s.cx c).wb 0x96 = 5 ∨ (s.cx c).wb 0x96 = 6 → u.trailByte e 0x89 % 8 = 7) ∧
    ((s.cx c).wb 0x96 = 7 → bit (u.trailByte e 0x89) 1 = true ∧ bit (u.trailByte e 0x89) 2 = true)

/-- A defect that is newly declared is logged with the release instant of the run (05 R161; 20 R578). -/
def stdEvent : Prop :=
  ∀ (s : State) (t c t1 e : Nat) (w : JWord) (r : RunSt),
  stdCommits s t c t1 e r →
  (s.cx c).bind.routine ∈ [0x02, 0x10] →
  3 ≤ (s.cx c).wb 0x97 ∧ (s.cx c).wb 0x96 = 7 →
  bits (s.trailByte e 0xC0) 0 2 < 2 ∧ bit (s.trailByte e 0xC0) 2 = false ∧ r.g3bit 1 = false →
  Runs (.commit t c w t1) s fun u =>
    defectOf u e 0 = true ∧ (u.evl.pend.any fun x => x.code == 0x1400 && x.src == e && x.dts == r.rel) = true

/-- OPU_PSI (05 R158): dPLM says whether the PT that has stood for 3 multiframes differs from the expected one; aSSF stands while dPLM or dMSIM does. -/
def stdPlm : Prop :=
  ∀ (s : State) (t c t1 e : Nat) (w : JWord) (r : RunSt),
  stdCommits s t c t1 e r →
  (s.cx c).bind.routine = 0x03 →
  3 ≤ (s.cx c).wb 0x9D →
  Runs (.commit t c w t1) s fun u =>
    defectOf u e 9 = decide ((s.cx c).wb 0x9C ≠ ((s.cx c).bind.param.getD 64 0).toNat) ∧
    bit (u.trailByte e 0x89) 4 = (defectOf u e 9 || defectOf u e 10)

/-- An MSI entry with COMPARE_DIS never counts for dMSIM; another one does when it is accepted and differs from the expected one (05 R158; 06 R181). -/
def stdMsi : Prop :=
  ∀ (h : CtxH) (r : RunSt) (j x : Nat),
  x = (h.bind.param.getD (66 + 2 * j) 0).toNat + 256 * (h.bind.param.getD (67 + 2 * j) 0).toNat →
  (32768 ≤ x → msiDiffers h r j = false) ∧
  (x < 32768 → (msiDiffers h r j = true ↔ scGet h r (scMsi j + 2) 1 = 1 ∧ scGet h r (scMsi j) 2 % 32768 ≠ x))

/-- A second is bad when the errored blocks exceed DEG_THR of its frames, else good; DEG_M of a kind in a row decide dDEG, and a second with aTSF
counts as neither (05 R160). -/
def stdDegrade : Prop :=
  ∀ (s : State) (h : CtxH) (r : RunSt) (tsf : Bool) (m : Nat),
  scGet h r scSec 8 ≠ 0 ∧ scGet h r scSec 8 ≠ secOf r.rel + 1 →
  m = s.trailByte h.entry0 0x32 % 16 ∧ 2 ≤ m ∧ m ≤ 10 →
  (scGet h r scTsf 1 = 0 → s.trailGet h.entry0 0x30 2 % 1024 * scGet h r scFrm 4 < scGet h r scBlk 4 * 1000 → m ≤ scGet h r scBad 1 + 1 →
    (s.degCrit h r tsf).2 = some true) ∧
  (scGet h r scTsf 1 = 0 → scGet h r scBlk 4 * 1000 ≤ s.trailGet h.entry0 0x30 2 % 1024 * scGet h r scFrm 4 → m ≤ scGet h r scGood 1 + 1 →
    (s.degCrit h r tsf).2 = some false) ∧
  (scGet h r scTsf 1 ≠ 0 → scGet h r scBad 1 < m → scGet h r scGood 1 < m → (s.degCrit h r tsf).2 = none)

/-- A standard routine whose COMMIT is late publishes nothing (03 R83). -/
def stdLate : Prop :=
  ∀ (s : State) (t c t1 : Nat) (w : JWord) (r : RunSt),
  s.running t c = some r ∧ (stdRow (s.cx c).bind.routine).isSome = true ∧ ((s.cx c).bind.tt.headD (0, 0)).2 ≠ 0 ∧ (s.cx c).nextRel ≤ t1 →
  Runs (.commit t c w t1) s fun u =>
    (u.cx c).run = none ∧ (u.cx c).scr = (s.cx c).scr ∧ (u.cx c).late = min 0xFFFF ((s.cx c).late + 1) ∧ (u.cx c).commits = (s.cx c).commits ∧
    (∀ k, mget u.jrm.trail k = mget s.jrm.trail k)

/-- APS_LIN takes a value of the APS/PCC channel that it has received twice running, from frames that nothing makes it disregard (10 R304). -/
def stdApsAccepted : Prop :=
  ∀ (s : State) (h : CtxH) (r : RunSt),
  bit (h.apsByte 64) 6 = true ∧ hwTsf (h.wb 0x94) = false ∧ s.trailByte h.entry0 0x88 &&& 0x27 = 0 ∧ bit (s.trailGet h.entry0 0x80 4) 0 = false ∧ s.hwSf (s.instanceOf h.entry0) = false →
  (s.apsReceive h r).last = h.wle 0x34 4 ∧ (s.apsReceive h r).have_ = true ∧
  (bit (scGet h r scFlags 1) 3 = true ∧ scGet h r 0x60 4 = h.wle 0x34 4 → (s.apsReceive h r).ok = true ∧ (s.apsReceive h r).acc = h.wle 0x34 4) ∧
  (bit (scGet h r scFlags 1) 3 = false ∨ scGet h r 0x60 4 ≠ h.wle 0x34 4 → (s.apsReceive h r).acc = scGet h r 0x64 4)

/-- The decision of APS_LIN (10 R308): a local fault or command decides the path unless the far end asks with a higher rank; then the far end does. -/
def stdApsDecides : Prop :=
  ∀ (revert sel fs : Bool) (was wt left full lr fr : Nat) (ls : Option Bool),
  4 < lr →
  (fr ≤ lr → (apsPick revert was wt sel left full (lr, ls) (fr, fs)).rank = lr ∧ (apsPick revert was wt sel left full (lr, ls) (fr, fs)).sel = ls.getD sel) ∧
  (lr < fr → (apsPick revert was wt sel left full (lr, ls) (fr, fs)).rank = fr ∧ (apsPick revert was wt sel left full (lr, ls) (fr, fs)).sel = fs)

end Sys2Proof.Claims

open Sys2Proof

/-- A step runs the command at the front of the queue with the rest behind it, those of one DTS are queued by rank, and with none waiting the
block idles. For every command and state, step of the state with that command in front is exec of it on the state with
the queue's rest. A command leaves the waiting commands as they are. What arrives enters before the first waiting one of its DTS that ranks
after it, else last: the queue stays in that order, and of two of one DTS the one that ranks first stands before the other, whichever came
first; a ring command ranks after every other happening. That an empty queue makes the block idle, and the ranks beyond R44, R350 and R514,
are the model's choices (log entries 3 and 4). -/
def Obligations.StepTakesTheFrontCommand : Prop :=
  Claims.frontRuns ∧
  Claims.idles ∧
  Claims.queueKept ∧
  Claims.arrivalPlace ∧
  Claims.orderKept ∧
  Claims.firstRanksFirst ∧
  Claims.commandsRankLast

/-- Every command of the table answers a next state in every state, and the device count only goes forward but for the commands that set it.
For every command and every state exec answers a next state: no fault and no refusal ends a run. Every command but those that set the time
leaves the device count at its instant, or where it was if that is later. -/
def Obligations.EveryCommandCompletesAtItsInstant : Prop :=
  Claims.everyCommandCompletes ∧
  Claims.countGoesForward

/-- Every step keeps the stores in canonical form and the interrupt roll-up, causes and armed vectors settled. From every state whose stores
are canonical and whose interrupts are settled, a step leads to such a state: SYS_IRQ_STATUS and the causes of the vectors follow from the
STATUS, ENABLE and vector registers, and no armed vector has a cause that is still to be sent. A command brings both about from any state. -/
def Obligations.StepKeepsCanonicalFormAndSettledInterrupts : Prop :=
  Claims.stepKeepsForm ∧
  Claims.commandBringsForm

/-- The state after reset is canonical and settled, holds no command, permit, connection or route, and every register word reads its reset
value. At reset the invariant of the step holds; the device is held in power-on reset with FENCE_OUT asserted and its role outputs down,
every domain off, no stage complete, no permit held, no connection, no reservation, no context bound, every counter zero, every queue empty. -/
def Obligations.ResetStandsAsTheSpecSays : Prop :=
  Claims.resetForm ∧
  Claims.resetState

/-- Decoding the encoded word of every legal instruction gives it back, and every word that decodes is the one word of its instruction. For
every mnemonic and fields that R558 allows, with every field at every value, the decoder reads the encoder's word as that mnemonic with
those fields; and a word that decodes at all encodes back to itself, so no bit of a word is dropped and no two words are one instruction.
A word that decodes to nothing is ILLEGAL_OP. -/
def Obligations.RoutineWordsRoundTrip : Prop :=
  Claims.decodesEncoded ∧
  Claims.encodesDecoded

/-- When WEAR_PCT reaches 80, LB_WEAR is set and code 0x8430 logged, and the device continues writing. At a snapshot instant at which the wear
has reached 80 percent and LB_WEAR was clear, LB_WEAR is set, code 0x8430 is logged with the percentage, and the snapshot is written as at
any other wear. -/
def Obligations.WearWarningKeepsWriting : Prop :=
  Claims.wearReaches ∧
  Claims.wearStays

/-- CHATTER is declared at a transition exactly when the N-th transition before it lies less than W earlier. With the transition tk, stamped
with the first of its G samples, and the N-th transition before it in the input's history, CHATTER is set and counted when tk is before
tk−N + W and not when it is at or after it; with fewer transitions in the history, or N zero, it is not declared. -/
def Obligations.ChatterIsDeclaredInItsWindow : Prop :=
  Claims.pinFewer ∧
  Claims.pinChatter

/-- PRM never traps on range, and bytes at or beyond the block's LENGTH read as zero. An aligned PRM at any address completes: d takes the
little-endian value whose bytes are those of the parameter block below its LENGTH and zero at and beyond it, extended as the access says,
and the run goes on at the next offset. -/
def Obligations.PrmReadsZeroBeyondItsBlock : Prop :=
  Claims.prmBeyond

/-- W ranges from 1 to 64, and a check-value unit ignores the bits at and above W of POLY, INIT, XOROUT and the expected value. The width of
every unit in every state is from 1 to 64. Two sets of parameters of one width that agree below it in POLY, INIT and XOROUT give the same
value of any bytes. Two expected values that agree below W give the same outcome and the same captured expectation. -/
def Obligations.CheckUnitsIgnoreBitsAboveTheirWidth : Prop :=
  Claims.widthRange ∧
  Claims.parametersBelowWidth ∧
  Claims.expectedBelowWidth

/-- An instruction that computes, reads, branches or stages changes nothing but the run of its context. Where ADD to BINS, CMP, the predicate
instructions, BR, CALL, RET, LSET, LOOP, LD, ST, PRM, TLD, TST, OHR, OHW, TSET, TTST, TCLR, TRD, SRD or NOP executes and does not trap,
every register word and counter, every other context, the committed registers and scratch of its own, every byte of the trail table and of
the Underpass, the queues, the PM engine, the event logger and the rest of the state are unchanged: stores are staged until COMMIT. -/
def Obligations.RoutineInstructionsKeepTheRest : Prop :=
  Claims.instructionFrame

/-- A command that acts on one or two units leaves every other unit unchanged, and a ring command refused by the common checks changes only
the ring. For the commands of the table that act on two parts of the state at most (see partsOf), every other part is unchanged. A ring
command that finds the ring off, the negotiation open, another version, a reserved byte or an unreadable buffer changes no register word
outside the ring's block, no counter, and of the event logger only the events offered to it, those of the ring's own LIVE bits. A privileged command outside the roles SOLO and ACTIVE completes with E_NOT_LEASEHOLDER and changes nothing else. -/
def Obligations.CommandsOfOneUnitKeepTheOthers : Prop :=
  Claims.unitsApart ∧
  Claims.refusedKeeps ∧
  Claims.privilegedRefused

/-- Host reads and writes of registers, counters, STATUS registers and tables do what their access rules say. An accepted host access
completes: a 4-byte or 8-byte write of registers that no other rule ties together stores each field by its type and range and leaves every
other register word and counter; a write of ones to a STATUS register clears the bits whose latest setting is earlier and leaves the others;
a read returns the word and clears its RC fields only; a read of a counter's lower word latches the upper bits; a BAR2 read returns the
bytes of the table space. A write of a STATUS register leaves every other register word but its first-set DTS and the summary of a queue
group. -/
def Obligations.HostAccessesAct : Prop :=
  Claims.registerWrite ∧
  Claims.registerWriteTwo ∧
  Claims.vectorUnmasked ∧
  Claims.statusWrite ∧
  Claims.rcFieldRead ∧
  Claims.counterLowerWordRead ∧
  Claims.bar2Read

/-- A refused host access completes with UR or CA, takes no effect and is written to the violation log. A register write or read that R503
refuses, a BAR2 read, and a write to a ring register that R508 or R517 refuses, is answered, is entered in the log at SYS_VIOL_CNT mod 64
with its offset, requester, kind, REASON, length and completion status, and advances the count; every register word but those of the log and
its status keeps its value. -/
def Obligations.RefusedAccessesAreRecorded : Prop :=
  Claims.accessRefused ∧
  Claims.readRefused ∧
  Claims.bar2ReadRefused ∧
  Claims.overrunIgnored ∧
  Claims.baseRefused

/-- The ring registers take their writes, HELLO negotiates, and the version commands complete with their effects. Within the ring's size
CMD_PI takes the index written and CPL_CI the host's count; HCQ_CTL takes EN and RING_LOG2 while the ring is off, and clearing EN with no
command in execution zeroes the indices and ends the negotiation; ring addresses are stored aligned; an acknowledged vector sends at once
while its cause holds and is armed otherwise; HELLO chooses the highest common version; VERSION_RANGE and SET_DEVID store what they name;
an undefined OPCODE completes with E_OPCODE. Every command advances CMD_CI and CPL_PI by one and writes one completion record. That a
write to HCQ_CTL which keeps RING_LOG2 is accepted while EN is set is the model's reading of R517. -/
def Obligations.RingRegistersAndVersions : Prop :=
  Claims.cmdPiWrite ∧
  Claims.cplCiWrite ∧
  Claims.hcqCtlWrite ∧
  Claims.ringDisabled ∧
  Claims.hcqBaseWrite ∧
  Claims.sysIrqAckWrite ∧
  Claims.hello ∧
  Claims.journalReplayed ∧
  Claims.noCommonVersion ∧
  Claims.versionRange ∧
  Claims.setDevid ∧
  Claims.undefinedOpcode

/-- Tokens pass the edge FIFOs, kerb buffers, stages and Medians in order, and only where there is room. A token that finds room joins the end
of its ingress edge FIFO with the DTS captured; one that finds a full FIFO is dropped and counted in each Avenue it was destined for; a
port reads the oldest token of its egress FIFO, or an all-ones token that is counted, or sends what stands in the stream's place; under a
facility loopback it sends nothing; a token waiting for a pipeline joins the end of its kerb buffer while that has room; a half takes the
next token into an empty stage, and hands it from its last stage to its skew FIFO with its DTS unchanged; the Median passes two equal
tokens on; a compared token leaves for its next stage, joins the egress FIFOs its entry names, is handed to the selector of a Class A pair,
or, of a route not in force or of an unselected partner, is dropped. The ports, and which token a row names, are the model's operands. -/
def Obligations.TokensMoveInOrder : Prop :=
  Claims.edgeFifoWrite ∧
  Claims.edgeFifoOverflow ∧
  Claims.edgeFifoRead ∧
  Claims.edgeFifoUnderflow ∧
  Claims.edgeFifoReplaced ∧
  Claims.offDomainIsSilent ∧
  Claims.facilityLoopback ∧
  Claims.kerbBuffer ∧
  Claims.kerbFull ∧
  Claims.stageFilled ∧
  Claims.tokenTransfer ∧
  Claims.tokenBridged ∧
  Claims.tokenKept ∧
  Claims.tokenOffered ∧
  Claims.tokenPassed ∧
  Claims.medianCompare

/-- A gate shows the pace and its minimum in both halves, calibration sets codes that move one step at a time, and shedding is undone. At a
gate's end each half shows its counts divided by 10, the lowest since the last read, and PACE_WARN where either is below WARN_MT. A
calibration counts itself, clears CAL_STALE and sets the codes wanted; a code moves at most one step toward them, and only while its stage
is empty; 30 ms without one sets CAL_STALE. Once the quiet time is over one tributary is restored 10 ms after the one before. The ring's
measurement, from which the codes wanted come, is an operand; what LAST_STEPS and WORST_MARGIN hold is the model's choice (log entry 128). -/
def Obligations.PaceIsMeasuredAndCalibrated : Prop :=
  Claims.paceGateEnd ∧
  Claims.shedRestore ∧
  Claims.calibration ∧
  Claims.delayCodeApply ∧
  Claims.delayCodeHeld ∧
  Claims.calStale

/-- Every mismatch latches its kind and fences its Avenue, and repair brings a sound Avenue back to the pool. A token, change set, skew,
stall, calibration or self-test mismatch of an Avenue in the pool, in service or seeding latches its kind, counts it, and leaves the
Avenue fenced with FAILOVER set and the event logged. Each 8,000 ns boundary seals every slot's open bank; a spare whose seeding is over
enters service with its contexts marked as seeded; a repaired Avenue joins the pool or is retired; the fill of a fence ends when a serving
Avenue delivers. -/
def Obligations.MismatchFencesTheAvenue : Prop :=
  Claims.calAbsent ∧
  Claims.tokensDiffer ∧
  Claims.changesDiffer ∧
  Claims.skewOverflow ∧
  Claims.stallTimeout ∧
  Claims.selfError ∧
  Claims.checkpointSeal ∧
  Claims.spareRelease ∧
  Claims.fenceFillEnd ∧
  Claims.avenueRepairComplete ∧
  Claims.avenueRetired

/-- The two-operand ALU instructions write the value of Table JIR-4 to d and go on. When a context executes ADD, SUB, AND, OR, XOR, SHL, SHR,
SAR, MUL, MINU, MAXU, ADDSU or SUBSU within its budget, register d takes the value the table gives for s1 and b, where b is s2 or the
sign-extended immediate and shift amounts count modulo 64; a write to g0 is discarded; the run counts the steps of the instruction and
stands at the next offset; nothing else of the context changes. -/
def Obligations.AluInstructionsCompute : Prop :=
  Claims.add ∧
  Claims.sub ∧
  Claims.and ∧
  Claims.or ∧
  Claims.xor ∧
  Claims.shl ∧
  Claims.shr ∧
  Claims.sar ∧
  Claims.mul ∧
  Claims.minu ∧
  Claims.maxu ∧
  Claims.addsu ∧
  Claims.subsu ∧
  Claims.registerFile

/-- MOV and the one-operand, bit-field and byte-order instructions write the value of Table JIR-4 to d. MOV, NOT, POPC, CLZ, BSWAP, LDIH, BEXT
and BINS put into register d, bit by bit or as a number, what the table says of s1, d and the immediate; NOP changes nothing but the step
count and the offset. -/
def Obligations.BitFieldInstructionsCompute : Prop :=
  Claims.mov ∧
  Claims.not ∧
  Claims.popc ∧
  Claims.clz ∧
  Claims.bswap ∧
  Claims.ldih ∧
  Claims.bext ∧
  Claims.bins ∧
  Claims.nop

/-- CMP and the predicate instructions set the predicate, a false guard costs one step, and a run over its budget traps. CMP writes the
condition of its code over s1 and b to p[DST]; PAND, POR, PXOR and PANDN combine two predicates; PSET takes imm[0]; PRDV reads the eight
predicates and PWRV writes them. A computing, reading or staging instruction whose guard is false costs one step and has no other effect,
and an instruction that traps for no other reason and takes the run beyond WCSC traps with BUDGET. -/
def Obligations.PredicatesAndComparisons : Prop :=
  Claims.cmp ∧
  Claims.pand ∧
  Claims.por ∧
  Claims.pxor ∧
  Claims.pandn ∧
  Claims.pset ∧
  Claims.prdv ∧
  Claims.pwrv ∧
  Claims.guardFalse ∧
  Claims.budgetTrap

/-- Branches, calls, returns and bounded loops go where the rules say, and an ill-formed one traps with ILLEGAL_OP. BR goes forward by imm;
CALL pushes the next offset and RET pops it; LSET loads a loop counter; LOOP counts it down and goes back by imm while it is not zero, and
falls through on a counter already zero. A BR of zero, above 8,191 or beyond the last instruction, a CALL with eight entries held, a RET
with none, an LSET outside 1 to 65,535, a LOOP whose distance is zero, above 8,191 or before offset 0, and an undefined word each trap with
ILLEGAL_OP at their offset. -/
def Obligations.ControlInstructionsBranch : Prop :=
  Claims.br ∧
  Claims.call ∧
  Claims.ret ∧
  Claims.lset ∧
  Claims.loop ∧
  Claims.controlTraps ∧
  Claims.stackTraps ∧
  Claims.emptyStackTraps ∧
  Claims.lsetTraps ∧
  Claims.loopTraps ∧
  Claims.illegalInstruction

/-- Loads read and stores stage the bytes of their space at s1 + imm, in the byte order the rules give. LD and ST reach context scratch, PRM
the parameter block with zeros beyond it, TLD and TST the bound trail table entry, OHR and OHW the overhead windows. A load gives the bytes
of the access as one number, sign-extended where the minor says so and narrower than 8 bytes; a store stages the low bytes of s2 and changes
no committed byte. Table and scratch accesses are little-endian; OHR and OHW are big-endian unless MINOR [3] is set. A misaligned LD, and
one beyond 0xFFF, traps. -/
def Obligations.MemoryInstructionsReachTheirSpaces : Prop :=
  Claims.ld ∧
  Claims.prm ∧
  Claims.ohr ∧
  Claims.tld ∧
  Claims.st ∧
  Claims.tst ∧
  Claims.ohw ∧
  Claims.memoryTraps ∧
  Claims.stagedBytesAreSeen

/-- Integrator, PM, event, timer and special-register instructions stage or read what their rules say. INTG stages the record that the
procedure of R575 or the seeding of R576 gives and writes the result of R577; PMADD stages its addition; EVT stages its record with the
release instant; TSET, TTST and TCLR work on the timers against the release instant; TRD and SRD read the special registers. -/
def Obligations.DefectTimeAndEventInstructions : Prop :=
  Claims.intgStepRun ∧
  Claims.intgSeedRun ∧
  Claims.integratorRule ∧
  Claims.pmadd ∧
  Claims.evt ∧
  Claims.tset ∧
  Claims.ttst ∧
  Claims.tclr ∧
  Claims.trd ∧
  Claims.srd

/-- Queue instructions stage pushes and packet words, take the head item, count, and stall while there is nothing or no room. PUSH, PKTB,
PKTC and PKTA stage their act on the bound queue; POP takes the head item into staged scratch and writes its kind and length to d, keeping
its slot until COMMIT; QLEN counts with the staged acts of the run; POP and WAIT for an item stall where the queue is empty, and PUSH and
WAIT for room where it is full, which frees the engine, and a stalled context resumes when the item or room is there. -/
def Obligations.QueueInstructionsAndStalls : Prop :=
  Claims.push ∧
  Claims.pop ∧
  Claims.pktb ∧
  Claims.pktc ∧
  Claims.pkta ∧
  Claims.qlen ∧
  Claims.waitItem ∧
  Claims.waitRoom ∧
  Claims.popStalls ∧
  Claims.waitItemStalls ∧
  Claims.waitRoomStalls ∧
  Claims.stallResume ∧
  Claims.stallEnds

/-- A release starts a run from committed state, an idle engine dispatches the earliest, and an on-time COMMIT publishes all.
CONTEXT_RELEASE at a frame of its layer that is due ends a run that has not committed, counting it late, and starts the next with the
registers of Table JRM-5. ENGINE_DISPATCH gives an idle engine the ready context whose next release is earliest, charging six steps once.
COMMIT on time in both halves, of a routine that is no standard routine and of a run that is no shadow run, publishes the registers,
predicates, timers, scratch and the trail table bytes but 0x80 to 0x89 and ends the run; a COMMIT that one half reaches too late publishes
nothing and counts one late run. That the first dispatch is the one charged is the reading of R75 the model takes. -/
def Obligations.RunsAreReleasedDispatchedAndCommitted : Prop :=
  Claims.contextRelease ∧
  Claims.engineDispatch ∧
  Claims.earliestIsPicked ∧
  Claims.commit ∧
  Claims.commitLateInOneHalf

/-- LOS, alignment markers, FEC counters and degrade windows, and lane PRBS follow their rules. Lane energy and CDR lock show in LIN_LANE_STAT
and start a source of LOS; LOS is declared with its causes after LOS_SET, keeps the bits of R128 down, and clears after LOS_CLR_US without
a source. Two markers in a row bring AM lock and four bad ones end it. A codeword advances the FEC counters of its kind; a degrade window
closes BIT_CORR_WIN and moves FEC_DEG. A PRBS checker locks, counts and loses lock; LIN_LANE_PRBS_CFG takes a write only under a permit.
The REASON recorded without one is a free value (the spec names none). -/
def Obligations.LineSignalMarkersFecAndPrbs : Prop :=
  Claims.signalDetectChange ∧
  Claims.energyLost ∧
  Claims.cdrLockChange ∧
  Claims.cdrLost ∧
  Claims.losDeclare ∧
  Claims.losClear ∧
  Claims.alignmentMarker ∧
  Claims.markerRule ∧
  Claims.fecCodeword ∧
  Claims.fecUncorrectable ∧
  Claims.fecCounterFrozen ∧
  Claims.fecDegWindow ∧
  Claims.losWindow ∧
  Claims.prbsLock ∧
  Claims.prbsLossOfLock ∧
  Claims.linLanePrbsCfgWrite ∧
  Claims.prbsWriteRefused

/-- LINE_IF_CFG and LINE_GRP_CFG configure within the limits, and a group forms, clears and re-forms at its release point. A configured
interface starts with LOS declared; one that shares a lane is refused with E_STATE and one that mixes classes in a quad with E_CAPACITY. An
interface or a group that carries nothing is removed and leaves nothing behind. A group takes its members and slices and begins with
GROUP_FAIL. At formation every member is delayed to the latest marker plus the headroom, and GROUP_FAIL clears after REFORM_US of alignment;
after 10 ms of DESKEW_FAIL the group re-forms and reports it. -/
def Obligations.InterfacesAndGroupsAreConfiguredAndFormed : Prop :=
  Claims.lineIfCfg ∧
  Claims.interfaceOtu4 ∧
  Claims.laneTaken ∧
  Claims.classMixed ∧
  Claims.interfaceRemoved ∧
  Claims.lineGrpCfg ∧
  Claims.groupRemoved ∧
  Claims.groupFormation ∧
  Claims.groupFailClear ∧
  Claims.groupReform ∧
  Claims.lateMemberWaits

/-- Aligners track candidates, enter and leave IF, check multiframes, and declare dLOF, dLOM and dLOOMFI after LOF_MS. A match at an untracked
position makes a candidate while fewer than eight stand; the first to reach IF_FRAMES repeats becomes the position in HUNT and is held in
OOF. OOF_FRAMES errored frames in a row bring OOF; a held candidate is taken at the next check unless the old position completes
IF_FRAMES. dLOF, dLOM and dLOOMFI are declared and cleared after LOF_MS, in HW_DEFECTS too, and ODU-AIS ends at the next frame start once
the trigger is gone. TTI_STABLE becomes 0 when OOF begins (R153). -/
def Obligations.AlignersFindFramesAndDeclareDefects : Prop :=
  Claims.candidateSighting ∧
  Claims.candidatesFull ∧
  Claims.candidateRepeats ∧
  Claims.candidateConfirms ∧
  Claims.candidateHeld ∧
  Claims.candidateDropped ∧
  Claims.frameCheck ∧
  Claims.frameLost ∧
  Claims.oofReturns ∧
  Claims.oofMoves ∧
  Claims.multiframeRule ∧
  Claims.dlofDeclare ∧
  Claims.dlomDeclare ∧
  Claims.dloomfiDeclare ∧
  Claims.dlofClear ∧
  Claims.dlomClear ∧
  Claims.dloomfiClear ∧
  Claims.fastPathAisEnd

/-- A frame reaches the read window and accumulators of its contexts, and a sent frame carries what hardware and replacements own. A
received frame becomes the latest frame of every context of its instance and enters its accumulators; dGIDM and dPMM follow three FlexO
frames. A sent frame of a slice carries FAS and the next MFAS; a field carries the parity, BEI or BIAE, and BDI; a replaced ODU carries the
form of R166 in the order of R167; an ODU carried on with no entry, routine or port passes as its source delivered it. ODU_LCK and TRAIL_CFG
do what R167 and R169 say. The parity of a frame's OPU area is an operand. -/
def Obligations.OverheadIsSampledAndInserted : Prop :=
  Claims.frameReceived ∧
  Claims.accumulatorRule ∧
  Claims.gidMismatch ∧
  Claims.insertionPoint ∧
  Claims.fieldRule ∧
  Claims.beiRule ∧
  Claims.lockedOdu ∧
  Claims.aisOdu ∧
  Claims.openOdu ∧
  Claims.replacementForm ∧
  Claims.carriedOdu ∧
  Claims.carriedOduBdi ∧
  Claims.payloadType ∧
  Claims.oduLck ∧
  Claims.trailCfg ∧
  Claims.trailFreed ∧
  Claims.trailRefused

/-- Demappers accept or hold Cm, unlock and slip; mappers choose Cm within its range, watch rates and signal client fail. A Cm with a good
CRC-8 within Cmin to Cmax is accepted; any other is held and counted, except in a frame the fast path replaced; a bad CRC-5 makes the
remainder zero. GMP_UNLOCK is declared after JC_HOLD_MAX holds and cleared after JC_RESYNC accepted. A mapper clamps Cm into its range and
follows R196 over Arcade. RATE_OOR is set by three windows outside the guard or 10 ms of clamping. What the fill loop asks for, and the
measured rates, are operands. -/
def Obligations.MappersAndDemappersFollowGmp : Prop :=
  Claims.gmpPeriodRx ∧
  Claims.gmpHeld ∧
  Claims.gmpReplaced ∧
  Claims.fifoSlips ∧
  Claims.jcRoundTrip ∧
  Claims.gmpUnlockDeclare ∧
  Claims.gmpUnlockClear ∧
  Claims.gmpPeriodTx ∧
  Claims.otherMappers ∧
  Claims.ampMajority ∧
  Claims.timestampedMapper ∧
  Claims.msiChange ∧
  Claims.addedOdu ∧
  Claims.clientSignalFail ∧
  Claims.clientFrames ∧
  Claims.csfClear ∧
  Claims.rateWindow ∧
  Claims.cnClampRateOor

/-- ODU_CFG takes an ODU within the limits, with the defaults of Table MAP-6, and ODU_REMOVE frees what it took. An ODU that is new, in an
enabled group or in a higher-order ODU that can carry its type, with its slot count, with free slots and TU numbers and within every budget,
is configured as the command says: 0 selects the defaults, its aligner hunts, and its bytes wait for the next multiframe. A wrong slot count
is refused at its offset, and a change of place while it is connected with E_STATE. A removal leaves nothing of the instance. -/
def Obligations.OdusAreConfiguredAndRemoved : Prop :=
  Claims.oduCfg ∧
  Claims.oduCfgLower ∧
  Claims.placeHeld ∧
  Claims.wrongSlotCount ∧
  Claims.oduRemove ∧
  Claims.removalRefused

/-- CONN_BATCH and MOVE wait for the epoch instant, which takes the next epoch of each direction and applies the work. An accepted batch joins
the batches that wait and stays in execution with BUSY set; records without effect complete at once; an instance above 20,479 and a port
that another entry has are refused with the offset of their record. At EPOCH_INSTANT the oldest batch takes the next epoch of its
directions, its entries hold their new connection, and the command completes with the epochs in RESULT; a move of a tributary or of a slot
then waits for its installs. -/
def Obligations.ConnectionsAndMovesTakeAnEpoch : Prop :=
  Claims.connBatch ∧
  Claims.connBatchIdle ∧
  Claims.connBatchRange ∧
  Claims.connBatchShare ∧
  Claims.epochConn ∧
  Claims.move ∧
  Claims.moveSlot ∧
  Claims.moveSameSlot ∧
  Claims.epochMove ∧
  Claims.epochRotate ∧
  Claims.epochPastLease

/-- A move installs, cuts over, retires or aborts; a change reaches the output at a frame start and a selection takes effect at one; the
maps are scrubbed. MOVE_INSTALL seeds the new contexts and opens route 1; MOVE_CUTOVER after their on-time COMMITs sets FWD, counts the move
and exchanges the shadows; MOVE_RETIRE makes route 1 route 0 and unbinds the old contexts; at install + 2 P MOVE_ABORT removes route 1.
CONNECTION_CHANGE_APPLY, the row of that frame start, puts the change at the output; a selection that is due makes its entry SEL and counts
as fast or commanded. The statements on a move are about one tributary by itself; those of slot moves differ in the parts. -/
def Obligations.MovesInstallCutOverAndRetire : Prop :=
  Claims.moveInstall ∧
  Claims.moveCutover ∧
  Claims.moveForced ∧
  Claims.moveRetire ∧
  Claims.moveAbort ∧
  Claims.moveNotYet ∧
  Claims.connectionChangeApply ∧
  Claims.selectionFast ∧
  Claims.selectionCommanded ∧
  Claims.selectionHeld ∧
  Claims.fastPathTrigger ∧
  Claims.mapScrub

/-- Arcade links are configured, pass DOWN, DELINEATE, NEGOTIATE and UP in order, and take each exit with its reason. SYS_PORT_CFG and
ARC_LINK configure, enable, drain and disable; FEC lock and delineation move a link on; every exit of Table ARC-3 leaves STATE, REASON and
CHOSEN as the table says, counts what it counts, and a link that was UP waits HOLDDOWN. A negotiation cell whose acknowledged choice is the
link's own brings the link UP at that version with its peer recorded and event 0x6010; one without a common version leaves it DOWN with
NO_COMMON_VERSION and event 0x6011; one with the device's own DEVID keeps it in NEGOTIATE as LOOPED; one received on a link that is UP takes
it back to NEGOTIATE. -/
def Obligations.ArcadeLinksComeUpAndGoDown : Prop :=
  Claims.sysPortCfg ∧
  Claims.arcLinkEnable ∧
  Claims.arcLinkNoDevid ∧
  Claims.arcLinkDisable ∧
  Claims.arcLinkDrain ∧
  Claims.linkFecLock ∧
  Claims.linkDelineated ∧
  Claims.linkFecLockLoss ∧
  Claims.delineationLoss ∧
  Claims.cellTimeout ∧
  Claims.peerRxDown ∧
  Claims.negTimeout ∧
  Claims.holddownEnd ∧
  Claims.negotiationAgrees ∧
  Claims.linkNoCommonVersion ∧
  Claims.ownDevid ∧
  Claims.peerNegotiates ∧
  Claims.versionChoice

/-- Arcade cells are counted, held, played in SEQ order or dropped; links send cells in turn; time cells give offsets and stale marks. A
cell that fails its header check is counted and discarded; one of another version counts in VER_DROP; a data cell starts an idle flow, is
held in the window, or is dropped late; at its playout instant the held cell is played after fill for the numbers before it. A link sends
data, idle, DRAIN, control, negotiation and time cells with the fields of Tables ARC-2, ARC-4 and ARC-8. SEQ of an idle, DRAIN, control or
negotiation cell is free. A window's least d gives the offset estimate, and a silent peer is stale after 8 ms. -/
def Obligations.ArcadeCellsAndFlows : Prop :=
  Claims.cellInvalid ∧
  Claims.cellVersion ∧
  Claims.flowStarts ∧
  Claims.cellHeld ∧
  Claims.cellLate ∧
  Claims.seqRanges ∧
  Claims.cellPlayout ∧
  Claims.flowStarved ∧
  Claims.cellSend ∧
  Claims.drainCellSend ∧
  Claims.cellSendData ∧
  Claims.linkStateSend ∧
  Claims.negotiationCellSend ∧
  Claims.timeCellSend ∧
  Claims.drainEnd ∧
  Claims.offsetEstimate ∧
  Claims.timeCellStale

/-- The Underpass returns what was written, reports what it cannot correct, retires pages, loses channels and keeps its pool floor. A good
or corrected read returns the burst and counts; an uncorrectable one latches its page, unit and row and gives no data; a write is read back
and leaves every other byte. A page with RETIRE_CE corrected reads is retired and its region remapped; a failed pseudo-channel is marked,
and the loss of the last of a stack is a device fault. A service window grants no more than it holds. QGROUP_CFG that would pass the ceiling
or leave fewer than 256 pages in the pool is refused with E_CAPACITY and changes no reservation. -/
def Obligations.UnderpassReadsWritesAndReservations : Prop :=
  Claims.underpassRead ∧
  Claims.underpassReadCorrected ∧
  Claims.underpassReadBad ∧
  Claims.underpassReadLost ∧
  Claims.underpassReadImage ∧
  Claims.underpassWrite ∧
  Claims.pageRetire ∧
  Claims.pageStays ∧
  Claims.pcFail ∧
  Claims.pcFailLast ∧
  Claims.ceilingRule ∧
  Claims.serviceWindow ∧
  Claims.entitlementsComeFirst ∧
  Claims.ringGeometry ∧
  Claims.qgroupCfg ∧
  Claims.qgroupPool ∧
  Claims.qgroupCeiling

/-- PROT_CMD, the hold-off and wait-to-restore timers and the failure of protocol of APS_LIN act as the tables of chapter 10 say. PROT_CMD
of LO, FS, MS or EXER writes its code for the next release and sets FAST_INHIBIT where the table says; CLEAR clears it; a request below the
rank in force is refused. A hold-off that ends with the request present commits the winning rank and path; one whose request has gone is
discarded; WTR ends with NR on working; FOP_NR is declared after 50 ms in a bidirectional or 1:1 group, with event 0x5803. PAIR_RETIME waits
for a frame start of the path named. -/
def Obligations.LinearProtectionTimersAndCommands : Prop :=
  Claims.protLockout ∧
  Claims.protClear ∧
  Claims.protOutranked ∧
  Claims.protCode ∧
  Claims.protNoGroup ∧
  Claims.pairRetime ∧
  Claims.pairRetimeRefused ∧
  Claims.holdoffExpiry ∧
  Claims.holdoffDiscarded ∧
  Claims.wtrExpiry ∧
  Claims.fopNrDeclare

/-- The Class A selector times its output, searches, locks, tracks and chooses each frame by grade. The first usable frame of an idle pair
sets the output timing four frame periods after its arrival; in SEARCH exactly one candidate at the same difference is a hit, and eight
hits lock the pair with that difference; a tracked frame updates it; a path without partners, out of reach or back in reach changes the
state. Each output frame is the one of higher grade, the same path on equal grades, and ODU-AIS when both grade 0. -/
def Obligations.TheHitlessSelectorLosesNoFrame : Prop :=
  Claims.firstUsableFrame ∧
  Claims.searchHit ∧
  Claims.identicalFrames ∧
  Claims.trackedFrame ∧
  Claims.descriptorComplete ∧
  Claims.pairLock ∧
  Claims.pairLoseAlignment ∧
  Claims.pairBeyond ∧
  Claims.pairReturnLocked ∧
  Claims.pairIdle ∧
  Claims.selectorOutput

/-- References count windows and gates, are disqualified and qualified, and a DPLL stops following a reference that goes bad. A bad activity
window makes every DPLL on the reference bridge, a good one counts towards qualification; gates count towards the reject dwell and freeze
while the OCXO is lost; four bad windows or the full dwell disqualify the reference with its cause, and no DPLL selects it; the accept
dwell qualifies it, and a free-running DPLL takes it. One-second offsets reach TIM_REF_OFS. A rewritten LREF_MAP entry starts afresh. That
a disqualified reference forgets its good windows is the model's reading. -/
def Obligations.ReferencesAreMonitoredAndQualified : Prop :=
  Claims.activityBad ∧
  Claims.activityGood ∧
  Claims.frequencyGate ∧
  Claims.frequencyFrozen ∧
  Claims.acceptBelowReject ∧
  Claims.disqualifyActivity ∧
  Claims.disqualifyFrequency ∧
  Claims.referenceQualifying ∧
  Claims.referenceQualified ∧
  Claims.dpllTakesReference ∧
  Claims.driftEvaluation ∧
  Claims.lrefMap ∧
  Claims.ocxoLost

/-- A DPLL narrows, locks and falls back to ACQUIRE on phase, and DP1 under host steering locks, steers and goes to holdover. ACQUIRE steps to
NARROW and NARROW to LOCKED when the dwell has run with the filtered phase error below the threshold; more than ten thresholds of error
takes a NARROW or LOCKED DPLL back to ACQUIRE with phase build-out. NOT_LOCKED and HOLD of TIM_LIVE follow. In host mode a steering write
makes DP1 LOCKED with its offset limited to REJECT, and 4 s without one puts it in HOLDOVER. -/
def Obligations.DpllsAcquireLockAndLosePhase : Prop :=
  Claims.dpllNarrow ∧
  Claims.dpllLock ∧
  Claims.dwellNeeded ∧
  Claims.dpllPhaseLost ∧
  Claims.dpllPhaseNear ∧
  Claims.hostSteers ∧
  Claims.hostSteersNot ∧
  Claims.hostHoldover ∧
  Claims.hostHoldoverEarly

/-- Device time is set by the first message or by SET_TIME, stepped forward only where permitted, and slewed otherwise. A valid ToD message
within its window waits for its edge; the first one sets the time; later ones are compared, and the third equal difference in a row is
acted on. An offset within STEP_THR needs nothing; a larger one is a step forward where permitted and a slew otherwise. SET_TIME waits for
a whole second of DP1; it needs FORCE once the time is set, and a backward step moves every held instant. DTS snapshots hold the arrival
of their write. -/
def Obligations.DeviceTimeIsSetSteppedAndCompared : Prop :=
  Claims.todMessage ∧
  Claims.todMessageBad ∧
  Claims.ppsFirst ∧
  Claims.ppsNear ∧
  Claims.ppsStep ∧
  Claims.ppsSlew ∧
  Claims.todConflict ∧
  Claims.todForward ∧
  Claims.todAgrees ∧
  Claims.adjPhaseLoop ∧
  Claims.adjPhaseStep ∧
  Claims.adjPhaseSlew ∧
  Claims.dtsSnap ∧
  Claims.setTime ∧
  Claims.setTimeRefused ∧
  Claims.setTimeEffect ∧
  Claims.setTimeBack ∧
  Claims.setTimePastLease

/-- Pushes, pops and drops of a queue, the host windows, the watermarks and the XOFF pins act as R372 to R389 say. A push into a queue with
room appends the item with its enqueue DTS and raises the depth of its group; into a full queue it opens or extends the gap marker; a
packet goes in whole or is dropped whole. A read of a pop slot takes the head item and seals an open marker, or waits for HOST_STALL_US; a
coincident push follows Table QUE-4. A write of 32 bytes to a push slot pushes an ITEM; other accesses are violations. A group that
reaches HIGH enters its high state and drives its pin, which holds for MIN_HOLD. -/
def Obligations.QueuesPushPopAndMark : Prop :=
  Claims.hardwarePush ∧
  Claims.hardwarePushFull ∧
  Claims.hardwarePacket ∧
  Claims.hardwarePacketDropped ∧
  Claims.wrongKind ∧
  Claims.depthRule ∧
  Claims.markerSealed ∧
  Claims.watermarkHigh ∧
  Claims.xoffEnds ∧
  Claims.xoffStays ∧
  Claims.hostPop ∧
  Claims.hostPopWaits ∧
  Claims.hostPopServed ∧
  Claims.hostPopCoincident ∧
  Claims.hostPopCoincidentMarked ∧
  Claims.hostPopBad ∧
  Claims.hostStallEnd ∧
  Claims.stallLimit ∧
  Claims.hostPush ∧
  Claims.hostPushBad

/-- QUEUE_CFG makes a queue that nothing uses new and empty, and SLOT_CLAIM binds and releases host slots under R382. QUEUE_CFG within its
ranges of a queue that no bound context names and no slot claims makes it new with its record clear; a used queue, a fixed one and a
capacity outside 64 to 4,194,304 or no multiple of 64 are refused. SLOT_CLAIM binds a free slot to a configured queue whose code is the
host's or 0, refuses another consumer, a second slot and a packet queue for pushes, and its release sets a borrowed code back to 0. -/
def Obligations.QueuesAreConfiguredAndClaimed : Prop :=
  Claims.queueCfg ∧
  Claims.queueUnused ∧
  Claims.queueBusy ∧
  Claims.queueFixed ∧
  Claims.queueCapacity ∧
  Claims.popClaim ∧
  Claims.popClaimRefused ∧
  Claims.pushClaimPacket ∧
  Claims.pushRelease

/-- The Side Street scheduler serves by priority, sends items, markers and fragments, and accepts only the frames R396 accepts. An enabled
port with block lock sends a frame of the queue its scheduler picks, of the highest priority that may send: up to 30 leading items, a
marker, or the next fragment of the packet at the head; the frame pops what it carries and counts. A batch whose first item has waited
BATCH_NS may leave. Losing block lock stops a port and moves code 5. A received frame that meets every condition of R396 is counted and
its items or packet are pushed; every other is discarded and counted. -/
def Obligations.SideStreetPortsSendAndReceive : Prop :=
  Claims.schedulerPriority ∧
  Claims.heldGroupsWait ∧
  Claims.ssSendItems ∧
  Claims.ssSendMarker ∧
  Claims.ssSendFragment ∧
  Claims.ssFrameForm ∧
  Claims.ssSendNothing ∧
  Claims.ssBatchTimeout ∧
  Claims.ssLock ∧
  Claims.ssItems ∧
  Claims.ssFragments ∧
  Claims.ssDropped ∧
  Claims.ssControl

/-- An Overhead Access Port places, sends and removes drop records, takes complete insert frames, and disturbs no other port. A port frame
carries OCC and the records that became available before its start, up to R_max; they leave the FIFO when the frame completes. A record
for a full FIFO is dropped and RATIO_OOR rises. An insert frame is accepted whole or discarded and counted. An early frame sync and a
missing one count in FS_ERR. R409 decides which record a frame takes. A cut insert frame counts in INS_FRAME_ERR (the model's reading of
R408). Nothing of one port changes another. -/
def Obligations.OverheadPortsCarryRecordsBothWays : Prop :=
  Claims.oapFrame ∧
  Claims.rMaxRule ∧
  Claims.oapEarly ∧
  Claims.oapFill ∧
  Claims.oapComplete ∧
  Claims.oapInsert ∧
  Claims.oapInsertBad ∧
  Claims.oapInsertFull ∧
  Claims.armedInsertDiscards ∧
  Claims.insertRule ∧
  Claims.fsMissing ∧
  Claims.dropRecord ∧
  Claims.dropRecordFull ∧
  Claims.ratioClear ∧
  Claims.ratioWindow ∧
  Claims.portsApart

/-- A start trigger, the start instant, clock loss, realignment and the port registers act as R403 and R412 to R420 say. GO, OAP_START and the
pin set PENDING; a trigger while one is pending is counted; the first OTUC frame of the group with MFAS 0 is the start instant, and an
ARMED port keeps records from it on and runs with the first port frame that carries one. Clock loss clears both FIFOs; REALIGN waits for
MFAS 0. While EN is set only the two exceptions of R420 are taken; a mask that leaves R_max zero or selects offsets 0 to 6 for insertion
is refused with REASON 9; overlapping insertion is refused. -/
def Obligations.OverheadPortsStartRealignAndAreConfigured : Prop :=
  Claims.go ∧
  Claims.goIgnored ∧
  Claims.oapStart ∧
  Claims.startInstant ∧
  Claims.armedDiscards ∧
  Claims.armedKeeps ∧
  Claims.armedRuns ∧
  Claims.clkLost ∧
  Claims.realign ∧
  Claims.realignRuns ∧
  Claims.oapEnable ∧
  Claims.oapDisable ∧
  Claims.oapDisableWide ∧
  Claims.oapCfgHeld ∧
  Claims.oapMask ∧
  Claims.oapMaskRefused ∧
  Claims.oapSource ∧
  Claims.oapSourceBad ∧
  Claims.oapOverlap

/-- Seconds are classified by Table PMN-2, settle after ten seconds into bins, complete the bins and raise threshold alerts. SES is a defect
or 15 % of blocks; the far end of a second with a near-end defect is none of ES, SES and BBE; ten equal seconds change availability. At a
whole second the second ten before enters the current bins; the bin that ends with it moves to the history and its successor starts; a
count that reaches SET15 raises its alert once. PM_CFG writes the control word and clears the bins. -/
def Obligations.PmSecondsSettleIntoBinsAndAlerts : Prop :=
  Claims.sesRule ∧
  Claims.farEndRule ∧
  Claims.availabilityRule ∧
  Claims.pmSettles ∧
  Claims.pmBinCompletes ∧
  Claims.pmAlert ∧
  Claims.resetThreshold ∧
  Claims.pmCfg ∧
  Claims.pmCfgUnused

/-- The event logger numbers each record, files it in the ring, its queue and the Logbook, and accounts for what it cannot mirror. EVENT_LOG
gives the oldest record offered the next SEQ, writes it to the ring at SEQ mod 2^26 while row 6 holds, pushes it to its queue where Q_MASK
has its SEV, and mirrors it where LOGBOOK_SEV selects it and the bucket holds a record; otherwise it counts in LB_SKIPPED. The bucket
refills at 2,000 a second up to 20,000, and 0x7001 tells of the records skipped. A LIVE bit whose window has run out falls. -/
def Obligations.EventsAreNumberedAndFiled : Prop :=
  Claims.eventLog ∧
  Claims.eventRingOff ∧
  Claims.eventQueued ∧
  Claims.eventMirrored ∧
  Claims.eventSkipped ∧
  Claims.mirrorWrite ∧
  Claims.bucketRefill ∧
  Claims.bucketNotice ∧
  Claims.liveExpires ∧
  Claims.liveStays

/-- Each check unit gives one outcome of R456 over the value of R450, and the unit's registers act as R457 to R460 say. A check unit counts in
UNITS and its value is in CVU_RESULT; it is a MATCH, a MISMATCH (captured if it is the first, and freezing the unit where FREEZE is set),
an EXPECT_CORRUPT without mismatch, or a NO_EXPECT that consumes nothing; with EXP_SRC NONE nothing is compared. Expected values are
committed and pushed with their guards, a write at the DTS of a check unit's end comes too late for it, the self-test runs while EN is
clear, and the configuration is held while EN is set. -/
def Obligations.CheckValueUnitsReportOneOutcome : Prop :=
  Claims.unitMatch ∧
  Claims.unitMismatch ∧
  Claims.unitCorrupt ∧
  Claims.unitNoExpect ∧
  Claims.unitDone ∧
  Claims.unitOff ∧
  Claims.expectedValue ∧
  Claims.guardDetects ∧
  Claims.expGuard ∧
  Claims.fifoGuard ∧
  Claims.fifoFull ∧
  Claims.testGo ∧
  Claims.testGoIgnored ∧
  Claims.fifoEmptied ∧
  Claims.cvuCfg ∧
  Claims.cvuCfgClears ∧
  Claims.cvuCfgClearsWide ∧
  Claims.cvuCfgHeld ∧
  Claims.cvuTap ∧
  Claims.cvuTapRefused

/-- The Crossing Guard renews, lapses and grants the one lease, and refuses the other Kiosk's writes. A renewal before expiry gives 10 ms
more, at or after expiry nothing. At expiry the holder is held in reset and the ring stops; after the guard interval a Kiosk that may be
granted gets the lease: of two that request, the one that did not hold the last, K0 at the first grant. A reloaded Kiosk that is not
verified receives no grant. A write by the Kiosk without the lease changes no guarded resource and is counted. A fault of the always-on
domain fences the device. -/
def Obligations.TheKioskLeaseHasOneHolder : Prop :=
  Claims.leaseRenewed ∧
  Claims.leaseRenewalLate ∧
  Claims.leaseLapses ∧
  Claims.leaseGranted ∧
  Claims.leaseGuard ∧
  Claims.grantRule ∧
  Claims.kioskReload ∧
  Claims.foreignWriteRefused ∧
  Claims.aonFence

/-- Heartbeats, referee patterns and the Active lease move a device between the roles of Table RED-8. A heartbeat leaves on both paths; a path
is lost after three empty windows and returns after ten full ones. RENEW makes a STANDBY ACTIVE for 200 µs from its instant, with seeded
contexts and FIRST on its flows, and only extends an ACTIVE; RELEASE gives the role up after a final epoch. A lapsed lease leaves STANDBY
where PRESENT was heard in the 200 µs before it, else ORPHAN. A FENCED device drops its clock outputs. -/
def Obligations.TheMatedPairChangesRolesByTheReferee : Prop :=
  Claims.heartbeat ∧
  Claims.heartbeatRecord ∧
  Claims.mateHeartbeat ∧
  Claims.mateHeartbeatBad ∧
  Claims.heartbeatWindow ∧
  Claims.pathRule ∧
  Claims.mlpChosen ∧
  Claims.mlpNone ∧
  Claims.renewTakesOver ∧
  Claims.renewExtends ∧
  Claims.renewNothing ∧
  Claims.releaseGivesUp ∧
  Claims.presentHeard ∧
  Claims.refBadCounted ∧
  Claims.lapseStandby ∧
  Claims.lapseOrphan ∧
  Claims.lapseFenced ∧
  Claims.pairCfg ∧
  Claims.pairCfgEarly

/-- An Active device cuts an epoch at each 100 µs, and a standby applies a good one whole and discards a bad one. An epoch names its number,
its base and its cut and carries at most 131,072 records; applied over the base it gives the committed state at the cut. A standby applies
one that is complete, passes its CRC and builds on the last one applied, acknowledges it and is no longer stale; any other is discarded,
counted and logged with its cause. STANDBY_STALE is set after 1 ms without one. -/
def Obligations.EpochsCarryCommittedState : Prop :=
  Claims.epochSent ∧
  Claims.epochNotCut ∧
  Claims.deltaRebuilds ∧
  Claims.epochApplied ∧
  Claims.epochContext ∧
  Claims.epochSeries ∧
  Claims.epochRejected ∧
  Claims.standbyStale ∧
  Claims.standbyFresh

/-- IMAGE_LOAD, BIND and UNBIND complete with their effects, and refuse with the status of the first rule that fails. A signed image in range
replaces the image of its routine; an unsigned one, one of a routine number below 0x1_0000 and one of more than 8,192 words are refused.
BIND of a block whose fields are in range, whose version and signature hold and whose engine stays within its step budget makes the
context BOUND with its registers clear; E_VERSION, E_SIGNATURE and E_ADMISSION change no context. UNBIND frees the context. -/
def Obligations.RoutinesAreLoadedBoundAndUnbound : Prop :=
  Claims.imageLoad ∧
  Claims.imageUnsigned ∧
  Claims.imageLong ∧
  Claims.bind ∧
  Claims.admissionLimit ∧
  Claims.bindOver ∧
  Claims.bindVersion ∧
  Claims.bindNoLibrary ∧
  Claims.bindRange ∧
  Claims.unbind ∧
  Claims.unbindFree

/-- PERMIT_TAKE grants a permit that conflicts with none held and whose condition holds; PERMIT_RELEASE gives it up. A line permit on a
configured interface that no held permit conflicts with is granted, entered in the table and logged; a self-test takes its spare Avenue to
SELF_TEST. A conflict gives E_BUSY_CONFLICT with the holder in RESULT and leaves the table unchanged; a failed condition gives E_STATE; a
code that is not the host's or a target out of range gives E_RANGE. A release clears the entry and is logged; releasing a permit that is
not held gives E_STATE. Line permits on one interface conflict as Table MNT-4 marks. The end of the Logbook erase releases LB-CLEAR. -/
def Obligations.PermitsAreGrantedAndReleasedByTable : Prop :=
  Claims.permitGranted ∧
  Claims.permitKeeps ∧
  Claims.permitSelftest ∧
  Claims.permitBusy ∧
  Claims.clashRule ∧
  Claims.lineConflicts ∧
  Claims.otherConflicts ∧
  Claims.permitCode ∧
  Claims.permitTarget ∧
  Claims.permitCondition ∧
  Claims.permitReleased ∧
  Claims.permitNotHeld ∧
  Claims.lbClear ∧
  Claims.lbClearNone

/-- Scrubbing, thermal sensing, snapshots, rotation and telemetry act at their instants as chapter 18 says. The Sweeper reads the next page of
a working pseudo-channel and counts a pass at the last. Uncorrectable on-die words go to their owners. Every sample writes MNT_TEMP and
decides TEMP_WARN and TEMP_SLEW. A snapshot at a whole minute replaces the older copy, or SNAP_FAIL rises. A rotation takes ROTATE on the
slot in service longest and moves it to the spare longest in the pool, or is deferred for an hour. A telemetry packet is formed at each
multiple of the cadence and is queued whole or dropped whole. -/
def Obligations.BackgroundWorkRunsOnSchedule : Prop :=
  Claims.scrubPage ∧
  Claims.scrubSkips ∧
  Claims.scrubFinds ∧
  Claims.scrubPoison ∧
  Claims.sramOther ∧
  Claims.sramHalf ∧
  Claims.sramPlaza ∧
  Claims.workEarly ∧
  Claims.thermal ∧
  Claims.thermalLog ∧
  Claims.thermalSlew ∧
  Claims.thermalSteady ∧
  Claims.snapshotTaken ∧
  Claims.snapshotFails ∧
  Claims.snapshotWear ∧
  Claims.snapshotElsewhere ∧
  Claims.rotation ∧
  Claims.rotationChoice ∧
  Claims.rotationDeferred ∧
  Claims.rotationOff ∧
  Claims.rotationRetried ∧
  Claims.rotationNoRetry ∧
  Claims.telemetryCfg ∧
  Claims.telemetryRefused ∧
  Claims.telemetryPacket ∧
  Claims.telemetryHeader ∧
  Claims.telemetryDropped ∧
  Claims.telemetryOff

/-- A power-on reset puts every register at its reset value and keeps the Logbook; a domain fault has the consequence of Table PWR-2. POR_N
low, an undervoltage of a rail and the thermal trip each enter power-on reset: registers and counters at their reset values (SEC_MIN and
the Logbook's words apart), no permit, the Logbook kept. POR_RELEASE samples BOOT_RESTORE and starts the count at zero. A domain fault
switches the domain off, is counted and logged, and fences the Avenue, fences the device, lapses the lease or stops the ports as the table
says; the third within 24 h retires the domain, which then does not return. -/
def Obligations.PowerOnResetAndDomainFaultsContainFaults : Prop :=
  Claims.porNLow ∧
  Claims.railUndervoltage ∧
  Claims.thermalTrip ∧
  Claims.thermalNoTrip ∧
  Claims.porRelease ∧
  Claims.porReleaseAgain ∧
  Claims.domainFault ∧
  Claims.domainFaultAvenue ∧
  Claims.domainFaultLine ∧
  Claims.domainFaultStack ∧
  Claims.domainFaultHolder ∧
  Claims.domainFaultPorts ∧
  Claims.domainFaultThird ∧
  Claims.domainFaultOff ∧
  Claims.domainReturn ∧
  Claims.domainStaysOff

/-- Each start-up stage, in order, records its completion and does what Table PWR-6 says. A stage completes only after the one before it, in a
released device without BOOT_FAIL, and records its time. Stage 2 takes the active firmware slot or the other and gives K0 the lease; with
both rejected BOOT_FAIL stops the start-up. Stage 3 trains the stacks. Stage 4 maps slot s to the s-th Avenue whose halves pass and pools
the rest. Stage 5 restores or skips the snapshot, takes the pair role and sets READY. A full start-up without snapshot leaves the device
unconfigured. -/
def Obligations.StartUpPassesItsStages : Prop :=
  Claims.stageFirst ∧
  Claims.stageOrder ∧
  Claims.stageKiosk ∧
  Claims.stageBootFail ∧
  Claims.stageStacks ∧
  Claims.stageSlots ∧
  Claims.stageService ∧
  Claims.stageSkipped ∧
  Claims.stageRestored ∧
  Claims.newestCopy

/-- RESET completes before its reset begins; a full, a handover, a stack and a link reset have the scope of Table PWR-4. RESET with a code of
Table PWR-4 writes its completion with the effect instant 100 µs later, when RESET_BEGIN acts. A full reset switches every domain off,
clears permits, maps and queues, and keeps the DTS, the DPLLs, SEQ and the Logbook. A Kiosk handover lapses the lease; a stack reset
retrains one stack; both keep every permit. A link reset clears the ring and ends the negotiation and changes nothing else. What else of
the always-on domain a full reset keeps is the model's choice (log entry 113). -/
def Obligations.ResetsByCommandAndOfTheLink : Prop :=
  Claims.resetCmd ∧
  Claims.resetGivesUp ∧
  Claims.resetCode ∧
  Claims.resetFull ∧
  Claims.resetHandover ∧
  Claims.resetStack ∧
  Claims.resetNone ∧
  Claims.linkReset ∧
  Claims.stackRetrained ∧
  Claims.stackNotRetraining

/-- A conditioned input changes after G samples, is stuck or in CHATTER by its settings, and shows its safe state meanwhile. A transition is
stamped with the first of its G samples and shows in PWR_IN_LEVEL; it ends a stuck state. An input that stays at its stuck level for its
limit becomes stuck, counted. CHATTER ends after the quiet time without a transition. Stuck, in CHATTER or not yet sampled, the input is
taken at its safe state. A write of PWR_IN_CFG restarts history and timers and keeps the states. The settings of inputs 54 to 57 are
fixed. -/
def Obligations.ConditionedInputsAreFilteredAndWatched : Prop :=
  Claims.pinTransition ∧
  Claims.pinFirst ∧
  Claims.pinSame ∧
  Claims.pinSafeRule ∧
  Claims.pinSettings ∧
  Claims.pinStuck ∧
  Claims.pinNotStuck ∧
  Claims.chatterEnds ∧
  Claims.chatterGoesOn ∧
  Claims.pinCfg ∧
  Claims.pinCfgFixed

/-- The standard routines accept TTI, PT and MSI, declare the defects of Table OVH-6 and commit the controls of Table OVH-7. A run of OTUC_SM, ODUC_PM,
ODUK_PM or ODUK_TCM on time accepts a TTI that has stood for 3 multiframes, compares it as TIM_MODE asks, follows a STAT value of 3 frames,
logs a defect newly declared, and sets aAIS, aBDI and aTSF; a transparent TCM level declares and controls nothing. OPU_PSI declares dPLM and
raises aSSF, and leaves entries with COMPARE_DIS out of dMSIM. DEG_M bad or good seconds in a row decide dDEG. A late run publishes nothing.
APS_LIN accepts a value received twice running, and decides by rank. Where a routine keeps its state in scratch, and that a run of one is one
step, is the model's choice (log entry 133). -/
def Obligations.StandardRoutinesProcessOverhead : Prop :=
  Claims.stdTtiAccepted ∧
  Claims.stdTim ∧
  Claims.stdStat ∧
  Claims.stdStatStays ∧
  Claims.stdTcm ∧
  Claims.stdTransparent ∧
  Claims.stdControls ∧
  Claims.stdEvent ∧
  Claims.stdPlm ∧
  Claims.stdMsi ∧
  Claims.stdDegrade ∧
  Claims.stdLate ∧
  Claims.stdApsAccepted ∧
  Claims.stdApsDecides
end

