-- ==== Sys2Proof/Laws/Cells.lean ====
section
/-! SUPPORT. The check values of 08 R233 stay within their widths, and a cell that `cellBytes` forms passes both. -/
namespace Sys2Proof.Machine
open Sys2Proof

/-- A step of a check value stays within its width. -/
theorem crcStep_lt (w poly r : Nat) (b : Bool) : crcStep w poly r b < 2 ^ w := by
  have hp : 0 < 2 ^ w := Nat.two_pow_pos w
  unfold crcStep
  simp only
  split
  · exact Nat.xor_lt_two_pow (Nat.mod_lt _ hp) (Nat.mod_lt _ hp)
  · exact Nat.mod_lt _ hp

/-- A byte of a check value leaves it within its width. -/
theorem crcByte_lt (p : CrcP) (r : Nat) (b : Byte) : crcByte p r b < 2 ^ p.w := by
  simp only [crcByte, List.foldl_cons, List.foldl_nil]
  exact crcStep_lt ..

/-- So does a run of bytes. -/
theorem crcBytes_lt (p : CrcP) (l : List Byte) (r : Nat) (h : r < 2 ^ p.w) : l.foldl (crcByte p) r < 2 ^ p.w := by
  induction l generalizing r with
  | nil => exact h
  | cons b l ih => exact ih _ (crcByte_lt p r b)

/-- n bits of x, reflected, are a number of n bits. -/
theorem reflect_lt (w x : Nat) : reflect w x < 2 ^ w := by
  unfold reflect
  induction w with
  | zero => simp
  | succ n ih =>
    rw [List.range_succ, List.foldl_append, List.foldl_cons, List.foldl_nil, Nat.pow_succ]
    have h : b2n (x.testBit n) ≤ 1 := by unfold b2n; split <;> omega
    omega

/-- A check value is a number of its width. -/
theorem crc_lt (p : CrcP) (l : List Byte) : crc p l < 2 ^ p.w := by
  have hp : 0 < 2 ^ p.w := Nat.two_pow_pos _
  have h : l.foldl (crcByte p) (p.init % 2 ^ p.w) < 2 ^ p.w := crcBytes_lt p l _ (Nat.mod_lt _ hp)
  unfold crc
  simp only
  refine Nat.xor_lt_two_pow ?_ (Nat.mod_lt _ hp)
  split
  · exact reflect_lt ..
  · exact h

/-- n bytes, least significant first, are n bytes. -/
@[simp] theorem leBytes_length (n x : Nat) : (leBytes n x).length = n := by
  induction n generalizing x with
  | zero => rfl
  | succ n ih => simp [leBytes, ih]
/-- n bytes, most significant first, are n bytes. -/
@[simp] theorem beBytes_length (n x : Nat) : (beBytes n x).length = n := by simp [beBytes]

/-- Bytes read most significant first are the number they were made of. -/
theorem ofBe_beBytes (n x : Nat) (h : x < 256 ^ n) : ofBe (beBytes n x) = x := by
  unfold ofBe beBytes
  rw [List.foldl_reverse]
  induction n generalizing x with
  | zero => simp [leBytes] at *; omega
  | succ n ih =>
    rw [leBytes, List.foldr_cons, ih (x / 256) (by rw [Nat.pow_succ] at h; omega)]
    simp only [BitVec.toNat_ofNat, Nat.reducePow]
    omega

/-- A formed cell is 1,024 bytes (08 R232). -/
@[simp] theorem cellBytes_length (h : CellHdr) (p : List Byte) : (cellBytes h p).length = 1024 := by
  simp [cellBytes, padCell]; omega

/-- A formed cell passes HCRC and PCRC (08 R233). -/
theorem cellBytes_checked (h : CellHdr) (p : List Byte) : hcrcOk (cellBytes h p) = true ∧ pcrcOk (cellBytes h p) = true := by
  have key : ∀ (a b c e : List Byte) (x y : Nat), a.length = 26 → x < 256 ^ 4 → y < 256 ^ 2 → b = beBytes 4 x → c = beBytes 2 y →
      cellBe (a ++ b ++ c ++ e) 30 2 = y ∧ cellBe (a ++ b ++ c ++ e) 26 4 = x ∧ (a ++ b ++ c ++ e).take 30 = a ++ b ∧
      (a ++ b ++ c ++ e).drop 32 = e := by
    intro a b c e x y ha hx hy hb hc
    subst hb; subst hc
    have h30 : (a ++ beBytes 4 x).length = 30 := by simp [ha]
    have h32 : (a ++ beBytes 4 x ++ beBytes 2 y).length = 32 := by simp [ha]
    refine ⟨?_, ?_, ?_, ?_⟩
    · unfold cellBe
      rw [List.append_assoc (a ++ beBytes 4 x), List.drop_left' h30, List.take_left' (by simp), ofBe_beBytes 2 y hy]
    · unfold cellBe
      rw [List.append_assoc, List.append_assoc, List.drop_left' ha, List.take_left' (by simp), ofBe_beBytes 4 x hx]
    · rw [List.append_assoc, List.take_left' h30]
    · rw [List.drop_left' h32]
  have h32 := crc_lt crc32 (padCell p)
  obtain ⟨hd, hhd⟩ : ∃ hd : List Byte, hd = beBytes 2 h.ver ++ beBytes 1 (h.type * 16 + 8 * b2n h.plane) ++ beBytes 1 (b2n h.first + 2 * b2n h.fill)
      ++ beBytes 2 h.src ++ beBytes 2 h.dst ++ beBytes 3 (h.flow % 2 ^ 20) ++ [0] ++ beBytes 4 h.seq ++ beBytes 2 h.len
      ++ beBytes 8 (dts96 h.ts % 2 ^ 64) := ⟨_, rfl⟩
  have hl : hd.length = 26 := by simp [hhd]
  have e : cellBytes h p = hd ++ beBytes 4 (crc crc32 (padCell p)) ++ beBytes 2 (crc crc16 (hd ++ beBytes 4 (crc crc32 (padCell p)))) ++ padCell p := by
    unfold cellBytes; rw [hhd]
  have h16 := crc_lt crc16 (hd ++ beBytes 4 (crc crc32 (padCell p)))
  obtain ⟨k1, k2, k3, k4⟩ := key hd _ _ (padCell p) (crc crc32 (padCell p)) (crc crc16 (hd ++ beBytes 4 (crc crc32 (padCell p)))) hl h32 h16 rfl rfl
  rw [e]
  unfold hcrcOk pcrcOk
  rw [k1, k2, k3, k4]
  simp

end Sys2Proof.Machine
end

