-- ==== Sys2Proof/Laws/Records.lean ====
section
/-! SUPPORT. What the updates of one record leave unchanged, one lemma per field per update. -/
namespace Sys2Proof.Machine
open Sys2Proof

@[simp] theorem State.setOdu_dts (s : State) (i : Nat) (o : OduH) : (s.setOdu i o).dts = s.dts := rfl
@[simp] theorem State.setOdu_regs (s : State) (i : Nat) (o : OduH) : (s.setOdu i o).regs = s.regs := rfl
@[simp] theorem State.setOdu_ctrs (s : State) (i : Nat) (o : OduH) : (s.setOdu i o).ctrs = s.ctrs := rfl
@[simp] theorem State.setOdu_stat (s : State) (i : Nat) (o : OduH) : (s.setOdu i o).stat = s.stat := rfl
@[simp] theorem State.setOdu_pulses (s : State) (i : Nat) (o : OduH) : (s.setOdu i o).pulses = s.pulses := rfl
@[simp] theorem State.setOdu_irq (s : State) (i : Nat) (o : OduH) : (s.setOdu i o).irq = s.irq := rfl
@[simp] theorem State.setOdu_freeCtr (s : State) (i : Nat) (o : OduH) : (s.setOdu i o).freeCtr = s.freeCtr := rfl
@[simp] theorem State.setOdu_out (s : State) (i : Nat) (o : OduH) : (s.setOdu i o).out = s.out := rfl
@[simp] theorem State.setOdu_evl (s : State) (i : Nat) (o : OduH) : (s.setOdu i o).evl = s.evl := rfl
@[simp] theorem State.setOdu_violUnread (s : State) (i : Nat) (o : OduH) : (s.setOdu i o).violUnread = s.violUnread := rfl
@[simp] theorem State.setOdu_que (s : State) (i : Nat) (o : OduH) : (s.setOdu i o).que = s.que := rfl
@[simp] theorem State.setOdu_jrm (s : State) (i : Nat) (o : OduH) : (s.setOdu i o).jrm = s.jrm := rfl
@[simp] theorem State.setOdu_pm (s : State) (i : Nat) (o : OduH) : (s.setOdu i o).pm = s.pm := rfl
@[simp] theorem State.setOdu_lin (s : State) (i : Nat) (o : OduH) : (s.setOdu i o).lin = s.lin := rfl
@[simp] theorem State.setOdu_frm (s : State) (i : Nat) (o : OduH) : (s.setOdu i o).frm = s.frm := rfl
@[simp] theorem State.setOdu_plz (s : State) (i : Nat) (o : OduH) : (s.setOdu i o).plz = s.plz := rfl
@[simp] theorem State.setOdu_pins (s : State) (i : Nat) (o : OduH) : (s.setOdu i o).pins = s.pins := rfl
@[simp] theorem State.setOdu_oap (s : State) (i : Nat) (o : OduH) : (s.setOdu i o).oap = s.oap := rfl
@[simp] theorem State.setOdu_arc (s : State) (i : Nat) (o : OduH) : (s.setOdu i o).arc = s.arc := rfl
@[simp] theorem State.setOdu_cvu (s : State) (i : Nat) (o : OduH) : (s.setOdu i o).cvu = s.cvu := rfl
@[simp] theorem State.setOdu_und (s : State) (i : Nat) (o : OduH) : (s.setOdu i o).und = s.und := rfl
@[simp] theorem State.setOdu_pair (s : State) (i : Nat) (o : OduH) : (s.setOdu i o).pair = s.pair := rfl
@[simp] theorem State.setOdu_apsEnd (s : State) (i : Nat) (o : OduH) : (s.setOdu i o).apsEnd = s.apsEnd := rfl
@[simp] theorem State.setOdu_red (s : State) (i : Nat) (o : OduH) : (s.setOdu i o).red = s.red := rfl
@[simp] theorem State.setOdu_tim (s : State) (i : Nat) (o : OduH) : (s.setOdu i o).tim = s.tim := rfl
@[simp] theorem State.setOdu_sysg (s : State) (i : Nat) (o : OduH) : (s.setOdu i o).sysg = s.sysg := rfl
@[simp] theorem State.setOdu_ave (s : State) (i : Nat) (o : OduH) : (s.setOdu i o).ave = s.ave := rfl
@[simp] theorem State.setOdu_hcq (s : State) (i : Nat) (o : OduH) : (s.setOdu i o).hcq = s.hcq := rfl
@[simp] theorem State.setOdu_mnt (s : State) (i : Nat) (o : OduH) : (s.setOdu i o).mnt = s.mnt := rfl
@[simp] theorem State.setOdu_pwr (s : State) (i : Nat) (o : OduH) : (s.setOdu i o).pwr = s.pwr := rfl
@[simp] theorem State.setOdu_pending (s : State) (i : Nat) (o : OduH) : (s.setOdu i o).pending = s.pending := rfl

@[simp] theorem State.setMp_dts (s : State) (i d : Nat) (h : MapH) : (s.setMp i d h).dts = s.dts := rfl
@[simp] theorem State.setMp_regs (s : State) (i d : Nat) (h : MapH) : (s.setMp i d h).regs = s.regs := rfl
@[simp] theorem State.setMp_ctrs (s : State) (i d : Nat) (h : MapH) : (s.setMp i d h).ctrs = s.ctrs := rfl
@[simp] theorem State.setMp_stat (s : State) (i d : Nat) (h : MapH) : (s.setMp i d h).stat = s.stat := rfl
@[simp] theorem State.setMp_pulses (s : State) (i d : Nat) (h : MapH) : (s.setMp i d h).pulses = s.pulses := rfl
@[simp] theorem State.setMp_irq (s : State) (i d : Nat) (h : MapH) : (s.setMp i d h).irq = s.irq := rfl
@[simp] theorem State.setMp_freeCtr (s : State) (i d : Nat) (h : MapH) : (s.setMp i d h).freeCtr = s.freeCtr := rfl
@[simp] theorem State.setMp_out (s : State) (i d : Nat) (h : MapH) : (s.setMp i d h).out = s.out := rfl
@[simp] theorem State.setMp_evl (s : State) (i d : Nat) (h : MapH) : (s.setMp i d h).evl = s.evl := rfl
@[simp] theorem State.setMp_violUnread (s : State) (i d : Nat) (h : MapH) : (s.setMp i d h).violUnread = s.violUnread := rfl
@[simp] theorem State.setMp_que (s : State) (i d : Nat) (h : MapH) : (s.setMp i d h).que = s.que := rfl
@[simp] theorem State.setMp_jrm (s : State) (i d : Nat) (h : MapH) : (s.setMp i d h).jrm = s.jrm := rfl
@[simp] theorem State.setMp_pm (s : State) (i d : Nat) (h : MapH) : (s.setMp i d h).pm = s.pm := rfl
@[simp] theorem State.setMp_lin (s : State) (i d : Nat) (h : MapH) : (s.setMp i d h).lin = s.lin := rfl
@[simp] theorem State.setMp_frm (s : State) (i d : Nat) (h : MapH) : (s.setMp i d h).frm = s.frm := rfl
@[simp] theorem State.setMp_plz (s : State) (i d : Nat) (h : MapH) : (s.setMp i d h).plz = s.plz := rfl
@[simp] theorem State.setMp_pins (s : State) (i d : Nat) (h : MapH) : (s.setMp i d h).pins = s.pins := rfl
@[simp] theorem State.setMp_oap (s : State) (i d : Nat) (h : MapH) : (s.setMp i d h).oap = s.oap := rfl
@[simp] theorem State.setMp_arc (s : State) (i d : Nat) (h : MapH) : (s.setMp i d h).arc = s.arc := rfl
@[simp] theorem State.setMp_cvu (s : State) (i d : Nat) (h : MapH) : (s.setMp i d h).cvu = s.cvu := rfl
@[simp] theorem State.setMp_und (s : State) (i d : Nat) (h : MapH) : (s.setMp i d h).und = s.und := rfl
@[simp] theorem State.setMp_pair (s : State) (i d : Nat) (h : MapH) : (s.setMp i d h).pair = s.pair := rfl
@[simp] theorem State.setMp_apsEnd (s : State) (i d : Nat) (h : MapH) : (s.setMp i d h).apsEnd = s.apsEnd := rfl
@[simp] theorem State.setMp_red (s : State) (i d : Nat) (h : MapH) : (s.setMp i d h).red = s.red := rfl
@[simp] theorem State.setMp_tim (s : State) (i d : Nat) (h : MapH) : (s.setMp i d h).tim = s.tim := rfl
@[simp] theorem State.setMp_sysg (s : State) (i d : Nat) (h : MapH) : (s.setMp i d h).sysg = s.sysg := rfl
@[simp] theorem State.setMp_ave (s : State) (i d : Nat) (h : MapH) : (s.setMp i d h).ave = s.ave := rfl
@[simp] theorem State.setMp_hcq (s : State) (i d : Nat) (h : MapH) : (s.setMp i d h).hcq = s.hcq := rfl
@[simp] theorem State.setMp_mnt (s : State) (i d : Nat) (h : MapH) : (s.setMp i d h).mnt = s.mnt := rfl
@[simp] theorem State.setMp_pwr (s : State) (i d : Nat) (h : MapH) : (s.setMp i d h).pwr = s.pwr := rfl
@[simp] theorem State.setMp_pending (s : State) (i d : Nat) (h : MapH) : (s.setMp i d h).pending = s.pending := rfl

@[simp] theorem State.setCn_dts (s : State) (d i : Nat) (c : ConnH) : (s.setCn d i c).dts = s.dts := rfl
@[simp] theorem State.setCn_regs (s : State) (d i : Nat) (c : ConnH) : (s.setCn d i c).regs = s.regs := rfl
@[simp] theorem State.setCn_ctrs (s : State) (d i : Nat) (c : ConnH) : (s.setCn d i c).ctrs = s.ctrs := rfl
@[simp] theorem State.setCn_stat (s : State) (d i : Nat) (c : ConnH) : (s.setCn d i c).stat = s.stat := rfl
@[simp] theorem State.setCn_pulses (s : State) (d i : Nat) (c : ConnH) : (s.setCn d i c).pulses = s.pulses := rfl
@[simp] theorem State.setCn_irq (s : State) (d i : Nat) (c : ConnH) : (s.setCn d i c).irq = s.irq := rfl
@[simp] theorem State.setCn_freeCtr (s : State) (d i : Nat) (c : ConnH) : (s.setCn d i c).freeCtr = s.freeCtr := rfl
@[simp] theorem State.setCn_out (s : State) (d i : Nat) (c : ConnH) : (s.setCn d i c).out = s.out := rfl
@[simp] theorem State.setCn_evl (s : State) (d i : Nat) (c : ConnH) : (s.setCn d i c).evl = s.evl := rfl
@[simp] theorem State.setCn_violUnread (s : State) (d i : Nat) (c : ConnH) : (s.setCn d i c).violUnread = s.violUnread := rfl
@[simp] theorem State.setCn_que (s : State) (d i : Nat) (c : ConnH) : (s.setCn d i c).que = s.que := rfl
@[simp] theorem State.setCn_jrm (s : State) (d i : Nat) (c : ConnH) : (s.setCn d i c).jrm = s.jrm := rfl
@[simp] theorem State.setCn_pm (s : State) (d i : Nat) (c : ConnH) : (s.setCn d i c).pm = s.pm := rfl
@[simp] theorem State.setCn_lin (s : State) (d i : Nat) (c : ConnH) : (s.setCn d i c).lin = s.lin := rfl
@[simp] theorem State.setCn_frm (s : State) (d i : Nat) (c : ConnH) : (s.setCn d i c).frm = s.frm := rfl
@[simp] theorem State.setCn_map (s : State) (d i : Nat) (c : ConnH) : (s.setCn d i c).map = s.map := rfl
@[simp] theorem State.setCn_pins (s : State) (d i : Nat) (c : ConnH) : (s.setCn d i c).pins = s.pins := rfl
@[simp] theorem State.setCn_oap (s : State) (d i : Nat) (c : ConnH) : (s.setCn d i c).oap = s.oap := rfl
@[simp] theorem State.setCn_arc (s : State) (d i : Nat) (c : ConnH) : (s.setCn d i c).arc = s.arc := rfl
@[simp] theorem State.setCn_cvu (s : State) (d i : Nat) (c : ConnH) : (s.setCn d i c).cvu = s.cvu := rfl
@[simp] theorem State.setCn_und (s : State) (d i : Nat) (c : ConnH) : (s.setCn d i c).und = s.und := rfl
@[simp] theorem State.setCn_pair (s : State) (d i : Nat) (c : ConnH) : (s.setCn d i c).pair = s.pair := rfl
@[simp] theorem State.setCn_apsEnd (s : State) (d i : Nat) (c : ConnH) : (s.setCn d i c).apsEnd = s.apsEnd := rfl
@[simp] theorem State.setCn_red (s : State) (d i : Nat) (c : ConnH) : (s.setCn d i c).red = s.red := rfl
@[simp] theorem State.setCn_tim (s : State) (d i : Nat) (c : ConnH) : (s.setCn d i c).tim = s.tim := rfl
@[simp] theorem State.setCn_sysg (s : State) (d i : Nat) (c : ConnH) : (s.setCn d i c).sysg = s.sysg := rfl
@[simp] theorem State.setCn_ave (s : State) (d i : Nat) (c : ConnH) : (s.setCn d i c).ave = s.ave := rfl
@[simp] theorem State.setCn_hcq (s : State) (d i : Nat) (c : ConnH) : (s.setCn d i c).hcq = s.hcq := rfl
@[simp] theorem State.setCn_mnt (s : State) (d i : Nat) (c : ConnH) : (s.setCn d i c).mnt = s.mnt := rfl
@[simp] theorem State.setCn_pwr (s : State) (d i : Nat) (c : ConnH) : (s.setCn d i c).pwr = s.pwr := rfl
@[simp] theorem State.setCn_pending (s : State) (d i : Nat) (c : ConnH) : (s.setCn d i c).pending = s.pending := rfl

@[simp] theorem State.setLif_dts (s : State) (i : Nat) (h : LifH) : (s.setLif i h).dts = s.dts := rfl
@[simp] theorem State.setLif_regs (s : State) (i : Nat) (h : LifH) : (s.setLif i h).regs = s.regs := rfl
@[simp] theorem State.setLif_ctrs (s : State) (i : Nat) (h : LifH) : (s.setLif i h).ctrs = s.ctrs := rfl
@[simp] theorem State.setLif_stat (s : State) (i : Nat) (h : LifH) : (s.setLif i h).stat = s.stat := rfl
@[simp] theorem State.setLif_pulses (s : State) (i : Nat) (h : LifH) : (s.setLif i h).pulses = s.pulses := rfl
@[simp] theorem State.setLif_irq (s : State) (i : Nat) (h : LifH) : (s.setLif i h).irq = s.irq := rfl
@[simp] theorem State.setLif_freeCtr (s : State) (i : Nat) (h : LifH) : (s.setLif i h).freeCtr = s.freeCtr := rfl
@[simp] theorem State.setLif_out (s : State) (i : Nat) (h : LifH) : (s.setLif i h).out = s.out := rfl
@[simp] theorem State.setLif_evl (s : State) (i : Nat) (h : LifH) : (s.setLif i h).evl = s.evl := rfl
@[simp] theorem State.setLif_violUnread (s : State) (i : Nat) (h : LifH) : (s.setLif i h).violUnread = s.violUnread := rfl
@[simp] theorem State.setLif_que (s : State) (i : Nat) (h : LifH) : (s.setLif i h).que = s.que := rfl
@[simp] theorem State.setLif_jrm (s : State) (i : Nat) (h : LifH) : (s.setLif i h).jrm = s.jrm := rfl
@[simp] theorem State.setLif_pm (s : State) (i : Nat) (h : LifH) : (s.setLif i h).pm = s.pm := rfl
@[simp] theorem State.setLif_frm (s : State) (i : Nat) (h : LifH) : (s.setLif i h).frm = s.frm := rfl
@[simp] theorem State.setLif_map (s : State) (i : Nat) (h : LifH) : (s.setLif i h).map = s.map := rfl
@[simp] theorem State.setLif_plz (s : State) (i : Nat) (h : LifH) : (s.setLif i h).plz = s.plz := rfl
@[simp] theorem State.setLif_pins (s : State) (i : Nat) (h : LifH) : (s.setLif i h).pins = s.pins := rfl
@[simp] theorem State.setLif_oap (s : State) (i : Nat) (h : LifH) : (s.setLif i h).oap = s.oap := rfl
@[simp] theorem State.setLif_arc (s : State) (i : Nat) (h : LifH) : (s.setLif i h).arc = s.arc := rfl
@[simp] theorem State.setLif_cvu (s : State) (i : Nat) (h : LifH) : (s.setLif i h).cvu = s.cvu := rfl
@[simp] theorem State.setLif_und (s : State) (i : Nat) (h : LifH) : (s.setLif i h).und = s.und := rfl
@[simp] theorem State.setLif_pair (s : State) (i : Nat) (h : LifH) : (s.setLif i h).pair = s.pair := rfl
@[simp] theorem State.setLif_apsEnd (s : State) (i : Nat) (h : LifH) : (s.setLif i h).apsEnd = s.apsEnd := rfl
@[simp] theorem State.setLif_red (s : State) (i : Nat) (h : LifH) : (s.setLif i h).red = s.red := rfl
@[simp] theorem State.setLif_tim (s : State) (i : Nat) (h : LifH) : (s.setLif i h).tim = s.tim := rfl
@[simp] theorem State.setLif_sysg (s : State) (i : Nat) (h : LifH) : (s.setLif i h).sysg = s.sysg := rfl
@[simp] theorem State.setLif_ave (s : State) (i : Nat) (h : LifH) : (s.setLif i h).ave = s.ave := rfl
@[simp] theorem State.setLif_hcq (s : State) (i : Nat) (h : LifH) : (s.setLif i h).hcq = s.hcq := rfl
@[simp] theorem State.setLif_mnt (s : State) (i : Nat) (h : LifH) : (s.setLif i h).mnt = s.mnt := rfl
@[simp] theorem State.setLif_pwr (s : State) (i : Nat) (h : LifH) : (s.setLif i h).pwr = s.pwr := rfl
@[simp] theorem State.setLif_pending (s : State) (i : Nat) (h : LifH) : (s.setLif i h).pending = s.pending := rfl

@[simp] theorem State.setGrp_dts (s : State) (g : Nat) (h : GrpH) : (s.setGrp g h).dts = s.dts := rfl
@[simp] theorem State.setGrp_regs (s : State) (g : Nat) (h : GrpH) : (s.setGrp g h).regs = s.regs := rfl
@[simp] theorem State.setGrp_ctrs (s : State) (g : Nat) (h : GrpH) : (s.setGrp g h).ctrs = s.ctrs := rfl
@[simp] theorem State.setGrp_stat (s : State) (g : Nat) (h : GrpH) : (s.setGrp g h).stat = s.stat := rfl
@[simp] theorem State.setGrp_pulses (s : State) (g : Nat) (h : GrpH) : (s.setGrp g h).pulses = s.pulses := rfl
@[simp] theorem State.setGrp_irq (s : State) (g : Nat) (h : GrpH) : (s.setGrp g h).irq = s.irq := rfl
@[simp] theorem State.setGrp_freeCtr (s : State) (g : Nat) (h : GrpH) : (s.setGrp g h).freeCtr = s.freeCtr := rfl
@[simp] theorem State.setGrp_out (s : State) (g : Nat) (h : GrpH) : (s.setGrp g h).out = s.out := rfl
@[simp] theorem State.setGrp_evl (s : State) (g : Nat) (h : GrpH) : (s.setGrp g h).evl = s.evl := rfl
@[simp] theorem State.setGrp_violUnread (s : State) (g : Nat) (h : GrpH) : (s.setGrp g h).violUnread = s.violUnread := rfl
@[simp] theorem State.setGrp_que (s : State) (g : Nat) (h : GrpH) : (s.setGrp g h).que = s.que := rfl
@[simp] theorem State.setGrp_jrm (s : State) (g : Nat) (h : GrpH) : (s.setGrp g h).jrm = s.jrm := rfl
@[simp] theorem State.setGrp_pm (s : State) (g : Nat) (h : GrpH) : (s.setGrp g h).pm = s.pm := rfl
@[simp] theorem State.setGrp_frm (s : State) (g : Nat) (h : GrpH) : (s.setGrp g h).frm = s.frm := rfl
@[simp] theorem State.setGrp_map (s : State) (g : Nat) (h : GrpH) : (s.setGrp g h).map = s.map := rfl
@[simp] theorem State.setGrp_plz (s : State) (g : Nat) (h : GrpH) : (s.setGrp g h).plz = s.plz := rfl
@[simp] theorem State.setGrp_pins (s : State) (g : Nat) (h : GrpH) : (s.setGrp g h).pins = s.pins := rfl
@[simp] theorem State.setGrp_oap (s : State) (g : Nat) (h : GrpH) : (s.setGrp g h).oap = s.oap := rfl
@[simp] theorem State.setGrp_arc (s : State) (g : Nat) (h : GrpH) : (s.setGrp g h).arc = s.arc := rfl
@[simp] theorem State.setGrp_cvu (s : State) (g : Nat) (h : GrpH) : (s.setGrp g h).cvu = s.cvu := rfl
@[simp] theorem State.setGrp_und (s : State) (g : Nat) (h : GrpH) : (s.setGrp g h).und = s.und := rfl
@[simp] theorem State.setGrp_pair (s : State) (g : Nat) (h : GrpH) : (s.setGrp g h).pair = s.pair := rfl
@[simp] theorem State.setGrp_apsEnd (s : State) (g : Nat) (h : GrpH) : (s.setGrp g h).apsEnd = s.apsEnd := rfl
@[simp] theorem State.setGrp_red (s : State) (g : Nat) (h : GrpH) : (s.setGrp g h).red = s.red := rfl
@[simp] theorem State.setGrp_tim (s : State) (g : Nat) (h : GrpH) : (s.setGrp g h).tim = s.tim := rfl
@[simp] theorem State.setGrp_sysg (s : State) (g : Nat) (h : GrpH) : (s.setGrp g h).sysg = s.sysg := rfl
@[simp] theorem State.setGrp_ave (s : State) (g : Nat) (h : GrpH) : (s.setGrp g h).ave = s.ave := rfl
@[simp] theorem State.setGrp_hcq (s : State) (g : Nat) (h : GrpH) : (s.setGrp g h).hcq = s.hcq := rfl
@[simp] theorem State.setGrp_mnt (s : State) (g : Nat) (h : GrpH) : (s.setGrp g h).mnt = s.mnt := rfl
@[simp] theorem State.setGrp_pwr (s : State) (g : Nat) (h : GrpH) : (s.setGrp g h).pwr = s.pwr := rfl
@[simp] theorem State.setGrp_pending (s : State) (g : Nat) (h : GrpH) : (s.setGrp g h).pending = s.pending := rfl

@[simp] theorem State.setSysGrp_dts (s : State) (g : Nat) (h : SysGrp) : (s.setSysGrp g h).dts = s.dts := rfl
@[simp] theorem State.setSysGrp_regs (s : State) (g : Nat) (h : SysGrp) : (s.setSysGrp g h).regs = s.regs := rfl
@[simp] theorem State.setSysGrp_ctrs (s : State) (g : Nat) (h : SysGrp) : (s.setSysGrp g h).ctrs = s.ctrs := rfl
@[simp] theorem State.setSysGrp_stat (s : State) (g : Nat) (h : SysGrp) : (s.setSysGrp g h).stat = s.stat := rfl
@[simp] theorem State.setSysGrp_pulses (s : State) (g : Nat) (h : SysGrp) : (s.setSysGrp g h).pulses = s.pulses := rfl
@[simp] theorem State.setSysGrp_irq (s : State) (g : Nat) (h : SysGrp) : (s.setSysGrp g h).irq = s.irq := rfl
@[simp] theorem State.setSysGrp_freeCtr (s : State) (g : Nat) (h : SysGrp) : (s.setSysGrp g h).freeCtr = s.freeCtr := rfl
@[simp] theorem State.setSysGrp_out (s : State) (g : Nat) (h : SysGrp) : (s.setSysGrp g h).out = s.out := rfl
@[simp] theorem State.setSysGrp_evl (s : State) (g : Nat) (h : SysGrp) : (s.setSysGrp g h).evl = s.evl := rfl
@[simp] theorem State.setSysGrp_violUnread (s : State) (g : Nat) (h : SysGrp) : (s.setSysGrp g h).violUnread = s.violUnread := rfl
@[simp] theorem State.setSysGrp_que (s : State) (g : Nat) (h : SysGrp) : (s.setSysGrp g h).que = s.que := rfl
@[simp] theorem State.setSysGrp_jrm (s : State) (g : Nat) (h : SysGrp) : (s.setSysGrp g h).jrm = s.jrm := rfl
@[simp] theorem State.setSysGrp_pm (s : State) (g : Nat) (h : SysGrp) : (s.setSysGrp g h).pm = s.pm := rfl
@[simp] theorem State.setSysGrp_lin (s : State) (g : Nat) (h : SysGrp) : (s.setSysGrp g h).lin = s.lin := rfl
@[simp] theorem State.setSysGrp_frm (s : State) (g : Nat) (h : SysGrp) : (s.setSysGrp g h).frm = s.frm := rfl
@[simp] theorem State.setSysGrp_map (s : State) (g : Nat) (h : SysGrp) : (s.setSysGrp g h).map = s.map := rfl
@[simp] theorem State.setSysGrp_plz (s : State) (g : Nat) (h : SysGrp) : (s.setSysGrp g h).plz = s.plz := rfl
@[simp] theorem State.setSysGrp_pins (s : State) (g : Nat) (h : SysGrp) : (s.setSysGrp g h).pins = s.pins := rfl
@[simp] theorem State.setSysGrp_oap (s : State) (g : Nat) (h : SysGrp) : (s.setSysGrp g h).oap = s.oap := rfl
@[simp] theorem State.setSysGrp_arc (s : State) (g : Nat) (h : SysGrp) : (s.setSysGrp g h).arc = s.arc := rfl
@[simp] theorem State.setSysGrp_cvu (s : State) (g : Nat) (h : SysGrp) : (s.setSysGrp g h).cvu = s.cvu := rfl
@[simp] theorem State.setSysGrp_und (s : State) (g : Nat) (h : SysGrp) : (s.setSysGrp g h).und = s.und := rfl
@[simp] theorem State.setSysGrp_pair (s : State) (g : Nat) (h : SysGrp) : (s.setSysGrp g h).pair = s.pair := rfl
@[simp] theorem State.setSysGrp_apsEnd (s : State) (g : Nat) (h : SysGrp) : (s.setSysGrp g h).apsEnd = s.apsEnd := rfl
@[simp] theorem State.setSysGrp_red (s : State) (g : Nat) (h : SysGrp) : (s.setSysGrp g h).red = s.red := rfl
@[simp] theorem State.setSysGrp_tim (s : State) (g : Nat) (h : SysGrp) : (s.setSysGrp g h).tim = s.tim := rfl
@[simp] theorem State.setSysGrp_ave (s : State) (g : Nat) (h : SysGrp) : (s.setSysGrp g h).ave = s.ave := rfl
@[simp] theorem State.setSysGrp_hcq (s : State) (g : Nat) (h : SysGrp) : (s.setSysGrp g h).hcq = s.hcq := rfl
@[simp] theorem State.setSysGrp_mnt (s : State) (g : Nat) (h : SysGrp) : (s.setSysGrp g h).mnt = s.mnt := rfl
@[simp] theorem State.setSysGrp_pwr (s : State) (g : Nat) (h : SysGrp) : (s.setSysGrp g h).pwr = s.pwr := rfl
@[simp] theorem State.setSysGrp_pending (s : State) (g : Nat) (h : SysGrp) : (s.setSysGrp g h).pending = s.pending := rfl

@[simp] theorem State.setAl_dts (s : State) (k : Nat) (h : AlignerH) : (s.setAl k h).dts = s.dts := rfl
@[simp] theorem State.setAl_regs (s : State) (k : Nat) (h : AlignerH) : (s.setAl k h).regs = s.regs := rfl
@[simp] theorem State.setAl_ctrs (s : State) (k : Nat) (h : AlignerH) : (s.setAl k h).ctrs = s.ctrs := rfl
@[simp] theorem State.setAl_stat (s : State) (k : Nat) (h : AlignerH) : (s.setAl k h).stat = s.stat := rfl
@[simp] theorem State.setAl_pulses (s : State) (k : Nat) (h : AlignerH) : (s.setAl k h).pulses = s.pulses := rfl
@[simp] theorem State.setAl_irq (s : State) (k : Nat) (h : AlignerH) : (s.setAl k h).irq = s.irq := rfl
@[simp] theorem State.setAl_freeCtr (s : State) (k : Nat) (h : AlignerH) : (s.setAl k h).freeCtr = s.freeCtr := rfl
@[simp] theorem State.setAl_out (s : State) (k : Nat) (h : AlignerH) : (s.setAl k h).out = s.out := rfl
@[simp] theorem State.setAl_evl (s : State) (k : Nat) (h : AlignerH) : (s.setAl k h).evl = s.evl := rfl
@[simp] theorem State.setAl_violUnread (s : State) (k : Nat) (h : AlignerH) : (s.setAl k h).violUnread = s.violUnread := rfl
@[simp] theorem State.setAl_que (s : State) (k : Nat) (h : AlignerH) : (s.setAl k h).que = s.que := rfl
@[simp] theorem State.setAl_jrm (s : State) (k : Nat) (h : AlignerH) : (s.setAl k h).jrm = s.jrm := rfl
@[simp] theorem State.setAl_pm (s : State) (k : Nat) (h : AlignerH) : (s.setAl k h).pm = s.pm := rfl
@[simp] theorem State.setAl_lin (s : State) (k : Nat) (h : AlignerH) : (s.setAl k h).lin = s.lin := rfl
@[simp] theorem State.setAl_map (s : State) (k : Nat) (h : AlignerH) : (s.setAl k h).map = s.map := rfl
@[simp] theorem State.setAl_plz (s : State) (k : Nat) (h : AlignerH) : (s.setAl k h).plz = s.plz := rfl
@[simp] theorem State.setAl_pins (s : State) (k : Nat) (h : AlignerH) : (s.setAl k h).pins = s.pins := rfl
@[simp] theorem State.setAl_oap (s : State) (k : Nat) (h : AlignerH) : (s.setAl k h).oap = s.oap := rfl
@[simp] theorem State.setAl_arc (s : State) (k : Nat) (h : AlignerH) : (s.setAl k h).arc = s.arc := rfl
@[simp] theorem State.setAl_cvu (s : State) (k : Nat) (h : AlignerH) : (s.setAl k h).cvu = s.cvu := rfl
@[simp] theorem State.setAl_und (s : State) (k : Nat) (h : AlignerH) : (s.setAl k h).und = s.und := rfl
@[simp] theorem State.setAl_pair (s : State) (k : Nat) (h : AlignerH) : (s.setAl k h).pair = s.pair := rfl
@[simp] theorem State.setAl_apsEnd (s : State) (k : Nat) (h : AlignerH) : (s.setAl k h).apsEnd = s.apsEnd := rfl
@[simp] theorem State.setAl_red (s : State) (k : Nat) (h : AlignerH) : (s.setAl k h).red = s.red := rfl
@[simp] theorem State.setAl_tim (s : State) (k : Nat) (h : AlignerH) : (s.setAl k h).tim = s.tim := rfl
@[simp] theorem State.setAl_sysg (s : State) (k : Nat) (h : AlignerH) : (s.setAl k h).sysg = s.sysg := rfl
@[simp] theorem State.setAl_ave (s : State) (k : Nat) (h : AlignerH) : (s.setAl k h).ave = s.ave := rfl
@[simp] theorem State.setAl_hcq (s : State) (k : Nat) (h : AlignerH) : (s.setAl k h).hcq = s.hcq := rfl
@[simp] theorem State.setAl_mnt (s : State) (k : Nat) (h : AlignerH) : (s.setAl k h).mnt = s.mnt := rfl
@[simp] theorem State.setAl_pwr (s : State) (k : Nat) (h : AlignerH) : (s.setAl k h).pwr = s.pwr := rfl
@[simp] theorem State.setAl_pending (s : State) (k : Nat) (h : AlignerH) : (s.setAl k h).pending = s.pending := rfl

@[simp] theorem State.setPin_dts (s : State) (i : Nat) (p : PinH) : (s.setPin i p).dts = s.dts := rfl
@[simp] theorem State.setPin_regs (s : State) (i : Nat) (p : PinH) : (s.setPin i p).regs = s.regs := rfl
@[simp] theorem State.setPin_ctrs (s : State) (i : Nat) (p : PinH) : (s.setPin i p).ctrs = s.ctrs := rfl
@[simp] theorem State.setPin_stat (s : State) (i : Nat) (p : PinH) : (s.setPin i p).stat = s.stat := rfl
@[simp] theorem State.setPin_pulses (s : State) (i : Nat) (p : PinH) : (s.setPin i p).pulses = s.pulses := rfl
@[simp] theorem State.setPin_irq (s : State) (i : Nat) (p : PinH) : (s.setPin i p).irq = s.irq := rfl
@[simp] theorem State.setPin_freeCtr (s : State) (i : Nat) (p : PinH) : (s.setPin i p).freeCtr = s.freeCtr := rfl
@[simp] theorem State.setPin_out (s : State) (i : Nat) (p : PinH) : (s.setPin i p).out = s.out := rfl
@[simp] theorem State.setPin_evl (s : State) (i : Nat) (p : PinH) : (s.setPin i p).evl = s.evl := rfl
@[simp] theorem State.setPin_violUnread (s : State) (i : Nat) (p : PinH) : (s.setPin i p).violUnread = s.violUnread := rfl
@[simp] theorem State.setPin_que (s : State) (i : Nat) (p : PinH) : (s.setPin i p).que = s.que := rfl
@[simp] theorem State.setPin_jrm (s : State) (i : Nat) (p : PinH) : (s.setPin i p).jrm = s.jrm := rfl
@[simp] theorem State.setPin_pm (s : State) (i : Nat) (p : PinH) : (s.setPin i p).pm = s.pm := rfl
@[simp] theorem State.setPin_lin (s : State) (i : Nat) (p : PinH) : (s.setPin i p).lin = s.lin := rfl
@[simp] theorem State.setPin_frm (s : State) (i : Nat) (p : PinH) : (s.setPin i p).frm = s.frm := rfl
@[simp] theorem State.setPin_map (s : State) (i : Nat) (p : PinH) : (s.setPin i p).map = s.map := rfl
@[simp] theorem State.setPin_plz (s : State) (i : Nat) (p : PinH) : (s.setPin i p).plz = s.plz := rfl
@[simp] theorem State.setPin_oap (s : State) (i : Nat) (p : PinH) : (s.setPin i p).oap = s.oap := rfl
@[simp] theorem State.setPin_arc (s : State) (i : Nat) (p : PinH) : (s.setPin i p).arc = s.arc := rfl
@[simp] theorem State.setPin_cvu (s : State) (i : Nat) (p : PinH) : (s.setPin i p).cvu = s.cvu := rfl
@[simp] theorem State.setPin_und (s : State) (i : Nat) (p : PinH) : (s.setPin i p).und = s.und := rfl
@[simp] theorem State.setPin_pair (s : State) (i : Nat) (p : PinH) : (s.setPin i p).pair = s.pair := rfl
@[simp] theorem State.setPin_apsEnd (s : State) (i : Nat) (p : PinH) : (s.setPin i p).apsEnd = s.apsEnd := rfl
@[simp] theorem State.setPin_red (s : State) (i : Nat) (p : PinH) : (s.setPin i p).red = s.red := rfl
@[simp] theorem State.setPin_tim (s : State) (i : Nat) (p : PinH) : (s.setPin i p).tim = s.tim := rfl
@[simp] theorem State.setPin_sysg (s : State) (i : Nat) (p : PinH) : (s.setPin i p).sysg = s.sysg := rfl
@[simp] theorem State.setPin_ave (s : State) (i : Nat) (p : PinH) : (s.setPin i p).ave = s.ave := rfl
@[simp] theorem State.setPin_hcq (s : State) (i : Nat) (p : PinH) : (s.setPin i p).hcq = s.hcq := rfl
@[simp] theorem State.setPin_mnt (s : State) (i : Nat) (p : PinH) : (s.setPin i p).mnt = s.mnt := rfl
@[simp] theorem State.setPin_pwr (s : State) (i : Nat) (p : PinH) : (s.setPin i p).pwr = s.pwr := rfl
@[simp] theorem State.setPin_pending (s : State) (i : Nat) (p : PinH) : (s.setPin i p).pending = s.pending := rfl

@[simp] theorem State.setCx_dts (s : State) (c : Nat) (h : CtxH) : (s.setCx c h).dts = s.dts := rfl
@[simp] theorem State.setCx_regs (s : State) (c : Nat) (h : CtxH) : (s.setCx c h).regs = s.regs := rfl
@[simp] theorem State.setCx_ctrs (s : State) (c : Nat) (h : CtxH) : (s.setCx c h).ctrs = s.ctrs := rfl
@[simp] theorem State.setCx_stat (s : State) (c : Nat) (h : CtxH) : (s.setCx c h).stat = s.stat := rfl
@[simp] theorem State.setCx_pulses (s : State) (c : Nat) (h : CtxH) : (s.setCx c h).pulses = s.pulses := rfl
@[simp] theorem State.setCx_irq (s : State) (c : Nat) (h : CtxH) : (s.setCx c h).irq = s.irq := rfl
@[simp] theorem State.setCx_freeCtr (s : State) (c : Nat) (h : CtxH) : (s.setCx c h).freeCtr = s.freeCtr := rfl
@[simp] theorem State.setCx_out (s : State) (c : Nat) (h : CtxH) : (s.setCx c h).out = s.out := rfl
@[simp] theorem State.setCx_evl (s : State) (c : Nat) (h : CtxH) : (s.setCx c h).evl = s.evl := rfl
@[simp] theorem State.setCx_violUnread (s : State) (c : Nat) (h : CtxH) : (s.setCx c h).violUnread = s.violUnread := rfl
@[simp] theorem State.setCx_que (s : State) (c : Nat) (h : CtxH) : (s.setCx c h).que = s.que := rfl
@[simp] theorem State.setCx_pm (s : State) (c : Nat) (h : CtxH) : (s.setCx c h).pm = s.pm := rfl
@[simp] theorem State.setCx_lin (s : State) (c : Nat) (h : CtxH) : (s.setCx c h).lin = s.lin := rfl
@[simp] theorem State.setCx_frm (s : State) (c : Nat) (h : CtxH) : (s.setCx c h).frm = s.frm := rfl
@[simp] theorem State.setCx_map (s : State) (c : Nat) (h : CtxH) : (s.setCx c h).map = s.map := rfl
@[simp] theorem State.setCx_plz (s : State) (c : Nat) (h : CtxH) : (s.setCx c h).plz = s.plz := rfl
@[simp] theorem State.setCx_pins (s : State) (c : Nat) (h : CtxH) : (s.setCx c h).pins = s.pins := rfl
@[simp] theorem State.setCx_oap (s : State) (c : Nat) (h : CtxH) : (s.setCx c h).oap = s.oap := rfl
@[simp] theorem State.setCx_arc (s : State) (c : Nat) (h : CtxH) : (s.setCx c h).arc = s.arc := rfl
@[simp] theorem State.setCx_cvu (s : State) (c : Nat) (h : CtxH) : (s.setCx c h).cvu = s.cvu := rfl
@[simp] theorem State.setCx_und (s : State) (c : Nat) (h : CtxH) : (s.setCx c h).und = s.und := rfl
@[simp] theorem State.setCx_pair (s : State) (c : Nat) (h : CtxH) : (s.setCx c h).pair = s.pair := rfl
@[simp] theorem State.setCx_apsEnd (s : State) (c : Nat) (h : CtxH) : (s.setCx c h).apsEnd = s.apsEnd := rfl
@[simp] theorem State.setCx_red (s : State) (c : Nat) (h : CtxH) : (s.setCx c h).red = s.red := rfl
@[simp] theorem State.setCx_tim (s : State) (c : Nat) (h : CtxH) : (s.setCx c h).tim = s.tim := rfl
@[simp] theorem State.setCx_sysg (s : State) (c : Nat) (h : CtxH) : (s.setCx c h).sysg = s.sysg := rfl
@[simp] theorem State.setCx_ave (s : State) (c : Nat) (h : CtxH) : (s.setCx c h).ave = s.ave := rfl
@[simp] theorem State.setCx_hcq (s : State) (c : Nat) (h : CtxH) : (s.setCx c h).hcq = s.hcq := rfl
@[simp] theorem State.setCx_mnt (s : State) (c : Nat) (h : CtxH) : (s.setCx c h).mnt = s.mnt := rfl
@[simp] theorem State.setCx_pwr (s : State) (c : Nat) (h : CtxH) : (s.setCx c h).pwr = s.pwr := rfl
@[simp] theorem State.setCx_pending (s : State) (c : Nat) (h : CtxH) : (s.setCx c h).pending = s.pending := rfl

@[simp] theorem State.setSsp_dts (s : State) (p : Nat) (h : SsPort) : (s.setSsp p h).dts = s.dts := rfl
@[simp] theorem State.setSsp_regs (s : State) (p : Nat) (h : SsPort) : (s.setSsp p h).regs = s.regs := rfl
@[simp] theorem State.setSsp_ctrs (s : State) (p : Nat) (h : SsPort) : (s.setSsp p h).ctrs = s.ctrs := rfl
@[simp] theorem State.setSsp_stat (s : State) (p : Nat) (h : SsPort) : (s.setSsp p h).stat = s.stat := rfl
@[simp] theorem State.setSsp_pulses (s : State) (p : Nat) (h : SsPort) : (s.setSsp p h).pulses = s.pulses := rfl
@[simp] theorem State.setSsp_irq (s : State) (p : Nat) (h : SsPort) : (s.setSsp p h).irq = s.irq := rfl
@[simp] theorem State.setSsp_freeCtr (s : State) (p : Nat) (h : SsPort) : (s.setSsp p h).freeCtr = s.freeCtr := rfl
@[simp] theorem State.setSsp_out (s : State) (p : Nat) (h : SsPort) : (s.setSsp p h).out = s.out := rfl
@[simp] theorem State.setSsp_evl (s : State) (p : Nat) (h : SsPort) : (s.setSsp p h).evl = s.evl := rfl
@[simp] theorem State.setSsp_violUnread (s : State) (p : Nat) (h : SsPort) : (s.setSsp p h).violUnread = s.violUnread := rfl
@[simp] theorem State.setSsp_jrm (s : State) (p : Nat) (h : SsPort) : (s.setSsp p h).jrm = s.jrm := rfl
@[simp] theorem State.setSsp_pm (s : State) (p : Nat) (h : SsPort) : (s.setSsp p h).pm = s.pm := rfl
@[simp] theorem State.setSsp_lin (s : State) (p : Nat) (h : SsPort) : (s.setSsp p h).lin = s.lin := rfl
@[simp] theorem State.setSsp_frm (s : State) (p : Nat) (h : SsPort) : (s.setSsp p h).frm = s.frm := rfl
@[simp] theorem State.setSsp_map (s : State) (p : Nat) (h : SsPort) : (s.setSsp p h).map = s.map := rfl
@[simp] theorem State.setSsp_plz (s : State) (p : Nat) (h : SsPort) : (s.setSsp p h).plz = s.plz := rfl
@[simp] theorem State.setSsp_pins (s : State) (p : Nat) (h : SsPort) : (s.setSsp p h).pins = s.pins := rfl
@[simp] theorem State.setSsp_oap (s : State) (p : Nat) (h : SsPort) : (s.setSsp p h).oap = s.oap := rfl
@[simp] theorem State.setSsp_arc (s : State) (p : Nat) (h : SsPort) : (s.setSsp p h).arc = s.arc := rfl
@[simp] theorem State.setSsp_cvu (s : State) (p : Nat) (h : SsPort) : (s.setSsp p h).cvu = s.cvu := rfl
@[simp] theorem State.setSsp_und (s : State) (p : Nat) (h : SsPort) : (s.setSsp p h).und = s.und := rfl
@[simp] theorem State.setSsp_pair (s : State) (p : Nat) (h : SsPort) : (s.setSsp p h).pair = s.pair := rfl
@[simp] theorem State.setSsp_apsEnd (s : State) (p : Nat) (h : SsPort) : (s.setSsp p h).apsEnd = s.apsEnd := rfl
@[simp] theorem State.setSsp_red (s : State) (p : Nat) (h : SsPort) : (s.setSsp p h).red = s.red := rfl
@[simp] theorem State.setSsp_tim (s : State) (p : Nat) (h : SsPort) : (s.setSsp p h).tim = s.tim := rfl
@[simp] theorem State.setSsp_sysg (s : State) (p : Nat) (h : SsPort) : (s.setSsp p h).sysg = s.sysg := rfl
@[simp] theorem State.setSsp_ave (s : State) (p : Nat) (h : SsPort) : (s.setSsp p h).ave = s.ave := rfl
@[simp] theorem State.setSsp_hcq (s : State) (p : Nat) (h : SsPort) : (s.setSsp p h).hcq = s.hcq := rfl
@[simp] theorem State.setSsp_mnt (s : State) (p : Nat) (h : SsPort) : (s.setSsp p h).mnt = s.mnt := rfl
@[simp] theorem State.setSsp_pwr (s : State) (p : Nat) (h : SsPort) : (s.setSsp p h).pwr = s.pwr := rfl
@[simp] theorem State.setSsp_pending (s : State) (p : Nat) (h : SsPort) : (s.setSsp p h).pending = s.pending := rfl

@[simp] theorem State.setPort_dts (s : State) (n : Nat) (p : OapPort) : (s.setPort n p).dts = s.dts := rfl
@[simp] theorem State.setPort_ctrs (s : State) (n : Nat) (p : OapPort) : (s.setPort n p).ctrs = s.ctrs := rfl
@[simp] theorem State.setPort_stat (s : State) (n : Nat) (p : OapPort) : (s.setPort n p).stat = s.stat := rfl
@[simp] theorem State.setPort_pulses (s : State) (n : Nat) (p : OapPort) : (s.setPort n p).pulses = s.pulses := rfl
@[simp] theorem State.setPort_irq (s : State) (n : Nat) (p : OapPort) : (s.setPort n p).irq = s.irq := rfl
@[simp] theorem State.setPort_freeCtr (s : State) (n : Nat) (p : OapPort) : (s.setPort n p).freeCtr = s.freeCtr := rfl
@[simp] theorem State.setPort_out (s : State) (n : Nat) (p : OapPort) : (s.setPort n p).out = s.out := rfl
@[simp] theorem State.setPort_evl (s : State) (n : Nat) (p : OapPort) : (s.setPort n p).evl = s.evl := rfl
@[simp] theorem State.setPort_violUnread (s : State) (n : Nat) (p : OapPort) : (s.setPort n p).violUnread = s.violUnread := rfl
@[simp] theorem State.setPort_que (s : State) (n : Nat) (p : OapPort) : (s.setPort n p).que = s.que := rfl
@[simp] theorem State.setPort_jrm (s : State) (n : Nat) (p : OapPort) : (s.setPort n p).jrm = s.jrm := rfl
@[simp] theorem State.setPort_pm (s : State) (n : Nat) (p : OapPort) : (s.setPort n p).pm = s.pm := rfl
@[simp] theorem State.setPort_lin (s : State) (n : Nat) (p : OapPort) : (s.setPort n p).lin = s.lin := rfl
@[simp] theorem State.setPort_frm (s : State) (n : Nat) (p : OapPort) : (s.setPort n p).frm = s.frm := rfl
@[simp] theorem State.setPort_map (s : State) (n : Nat) (p : OapPort) : (s.setPort n p).map = s.map := rfl
@[simp] theorem State.setPort_plz (s : State) (n : Nat) (p : OapPort) : (s.setPort n p).plz = s.plz := rfl
@[simp] theorem State.setPort_pins (s : State) (n : Nat) (p : OapPort) : (s.setPort n p).pins = s.pins := rfl
@[simp] theorem State.setPort_arc (s : State) (n : Nat) (p : OapPort) : (s.setPort n p).arc = s.arc := rfl
@[simp] theorem State.setPort_cvu (s : State) (n : Nat) (p : OapPort) : (s.setPort n p).cvu = s.cvu := rfl
@[simp] theorem State.setPort_und (s : State) (n : Nat) (p : OapPort) : (s.setPort n p).und = s.und := rfl
@[simp] theorem State.setPort_pair (s : State) (n : Nat) (p : OapPort) : (s.setPort n p).pair = s.pair := rfl
@[simp] theorem State.setPort_apsEnd (s : State) (n : Nat) (p : OapPort) : (s.setPort n p).apsEnd = s.apsEnd := rfl
@[simp] theorem State.setPort_red (s : State) (n : Nat) (p : OapPort) : (s.setPort n p).red = s.red := rfl
@[simp] theorem State.setPort_tim (s : State) (n : Nat) (p : OapPort) : (s.setPort n p).tim = s.tim := rfl
@[simp] theorem State.setPort_sysg (s : State) (n : Nat) (p : OapPort) : (s.setPort n p).sysg = s.sysg := rfl
@[simp] theorem State.setPort_ave (s : State) (n : Nat) (p : OapPort) : (s.setPort n p).ave = s.ave := rfl
@[simp] theorem State.setPort_hcq (s : State) (n : Nat) (p : OapPort) : (s.setPort n p).hcq = s.hcq := rfl
@[simp] theorem State.setPort_mnt (s : State) (n : Nat) (p : OapPort) : (s.setPort n p).mnt = s.mnt := rfl
@[simp] theorem State.setPort_pwr (s : State) (n : Nat) (p : OapPort) : (s.setPort n p).pwr = s.pwr := rfl
@[simp] theorem State.setPort_pending (s : State) (n : Nat) (p : OapPort) : (s.setPort n p).pending = s.pending := rfl

@[simp] theorem State.setAlk_dts (s : State) (l : Nat) (h : ArcLink) : (s.setAlk l h).dts = s.dts := rfl
@[simp] theorem State.setAlk_regs (s : State) (l : Nat) (h : ArcLink) : (s.setAlk l h).regs = s.regs := rfl
@[simp] theorem State.setAlk_ctrs (s : State) (l : Nat) (h : ArcLink) : (s.setAlk l h).ctrs = s.ctrs := rfl
@[simp] theorem State.setAlk_stat (s : State) (l : Nat) (h : ArcLink) : (s.setAlk l h).stat = s.stat := rfl
@[simp] theorem State.setAlk_pulses (s : State) (l : Nat) (h : ArcLink) : (s.setAlk l h).pulses = s.pulses := rfl
@[simp] theorem State.setAlk_irq (s : State) (l : Nat) (h : ArcLink) : (s.setAlk l h).irq = s.irq := rfl
@[simp] theorem State.setAlk_freeCtr (s : State) (l : Nat) (h : ArcLink) : (s.setAlk l h).freeCtr = s.freeCtr := rfl
@[simp] theorem State.setAlk_out (s : State) (l : Nat) (h : ArcLink) : (s.setAlk l h).out = s.out := rfl
@[simp] theorem State.setAlk_evl (s : State) (l : Nat) (h : ArcLink) : (s.setAlk l h).evl = s.evl := rfl
@[simp] theorem State.setAlk_violUnread (s : State) (l : Nat) (h : ArcLink) : (s.setAlk l h).violUnread = s.violUnread := rfl
@[simp] theorem State.setAlk_que (s : State) (l : Nat) (h : ArcLink) : (s.setAlk l h).que = s.que := rfl
@[simp] theorem State.setAlk_jrm (s : State) (l : Nat) (h : ArcLink) : (s.setAlk l h).jrm = s.jrm := rfl
@[simp] theorem State.setAlk_pm (s : State) (l : Nat) (h : ArcLink) : (s.setAlk l h).pm = s.pm := rfl
@[simp] theorem State.setAlk_lin (s : State) (l : Nat) (h : ArcLink) : (s.setAlk l h).lin = s.lin := rfl
@[simp] theorem State.setAlk_frm (s : State) (l : Nat) (h : ArcLink) : (s.setAlk l h).frm = s.frm := rfl
@[simp] theorem State.setAlk_map (s : State) (l : Nat) (h : ArcLink) : (s.setAlk l h).map = s.map := rfl
@[simp] theorem State.setAlk_plz (s : State) (l : Nat) (h : ArcLink) : (s.setAlk l h).plz = s.plz := rfl
@[simp] theorem State.setAlk_pins (s : State) (l : Nat) (h : ArcLink) : (s.setAlk l h).pins = s.pins := rfl
@[simp] theorem State.setAlk_oap (s : State) (l : Nat) (h : ArcLink) : (s.setAlk l h).oap = s.oap := rfl
@[simp] theorem State.setAlk_cvu (s : State) (l : Nat) (h : ArcLink) : (s.setAlk l h).cvu = s.cvu := rfl
@[simp] theorem State.setAlk_und (s : State) (l : Nat) (h : ArcLink) : (s.setAlk l h).und = s.und := rfl
@[simp] theorem State.setAlk_pair (s : State) (l : Nat) (h : ArcLink) : (s.setAlk l h).pair = s.pair := rfl
@[simp] theorem State.setAlk_apsEnd (s : State) (l : Nat) (h : ArcLink) : (s.setAlk l h).apsEnd = s.apsEnd := rfl
@[simp] theorem State.setAlk_red (s : State) (l : Nat) (h : ArcLink) : (s.setAlk l h).red = s.red := rfl
@[simp] theorem State.setAlk_tim (s : State) (l : Nat) (h : ArcLink) : (s.setAlk l h).tim = s.tim := rfl
@[simp] theorem State.setAlk_sysg (s : State) (l : Nat) (h : ArcLink) : (s.setAlk l h).sysg = s.sysg := rfl
@[simp] theorem State.setAlk_ave (s : State) (l : Nat) (h : ArcLink) : (s.setAlk l h).ave = s.ave := rfl
@[simp] theorem State.setAlk_hcq (s : State) (l : Nat) (h : ArcLink) : (s.setAlk l h).hcq = s.hcq := rfl
@[simp] theorem State.setAlk_mnt (s : State) (l : Nat) (h : ArcLink) : (s.setAlk l h).mnt = s.mnt := rfl
@[simp] theorem State.setAlk_pwr (s : State) (l : Nat) (h : ArcLink) : (s.setAlk l h).pwr = s.pwr := rfl
@[simp] theorem State.setAlk_pending (s : State) (l : Nat) (h : ArcLink) : (s.setAlk l h).pending = s.pending := rfl

@[simp] theorem State.setFlow_dts (s : State) (d i : Nat) (h : FlowH) : (s.setFlow d i h).dts = s.dts := rfl
@[simp] theorem State.setFlow_regs (s : State) (d i : Nat) (h : FlowH) : (s.setFlow d i h).regs = s.regs := rfl
@[simp] theorem State.setFlow_ctrs (s : State) (d i : Nat) (h : FlowH) : (s.setFlow d i h).ctrs = s.ctrs := rfl
@[simp] theorem State.setFlow_stat (s : State) (d i : Nat) (h : FlowH) : (s.setFlow d i h).stat = s.stat := rfl
@[simp] theorem State.setFlow_pulses (s : State) (d i : Nat) (h : FlowH) : (s.setFlow d i h).pulses = s.pulses := rfl
@[simp] theorem State.setFlow_irq (s : State) (d i : Nat) (h : FlowH) : (s.setFlow d i h).irq = s.irq := rfl
@[simp] theorem State.setFlow_freeCtr (s : State) (d i : Nat) (h : FlowH) : (s.setFlow d i h).freeCtr = s.freeCtr := rfl
@[simp] theorem State.setFlow_out (s : State) (d i : Nat) (h : FlowH) : (s.setFlow d i h).out = s.out := rfl
@[simp] theorem State.setFlow_evl (s : State) (d i : Nat) (h : FlowH) : (s.setFlow d i h).evl = s.evl := rfl
@[simp] theorem State.setFlow_violUnread (s : State) (d i : Nat) (h : FlowH) : (s.setFlow d i h).violUnread = s.violUnread := rfl
@[simp] theorem State.setFlow_que (s : State) (d i : Nat) (h : FlowH) : (s.setFlow d i h).que = s.que := rfl
@[simp] theorem State.setFlow_jrm (s : State) (d i : Nat) (h : FlowH) : (s.setFlow d i h).jrm = s.jrm := rfl
@[simp] theorem State.setFlow_pm (s : State) (d i : Nat) (h : FlowH) : (s.setFlow d i h).pm = s.pm := rfl
@[simp] theorem State.setFlow_lin (s : State) (d i : Nat) (h : FlowH) : (s.setFlow d i h).lin = s.lin := rfl
@[simp] theorem State.setFlow_frm (s : State) (d i : Nat) (h : FlowH) : (s.setFlow d i h).frm = s.frm := rfl
@[simp] theorem State.setFlow_map (s : State) (d i : Nat) (h : FlowH) : (s.setFlow d i h).map = s.map := rfl
@[simp] theorem State.setFlow_plz (s : State) (d i : Nat) (h : FlowH) : (s.setFlow d i h).plz = s.plz := rfl
@[simp] theorem State.setFlow_pins (s : State) (d i : Nat) (h : FlowH) : (s.setFlow d i h).pins = s.pins := rfl
@[simp] theorem State.setFlow_oap (s : State) (d i : Nat) (h : FlowH) : (s.setFlow d i h).oap = s.oap := rfl
@[simp] theorem State.setFlow_cvu (s : State) (d i : Nat) (h : FlowH) : (s.setFlow d i h).cvu = s.cvu := rfl
@[simp] theorem State.setFlow_und (s : State) (d i : Nat) (h : FlowH) : (s.setFlow d i h).und = s.und := rfl
@[simp] theorem State.setFlow_pair (s : State) (d i : Nat) (h : FlowH) : (s.setFlow d i h).pair = s.pair := rfl
@[simp] theorem State.setFlow_apsEnd (s : State) (d i : Nat) (h : FlowH) : (s.setFlow d i h).apsEnd = s.apsEnd := rfl
@[simp] theorem State.setFlow_red (s : State) (d i : Nat) (h : FlowH) : (s.setFlow d i h).red = s.red := rfl
@[simp] theorem State.setFlow_tim (s : State) (d i : Nat) (h : FlowH) : (s.setFlow d i h).tim = s.tim := rfl
@[simp] theorem State.setFlow_sysg (s : State) (d i : Nat) (h : FlowH) : (s.setFlow d i h).sysg = s.sysg := rfl
@[simp] theorem State.setFlow_ave (s : State) (d i : Nat) (h : FlowH) : (s.setFlow d i h).ave = s.ave := rfl
@[simp] theorem State.setFlow_hcq (s : State) (d i : Nat) (h : FlowH) : (s.setFlow d i h).hcq = s.hcq := rfl
@[simp] theorem State.setFlow_mnt (s : State) (d i : Nat) (h : FlowH) : (s.setFlow d i h).mnt = s.mnt := rfl
@[simp] theorem State.setFlow_pwr (s : State) (d i : Nat) (h : FlowH) : (s.setFlow d i h).pwr = s.pwr := rfl
@[simp] theorem State.setFlow_pending (s : State) (d i : Nat) (h : FlowH) : (s.setFlow d i h).pending = s.pending := rfl

@[simp] theorem State.setPmE_dts (s : State) (e : Nat) (h : PmH) : (s.setPmE e h).dts = s.dts := rfl
@[simp] theorem State.setPmE_regs (s : State) (e : Nat) (h : PmH) : (s.setPmE e h).regs = s.regs := rfl
@[simp] theorem State.setPmE_ctrs (s : State) (e : Nat) (h : PmH) : (s.setPmE e h).ctrs = s.ctrs := rfl
@[simp] theorem State.setPmE_stat (s : State) (e : Nat) (h : PmH) : (s.setPmE e h).stat = s.stat := rfl
@[simp] theorem State.setPmE_pulses (s : State) (e : Nat) (h : PmH) : (s.setPmE e h).pulses = s.pulses := rfl
@[simp] theorem State.setPmE_irq (s : State) (e : Nat) (h : PmH) : (s.setPmE e h).irq = s.irq := rfl
@[simp] theorem State.setPmE_freeCtr (s : State) (e : Nat) (h : PmH) : (s.setPmE e h).freeCtr = s.freeCtr := rfl
@[simp] theorem State.setPmE_out (s : State) (e : Nat) (h : PmH) : (s.setPmE e h).out = s.out := rfl
@[simp] theorem State.setPmE_evl (s : State) (e : Nat) (h : PmH) : (s.setPmE e h).evl = s.evl := rfl
@[simp] theorem State.setPmE_violUnread (s : State) (e : Nat) (h : PmH) : (s.setPmE e h).violUnread = s.violUnread := rfl
@[simp] theorem State.setPmE_que (s : State) (e : Nat) (h : PmH) : (s.setPmE e h).que = s.que := rfl
@[simp] theorem State.setPmE_jrm (s : State) (e : Nat) (h : PmH) : (s.setPmE e h).jrm = s.jrm := rfl
@[simp] theorem State.setPmE_lin (s : State) (e : Nat) (h : PmH) : (s.setPmE e h).lin = s.lin := rfl
@[simp] theorem State.setPmE_frm (s : State) (e : Nat) (h : PmH) : (s.setPmE e h).frm = s.frm := rfl
@[simp] theorem State.setPmE_map (s : State) (e : Nat) (h : PmH) : (s.setPmE e h).map = s.map := rfl
@[simp] theorem State.setPmE_plz (s : State) (e : Nat) (h : PmH) : (s.setPmE e h).plz = s.plz := rfl
@[simp] theorem State.setPmE_pins (s : State) (e : Nat) (h : PmH) : (s.setPmE e h).pins = s.pins := rfl
@[simp] theorem State.setPmE_oap (s : State) (e : Nat) (h : PmH) : (s.setPmE e h).oap = s.oap := rfl
@[simp] theorem State.setPmE_arc (s : State) (e : Nat) (h : PmH) : (s.setPmE e h).arc = s.arc := rfl
@[simp] theorem State.setPmE_cvu (s : State) (e : Nat) (h : PmH) : (s.setPmE e h).cvu = s.cvu := rfl
@[simp] theorem State.setPmE_und (s : State) (e : Nat) (h : PmH) : (s.setPmE e h).und = s.und := rfl
@[simp] theorem State.setPmE_pair (s : State) (e : Nat) (h : PmH) : (s.setPmE e h).pair = s.pair := rfl
@[simp] theorem State.setPmE_apsEnd (s : State) (e : Nat) (h : PmH) : (s.setPmE e h).apsEnd = s.apsEnd := rfl
@[simp] theorem State.setPmE_red (s : State) (e : Nat) (h : PmH) : (s.setPmE e h).red = s.red := rfl
@[simp] theorem State.setPmE_tim (s : State) (e : Nat) (h : PmH) : (s.setPmE e h).tim = s.tim := rfl
@[simp] theorem State.setPmE_sysg (s : State) (e : Nat) (h : PmH) : (s.setPmE e h).sysg = s.sysg := rfl
@[simp] theorem State.setPmE_ave (s : State) (e : Nat) (h : PmH) : (s.setPmE e h).ave = s.ave := rfl
@[simp] theorem State.setPmE_hcq (s : State) (e : Nat) (h : PmH) : (s.setPmE e h).hcq = s.hcq := rfl
@[simp] theorem State.setPmE_mnt (s : State) (e : Nat) (h : PmH) : (s.setPmE e h).mnt = s.mnt := rfl
@[simp] theorem State.setPmE_pwr (s : State) (e : Nat) (h : PmH) : (s.setPmE e h).pwr = s.pwr := rfl
@[simp] theorem State.setPmE_pending (s : State) (e : Nat) (h : PmH) : (s.setPmE e h).pending = s.pending := rfl

@[simp] theorem State.setCv_dts (s : State) (n : Nat) (h : CvuH) : (s.setCv n h).dts = s.dts := rfl
@[simp] theorem State.setCv_regs (s : State) (n : Nat) (h : CvuH) : (s.setCv n h).regs = s.regs := rfl
@[simp] theorem State.setCv_ctrs (s : State) (n : Nat) (h : CvuH) : (s.setCv n h).ctrs = s.ctrs := rfl
@[simp] theorem State.setCv_stat (s : State) (n : Nat) (h : CvuH) : (s.setCv n h).stat = s.stat := rfl
@[simp] theorem State.setCv_pulses (s : State) (n : Nat) (h : CvuH) : (s.setCv n h).pulses = s.pulses := rfl
@[simp] theorem State.setCv_irq (s : State) (n : Nat) (h : CvuH) : (s.setCv n h).irq = s.irq := rfl
@[simp] theorem State.setCv_freeCtr (s : State) (n : Nat) (h : CvuH) : (s.setCv n h).freeCtr = s.freeCtr := rfl
@[simp] theorem State.setCv_out (s : State) (n : Nat) (h : CvuH) : (s.setCv n h).out = s.out := rfl
@[simp] theorem State.setCv_evl (s : State) (n : Nat) (h : CvuH) : (s.setCv n h).evl = s.evl := rfl
@[simp] theorem State.setCv_violUnread (s : State) (n : Nat) (h : CvuH) : (s.setCv n h).violUnread = s.violUnread := rfl
@[simp] theorem State.setCv_que (s : State) (n : Nat) (h : CvuH) : (s.setCv n h).que = s.que := rfl
@[simp] theorem State.setCv_jrm (s : State) (n : Nat) (h : CvuH) : (s.setCv n h).jrm = s.jrm := rfl
@[simp] theorem State.setCv_pm (s : State) (n : Nat) (h : CvuH) : (s.setCv n h).pm = s.pm := rfl
@[simp] theorem State.setCv_lin (s : State) (n : Nat) (h : CvuH) : (s.setCv n h).lin = s.lin := rfl
@[simp] theorem State.setCv_frm (s : State) (n : Nat) (h : CvuH) : (s.setCv n h).frm = s.frm := rfl
@[simp] theorem State.setCv_map (s : State) (n : Nat) (h : CvuH) : (s.setCv n h).map = s.map := rfl
@[simp] theorem State.setCv_plz (s : State) (n : Nat) (h : CvuH) : (s.setCv n h).plz = s.plz := rfl
@[simp] theorem State.setCv_pins (s : State) (n : Nat) (h : CvuH) : (s.setCv n h).pins = s.pins := rfl
@[simp] theorem State.setCv_oap (s : State) (n : Nat) (h : CvuH) : (s.setCv n h).oap = s.oap := rfl
@[simp] theorem State.setCv_arc (s : State) (n : Nat) (h : CvuH) : (s.setCv n h).arc = s.arc := rfl
@[simp] theorem State.setCv_und (s : State) (n : Nat) (h : CvuH) : (s.setCv n h).und = s.und := rfl
@[simp] theorem State.setCv_pair (s : State) (n : Nat) (h : CvuH) : (s.setCv n h).pair = s.pair := rfl
@[simp] theorem State.setCv_apsEnd (s : State) (n : Nat) (h : CvuH) : (s.setCv n h).apsEnd = s.apsEnd := rfl
@[simp] theorem State.setCv_red (s : State) (n : Nat) (h : CvuH) : (s.setCv n h).red = s.red := rfl
@[simp] theorem State.setCv_tim (s : State) (n : Nat) (h : CvuH) : (s.setCv n h).tim = s.tim := rfl
@[simp] theorem State.setCv_sysg (s : State) (n : Nat) (h : CvuH) : (s.setCv n h).sysg = s.sysg := rfl
@[simp] theorem State.setCv_ave (s : State) (n : Nat) (h : CvuH) : (s.setCv n h).ave = s.ave := rfl
@[simp] theorem State.setCv_hcq (s : State) (n : Nat) (h : CvuH) : (s.setCv n h).hcq = s.hcq := rfl
@[simp] theorem State.setCv_mnt (s : State) (n : Nat) (h : CvuH) : (s.setCv n h).mnt = s.mnt := rfl
@[simp] theorem State.setCv_pwr (s : State) (n : Nat) (h : CvuH) : (s.setCv n h).pwr = s.pwr := rfl
@[simp] theorem State.setCv_pending (s : State) (n : Nat) (h : CvuH) : (s.setCv n h).pending = s.pending := rfl

@[simp] theorem State.setRef_dts (s : State) (r : Nat) (h : RefH) : (s.setRef r h).dts = s.dts := rfl
@[simp] theorem State.setRef_regs (s : State) (r : Nat) (h : RefH) : (s.setRef r h).regs = s.regs := rfl
@[simp] theorem State.setRef_ctrs (s : State) (r : Nat) (h : RefH) : (s.setRef r h).ctrs = s.ctrs := rfl
@[simp] theorem State.setRef_stat (s : State) (r : Nat) (h : RefH) : (s.setRef r h).stat = s.stat := rfl
@[simp] theorem State.setRef_pulses (s : State) (r : Nat) (h : RefH) : (s.setRef r h).pulses = s.pulses := rfl
@[simp] theorem State.setRef_irq (s : State) (r : Nat) (h : RefH) : (s.setRef r h).irq = s.irq := rfl
@[simp] theorem State.setRef_freeCtr (s : State) (r : Nat) (h : RefH) : (s.setRef r h).freeCtr = s.freeCtr := rfl
@[simp] theorem State.setRef_out (s : State) (r : Nat) (h : RefH) : (s.setRef r h).out = s.out := rfl
@[simp] theorem State.setRef_evl (s : State) (r : Nat) (h : RefH) : (s.setRef r h).evl = s.evl := rfl
@[simp] theorem State.setRef_violUnread (s : State) (r : Nat) (h : RefH) : (s.setRef r h).violUnread = s.violUnread := rfl
@[simp] theorem State.setRef_que (s : State) (r : Nat) (h : RefH) : (s.setRef r h).que = s.que := rfl
@[simp] theorem State.setRef_jrm (s : State) (r : Nat) (h : RefH) : (s.setRef r h).jrm = s.jrm := rfl
@[simp] theorem State.setRef_pm (s : State) (r : Nat) (h : RefH) : (s.setRef r h).pm = s.pm := rfl
@[simp] theorem State.setRef_lin (s : State) (r : Nat) (h : RefH) : (s.setRef r h).lin = s.lin := rfl
@[simp] theorem State.setRef_frm (s : State) (r : Nat) (h : RefH) : (s.setRef r h).frm = s.frm := rfl
@[simp] theorem State.setRef_map (s : State) (r : Nat) (h : RefH) : (s.setRef r h).map = s.map := rfl
@[simp] theorem State.setRef_plz (s : State) (r : Nat) (h : RefH) : (s.setRef r h).plz = s.plz := rfl
@[simp] theorem State.setRef_pins (s : State) (r : Nat) (h : RefH) : (s.setRef r h).pins = s.pins := rfl
@[simp] theorem State.setRef_oap (s : State) (r : Nat) (h : RefH) : (s.setRef r h).oap = s.oap := rfl
@[simp] theorem State.setRef_arc (s : State) (r : Nat) (h : RefH) : (s.setRef r h).arc = s.arc := rfl
@[simp] theorem State.setRef_cvu (s : State) (r : Nat) (h : RefH) : (s.setRef r h).cvu = s.cvu := rfl
@[simp] theorem State.setRef_und (s : State) (r : Nat) (h : RefH) : (s.setRef r h).und = s.und := rfl
@[simp] theorem State.setRef_pair (s : State) (r : Nat) (h : RefH) : (s.setRef r h).pair = s.pair := rfl
@[simp] theorem State.setRef_apsEnd (s : State) (r : Nat) (h : RefH) : (s.setRef r h).apsEnd = s.apsEnd := rfl
@[simp] theorem State.setRef_red (s : State) (r : Nat) (h : RefH) : (s.setRef r h).red = s.red := rfl
@[simp] theorem State.setRef_sysg (s : State) (r : Nat) (h : RefH) : (s.setRef r h).sysg = s.sysg := rfl
@[simp] theorem State.setRef_ave (s : State) (r : Nat) (h : RefH) : (s.setRef r h).ave = s.ave := rfl
@[simp] theorem State.setRef_hcq (s : State) (r : Nat) (h : RefH) : (s.setRef r h).hcq = s.hcq := rfl
@[simp] theorem State.setRef_mnt (s : State) (r : Nat) (h : RefH) : (s.setRef r h).mnt = s.mnt := rfl
@[simp] theorem State.setRef_pwr (s : State) (r : Nat) (h : RefH) : (s.setRef r h).pwr = s.pwr := rfl
@[simp] theorem State.setRef_pending (s : State) (r : Nat) (h : RefH) : (s.setRef r h).pending = s.pending := rfl

@[simp] theorem State.setDp_dts (s : State) (d : Nat) (h : DpllH) : (s.setDp d h).dts = s.dts := rfl
@[simp] theorem State.setDp_regs (s : State) (d : Nat) (h : DpllH) : (s.setDp d h).regs = s.regs := rfl
@[simp] theorem State.setDp_ctrs (s : State) (d : Nat) (h : DpllH) : (s.setDp d h).ctrs = s.ctrs := rfl
@[simp] theorem State.setDp_stat (s : State) (d : Nat) (h : DpllH) : (s.setDp d h).stat = s.stat := rfl
@[simp] theorem State.setDp_pulses (s : State) (d : Nat) (h : DpllH) : (s.setDp d h).pulses = s.pulses := rfl
@[simp] theorem State.setDp_irq (s : State) (d : Nat) (h : DpllH) : (s.setDp d h).irq = s.irq := rfl
@[simp] theorem State.setDp_freeCtr (s : State) (d : Nat) (h : DpllH) : (s.setDp d h).freeCtr = s.freeCtr := rfl
@[simp] theorem State.setDp_out (s : State) (d : Nat) (h : DpllH) : (s.setDp d h).out = s.out := rfl
@[simp] theorem State.setDp_evl (s : State) (d : Nat) (h : DpllH) : (s.setDp d h).evl = s.evl := rfl
@[simp] theorem State.setDp_violUnread (s : State) (d : Nat) (h : DpllH) : (s.setDp d h).violUnread = s.violUnread := rfl
@[simp] theorem State.setDp_que (s : State) (d : Nat) (h : DpllH) : (s.setDp d h).que = s.que := rfl
@[simp] theorem State.setDp_jrm (s : State) (d : Nat) (h : DpllH) : (s.setDp d h).jrm = s.jrm := rfl
@[simp] theorem State.setDp_pm (s : State) (d : Nat) (h : DpllH) : (s.setDp d h).pm = s.pm := rfl
@[simp] theorem State.setDp_lin (s : State) (d : Nat) (h : DpllH) : (s.setDp d h).lin = s.lin := rfl
@[simp] theorem State.setDp_frm (s : State) (d : Nat) (h : DpllH) : (s.setDp d h).frm = s.frm := rfl
@[simp] theorem State.setDp_map (s : State) (d : Nat) (h : DpllH) : (s.setDp d h).map = s.map := rfl
@[simp] theorem State.setDp_plz (s : State) (d : Nat) (h : DpllH) : (s.setDp d h).plz = s.plz := rfl
@[simp] theorem State.setDp_pins (s : State) (d : Nat) (h : DpllH) : (s.setDp d h).pins = s.pins := rfl
@[simp] theorem State.setDp_oap (s : State) (d : Nat) (h : DpllH) : (s.setDp d h).oap = s.oap := rfl
@[simp] theorem State.setDp_arc (s : State) (d : Nat) (h : DpllH) : (s.setDp d h).arc = s.arc := rfl
@[simp] theorem State.setDp_cvu (s : State) (d : Nat) (h : DpllH) : (s.setDp d h).cvu = s.cvu := rfl
@[simp] theorem State.setDp_und (s : State) (d : Nat) (h : DpllH) : (s.setDp d h).und = s.und := rfl
@[simp] theorem State.setDp_pair (s : State) (d : Nat) (h : DpllH) : (s.setDp d h).pair = s.pair := rfl
@[simp] theorem State.setDp_apsEnd (s : State) (d : Nat) (h : DpllH) : (s.setDp d h).apsEnd = s.apsEnd := rfl
@[simp] theorem State.setDp_red (s : State) (d : Nat) (h : DpllH) : (s.setDp d h).red = s.red := rfl
@[simp] theorem State.setDp_sysg (s : State) (d : Nat) (h : DpllH) : (s.setDp d h).sysg = s.sysg := rfl
@[simp] theorem State.setDp_ave (s : State) (d : Nat) (h : DpllH) : (s.setDp d h).ave = s.ave := rfl
@[simp] theorem State.setDp_hcq (s : State) (d : Nat) (h : DpllH) : (s.setDp d h).hcq = s.hcq := rfl
@[simp] theorem State.setDp_mnt (s : State) (d : Nat) (h : DpllH) : (s.setDp d h).mnt = s.mnt := rfl
@[simp] theorem State.setDp_pwr (s : State) (d : Nat) (h : DpllH) : (s.setDp d h).pwr = s.pwr := rfl
@[simp] theorem State.setDp_pending (s : State) (d : Nat) (h : DpllH) : (s.setDp d h).pending = s.pending := rfl

@[simp] theorem State.setPr_dts (s : State) (d x : Nat) (h : PairH) : (s.setPr d x h).dts = s.dts := rfl
@[simp] theorem State.setPr_regs (s : State) (d x : Nat) (h : PairH) : (s.setPr d x h).regs = s.regs := rfl
@[simp] theorem State.setPr_ctrs (s : State) (d x : Nat) (h : PairH) : (s.setPr d x h).ctrs = s.ctrs := rfl
@[simp] theorem State.setPr_stat (s : State) (d x : Nat) (h : PairH) : (s.setPr d x h).stat = s.stat := rfl
@[simp] theorem State.setPr_pulses (s : State) (d x : Nat) (h : PairH) : (s.setPr d x h).pulses = s.pulses := rfl
@[simp] theorem State.setPr_irq (s : State) (d x : Nat) (h : PairH) : (s.setPr d x h).irq = s.irq := rfl
@[simp] theorem State.setPr_freeCtr (s : State) (d x : Nat) (h : PairH) : (s.setPr d x h).freeCtr = s.freeCtr := rfl
@[simp] theorem State.setPr_out (s : State) (d x : Nat) (h : PairH) : (s.setPr d x h).out = s.out := rfl
@[simp] theorem State.setPr_evl (s : State) (d x : Nat) (h : PairH) : (s.setPr d x h).evl = s.evl := rfl
@[simp] theorem State.setPr_violUnread (s : State) (d x : Nat) (h : PairH) : (s.setPr d x h).violUnread = s.violUnread := rfl
@[simp] theorem State.setPr_que (s : State) (d x : Nat) (h : PairH) : (s.setPr d x h).que = s.que := rfl
@[simp] theorem State.setPr_jrm (s : State) (d x : Nat) (h : PairH) : (s.setPr d x h).jrm = s.jrm := rfl
@[simp] theorem State.setPr_pm (s : State) (d x : Nat) (h : PairH) : (s.setPr d x h).pm = s.pm := rfl
@[simp] theorem State.setPr_lin (s : State) (d x : Nat) (h : PairH) : (s.setPr d x h).lin = s.lin := rfl
@[simp] theorem State.setPr_frm (s : State) (d x : Nat) (h : PairH) : (s.setPr d x h).frm = s.frm := rfl
@[simp] theorem State.setPr_map (s : State) (d x : Nat) (h : PairH) : (s.setPr d x h).map = s.map := rfl
@[simp] theorem State.setPr_plz (s : State) (d x : Nat) (h : PairH) : (s.setPr d x h).plz = s.plz := rfl
@[simp] theorem State.setPr_pins (s : State) (d x : Nat) (h : PairH) : (s.setPr d x h).pins = s.pins := rfl
@[simp] theorem State.setPr_oap (s : State) (d x : Nat) (h : PairH) : (s.setPr d x h).oap = s.oap := rfl
@[simp] theorem State.setPr_arc (s : State) (d x : Nat) (h : PairH) : (s.setPr d x h).arc = s.arc := rfl
@[simp] theorem State.setPr_cvu (s : State) (d x : Nat) (h : PairH) : (s.setPr d x h).cvu = s.cvu := rfl
@[simp] theorem State.setPr_und (s : State) (d x : Nat) (h : PairH) : (s.setPr d x h).und = s.und := rfl
@[simp] theorem State.setPr_apsEnd (s : State) (d x : Nat) (h : PairH) : (s.setPr d x h).apsEnd = s.apsEnd := rfl
@[simp] theorem State.setPr_red (s : State) (d x : Nat) (h : PairH) : (s.setPr d x h).red = s.red := rfl
@[simp] theorem State.setPr_tim (s : State) (d x : Nat) (h : PairH) : (s.setPr d x h).tim = s.tim := rfl
@[simp] theorem State.setPr_sysg (s : State) (d x : Nat) (h : PairH) : (s.setPr d x h).sysg = s.sysg := rfl
@[simp] theorem State.setPr_ave (s : State) (d x : Nat) (h : PairH) : (s.setPr d x h).ave = s.ave := rfl
@[simp] theorem State.setPr_hcq (s : State) (d x : Nat) (h : PairH) : (s.setPr d x h).hcq = s.hcq := rfl
@[simp] theorem State.setPr_mnt (s : State) (d x : Nat) (h : PairH) : (s.setPr d x h).mnt = s.mnt := rfl
@[simp] theorem State.setPr_pwr (s : State) (d x : Nat) (h : PairH) : (s.setPr d x h).pwr = s.pwr := rfl
@[simp] theorem State.setPr_pending (s : State) (d x : Nat) (h : PairH) : (s.setPr d x h).pending = s.pending := rfl

@[simp] theorem State.setMv_dts (s : State) (m : Nat) (h : MoveH) : (s.setMv m h).dts = s.dts := rfl
@[simp] theorem State.setMv_regs (s : State) (m : Nat) (h : MoveH) : (s.setMv m h).regs = s.regs := rfl
@[simp] theorem State.setMv_ctrs (s : State) (m : Nat) (h : MoveH) : (s.setMv m h).ctrs = s.ctrs := rfl
@[simp] theorem State.setMv_stat (s : State) (m : Nat) (h : MoveH) : (s.setMv m h).stat = s.stat := rfl
@[simp] theorem State.setMv_pulses (s : State) (m : Nat) (h : MoveH) : (s.setMv m h).pulses = s.pulses := rfl
@[simp] theorem State.setMv_irq (s : State) (m : Nat) (h : MoveH) : (s.setMv m h).irq = s.irq := rfl
@[simp] theorem State.setMv_freeCtr (s : State) (m : Nat) (h : MoveH) : (s.setMv m h).freeCtr = s.freeCtr := rfl
@[simp] theorem State.setMv_out (s : State) (m : Nat) (h : MoveH) : (s.setMv m h).out = s.out := rfl
@[simp] theorem State.setMv_evl (s : State) (m : Nat) (h : MoveH) : (s.setMv m h).evl = s.evl := rfl
@[simp] theorem State.setMv_violUnread (s : State) (m : Nat) (h : MoveH) : (s.setMv m h).violUnread = s.violUnread := rfl
@[simp] theorem State.setMv_que (s : State) (m : Nat) (h : MoveH) : (s.setMv m h).que = s.que := rfl
@[simp] theorem State.setMv_jrm (s : State) (m : Nat) (h : MoveH) : (s.setMv m h).jrm = s.jrm := rfl
@[simp] theorem State.setMv_pm (s : State) (m : Nat) (h : MoveH) : (s.setMv m h).pm = s.pm := rfl
@[simp] theorem State.setMv_lin (s : State) (m : Nat) (h : MoveH) : (s.setMv m h).lin = s.lin := rfl
@[simp] theorem State.setMv_frm (s : State) (m : Nat) (h : MoveH) : (s.setMv m h).frm = s.frm := rfl
@[simp] theorem State.setMv_map (s : State) (m : Nat) (h : MoveH) : (s.setMv m h).map = s.map := rfl
@[simp] theorem State.setMv_pins (s : State) (m : Nat) (h : MoveH) : (s.setMv m h).pins = s.pins := rfl
@[simp] theorem State.setMv_oap (s : State) (m : Nat) (h : MoveH) : (s.setMv m h).oap = s.oap := rfl
@[simp] theorem State.setMv_arc (s : State) (m : Nat) (h : MoveH) : (s.setMv m h).arc = s.arc := rfl
@[simp] theorem State.setMv_cvu (s : State) (m : Nat) (h : MoveH) : (s.setMv m h).cvu = s.cvu := rfl
@[simp] theorem State.setMv_und (s : State) (m : Nat) (h : MoveH) : (s.setMv m h).und = s.und := rfl
@[simp] theorem State.setMv_pair (s : State) (m : Nat) (h : MoveH) : (s.setMv m h).pair = s.pair := rfl
@[simp] theorem State.setMv_apsEnd (s : State) (m : Nat) (h : MoveH) : (s.setMv m h).apsEnd = s.apsEnd := rfl
@[simp] theorem State.setMv_red (s : State) (m : Nat) (h : MoveH) : (s.setMv m h).red = s.red := rfl
@[simp] theorem State.setMv_tim (s : State) (m : Nat) (h : MoveH) : (s.setMv m h).tim = s.tim := rfl
@[simp] theorem State.setMv_sysg (s : State) (m : Nat) (h : MoveH) : (s.setMv m h).sysg = s.sysg := rfl
@[simp] theorem State.setMv_ave (s : State) (m : Nat) (h : MoveH) : (s.setMv m h).ave = s.ave := rfl
@[simp] theorem State.setMv_hcq (s : State) (m : Nat) (h : MoveH) : (s.setMv m h).hcq = s.hcq := rfl
@[simp] theorem State.setMv_mnt (s : State) (m : Nat) (h : MoveH) : (s.setMv m h).mnt = s.mnt := rfl
@[simp] theorem State.setMv_pwr (s : State) (m : Nat) (h : MoveH) : (s.setMv m h).pwr = s.pwr := rfl
@[simp] theorem State.setMv_pending (s : State) (m : Nat) (h : MoveH) : (s.setMv m h).pending = s.pending := rfl

@[simp] theorem State.setAv_dts (s : State) (a : Nat) (h : AveH) : (s.setAv a h).dts = s.dts := rfl
@[simp] theorem State.setAv_regs (s : State) (a : Nat) (h : AveH) : (s.setAv a h).regs = s.regs := rfl
@[simp] theorem State.setAv_ctrs (s : State) (a : Nat) (h : AveH) : (s.setAv a h).ctrs = s.ctrs := rfl
@[simp] theorem State.setAv_stat (s : State) (a : Nat) (h : AveH) : (s.setAv a h).stat = s.stat := rfl
@[simp] theorem State.setAv_pulses (s : State) (a : Nat) (h : AveH) : (s.setAv a h).pulses = s.pulses := rfl
@[simp] theorem State.setAv_irq (s : State) (a : Nat) (h : AveH) : (s.setAv a h).irq = s.irq := rfl
@[simp] theorem State.setAv_freeCtr (s : State) (a : Nat) (h : AveH) : (s.setAv a h).freeCtr = s.freeCtr := rfl
@[simp] theorem State.setAv_out (s : State) (a : Nat) (h : AveH) : (s.setAv a h).out = s.out := rfl
@[simp] theorem State.setAv_evl (s : State) (a : Nat) (h : AveH) : (s.setAv a h).evl = s.evl := rfl
@[simp] theorem State.setAv_violUnread (s : State) (a : Nat) (h : AveH) : (s.setAv a h).violUnread = s.violUnread := rfl
@[simp] theorem State.setAv_que (s : State) (a : Nat) (h : AveH) : (s.setAv a h).que = s.que := rfl
@[simp] theorem State.setAv_jrm (s : State) (a : Nat) (h : AveH) : (s.setAv a h).jrm = s.jrm := rfl
@[simp] theorem State.setAv_pm (s : State) (a : Nat) (h : AveH) : (s.setAv a h).pm = s.pm := rfl
@[simp] theorem State.setAv_lin (s : State) (a : Nat) (h : AveH) : (s.setAv a h).lin = s.lin := rfl
@[simp] theorem State.setAv_frm (s : State) (a : Nat) (h : AveH) : (s.setAv a h).frm = s.frm := rfl
@[simp] theorem State.setAv_map (s : State) (a : Nat) (h : AveH) : (s.setAv a h).map = s.map := rfl
@[simp] theorem State.setAv_plz (s : State) (a : Nat) (h : AveH) : (s.setAv a h).plz = s.plz := rfl
@[simp] theorem State.setAv_pins (s : State) (a : Nat) (h : AveH) : (s.setAv a h).pins = s.pins := rfl
@[simp] theorem State.setAv_oap (s : State) (a : Nat) (h : AveH) : (s.setAv a h).oap = s.oap := rfl
@[simp] theorem State.setAv_arc (s : State) (a : Nat) (h : AveH) : (s.setAv a h).arc = s.arc := rfl
@[simp] theorem State.setAv_cvu (s : State) (a : Nat) (h : AveH) : (s.setAv a h).cvu = s.cvu := rfl
@[simp] theorem State.setAv_und (s : State) (a : Nat) (h : AveH) : (s.setAv a h).und = s.und := rfl
@[simp] theorem State.setAv_pair (s : State) (a : Nat) (h : AveH) : (s.setAv a h).pair = s.pair := rfl
@[simp] theorem State.setAv_apsEnd (s : State) (a : Nat) (h : AveH) : (s.setAv a h).apsEnd = s.apsEnd := rfl
@[simp] theorem State.setAv_red (s : State) (a : Nat) (h : AveH) : (s.setAv a h).red = s.red := rfl
@[simp] theorem State.setAv_tim (s : State) (a : Nat) (h : AveH) : (s.setAv a h).tim = s.tim := rfl
@[simp] theorem State.setAv_sysg (s : State) (a : Nat) (h : AveH) : (s.setAv a h).sysg = s.sysg := rfl
@[simp] theorem State.setAv_hcq (s : State) (a : Nat) (h : AveH) : (s.setAv a h).hcq = s.hcq := rfl
@[simp] theorem State.setAv_mnt (s : State) (a : Nat) (h : AveH) : (s.setAv a h).mnt = s.mnt := rfl
@[simp] theorem State.setAv_pwr (s : State) (a : Nat) (h : AveH) : (s.setAv a h).pwr = s.pwr := rfl
@[simp] theorem State.setAv_pending (s : State) (a : Nat) (h : AveH) : (s.setAv a h).pending = s.pending := rfl

@[simp] theorem State.setPage_dts (s : State) (p : Nat) (h : PageH) : (s.setPage p h).dts = s.dts := rfl
@[simp] theorem State.setPage_regs (s : State) (p : Nat) (h : PageH) : (s.setPage p h).regs = s.regs := rfl
@[simp] theorem State.setPage_ctrs (s : State) (p : Nat) (h : PageH) : (s.setPage p h).ctrs = s.ctrs := rfl
@[simp] theorem State.setPage_stat (s : State) (p : Nat) (h : PageH) : (s.setPage p h).stat = s.stat := rfl
@[simp] theorem State.setPage_pulses (s : State) (p : Nat) (h : PageH) : (s.setPage p h).pulses = s.pulses := rfl
@[simp] theorem State.setPage_irq (s : State) (p : Nat) (h : PageH) : (s.setPage p h).irq = s.irq := rfl
@[simp] theorem State.setPage_freeCtr (s : State) (p : Nat) (h : PageH) : (s.setPage p h).freeCtr = s.freeCtr := rfl
@[simp] theorem State.setPage_out (s : State) (p : Nat) (h : PageH) : (s.setPage p h).out = s.out := rfl
@[simp] theorem State.setPage_evl (s : State) (p : Nat) (h : PageH) : (s.setPage p h).evl = s.evl := rfl
@[simp] theorem State.setPage_violUnread (s : State) (p : Nat) (h : PageH) : (s.setPage p h).violUnread = s.violUnread := rfl
@[simp] theorem State.setPage_que (s : State) (p : Nat) (h : PageH) : (s.setPage p h).que = s.que := rfl
@[simp] theorem State.setPage_jrm (s : State) (p : Nat) (h : PageH) : (s.setPage p h).jrm = s.jrm := rfl
@[simp] theorem State.setPage_pm (s : State) (p : Nat) (h : PageH) : (s.setPage p h).pm = s.pm := rfl
@[simp] theorem State.setPage_lin (s : State) (p : Nat) (h : PageH) : (s.setPage p h).lin = s.lin := rfl
@[simp] theorem State.setPage_frm (s : State) (p : Nat) (h : PageH) : (s.setPage p h).frm = s.frm := rfl
@[simp] theorem State.setPage_map (s : State) (p : Nat) (h : PageH) : (s.setPage p h).map = s.map := rfl
@[simp] theorem State.setPage_plz (s : State) (p : Nat) (h : PageH) : (s.setPage p h).plz = s.plz := rfl
@[simp] theorem State.setPage_pins (s : State) (p : Nat) (h : PageH) : (s.setPage p h).pins = s.pins := rfl
@[simp] theorem State.setPage_oap (s : State) (p : Nat) (h : PageH) : (s.setPage p h).oap = s.oap := rfl
@[simp] theorem State.setPage_arc (s : State) (p : Nat) (h : PageH) : (s.setPage p h).arc = s.arc := rfl
@[simp] theorem State.setPage_cvu (s : State) (p : Nat) (h : PageH) : (s.setPage p h).cvu = s.cvu := rfl
@[simp] theorem State.setPage_pair (s : State) (p : Nat) (h : PageH) : (s.setPage p h).pair = s.pair := rfl
@[simp] theorem State.setPage_apsEnd (s : State) (p : Nat) (h : PageH) : (s.setPage p h).apsEnd = s.apsEnd := rfl
@[simp] theorem State.setPage_red (s : State) (p : Nat) (h : PageH) : (s.setPage p h).red = s.red := rfl
@[simp] theorem State.setPage_tim (s : State) (p : Nat) (h : PageH) : (s.setPage p h).tim = s.tim := rfl
@[simp] theorem State.setPage_sysg (s : State) (p : Nat) (h : PageH) : (s.setPage p h).sysg = s.sysg := rfl
@[simp] theorem State.setPage_ave (s : State) (p : Nat) (h : PageH) : (s.setPage p h).ave = s.ave := rfl
@[simp] theorem State.setPage_hcq (s : State) (p : Nat) (h : PageH) : (s.setPage p h).hcq = s.hcq := rfl
@[simp] theorem State.setPage_mnt (s : State) (p : Nat) (h : PageH) : (s.setPage p h).mnt = s.mnt := rfl
@[simp] theorem State.setPage_pwr (s : State) (p : Nat) (h : PageH) : (s.setPage p h).pwr = s.pwr := rfl
@[simp] theorem State.setPage_pending (s : State) (p : Nat) (h : PageH) : (s.setPage p h).pending = s.pending := rfl

@[simp] theorem State.setRsv_dts (s : State) (r k : Nat) (h : RsvH) : (s.setRsv r k h).dts = s.dts := rfl
@[simp] theorem State.setRsv_regs (s : State) (r k : Nat) (h : RsvH) : (s.setRsv r k h).regs = s.regs := rfl
@[simp] theorem State.setRsv_ctrs (s : State) (r k : Nat) (h : RsvH) : (s.setRsv r k h).ctrs = s.ctrs := rfl
@[simp] theorem State.setRsv_stat (s : State) (r k : Nat) (h : RsvH) : (s.setRsv r k h).stat = s.stat := rfl
@[simp] theorem State.setRsv_pulses (s : State) (r k : Nat) (h : RsvH) : (s.setRsv r k h).pulses = s.pulses := rfl
@[simp] theorem State.setRsv_irq (s : State) (r k : Nat) (h : RsvH) : (s.setRsv r k h).irq = s.irq := rfl
@[simp] theorem State.setRsv_freeCtr (s : State) (r k : Nat) (h : RsvH) : (s.setRsv r k h).freeCtr = s.freeCtr := rfl
@[simp] theorem State.setRsv_out (s : State) (r k : Nat) (h : RsvH) : (s.setRsv r k h).out = s.out := rfl
@[simp] theorem State.setRsv_evl (s : State) (r k : Nat) (h : RsvH) : (s.setRsv r k h).evl = s.evl := rfl
@[simp] theorem State.setRsv_violUnread (s : State) (r k : Nat) (h : RsvH) : (s.setRsv r k h).violUnread = s.violUnread := rfl
@[simp] theorem State.setRsv_que (s : State) (r k : Nat) (h : RsvH) : (s.setRsv r k h).que = s.que := rfl
@[simp] theorem State.setRsv_jrm (s : State) (r k : Nat) (h : RsvH) : (s.setRsv r k h).jrm = s.jrm := rfl
@[simp] theorem State.setRsv_pm (s : State) (r k : Nat) (h : RsvH) : (s.setRsv r k h).pm = s.pm := rfl
@[simp] theorem State.setRsv_lin (s : State) (r k : Nat) (h : RsvH) : (s.setRsv r k h).lin = s.lin := rfl
@[simp] theorem State.setRsv_frm (s : State) (r k : Nat) (h : RsvH) : (s.setRsv r k h).frm = s.frm := rfl
@[simp] theorem State.setRsv_map (s : State) (r k : Nat) (h : RsvH) : (s.setRsv r k h).map = s.map := rfl
@[simp] theorem State.setRsv_plz (s : State) (r k : Nat) (h : RsvH) : (s.setRsv r k h).plz = s.plz := rfl
@[simp] theorem State.setRsv_pins (s : State) (r k : Nat) (h : RsvH) : (s.setRsv r k h).pins = s.pins := rfl
@[simp] theorem State.setRsv_oap (s : State) (r k : Nat) (h : RsvH) : (s.setRsv r k h).oap = s.oap := rfl
@[simp] theorem State.setRsv_arc (s : State) (r k : Nat) (h : RsvH) : (s.setRsv r k h).arc = s.arc := rfl
@[simp] theorem State.setRsv_cvu (s : State) (r k : Nat) (h : RsvH) : (s.setRsv r k h).cvu = s.cvu := rfl
@[simp] theorem State.setRsv_pair (s : State) (r k : Nat) (h : RsvH) : (s.setRsv r k h).pair = s.pair := rfl
@[simp] theorem State.setRsv_apsEnd (s : State) (r k : Nat) (h : RsvH) : (s.setRsv r k h).apsEnd = s.apsEnd := rfl
@[simp] theorem State.setRsv_red (s : State) (r k : Nat) (h : RsvH) : (s.setRsv r k h).red = s.red := rfl
@[simp] theorem State.setRsv_tim (s : State) (r k : Nat) (h : RsvH) : (s.setRsv r k h).tim = s.tim := rfl
@[simp] theorem State.setRsv_sysg (s : State) (r k : Nat) (h : RsvH) : (s.setRsv r k h).sysg = s.sysg := rfl
@[simp] theorem State.setRsv_ave (s : State) (r k : Nat) (h : RsvH) : (s.setRsv r k h).ave = s.ave := rfl
@[simp] theorem State.setRsv_hcq (s : State) (r k : Nat) (h : RsvH) : (s.setRsv r k h).hcq = s.hcq := rfl
@[simp] theorem State.setRsv_mnt (s : State) (r k : Nat) (h : RsvH) : (s.setRsv r k h).mnt = s.mnt := rfl
@[simp] theorem State.setRsv_pwr (s : State) (r k : Nat) (h : RsvH) : (s.setRsv r k h).pwr = s.pwr := rfl
@[simp] theorem State.setRsv_pending (s : State) (r k : Nat) (h : RsvH) : (s.setRsv r k h).pending = s.pending := rfl

@[simp] theorem State.setStore_dts (s : State) (sl : Nat) (h : StoreH) : (s.setStore sl h).dts = s.dts := rfl
@[simp] theorem State.setStore_regs (s : State) (sl : Nat) (h : StoreH) : (s.setStore sl h).regs = s.regs := rfl
@[simp] theorem State.setStore_ctrs (s : State) (sl : Nat) (h : StoreH) : (s.setStore sl h).ctrs = s.ctrs := rfl
@[simp] theorem State.setStore_stat (s : State) (sl : Nat) (h : StoreH) : (s.setStore sl h).stat = s.stat := rfl
@[simp] theorem State.setStore_pulses (s : State) (sl : Nat) (h : StoreH) : (s.setStore sl h).pulses = s.pulses := rfl
@[simp] theorem State.setStore_irq (s : State) (sl : Nat) (h : StoreH) : (s.setStore sl h).irq = s.irq := rfl
@[simp] theorem State.setStore_freeCtr (s : State) (sl : Nat) (h : StoreH) : (s.setStore sl h).freeCtr = s.freeCtr := rfl
@[simp] theorem State.setStore_out (s : State) (sl : Nat) (h : StoreH) : (s.setStore sl h).out = s.out := rfl
@[simp] theorem State.setStore_evl (s : State) (sl : Nat) (h : StoreH) : (s.setStore sl h).evl = s.evl := rfl
@[simp] theorem State.setStore_violUnread (s : State) (sl : Nat) (h : StoreH) : (s.setStore sl h).violUnread = s.violUnread := rfl
@[simp] theorem State.setStore_que (s : State) (sl : Nat) (h : StoreH) : (s.setStore sl h).que = s.que := rfl
@[simp] theorem State.setStore_jrm (s : State) (sl : Nat) (h : StoreH) : (s.setStore sl h).jrm = s.jrm := rfl
@[simp] theorem State.setStore_pm (s : State) (sl : Nat) (h : StoreH) : (s.setStore sl h).pm = s.pm := rfl
@[simp] theorem State.setStore_lin (s : State) (sl : Nat) (h : StoreH) : (s.setStore sl h).lin = s.lin := rfl
@[simp] theorem State.setStore_frm (s : State) (sl : Nat) (h : StoreH) : (s.setStore sl h).frm = s.frm := rfl
@[simp] theorem State.setStore_map (s : State) (sl : Nat) (h : StoreH) : (s.setStore sl h).map = s.map := rfl
@[simp] theorem State.setStore_plz (s : State) (sl : Nat) (h : StoreH) : (s.setStore sl h).plz = s.plz := rfl
@[simp] theorem State.setStore_pins (s : State) (sl : Nat) (h : StoreH) : (s.setStore sl h).pins = s.pins := rfl
@[simp] theorem State.setStore_oap (s : State) (sl : Nat) (h : StoreH) : (s.setStore sl h).oap = s.oap := rfl
@[simp] theorem State.setStore_arc (s : State) (sl : Nat) (h : StoreH) : (s.setStore sl h).arc = s.arc := rfl
@[simp] theorem State.setStore_cvu (s : State) (sl : Nat) (h : StoreH) : (s.setStore sl h).cvu = s.cvu := rfl
@[simp] theorem State.setStore_und (s : State) (sl : Nat) (h : StoreH) : (s.setStore sl h).und = s.und := rfl
@[simp] theorem State.setStore_pair (s : State) (sl : Nat) (h : StoreH) : (s.setStore sl h).pair = s.pair := rfl
@[simp] theorem State.setStore_apsEnd (s : State) (sl : Nat) (h : StoreH) : (s.setStore sl h).apsEnd = s.apsEnd := rfl
@[simp] theorem State.setStore_red (s : State) (sl : Nat) (h : StoreH) : (s.setStore sl h).red = s.red := rfl
@[simp] theorem State.setStore_tim (s : State) (sl : Nat) (h : StoreH) : (s.setStore sl h).tim = s.tim := rfl
@[simp] theorem State.setStore_sysg (s : State) (sl : Nat) (h : StoreH) : (s.setStore sl h).sysg = s.sysg := rfl
@[simp] theorem State.setStore_hcq (s : State) (sl : Nat) (h : StoreH) : (s.setStore sl h).hcq = s.hcq := rfl
@[simp] theorem State.setStore_mnt (s : State) (sl : Nat) (h : StoreH) : (s.setStore sl h).mnt = s.mnt := rfl
@[simp] theorem State.setStore_pwr (s : State) (sl : Nat) (h : StoreH) : (s.setStore sl h).pwr = s.pwr := rfl
@[simp] theorem State.setStore_pending (s : State) (sl : Nat) (h : StoreH) : (s.setStore sl h).pending = s.pending := rfl

@[simp] theorem State.setCur_dts (s : State) (e : Nat) (c : Option Nat) : (s.setCur e c).dts = s.dts := rfl
@[simp] theorem State.setCur_regs (s : State) (e : Nat) (c : Option Nat) : (s.setCur e c).regs = s.regs := rfl
@[simp] theorem State.setCur_ctrs (s : State) (e : Nat) (c : Option Nat) : (s.setCur e c).ctrs = s.ctrs := rfl
@[simp] theorem State.setCur_stat (s : State) (e : Nat) (c : Option Nat) : (s.setCur e c).stat = s.stat := rfl
@[simp] theorem State.setCur_pulses (s : State) (e : Nat) (c : Option Nat) : (s.setCur e c).pulses = s.pulses := rfl
@[simp] theorem State.setCur_irq (s : State) (e : Nat) (c : Option Nat) : (s.setCur e c).irq = s.irq := rfl
@[simp] theorem State.setCur_freeCtr (s : State) (e : Nat) (c : Option Nat) : (s.setCur e c).freeCtr = s.freeCtr := rfl
@[simp] theorem State.setCur_out (s : State) (e : Nat) (c : Option Nat) : (s.setCur e c).out = s.out := rfl
@[simp] theorem State.setCur_evl (s : State) (e : Nat) (c : Option Nat) : (s.setCur e c).evl = s.evl := rfl
@[simp] theorem State.setCur_violUnread (s : State) (e : Nat) (c : Option Nat) : (s.setCur e c).violUnread = s.violUnread := rfl
@[simp] theorem State.setCur_que (s : State) (e : Nat) (c : Option Nat) : (s.setCur e c).que = s.que := rfl
@[simp] theorem State.setCur_pm (s : State) (e : Nat) (c : Option Nat) : (s.setCur e c).pm = s.pm := rfl
@[simp] theorem State.setCur_lin (s : State) (e : Nat) (c : Option Nat) : (s.setCur e c).lin = s.lin := rfl
@[simp] theorem State.setCur_frm (s : State) (e : Nat) (c : Option Nat) : (s.setCur e c).frm = s.frm := rfl
@[simp] theorem State.setCur_map (s : State) (e : Nat) (c : Option Nat) : (s.setCur e c).map = s.map := rfl
@[simp] theorem State.setCur_plz (s : State) (e : Nat) (c : Option Nat) : (s.setCur e c).plz = s.plz := rfl
@[simp] theorem State.setCur_pins (s : State) (e : Nat) (c : Option Nat) : (s.setCur e c).pins = s.pins := rfl
@[simp] theorem State.setCur_oap (s : State) (e : Nat) (c : Option Nat) : (s.setCur e c).oap = s.oap := rfl
@[simp] theorem State.setCur_arc (s : State) (e : Nat) (c : Option Nat) : (s.setCur e c).arc = s.arc := rfl
@[simp] theorem State.setCur_cvu (s : State) (e : Nat) (c : Option Nat) : (s.setCur e c).cvu = s.cvu := rfl
@[simp] theorem State.setCur_und (s : State) (e : Nat) (c : Option Nat) : (s.setCur e c).und = s.und := rfl
@[simp] theorem State.setCur_pair (s : State) (e : Nat) (c : Option Nat) : (s.setCur e c).pair = s.pair := rfl
@[simp] theorem State.setCur_apsEnd (s : State) (e : Nat) (c : Option Nat) : (s.setCur e c).apsEnd = s.apsEnd := rfl
@[simp] theorem State.setCur_red (s : State) (e : Nat) (c : Option Nat) : (s.setCur e c).red = s.red := rfl
@[simp] theorem State.setCur_tim (s : State) (e : Nat) (c : Option Nat) : (s.setCur e c).tim = s.tim := rfl
@[simp] theorem State.setCur_sysg (s : State) (e : Nat) (c : Option Nat) : (s.setCur e c).sysg = s.sysg := rfl
@[simp] theorem State.setCur_ave (s : State) (e : Nat) (c : Option Nat) : (s.setCur e c).ave = s.ave := rfl
@[simp] theorem State.setCur_hcq (s : State) (e : Nat) (c : Option Nat) : (s.setCur e c).hcq = s.hcq := rfl
@[simp] theorem State.setCur_mnt (s : State) (e : Nat) (c : Option Nat) : (s.setCur e c).mnt = s.mnt := rfl
@[simp] theorem State.setCur_pwr (s : State) (e : Nat) (c : Option Nat) : (s.setCur e c).pwr = s.pwr := rfl
@[simp] theorem State.setCur_pending (s : State) (e : Nat) (c : Option Nat) : (s.setCur e c).pending = s.pending := rfl

@[simp] theorem State.setPar_dts (s : State) (k : Nat) (l : List Byte) : (s.setPar k l).dts = s.dts := rfl
@[simp] theorem State.setPar_regs (s : State) (k : Nat) (l : List Byte) : (s.setPar k l).regs = s.regs := rfl
@[simp] theorem State.setPar_ctrs (s : State) (k : Nat) (l : List Byte) : (s.setPar k l).ctrs = s.ctrs := rfl
@[simp] theorem State.setPar_stat (s : State) (k : Nat) (l : List Byte) : (s.setPar k l).stat = s.stat := rfl
@[simp] theorem State.setPar_pulses (s : State) (k : Nat) (l : List Byte) : (s.setPar k l).pulses = s.pulses := rfl
@[simp] theorem State.setPar_irq (s : State) (k : Nat) (l : List Byte) : (s.setPar k l).irq = s.irq := rfl
@[simp] theorem State.setPar_freeCtr (s : State) (k : Nat) (l : List Byte) : (s.setPar k l).freeCtr = s.freeCtr := rfl
@[simp] theorem State.setPar_out (s : State) (k : Nat) (l : List Byte) : (s.setPar k l).out = s.out := rfl
@[simp] theorem State.setPar_evl (s : State) (k : Nat) (l : List Byte) : (s.setPar k l).evl = s.evl := rfl
@[simp] theorem State.setPar_violUnread (s : State) (k : Nat) (l : List Byte) : (s.setPar k l).violUnread = s.violUnread := rfl
@[simp] theorem State.setPar_que (s : State) (k : Nat) (l : List Byte) : (s.setPar k l).que = s.que := rfl
@[simp] theorem State.setPar_jrm (s : State) (k : Nat) (l : List Byte) : (s.setPar k l).jrm = s.jrm := rfl
@[simp] theorem State.setPar_pm (s : State) (k : Nat) (l : List Byte) : (s.setPar k l).pm = s.pm := rfl
@[simp] theorem State.setPar_lin (s : State) (k : Nat) (l : List Byte) : (s.setPar k l).lin = s.lin := rfl
@[simp] theorem State.setPar_map (s : State) (k : Nat) (l : List Byte) : (s.setPar k l).map = s.map := rfl
@[simp] theorem State.setPar_plz (s : State) (k : Nat) (l : List Byte) : (s.setPar k l).plz = s.plz := rfl
@[simp] theorem State.setPar_pins (s : State) (k : Nat) (l : List Byte) : (s.setPar k l).pins = s.pins := rfl
@[simp] theorem State.setPar_oap (s : State) (k : Nat) (l : List Byte) : (s.setPar k l).oap = s.oap := rfl
@[simp] theorem State.setPar_arc (s : State) (k : Nat) (l : List Byte) : (s.setPar k l).arc = s.arc := rfl
@[simp] theorem State.setPar_cvu (s : State) (k : Nat) (l : List Byte) : (s.setPar k l).cvu = s.cvu := rfl
@[simp] theorem State.setPar_und (s : State) (k : Nat) (l : List Byte) : (s.setPar k l).und = s.und := rfl
@[simp] theorem State.setPar_pair (s : State) (k : Nat) (l : List Byte) : (s.setPar k l).pair = s.pair := rfl
@[simp] theorem State.setPar_apsEnd (s : State) (k : Nat) (l : List Byte) : (s.setPar k l).apsEnd = s.apsEnd := rfl
@[simp] theorem State.setPar_red (s : State) (k : Nat) (l : List Byte) : (s.setPar k l).red = s.red := rfl
@[simp] theorem State.setPar_tim (s : State) (k : Nat) (l : List Byte) : (s.setPar k l).tim = s.tim := rfl
@[simp] theorem State.setPar_sysg (s : State) (k : Nat) (l : List Byte) : (s.setPar k l).sysg = s.sysg := rfl
@[simp] theorem State.setPar_ave (s : State) (k : Nat) (l : List Byte) : (s.setPar k l).ave = s.ave := rfl
@[simp] theorem State.setPar_hcq (s : State) (k : Nat) (l : List Byte) : (s.setPar k l).hcq = s.hcq := rfl
@[simp] theorem State.setPar_mnt (s : State) (k : Nat) (l : List Byte) : (s.setPar k l).mnt = s.mnt := rfl
@[simp] theorem State.setPar_pwr (s : State) (k : Nat) (l : List Byte) : (s.setPar k l).pwr = s.pwr := rfl
@[simp] theorem State.setPar_pending (s : State) (k : Nat) (l : List Byte) : (s.setPar k l).pending = s.pending := rfl

@[simp] theorem State.setRx_dts (s : State) (k t : Nat) (oh : List Byte) : (s.setRx k t oh).dts = s.dts := rfl
@[simp] theorem State.setRx_regs (s : State) (k t : Nat) (oh : List Byte) : (s.setRx k t oh).regs = s.regs := rfl
@[simp] theorem State.setRx_ctrs (s : State) (k t : Nat) (oh : List Byte) : (s.setRx k t oh).ctrs = s.ctrs := rfl
@[simp] theorem State.setRx_stat (s : State) (k t : Nat) (oh : List Byte) : (s.setRx k t oh).stat = s.stat := rfl
@[simp] theorem State.setRx_pulses (s : State) (k t : Nat) (oh : List Byte) : (s.setRx k t oh).pulses = s.pulses := rfl
@[simp] theorem State.setRx_irq (s : State) (k t : Nat) (oh : List Byte) : (s.setRx k t oh).irq = s.irq := rfl
@[simp] theorem State.setRx_freeCtr (s : State) (k t : Nat) (oh : List Byte) : (s.setRx k t oh).freeCtr = s.freeCtr := rfl
@[simp] theorem State.setRx_out (s : State) (k t : Nat) (oh : List Byte) : (s.setRx k t oh).out = s.out := rfl
@[simp] theorem State.setRx_evl (s : State) (k t : Nat) (oh : List Byte) : (s.setRx k t oh).evl = s.evl := rfl
@[simp] theorem State.setRx_violUnread (s : State) (k t : Nat) (oh : List Byte) : (s.setRx k t oh).violUnread = s.violUnread := rfl
@[simp] theorem State.setRx_que (s : State) (k t : Nat) (oh : List Byte) : (s.setRx k t oh).que = s.que := rfl
@[simp] theorem State.setRx_jrm (s : State) (k t : Nat) (oh : List Byte) : (s.setRx k t oh).jrm = s.jrm := rfl
@[simp] theorem State.setRx_pm (s : State) (k t : Nat) (oh : List Byte) : (s.setRx k t oh).pm = s.pm := rfl
@[simp] theorem State.setRx_lin (s : State) (k t : Nat) (oh : List Byte) : (s.setRx k t oh).lin = s.lin := rfl
@[simp] theorem State.setRx_map (s : State) (k t : Nat) (oh : List Byte) : (s.setRx k t oh).map = s.map := rfl
@[simp] theorem State.setRx_plz (s : State) (k t : Nat) (oh : List Byte) : (s.setRx k t oh).plz = s.plz := rfl
@[simp] theorem State.setRx_pins (s : State) (k t : Nat) (oh : List Byte) : (s.setRx k t oh).pins = s.pins := rfl
@[simp] theorem State.setRx_oap (s : State) (k t : Nat) (oh : List Byte) : (s.setRx k t oh).oap = s.oap := rfl
@[simp] theorem State.setRx_arc (s : State) (k t : Nat) (oh : List Byte) : (s.setRx k t oh).arc = s.arc := rfl
@[simp] theorem State.setRx_cvu (s : State) (k t : Nat) (oh : List Byte) : (s.setRx k t oh).cvu = s.cvu := rfl
@[simp] theorem State.setRx_und (s : State) (k t : Nat) (oh : List Byte) : (s.setRx k t oh).und = s.und := rfl
@[simp] theorem State.setRx_pair (s : State) (k t : Nat) (oh : List Byte) : (s.setRx k t oh).pair = s.pair := rfl
@[simp] theorem State.setRx_apsEnd (s : State) (k t : Nat) (oh : List Byte) : (s.setRx k t oh).apsEnd = s.apsEnd := rfl
@[simp] theorem State.setRx_red (s : State) (k t : Nat) (oh : List Byte) : (s.setRx k t oh).red = s.red := rfl
@[simp] theorem State.setRx_tim (s : State) (k t : Nat) (oh : List Byte) : (s.setRx k t oh).tim = s.tim := rfl
@[simp] theorem State.setRx_sysg (s : State) (k t : Nat) (oh : List Byte) : (s.setRx k t oh).sysg = s.sysg := rfl
@[simp] theorem State.setRx_ave (s : State) (k t : Nat) (oh : List Byte) : (s.setRx k t oh).ave = s.ave := rfl
@[simp] theorem State.setRx_hcq (s : State) (k t : Nat) (oh : List Byte) : (s.setRx k t oh).hcq = s.hcq := rfl
@[simp] theorem State.setRx_mnt (s : State) (k t : Nat) (oh : List Byte) : (s.setRx k t oh).mnt = s.mnt := rfl
@[simp] theorem State.setRx_pwr (s : State) (k t : Nat) (oh : List Byte) : (s.setRx k t oh).pwr = s.pwr := rfl
@[simp] theorem State.setRx_pending (s : State) (k t : Nat) (oh : List Byte) : (s.setRx k t oh).pending = s.pending := rfl

@[simp] theorem State.setFifo_dts (s : State) (side port : Nat) (l : List (Token × List Dest)) : (s.setFifo side port l).dts = s.dts := rfl
@[simp] theorem State.setFifo_regs (s : State) (side port : Nat) (l : List (Token × List Dest)) : (s.setFifo side port l).regs = s.regs := rfl
@[simp] theorem State.setFifo_ctrs (s : State) (side port : Nat) (l : List (Token × List Dest)) : (s.setFifo side port l).ctrs = s.ctrs := rfl
@[simp] theorem State.setFifo_stat (s : State) (side port : Nat) (l : List (Token × List Dest)) : (s.setFifo side port l).stat = s.stat := rfl
@[simp] theorem State.setFifo_pulses (s : State) (side port : Nat) (l : List (Token × List Dest)) : (s.setFifo side port l).pulses = s.pulses := rfl
@[simp] theorem State.setFifo_irq (s : State) (side port : Nat) (l : List (Token × List Dest)) : (s.setFifo side port l).irq = s.irq := rfl
@[simp] theorem State.setFifo_freeCtr (s : State) (side port : Nat) (l : List (Token × List Dest)) : (s.setFifo side port l).freeCtr = s.freeCtr := rfl
@[simp] theorem State.setFifo_out (s : State) (side port : Nat) (l : List (Token × List Dest)) : (s.setFifo side port l).out = s.out := rfl
@[simp] theorem State.setFifo_evl (s : State) (side port : Nat) (l : List (Token × List Dest)) : (s.setFifo side port l).evl = s.evl := rfl
@[simp] theorem State.setFifo_violUnread (s : State) (side port : Nat) (l : List (Token × List Dest)) : (s.setFifo side port l).violUnread = s.violUnread := rfl
@[simp] theorem State.setFifo_que (s : State) (side port : Nat) (l : List (Token × List Dest)) : (s.setFifo side port l).que = s.que := rfl
@[simp] theorem State.setFifo_jrm (s : State) (side port : Nat) (l : List (Token × List Dest)) : (s.setFifo side port l).jrm = s.jrm := rfl
@[simp] theorem State.setFifo_pm (s : State) (side port : Nat) (l : List (Token × List Dest)) : (s.setFifo side port l).pm = s.pm := rfl
@[simp] theorem State.setFifo_lin (s : State) (side port : Nat) (l : List (Token × List Dest)) : (s.setFifo side port l).lin = s.lin := rfl
@[simp] theorem State.setFifo_frm (s : State) (side port : Nat) (l : List (Token × List Dest)) : (s.setFifo side port l).frm = s.frm := rfl
@[simp] theorem State.setFifo_map (s : State) (side port : Nat) (l : List (Token × List Dest)) : (s.setFifo side port l).map = s.map := rfl
@[simp] theorem State.setFifo_plz (s : State) (side port : Nat) (l : List (Token × List Dest)) : (s.setFifo side port l).plz = s.plz := rfl
@[simp] theorem State.setFifo_pins (s : State) (side port : Nat) (l : List (Token × List Dest)) : (s.setFifo side port l).pins = s.pins := rfl
@[simp] theorem State.setFifo_oap (s : State) (side port : Nat) (l : List (Token × List Dest)) : (s.setFifo side port l).oap = s.oap := rfl
@[simp] theorem State.setFifo_arc (s : State) (side port : Nat) (l : List (Token × List Dest)) : (s.setFifo side port l).arc = s.arc := rfl
@[simp] theorem State.setFifo_cvu (s : State) (side port : Nat) (l : List (Token × List Dest)) : (s.setFifo side port l).cvu = s.cvu := rfl
@[simp] theorem State.setFifo_und (s : State) (side port : Nat) (l : List (Token × List Dest)) : (s.setFifo side port l).und = s.und := rfl
@[simp] theorem State.setFifo_pair (s : State) (side port : Nat) (l : List (Token × List Dest)) : (s.setFifo side port l).pair = s.pair := rfl
@[simp] theorem State.setFifo_apsEnd (s : State) (side port : Nat) (l : List (Token × List Dest)) : (s.setFifo side port l).apsEnd = s.apsEnd := rfl
@[simp] theorem State.setFifo_red (s : State) (side port : Nat) (l : List (Token × List Dest)) : (s.setFifo side port l).red = s.red := rfl
@[simp] theorem State.setFifo_tim (s : State) (side port : Nat) (l : List (Token × List Dest)) : (s.setFifo side port l).tim = s.tim := rfl
@[simp] theorem State.setFifo_sysg (s : State) (side port : Nat) (l : List (Token × List Dest)) : (s.setFifo side port l).sysg = s.sysg := rfl
@[simp] theorem State.setFifo_hcq (s : State) (side port : Nat) (l : List (Token × List Dest)) : (s.setFifo side port l).hcq = s.hcq := rfl
@[simp] theorem State.setFifo_mnt (s : State) (side port : Nat) (l : List (Token × List Dest)) : (s.setFifo side port l).mnt = s.mnt := rfl
@[simp] theorem State.setFifo_pwr (s : State) (side port : Nat) (l : List (Token × List Dest)) : (s.setFifo side port l).pwr = s.pwr := rfl
@[simp] theorem State.setFifo_pending (s : State) (side port : Nat) (l : List (Token × List Dest)) : (s.setFifo side port l).pending = s.pending := rfl

@[simp] theorem State.setHalf_dts (s : State) (a h : Nat) (x : HalfH) : (s.setHalf a h x).dts = s.dts := rfl
@[simp] theorem State.setHalf_regs (s : State) (a h : Nat) (x : HalfH) : (s.setHalf a h x).regs = s.regs := rfl
@[simp] theorem State.setHalf_ctrs (s : State) (a h : Nat) (x : HalfH) : (s.setHalf a h x).ctrs = s.ctrs := rfl
@[simp] theorem State.setHalf_stat (s : State) (a h : Nat) (x : HalfH) : (s.setHalf a h x).stat = s.stat := rfl
@[simp] theorem State.setHalf_pulses (s : State) (a h : Nat) (x : HalfH) : (s.setHalf a h x).pulses = s.pulses := rfl
@[simp] theorem State.setHalf_irq (s : State) (a h : Nat) (x : HalfH) : (s.setHalf a h x).irq = s.irq := rfl
@[simp] theorem State.setHalf_freeCtr (s : State) (a h : Nat) (x : HalfH) : (s.setHalf a h x).freeCtr = s.freeCtr := rfl
@[simp] theorem State.setHalf_out (s : State) (a h : Nat) (x : HalfH) : (s.setHalf a h x).out = s.out := rfl
@[simp] theorem State.setHalf_evl (s : State) (a h : Nat) (x : HalfH) : (s.setHalf a h x).evl = s.evl := rfl
@[simp] theorem State.setHalf_violUnread (s : State) (a h : Nat) (x : HalfH) : (s.setHalf a h x).violUnread = s.violUnread := rfl
@[simp] theorem State.setHalf_que (s : State) (a h : Nat) (x : HalfH) : (s.setHalf a h x).que = s.que := rfl
@[simp] theorem State.setHalf_jrm (s : State) (a h : Nat) (x : HalfH) : (s.setHalf a h x).jrm = s.jrm := rfl
@[simp] theorem State.setHalf_pm (s : State) (a h : Nat) (x : HalfH) : (s.setHalf a h x).pm = s.pm := rfl
@[simp] theorem State.setHalf_lin (s : State) (a h : Nat) (x : HalfH) : (s.setHalf a h x).lin = s.lin := rfl
@[simp] theorem State.setHalf_frm (s : State) (a h : Nat) (x : HalfH) : (s.setHalf a h x).frm = s.frm := rfl
@[simp] theorem State.setHalf_map (s : State) (a h : Nat) (x : HalfH) : (s.setHalf a h x).map = s.map := rfl
@[simp] theorem State.setHalf_plz (s : State) (a h : Nat) (x : HalfH) : (s.setHalf a h x).plz = s.plz := rfl
@[simp] theorem State.setHalf_pins (s : State) (a h : Nat) (x : HalfH) : (s.setHalf a h x).pins = s.pins := rfl
@[simp] theorem State.setHalf_oap (s : State) (a h : Nat) (x : HalfH) : (s.setHalf a h x).oap = s.oap := rfl
@[simp] theorem State.setHalf_arc (s : State) (a h : Nat) (x : HalfH) : (s.setHalf a h x).arc = s.arc := rfl
@[simp] theorem State.setHalf_cvu (s : State) (a h : Nat) (x : HalfH) : (s.setHalf a h x).cvu = s.cvu := rfl
@[simp] theorem State.setHalf_und (s : State) (a h : Nat) (x : HalfH) : (s.setHalf a h x).und = s.und := rfl
@[simp] theorem State.setHalf_pair (s : State) (a h : Nat) (x : HalfH) : (s.setHalf a h x).pair = s.pair := rfl
@[simp] theorem State.setHalf_apsEnd (s : State) (a h : Nat) (x : HalfH) : (s.setHalf a h x).apsEnd = s.apsEnd := rfl
@[simp] theorem State.setHalf_red (s : State) (a h : Nat) (x : HalfH) : (s.setHalf a h x).red = s.red := rfl
@[simp] theorem State.setHalf_tim (s : State) (a h : Nat) (x : HalfH) : (s.setHalf a h x).tim = s.tim := rfl
@[simp] theorem State.setHalf_sysg (s : State) (a h : Nat) (x : HalfH) : (s.setHalf a h x).sysg = s.sysg := rfl
@[simp] theorem State.setHalf_hcq (s : State) (a h : Nat) (x : HalfH) : (s.setHalf a h x).hcq = s.hcq := rfl
@[simp] theorem State.setHalf_mnt (s : State) (a h : Nat) (x : HalfH) : (s.setHalf a h x).mnt = s.mnt := rfl
@[simp] theorem State.setHalf_pwr (s : State) (a h : Nat) (x : HalfH) : (s.setHalf a h x).pwr = s.pwr := rfl
@[simp] theorem State.setHalf_pending (s : State) (a h : Nat) (x : HalfH) : (s.setHalf a h x).pending = s.pending := rfl

@[simp] theorem State.setPipe_dts (s : State) (a d : Nat) (h : PipeH) : (s.setPipe a d h).dts = s.dts := rfl
@[simp] theorem State.setPipe_regs (s : State) (a d : Nat) (h : PipeH) : (s.setPipe a d h).regs = s.regs := rfl
@[simp] theorem State.setPipe_ctrs (s : State) (a d : Nat) (h : PipeH) : (s.setPipe a d h).ctrs = s.ctrs := rfl
@[simp] theorem State.setPipe_stat (s : State) (a d : Nat) (h : PipeH) : (s.setPipe a d h).stat = s.stat := rfl
@[simp] theorem State.setPipe_pulses (s : State) (a d : Nat) (h : PipeH) : (s.setPipe a d h).pulses = s.pulses := rfl
@[simp] theorem State.setPipe_irq (s : State) (a d : Nat) (h : PipeH) : (s.setPipe a d h).irq = s.irq := rfl
@[simp] theorem State.setPipe_freeCtr (s : State) (a d : Nat) (h : PipeH) : (s.setPipe a d h).freeCtr = s.freeCtr := rfl
@[simp] theorem State.setPipe_out (s : State) (a d : Nat) (h : PipeH) : (s.setPipe a d h).out = s.out := rfl
@[simp] theorem State.setPipe_evl (s : State) (a d : Nat) (h : PipeH) : (s.setPipe a d h).evl = s.evl := rfl
@[simp] theorem State.setPipe_violUnread (s : State) (a d : Nat) (h : PipeH) : (s.setPipe a d h).violUnread = s.violUnread := rfl
@[simp] theorem State.setPipe_que (s : State) (a d : Nat) (h : PipeH) : (s.setPipe a d h).que = s.que := rfl
@[simp] theorem State.setPipe_jrm (s : State) (a d : Nat) (h : PipeH) : (s.setPipe a d h).jrm = s.jrm := rfl
@[simp] theorem State.setPipe_pm (s : State) (a d : Nat) (h : PipeH) : (s.setPipe a d h).pm = s.pm := rfl
@[simp] theorem State.setPipe_lin (s : State) (a d : Nat) (h : PipeH) : (s.setPipe a d h).lin = s.lin := rfl
@[simp] theorem State.setPipe_frm (s : State) (a d : Nat) (h : PipeH) : (s.setPipe a d h).frm = s.frm := rfl
@[simp] theorem State.setPipe_map (s : State) (a d : Nat) (h : PipeH) : (s.setPipe a d h).map = s.map := rfl
@[simp] theorem State.setPipe_plz (s : State) (a d : Nat) (h : PipeH) : (s.setPipe a d h).plz = s.plz := rfl
@[simp] theorem State.setPipe_pins (s : State) (a d : Nat) (h : PipeH) : (s.setPipe a d h).pins = s.pins := rfl
@[simp] theorem State.setPipe_oap (s : State) (a d : Nat) (h : PipeH) : (s.setPipe a d h).oap = s.oap := rfl
@[simp] theorem State.setPipe_arc (s : State) (a d : Nat) (h : PipeH) : (s.setPipe a d h).arc = s.arc := rfl
@[simp] theorem State.setPipe_cvu (s : State) (a d : Nat) (h : PipeH) : (s.setPipe a d h).cvu = s.cvu := rfl
@[simp] theorem State.setPipe_und (s : State) (a d : Nat) (h : PipeH) : (s.setPipe a d h).und = s.und := rfl
@[simp] theorem State.setPipe_pair (s : State) (a d : Nat) (h : PipeH) : (s.setPipe a d h).pair = s.pair := rfl
@[simp] theorem State.setPipe_apsEnd (s : State) (a d : Nat) (h : PipeH) : (s.setPipe a d h).apsEnd = s.apsEnd := rfl
@[simp] theorem State.setPipe_red (s : State) (a d : Nat) (h : PipeH) : (s.setPipe a d h).red = s.red := rfl
@[simp] theorem State.setPipe_tim (s : State) (a d : Nat) (h : PipeH) : (s.setPipe a d h).tim = s.tim := rfl
@[simp] theorem State.setPipe_sysg (s : State) (a d : Nat) (h : PipeH) : (s.setPipe a d h).sysg = s.sysg := rfl
@[simp] theorem State.setPipe_hcq (s : State) (a d : Nat) (h : PipeH) : (s.setPipe a d h).hcq = s.hcq := rfl
@[simp] theorem State.setPipe_mnt (s : State) (a d : Nat) (h : PipeH) : (s.setPipe a d h).mnt = s.mnt := rfl
@[simp] theorem State.setPipe_pwr (s : State) (a d : Nat) (h : PipeH) : (s.setPipe a d h).pwr = s.pwr := rfl
@[simp] theorem State.setPipe_pending (s : State) (a d : Nat) (h : PipeH) : (s.setPipe a d h).pending = s.pending := rfl

end Sys2Proof.Machine
end

