-- ==== Sys2Proof/Laws/Runs.lean ====
section
/-! SUPPORT. How a command's run follows from its effect. -/
namespace Sys2Proof.Machine
open Sys2Proof

/-- A command whose meaning is an ordinary event runs, and leaves what its effect makes. -/
theorem Runs.of_event {i : Instr} {s : State} {P : State → Prop} {t : Nat} {f : State → State} (e : exec i s = event t f s)
    (h : P (s.ended (f (s.at_ t)) (max s.dts t))) : Runs i s P := ⟨_, e, h⟩
/-- A command whose meaning sets the device count runs, and leaves what its effect makes. -/
theorem Runs.of_timeEvent {i : Instr} {s : State} {P : State → Prop} {t : Nat} {f : State → State} (e : exec i s = timeEvent t f s)
    (h : P (s.ended (f (s.at_ t)) (f (s.at_ t)).dts)) : Runs i s P := ⟨_, e, h⟩

/-- A context after a step is the effect's. -/
@[simp] theorem State.cx_ended (s z : State) (n c : Nat) : (s.ended z n).cx c = z.cx c := by
  unfold State.cx; rw [State.jrm_ended]; exact tget_tidyT _ _ _
/-- A byte of the trail table after a step is the effect's. -/
@[simp] theorem State.trailByte_ended (s z : State) (n e o : Nat) : (s.ended z n).trailByte e o = z.trailByte e o := by
  unfold State.trailByte; rw [State.jrm_ended]; exact congrArg _ (mget_tidyT _ _)

end Sys2Proof.Machine
end

