-- ==== Sys2Proof/Tests/Slice0.lean ====
section
/-! SUPPORT. Tests of the model: a state that meets the premises of each claim, and terms that a well-formedness check refuses. -/
namespace Sys2Proof.Tests
open Sys2Proof Sys2Proof.Machine Sys2Proof.Claims

set_option Elab.async false
set_option maxRecDepth 4000

/-! ### Small states -/

/-- A state whose Kiosk lease runs to 9 s. -/
def wHeldLease (s : State) : State := (s.rsetb Reg.KSK_LEASE_VALID true).setDtsWords Reg.KSK_LEASE_EXP0 (sec 9)
/-- A ring with one descriptor waiting, HCP 1.0 negotiated. -/
def wRing : State :=
  wHeldLease (((((State.reset.rsetb Reg.HCQ_CTL_EN true).rsetb Reg.HCQ_STAT_READY true).rsetb Reg.HCQ_STAT_HELLO_DONE true).rset Reg.HCQ_STAT_HCP 0x100).rset
    Reg.CMD_PI_V 1)
/-- A descriptor at HCP 1.0. -/
def wDesc : Desc := ⟨7, 0x100, none, false⟩
/-- Interface 0 carries one 100 Gb/s instance. -/
def wLif : State := State.reset.rset (Reg.LIN_LIF_CFG_TYPE 0) 1
/-- The line block of lanes 112 to 127 is ON. -/
def wBlkOn : State := State.reset.rset (Reg.PWR_DOM_STATE 79) 2
/-- The same, its block ON. -/
def wLifOn : State := wLif.rset (Reg.PWR_DOM_STATE 72) 2
/-- Avenue 3 is in service. -/
def wAve : State := State.reset.rset (Reg.AVE_MED_STAT_STATE 3) 0
/-- A token of slice 0. -/
def wTok : Token := ⟨0, 0, true, 2, 0, true, none, 1, 0, none⟩
/-- A token of slice 0 as it enters. -/
def wTokIn : Token := { wTok with tx := false, leg := 0 }
/-- A receive token of ODU 4 that has passed both stages. -/
def wTokRx : Token := { wTok with key := 260, tx := false }
/-- Avenue 3's receive pipeline is h. -/
def wPipe (h : PipeH) : State := { wAve with ave := { wAve.ave with pipes := [(6, h)] } }
/-- A pipeline of Avenue 3 with a compared token; c is the receive entry of ODU 4, whose logical slot is Avenue 3. -/
def wExit (c : ConnH) (k : Token) : State :=
  ({ (wPipe { out := some k }).setSysGrp 1 { mode := 1 } with plz := { State.reset.plz with conn := [(4, c)] } } : State).rset (Reg.PLZ_SLOT_MAP_PHYS 0) 3
/-- An edge FIFO of the given key holds l. -/
def wFifo (s : State) (k : Nat) (l : List (Token × List Dest)) : State := { s with ave := { s.ave with fifos := [(k, l)] } }
/-- A token waits in the kerb buffer of Avenue 3. -/
def wKerb : State := { wAve with ave := { wAve.ave with pipes := [(6, { kerb := [wTok] })] } }
/-- A run at offset 0 with some registers set. -/
def wR : RunSt := { rel := 3, per := 9, started := true, g := (List.replicate 32 0).set 6 (-3), p := 0b01000000, st := [0, 2, 0, 0] }
/-- Context 5 executes run r, whose code is one word of instruction op. -/
def wJ (op : JOp) (w : JWord) (h : CtxH) (r : RunSt) : State :=
  { State.reset with jrm := { State.reset.jrm with
      ctx := [(5, { h with state := 1, nextRel := 1000, run := some r, bind := { h.bind with code := [jenc op w], wcsc := 100 } })], cur := [(0, 6)] } }
/-- The same with two words of code. -/
def wJ2 (op : JOp) (w : JWord) (r : RunSt) : State :=
  { State.reset with jrm := { State.reset.jrm with
      ctx := [(5, { state := 1, nextRel := 1000, run := some r, bind := { code := [jenc op w, jenc op w], wcsc := 100 } })], cur := [(0, 6)] } }
/-- Context 5 waits for its release: entry 0 of slice 4 is bound and the roles run. -/
def wRel : State :=
  { State.reset with jrm := { State.reset.jrm with trail := [(0, 1), (2, 4)], ctx := [(5, { state := 1, bind := { tt := [(0, 0)] } })] } }
/-- The same, the latest frame of its layer at 5 with MFAS 0. -/
def wRelDue : State := wRel.setCx 5 { wRel.cx 5 with fnow := List.replicate 64 0, fAt := some 5 }
/-- Interface 0 carries a PRBS permit. -/
def wPrbs : State :=
  ((wLif.rsetb (Reg.MNT_PERMIT_FLAGS_VALID 0) true).rset (Reg.MNT_PERMIT_CODE 0) 0x0104).rset (Reg.MNT_PERMIT_TARGET 0) 0
/-- The aligner of slice 4 is a. -/
def wAl (a : AlignerH) : State := { State.reset with frm := { State.reset.frm with al := [(4, a)] }, jrm := { State.reset.jrm with trail := [(0, 1), (2, 4), (4, 0x2A)] } }
/-- n logical lanes from k with AM lock. -/
def lockedFrom : Nat → Nat → Tbl AmLane
  | _, 0 => []
  | k, n + 1 => (k, { lock := true }) :: lockedFrom (k + 1) n
theorem tget_lockedFrom (n : Nat) : ∀ (k j : Nat), k ≤ j → j < k + n → tget (fun _ => {}) (lockedFrom k n) j = { lock := true } := by
  induction n with
  | zero => intro k j h1 h2; omega
  | succ n ih =>
    intro k j h1 h2
    unfold lockedFrom tget
    by_cases hk : k = j
    · simp [hk]
    · have h3 : ¬ j < k := by omega
      simp only [hk, h3, if_false]
      exact ih (k + 1) j (by omega) (by omega)
theorem amLocked_of (s : State) (i : Nat) (h : (s.lif i).lanes = lockedFrom 0 (s.logical i)) : s.amLocked i = true := by
  unfold State.amLocked
  rw [List.all_eq_true]
  intro n hn
  have h2 := tget_lockedFrom (s.logical i) 0 n (Nat.zero_le _) (by simpa using hn)
  simp [LifH.lane, h, h2]
/-- Two members with every lane locked. -/
def wMembers (a b : Nat) (late : Bool) : List MemberH :=
  [{ lif := 0, pid := 1, mfas := 7, arr := ns a, seen := true, late := late }, { lif := 2, pid := 2, mfas := 7, arr := ns b, seen := true, late := late }]
/-- Group 5 has members 0 and 2, whose markers arrived at a and b ns; l: they are late. -/
def wGrp (a b : Nat) (l : Bool) : State :=
  (((({ State.reset with lin := { State.reset.lin with
      lifs := [(0, { lanes := lockedFrom 0 (Config.logicalLanes 1), flexOk := true }), (2, { lanes := lockedFrom 0 (Config.logicalLanes 1), flexOk := true })],
      grps := [(5, { members := wMembers a b l, lateSince := if l then some 0 else none })] } } : State).rset
    (Reg.LIN_LIF_CFG_TYPE 0) 1).rset (Reg.LIN_LIF_CFG_TYPE 2) 1).rsetb (Reg.LIN_GRP_CFG_ENABLED 5) true).rset (Reg.LIN_GRP_CFG_N_M1 5) 1
theorem wGrp_ready (l : Bool) : (wGrp 100 700 l).grpReady 5 = true := by
  have h0 : (wGrp 100 700 l).amLocked 0 = true := amLocked_of _ _ (by
    have h : (wGrp 100 700 l).lifType 0 = 1 := by cases l <;> decide +kernel
    unfold State.logical; rw [h]; rfl)
  have h2 : (wGrp 100 700 l).amLocked 2 = true := amLocked_of _ _ (by
    have h : (wGrp 100 700 l).lifType 2 = 1 := by cases l <;> decide +kernel
    unfold State.logical; rw [h]; rfl)
  have m : ((wGrp 100 700 l).grp 5).members = wMembers 100 700 l := rfl
  have q0 : (wGrp 100 700 l).losOn 0 = false := by cases l <;> decide +kernel
  have q2 : (wGrp 100 700 l).losOn 2 = false := by cases l <;> decide +kernel
  have r0 : (wGrp 100 700 l).rbit (Reg.LIN_LIF_LIVE_LANE_DESKEW_FAIL 0) = false := by cases l <;> decide +kernel
  have r2 : (wGrp 100 700 l).rbit (Reg.LIN_LIF_LIVE_LANE_DESKEW_FAIL 2) = false := by cases l <;> decide +kernel
  have g0 : ((wGrp 100 700 l).lif 0).gidMis = false ∧ ((wGrp 100 700 l).lif 0).pidMis = false := ⟨rfl, rfl⟩
  have g2 : ((wGrp 100 700 l).lif 2).gidMis = false ∧ ((wGrp 100 700 l).lif 2).pidMis = false := ⟨rfl, rfl⟩
  have f0 : ((wGrp 100 700 l).lif 0).flexOk = true ∧ ((wGrp 100 700 l).lif 2).flexOk = true := ⟨rfl, rfl⟩
  simp [State.grpReady, m, wMembers, State.memberBad, h0, h2, q0, q2, r0, r2, g0, g2, f0]
/-- The same group of members 0 and 2 beside the ring. -/
def wGrpIn : State :=
  ((({ wRing with lin := (wGrp 100 700 false).lin } : State).rset (Reg.LIN_LIF_CFG_TYPE 0) 1).rset (Reg.LIN_LIF_CFG_TYPE 2) 1).rsetb (Reg.LIN_GRP_CFG_ENABLED 5) true
/-- Group 5 is enabled, one slice wide. -/
def wGrp5 : State := wRing.rsetb (Reg.LIN_GRP_CFG_ENABLED 5) true
/-- An ODU2 of group 5 in its first and last slot, Class A. -/
def wOdu2 : OduParams :=
  { inst := 20479, type := 2, client := 0, server := 5, cls := 0, rank := 8, slot := 31, rate := 0, tsCount := 2, jcHold := 0, jcResync := 15, rateWin := 128,
    fillTarget := 0, fillGain := 12, pt := 0, ts := [1, 20], tu := [0, 1, 2, 20479, 4, 5, 6, 7] }
/-- ODU 7, an ODU2 of group 5, is configured and has a connection. -/
def wHo : State :=
  { wGrp5 with map := { State.reset.map with odu := [(7, { conf := true, type := 2, server := 5, slot := 31, ts := [3, 4], tu := [10, 11, 12, 13, 14, 15, 16, 17] })] }
               plz := { State.reset.plz with conn := [(7, { valid := true, kind := 1, slot0 := 31 })] } }
/-- An ODU0 in the last slot of ODU 7. -/
def wOdu0 : OduParams :=
  { inst := 9, type := 0, client := 0, server := 32775, cls := 0, rank := 8, slot := 31, rate := 0, tsCount := 1, jcHold := 0, jcResync := 0, rateWin := 0,
    fillTarget := 25, fillGain := 31, pt := 0, ts := [8], tu := [17] }
/-- The buffer of a TRAIL_CFG write: an OTUC SM entry of slice 4 with the defaults. -/
def wTrail : List Byte :=
  ((((((List.replicate 64 (0 : Byte)).set 0 1).set 2 4).set 4 0x2A).set 5 3).set 0x30 150).set 0x32 7
/-- ODU 7 and ODU 9 are configured in slot 4; the ring waits. -/
def wConn : State :=
  { wRing with map := { State.reset.map with odu := [(7, { conf := true, slot := 4, client := 1, ts := [1] }), (9, { conf := true, slot := 4, client := 1, ts := [2] })] } }
/-- Receive entry 9 has the PHY on lane 0. -/
def wConn2 : State :=
  { wConn with plz := { State.reset.plz with conn := [(9, { valid := true, portA := 0x10000000, slot0 := 4 })] }
               sysg := [(0, { mode := 1, phy := 0 })] }
/-- Move 9 stands in receive entry 9. -/
def wMove (h : MoveH) : State :=
  { State.reset with plz := { State.reset.plz with conn := [(9, { valid := true, slot0 := h.old, slot1 := h.new, epoch1 := h.epoch, route1 := true })], moves := [(9, h)] }
                     map := { State.reset.map with odu := [(9, { conf := true, slot := h.old })] } }
/-- Entries 4 and 9 are a Class B receive pair, 4 selected; a request for 9 stands. -/
def wPair (r : SelReq) : State :=
  { State.reset with plz := { State.reset.plz with conn := [(4, { valid := true, cls := 1, partner := 9, portA := 5, sel := true }), (9, { valid := true, cls := 1, partner := 4, portA := 5, req := some r })] } }
/-- The same pair with the fast path enabled, no request, and entry 4 filled; b: 9 too. -/
def wFail (b : Bool) : State :=
  { State.reset with plz := { State.reset.plz with conn :=
      [(4, { valid := true, cls := 1, partner := 9, portA := 5, sel := true, fastEn := true, aisFill := true }),
       (9, { valid := true, cls := 1, partner := 4, portA := 5, sel := false, fastEn := true, aisFill := b })] } }
/-- DEVID 0x101 is set, and link 16 of Arcade group 2 is enabled and in state st at ALP 1.2 with peer 0x213. -/
def wArc (st : Nat) : State :=
  ((((({ wRing with sysg := [(2, { mode := 2, dpll := 2 })] } : State).setWord Reg.SYP_ARC_ID_DEVID.addr 0x10101).rsetb (Reg.SYP_AL_CFG_ENABLED 16) true).rset
    (Reg.SYP_AL_STAT_STATE 16) st).rset (Reg.SYP_AL_STAT_CHOSEN 16) (if st = 3 then 0x102 else 0)).rset (Reg.SYP_AL_PEER_PEER_DEVID 16) 0x213
/-- A data cell of flow 5 with SEQ 1,000 from device 0x213. -/
def wData : List Byte := cellBytes { ver := 0x102, type := 1, src := 0x213, dst := 0x101, flow := 5, seq := 1000, len := 992, ts := 0 } []
/-- A negotiation cell of device 0x213 that acknowledges ALP 1.2. -/
def wNeg : List Byte :=
  cellBytes { ver := 0x100, type := 4, src := 0x213, dst := 0, seq := 0, len := 12, ts := 0 } [2, 0x13, 7, 3, 1, 2, 1, 0, 1, 0, 2, 0]
/-- Entries 9 of both directions are flow 5 of group 2, whose receive flow stands at f. -/
def wFlow (f : FlowH) : State :=
  { wArc 3 with plz := { State.reset.plz with conn := [(9, { valid := true, portA := 0x20200005, peerA := 0x213 }),
                          (20489, { valid := true, portA := 0x20200005, peerA := 0x213, playout := 50 })] }
                map := { State.reset.map with odu := [(9, { conf := true, rate := 0 })] }
                arc := { State.reset.arc with flows := [(20489, f)] } }
theorem wData_ok : wData.length = 1024 ∧ cellValid wData = true ∧ pcrcOk wData = true := by
  refine ⟨cellBytes_length _ _, ?_, (cellBytes_checked _ _).2⟩
  unfold cellValid
  rw [show hcrcOk wData = true from (cellBytes_checked _ _).1]
  decide +kernel
theorem wNeg_ok : wNeg.length = 1024 ∧ cellValid wNeg = true ∧ pcrcOk wNeg = true := by
  refine ⟨cellBytes_length _ _, ?_, (cellBytes_checked _ _).2⟩
  unfold cellValid
  rw [show hcrcOk wNeg = true from (cellBytes_checked _ _).1]
  decide +kernel
/-- Link 16 in NEGOTIATE has offered ALP 1.0 to 1.2 and sent its choice of 1.2 acknowledged. -/
def wNegSt : State := (wArc 2).setAlk 16 { acked := true, choice := some 0x102, adv := (wArc 2).wordN (Reg.SYP_AL_ADV 16) }
/-- Link 16 in NEGOTIATE offers ALP 2.0 alone. -/
def wNegTwo : State := (wArc 2).setAlk 16 { adv := 0x02000200 }
/-- The device has the DEVID that the peer's cell carries. -/
def wNegOwn : State := (wArc 2).setWord Reg.SYP_ARC_ID_DEVID.addr 0x10213
/-- Link 16 is UP and drains. -/
def wDrain : State := (wArc 3).setAlk 16 { drainAt := some 9 }
/-- Stack 0 works; pair (0, 9) holds pages 5 and 400. -/
def wUnd : State :=
  (({ State.reset with und := { State.reset.und with rsv := [(9, { bw := ⟨100, 1⟩, pages := [5, 400] })] } } : State).rsetb (Reg.UND_STACK_TRAINED 0) true).rset
    (Reg.UND_STACK_PC_WORKING 0) 32
/-- Pseudo-channel 0 alone works, and its 384 pages are all held. -/
def wFull : State :=
  (({ State.reset with und := { State.reset.und with rsv := [(9, { pages := List.range 384 })] } } : State).rsetb (Reg.UND_STACK_TRAINED 0) true).setWord
    (Reg.UND_PC_FAIL 0) 0xFFFFFFFE |>.setPage 5 { ce := List.replicate 16 3 }
/-- Receive entries 4 and 9 are a Class B pair; context 5 runs APS_LIN on entry 6 of instance 9, with entry 7 of instance 4; b is its byte 0xF2. -/
def wAps (b : Nat) : State :=
  ({ wRing with plz := { State.reset.plz with conn := [(4, { valid := true, cls := 1, partner := 9, portA := 5, inhibit := true }), (9, { valid := true, cls := 1, partner := 4, portA := 5, sel := true, inhibit := true })] }
                jrm := { State.reset.jrm with
                  ctx := [(5, { state := 1, bind := { routine := 0x20, tt := [(6, 1), (7, 0)], param := List.replicate 64 0 ++ [1] ++ List.replicate 15 0 } })] } } : State)
    |>.trailSet 6 0 1 4 |>.trailSet 6 2 2 9 |>.trailSet 7 2 2 4 |>.trailSet 6 0xF2 1 b
/-- The same group, whose selected signals have differed since instant 0. -/
def wApsFop : State := (wAps 0).setCx 5 { (wAps 0).cx 5 with scr := [(apsFop, 1)] }
/-- Context 5 executes run r of a standard routine bound to entry 3 with INTG permission; entry 3 is bytes b; the window holds w of the latest frames. -/
def wStd (routine : Nat) (b : Tbl Byte) (acc : OhAcc) (r : RunSt) : State :=
  { State.reset with jrm := { State.reset.jrm with
      trail := b.map fun p => (3 * 256 + p.1, p.2)
      ctx := [(5, { state := 1, nextRel := 1000, run := some r, win := { acc := acc }, bind := { routine := routine, tt := [(3, 1)], wcsc := 1000 } })], cur := [(0, 6)] } }
/-- A run of a standard routine as it starts. -/
def wRs : RunSt := { rel := 3, per := 9, started := true, g := List.replicate 32 0, p := 0, st := [0, 0, 0, 0] }
/-- The STAT of the latest frames is v, for n frames; the TTI has stood for 3 multiframes, and so has the PT 7. -/
def wSeen (v n : Nat) : OhAcc := { frames := 8, statLast := v, statRun := n, ttiStable := 3, tti := List.replicate 64 9, ptLast := 7, ptRun := 3 }
/-- A context of entry 3 whose scratch counts second 1. -/
def wDegH : CtxH := { bind := { tt := [(3, 1)] }, scr := [(scSec, 2)] }
/-- A context of APS_LIN with APS_EN. -/
def wApsH : CtxH := { bind := { tt := [(3, 1)], param := List.replicate 64 0 ++ [0x41] } }
/-- Receive entries 4 and 9 are a Class A pair of ODU0s whose selector stands at h. -/
def wSel (h : PairH) : State :=
  { wRing with plz := { State.reset.plz with conn := [(4, { valid := true, cls := 2, partner := 9, portA := 0x20200005, ddMax := 100 }), (9, { valid := true, cls := 2, partner := 4, portA := 0x20200005, ddMax := 100 })] }
               map := { State.reset.map with odu := [(4, { conf := true, cls := 2 }), (9, { conf := true, cls := 2, slot := 1 })] }
               pair := [(4, h)] }
/-- A frame of MFAS 7 as it reaches the selector, and as the selector keeps it. -/
def wPf (errored : Bool) : PairFrame := ⟨(List.replicate 6 0 ++ [7]) ++ List.replicate 15289 0, 3, false, errored⟩
/-- Such a frame as the selector keeps it, arrived at 5 with signature z. -/
def wSfz (z : Nat) : SelFrame := { arr := 5, mfas := 7, omfi := 0, sig := z, stat := 0, fdts := 3, hwSf := false, errored := false }
/-- The same with another frame's signature. -/
def wSf : SelFrame := wSfz 0x1234
/-- A pair in SEARCH with three hits, that keeps one frame of path X. -/
def wHit (z : Nat) : State := wSel { state := 1, hits := 3, dlast := 95, x := { frames := [wSfz z] } }
theorem filter_one {α : Type} (p : α → Bool) (c : α) (h : p c = true) : [c].filter p = [c] := by simp [h]
/-- The frame period of an ODU0 in ticks. -/
def wSelTf : Nat := frameTicks 12441600
/-- REF 3 is a 2.048 MHz reference, QUALIFIED; DPLL 2 follows it in ACQUIRE; DPLL 0 has it as its only candidate. -/
def wRef : State :=
  ((((((State.reset.rsetb (Reg.TIM_REF_CFG_EN 3) true).rset (Reg.TIM_REF_CFG_RATE 3) 1).rset (Reg.TIM_REF_STAT_QSTATE 3) 2).rset (Reg.TIM_DP_STAT_SEL_REF 2) 3).rset
    (Reg.TIM_DP_STAT_STATE 2) 1).setWord (Reg.TIM_DP_CAND 0 5) (3 + 2 * 2 ^ 9 + 2 ^ 13))
/-- A valid ToD message of second 5. -/
def wTod : List Byte :=
  let l : List Byte := [0xA5, 0xC3, 1, 9, 0, 0, 0, 0, 0, 5, 0, 37, 0, 0, 0]
  l ++ [BitVec.ofNat 8 (crc crc8 l)]
/-- DP1 follows REF 0; b: the time is set; m: the message that waits. -/
def wPps (b : Bool) (m : Option TodMsg) : State :=
  (({ State.reset with tim := { State.reset.tim with tod := m } } : State).rset (Reg.TIM_DP_STAT_SEL_REF 1) 0).rsetb Reg.TIM_TOD_STAT_TIME_SET b
/-- An item-mode queue of 64 slots between the host and the host. -/
def wQh : QueH := { mode := 1, producer := 3, consumer := 2, group := 2, cap := 64 }
/-- An item. -/
def wItem : QItem := { data := 9, kind := 1, dts := 4, vis := 4 }
/-- Queue 16 stands at h; pop slot 12 and push slot 4 name it. -/
def wQ (h : QueH) : State :=
  (((({ wRing with que := { wRing.que with qs := [(16, h)] } } : State).rset (Reg.QUE_SLOT_MAP_QUEUE 12) 16).rsetb (Reg.QUE_SLOT_MAP_BOUND 12) true).rset
    (Reg.QUE_PUSH_MAP_QUEUE 4) 16).rsetb (Reg.QUE_PUSH_MAP_BOUND 4) true
/-- Port SS0 is enabled and has block lock. -/
def wSs (h : QueH) : State := ((wQ h).rsetb (Reg.QUE_SS_CFG_EN 0) true).setSsp 0 { lock := true }
/-- The same, the group with pages of the Underpass. -/
def wShare (h : QueH) : State :=
  { wSs h with und := { (wSs h).und with rsv := [(7 * 65536 + 2, { bw := ⟨300, 1⟩, pages := [3, 4] })] } }
/-- A frame for SS0 and queue 16. -/
def wFr : SsFrame := ⟨98, true, 0, 0x88B5, none, 0, 16, 1, 1, false, List.replicate 48 7, 3⟩
theorem wShare_in (h : QueH) (hg : h.group = 2) (hd : h.depth ≤ 64) : (wShare h).shareOut 2 = false := by
  have r : (wShare h).rsv ((wShare h).spillRow 2) 2 = { bw := ⟨300, 1⟩, pages := [3, 4] } := by
    have e : (wShare h).spillRow 2 = 7 := by
      have c : (wShare h).rget (Reg.QUE_GRP_CFG_CLASS 2) = (wShare wQh).rget (Reg.QUE_GRP_CFG_CLASS 2) := rfl
      unfold State.spillRow; rw [c]; decide +kernel
    rw [e]; rfl
  have q : (wShare h).spilled 2 = h.depth - onDie := by
    show (((([(16, h)] : List (Nat × QueH)).filter fun p => p.2.group == 2).map fun p => p.2.depth - onDie).sum) = _
    simp [hg]
  unfold State.shareOut
  rw [r, q]
  simp
  omega
/-- Port 2 is enabled in both directions, L 64, K 7; its state is st and its FIFOs stand at p. -/
def wOap (st : Nat) (p : OapPort) : State :=
  (((((State.reset.rset (Reg.PWR_DOM_STATE 97) 2).setWord (Reg.OAP_CFG 2) (0x3F * 64 + 7)).setWord (Reg.OAP_DROP_MASK_LO 2) 0x3F80).setWord
    (Reg.OAP_INS_MASK_LO 2) 0x3F80).rset (Reg.OAP_STAT_STATE 2) st).setPort 2 p
/-- Entry 6 has PM_EN with one errored block in second 10; context 5 binds it; the seconds below 10 have settled. -/
def wPm : State :=
  { State.reset with
    pm := { ent := [(6, { en := true, secs := [{ s := 10, nEb := 1, blocks := 800 }] ++ (List.range 9).map fun k => { s := 11 + k, blocks := 800 },
                          cur15 := { start := 0, current := true }, cur24 := { start := 0, day := true, current := true } })], settled := 10 }
    jrm := { State.reset.jrm with ctx := [(5, { state := 1, bind := { tt := [(6, 1)] } })] } }
theorem wPm_settles : settles wPm (sec 20) 6 ∧ (secOf (sec 20) - 9) % 900 ≠ wPm.pm.ofs15 % 900 := by decide +kernel
theorem wPm_completes : settles wPm (sec 909) 6 ∧ (secOf (sec 909) - 9) % 900 = wPm.pm.ofs15 % 900 := by decide +kernel
/-- Unit 4 is enabled as a CRC-32 over packets with EXP_SRC x, and stands at h. -/
def wCv (x : Nat) (h : CvuH) : State :=
  (((State.reset.rset (Reg.PWR_DOM_STATE 98) 2).setWord (Reg.CVU_CFG 4) (0x3F + 0x180 + 2 ^ 9 + x * 2 ^ 11)).setWord (Reg.CVU_TAP 4) (3 + 2 ^ 4)).setCv 4 h
/-- The bytes "123456789". -/
def wNine : List Byte := [0x31, 0x32, 0x33, 0x34, 0x35, 0x36, 0x37, 0x38, 0x39]
/-- Kiosk k holds the lease until e. -/
def wLease (k e : Nat) : State := ((State.reset.rset Reg.KSK_LEASE_HOLDER k).rsetb Reg.KSK_LEASE_VALID true).setDtsWords Reg.KSK_LEASE_EXP0 e
/-- A device of a pair in role r, start-up complete, with MLP 1.0 and quiet referee inputs. -/
def wRole (r : Nat) : State :=
  { State.reset with
    regs := [(Reg.KSK_PAIR_STAT_ROLE.addr, BitVec.ofNat 32 (r + 8)), (Reg.PWR_BOOT_STAGE.addr, 5)]
    red := { State.reset.red with fenceOut := false, mlp := some 0x100 }, pins := [(54, { seen := true }), (55, { seen := true })] }
/-- An ACTIVE device whose Mate Link block is ON. -/
def wMate : State := (wRole 2).rset (Reg.PWR_DOM_STATE 90) 2
/-- Entry 0 is slice 4; a routine is loaded; its WCSC is w. -/
def wBound (w : Nat) : State :=
  { wRing with jrm := { State.reset.jrm with trail := [(0, 1), (2, 4)], images := [(0x10000, { valid := true, jabi := 0x100, wcsc := w, code := [5, 6] })] } }
def wBind : State := wBound 10
def wBindBig : State := wBound (10 ^ 9)
/-- The block that binds it to entry 0. -/
def wBlock : BindBlock := ⟨0x100, 64, 0x10000, 0, 1, 0, [(0, 0)], [], none, []⟩
def wStdBlock : BindBlock := { wBlock with routine := 0x30 }
/-- Permit c is held on target x; interface 0 is configured. -/
def wHeld (c x : Nat) : State :=
  { ((((wRing.rset (Reg.LIN_LIF_CFG_TYPE 0) 1).rsetb (Reg.MNT_PERMIT_FLAGS_VALID 0) true).rset (Reg.MNT_PERMIT_CODE 0) c).rset (Reg.MNT_PERMIT_TARGET 0) x) with
      evl := { State.reset.evl with book := [{ ev := { dts := 1, sev := 1, code := 2, src := 0, detail := 0 }, seq := 1, devid := 0, timeUnset := false, timeHold := false, mirrored := true }] } }
/-- Avenue 7 serves slot 7, and Avenue 8 slot 8 since later; 33 and 34 are spare, 33 the longer; K0 holds the lease until e; n: no interface. -/
def wRot (e : Nat) : State :=
  let s : State := { State.reset with ave := { State.reset.ave with aves := [(7, { inSince := 3 }), (8, { inSince := 9 }), (33, { spareSince := 4 }), (34, { spareSince := 5 })] } }
  ((((((s.rset (Reg.AVE_MED_STAT_STATE 7) 0).rset (Reg.AVE_MED_STAT_STATE 8) 0).rset (Reg.AVE_MED_STAT_STATE 33) 1).rset (Reg.AVE_MED_STAT_STATE 34) 1).rset
    (Reg.PLZ_SLOT_MAP_PHYS 7) 7).rset (Reg.PLZ_SLOT_MAP_PHYS 8) 8).rsetb Reg.KSK_LEASE_VALID true |>.setDtsWords Reg.KSK_LEASE_EXP0 e
/-- Telemetry of set m every 5 ms to queue 16, which stands at h. -/
def wTele (m : Nat) (h : QueH) : State := { wQ h with mnt := { (wQ h).mnt with tele := { (wQ h).mnt.tele with set := m, cadence := 5, queue := 16 } } }
/-- Every domain is ON and stage k is complete; the restore strap is b. -/
def wOn (k : Nat) (b : Bool) : State :=
  { State.reset with
    regs := ((List.range 99).map fun d => (Reg.PWR_DOM d, 2)) ++ [(Reg.PWR_BOOT, BitVec.ofNat 32 k)]
    pwr := { State.reset.pwr with held := false, strap := b, began := 0 } }
/-- What a stage finds when all is well. -/
def wFind : StageFind := ⟨false, none, none, none, [], true, true, []⟩
/-- The device with a ring, everything on; a permit is held and K0 holds the lease until e; r: a reset that waits. -/
def wRun (e : Nat) (r : Option (Nat × Nat)) : State :=
  let s := wHeld 0x0104 0
  { ((s.rsetb Reg.KSK_LEASE_VALID true).setDtsWords Reg.KSK_LEASE_EXP0 e) with
    regs := ((s.rsetb Reg.KSK_LEASE_VALID true).setDtsWords Reg.KSK_LEASE_EXP0 e).regs ++ ((List.range 99).map fun d => (Reg.PWR_DOM d, (2 : Word))) ++ [(Reg.PWR_BOOT, (5 : Word))]
    pwr := { s.pwr with held := false }, hcq := { s.hcq with reset := r } }
/-- A released device; input i stands at p with its level, stuck and CHATTER bits. -/
def wPin (i : Nat) (p : PinH) (level stuck chat : Bool) : State :=
  let s := (((State.reset.rsetb (pinBit Reg.PWR_IN_LEVEL i) level).rsetb (pinBit Reg.PWR_IN_STUCK i) stuck).rsetb (pinBit Reg.PWR_IN_CHATTER i) chat).setPin i p
  { s with pwr := { s.pwr with held := false } }

theorem wit_idles : State.reset.pending = [] := rfl
theorem wit_queueKept : ∃ u, exec (.calStale 5 0 0) State.reset = .next u := ⟨_, rfl⟩
theorem wit_orderKept : State.reset.pending.Pairwise (fun a b => ahead b a = false) := by decide +kernel
theorem wit_firstRanksFirst : dtsOf (.domainFault 7 90 1) = some 7 ∧ dtsOf (.paceGateEnd 7 0 0 0 0 0) = some 7 ∧ orderRank (.domainFault 7 90 1) < orderRank (.paceGateEnd 7 0 0 0 0 0) := by decide +kernel
theorem wit_countGoesForward : instantOf (.calStale 5 0 0) = some 5 := rfl
theorem wit_stepKeepsForm : State.reset.wf = true ∧ State.reset.settled = true ∧ ∃ u, step State.reset = .next u :=
  ⟨by decide +kernel, by decide +kernel, _, rfl⟩
theorem wit_commandBringsForm : ∃ u, exec (.calStale 5 0 0) State.reset = .next u := ⟨_, rfl⟩
theorem wit_decodesEncoded : JOp.legal .add ⟨5, 6, 0, 3, true, 0x40, 0xFFFFFFFE⟩ = true := by decide
theorem wit_encodesDecoded : jdec 0x04A603C0FFFFFFFE#64 = some (.add, ⟨5, 6, 0, 3, true, 0x40, 0xFFFFFFFE⟩) := by decide
theorem wit_wearReaches :
    ((sec 60 : Nat) % sec 60 = 0 ∧ 80 ≤ 80 ∧ (wHeld 0x0104 0 : State).rbit Reg.MNT_LIVE_LB_WEAR = false) ∧
    ((wHeld 0x0104 0 : State).permitHeld 0x0302 0 = false ∧ (wHeld 0x0104 0 : State).permitHeld 0x0301 0 = false ∧ (wHeld 0x0104 0 : State).permitAt 511 = none) := by decide +kernel
theorem wit_wearStays :
    ((sec 60 : Nat) % sec 60 = 0 ∧ 79 < 80) := by decide +kernel
theorem wit_pinFewer :
    (53 < 58 ∧ (wPin 53 { seen := true, trans := [us 30, us 20, us 10] } false false false : State).pwr.held = false ∧ (wPin 53 { seen := true, trans := [us 30, us 20, us 10] } false false false : State).pinLevel 53 = !true ∧ ((wPin 53 { seen := true, trans := [us 30, us 20, us 10] } false false false : State).pin 53).seen = true ∧ (wPin 53 { seen := true, trans := [us 30, us 20, us 10] } false false false : State).rbit (pinBit Reg.PWR_IN_CHATTER 53) = false) ∧
    (((wPin 53 { seen := true, trans := [us 30, us 20, us 10] } false false false : State).conditioning 53).n = 0 ∨ ((wPin 53 { seen := true, trans := [us 30, us 20, us 10] } false false false : State).pin 53).trans.length < ((wPin 53 { seen := true, trans := [us 30, us 20, us 10] } false false false : State).conditioning 53).n) := by decide +kernel
theorem wit_pinChatter :
    (53 < 58 ∧ (wPin 53 { seen := true, trans := [us 30, us 20, us 10, us 1, 7] } false false false : State).pwr.held = false ∧ (wPin 53 { seen := true, trans := [us 30, us 20, us 10, us 1, 7] } false false false : State).pinLevel 53 = !true ∧ ((wPin 53 { seen := true, trans := [us 30, us 20, us 10, us 1, 7] } false false false : State).pin 53).seen = true ∧ (wPin 53 { seen := true, trans := [us 30, us 20, us 10, us 1, 7] } false false false : State).rbit (pinBit Reg.PWR_IN_CHATTER 53) = false) ∧
    (((wPin 53 { seen := true, trans := [us 30, us 20, us 10, us 1, 7] } false false false : State).pin 53).trans = ([us 30, us 20, us 10] : List Nat) ++ (us 1 : Nat) :: ([7] : List Nat) ∧ ([us 30, us 20, us 10] : List Nat).length + 1 = ((wPin 53 { seen := true, trans := [us 30, us 20, us 10, us 1, 7] } false false false : State).conditioning 53).n ∧ ([us 30, us 20, us 10] : List Nat).length + 1 ≤ 63 ∧ ns (10 * (((wPin 53 { seen := true, trans := [us 30, us 20, us 10, us 1, 7] } false false false : State).conditioning 53).g - 1)) ≤ ((us 1281 + ns 20 - 1) : Nat)) := by decide +kernel
theorem wit_pinChatter2 :
    (53 < 58 ∧ (wPin 53 { seen := true, trans := [us 30, us 20, us 10, us 1, 7] } false false false : State).pwr.held = false ∧ (wPin 53 { seen := true, trans := [us 30, us 20, us 10, us 1, 7] } false false false : State).pinLevel 53 = !true ∧ ((wPin 53 { seen := true, trans := [us 30, us 20, us 10, us 1, 7] } false false false : State).pin 53).seen = true ∧ (wPin 53 { seen := true, trans := [us 30, us 20, us 10, us 1, 7] } false false false : State).rbit (pinBit Reg.PWR_IN_CHATTER 53) = false) ∧
    (((wPin 53 { seen := true, trans := [us 30, us 20, us 10, us 1, 7] } false false false : State).pin 53).trans = ([us 30, us 20, us 10] : List Nat) ++ (us 1 : Nat) :: ([7] : List Nat) ∧ ([us 30, us 20, us 10] : List Nat).length + 1 = ((wPin 53 { seen := true, trans := [us 30, us 20, us 10, us 1, 7] } false false false : State).conditioning 53).n ∧ ([us 30, us 20, us 10] : List Nat).length + 1 ≤ 63 ∧ ns (10 * (((wPin 53 { seen := true, trans := [us 30, us 20, us 10, us 1, 7] } false false false : State).conditioning 53).g - 1)) ≤ ((us 1281 + ns 20) : Nat)) := by decide +kernel
theorem wit_prmBeyond :
    ((wJ .prm (⟨5, 0, 0, 0, false, 3, 8⟩) { bind := { param := [1, 2, 3, 4, 5, 6, 7, 8, 9, 10] } } wR : State).executes 5 5 .prm (⟨5, 0, 0, 0, false, 3, 8⟩ : JWord) wR) ∧
    (accAddr (⟨5, 0, 0, 0, false, 3, 8⟩ : JWord) wR % accSize (⟨5, 0, 0, 0, false, 3, 8⟩ : JWord) = 0) := by decide +kernel
theorem wit_prmBeyond2 :
    ((wJ .prm (⟨5, 0, 0, 0, false, 3, 4096⟩) { bind := { param := [1, 2, 3, 4, 5, 6, 7, 8, 9, 10] } } wR : State).executes 5 5 .prm (⟨5, 0, 0, 0, false, 3, 4096⟩ : JWord) wR) ∧
    (accAddr (⟨5, 0, 0, 0, false, 3, 4096⟩ : JWord) wR % accSize (⟨5, 0, 0, 0, false, 3, 4096⟩ : JWord) = 0) := by decide +kernel
theorem wit_parametersBelowWidth : 1 ≤ (⟨16, 0x1021, 0xFFFF, false, false, 0⟩ : CrcP).w ∧ (⟨16, 0x1021, 0xFFFF, false, false, 0⟩ : CrcP).w = (⟨16, 0xABC1021, 0x5FFFF, false, false, 0x30000⟩ : CrcP).w ∧ (⟨16, 0x1021, 0xFFFF, false, false, 0⟩ : CrcP).refin = (⟨16, 0xABC1021, 0x5FFFF, false, false, 0x30000⟩ : CrcP).refin ∧ (⟨16, 0x1021, 0xFFFF, false, false, 0⟩ : CrcP).refout = (⟨16, 0xABC1021, 0x5FFFF, false, false, 0x30000⟩ : CrcP).refout ∧
    (⟨16, 0x1021, 0xFFFF, false, false, 0⟩ : CrcP).poly % 2 ^ (⟨16, 0x1021, 0xFFFF, false, false, 0⟩ : CrcP).w = (⟨16, 0xABC1021, 0x5FFFF, false, false, 0x30000⟩ : CrcP).poly % 2 ^ (⟨16, 0x1021, 0xFFFF, false, false, 0⟩ : CrcP).w ∧ (⟨16, 0x1021, 0xFFFF, false, false, 0⟩ : CrcP).init % 2 ^ (⟨16, 0x1021, 0xFFFF, false, false, 0⟩ : CrcP).w = (⟨16, 0xABC1021, 0x5FFFF, false, false, 0x30000⟩ : CrcP).init % 2 ^ (⟨16, 0x1021, 0xFFFF, false, false, 0⟩ : CrcP).w ∧ (⟨16, 0x1021, 0xFFFF, false, false, 0⟩ : CrcP).xorout % 2 ^ (⟨16, 0x1021, 0xFFFF, false, false, 0⟩ : CrcP).w = (⟨16, 0xABC1021, 0x5FFFF, false, false, 0x30000⟩ : CrcP).xorout % 2 ^ (⟨16, 0x1021, 0xFFFF, false, false, 0⟩ : CrcP).w := by decide
theorem wit_expectedBelowWidth : 5 % 2 ^ (wCv 0 {}).cvW 4 = (5 + 2 ^ 40) % 2 ^ (wCv 0 {}).cvW 4 := by decide +kernel
theorem wit_instructionFrame : (JOp.add, Instr.add) ∈ stagingOps ∧
    (wJ .add ⟨5, 6, 0, 0, false, 0x40, 0xFFFFFFFE⟩ {} wR).executes 5 5 (JOp.add, Instr.add).1 ⟨5, 6, 0, 0, false, 0x40, 0xFFFFFFFE⟩ wR :=
  ⟨by simp [stagingOps], by decide +kernel⟩
theorem wit_unitsApart : partsOf (.edgeFifoRead 5 0 0) = some [.ave] ∧ State.reset.wf = true := by decide +kernel
theorem wit_refusedKeeps : ringCmd (.oduRemove 5 { wDesc with hcp := 0x200 } 4) = some (5, { wDesc with hcp := 0x200 }) ∧ wRing.cmdReady 5 { wDesc with hcp := 0x200 } = false ∧ wRing.wf = true := by decide +kernel
theorem wit_privilegedRefused : privCmd (.oduRemove 5 wDesc 4) = some (5, wDesc, 0x0201) ∧ (wRing.rset Reg.KSK_PAIR_STAT_ROLE 1).cmdReady 5 wDesc = true ∧ (wRing.rset Reg.KSK_PAIR_STAT_ROLE 1).role ≠ 0 ∧
    (wRing.rset Reg.KSK_PAIR_STAT_ROLE 1).role ≠ 2 ∧ (wRing.rset Reg.KSK_PAIR_STAT_ROLE 1).wf = true := by decide +kernel
theorem wit_registerWrite :
    ((State.reset : State).accessFault (⟨1, 2, 0, 0x70, 4⟩ : Access) = none) ∧
    ((⟨1, 2, 0, 0x70, 4⟩ : Access).size = 4) ∧
    (rowAt (⟨1, 2, 0, 0x70, 4⟩ : Access).off = some ((⟨"SYS_APT_BASE", 0x70, 1, 0x4, 1, 0x4, .plain, 0, [⟨0, 9, .rw, 0, none⟩]⟩ : RegRow), 0, 0)) ∧
    ((⟨"SYS_APT_BASE", 0x70, 1, 0x4, 1, 0x4, .plain, 0, [⟨0, 9, .rw, 0, none⟩]⟩ : RegRow).special = .plain) ∧
    ((⟨"SYS_APT_BASE", 0x70, 1, 0x4, 1, 0x4, .plain, 0, [⟨0, 9, .rw, 0, none⟩]⟩ : RegRow).base ∉ tiedRows) := by decide +kernel
theorem wit_registerWriteTwo :
    ((State.reset : State).accessFault (⟨1, 2, 0, 0x20, 8⟩ : Access) = none) ∧
    ((⟨1, 2, 0, 0x20, 8⟩ : Access).size = 8) ∧
    (rowAt (⟨1, 2, 0, 0x20, 8⟩ : Access).off = some ((⟨"SYS_IRQ_VEC", 0x20, 16, 0x4, 1, 0x4, .plain, 1, [⟨0, 6, .rw, 0, none⟩, ⟨6, 1, .rw, 1, none⟩]⟩ : RegRow), 0, 0) ∧ rowAt ((⟨1, 2, 0, 0x20, 8⟩ : Access).off + 4) = some ((⟨"SYS_IRQ_VEC", 0x20, 16, 0x4, 1, 0x4, .plain, 1, [⟨0, 6, .rw, 0, none⟩, ⟨6, 1, .rw, 1, none⟩]⟩ : RegRow), 1, 0)) ∧
    ((⟨"SYS_IRQ_VEC", 0x20, 16, 0x4, 1, 0x4, .plain, 1, [⟨0, 6, .rw, 0, none⟩, ⟨6, 1, .rw, 1, none⟩]⟩ : RegRow).special = .plain ∧ (⟨"SYS_IRQ_VEC", 0x20, 16, 0x4, 1, 0x4, .plain, 1, [⟨0, 6, .rw, 0, none⟩, ⟨6, 1, .rw, 1, none⟩]⟩ : RegRow).special = .plain) ∧
    ((⟨"SYS_IRQ_VEC", 0x20, 16, 0x4, 1, 0x4, .plain, 1, [⟨0, 6, .rw, 0, none⟩, ⟨6, 1, .rw, 1, none⟩]⟩ : RegRow).base ∉ tiedRows ∧ (⟨"SYS_IRQ_VEC", 0x20, 16, 0x4, 1, 0x4, .plain, 1, [⟨0, 6, .rw, 0, none⟩, ⟨6, 1, .rw, 1, none⟩]⟩ : RegRow).base ∉ tiedRows) := by decide +kernel
theorem wit_vectorUnmasked :
    (({ State.reset with regs := (((State.reset.setWord 0x94 1).setWord 0xA4 1).setWord 0x20 0).regs, irq := { status := 1, cause := 1, armed := 0, pba := 1 } } : State).wf = true) ∧
    (({ State.reset with regs := (((State.reset.setWord 0x94 1).setWord 0xA4 1).setWord 0x20 0).regs, irq := { status := 1, cause := 1, armed := 0, pba := 1 } } : State).accessFault (⟨1, 2, 0, 0x800C, 4⟩ : Access) = none) ∧
    ((⟨1, 2, 0, 0x800C, 4⟩ : Access).size = 4) ∧
    (0 < 64) ∧
    ((⟨1, 2, 0, 0x800C, 4⟩ : Access).off = Reg.MSIX_CTRL 0) ∧
    (({ State.reset with regs := (((State.reset.setWord 0x94 1).setWord 0xA4 1).setWord 0x20 0).regs, irq := { status := 1, cause := 1, armed := 0, pba := 1 } } : State).irq.pba.getLsbD 0 = true) ∧
    (({ State.reset with regs := (((State.reset.setWord 0x94 1).setWord 0xA4 1).setWord 0x20 0).regs, irq := { status := 1, cause := 1, armed := 0, pba := 1 } } : State).irq.cause.getLsbD 0 = true ∧ ({ State.reset with regs := (((State.reset.setWord 0x94 1).setWord 0xA4 1).setWord 0x20 0).regs, irq := { status := 1, cause := 1, armed := 0, pba := 1 } } : State).settled = true) ∧
    (bit 0 0 = false) := by decide +kernel
theorem wit_statusWrite :
    (({ State.reset with stat := [(0x94, { sets := [(0, 3)] })], regs := [(0x94, 1)] } : State).accessFault (⟨1, 2, 0, 0x94, 4⟩ : Access) = none) ∧
    (statusBlock (⟨1, 2, 0, 0x94, 4⟩ : Access).off = some 0) ∧
    (0 < 32) := by decide +kernel
theorem wit_rcFieldRead :
    ((State.reset : State).accessFault (⟨1, 2, 0, 0x70, 4⟩ : Access) = none) ∧
    ((⟨1, 2, 0, 0x70, 4⟩ : Access).size = 4) ∧
    (rowAt (⟨1, 2, 0, 0x70, 4⟩ : Access).off = some ((⟨"SYS_APT_BASE", 0x70, 1, 0x4, 1, 0x4, .plain, 0, [⟨0, 9, .rw, 0, none⟩]⟩ : RegRow), 0, 0)) := by decide +kernel
theorem wit_counterLowerWordRead :
    (({ State.reset with ctrs := [(0x10200, 0x300000007)] } : State).accessFault (⟨1, 2, 0, 0x10200, 4⟩ : Access) = none) ∧
    ((⟨1, 2, 0, 0x10200, 4⟩ : Access).size = 4) ∧
    (isCounter (⟨1, 2, 0, 0x10200, 4⟩ : Access).off = true) ∧
    (({ State.reset with ctrs := [(0x10200, 0x300000007)] } : State).readsZero (⟨1, 2, 0, 0x10200, 4⟩ : Access).off = false) := by decide +kernel
theorem wit_bar2Read :
    ((⟨1, 2, 2, 0x1000000, 64⟩ : Access).bar = 2) ∧
    ((⟨1, 2, 2, 0x1000000, 64⟩ : Access).off < 0x10000000) ∧
    (4 ≤ (⟨1, 2, 2, 0x1000000, 64⟩ : Access).size ∧ (⟨1, 2, 2, 0x1000000, 64⟩ : Access).size ≤ 512 ∧ (⟨1, 2, 2, 0x1000000, 64⟩ : Access).off % 4 = 0) := by decide +kernel
theorem wit_accessRefused :
    ((State.reset : State).accessFault (⟨1, 2, 0, 0x380000, 4⟩ : Access) = some (1, false)) := by decide +kernel
theorem wit_readRefused :
    ((State.reset : State).accessFault (⟨1, 2, 0, 0x380000, 4⟩ : Access) = some (1, false)) := by decide +kernel
theorem wit_bar2ReadRefused :
    ((⟨1, 2, 2, 0x1000000, 2⟩ : Access).bar = 2) ∧
    ((⟨1, 2, 2, 0x1000000, 2⟩ : Access).off < 0x10000000) ∧
    ((⟨1, 2, 2, 0x1000000, 2⟩ : Access).size < 4 ∨ 512 < (⟨1, 2, 2, 0x1000000, 2⟩ : Access).size ∨ (⟨1, 2, 2, 0x1000000, 2⟩ : Access).off % 4 ≠ 0) := by decide +kernel
theorem wit_overrunIgnored :
    ((State.reset : State).accessFault (⟨1, 2, 0, 0x20020, 4⟩ : Access) = none) ∧
    ((⟨1, 2, 0, 0x20020, 4⟩ : Access).off = Reg.CMD_PI) ∧
    (2 ^ (State.reset : State).ringLog < idxDiff (17 % 65536) ((State.reset : State).rget Reg.CMD_CI_V)) := by decide +kernel
theorem wit_baseRefused :
    ((State.reset.rsetb Reg.HCQ_CTL_EN true : State).accessFault (⟨1, 2, 0, 0x20010, 4⟩ : Access) = none) ∧
    (Reg.CMD_BASE_LO ≤ (⟨1, 2, 0, 0x20010, 4⟩ : Access).off ∧ (⟨1, 2, 0, 0x20010, 4⟩ : Access).off ≤ Reg.CPL_BASE_HI) ∧
    ((State.reset.rsetb Reg.HCQ_CTL_EN true : State).rbit Reg.HCQ_CTL_EN = true) := by decide +kernel
theorem wit_cmdPiWrite :
    ((State.reset : State).accessFault (⟨1, 2, 0, 0x20020, 4⟩ : Access) = none) ∧
    ((⟨1, 2, 0, 0x20020, 4⟩ : Access).off = Reg.CMD_PI) ∧
    (idxDiff (16 % 65536) ((State.reset : State).rget Reg.CMD_CI_V) ≤ 2 ^ (State.reset : State).ringLog) := by decide +kernel
theorem wit_cplCiWrite :
    ((State.reset : State).accessFault (⟨1, 2, 0, 0x2002C, 4⟩ : Access) = none) ∧
    ((⟨1, 2, 0, 0x2002C, 4⟩ : Access).off = Reg.CPL_CI) := by decide +kernel
theorem wit_hcqCtlWrite :
    ((State.reset : State).accessFault (⟨1, 2, 0, 0x20000, 4⟩ : Access) = none) ∧
    ((⟨1, 2, 0, 0x20000, 4⟩ : Access).off = Reg.HCQ_CTL) ∧
    ((State.reset : State).rbit Reg.HCQ_CTL_EN = false) := by decide +kernel
theorem wit_ringDisabled :
    ((State.reset.rsetb Reg.HCQ_CTL_EN true : State).accessFault (⟨1, 2, 0, 0x20000, 4⟩ : Access) = none) ∧
    ((⟨1, 2, 0, 0x20000, 4⟩ : Access).off = Reg.HCQ_CTL) ∧
    ((State.reset.rsetb Reg.HCQ_CTL_EN true : State).rbit Reg.HCQ_CTL_EN = true ∧ bits 8 1 4 = (State.reset.rsetb Reg.HCQ_CTL_EN true : State).rget Reg.HCQ_CTL_RING_LOG2) ∧
    (bit 8 0 = false) ∧
    ((State.reset.rsetb Reg.HCQ_CTL_EN true : State).hcq.exec = none) := by decide +kernel
theorem wit_hcqBaseWrite :
    ((State.reset : State).accessFault (⟨1, 2, 0, 0x20010, 4⟩ : Access) = none) ∧
    ((⟨1, 2, 0, 0x20010, 4⟩ : Access).size = 4) ∧
    ((⟨1, 2, 0, 0x20010, 4⟩ : Access).off ∈ [Reg.CMD_BASE_LO, Reg.CMD_BASE_HI, Reg.CPL_BASE_LO, Reg.CPL_BASE_HI]) ∧
    ((State.reset : State).rbit Reg.HCQ_CTL_EN = false) := by decide +kernel
theorem wit_sysIrqAckWrite :
    (({ State.reset with regs := (((State.reset.setWord 0x94 1).setWord 0xA4 1).setWord 0x20 0).regs, irq := { status := 1, cause := 1, armed := 0, pba := 0 } } : State).wf = true) ∧
    (({ State.reset with regs := (((State.reset.setWord 0x94 1).setWord 0xA4 1).setWord 0x20 0).regs, irq := { status := 1, cause := 1, armed := 0, pba := 0 } } : State).accessFault (⟨1, 2, 0, 0x60, 4⟩ : Access) = none) ∧
    ((⟨1, 2, 0, 0x60, 4⟩ : Access).off = Reg.SYS_IRQ_ACK) ∧
    (0 < 64) := by decide +kernel
theorem wit_hello :
    ((wHeldLease (((State.reset.rsetb Reg.HCQ_CTL_EN true).rsetb Reg.HCQ_STAT_READY true).rset Reg.CMD_PI_V 1) : State).ringReady 5 = true) ∧
    ((wHeldLease (((State.reset.rsetb Reg.HCQ_CTL_EN true).rsetb Reg.HCQ_STAT_READY true).rset Reg.CMD_PI_V 1) : State).rbit Reg.HCQ_STAT_HELLO_DONE = false) ∧
    ((⟨7, 0, none, false⟩ : Desc).resv = none ∧ (⟨7, 0, none, false⟩ : Desc).fetchFail = false) ∧
    ((wHeldLease (((State.reset.rsetb Reg.HCQ_CTL_EN true).rsetb Reg.HCQ_STAT_READY true).rset Reg.CMD_PI_V 1) : State).hcq.journal = []) ∧
    (commonOf (wHeldLease (((State.reset.rsetb Reg.HCQ_CTL_EN true).rsetb Reg.HCQ_STAT_READY true).rset Reg.CMD_PI_V 1) : State).red.hcpRange 0x01000000 = some 256) := by decide +kernel
theorem wit_journalReplayed :
    (({ wHeldLease (((State.reset.rsetb Reg.HCQ_CTL_EN true).rsetb Reg.HCQ_STAT_READY true).rset Reg.CMD_PI_V 1) with hcq := { journal := [⟨3, 0, 2, 0, 0, 0⟩] } } : State).ringReady 5 = true) ∧
    (({ wHeldLease (((State.reset.rsetb Reg.HCQ_CTL_EN true).rsetb Reg.HCQ_STAT_READY true).rset Reg.CMD_PI_V 1) with hcq := { journal := [⟨3, 0, 2, 0, 0, 0⟩] } } : State).rbit Reg.HCQ_STAT_HELLO_DONE = false) ∧
    ((⟨7, 0, none, false⟩ : Desc).resv = none ∧ (⟨7, 0, none, false⟩ : Desc).fetchFail = false) ∧
    (commonOf ({ wHeldLease (((State.reset.rsetb Reg.HCQ_CTL_EN true).rsetb Reg.HCQ_STAT_READY true).rset Reg.CMD_PI_V 1) with hcq := { journal := [⟨3, 0, 2, 0, 0, 0⟩] } } : State).red.hcpRange 0x01000000 = some 256) := by decide +kernel
theorem wit_noCommonVersion :
    ((wHeldLease (((State.reset.rsetb Reg.HCQ_CTL_EN true).rsetb Reg.HCQ_STAT_READY true).rset Reg.CMD_PI_V 1) : State).ringReady 5 = true) ∧
    ((wHeldLease (((State.reset.rsetb Reg.HCQ_CTL_EN true).rsetb Reg.HCQ_STAT_READY true).rset Reg.CMD_PI_V 1) : State).rbit Reg.HCQ_STAT_HELLO_DONE = false) ∧
    ((⟨7, 0, none, false⟩ : Desc).resv = none ∧ (⟨7, 0, none, false⟩ : Desc).fetchFail = false) ∧
    (commonOf (wHeldLease (((State.reset.rsetb Reg.HCQ_CTL_EN true).rsetb Reg.HCQ_STAT_READY true).rset Reg.CMD_PI_V 1) : State).red.hcpRange 0x02000000 = none) := by decide +kernel
theorem wit_versionRange :
    (wRing.cmdReady 5 wDesc = true) ∧
    (2 ≤ 3) ∧
    (2 = 2 → 159 < 160 ∨ 159 = 0xFF) ∧
    (narrows (if 2 = 2 then 0x01000200 else 0x01000000) 0x01000100 = true) ∧
    (0x01000100 < 2 ^ 32) := by decide +kernel
theorem wit_setDevid :
    (wRing.cmdReady 5 wDesc = true) ∧
    ((List.range 160).any wRing.alEnabled = false) := by decide +kernel
theorem wit_undefinedOpcode :
    (wRing.cmdReady 5 wDesc = true) := by decide +kernel
theorem wit_edgeFifoWrite :
    (wLifOn.turned 0 = false ∧ wLifOn.portOff 0 = false) ∧
    ((wLifOn.fifo 0 0).length < wLifOn.fifoDepth 0) := by decide +kernel
theorem wit_offDomainIsSilent :
    (wLif.portOff 0 = true ∧ State.reset.portOff 130 = true ∧ State.reset.domOn (72 + 287 / 16) = false ∧ State.reset.domOn 97 = false ∧
      State.reset.domOn 90 = false) := by decide +kernel
theorem wit_edgeFifoOverflow :
    (((State.reset.placeSlice 0 (some 4)).rset (Reg.PLZ_SLOT_MAP_PHYS 4) 9 : State).turned 0 = false ∧
      ((State.reset.placeSlice 0 (some 4)).rset (Reg.PLZ_SLOT_MAP_PHYS 4) 9 : State).portOff 0 = false) ∧
    (((State.reset.placeSlice 0 (some 4)).rset (Reg.PLZ_SLOT_MAP_PHYS 4) 9 : State).fifoDepth 0 ≤ (((State.reset.placeSlice 0 (some 4)).rset (Reg.PLZ_SLOT_MAP_PHYS 4) 9 : State).fifo 0 0).length) ∧
    (0 < 448) ∧
    (wTokIn.slice < 256 ∨ 256 ≤ wTokIn.key) := by decide +kernel
theorem wit_edgeFifoRead :
    ((wFifo State.reset (1024 + 7) [(wTok, [])]).fillAt 7 0 = none) ∧
    ((wFifo State.reset (1024 + 7) [(wTok, [])]).loopAt 7 1 = false ∧ (wFifo State.reset (1024 + 7) [(wTok, [])]).turned 7 = false ∧ (wFifo State.reset (1024 + 7) [(wTok, [])]).portOff 7 = false) ∧
    ((wFifo State.reset (1024 + 7) [(wTok, [])]).fifo 1 7 = (wTok, ([] : List Dest)) :: ([] : List (Token × List Dest))) := by decide +kernel
theorem wit_edgeFifoUnderflow :
    (((State.reset.placeSlice 0 (some 4)).rset (Reg.PLZ_SLOT_MAP_PHYS 4) 9 : State).fillAt 0 0 = none) ∧
    (((State.reset.placeSlice 0 (some 4)).rset (Reg.PLZ_SLOT_MAP_PHYS 4) 9 : State).loopAt 0 1 = false ∧
      ((State.reset.placeSlice 0 (some 4)).rset (Reg.PLZ_SLOT_MAP_PHYS 4) 9 : State).turned 0 = false ∧
      ((State.reset.placeSlice 0 (some 4)).rset (Reg.PLZ_SLOT_MAP_PHYS 4) 9 : State).portOff 0 = false) ∧
    (((State.reset.placeSlice 0 (some 4)).rset (Reg.PLZ_SLOT_MAP_PHYS 4) 9 : State).fifo 1 0 = []) ∧
    (0 < 448) ∧
    (0 < 256) := by decide +kernel
theorem wit_edgeFifoReplaced :
    (({ State.reset with map := { State.reset.map with odu := [(4, { lckTx := true })] } } : State).fillAt 7 260 = some FillKind.lck ∧
      ({ State.reset with map := { State.reset.map with odu := [(4, { lckTx := true })] } } : State).portOff 7 = false) := by decide +kernel
theorem wit_edgeFifoReplaced2 :
    ((State.reset.rset (Reg.PWR_DOM_STATE 80) 2).fillAt 130 0 = some FillKind.localFault ∧
      (State.reset.rset (Reg.PWR_DOM_STATE 80) 2).portOff 130 = false) := by decide +kernel
theorem wit_facilityLoopback :
    ((wFifo (wLifOn.rset (Reg.LIN_LANE_STAT_LOOPBACK 0) 1) 1024 [(wTok, [])]).fillAt 0 0 = none) ∧
    ((wFifo (wLifOn.rset (Reg.LIN_LANE_STAT_LOOPBACK 0) 1) 1024 [(wTok, [])]).loopAt 0 1 = true ∧
      (wFifo (wLifOn.rset (Reg.LIN_LANE_STAT_LOOPBACK 0) 1) 1024 [(wTok, [])]).portOff 0 = false) ∧
    ((wFifo (wLifOn.rset (Reg.LIN_LANE_STAT_LOOPBACK 0) 1) 1024 [(wTok, [])]).fifo 1 0 = (wTok, ([] : List Dest)) :: ([] : List (Token × List Dest))) := by decide +kernel
theorem wit_kerbBuffer :
    (3 < 36 ∧ 0 < 2) ∧
    (((wFifo wAve 7 [(wTokIn, [⟨6, 0, 0⟩])]).fifo 0 7).find? (fun x => (x.2.any fun q => q.pipe == 3 * 2 + 0) && (wFifo wAve 7 [(wTokIn, [⟨6, 0, 0⟩])]).clearWay x.1) = some (wTokIn, ([⟨6, 0, 0⟩] : List Dest))) ∧
    ((([⟨6, 0, 0⟩] : List Dest).filter fun q => q.pipe = 3 * 2 + 0) = [(⟨6, 0, 0⟩ : Dest)]) ∧
    (((wFifo wAve 7 [(wTokIn, [⟨6, 0, 0⟩])]).pipe 3 0).kerb.length < 256 ∧ (wFifo wAve 7 [(wTokIn, [⟨6, 0, 0⟩])]).aveOut 3 = false) ∧
    (toSliceStage wTokIn = true ∨ (⟨6, 0, 0⟩ : Dest).key < 256 ∨ (wFifo wAve 7 [(wTokIn, [⟨6, 0, 0⟩])]).tribBroken ((⟨6, 0, 0⟩ : Dest).key - 256) = false) := by decide +kernel
theorem wit_kerbFull :
    (3 < 36 ∧ 0 < 2) ∧
    (256 ≤ ((wPipe { kerb := List.replicate 256 wTokIn }).pipe 3 0).kerb.length ∧ (wPipe { kerb := List.replicate 256 wTokIn }).aveOut 3 = false) := by decide +kernel
theorem wit_stageFilled : (3 < 36 ∧ 0 < 2 ∧ 1 < 2) ∧ 0 ≤ Config.stagesLess1 ∧ wKerb.aveOut 3 = false ∧ (wKerb.pipe 3 0).at_ 1 0 = none ∧
    (if 0 = 0 then (wKerb.pipe 3 0).kerb[(wKerb.pipe 3 0).took 1]? else (wKerb.pipe 3 0).at_ 1 (0 - 1)) = some wTok :=
  ⟨by decide, Nat.zero_le _, by decide +kernel, by decide +kernel, by decide +kernel⟩
theorem wit_tokenTransfer :
    (((wExit { valid := true, out := 2 ^ 28 + 9, slot0 := 0 } wTokRx).pipe 3 0).out = some wTokRx) ∧
    (2 ≤ wTokRx.leg) ∧
    ((wExit { valid := true, out := 2 ^ 28 + 9, slot0 := 0 } wTokRx).forwarded 3 wTokRx = true) ∧
    ((wExit { valid := true, out := 2 ^ 28 + 9, slot0 := 0 } wTokRx).exitWay wTokRx = .one [136] ∧ 136 ∈ [136]) ∧
    (((wExit { valid := true, out := 2 ^ 28 + 9, slot0 := 0 } wTokRx).fifo 1 136).length < (wExit { valid := true, out := 2 ^ 28 + 9, slot0 := 0 } wTokRx).fifoDepth 136) := by decide +kernel
theorem wit_tokenBridged :
    (((wExit { valid := true, out := 2 ^ 28 + 9, outB := 2 ^ 28 + 10, slot0 := 0 } wTokRx).pipe 3 0).out = some wTokRx) ∧
    (2 ≤ wTokRx.leg) ∧
    ((wExit { valid := true, out := 2 ^ 28 + 9, outB := 2 ^ 28 + 10, slot0 := 0 } wTokRx).forwarded 3 wTokRx = true) ∧
    ((wExit { valid := true, out := 2 ^ 28 + 9, outB := 2 ^ 28 + 10, slot0 := 0 } wTokRx).exitWay wTokRx = .two [136] [137] ∧ 136 ∈ [136] ∧ 137 ∈ [137] ∧ 136 ≠ 137) ∧
    (((wExit { valid := true, out := 2 ^ 28 + 9, outB := 2 ^ 28 + 10, slot0 := 0 } wTokRx).fifo 1 136).length < (wExit { valid := true, out := 2 ^ 28 + 9, outB := 2 ^ 28 + 10, slot0 := 0 } wTokRx).fifoDepth 136 ∧
      ((wExit { valid := true, out := 2 ^ 28 + 9, outB := 2 ^ 28 + 10, slot0 := 0 } wTokRx).fifo 1 137).length < (wExit { valid := true, out := 2 ^ 28 + 9, outB := 2 ^ 28 + 10, slot0 := 0 } wTokRx).fifoDepth 137) := by decide +kernel
theorem wit_tokenKept :
    (((wExit { valid := true, slot0 := 5 } wTokRx).pipe 3 0).out = some wTokRx) ∧
    (2 ≤ wTokRx.leg) := by decide +kernel
theorem wit_tokenKept_overlap : (wExit { valid := true, slot0 := 5 } wTokRx).forwarded 3 wTokRx = false := by decide +kernel
theorem wit_tokenKept_away : (wExit { valid := true, slot0 := 0 } wTokRx).forwarded 3 wTokRx = true ∧
    (wExit { valid := true, slot0 := 0 } wTokRx).exitWay wTokRx = .away := by decide +kernel
theorem wit_tokenKept_selector : ((wExit { valid := true, slot0 := 0, cls := 2, partner := 9 } wTokRx).setCn 0 9 { valid := true, cls := 2, partner := 4 }).exitWay wTokRx =
    .selector := by decide +kernel
/-- The last stage of a half. -/
def wLast : State := wPipe { st := [(2 * Config.stagesLess1, wTokIn)] }
theorem wit_tokenOffered :
    (3 < 36 ∧ 0 < 2 ∧ 0 < 2) ∧
    (wLast.aveOut 3 = false) ∧
    ((wLast.pipe 3 0).at_ 0 Config.stagesLess1 = some wTokIn) ∧
    (((wLast.pipe 3 0).skew 0).length < 64) :=
  ⟨by decide, by decide +kernel, by simp [wLast, wPipe, State.pipe, tget, PipeH.at_], by decide +kernel⟩
/-- A token between its stages: Avenue 3 serves the slot of its slice. -/
def wMid : State := (wExit { valid := true, slot0 := 0 } { wTokRx with leg := 1 }).placeSlice 0 (some 0)
theorem wit_tokenPassed :
    (3 < 36 ∧ 0 < 2) ∧
    ((wMid.pipe 3 0).out = some { wTokRx with leg := 1 }) ∧
    (({ wTokRx with leg := 1 } : Token).leg < 2) ∧
    (wMid.forwarded 3 { wTokRx with leg := 1 } = true) ∧
    ((wMid.pipe 3 0).held = []) ∧
    (∀ p ∈ wMid.nextDests { wTokRx with leg := 1 }, wMid.aveOut (p.pipe / 2) = false ∧
      (wMid.pipe (p.pipe / 2) (p.pipe % 2)).kerb.length < 256) := by decide +kernel
theorem wit_medianCompare :
    ((({ State.reset with ave := { State.reset.ave with pipes := [(6, { skA := [⟨0, 0, true, 2, 0, true, none, 1, 0, none⟩], skB := [⟨0, 0, true, 2, 0, true, none, 1, 0, none⟩] })] } } : State).pipe 3 0).skA = (⟨0, 0, true, 2, 0, true, none, 1, 0, none⟩ : Token) :: ([] : List Token)) ∧
    ((({ State.reset with ave := { State.reset.ave with pipes := [(6, { skA := [⟨0, 0, true, 2, 0, true, none, 1, 0, none⟩], skB := [⟨0, 0, true, 2, 0, true, none, 1, 0, none⟩] })] } } : State).pipe 3 0).skB = (⟨0, 0, true, 2, 0, true, none, 1, 0, none⟩ : Token) :: ([] : List Token)) ∧
    ((({ State.reset with ave := { State.reset.ave with pipes := [(6, { skA := [⟨0, 0, true, 2, 0, true, none, 1, 0, none⟩], skB := [⟨0, 0, true, 2, 0, true, none, 1, 0, none⟩] })] } } : State).pipe 3 0).out = none) := by decide +kernel
theorem wit_paceGateEnd :
    (35 < 36) := by decide +kernel
theorem wit_shedRestore :
    (3 < 36 ∧ 0 < 2) ∧
    ((({ State.reset with map := { State.reset.map with odu := [(4, { type := 5, broken := some ⟨1, 2, 0⟩ })] }, ave := { State.reset.ave with pipes := [(6, { shed := [4], restored := some 0 })] } } : State).pipe 3 0).restored = some 0 ∧ 0 + ms 10 ≤ (ms 10 : Nat)) ∧
    (nextRestore ({ State.reset with map := { State.reset.map with odu := [(4, { type := 5, broken := some ⟨1, 2, 0⟩ })] }, ave := { State.reset.ave with pipes := [(6, { shed := [4], restored := some 0 })] } } : State) ((({ State.reset with map := { State.reset.map with odu := [(4, { type := 5, broken := some ⟨1, 2, 0⟩ })] }, ave := { State.reset.ave with pipes := [(6, { shed := [4], restored := some 0 })] } } : State).pipe 3 0).shed.filter fun x => (({ State.reset with map := { State.reset.map with odu := [(4, { type := 5, broken := some ⟨1, 2, 0⟩ })] }, ave := { State.reset.ave with pipes := [(6, { shed := [4], restored := some 0 })] } } : State).odu x).broken.isSome) = some 4) := by decide +kernel
theorem wit_calibration :
    (35 < 36 ∧ 1 < 2 ∧ 12 ≤ 12) ∧
    ((State.reset.half 35 1).calAt = 0 ∨ (State.reset.half 35 1).calAt + us 9500 ≤ 7) := by decide +kernel
theorem wit_delayCodeApply :
    (3 < 36 ∧ 1 < 2 ∧ 1 < 2 ∧ 0 ≤ Config.stagesLess1) ∧
    ((({ State.reset with ave := { State.reset.ave with halves := [(7, { cur := [(1, 5)], tgt := [(1, 2)] })] } } : State).pipe 3 1).at_ 1 0 = none) :=
  ⟨⟨by decide, by decide, by decide, Nat.zero_le _⟩, by decide +kernel⟩
theorem wit_delayCodeHeld :
    (((wPipe { st := [(1, wTok)] }).pipe 3 0).at_ 1 0).isSome = true := by decide +kernel
theorem wit_calStale :
    (35 < 36 ∧ 1 < 2) ∧
    (((State.reset : State).half 35 1).calAt + ms 30 ≤ (ms 30 : Nat)) := by decide +kernel
theorem wit_calAbsent :
    (3 < 36 ∧ 1 < 2) ∧
    ((wAve.half 3 1).calAt + ms 100 ≤ (ms 100 : Nat)) ∧
    (wAve.fenceable 3 = true) := by decide +kernel
theorem wit_tokensDiffer :
    (3 < 36) ∧
    ((({ wAve with ave := { State.reset.ave with pipes := [(6, { skA := [⟨0, 0, true, 2, 0, true, none, 1, 0, none⟩], skB := [⟨0, 0, true, 2, 0, true, none, 3, 0, none⟩] })] } } : State).pipe 3 0).skA = (⟨0, 0, true, 2, 0, true, none, 1, 0, none⟩ : Token) :: ([] : List Token)) ∧
    ((({ wAve with ave := { State.reset.ave with pipes := [(6, { skA := [⟨0, 0, true, 2, 0, true, none, 1, 0, none⟩], skB := [⟨0, 0, true, 2, 0, true, none, 3, 0, none⟩] })] } } : State).pipe 3 0).skB = (⟨0, 0, true, 2, 0, true, none, 3, 0, none⟩ : Token) :: ([] : List Token)) ∧
    ((⟨0, 0, true, 2, 0, true, none, 1, 0, none⟩ : Token) ≠ (⟨0, 0, true, 2, 0, true, none, 3, 0, none⟩ : Token)) ∧
    (({ wAve with ave := { State.reset.ave with pipes := [(6, { skA := [⟨0, 0, true, 2, 0, true, none, 1, 0, none⟩], skB := [⟨0, 0, true, 2, 0, true, none, 3, 0, none⟩] })] } } : State).fenceable 3 = true) := by decide +kernel
/-- Context 12300 of slot 3, which Avenue 3 serves, runs. -/
def wRun3 : State :=
  ({ wAve with jrm := { wAve.jrm with ctx := [(12300, { state := 1, nextRel := 9, run := some wR })], cur := [(24, 12301)] } } : State).rset
    (Reg.PLZ_SLOT_MAP_PHYS 3) 3
theorem wit_changesDiffer :
    (wRun3.ctxAve 12300 < 36) ∧
    (wRun3.running 5 12300 = some wR) ∧
    (wRun3.fenceable (wRun3.ctxAve 12300) = true) := by decide +kernel
/-- 64 tokens of half 0 that half 1 has not matched, and one more. -/
def wSkew : State := wPipe { skA := List.replicate 64 wTokIn, st := [(2 * Config.stagesLess1, wTokIn)] }
theorem wit_skewOverflow :
    (3 < 36 ∧ 0 < 2) ∧
    (((wSkew.pipe 3 0).skew 0).length = 64 ∧ (wSkew.pipe 3 0).skew (1 - 0) = []) ∧
    ((wSkew.pipe 3 0).at_ 0 Config.stagesLess1 = some wTokIn) ∧
    (wSkew.fenceable 3 = true) :=
  ⟨by decide, by decide +kernel, by simp [wSkew, wPipe, State.pipe, tget, PipeH.at_], by decide +kernel⟩
theorem wit_stallTimeout :
    (3 < 36) ∧
    ((({ wAve with ave := { State.reset.ave with pipes := [(6, { kerb := [⟨0, 0, true, 2, 0, true, none, 1, 0, none⟩] })] } } : State).pipe 3 0).kerb ≠ [] ∨ ({ wAve with ave := { State.reset.ave with pipes := [(6, { kerb := [⟨0, 0, true, 2, 0, true, none, 1, 0, none⟩] })] } } : State).offered (3 * 2 + 0) = true) ∧
    ((({ wAve with ave := { State.reset.ave with pipes := [(6, { kerb := [⟨0, 0, true, 2, 0, true, none, 1, 0, none⟩] })] } } : State).pipe 3 0).since + us 1 ≤ (us 1 : Nat)) ∧
    (({ wAve with ave := { State.reset.ave with pipes := [(6, { kerb := [⟨0, 0, true, 2, 0, true, none, 1, 0, none⟩] })] } } : State).fenceable 3 = true) := by decide +kernel
theorem wit_selfError :
    (3 < 36 ∧ 0 < 2) ∧
    (wAve.fenceable 3 = true) := by decide +kernel
theorem wit_checkpointSeal :
    ((ns 8000 : Nat) % ns 8000 = 0) ∧
    (31 < 32) := by decide +kernel
theorem wit_spareRelease :
    (0 < 32) ∧
    ((({ State.reset with jrm := { State.reset.jrm with ctx := [(9, { state := 1 })] } } : State).rset (Reg.AVE_MED_STAT_STATE 0) 5 : State).rbit (Reg.PLZ_SLOT_MAP_FENCED 0) = false) ∧
    ((({ State.reset with jrm := { State.reset.jrm with ctx := [(9, { state := 1 })] } } : State).rset (Reg.AVE_MED_STAT_STATE 0) 5 : State).aveState ((({ State.reset with jrm := { State.reset.jrm with ctx := [(9, { state := 1 })] } } : State).rset (Reg.AVE_MED_STAT_STATE 0) 5 : State).phys 0) = 5) ∧
    ((({ State.reset with jrm := { State.reset.jrm with ctx := [(9, { state := 1 })] } } : State).rset (Reg.AVE_MED_STAT_STATE 0) 5 : State).phys 0 < 36) := by decide +kernel
theorem wit_fenceFillEnd :
    (0 < 2) ∧
    (((({ State.reset with plz := { State.reset.plz with conn := [(4, { valid := true, aisFill := true })] } } : State).rset (Reg.AVE_MED_STAT_STATE 0) 0 : State).cn 0 4).aisFill = true) ∧
    ((({ State.reset with plz := { State.reset.plz with conn := [(4, { valid := true, aisFill := true })] } } : State).rset (Reg.AVE_MED_STAT_STATE 0) 0 : State).servedNow 0 4 = true) := by decide +kernel
theorem wit_avenueRepairComplete :
    (35 < 36) ∧
    ((State.reset : State).aveState 35 = 3 ∨ (State.reset : State).aveState 35 = 2 ∧ (((State.reset : State).av 35).fences.filter fun x => 5 < x + sec 86400).length < 3) ∧
    ((State.reset : State).ave.exh = [] ∧ (State.reset : State).ave.rot = none) := by decide +kernel
theorem wit_avenueRetired :
    (35 < 36) ∧
    (((State.reset : State).aveState 35 = 3 ∨ (State.reset : State).aveState 35 = 2) ∧ (true = false ∨ false = false) ∨ (State.reset : State).aveState 35 = 2 ∧ 3 ≤ (((State.reset : State).av 35).fences.filter fun x => 5 < x + sec 86400).length) ∧
    ((State.reset : State).ave.rot = none) := by decide +kernel
theorem wit_add :
    ((wJ .add (⟨5, 6, 0, 0, false, 0x40, 0xFFFFFFFE⟩) {} wR : State).executes 5 5 .add (⟨5, 6, 0, 0, false, 0x40, 0xFFFFFFFE⟩ : JWord) wR) := by decide +kernel
theorem wit_sub :
    ((wJ .sub (⟨5, 6, 7, 0, false, 1, 0⟩) {} wR : State).executes 5 5 .sub (⟨5, 6, 7, 0, false, 1, 0⟩ : JWord) wR) := by decide +kernel
theorem wit_and :
    ((wJ .and (⟨5, 6, 7, 0, false, 2, 0⟩) {} wR : State).executes 5 5 .and (⟨5, 6, 7, 0, false, 2, 0⟩ : JWord) wR) := by decide +kernel
theorem wit_or :
    ((wJ .or (⟨5, 6, 7, 0, false, 3, 0⟩) {} wR : State).executes 5 5 .or (⟨5, 6, 7, 0, false, 3, 0⟩ : JWord) wR) := by decide +kernel
theorem wit_xor :
    ((wJ .xor (⟨5, 6, 7, 0, false, 4, 0⟩) {} wR : State).executes 5 5 .xor (⟨5, 6, 7, 0, false, 4, 0⟩ : JWord) wR) := by decide +kernel
theorem wit_shl :
    ((wJ .shl (⟨5, 6, 7, 0, false, 5, 0⟩) {} wR : State).executes 5 5 .shl (⟨5, 6, 7, 0, false, 5, 0⟩ : JWord) wR) := by decide +kernel
theorem wit_shr :
    ((wJ .shr (⟨5, 6, 7, 0, false, 6, 0⟩) {} wR : State).executes 5 5 .shr (⟨5, 6, 7, 0, false, 6, 0⟩ : JWord) wR) := by decide +kernel
theorem wit_sar :
    ((wJ .sar (⟨5, 6, 7, 0, false, 7, 0⟩) {} wR : State).executes 5 5 .sar (⟨5, 6, 7, 0, false, 7, 0⟩ : JWord) wR) := by decide +kernel
theorem wit_mul :
    ((wJ .mul (⟨5, 6, 7, 0, false, 8, 0⟩) {} wR : State).executes 5 5 .mul (⟨5, 6, 7, 0, false, 8, 0⟩ : JWord) wR) := by decide +kernel
theorem wit_minu :
    ((wJ .minu (⟨5, 6, 7, 0, false, 9, 0⟩) {} wR : State).executes 5 5 .minu (⟨5, 6, 7, 0, false, 9, 0⟩ : JWord) wR) := by decide +kernel
theorem wit_maxu :
    ((wJ .maxu (⟨5, 6, 7, 0, false, 10, 0⟩) {} wR : State).executes 5 5 .maxu (⟨5, 6, 7, 0, false, 10, 0⟩ : JWord) wR) := by decide +kernel
theorem wit_addsu :
    ((wJ .addsu (⟨5, 6, 7, 0, false, 11, 0⟩) {} wR : State).executes 5 5 .addsu (⟨5, 6, 7, 0, false, 11, 0⟩ : JWord) wR) := by decide +kernel
theorem wit_subsu :
    ((wJ .subsu (⟨5, 6, 7, 0, false, 12, 0⟩) {} wR : State).executes 5 5 .subsu (⟨5, 6, 7, 0, false, 12, 0⟩ : JWord) wR) := by decide +kernel
theorem wit_registerFile : wR.g.length = 32 := by decide
theorem wit_mov :
    ((wJ .mov (⟨5, 6, 0, 0, false, 16, 0⟩) {} wR : State).executes 5 5 .mov (⟨5, 6, 0, 0, false, 16, 0⟩ : JWord) wR) := by decide +kernel
theorem wit_not :
    ((wJ .not (⟨5, 6, 0, 0, false, 17, 0⟩) {} wR : State).executes 5 5 .not (⟨5, 6, 0, 0, false, 17, 0⟩ : JWord) wR) := by decide +kernel
theorem wit_popc :
    ((wJ .popc (⟨5, 6, 0, 0, false, 18, 0⟩) {} wR : State).executes 5 5 .popc (⟨5, 6, 0, 0, false, 18, 0⟩ : JWord) wR) := by decide +kernel
theorem wit_clz :
    ((wJ .clz (⟨5, 6, 0, 0, false, 19, 0⟩) {} wR : State).executes 5 5 .clz (⟨5, 6, 0, 0, false, 19, 0⟩ : JWord) wR) := by decide +kernel
theorem wit_bswap :
    ((wJ .bswap (⟨5, 6, 0, 0, false, 20, 0⟩) {} wR : State).executes 5 5 .bswap (⟨5, 6, 0, 0, false, 20, 0⟩ : JWord) wR) := by decide +kernel
theorem wit_ldih :
    ((wJ .ldih (⟨5, 0, 0, 0, false, 0x59, 0x12345678⟩) {} wR : State).executes 5 5 .ldih (⟨5, 0, 0, 0, false, 0x59, 0x12345678⟩ : JWord) wR) := by decide +kernel
theorem wit_bext :
    ((wJ .bext (⟨5, 6, 0, 0, false, 0x5A, 0x3FF⟩) {} wR : State).executes 5 5 .bext (⟨5, 6, 0, 0, false, 0x5A, 0x3FF⟩ : JWord) wR) := by decide +kernel
theorem wit_bins :
    ((wJ .bins (⟨5, 6, 0, 0, false, 0x5B, 0x3FF⟩) {} wR : State).executes 5 5 .bins (⟨5, 6, 0, 0, false, 0x5B, 0x3FF⟩ : JWord) wR) := by decide +kernel
theorem wit_nop :
    ((wJ .nop (⟨0, 0, 0, 0, false, 0, 0⟩) {} wR : State).executes 5 5 .nop (⟨0, 0, 0, 0, false, 0, 0⟩ : JWord) wR) := by decide +kernel
theorem wit_cmp :
    ((wJ .cmp (⟨5, 6, 0, 0, false, 0x44, 0xFFFFFFFE⟩) {} wR : State).executes 5 5 .cmp (⟨5, 6, 0, 0, false, 0x44, 0xFFFFFFFE⟩ : JWord) wR) := by decide +kernel
theorem wit_pand :
    ((wJ .pand (⟨5, 6, 7, 0, false, 0, 0⟩) {} wR : State).executes 5 5 .pand (⟨5, 6, 7, 0, false, 0, 0⟩ : JWord) wR) := by decide +kernel
theorem wit_por :
    ((wJ .por (⟨5, 6, 7, 0, false, 1, 0⟩) {} wR : State).executes 5 5 .por (⟨5, 6, 7, 0, false, 1, 0⟩ : JWord) wR) := by decide +kernel
theorem wit_pxor :
    ((wJ .pxor (⟨5, 6, 7, 0, false, 2, 0⟩) {} wR : State).executes 5 5 .pxor (⟨5, 6, 7, 0, false, 2, 0⟩ : JWord) wR) := by decide +kernel
theorem wit_pandn :
    ((wJ .pandn (⟨5, 6, 7, 0, false, 3, 0⟩) {} wR : State).executes 5 5 .pandn (⟨5, 6, 7, 0, false, 3, 0⟩ : JWord) wR) := by decide +kernel
theorem wit_pset :
    ((wJ .pset (⟨5, 0, 0, 0, false, 4, 1⟩) {} wR : State).executes 5 5 .pset (⟨5, 0, 0, 0, false, 4, 1⟩ : JWord) wR) := by decide +kernel
theorem wit_prdv :
    ((wJ .prdv (⟨5, 0, 0, 0, false, 5, 0⟩) {} wR : State).executes 5 5 .prdv (⟨5, 0, 0, 0, false, 5, 0⟩ : JWord) wR) := by decide +kernel
theorem wit_pwrv :
    ((wJ .pwrv (⟨0, 6, 0, 0, false, 6, 0⟩) {} wR : State).executes 5 5 .pwrv (⟨0, 6, 0, 0, false, 6, 0⟩ : JWord) wR) := by decide +kernel
theorem wit_guardFalse :
    ((JOp.add, Instr.add) ∈ stagingOps) ∧
    ((wJ .add (⟨5, 6, 7, 3, true, 0, 0⟩) {} wR : State).running 5 5 = some wR ∧ atWord ((wJ .add (⟨5, 6, 7, 3, true, 0, 0⟩) {} wR : State).cx 5) wR (JOp.add, Instr.add).1 (⟨5, 6, 7, 3, true, 0, 0⟩ : JWord) = true) ∧
    (guardHolds wR (⟨5, 6, 7, 3, true, 0, 0⟩ : JWord) = false) ∧
    (wR.steps + 1 ≤ ((wJ .add (⟨5, 6, 7, 3, true, 0, 0⟩) {} wR : State).cx 5).bind.wcsc) :=
  ⟨by simp [stagingOps], by decide +kernel⟩
theorem wit_budgetTrap :
    ((JOp.nop, Instr.nop) ∈ computeOps) ∧
    ((wJ .nop (⟨0, 0, 0, 0, false, 0, 0⟩) {} { wR with steps := 100 } : State).running 5 5 = some ({ wR with steps := 100 } : RunSt) ∧ atWord ((wJ .nop (⟨0, 0, 0, 0, false, 0, 0⟩) {} { wR with steps := 100 } : State).cx 5) ({ wR with steps := 100 } : RunSt) (JOp.nop, Instr.nop).1 (⟨0, 0, 0, 0, false, 0, 0⟩ : JWord) = true) ∧
    (guardHolds ({ wR with steps := 100 } : RunSt) (⟨0, 0, 0, 0, false, 0, 0⟩ : JWord) = true) ∧
    (((wJ .nop (⟨0, 0, 0, 0, false, 0, 0⟩) {} { wR with steps := 100 } : State).cx 5).bind.wcsc < ({ wR with steps := 100 } : RunSt).steps + (JOp.nop, Instr.nop).1.cost) :=
  ⟨by simp [computeOps], by decide +kernel⟩
theorem wit_br :
    ((wJ2 .br (⟨0, 0, 0, 0, false, 0, 1⟩) wR : State).executes 5 5 .br (⟨0, 0, 0, 0, false, 0, 1⟩ : JWord) wR) ∧
    (1 ≤ (⟨0, 0, 0, 0, false, 0, 1⟩ : JWord).imm.toNat ∧ (⟨0, 0, 0, 0, false, 0, 1⟩ : JWord).imm.toNat ≤ 8191 ∧ wR.pc + (⟨0, 0, 0, 0, false, 0, 1⟩ : JWord).imm.toNat < ((wJ2 .br (⟨0, 0, 0, 0, false, 0, 1⟩) wR : State).cx 5).bind.code.length) := by decide +kernel
theorem wit_call :
    ((wJ .call (⟨0, 0, 0, 0, false, 0, 9⟩) {} wR : State).executes 5 5 .call (⟨0, 0, 0, 0, false, 0, 9⟩ : JWord) wR) ∧
    (wR.stack.length < 8) := by decide +kernel
theorem wit_ret :
    ((wJ .ret (⟨0, 0, 0, 0, false, 0, 0⟩) {} { wR with stack := [9] } : State).executes 5 5 .ret (⟨0, 0, 0, 0, false, 0, 0⟩ : JWord) ({ wR with stack := [9] } : RunSt)) ∧
    (({ wR with stack := [9] } : RunSt).stack = 9 :: ([] : List Nat)) := by decide +kernel
theorem wit_lset :
    ((wJ .lset (⟨2, 0, 0, 0, false, 0, 65535⟩) {} wR : State).executes 5 5 .lset (⟨2, 0, 0, 0, false, 0, 65535⟩ : JWord) wR) ∧
    (1 ≤ (⟨2, 0, 0, 0, false, 0, 65535⟩ : JWord).imm.toNat ∧ (⟨2, 0, 0, 0, false, 0, 65535⟩ : JWord).imm.toNat ≤ 65535) := by decide +kernel
theorem wit_loop :
    ((wJ2 .loop (⟨2, 0, 0, 0, false, 0, 1⟩) { wR with pc := 1, sl := [0, 0, 3, 0] } : State).executes 5 5 .loop (⟨2, 0, 0, 0, false, 0, 1⟩ : JWord) ({ wR with pc := 1, sl := [0, 0, 3, 0] } : RunSt)) ∧
    (1 ≤ (⟨2, 0, 0, 0, false, 0, 1⟩ : JWord).imm.toNat ∧ (⟨2, 0, 0, 0, false, 0, 1⟩ : JWord).imm.toNat ≤ 8191 ∧ (⟨2, 0, 0, 0, false, 0, 1⟩ : JWord).imm.toNat ≤ ({ wR with pc := 1, sl := [0, 0, 3, 0] } : RunSt).pc) ∧
    (3 = (({ wR with pc := 1, sl := [0, 0, 3, 0] } : RunSt).sl.getD ((⟨2, 0, 0, 0, false, 0, 1⟩ : JWord).dst.toNat % 4) 0).toNat) := by decide +kernel
theorem wit_controlTraps :
    ((wJ .br (⟨0, 0, 0, 0, false, 0, 1⟩) {} wR : State).running 5 5 = some wR) ∧
    (atWord ((wJ .br (⟨0, 0, 0, 0, false, 0, 1⟩) {} wR : State).cx 5) wR .br (⟨0, 0, 0, 0, false, 0, 1⟩ : JWord) = true) ∧
    (guardHolds wR (⟨0, 0, 0, 0, false, 0, 1⟩ : JWord) = true) ∧
    ((⟨0, 0, 0, 0, false, 0, 1⟩ : JWord).imm.toNat = 0 ∨ 8191 < (⟨0, 0, 0, 0, false, 0, 1⟩ : JWord).imm.toNat ∨ ((wJ .br (⟨0, 0, 0, 0, false, 0, 1⟩) {} wR : State).cx 5).bind.code.length ≤ wR.pc + (⟨0, 0, 0, 0, false, 0, 1⟩ : JWord).imm.toNat) := by decide +kernel
theorem wit_stackTraps :
    ((wJ .call (⟨0, 0, 0, 0, false, 0, 1⟩) {} { wR with stack := [0,0,0,0,0,0,0,0] } : State).running 5 5 = some ({ wR with stack := [0,0,0,0,0,0,0,0] } : RunSt)) ∧
    (atWord ((wJ .call (⟨0, 0, 0, 0, false, 0, 1⟩) {} { wR with stack := [0,0,0,0,0,0,0,0] } : State).cx 5) ({ wR with stack := [0,0,0,0,0,0,0,0] } : RunSt) .call (⟨0, 0, 0, 0, false, 0, 1⟩ : JWord) = true) ∧
    (guardHolds ({ wR with stack := [0,0,0,0,0,0,0,0] } : RunSt) (⟨0, 0, 0, 0, false, 0, 1⟩ : JWord) = true) ∧
    (8 ≤ ({ wR with stack := [0,0,0,0,0,0,0,0] } : RunSt).stack.length) := by decide +kernel
theorem wit_emptyStackTraps :
    ((wJ .ret (⟨0, 0, 0, 0, false, 0, 0⟩) {} wR : State).running 5 5 = some wR) ∧
    (atWord ((wJ .ret (⟨0, 0, 0, 0, false, 0, 0⟩) {} wR : State).cx 5) wR .ret (⟨0, 0, 0, 0, false, 0, 0⟩ : JWord) = true) ∧
    (guardHolds wR (⟨0, 0, 0, 0, false, 0, 0⟩ : JWord) = true) ∧
    (wR.stack = []) := by decide +kernel
theorem wit_lsetTraps :
    ((wJ .lset (⟨2, 0, 0, 0, false, 0, 65536⟩) {} wR : State).running 5 5 = some wR) ∧
    (atWord ((wJ .lset (⟨2, 0, 0, 0, false, 0, 65536⟩) {} wR : State).cx 5) wR .lset (⟨2, 0, 0, 0, false, 0, 65536⟩ : JWord) = true) ∧
    (guardHolds wR (⟨2, 0, 0, 0, false, 0, 65536⟩ : JWord) = true) ∧
    ((⟨2, 0, 0, 0, false, 0, 65536⟩ : JWord).imm.toNat = 0 ∨ 65535 < (⟨2, 0, 0, 0, false, 0, 65536⟩ : JWord).imm.toNat) := by decide +kernel
theorem wit_loopTraps :
    ((wJ .loop (⟨2, 0, 0, 0, false, 0, 1⟩) {} wR : State).running 5 5 = some wR) ∧
    (atWord ((wJ .loop (⟨2, 0, 0, 0, false, 0, 1⟩) {} wR : State).cx 5) wR .loop (⟨2, 0, 0, 0, false, 0, 1⟩ : JWord) = true) ∧
    (guardHolds wR (⟨2, 0, 0, 0, false, 0, 1⟩ : JWord) = true) ∧
    ((⟨2, 0, 0, 0, false, 0, 1⟩ : JWord).imm.toNat = 0 ∨ 8191 < (⟨2, 0, 0, 0, false, 0, 1⟩ : JWord).imm.toNat ∨ wR.pc < (⟨2, 0, 0, 0, false, 0, 1⟩ : JWord).imm.toNat) := by decide +kernel
theorem wit_illegalInstruction :
    ((wJ .add (⟨0, 0, 0, 0, false, 0x0D, 0⟩) {} wR : State).running 5 5 = some wR) ∧
    ((((wJ .add (⟨0, 0, 0, 0, false, 0x0D, 0⟩) {} wR : State).cx 5).bind.code[wR.pc]?.bind jdec) = none) := by decide +kernel
theorem wit_ld :
    ((wJ .ld (⟨5, 0, 0, 0, false, 2, 8⟩) {} wR : State).executes 5 5 .ld (⟨5, 0, 0, 0, false, 2, 8⟩ : JWord) wR) ∧
    (accAddr (⟨5, 0, 0, 0, false, 2, 8⟩ : JWord) wR + accSize (⟨5, 0, 0, 0, false, 2, 8⟩ : JWord) ≤ 0x1000 ∧ accAddr (⟨5, 0, 0, 0, false, 2, 8⟩ : JWord) wR % accSize (⟨5, 0, 0, 0, false, 2, 8⟩ : JWord) = 0) := by decide +kernel
theorem wit_prm :
    ((wJ .prm (⟨5, 0, 0, 0, false, 3, 8⟩) {} wR : State).executes 5 5 .prm (⟨5, 0, 0, 0, false, 3, 8⟩ : JWord) wR) ∧
    (accAddr (⟨5, 0, 0, 0, false, 3, 8⟩ : JWord) wR % accSize (⟨5, 0, 0, 0, false, 3, 8⟩ : JWord) = 0) := by decide +kernel
theorem wit_ohr :
    ((wJ .ohr (⟨5, 0, 0, 0, false, 1, 8⟩) {} wR : State).executes 5 5 .ohr (⟨5, 0, 0, 0, false, 1, 8⟩ : JWord) wR) ∧
    (accAddr (⟨5, 0, 0, 0, false, 1, 8⟩ : JWord) wR % accSize (⟨5, 0, 0, 0, false, 1, 8⟩ : JWord) = 0 ∧ accAddr (⟨5, 0, 0, 0, false, 1, 8⟩ : JWord) wR < 0x100) := by decide +kernel
theorem wit_tld :
    ((wJ .tld (⟨5, 0, 0, 0, false, 3, 0x40⟩) { bind := { tt := [(9, 1)] } } wR : State).executes 5 5 .tld (⟨5, 0, 0, 0, false, 3, 0x40⟩ : JWord) wR) ∧
    (accAddr (⟨5, 0, 0, 0, false, 3, 0x40⟩ : JWord) wR % accSize (⟨5, 0, 0, 0, false, 3, 0x40⟩ : JWord) = 0 ∧ accAddr (⟨5, 0, 0, 0, false, 3, 0x40⟩ : JWord) wR < 0x800) ∧
    (ttSlot ((wJ .tld (⟨5, 0, 0, 0, false, 3, 0x40⟩) { bind := { tt := [(9, 1)] } } wR : State).cx 5) (accAddr (⟨5, 0, 0, 0, false, 3, 0x40⟩ : JWord) wR / 256) = some (9, 1)) := by decide +kernel
theorem wit_st :
    ((wJ .st (⟨0, 0, 7, 0, false, 3, 8⟩) {} wR : State).executes 5 5 .st (⟨0, 0, 7, 0, false, 3, 8⟩ : JWord) wR) ∧
    (accAddr (⟨0, 0, 7, 0, false, 3, 8⟩ : JWord) wR + accSize (⟨0, 0, 7, 0, false, 3, 8⟩ : JWord) ≤ 0x1000 ∧ accAddr (⟨0, 0, 7, 0, false, 3, 8⟩ : JWord) wR % accSize (⟨0, 0, 7, 0, false, 3, 8⟩ : JWord) = 0) := by decide +kernel
theorem wit_tst :
    ((wJ .tst (⟨0, 0, 7, 0, false, 3, 0x40⟩) { bind := { tt := [(9, 1)] } } wR : State).executes 5 5 .tst (⟨0, 0, 7, 0, false, 3, 0x40⟩ : JWord) wR) ∧
    (accAddr (⟨0, 0, 7, 0, false, 3, 0x40⟩ : JWord) wR % accSize (⟨0, 0, 7, 0, false, 3, 0x40⟩ : JWord) = 0 ∧ accAddr (⟨0, 0, 7, 0, false, 3, 0x40⟩ : JWord) wR < 0x800) ∧
    (ttSlot ((wJ .tst (⟨0, 0, 7, 0, false, 3, 0x40⟩) { bind := { tt := [(9, 1)] } } wR : State).cx 5) (accAddr (⟨0, 0, 7, 0, false, 3, 0x40⟩ : JWord) wR / 256) = some (9, 1)) ∧
    (∀ k < accSize (⟨0, 0, 7, 0, false, 3, 0x40⟩ : JWord), rolePermits 1 (accAddr (⟨0, 0, 7, 0, false, 3, 0x40⟩ : JWord) wR % 256 + k) = true) := by decide +kernel
theorem wit_ohw :
    ((wJ .ohw (⟨0, 0, 7, 0, false, 1, 8⟩) {} wR : State).executes 5 5 .ohw (⟨0, 0, 7, 0, false, 1, 8⟩ : JWord) wR) ∧
    (accAddr (⟨0, 0, 7, 0, false, 1, 8⟩ : JWord) wR % accSize (⟨0, 0, 7, 0, false, 1, 8⟩ : JWord) = 0 ∧ accAddr (⟨0, 0, 7, 0, false, 1, 8⟩ : JWord) wR < 0x40) := by decide +kernel
theorem wit_memoryTraps :
    ((wJ .ld (⟨5, 0, 0, 0, false, 3, 0x1000⟩) {} wR : State).running 5 5 = some wR) ∧
    (atWord ((wJ .ld (⟨5, 0, 0, 0, false, 3, 0x1000⟩) {} wR : State).cx 5) wR .ld (⟨5, 0, 0, 0, false, 3, 0x1000⟩ : JWord) = true) ∧
    (guardHolds wR (⟨5, 0, 0, 0, false, 3, 0x1000⟩ : JWord) = true) ∧
    (0x1000 < accAddr (⟨5, 0, 0, 0, false, 3, 0x1000⟩ : JWord) wR + accSize (⟨5, 0, 0, 0, false, 3, 0x1000⟩ : JWord) ∨ accAddr (⟨5, 0, 0, 0, false, 3, 0x1000⟩ : JWord) wR % accSize (⟨5, 0, 0, 0, false, 3, 0x1000⟩ : JWord) ≠ 0) := by decide +kernel
theorem wit_memoryTraps2 :
    ((wJ .ld (⟨5, 0, 0, 0, false, 3, 1⟩) {} wR : State).running 5 5 = some wR) ∧
    (atWord ((wJ .ld (⟨5, 0, 0, 0, false, 3, 1⟩) {} wR : State).cx 5) wR .ld (⟨5, 0, 0, 0, false, 3, 1⟩ : JWord) = true) ∧
    (guardHolds wR (⟨5, 0, 0, 0, false, 3, 1⟩ : JWord) = true) ∧
    (0x1000 < accAddr (⟨5, 0, 0, 0, false, 3, 1⟩ : JWord) wR + accSize (⟨5, 0, 0, 0, false, 3, 1⟩ : JWord) ∨ accAddr (⟨5, 0, 0, 0, false, 3, 1⟩ : JWord) wR % accSize (⟨5, 0, 0, 0, false, 3, 1⟩ : JWord) ≠ 0) := by decide +kernel
theorem wit_memoryAccess : accAddr ⟨5, 0, 0, 0, false, 3, 8⟩ wR % accSize ⟨5, 0, 0, 0, false, 3, 8⟩ = 0 := by decide +kernel
theorem wit_intgStepRun :
    ((wJ .intgStep ⟨5, 6, 0, 0, false, 0, 16⟩ { bind := { tt := [(9, 1)] } } wR : State).executes 5 5 .intgStep (⟨5, 6, 0, 0, false, 0, 16⟩ : JWord) wR) ∧
    (ttSlot ((wJ .intgStep ⟨5, 6, 0, 0, false, 0, 16⟩ { bind := { tt := [(9, 1)] } } wR : State).cx 5) ((⟨5, 6, 0, 0, false, 0, 16⟩ : JWord).imm.toNat % 8) = some (9, 1) ∧ 1 ≠ 0) ∧
    (2 = (⟨5, 6, 0, 0, false, 0, 16⟩ : JWord).imm.toNat / 8 % 16 ∧ 2 ≤ 8) ∧
    ((intgStep (intgOfNat (readLe ((wJ .intgStep ⟨5, 6, 0, 0, false, 0, 16⟩ { bind := { tt := [(9, 1)] } } wR).tabByte wR) (9 * 256 + intgOfs 2) 8)) ((wR.reg 6).getLsbD 0) (sdtsm wR.rel) ((wJ .intgStep ⟨5, 6, 0, 0, false, 0, 16⟩ { bind := { tt := [(9, 1)] } } wR).tabByte wR (9 * 256 + 0x33)).toNat ((wJ .intgStep ⟨5, 6, 0, 0, false, 0, 16⟩ { bind := { tt := [(9, 1)] } } wR).tabByte wR (9 * 256 + 0x34)).toNat : IntgOut) = intgStep (intgOfNat (readLe ((wJ .intgStep ⟨5, 6, 0, 0, false, 0, 16⟩ { bind := { tt := [(9, 1)] } } wR : State).tabByte wR) (9 * 256 + intgOfs 2) 8)) ((wR.reg (⟨5, 6, 0, 0, false, 0, 16⟩ : JWord).s1).getLsbD 0) (sdtsm wR.rel) ((wJ .intgStep ⟨5, 6, 0, 0, false, 0, 16⟩ { bind := { tt := [(9, 1)] } } wR : State).tabByte wR (9 * 256 + 0x33)).toNat ((wJ .intgStep ⟨5, 6, 0, 0, false, 0, 16⟩ { bind := { tt := [(9, 1)] } } wR : State).tabByte wR (9 * 256 + 0x34)).toNat) ∧
    (wR.evs.length + (intgStep (intgOfNat (readLe ((wJ .intgStep ⟨5, 6, 0, 0, false, 0, 16⟩ { bind := { tt := [(9, 1)] } } wR).tabByte wR) (9 * 256 + intgOfs 2) 8)) ((wR.reg 6).getLsbD 0) (sdtsm wR.rel) ((wJ .intgStep ⟨5, 6, 0, 0, false, 0, 16⟩ { bind := { tt := [(9, 1)] } } wR).tabByte wR (9 * 256 + 0x33)).toNat ((wJ .intgStep ⟨5, 6, 0, 0, false, 0, 16⟩ { bind := { tt := [(9, 1)] } } wR).tabByte wR (9 * 256 + 0x34)).toNat : IntgOut).logs.length ≤ 32) := by decide +kernel
theorem wit_intgSeedRun :
    ((wJ .intgSeed ⟨5, 0, 0, 0, false, 1, 16⟩ { bind := { tt := [(9, 1)] } } wR : State).executes 5 5 .intgSeed (⟨5, 0, 0, 0, false, 1, 16⟩ : JWord) wR) ∧
    (ttSlot ((wJ .intgSeed ⟨5, 0, 0, 0, false, 1, 16⟩ { bind := { tt := [(9, 1)] } } wR : State).cx 5) ((⟨5, 0, 0, 0, false, 1, 16⟩ : JWord).imm.toNat % 8) = some (9, 1) ∧ 1 ≠ 0) ∧
    (2 = (⟨5, 0, 0, 0, false, 1, 16⟩ : JWord).imm.toNat / 8 % 16 ∧ 2 ≤ 8) ∧
    ((intgSeed (intgOfNat (readLe ((wJ .intgSeed ⟨5, 0, 0, 0, false, 1, 16⟩ { bind := { tt := [(9, 1)] } } wR).tabByte wR) (9 * 256 + intgOfs 2) 8)) (sdtsm wR.rel) : IntgOut) = intgSeed (intgOfNat (readLe ((wJ .intgSeed ⟨5, 0, 0, 0, false, 1, 16⟩ { bind := { tt := [(9, 1)] } } wR : State).tabByte wR) (9 * 256 + intgOfs 2) 8)) (sdtsm wR.rel)) ∧
    (wR.evs.length + (intgSeed (intgOfNat (readLe ((wJ .intgSeed ⟨5, 0, 0, 0, false, 1, 16⟩ { bind := { tt := [(9, 1)] } } wR).tabByte wR) (9 * 256 + intgOfs 2) 8)) (sdtsm wR.rel) : IntgOut).logs.length ≤ 32) := by decide +kernel
theorem wit_integratorRule : (intgOfNat 0).state < 2 := by decide
theorem wit_pmadd :
    (({ wJ .pmadd (⟨0, 6, 0, 0, false, 0, 16⟩) { bind := { tt := [(9, 1)] } } wR with pm := { State.reset.pm with ent := [(9, { en := true })] } } : State).executes 5 5 .pmadd (⟨0, 6, 0, 0, false, 0, 16⟩ : JWord) wR) ∧
    (ttSlot (({ wJ .pmadd (⟨0, 6, 0, 0, false, 0, 16⟩) { bind := { tt := [(9, 1)] } } wR with pm := { State.reset.pm with ent := [(9, { en := true })] } } : State).cx 5) ((⟨0, 6, 0, 0, false, 0, 16⟩ : JWord).imm.toNat % 8) = some (9, 1)) ∧
    ((({ wJ .pmadd (⟨0, 6, 0, 0, false, 0, 16⟩) { bind := { tt := [(9, 1)] } } wR with pm := { State.reset.pm with ent := [(9, { en := true })] } } : State).pmE 9).carries (({ wJ .pmadd (⟨0, 6, 0, 0, false, 0, 16⟩) { bind := { tt := [(9, 1)] } } wR with pm := { State.reset.pm with ent := [(9, { en := true })] } } : State).layer 9) ((⟨0, 6, 0, 0, false, 0, 16⟩ : JWord).imm.toNat / 16 % 8) = true) := by decide +kernel
theorem wit_evt :
    ((wJ .evt (⟨0, 6, 7, 0, false, 6, 0x7FF⟩) {} wR : State).executes 5 5 .evt (⟨0, 6, 7, 0, false, 6, 0x7FF⟩ : JWord) wR) ∧
    (wR.evs.length < 32) := by decide +kernel
theorem wit_tset :
    ((wJ .tset (⟨2, 6, 0, 0, false, 0, 0xFFFFFFFF⟩) {} wR : State).executes 5 5 .tset (⟨2, 6, 0, 0, false, 0, 0xFFFFFFFF⟩ : JWord) wR) ∧
    ((sdtsn wR.rel + wR.reg 6 + BitVec.ofNat 64 0xFFFFFFFF : DWord) = sdtsn wR.rel + wR.reg (⟨2, 6, 0, 0, false, 0, 0xFFFFFFFF⟩ : JWord).s1 + BitVec.ofNat 64 (⟨2, 6, 0, 0, false, 0, 0xFFFFFFFF⟩ : JWord).imm.toNat) := by decide +kernel
theorem wit_ttst :
    ((wJ .ttst (⟨2, 1, 0, 0, false, 1, 0⟩) {} wR : State).executes 5 5 .ttst (⟨2, 1, 0, 0, false, 1, 0⟩ : JWord) wR) ∧
    ((wR.st.getD 1 0 : DWord) = wR.st.getD ((⟨2, 1, 0, 0, false, 1, 0⟩ : JWord).s1.toNat % 4) 0) := by decide +kernel
theorem wit_tclr :
    ((wJ .tclr (⟨2, 0, 0, 0, false, 2, 0⟩) {} wR : State).executes 5 5 .tclr (⟨2, 0, 0, 0, false, 2, 0⟩ : JWord) wR) := by decide +kernel
theorem wit_trd :
    ((wJ .trd (⟨2, 0, 0, 0, false, 5, 0⟩) {} wR : State).executes 5 5 .trd (⟨2, 0, 0, 0, false, 5, 0⟩ : JWord) wR) := by decide +kernel
theorem wit_srd :
    ((wJ .srd (⟨2, 11, 0, 0, false, 0, 0⟩) {} wR : State).executes 5 5 .srd (⟨2, 11, 0, 0, false, 0, 0⟩ : JWord) wR) := by decide +kernel
theorem wit_push :
    (({ wJ .push (⟨0, 0, 0, 0, false, 0, 0⟩) { bind := { qs := [(20, 3)] } } wR with que := { State.reset.que with qs := [(20, { mode := 1, cap := 8, items := [] })] } } : State).executes 5 5 .push (⟨0, 0, 0, 0, false, 0, 0⟩ : JWord) wR) ∧
    ((wR.reg (⟨0, 0, 0, 0, false, 0, 0⟩ : JWord).s1).toNat % 32 = 0 ∧ (wR.reg (⟨0, 0, 0, 0, false, 0, 0⟩ : JWord).s1).toNat + 32 ≤ 0x1000) ∧
    (qBound ({ wJ .push (⟨0, 0, 0, 0, false, 0, 0⟩) { bind := { qs := [(20, 3)] } } wR with que := { State.reset.que with qs := [(20, { mode := 1, cap := 8, items := [] })] } } : State) (({ wJ .push (⟨0, 0, 0, 0, false, 0, 0⟩) { bind := { qs := [(20, 3)] } } wR with que := { State.reset.que with qs := [(20, { mode := 1, cap := 8, items := [] })] } } : State).cx 5) (⟨0, 0, 0, 0, false, 0, 0⟩ : JWord) false (some 1) = some 20) ∧
    (stagedWords wR < 64) := by decide +kernel
theorem wit_pop :
    (({ wJ .pop (⟨5, 0, 0, 0, false, 0, 0⟩) { bind := { qs := [(20, 3)] } } wR with que := { State.reset.que with qs := [(20, { mode := 1, cap := 8, items := [{ data := 7, kind := 1, dts := 0 }] })] } } : State).executes 5 5 .pop (⟨5, 0, 0, 0, false, 0, 0⟩ : JWord) wR) ∧
    ((wR.reg (⟨5, 0, 0, 0, false, 0, 0⟩ : JWord).s1).toNat % 32 = 0 ∧ (wR.reg (⟨5, 0, 0, 0, false, 0, 0⟩ : JWord).s1).toNat + 32 ≤ 0x1000) ∧
    (qBound ({ wJ .pop (⟨5, 0, 0, 0, false, 0, 0⟩) { bind := { qs := [(20, 3)] } } wR with que := { State.reset.que with qs := [(20, { mode := 1, cap := 8, items := [{ data := 7, kind := 1, dts := 0 }] })] } } : State) (({ wJ .pop (⟨5, 0, 0, 0, false, 0, 0⟩) { bind := { qs := [(20, 3)] } } wR with que := { State.reset.que with qs := [(20, { mode := 1, cap := 8, items := [{ data := 7, kind := 1, dts := 0 }] })] } } : State).cx 5) (⟨5, 0, 0, 0, false, 0, 0⟩ : JWord) true none = some 20) ∧
    ((({ wJ .pop (⟨5, 0, 0, 0, false, 0, 0⟩) { bind := { qs := [(20, 3)] } } wR with que := { State.reset.que with qs := [(20, { mode := 1, cap := 8, items := [{ data := 7, kind := 1, dts := 0 }] })] } } : State).cx 5).shadow = false) ∧
    (wR.pops.length < 16) ∧
    ((({ wJ .pop (⟨5, 0, 0, 0, false, 0, 0⟩) { bind := { qs := [(20, 3)] } } wR with que := { State.reset.que with qs := [(20, { mode := 1, cap := 8, items := [{ data := 7, kind := 1, dts := 0 }] })] } } : State).q 20).items = ({ data := 7, kind := 1, dts := 0 } : QItem) :: ([] : List QItem)) := by decide +kernel
theorem wit_pktb :
    (({ wJ .pktb (⟨0, 0, 7, 0, false, 0, 0⟩) { bind := { qs := [(20, 3)] } } { wR with g := (List.replicate 32 0).set 7 100 } with que := { State.reset.que with qs := [(20, { mode := 2, cap := 8, items := [] })] } } : State).executes 5 5 .pktb (⟨0, 0, 7, 0, false, 0, 0⟩ : JWord) ({ wR with g := (List.replicate 32 0).set 7 100 } : RunSt)) ∧
    ((({ wR with g := (List.replicate 32 0).set 7 100 } : RunSt).reg (⟨0, 0, 7, 0, false, 0, 0⟩ : JWord).s1).toNat % 32 = 0 ∧ (({ wR with g := (List.replicate 32 0).set 7 100 } : RunSt).reg (⟨0, 0, 7, 0, false, 0, 0⟩ : JWord).s1).toNat + 32 ≤ 0x1000) ∧
    (qBound ({ wJ .pktb (⟨0, 0, 7, 0, false, 0, 0⟩) { bind := { qs := [(20, 3)] } } { wR with g := (List.replicate 32 0).set 7 100 } with que := { State.reset.que with qs := [(20, { mode := 2, cap := 8, items := [] })] } } : State) (({ wJ .pktb (⟨0, 0, 7, 0, false, 0, 0⟩) { bind := { qs := [(20, 3)] } } { wR with g := (List.replicate 32 0).set 7 100 } with que := { State.reset.que with qs := [(20, { mode := 2, cap := 8, items := [] })] } } : State).cx 5) (⟨0, 0, 7, 0, false, 0, 0⟩ : JWord) false (some 2) = some 20) ∧
    (openPkt (({ wJ .pktb (⟨0, 0, 7, 0, false, 0, 0⟩) { bind := { qs := [(20, 3)] } } { wR with g := (List.replicate 32 0).set 7 100 } with que := { State.reset.que with qs := [(20, { mode := 2, cap := 8, items := [] })] } } : State).cx 5) ({ wR with g := (List.replicate 32 0).set 7 100 } : RunSt) 20 = none) ∧
    (1 ≤ (({ wR with g := (List.replicate 32 0).set 7 100 } : RunSt).reg (⟨0, 0, 7, 0, false, 0, 0⟩ : JWord).s2).toNat ∧ (({ wR with g := (List.replicate 32 0).set 7 100 } : RunSt).reg (⟨0, 0, 7, 0, false, 0, 0⟩ : JWord).s2).toNat ≤ 16384) ∧
    (stagedWords ({ wR with g := (List.replicate 32 0).set 7 100 } : RunSt) < 64) := by decide +kernel
theorem wit_pktc :
    (({ wJ .pktc (⟨0, 0, 0, 0, false, 0, 0⟩) { bind := { qs := [(20, 3)] }, pkts := [{ queue := 20, len := 100, words := 1 }] } wR with que := { State.reset.que with qs := [(20, { mode := 2, cap := 8, items := [] })] } } : State).executes 5 5 .pktc (⟨0, 0, 0, 0, false, 0, 0⟩ : JWord) wR) ∧
    ((wR.reg (⟨0, 0, 0, 0, false, 0, 0⟩ : JWord).s1).toNat % 32 = 0 ∧ (wR.reg (⟨0, 0, 0, 0, false, 0, 0⟩ : JWord).s1).toNat + 32 ≤ 0x1000) ∧
    (qBound ({ wJ .pktc (⟨0, 0, 0, 0, false, 0, 0⟩) { bind := { qs := [(20, 3)] }, pkts := [{ queue := 20, len := 100, words := 1 }] } wR with que := { State.reset.que with qs := [(20, { mode := 2, cap := 8, items := [] })] } } : State) (({ wJ .pktc (⟨0, 0, 0, 0, false, 0, 0⟩) { bind := { qs := [(20, 3)] }, pkts := [{ queue := 20, len := 100, words := 1 }] } wR with que := { State.reset.que with qs := [(20, { mode := 2, cap := 8, items := [] })] } } : State).cx 5) (⟨0, 0, 0, 0, false, 0, 0⟩ : JWord) false (some 2) = some 20) ∧
    ((openPkt (({ wJ .pktc (⟨0, 0, 0, 0, false, 0, 0⟩) { bind := { qs := [(20, 3)] }, pkts := [{ queue := 20, len := 100, words := 1 }] } wR with que := { State.reset.que with qs := [(20, { mode := 2, cap := 8, items := [] })] } } : State).cx 5) wR 20).isSome = true) ∧
    (stagedWords wR < 64) := by decide +kernel
theorem wit_pkta :
    (({ wJ .pkta (⟨0, 0, 0, 0, false, 0, 0⟩) { bind := { qs := [(20, 3)] }, pkts := [{ queue := 20, len := 100, words := 1 }] } wR with que := { State.reset.que with qs := [(20, { mode := 2, cap := 8, items := [] })] } } : State).executes 5 5 .pkta (⟨0, 0, 0, 0, false, 0, 0⟩ : JWord) wR) ∧
    (qBound ({ wJ .pkta (⟨0, 0, 0, 0, false, 0, 0⟩) { bind := { qs := [(20, 3)] }, pkts := [{ queue := 20, len := 100, words := 1 }] } wR with que := { State.reset.que with qs := [(20, { mode := 2, cap := 8, items := [] })] } } : State) (({ wJ .pkta (⟨0, 0, 0, 0, false, 0, 0⟩) { bind := { qs := [(20, 3)] }, pkts := [{ queue := 20, len := 100, words := 1 }] } wR with que := { State.reset.que with qs := [(20, { mode := 2, cap := 8, items := [] })] } } : State).cx 5) (⟨0, 0, 0, 0, false, 0, 0⟩ : JWord) false (some 2) = some 20) ∧
    ((openPkt (({ wJ .pkta (⟨0, 0, 0, 0, false, 0, 0⟩) { bind := { qs := [(20, 3)] }, pkts := [{ queue := 20, len := 100, words := 1 }] } wR with que := { State.reset.que with qs := [(20, { mode := 2, cap := 8, items := [] })] } } : State).cx 5) wR 20).isSome = true) := by decide +kernel
theorem wit_qlen :
    (({ wJ .qlen (⟨5, 0, 0, 0, false, 0, 0⟩) { bind := { qs := [(20, 3)] } } wR with que := { State.reset.que with qs := [(20, { mode := 1, cap := 8, items := [{ data := 7, kind := 1, dts := 0 }] })] } } : State).executes 5 5 .qlen (⟨5, 0, 0, 0, false, 0, 0⟩ : JWord) wR) ∧
    (qSlot (({ wJ .qlen (⟨5, 0, 0, 0, false, 0, 0⟩) { bind := { qs := [(20, 3)] } } wR with que := { State.reset.que with qs := [(20, { mode := 1, cap := 8, items := [{ data := 7, kind := 1, dts := 0 }] })] } } : State).cx 5) (⟨5, 0, 0, 0, false, 0, 0⟩ : JWord) = some (20, 3)) ∧
    (3 = 1 ∨ 3 = 2 ∨ 3 = 3) ∧
    ((({ wJ .qlen (⟨5, 0, 0, 0, false, 0, 0⟩) { bind := { qs := [(20, 3)] } } wR with que := { State.reset.que with qs := [(20, { mode := 1, cap := 8, items := [{ data := 7, kind := 1, dts := 0 }] })] } } : State).cx 5).shadow = false) := by decide +kernel
theorem wit_waitItem :
    (({ wJ .waitItem (⟨0, 0, 0, 0, false, 0, 0⟩) { bind := { qs := [(20, 3)] } } wR with que := { State.reset.que with qs := [(20, { mode := 1, cap := 8, items := [{ data := 7, kind := 1, dts := 0 }] })] } } : State).executes 5 5 .waitItem (⟨0, 0, 0, 0, false, 0, 0⟩ : JWord) wR) ∧
    (qBound ({ wJ .waitItem (⟨0, 0, 0, 0, false, 0, 0⟩) { bind := { qs := [(20, 3)] } } wR with que := { State.reset.que with qs := [(20, { mode := 1, cap := 8, items := [{ data := 7, kind := 1, dts := 0 }] })] } } : State) (({ wJ .waitItem (⟨0, 0, 0, 0, false, 0, 0⟩) { bind := { qs := [(20, 3)] } } wR with que := { State.reset.que with qs := [(20, { mode := 1, cap := 8, items := [{ data := 7, kind := 1, dts := 0 }] })] } } : State).cx 5) (⟨0, 0, 0, 0, false, 0, 0⟩ : JWord) true none = some 20) ∧
    ((({ wJ .waitItem (⟨0, 0, 0, 0, false, 0, 0⟩) { bind := { qs := [(20, 3)] } } wR with que := { State.reset.que with qs := [(20, { mode := 1, cap := 8, items := [{ data := 7, kind := 1, dts := 0 }] })] } } : State).q 20).items ≠ []) := by decide +kernel
theorem wit_waitItemStalls :
    (({ wJ .waitItem (⟨0, 0, 0, 0, false, 0, 0⟩) { bind := { qs := [(20, 3)] } } wR with que := { State.reset.que with qs := [(20, { mode := 1, cap := 8, items := [] })] } } : State).executes 5 5 .waitItem (⟨0, 0, 0, 0, false, 0, 0⟩ : JWord) wR) ∧
    (qBound ({ wJ .waitItem (⟨0, 0, 0, 0, false, 0, 0⟩) { bind := { qs := [(20, 3)] } } wR with que := { State.reset.que with qs := [(20, { mode := 1, cap := 8, items := [] })] } } : State) (({ wJ .waitItem (⟨0, 0, 0, 0, false, 0, 0⟩) { bind := { qs := [(20, 3)] } } wR with que := { State.reset.que with qs := [(20, { mode := 1, cap := 8, items := [] })] } } : State).cx 5) (⟨0, 0, 0, 0, false, 0, 0⟩ : JWord) true none = some 20) ∧
    ((({ wJ .waitItem (⟨0, 0, 0, 0, false, 0, 0⟩) { bind := { qs := [(20, 3)] } } wR with que := { State.reset.que with qs := [(20, { mode := 1, cap := 8, items := [] })] } } : State).q 20).items = [] ∧ (({ wJ .waitItem (⟨0, 0, 0, 0, false, 0, 0⟩) { bind := { qs := [(20, 3)] } } wR with que := { State.reset.que with qs := [(20, { mode := 1, cap := 8, items := [] })] } } : State).cx 5).shadow = false) := by decide +kernel
theorem wit_waitRoomStalls :
    (({ wJ .waitRoom (⟨0, 0, 0, 0, false, 1, 0⟩) { bind := { qs := [(20, 3)] } } wR with que := { State.reset.que with qs := [(20, { mode := 1, cap := 1, items := [wItem] })] } } : State).executes 5 5 .waitRoom (⟨0, 0, 0, 0, false, 1, 0⟩ : JWord) wR) ∧
    (qBound ({ wJ .waitRoom (⟨0, 0, 0, 0, false, 1, 0⟩) { bind := { qs := [(20, 3)] } } wR with que := { State.reset.que with qs := [(20, { mode := 1, cap := 1, items := [wItem] })] } } : State) (({ wJ .waitRoom (⟨0, 0, 0, 0, false, 1, 0⟩) { bind := { qs := [(20, 3)] } } wR with que := { State.reset.que with qs := [(20, { mode := 1, cap := 1, items := [wItem] })] } } : State).cx 5) (⟨0, 0, 0, 0, false, 1, 0⟩ : JWord) false none = some 20) ∧
    ((({ wJ .waitRoom (⟨0, 0, 0, 0, false, 1, 0⟩) { bind := { qs := [(20, 3)] } } wR with que := { State.reset.que with qs := [(20, { mode := 1, cap := 1, items := [wItem] })] } } : State).q 20).full = true ∧ (({ wJ .waitRoom (⟨0, 0, 0, 0, false, 1, 0⟩) { bind := { qs := [(20, 3)] } } wR with que := { State.reset.que with qs := [(20, { mode := 1, cap := 1, items := [wItem] })] } } : State).cx 5).shadow = false) := by decide +kernel
theorem wit_waitRoom :
    (({ wJ .waitRoom (⟨0, 0, 0, 0, false, 1, 0⟩) { bind := { qs := [(20, 3)] } } wR with que := { State.reset.que with qs := [(20, { mode := 1, cap := 8, items := [] })] } } : State).executes 5 5 .waitRoom (⟨0, 0, 0, 0, false, 1, 0⟩ : JWord) wR) ∧
    (qBound ({ wJ .waitRoom (⟨0, 0, 0, 0, false, 1, 0⟩) { bind := { qs := [(20, 3)] } } wR with que := { State.reset.que with qs := [(20, { mode := 1, cap := 8, items := [] })] } } : State) (({ wJ .waitRoom (⟨0, 0, 0, 0, false, 1, 0⟩) { bind := { qs := [(20, 3)] } } wR with que := { State.reset.que with qs := [(20, { mode := 1, cap := 8, items := [] })] } } : State).cx 5) (⟨0, 0, 0, 0, false, 1, 0⟩ : JWord) false none = some 20) ∧
    ((({ wJ .waitRoom (⟨0, 0, 0, 0, false, 1, 0⟩) { bind := { qs := [(20, 3)] } } wR with que := { State.reset.que with qs := [(20, { mode := 1, cap := 8, items := [] })] } } : State).q 20).full = false) := by decide +kernel
theorem wit_popStalls :
    (({ wJ .pop (⟨5, 0, 0, 0, false, 0, 0⟩) { bind := { qs := [(20, 3)] } } wR with que := { State.reset.que with qs := [(20, { mode := 1, cap := 8, items := [] })] } } : State).executes 5 5 .pop (⟨5, 0, 0, 0, false, 0, 0⟩ : JWord) wR) ∧
    ((wR.reg (⟨5, 0, 0, 0, false, 0, 0⟩ : JWord).s1).toNat % 32 = 0 ∧ (wR.reg (⟨5, 0, 0, 0, false, 0, 0⟩ : JWord).s1).toNat + 32 ≤ 0x1000) ∧
    (qBound ({ wJ .pop (⟨5, 0, 0, 0, false, 0, 0⟩) { bind := { qs := [(20, 3)] } } wR with que := { State.reset.que with qs := [(20, { mode := 1, cap := 8, items := [] })] } } : State) (({ wJ .pop (⟨5, 0, 0, 0, false, 0, 0⟩) { bind := { qs := [(20, 3)] } } wR with que := { State.reset.que with qs := [(20, { mode := 1, cap := 8, items := [] })] } } : State).cx 5) (⟨5, 0, 0, 0, false, 0, 0⟩ : JWord) true none = some 20) ∧
    ((({ wJ .pop (⟨5, 0, 0, 0, false, 0, 0⟩) { bind := { qs := [(20, 3)] } } wR with que := { State.reset.que with qs := [(20, { mode := 1, cap := 8, items := [] })] } } : State).cx 5).shadow = false ∧ wR.pops.length < 16) ∧
    ((({ wJ .pop (⟨5, 0, 0, 0, false, 0, 0⟩) { bind := { qs := [(20, 3)] } } wR with que := { State.reset.que with qs := [(20, { mode := 1, cap := 8, items := [] })] } } : State).q 20).items = []) := by decide +kernel
theorem wit_stallResume :
    ((({ wJ .nop (⟨0, 0, 0, 0, false, 0, 0⟩) { bind := { qs := [(20, 3)] } } { wR with stall := some (.pop 0 0 5) } with que := { State.reset.que with qs := [(20, { mode := 1, cap := 8, items := [{ data := 7, kind := 1, dts := 0 }] })] } } : State).cx 5).state = 1 ∧ 5 < (({ wJ .nop (⟨0, 0, 0, 0, false, 0, 0⟩) { bind := { qs := [(20, 3)] } } { wR with stall := some (.pop 0 0 5) } with que := { State.reset.que with qs := [(20, { mode := 1, cap := 8, items := [{ data := 7, kind := 1, dts := 0 }] })] } } : State).cx 5).nextRel) ∧
    ((({ wJ .nop (⟨0, 0, 0, 0, false, 0, 0⟩) { bind := { qs := [(20, 3)] } } { wR with stall := some (.pop 0 0 5) } with que := { State.reset.que with qs := [(20, { mode := 1, cap := 8, items := [{ data := 7, kind := 1, dts := 0 }] })] } } : State).cx 5).run = some ({ wR with stall := some (.pop 0 0 5) } : RunSt) ∧ ({ wR with stall := some (.pop 0 0 5) } : RunSt).stall = some (.pop 0 0 5)) ∧
    (20 = ((({ wJ .nop (⟨0, 0, 0, 0, false, 0, 0⟩) { bind := { qs := [(20, 3)] } } { wR with stall := some (.pop 0 0 5) } with que := { State.reset.que with qs := [(20, { mode := 1, cap := 8, items := [{ data := 7, kind := 1, dts := 0 }] })] } } : State).cx 5).bind.qs.getD 0 (0, 0)).1) ∧
    ((({ wJ .nop (⟨0, 0, 0, 0, false, 0, 0⟩) { bind := { qs := [(20, 3)] } } { wR with stall := some (.pop 0 0 5) } with que := { State.reset.que with qs := [(20, { mode := 1, cap := 8, items := [{ data := 7, kind := 1, dts := 0 }] })] } } : State).q 20).items = ({ data := 7, kind := 1, dts := 0 } : QItem) :: ([] : List QItem)) := by decide +kernel
theorem wit_stallEnds :
    ((({ wJ .nop (⟨0, 0, 0, 0, false, 0, 0⟩) { bind := { qs := [(20, 3)] } } { wR with stall := some (.room 0) } with que := { State.reset.que with qs := [(20, { mode := 1, cap := 8, items := [] })] } } : State).cx 5).state = 1 ∧ 5 < (({ wJ .nop (⟨0, 0, 0, 0, false, 0, 0⟩) { bind := { qs := [(20, 3)] } } { wR with stall := some (.room 0) } with que := { State.reset.que with qs := [(20, { mode := 1, cap := 8, items := [] })] } } : State).cx 5).nextRel) ∧
    ((({ wJ .nop (⟨0, 0, 0, 0, false, 0, 0⟩) { bind := { qs := [(20, 3)] } } { wR with stall := some (.room 0) } with que := { State.reset.que with qs := [(20, { mode := 1, cap := 8, items := [] })] } } : State).cx 5).run = some ({ wR with stall := some (.room 0) } : RunSt)) ∧
    (({ wR with stall := some (.room 0) } : RunSt).stall = some (.item 0) ∧ (({ wJ .nop (⟨0, 0, 0, 0, false, 0, 0⟩) { bind := { qs := [(20, 3)] } } { wR with stall := some (.room 0) } with que := { State.reset.que with qs := [(20, { mode := 1, cap := 8, items := [] })] } } : State).q ((({ wJ .nop (⟨0, 0, 0, 0, false, 0, 0⟩) { bind := { qs := [(20, 3)] } } { wR with stall := some (.room 0) } with que := { State.reset.que with qs := [(20, { mode := 1, cap := 8, items := [] })] } } : State).cx 5).bind.qs.getD 0 (0, 0)).1).items ≠ [] ∨ ({ wR with stall := some (.room 0) } : RunSt).stall = some (.room 0) ∧ (({ wJ .nop (⟨0, 0, 0, 0, false, 0, 0⟩) { bind := { qs := [(20, 3)] } } { wR with stall := some (.room 0) } with que := { State.reset.que with qs := [(20, { mode := 1, cap := 8, items := [] })] } } : State).q ((({ wJ .nop (⟨0, 0, 0, 0, false, 0, 0⟩) { bind := { qs := [(20, 3)] } } { wR with stall := some (.room 0) } with que := { State.reset.que with qs := [(20, { mode := 1, cap := 8, items := [] })] } } : State).cx 5).bind.qs.getD 0 (0, 0)).1).full = false) := by decide +kernel
theorem wit_contextRelease :
    ((wRelDue.cx 5).state = 1 ∧ 5 < 20) ∧
    ((wRelDue.cx 5).rels = 0 ∨ (wRelDue.cx 5).nextRel ≤ 5) ∧
    (wRelDue.entryKey (wRelDue.cx 5).entry0 = some 4 ∧ wRelDue.frameDue 5 4 (wRelDue.cx 5) = true) ∧
    (wRelDue.roleRuns = true ∧ wRelDue.ctxHeld 5 = false) := by decide +kernel
theorem wit_engineDispatch :
    (({ State.reset with jrm := { State.reset.jrm with ctx := [(5, { state := 1, run := some { wR with started := false } })] } } : State).curCx 0 = none) ∧
    (pickReady (({ State.reset with jrm := { State.reset.jrm with ctx := [(5, { state := 1, run := some { wR with started := false } })] } } : State).ready 0) = some 5) ∧
    ((({ State.reset with jrm := { State.reset.jrm with ctx := [(5, { state := 1, run := some { wR with started := false } })] } } : State).cx 5).run = some ({ wR with started := false } : RunSt)) := by decide +kernel
theorem wit_earliestIsPicked : pickReady [(5, { state := 1 })] = some 5 := by decide
theorem wit_commit :
    ((wJ .commit (⟨0, 0, 0, 0, false, 0, 0⟩) {} { wR with scr := [(3, 7)] } : State).running 5 5 = some ({ wR with scr := [(3, 7)] } : RunSt) ∧ atWord ((wJ .commit (⟨0, 0, 0, 0, false, 0, 0⟩) {} { wR with scr := [(3, 7)] } : State).cx 5) ({ wR with scr := [(3, 7)] } : RunSt) .commit (⟨0, 0, 0, 0, false, 0, 0⟩ : JWord) = true) ∧
    (stdRow ((wJ .commit (⟨0, 0, 0, 0, false, 0, 0⟩) {} { wR with scr := [(3, 7)] } : State).cx 5).bind.routine = none ∧ ({ wR with scr := [(3, 7)] } : RunSt).steps + 8 ≤ ((wJ .commit (⟨0, 0, 0, 0, false, 0, 0⟩) {} { wR with scr := [(3, 7)] } : State).cx 5).bind.wcsc) ∧
    (6 < ((wJ .commit (⟨0, 0, 0, 0, false, 0, 0⟩) {} { wR with scr := [(3, 7)] } : State).cx 5).nextRel) ∧
    (((wJ .commit (⟨0, 0, 0, 0, false, 0, 0⟩) {} { wR with scr := [(3, 7)] } : State).cx 5).shadow = false) ∧
    ((({ wR with scr := [(3, 7)] } : RunSt).scr.map (·.1)).Nodup ∧ (({ wR with scr := [(3, 7)] } : RunSt).tab.map (·.1)).Nodup) := by decide +kernel
theorem wit_commitLateInOneHalf :
    ((wJ .commit (⟨0, 0, 0, 0, false, 0, 0⟩) {} wR : State).running 5 5 = some wR ∧ atWord ((wJ .commit (⟨0, 0, 0, 0, false, 0, 0⟩) {} wR : State).cx 5) wR .commit (⟨0, 0, 0, 0, false, 0, 0⟩ : JWord) = true) ∧
    (stdRow ((wJ .commit (⟨0, 0, 0, 0, false, 0, 0⟩) {} wR : State).cx 5).bind.routine = none ∧ wR.steps + 8 ≤ ((wJ .commit (⟨0, 0, 0, 0, false, 0, 0⟩) {} wR : State).cx 5).bind.wcsc) ∧
    (((wJ .commit (⟨0, 0, 0, 0, false, 0, 0⟩) {} wR : State).cx 5).nextRel ≤ 1000) := by decide +kernel
theorem wit_signalDetectChange :
    (127 < 128 ∧ (wBlkOn : State).domOn (72 + 127 / 16) = true) := by decide +kernel
theorem wit_energyLost :
    (0 < 128 ∧ (wLifOn : State).domOn (72 + 0 / 16) = true) ∧
    (wLifOn.laneLif 0 = some 0) ∧
    (wLifOn.rbit (Reg.LIN_LIF_LOS_CFG_SD_EN 0) = true) := by decide +kernel
theorem wit_cdrLockChange :
    (127 < 128 ∧ (wBlkOn : State).domOn (72 + 127 / 16) = true) := by decide +kernel
theorem wit_cdrLost :
    (0 < 128 ∧ (wLifOn : State).domOn (72 + 0 / 16) = true) ∧
    (wLifOn.laneLif 0 = some 0) := by decide +kernel
theorem wit_losDeclare :
    (0 < 128) ∧
    (({ wLif with lin := { State.reset.lin with lifs := [(0, { cdr := some 0 })] } } : State).losDue (ns 500 : Nat) 0 = true) ∧
    (({ wLif with lin := { State.reset.lin with lifs := [(0, { cdr := some 0 })] } } : State).losOn 0 = false) := by decide +kernel
theorem wit_losClear :
    (0 < 128) ∧
    ((wLif.rsetb (Reg.LIN_LIF_LIVE_LOS 0) true : State).losOn 0 = true) ∧
    (((wLif.rsetb (Reg.LIN_LIF_LIVE_LOS 0) true : State).lif 0).sd = none ∧ ((wLif.rsetb (Reg.LIN_LIF_LIVE_LOS 0) true : State).lif 0).cdr = none ∧ ((wLif.rsetb (Reg.LIN_LIF_LIVE_LOS 0) true : State).lif 0).gei = none) ∧
    (((wLif.rsetb (Reg.LIN_LIF_LIVE_LOS 0) true : State).lif 0).clear + (wLif.rsetb (Reg.LIN_LIF_LIVE_LOS 0) true : State).losClr 0 ≤ (us 100 : Nat)) := by decide +kernel
theorem wit_alignmentMarker :
    (0 < 128 ∧ (State.reset.rset (Reg.LIN_LIF_CFG_TYPE 0) 15 : State).lifType 0 ≠ 0) ∧
    (19 < (State.reset.rset (Reg.LIN_LIF_CFG_TYPE 0) 15 : State).logical 0) ∧
    ((State.reset.rset (Reg.LIN_LIF_CFG_TYPE 0) 15 : State).losOn 0 = false) := by decide +kernel
theorem wit_markerRule : ((({} : AmLane).mark 1 0 0 true).mark 2 0 3 true).lock = true ∧ ({} : AmLane).bad = 0 ∧
    ((((({} : AmLane).mark 1 0 4 true).mark 2 0 4 true).mark 3 0 4 true).mark 4 0 4 true).lock = false := by decide
theorem wit_fecCodeword :
    (0 < 128 ∧ wLif.lifType 0 ≠ 0) ∧
    (wLif.losOn 0 = false) ∧
    (15 ≤ (if wLif.lifType 0 = 15 then 8 else 15)) := by decide +kernel
theorem wit_fecUncorrectable :
    (0 < 128 ∧ wLif.lifType 0 ≠ 0) ∧
    (wLif.losOn 0 = false) := by decide +kernel
theorem wit_fecCounterFrozen :
    ((wLif.rsetb (Reg.LIN_LIF_LIVE_LOS 0) true : State).losOn 0 = true) := by decide +kernel
theorem wit_fecDegWindow :
    (0 < 128 ∧ ({ wLif with lin := { State.reset.lin with lifs := [(0, { winBits := 20000000 })] } } : State).lifType 0 ≠ 0) ∧
    (100 = max 1 (({ wLif with lin := { State.reset.lin with lifs := [(0, { winBits := 20000000 })] } } : State).rget (Reg.LIN_LIF_FEC_CFG_DEG_WIN 0)) ∧ (sec 1 : Nat) % ms (10 * 100) = 0) ∧
    (({ wLif with lin := { State.reset.lin with lifs := [(0, { winBits := 20000000 })] } } : State).losOn 0 = false ∧ (({ wLif with lin := { State.reset.lin with lifs := [(0, { winBits := 20000000 })] } } : State).lif 0).losInWin = false) ∧
    (true = decide (({ wLif with lin := { State.reset.lin with lifs := [(0, { winBits := 20000000 })] } } : State).rget (Reg.LIN_LIF_FEC_CFG_DEG_MANT 0) * (lifLanes (({ wLif with lin := { State.reset.lin with lifs := [(0, { winBits := 20000000 })] } } : State).lifType 0) * lifLaneRate (({ wLif with lin := { State.reset.lin with lifs := [(0, { winBits := 20000000 })] } } : State).lifType 0) * 1000) * 100 < (({ wLif with lin := { State.reset.lin with lifs := [(0, { winBits := 20000000 })] } } : State).lif 0).winBits * 10 ^ ({ wLif with lin := { State.reset.lin with lifs := [(0, { winBits := 20000000 })] } } : State).rget (Reg.LIN_LIF_FEC_CFG_DEG_EXP 0) * 100)) := by decide +kernel
theorem wit_losWindow :
    (0 < 128 ∧ ({ wLif with lin := { State.reset.lin with lifs := [(0, { losInWin := true })] } } : State).lifType 0 ≠ 0) ∧
    (100 = max 1 (({ wLif with lin := { State.reset.lin with lifs := [(0, { losInWin := true })] } } : State).rget (Reg.LIN_LIF_FEC_CFG_DEG_WIN 0)) ∧ (sec 1 : Nat) % ms (10 * 100) = 0) ∧
    (({ wLif with lin := { State.reset.lin with lifs := [(0, { losInWin := true })] } } : State).losOn 0 = false ∧ (({ wLif with lin := { State.reset.lin with lifs := [(0, { losInWin := true })] } } : State).lif 0).losInWin = true) := by decide +kernel
theorem wit_prbsLock :
    (0 < 128) ∧
    ((wPrbs.rsetb (Reg.LIN_LANE_PRBS_CFG_CHK_EN 0) true : State).rbit (Reg.LIN_LANE_PRBS_CFG_CHK_EN 0) = true ∧ (wPrbs.rsetb (Reg.LIN_LANE_PRBS_CFG_CHK_EN 0) true : State).prbsPermit 0 = true) := by decide +kernel
theorem wit_prbsLossOfLock :
    (127 < 128 ∧ 33 ≤ 1024) ∧
    ((State.reset.rsetb (Reg.LIN_LANE_STAT_PRBS_LOCK 127) true : State).rbit (Reg.LIN_LANE_STAT_PRBS_LOCK 127) = true) := by decide +kernel
theorem wit_linLanePrbsCfgWrite :
    ((wPrbs.rset (Reg.PWR_DOM_STATE 72) 2 : State).accessFault (⟨1, 2, 0, 0xD8010, 4⟩ : Access) = none) ∧
    (0 < 128 ∧ (⟨1, 2, 0, 0xD8010, 4⟩ : Access).off = Reg.LIN_LANE_PRBS_CFG 0) ∧
    (0x38 % 16 ≤ 8) ∧
    ((wPrbs.rset (Reg.PWR_DOM_STATE 72) 2 : State).prbsPermit 0 = true) := by decide +kernel
theorem wit_prbsWriteRefused :
    ((wPrbs.rset (Reg.PWR_DOM_STATE 72) 2 : State).accessFault (⟨1, 2, 0, 0xD8010, 4⟩ : Access) = none) ∧
    (0 < 128 ∧ (⟨1, 2, 0, 0xD8010, 4⟩ : Access).off = Reg.LIN_LANE_PRBS_CFG 0) ∧
    (8 < 0x39 % 16 ∨ (wPrbs.rset (Reg.PWR_DOM_STATE 72) 2 : State).prbsPermit 0 = false) := by decide +kernel
theorem wit_prbsWriteRefused2 :
    ((wLif.rset (Reg.PWR_DOM_STATE 72) 2 : State).accessFault (⟨1, 2, 0, 0xD8010, 4⟩ : Access) = none) ∧
    (0 < 128 ∧ (⟨1, 2, 0, 0xD8010, 4⟩ : Access).off = Reg.LIN_LANE_PRBS_CFG 0) ∧
    (8 < 0x38 % 16 ∨ (wLif.rset (Reg.PWR_DOM_STATE 72) 2 : State).prbsPermit 0 = false) := by decide +kernel
theorem wit_lineIfCfg :
    (wRing.cmdReady 5 wDesc = true) ∧
    (120 < 128 ∧ 1 ≤ 9 ∧ 9 ≤ 9 ∧ 120 % lifLanes 9 = 0) ∧
    (2 ≤ 7 ∧ 7 ≤ 7) ∧
    (wRing.lifType 120 = 0 ∧ wRing.rbit (Reg.LIN_LIF_CFG_GROUPED 120) = false) ∧
    (∀ j ∈ wRing.lifsUsed, lanesMeet 120 (lifLanes 9) j (lifLanes (wRing.lifType j)) = false) ∧
    (∀ j ∈ wRing.lifsUsed, quadsMeet 120 (lifLanes 9) j (lifLanes (wRing.lifType j)) = true → lifClass (wRing.lifType j) = lifClass 9) := by decide +kernel
theorem wit_classMixed :
    ((wRing.rset (Reg.LIN_LIF_CFG_TYPE 0) 1 : State).cmdReady 5 wDesc = true) ∧
    (1 < 128 ∧ 1 ≤ 3 ∧ 3 ≤ 9 ∧ 1 % lifLanes 3 = 0) ∧
    (2 ≤ 7 ∧ 7 ≤ 7) ∧
    ((wRing.rset (Reg.LIN_LIF_CFG_TYPE 0) 1 : State).lifType 1 = 0 ∧ (wRing.rset (Reg.LIN_LIF_CFG_TYPE 0) 1 : State).rbit (Reg.LIN_LIF_CFG_GROUPED 1) = false) ∧
    (∀ k ∈ (wRing.rset (Reg.LIN_LIF_CFG_TYPE 0) 1 : State).lifsUsed, lanesMeet 1 (lifLanes 3) k (lifLanes ((wRing.rset (Reg.LIN_LIF_CFG_TYPE 0) 1 : State).lifType k)) = false) ∧
    (0 ∈ (wRing.rset (Reg.LIN_LIF_CFG_TYPE 0) 1 : State).lifsUsed ∧ quadsMeet 1 (lifLanes 3) 0 (lifLanes ((wRing.rset (Reg.LIN_LIF_CFG_TYPE 0) 1 : State).lifType 0)) = true ∧ lifClass ((wRing.rset (Reg.LIN_LIF_CFG_TYPE 0) 1 : State).lifType 0) ≠ lifClass 3) := by decide +kernel
theorem wit_interfaceRemoved :
    ((wRing.rset (Reg.LIN_LIF_CFG_TYPE 0) 1 : State).cmdReady 5 wDesc = true) ∧
    (0 < 128 ∧ (wRing.rset (Reg.LIN_LIF_CFG_TYPE 0) 1 : State).lifType 0 ≠ 0 ∧ (wRing.rset (Reg.LIN_LIF_CFG_TYPE 0) 1 : State).rbit (Reg.LIN_LIF_CFG_GROUPED 0) = false ∧ (wRing.rset (Reg.LIN_LIF_CFG_TYPE 0) 1 : State).anyPermit linePermits 0 = false) := by decide +kernel
theorem wit_interfaceOtu4 :
    (wRing.cmdReady 5 wDesc = true) ∧
    (28 ≤ 28 ∧ 28 % 4 = 0) ∧
    (2 ≤ 2 ∧ 2 ≤ 7) ∧
    (255 < 256 ∧ 31 < 32) ∧
    (wRing.sliceTaken 255 = false ∧ wRing.slotSlices 31 [] < 8) ∧
    (wRing.lifType 28 = 0 ∧ wRing.rbit (Reg.LIN_LIF_CFG_GROUPED 28) = false) ∧
    (∀ j ∈ wRing.lifsUsed, lanesMeet 28 4 j (lifLanes (wRing.lifType j)) = false) ∧
    (∀ j ∈ wRing.lifsUsed, quadsMeet 28 4 j (lifLanes (wRing.lifType j)) = true → lifClass (wRing.lifType j) = 3) := by decide +kernel
theorem wit_laneTaken :
    ((wRing.rset (Reg.LIN_LIF_CFG_TYPE 0) 9 : State).cmdReady 5 wDesc = true) ∧
    (1 < 128 ∧ 1 ≤ 1 ∧ 1 ≤ 9 ∧ 1 % lifLanes 1 = 0) ∧
    (2 ≤ 2 ∧ 2 ≤ 7) ∧
    ((wRing.rset (Reg.LIN_LIF_CFG_TYPE 0) 9 : State).lifType 1 = 0 ∧ 0 ∈ (wRing.rset (Reg.LIN_LIF_CFG_TYPE 0) 9 : State).lifsUsed) ∧
    (lanesMeet 1 (lifLanes 1) 0 (lifLanes ((wRing.rset (Reg.LIN_LIF_CFG_TYPE 0) 9 : State).lifType 0)) = true) := by decide +kernel
theorem wit_lineGrpCfg :
    (((wRing.rset (Reg.LIN_LIF_CFG_TYPE 0) 1).rset (Reg.LIN_LIF_CFG_TYPE 2) 1 : State).cmdReady 5 wDesc = true ∧ ((wRing.rset (Reg.LIN_LIF_CFG_TYPE 0) 1).rset (Reg.LIN_LIF_CFG_TYPE 2) 1 : State).privileged 5 = true) ∧
    (63 < 64 ∧ 5 < 2 ^ 20 ∧ ((wRing.rset (Reg.LIN_LIF_CFG_TYPE 0) 1).rset (Reg.LIN_LIF_CFG_TYPE 2) 1 : State).rbit (Reg.LIN_GRP_CFG_ENABLED 63) = false) ∧
    (([(2, 9), (0, 255)] : List (Nat × Nat)) ≠ [] ∧ ([(2, 9), (0, 255)] : List (Nat × Nat)).length ≤ 32 ∧ (([(2, 9), (0, 255)] : List (Nat × Nat)).map (·.1)).Nodup ∧ (([(2, 9), (0, 255)] : List (Nat × Nat)).map (·.2)).Nodup) ∧
    (1 ≠ 0 ∧ 1 ≠ 15) ∧
    (∀ m ∈ ([(2, 9), (0, 255)] : List (Nat × Nat)), m.1 < 128 ∧ 1 ≤ m.2 ∧ m.2 ≤ 255 ∧ ((wRing.rset (Reg.LIN_LIF_CFG_TYPE 0) 1).rset (Reg.LIN_LIF_CFG_TYPE 2) 1 : State).lifType m.1 = 1 ∧ ((wRing.rset (Reg.LIN_LIF_CFG_TYPE 0) 1).rset (Reg.LIN_LIF_CFG_TYPE 2) 1 : State).rbit (Reg.LIN_LIF_CFG_GROUPED m.1) = false ∧ ((wRing.rset (Reg.LIN_LIF_CFG_TYPE 0) 1).rset (Reg.LIN_LIF_CFG_TYPE 2) 1 : State).anyPermit linePermits m.1 = false) ∧
    (2 = (([(2, 9), (0, 255)] : List (Nat × Nat)).map fun m => lifInst (((wRing.rset (Reg.LIN_LIF_CFG_TYPE 0) 1).rset (Reg.LIN_LIF_CFG_TYPE 2) 1 : State).lifType m.1)).sum ∧ 2 ≤ 64 ∧ 254 + 2 ≤ 256 ∧ ([3, 3] : List Nat).length = 2) ∧
    (∀ j < 2, ((wRing.rset (Reg.LIN_LIF_CFG_TYPE 0) 1).rset (Reg.LIN_LIF_CFG_TYPE 2) 1 : State).sliceTaken (254 + j) = false) ∧
    (∀ x ∈ ([3, 3] : List Nat), x < 32 ∧ ((wRing.rset (Reg.LIN_LIF_CFG_TYPE 0) 1).rset (Reg.LIN_LIF_CFG_TYPE 2) 1 : State).slotSlices x [] + (([3, 3] : List Nat).filter (· == x)).length ≤ 8) ∧
    (1 ≤ 2) := by decide +kernel
theorem wit_groupRemoved :
    (wGrpIn.cmdReady 5 wDesc = true ∧ wGrpIn.privileged 5 = true) ∧
    (5 < 64 ∧ wGrpIn.rbit (Reg.LIN_GRP_CFG_ENABLED 5) = true ∧ wGrpIn.grpConnected 5 = false) ∧
    (∀ m ∈ (wGrpIn.grp 5).members, wGrpIn.anyPermit linePermits m.lif = false) := by decide +kernel
theorem wit_groupFormation : (5 < 64 ∧ (wGrp 100 700 false).rbit (Reg.LIN_GRP_CFG_ENABLED 5) = true) ∧
    ((wGrp 100 700 false).grpReady 5 = true ∧ ((wGrp 100 700 false).grp 5).formed = false) ∧
    ns 700 = ((wGrp 100 700 false).grp 5).members.foldl (fun x m => max x m.arr) 0 ∧
    (∀ m ∈ ((wGrp 100 700 false).grp 5).members, ns 700 + ns (min ((wGrp 100 700 false).rget (Reg.LIN_GRP_TIMERS_DESKEW_MAX_NS 5)) ((wGrp 100 700 false).rget (Reg.LIN_GRP_TIMERS_HEADROOM_NS 5))) ≤
      m.arr + ns ((wGrp 100 700 false).rget (Reg.LIN_GRP_TIMERS_DESKEW_MAX_NS 5))) :=
  ⟨by decide +kernel, ⟨wGrp_ready false, by decide +kernel⟩, by decide +kernel, by decide +kernel⟩
theorem wit_groupFailClear :
    (5 < 64 ∧ (({ State.reset with lin := { State.reset.lin with grps := [(5, { okSince := some 0 })] } } : State).rsetb (Reg.LIN_GRP_LIVE_GROUP_FAIL 5) true : State).rbit (Reg.LIN_GRP_LIVE_GROUP_FAIL 5) = true) ∧
    (((({ State.reset with lin := { State.reset.lin with grps := [(5, { okSince := some 0 })] } } : State).rsetb (Reg.LIN_GRP_LIVE_GROUP_FAIL 5) true : State).grp 5).okSince = some 0 ∧ 0 + us ((({ State.reset with lin := { State.reset.lin with grps := [(5, { okSince := some 0 })] } } : State).rsetb (Reg.LIN_GRP_LIVE_GROUP_FAIL 5) true : State).grp 5).reform ≤ (us 100 : Nat)) := by decide +kernel
theorem wit_groupReform : (5 < 64 ∧ (wGrp 100 700 true).rbit (Reg.LIN_GRP_CFG_ENABLED 5) = true) ∧
    (((wGrp 100 700 true).grp 5).lateSince = some 0 ∧ 0 + ms 10 ≤ ms 11) ∧
    ((wGrp 100 700 true).grpReady 5 = true ∧ (((wGrp 100 700 true).grp 5).members.all fun m => m.aligned || m.late) = true) :=
  ⟨by decide +kernel, by decide +kernel, wGrp_ready true, by decide +kernel⟩
theorem wit_lateMemberWaits : (5 : Nat) ≤ 3 + 4 ∧ 3 + 4 - 5 ≤ ns 100 := by decide
/-- Eight candidates of slice 4. -/
def wEight : AlignerH := { on := true, cands := [(0, 0), (1, 0), (2, 0), (3, 0), (4, 0), (5, 0), (6, 0), (7, 0)] }
theorem wit_candidateSighting :
    (((wAl ({ on := true, cands := [(9, 0)] } : AlignerH)).al 4).on = true ∧ ((wAl ({ on := true, cands := [(9, 0)] } : AlignerH)).al 4).st ≠ .inFrame) ∧
    (({ on := true, cands := [(9, 0)] } : AlignerH) = ((wAl ({ on := true, cands := [(9, 0)] } : AlignerH)).al 4).pass ((wAl ({ on := true, cands := [(9, 0)] } : AlignerH)).frameBytes 4) 12000) ∧
    (({ on := true, cands := [(9, 0)] } : AlignerH).due ((wAl ({ on := true, cands := [(9, 0)] } : AlignerH)).frameBytes 4) 12000 = none ∧ ((wAl ({ on := true, cands := [(9, 0)] } : AlignerH)).al 4).held = none) ∧
    (({ on := true, cands := [(9, 0)] } : AlignerH).cands.length < 8) := by decide +kernel
theorem wit_candidatesFull :
    ((wAl wEight).wf = true) ∧
    (((wAl wEight).al 4).on = true ∧ ((wAl wEight).al 4).st ≠ .inFrame) ∧
    (wEight = ((wAl wEight).al 4).pass ((wAl wEight).frameBytes 4) 12000) ∧
    (wEight.due ((wAl wEight).frameBytes 4) 12000 = none ∧ ((wAl wEight).al 4).held = none) ∧
    (8 ≤ wEight.cands.length) := by decide +kernel
theorem wit_candidateRepeats :
    (((wAl ({ on := true, cands := [(9, 1), (12000, 0)] } : AlignerH)).al 4).on = true ∧ ((wAl ({ on := true, cands := [(9, 1), (12000, 0)] } : AlignerH)).al 4).st ≠ .inFrame) ∧
    (({ on := true, cands := [(12000, 0)] } : AlignerH) = ((wAl ({ on := true, cands := [(9, 1), (12000, 0)] } : AlignerH)).al 4).pass ((wAl ({ on := true, cands := [(9, 1), (12000, 0)] } : AlignerH)).frameBytes 4) 27296) ∧
    (({ on := true, cands := [(12000, 0)] } : AlignerH).due ((wAl ({ on := true, cands := [(9, 1), (12000, 0)] } : AlignerH)).frameBytes 4) 27296 = some (12000, 0) ∧ (12000, 0).2 + 1 < (wAl ({ on := true, cands := [(9, 1), (12000, 0)] } : AlignerH)).ifFrames 4) := by decide +kernel
theorem wit_candidateConfirms :
    (((wAl ({ on := true, cands := [(9, 1), (12000, 1)] } : AlignerH)).al 4).on = true ∧ ((wAl ({ on := true, cands := [(9, 1), (12000, 1)] } : AlignerH)).al 4).st = .hunt) ∧
    (({ on := true, cands := [(12000, 1)] } : AlignerH) = ((wAl ({ on := true, cands := [(9, 1), (12000, 1)] } : AlignerH)).al 4).pass ((wAl ({ on := true, cands := [(9, 1), (12000, 1)] } : AlignerH)).frameBytes 4) 27296) ∧
    (({ on := true, cands := [(12000, 1)] } : AlignerH).due ((wAl ({ on := true, cands := [(9, 1), (12000, 1)] } : AlignerH)).frameBytes 4) 27296 = some (12000, 1) ∧ (wAl ({ on := true, cands := [(9, 1), (12000, 1)] } : AlignerH)).ifFrames 4 ≤ (12000, 1).2 + 1) := by decide +kernel
theorem wit_candidateHeld :
    (((wAl ({ on := true, st := .oof, cands := [(12000, 1)] } : AlignerH)).al 4).on = true ∧ ((wAl ({ on := true, st := .oof, cands := [(12000, 1)] } : AlignerH)).al 4).st = .oof) ∧
    (({ on := true, st := .oof, cands := [(12000, 1)] } : AlignerH) = ((wAl ({ on := true, st := .oof, cands := [(12000, 1)] } : AlignerH)).al 4).pass ((wAl ({ on := true, st := .oof, cands := [(12000, 1)] } : AlignerH)).frameBytes 4) 27296) ∧
    (({ on := true, st := .oof, cands := [(12000, 1)] } : AlignerH).due ((wAl ({ on := true, st := .oof, cands := [(12000, 1)] } : AlignerH)).frameBytes 4) 27296 = some (12000, 1) ∧ (wAl ({ on := true, st := .oof, cands := [(12000, 1)] } : AlignerH)).ifFrames 4 ≤ (12000, 1).2 + 1) := by decide +kernel
theorem wit_candidateDropped :
    (((wAl ({ on := true, cands := [(9, 1), (12000, 0)] } : AlignerH)).al 4).on = true ∧ ((wAl ({ on := true, cands := [(9, 1), (12000, 0)] } : AlignerH)).al 4).st ≠ .inFrame) ∧
    (({ on := true, cands := [(12000, 0)] } : AlignerH) = ((wAl ({ on := true, cands := [(9, 1), (12000, 0)] } : AlignerH)).al 4).pass ((wAl ({ on := true, cands := [(9, 1), (12000, 0)] } : AlignerH)).frameBytes 4) 27296) ∧
    (({ on := true, cands := [(12000, 0)] } : AlignerH).due ((wAl ({ on := true, cands := [(9, 1), (12000, 0)] } : AlignerH)).frameBytes 4) 27296 = some (12000, 0) ∧ (5 : BitVec 48) ≠ 0xF6F6F6282828) := by decide +kernel
theorem wit_frameCheck :
    ((({ State.reset with frm := { State.reset.frm with al := [(4, { on := true, st := .inFrame, err := 4 })] } } : State).al 4).on = true ∧ (({ State.reset with frm := { State.reset.frm with al := [(4, { on := true, st := .inFrame, err := 4 })] } } : State).al 4).st = .inFrame) ∧
    (1 ≤ ({ State.reset with frm := { State.reset.frm with al := [(4, { on := true, st := .inFrame, err := 4 })] } } : State).oofFrames 4) := by decide +kernel
theorem wit_frameLost :
    ((({ State.reset with frm := { State.reset.frm with al := [(4, { on := true, st := .inFrame, err := 4 })] }, jrm := { State.reset.jrm with trail := [(0, 1), (2, 4), (4, 0x2A)], ctx := [(5, { state := 1, acc := { ttiStable := 3 } })] } } : State).al 4).on = true ∧ (({ State.reset with frm := { State.reset.frm with al := [(4, { on := true, st := .inFrame, err := 4 })] }, jrm := { State.reset.jrm with trail := [(0, 1), (2, 4), (4, 0x2A)], ctx := [(5, { state := 1, acc := { ttiStable := 3 } })] } } : State).al 4).st = .inFrame) ∧
    ((0 : Word) ≠ 0xF6F62828) ∧
    (({ State.reset with frm := { State.reset.frm with al := [(4, { on := true, st := .inFrame, err := 4 })] }, jrm := { State.reset.jrm with trail := [(0, 1), (2, 4), (4, 0x2A)], ctx := [(5, { state := 1, acc := { ttiStable := 3 } })] } } : State).oofFrames 4 ≤ (({ State.reset with frm := { State.reset.frm with al := [(4, { on := true, st := .inFrame, err := 4 })] }, jrm := { State.reset.jrm with trail := [(0, 1), (2, 4), (4, 0x2A)], ctx := [(5, { state := 1, acc := { ttiStable := 3 } })] } } : State).al 4).err + 1) := by decide +kernel
theorem wit_oofReturns :
    ((({ State.reset with frm := { State.reset.frm with al := [(4, { on := true, st := .oof, good := 1, pos := 7, held := some 12000 })] } } : State).al 4).on = true ∧ (({ State.reset with frm := { State.reset.frm with al := [(4, { on := true, st := .oof, good := 1, pos := 7, held := some 12000 })] } } : State).al 4).st = .oof) ∧
    (({ State.reset with frm := { State.reset.frm with al := [(4, { on := true, st := .oof, good := 1, pos := 7, held := some 12000 })] } } : State).ifFrames 4 ≤ (({ State.reset with frm := { State.reset.frm with al := [(4, { on := true, st := .oof, good := 1, pos := 7, held := some 12000 })] } } : State).al 4).good + 1) := by decide +kernel
theorem wit_oofMoves :
    (((wAl { on := true, st := .oof, good := 0, pos := 7, held := some 12000 }).al 4).on = true ∧ ((wAl { on := true, st := .oof, good := 0, pos := 7, held := some 12000 }).al 4).st = .oof ∧ ((wAl { on := true, st := .oof, good := 0, pos := 7, held := some 12000 }).al 4).held = some 12000) ∧
    ((if (0xF6F62828 : Word) = 0xF6F62828 then ((wAl { on := true, st := .oof, good := 0, pos := 7, held := some 12000 }).al 4).good + 1 else 0) < (wAl { on := true, st := .oof, good := 0, pos := 7, held := some 12000 }).ifFrames 4) := by decide +kernel
theorem wit_multiframeRule : (({ have_ := true, err := 4, ref := 7 } : MfH).check 0 256 9 2 5).out = true ∧ ({ out := true } : MfH).out = true := by decide
theorem wit_dlofDeclare :
    ((({ State.reset with frm := { State.reset.frm with al := [(4, { on := true, since := 0 })] }, jrm := { State.reset.jrm with trail := [(0, 1), (2, 4), (5, 3)] } } : State).al 4).on = true ∧ (({ State.reset with frm := { State.reset.frm with al := [(4, { on := true, since := 0 })] }, jrm := { State.reset.jrm with trail := [(0, 1), (2, 4), (5, 3)] } } : State).al 4).st ≠ .inFrame ∧ (({ State.reset with frm := { State.reset.frm with al := [(4, { on := true, since := 0 })] }, jrm := { State.reset.jrm with trail := [(0, 1), (2, 4), (5, 3)] } } : State).al 4).dlof = false ∧ (({ State.reset with frm := { State.reset.frm with al := [(4, { on := true, since := 0 })] }, jrm := { State.reset.jrm with trail := [(0, 1), (2, 4), (5, 3)] } } : State).al 4).since + ({ State.reset with frm := { State.reset.frm with al := [(4, { on := true, since := 0 })] }, jrm := { State.reset.jrm with trail := [(0, 1), (2, 4), (5, 3)] } } : State).lofTicks 4 ≤ (ms 3 : Nat)) := by decide +kernel
theorem wit_dlomDeclare :
    ((({ State.reset with frm := { State.reset.frm with al := [(4, { on := true, st := .inFrame, mfas := { out := true } })] }, jrm := { State.reset.jrm with trail := [(0, 1), (2, 4), (5, 3)] } } : State).al 4).mfas.out = true ∧ (({ State.reset with frm := { State.reset.frm with al := [(4, { on := true, st := .inFrame, mfas := { out := true } })] }, jrm := { State.reset.jrm with trail := [(0, 1), (2, 4), (5, 3)] } } : State).al 4).mfas.dec = false ∧ (({ State.reset with frm := { State.reset.frm with al := [(4, { on := true, st := .inFrame, mfas := { out := true } })] }, jrm := { State.reset.jrm with trail := [(0, 1), (2, 4), (5, 3)] } } : State).al 4).mfas.since + ({ State.reset with frm := { State.reset.frm with al := [(4, { on := true, st := .inFrame, mfas := { out := true } })] }, jrm := { State.reset.jrm with trail := [(0, 1), (2, 4), (5, 3)] } } : State).lofTicks 4 ≤ (ms 3 : Nat)) := by decide +kernel
theorem wit_dloomfiDeclare :
    ((({ State.reset with frm := { State.reset.frm with al := [(4, { on := true, st := .inFrame, omfi := { out := true } })] }, jrm := { State.reset.jrm with trail := [(0, 1), (2, 4), (5, 3)] } } : State).al 4).omfi.out = true ∧ (({ State.reset with frm := { State.reset.frm with al := [(4, { on := true, st := .inFrame, omfi := { out := true } })] }, jrm := { State.reset.jrm with trail := [(0, 1), (2, 4), (5, 3)] } } : State).al 4).omfi.dec = false ∧ (({ State.reset with frm := { State.reset.frm with al := [(4, { on := true, st := .inFrame, omfi := { out := true } })] }, jrm := { State.reset.jrm with trail := [(0, 1), (2, 4), (5, 3)] } } : State).al 4).omfi.since + ({ State.reset with frm := { State.reset.frm with al := [(4, { on := true, st := .inFrame, omfi := { out := true } })] }, jrm := { State.reset.jrm with trail := [(0, 1), (2, 4), (5, 3)] } } : State).lofTicks 4 ≤ (ms 3 : Nat)) := by decide +kernel
theorem wit_dlofClear :
    ((({ State.reset with frm := { State.reset.frm with al := [(4, { on := true, st := .inFrame, dlof := true })] }, jrm := { State.reset.jrm with trail := [(0, 1), (2, 4), (5, 3), (0x88, 7)] } } : State).al 4).dlof = true ∧ (({ State.reset with frm := { State.reset.frm with al := [(4, { on := true, st := .inFrame, dlof := true })] }, jrm := { State.reset.jrm with trail := [(0, 1), (2, 4), (5, 3), (0x88, 7)] } } : State).al 4).st = .inFrame ∧ (({ State.reset with frm := { State.reset.frm with al := [(4, { on := true, st := .inFrame, dlof := true })] }, jrm := { State.reset.jrm with trail := [(0, 1), (2, 4), (5, 3), (0x88, 7)] } } : State).al 4).since + ({ State.reset with frm := { State.reset.frm with al := [(4, { on := true, st := .inFrame, dlof := true })] }, jrm := { State.reset.jrm with trail := [(0, 1), (2, 4), (5, 3), (0x88, 7)] } } : State).lofTicks 4 ≤ (ms 3 : Nat)) := by decide +kernel
theorem wit_dlomClear :
    ((({ State.reset with frm := { State.reset.frm with al := [(4, { on := true, st := .inFrame, mfas := { dec := true } })] }, jrm := { State.reset.jrm with trail := [(0, 1), (2, 4), (5, 3), (0x88, 7)] } } : State).al 4).mfas.dec = true ∧ (({ State.reset with frm := { State.reset.frm with al := [(4, { on := true, st := .inFrame, mfas := { dec := true } })] }, jrm := { State.reset.jrm with trail := [(0, 1), (2, 4), (5, 3), (0x88, 7)] } } : State).al 4).mfas.out = false ∧ (({ State.reset with frm := { State.reset.frm with al := [(4, { on := true, st := .inFrame, mfas := { dec := true } })] }, jrm := { State.reset.jrm with trail := [(0, 1), (2, 4), (5, 3), (0x88, 7)] } } : State).al 4).mfas.since + ({ State.reset with frm := { State.reset.frm with al := [(4, { on := true, st := .inFrame, mfas := { dec := true } })] }, jrm := { State.reset.jrm with trail := [(0, 1), (2, 4), (5, 3), (0x88, 7)] } } : State).lofTicks 4 ≤ (ms 3 : Nat)) := by decide +kernel
theorem wit_dloomfiClear :
    ((({ State.reset with frm := { State.reset.frm with al := [(4, { on := true, st := .inFrame, omfi := { dec := true } })] }, jrm := { State.reset.jrm with trail := [(0, 1), (2, 4), (5, 3), (0x88, 7)] } } : State).al 4).omfi.dec = true ∧ (({ State.reset with frm := { State.reset.frm with al := [(4, { on := true, st := .inFrame, omfi := { dec := true } })] }, jrm := { State.reset.jrm with trail := [(0, 1), (2, 4), (5, 3), (0x88, 7)] } } : State).al 4).omfi.out = false ∧ (({ State.reset with frm := { State.reset.frm with al := [(4, { on := true, st := .inFrame, omfi := { dec := true } })] }, jrm := { State.reset.jrm with trail := [(0, 1), (2, 4), (5, 3), (0x88, 7)] } } : State).al 4).omfi.since + ({ State.reset with frm := { State.reset.frm with al := [(4, { on := true, st := .inFrame, omfi := { dec := true } })] }, jrm := { State.reset.jrm with trail := [(0, 1), (2, 4), (5, 3), (0x88, 7)] } } : State).lofTicks 4 ≤ (ms 3 : Nat)) := by decide +kernel
theorem wit_fastPathAisEnd :
    ((({ State.reset with map := { State.reset.map with odu := [(4, { conf := true, fast := true })] }, jrm := { State.reset.jrm with trail := [(0, 4), (2, 4), (0x88, 32)] } } : State).odu 4).fast = true ∧ ({ State.reset with map := { State.reset.map with odu := [(4, { conf := true, fast := true })] }, jrm := { State.reset.jrm with trail := [(0, 4), (2, 4), (0x88, 32)] } } : State).trig (256 + 4) = false) := by decide +kernel
theorem wit_frameReceived :
    (({ State.reset with jrm := { State.reset.jrm with trail := [(0, 1), (2, 4)], ctx := [(5, { state := 1 })] } } : State).wf = true) ∧
    (5 ∈ ({ State.reset with jrm := { State.reset.jrm with trail := [(0, 1), (2, 4)], ctx := [(5, { state := 1 })] } } : State).ctxOf 4) := by decide +kernel
theorem wit_accumulatorRule : (0x17 : Nat) = (([0, 0, 0x17] : List Byte).getD (0 + 2) 0).toNat := by decide
theorem wit_gidMismatch :
    (((({ State.reset with lin := { State.reset.lin with lifs := [(0, { gidBad := 2, pidMis := true, pidGood := 2 })] } } : State).rsetb (Reg.LIN_LIF_CFG_GROUPED 0) true).rset (Reg.LIN_LIF_CFG_PID 0) 9 : State).lifGrp 0 = some 0 ∧ ((({ State.reset with lin := { State.reset.lin with lifs := [(0, { gidBad := 2, pidMis := true, pidGood := 2 })] } } : State).rsetb (Reg.LIN_LIF_CFG_GROUPED 0) true).rset (Reg.LIN_LIF_CFG_PID 0) 9 : State).looped 0 2 = false) := by decide +kernel
theorem wit_insertionPoint :
    (4 < 256) ∧
    (({ State.reset with frm := { State.reset.frm with txMfas := [(4, 256)] } } : State).roleRuns = true) := by decide +kernel
theorem wit_fieldRule : (List.replicate 64 (0 : Byte)).length = 64 := by decide
theorem wit_beiRule : ({} : BackH) = tget (fun _ => {}) State.reset.frm.back 0 := by decide
theorem wit_lockedOdu :
    (({ State.reset with map := { State.reset.map with odu := [(4, { conf := true, lckTx := true, broken := some ⟨1, 2, 0⟩ })] } } : State).roleRuns = true ∧ (({ State.reset with map := { State.reset.map with odu := [(4, { conf := true, lckTx := true, broken := some ⟨1, 2, 0⟩ })] } } : State).odu 4).msiWait = false) ∧
    ((({ State.reset with map := { State.reset.map with odu := [(4, { conf := true, lckTx := true, broken := some ⟨1, 2, 0⟩ })] } } : State).odu 4).lckTx = true) := by decide +kernel
/-- ODU 4 is o, its transmit entry c, its mappers m. -/
def wOdu (o : OduH) (c : ConnH) (m : Tbl MapH) : State :=
  { State.reset with map := { State.reset.map with odu := [(4, o)], ms := m }, plz := { State.reset.plz with conn := [(20484, c)] } }
/-- An ODU4 over 20 tributary slots. -/
def wOdu4 : OduH := { conf := true, type := 5, ts := [1, 2, 3, 4, 5, 6, 7, 8, 9, 10, 11, 12, 13, 14, 15, 16, 17, 18, 19, 20] }
theorem wit_aisOdu :
    ((wOdu { conf := true } {} [(9, { starved := true })]).roleRuns = true ∧ ((wOdu { conf := true } {} [(9, { starved := true })]).odu 4).msiWait = false) ∧
    (((wOdu { conf := true } {} [(9, { starved := true })]).odu 4).lckTx = false) ∧
    ((wOdu { conf := true } {} [(9, { starved := true })]).tribBroken 4 = true ∨ ((wOdu { conf := true } {} [(9, { starved := true })]).cn 1 4).aisFill = true ∨ ((wOdu { conf := true } {} [(9, { starved := true })]).mp 4 1).starved = true ∨ (((wOdu { conf := true } {} [(9, { starved := true })]).mp 4 1).rateOor = true ∧ ((wOdu { conf := true } {} [(9, { starved := true })]).odu 4).client = 0)) := by decide +kernel
theorem wit_openOdu :
    ((wOdu { conf := true } {} []).roleRuns = true ∧ ((wOdu { conf := true } {} []).odu 4).msiWait = false) ∧
    (((wOdu { conf := true } {} []).odu 4).lckTx = false ∧ (wOdu { conf := true } {} []).tribBroken 4 = false ∧ ((wOdu { conf := true } {} []).cn 1 4).aisFill = false ∧ ((wOdu { conf := true } {} []).mp 4 1).starved = false ∧ ((wOdu { conf := true } {} []).mp 4 1).rateOor = false) ∧
    (((wOdu { conf := true } {} []).cn 1 4).noEnd = true) := by decide +kernel
theorem wit_replacementForm : 0x55 < 256 ∧ 5 < 8 ∧ 255 < 256 ∧ 0x2B < 64 := by decide
theorem wit_carriedOdu :
    (((wOdu { conf := true } { valid := true, out := 268435465 } []) : State).roleRuns = true ∧ (((wOdu { conf := true } { valid := true, out := 268435465 } []) : State).odu 4).msiWait = false) ∧
    (((wOdu { conf := true } { valid := true, out := 268435465 } []) : State).originates (256 + 4) = false ∧ ((wOdu { conf := true } { valid := true, out := 268435465 } []) : State).replaced 1 4 = .none ∧ ((wOdu { conf := true } { valid := true, out := 268435465 } []) : State).nullSent (256 + 4) = false) ∧
    (((wOdu { conf := true } { valid := true, out := 268435465 } []) : State).ctxOf (256 + 4) = [] ∧ ((wOdu { conf := true } { valid := true, out := 268435465 } []) : State).insPorts (256 + 4) = [] ∧ ((wOdu { conf := true } { valid := true, out := 268435465 } []) : State).entriesOf (256 + 4) = [] ∧ ((wOdu { conf := true } { valid := true, out := 268435465 } []) : State).fastBdi (256 + 4) = false) ∧
    ((List.replicate 64 (3 : Byte)).length = 64) := by decide +kernel
theorem wit_carriedOduBdi :
    (({ wOdu { conf := true } { valid := true, out := 268435465 } [] with frm := { State.reset.frm with al := [(260, { omfi := { dec := true } })] } } : State).roleRuns = true ∧ (({ wOdu { conf := true } { valid := true, out := 268435465 } [] with frm := { State.reset.frm with al := [(260, { omfi := { dec := true } })] } } : State).odu 4).msiWait = false) ∧
    (({ wOdu { conf := true } { valid := true, out := 268435465 } [] with frm := { State.reset.frm with al := [(260, { omfi := { dec := true } })] } } : State).originates (256 + 4) = false ∧ ({ wOdu { conf := true } { valid := true, out := 268435465 } [] with frm := { State.reset.frm with al := [(260, { omfi := { dec := true } })] } } : State).replaced 1 4 = .none ∧ ({ wOdu { conf := true } { valid := true, out := 268435465 } [] with frm := { State.reset.frm with al := [(260, { omfi := { dec := true } })] } } : State).nullSent (256 + 4) = false) ∧
    (({ wOdu { conf := true } { valid := true, out := 268435465 } [] with frm := { State.reset.frm with al := [(260, { omfi := { dec := true } })] } } : State).ctxOf (256 + 4) = [] ∧ ({ wOdu { conf := true } { valid := true, out := 268435465 } [] with frm := { State.reset.frm with al := [(260, { omfi := { dec := true } })] } } : State).insPorts (256 + 4) = [] ∧ ({ wOdu { conf := true } { valid := true, out := 268435465 } [] with frm := { State.reset.frm with al := [(260, { omfi := { dec := true } })] } } : State).entriesOf (256 + 4) = [] ∧ ({ wOdu { conf := true } { valid := true, out := 268435465 } [] with frm := { State.reset.frm with al := [(260, { omfi := { dec := true } })] } } : State).fastBdi (256 + 4) = true) ∧
    ((List.replicate 64 (3 : Byte)).length = 64) := by decide +kernel
theorem wit_payloadType :
    ((wOdu { conf := true, client := 1, pt := 9 } { valid := true, out := 268435465 } []).roleRuns = true ∧ ((wOdu { conf := true, client := 1, pt := 9 } { valid := true, out := 268435465 } []).odu 4).msiWait = false) ∧
    (((wOdu { conf := true, client := 1, pt := 9 } { valid := true, out := 268435465 } []).odu 4).client ≠ 0 ∧ (wOdu { conf := true, client := 1, pt := 9 } { valid := true, out := 268435465 } []).replaced 1 4 = .none ∧ (wOdu { conf := true, client := 1, pt := 9 } { valid := true, out := 268435465 } []).nextMfas (256 + 4) = 0 ∧ (wOdu { conf := true, client := 1, pt := 9 } { valid := true, out := 268435465 } []).isHo 4 = false ∧ (wOdu { conf := true, client := 1, pt := 9 } { valid := true, out := 268435465 } []).nullSent (256 + 4) = false) := by decide +kernel
theorem wit_oduLck :
    (({ wRing with map := { State.reset.map with odu := [(20479, { conf := true })] } } : State).cmdReady 5 wDesc = true) ∧
    (20479 < 20480 ∧ 1 < 2 ∧ 1 < 2) ∧
    ((({ wRing with map := { State.reset.map with odu := [(20479, { conf := true })] } } : State).odu 20479).conf = true) := by decide +kernel
theorem wit_trailCfg :
    (wRing.cmdReady 5 wDesc = true) ∧
    (65535 < 65536 ∧ wTrail.length = 64 ∧ trailFault wTrail = none) ∧
    (wRing.entryBound 65535 = false) := by decide +kernel
theorem wit_trailFreed :
    (({ wRing with jrm := { State.reset.jrm with trail := [(0, 1), (2, 4)] } } : State).cmdReady 5 wDesc = true) ∧
    (0 < 65536) ∧
    (({ wRing with jrm := { State.reset.jrm with trail := [(0, 1), (2, 4)] } } : State).entryBound 0 = false) := by decide +kernel
theorem wit_trailRefused :
    (wRing.cmdReady 5 wDesc = true) ∧
    (7 < 65536 ∧ trailFault (wTrail.set 6 1 : List Byte) = some 6) := by decide +kernel
theorem wit_gmpPeriodRx :
    (((wOdu wOdu4 {} [(8, { held := 2 })]).odu 4).conf = true ∧ mapProc ((wOdu wOdu4 {} [(8, { held := 2 })]).odu 4).type ((wOdu wOdu4 {} [(8, { held := 2 })]).hoType 4) = 1) ∧
    ((match ((wOdu wOdu4 {} [(8, { held := 2 })]).odu 4).inHo with | some x => ((wOdu wOdu4 {} [(8, { held := 2 })]).odu x).fast | none => (wOdu wOdu4 {} [(8, { held := 2 })]).grpTrig ((wOdu wOdu4 {} [(8, { held := 2 })]).odu 4).server) = false) ∧
    (jcEncode 0 951 5 = ((wOdu wOdu4 {} [(8, { held := 2 })]).mp 4 0).jcAt.getD (jcWord 3807 5 27 15)) ∧
    (jcOk8 (jcEncode 0 951 5) = true ∧ 951 = jcCm ((wOdu wOdu4 {} [(8, { held := 2 })]).mp 4 0).cmRx (jc12Of (jcEncode 0 951 5))) ∧
    (((wOdu wOdu4 {} [(8, { held := 2 })]).cRange 4).1 ≤ 951 ∧ 951 ≤ ((wOdu wOdu4 {} [(8, { held := 2 })]).cRange 4).2) := by decide +kernel
theorem wit_gmpHeld :
    (((wOdu wOdu4 {} [(8, { cm := 951 })]).odu 4).conf = true ∧ mapProc ((wOdu wOdu4 {} [(8, { cm := 951 })]).odu 4).type ((wOdu wOdu4 {} [(8, { cm := 951 })]).hoType 4) = 1) ∧
    ((match ((wOdu wOdu4 {} [(8, { cm := 951 })]).odu 4).inHo with | some x => ((wOdu wOdu4 {} [(8, { cm := 951 })]).odu x).fast | none => (wOdu wOdu4 {} [(8, { cm := 951 })]).grpTrig ((wOdu wOdu4 {} [(8, { cm := 951 })]).odu 4).server) = false) ∧
    (jcWord 7 3 9 8 = ((wOdu wOdu4 {} [(8, { cm := 951 })]).mp 4 0).jcAt.getD (jcWord 7 3 9 8)) ∧
    (jcCm ((wOdu wOdu4 {} [(8, { cm := 951 })]).mp 4 0).cmRx (jc12Of (jcWord 7 3 9 8)) = jcCm ((wOdu wOdu4 {} [(8, { cm := 951 })]).mp 4 0).cmRx (jc12Of (jcWord 7 3 9 8))) ∧
    (jcOk8 (jcWord 7 3 9 8) = false ∨ jcCm ((wOdu wOdu4 {} [(8, { cm := 951 })]).mp 4 0).cmRx (jc12Of (jcWord 7 3 9 8)) < ((wOdu wOdu4 {} [(8, { cm := 951 })]).cRange 4).1 ∨ ((wOdu wOdu4 {} [(8, { cm := 951 })]).cRange 4).2 < jcCm ((wOdu wOdu4 {} [(8, { cm := 951 })]).mp 4 0).cmRx (jc12Of (jcWord 7 3 9 8))) := by decide +kernel
theorem wit_gmpReplaced :
    (((({ State.reset with map := { State.reset.map with odu := [(4, { conf := true, type := 5, ts := [1, 2, 3, 4, 5, 6, 7, 8, 9, 10, 11, 12, 13, 14, 15, 16, 17, 18, 19, 20] })], ms := [(8, { cm := 951 })] } } : State).rsetb (Reg.LIN_GRP_LIVE_GROUP_FAIL 0) true : State).odu 4).conf = true ∧ mapProc ((({ State.reset with map := { State.reset.map with odu := [(4, { conf := true, type := 5, ts := [1, 2, 3, 4, 5, 6, 7, 8, 9, 10, 11, 12, 13, 14, 15, 16, 17, 18, 19, 20] })], ms := [(8, { cm := 951 })] } } : State).rsetb (Reg.LIN_GRP_LIVE_GROUP_FAIL 0) true : State).odu 4).type ((({ State.reset with map := { State.reset.map with odu := [(4, { conf := true, type := 5, ts := [1, 2, 3, 4, 5, 6, 7, 8, 9, 10, 11, 12, 13, 14, 15, 16, 17, 18, 19, 20] })], ms := [(8, { cm := 951 })] } } : State).rsetb (Reg.LIN_GRP_LIVE_GROUP_FAIL 0) true : State).hoType 4) = 1) ∧
    ((match ((({ State.reset with map := { State.reset.map with odu := [(4, { conf := true, type := 5, ts := [1, 2, 3, 4, 5, 6, 7, 8, 9, 10, 11, 12, 13, 14, 15, 16, 17, 18, 19, 20] })], ms := [(8, { cm := 951 })] } } : State).rsetb (Reg.LIN_GRP_LIVE_GROUP_FAIL 0) true : State).odu 4).inHo with | some x => ((({ State.reset with map := { State.reset.map with odu := [(4, { conf := true, type := 5, ts := [1, 2, 3, 4, 5, 6, 7, 8, 9, 10, 11, 12, 13, 14, 15, 16, 17, 18, 19, 20] })], ms := [(8, { cm := 951 })] } } : State).rsetb (Reg.LIN_GRP_LIVE_GROUP_FAIL 0) true : State).odu x).fast | none => (({ State.reset with map := { State.reset.map with odu := [(4, { conf := true, type := 5, ts := [1, 2, 3, 4, 5, 6, 7, 8, 9, 10, 11, 12, 13, 14, 15, 16, 17, 18, 19, 20] })], ms := [(8, { cm := 951 })] } } : State).rsetb (Reg.LIN_GRP_LIVE_GROUP_FAIL 0) true : State).grpTrig ((({ State.reset with map := { State.reset.map with odu := [(4, { conf := true, type := 5, ts := [1, 2, 3, 4, 5, 6, 7, 8, 9, 10, 11, 12, 13, 14, 15, 16, 17, 18, 19, 20] })], ms := [(8, { cm := 951 })] } } : State).rsetb (Reg.LIN_GRP_LIVE_GROUP_FAIL 0) true : State).odu 4).server) = true) := by decide +kernel
theorem wit_fifoSlips : ((wOdu wOdu4 {} []).odu 4).conf = true := by decide +kernel
theorem wit_jcRoundTrip : 951 < 2 ^ 14 ∧ 952 < 2 ^ 14 ∧ 1023 < 1024 := by decide
theorem wit_gmpUnlockDeclare :
    ((({ State.reset with map := { State.reset.map with odu := [(4, { conf := true, type := 5, ts := [1, 2, 3, 4, 5, 6, 7, 8, 9, 10, 11, 12, 13, 14, 15, 16, 17, 18, 19, 20] })], ms := [(8, { held := 5 })] } } : State).odu 4).conf = true ∧ (({ State.reset with map := { State.reset.map with odu := [(4, { conf := true, type := 5, ts := [1, 2, 3, 4, 5, 6, 7, 8, 9, 10, 11, 12, 13, 14, 15, 16, 17, 18, 19, 20] })], ms := [(8, { held := 5 })] } } : State).mp 4 0).unlock = false) ∧
    ((({ State.reset with map := { State.reset.map with odu := [(4, { conf := true, type := 5, ts := [1, 2, 3, 4, 5, 6, 7, 8, 9, 10, 11, 12, 13, 14, 15, 16, 17, 18, 19, 20] })], ms := [(8, { held := 5 })] } } : State).odu 4).jcHold ≤ (({ State.reset with map := { State.reset.map with odu := [(4, { conf := true, type := 5, ts := [1, 2, 3, 4, 5, 6, 7, 8, 9, 10, 11, 12, 13, 14, 15, 16, 17, 18, 19, 20] })], ms := [(8, { held := 5 })] } } : State).mp 4 0).held) := by decide +kernel
theorem wit_gmpUnlockClear :
    ((({ State.reset with map := { State.reset.map with odu := [(4, { conf := true, type := 5, ts := [1, 2, 3, 4, 5, 6, 7, 8, 9, 10, 11, 12, 13, 14, 15, 16, 17, 18, 19, 20] })], ms := [(8, { unlock := true, okRun := 3 })] } } : State).mp 4 0).unlock = true) ∧
    ((({ State.reset with map := { State.reset.map with odu := [(4, { conf := true, type := 5, ts := [1, 2, 3, 4, 5, 6, 7, 8, 9, 10, 11, 12, 13, 14, 15, 16, 17, 18, 19, 20] })], ms := [(8, { unlock := true, okRun := 3 })] } } : State).odu 4).jcResync ≤ (({ State.reset with map := { State.reset.map with odu := [(4, { conf := true, type := 5, ts := [1, 2, 3, 4, 5, 6, 7, 8, 9, 10, 11, 12, 13, 14, 15, 16, 17, 18, 19, 20] })], ms := [(8, { unlock := true, okRun := 3 })] } } : State).mp 4 0).okRun) := by decide +kernel
theorem wit_gmpPeriodTx :
    (((wOdu wOdu4 {} []).odu 4).conf = true ∧ mapProc ((wOdu wOdu4 {} []).odu 4).type ((wOdu wOdu4 {} []).hoType 4) = 1) ∧
    ((wOdu wOdu4 {} []).fromArcade 4 = false) := by decide +kernel
theorem wit_otherMappers :
    (((wOdu { conf := true, type := 2 } {} []).odu 4).conf = true) := by decide +kernel
/-- ODU 4, an ODU1, is mapped by AMP into ODU 7, an ODU2. -/
def wAmp : State := { State.reset with map := { State.reset.map with odu := [(4, { conf := true, type := 1, server := 32775 }), (7, { conf := true, type := 2 })] } }
theorem wit_otherMappers2 : (wAmp.odu 4).conf = true ∧ mapProc (wAmp.odu 4).type (wAmp.hoType 4) = 2 := by decide +kernel
theorem wit_ampMajority : (1 < 4 ∧ 2 < 4 ∧ 2 < 4) ∧ (mapProc (wAmp.odu 4).type (wAmp.hoType 4) = 2) := by decide +kernel
theorem wit_ampMajority2 : (1 < 4 ∧ 2 < 4 ∧ 3 < 4) ∧ (mapProc (wAmp.odu 4).type (wAmp.hoType 4) = 2) := by decide +kernel
/-- ODU 4 is fed over Arcade. -/
def wFed : State :=
  { (wOdu wOdu4 { valid := true, out := 536870913 } []) with arc := { State.reset.arc with flows := [(20484, { hist := [(0, 0), (1, 4964352)], buf := List.replicate 992 7, bufAt := 5 })] } }
theorem wit_timestampedMapper :
    ((wFed.odu 4).conf = true ∧ mapProc (wFed.odu 4).type (wFed.hoType 4) = 1 ∧ wFed.fromArcade 4 = true ∧ (wFed.odu 4).client = 0) ∧
    ((wFed.mp 4 1).starved = false) ∧
    ((wFed.flow 1 (wFed.flowOwner 1 4)).rate (wFed.odu 4).rateWinTicks ((wFed.flow 1 (wFed.flowOwner 1 4)).mapEps 5) = some (⟨31, 155136⟩ : Q)) ∧
    (992 = (wFed.bufNow 5 (wFed.flowOwner 1 4)).buf.length) ∧
    ((⟨2952304375, 9696⟩ : Q) = qsub (qadd (qmul (⟨31, 155136⟩ : Q) (qint 1523770000)) (wFed.mp 4 1).acc) (if (wFed.odu 4).fillGain = 0 then qint 0 else qmul (qsub (qint 992) ⟨1984 * (wFed.odu 4).fillTarget, 100⟩) ⟨1, 2 ^ (wFed.odu 4).fillGain⟩)) ∧
    (304486 = (qfloor (⟨2952304375, 9696⟩ : Q)).toNat + (wFed.mp 4 1).dres) := by decide +kernel
theorem wit_addedOdu :
    ((({ State.reset with map := { State.reset.map with odu := [(4, { conf := true, msiWait := true })] } } : State).odu 4).msiWait = true) := by decide +kernel
theorem wit_clientSignalFail :
    ((({ State.reset with map := { State.reset.map with odu := [(4, { conf := true, type := 5, ts := [1, 2, 3, 4, 5, 6, 7, 8, 9, 10, 11, 12, 13, 14, 15, 16, 17, 18, 19, 20], client := 1 })], ms := [] } } : State).odu 4).client ≠ 0) := by decide +kernel
theorem wit_csfClear : ((wOdu { conf := true, client := 1 } {} [(9, { csf := true, cause := true })]).odu 4).client ≠ 0 := by decide +kernel
theorem wit_clientFrames :
    ((wOdu { conf := true, client := 1 } {} [(9, { csf := true })]).roleRuns = true ∧ ((wOdu { conf := true, client := 1 } {} [(9, { csf := true })]).odu 4).msiWait = false ∧ ((wOdu { conf := true, client := 1 } {} [(9, { csf := true })]).odu 4).client ≠ 0) := by decide +kernel
theorem wit_clientFrames2 :
    ((wOdu { conf := true, client := 1 } {} [(9, { rateOor := true })]).roleRuns = true ∧ ((wOdu { conf := true, client := 1 } {} [(9, { rateOor := true })]).odu 4).msiWait = false ∧ ((wOdu { conf := true, client := 1 } {} [(9, { rateOor := true })]).odu 4).client ≠ 0) := by decide +kernel
theorem wit_rateWindow :
    ((({ State.reset with map := { State.reset.map with odu := [(4, { conf := true, type := 5, ts := [1, 2, 3, 4, 5, 6, 7, 8, 9, 10, 11, 12, 13, 14, 15, 16, 17, 18, 19, 20], client := 1 })], ms := [(9, { outRun := 2 })] } } : State).odu 4).conf = true ∧ (ms 7 : Nat) % ms 1 = 0) ∧
    (100 = (if (({ State.reset with map := { State.reset.map with odu := [(4, { conf := true, type := 5, ts := [1, 2, 3, 4, 5, 6, 7, 8, 9, 10, 11, 12, 13, 14, 15, 16, 17, 18, 19, 20], client := 1 })], ms := [(9, { outRun := 2 })] } } : State).odu 4).client = 0 then oduTol (({ State.reset with map := { State.reset.map with odu := [(4, { conf := true, type := 5, ts := [1, 2, 3, 4, 5, 6, 7, 8, 9, 10, 11, 12, 13, 14, 15, 16, 17, 18, 19, 20], client := 1 })], ms := [(9, { outRun := 2 })] } } : State).odu 4).type else 100)) := by decide +kernel
theorem wit_cnClampRateOor :
    (if true then (({ State.reset with map := { State.reset.map with odu := [(4, { conf := true, type := 5, ts := [1, 2, 3, 4, 5, 6, 7, 8, 9, 10, 11, 12, 13, 14, 15, 16, 17, 18, 19, 20] })], ms := [(9, { clampSince := some 0 })] } } : State).mp 4 1).clampSince = some 0 else (({ State.reset with map := { State.reset.map with odu := [(4, { conf := true, type := 5, ts := [1, 2, 3, 4, 5, 6, 7, 8, 9, 10, 11, 12, 13, 14, 15, 16, 17, 18, 19, 20] })], ms := [(9, { clampSince := some 0 })] } } : State).mp 4 1).clampSince = none ∧ (({ State.reset with map := { State.reset.map with odu := [(4, { conf := true, type := 5, ts := [1, 2, 3, 4, 5, 6, 7, 8, 9, 10, 11, 12, 13, 14, 15, 16, 17, 18, 19, 20] })], ms := [(9, { clampSince := some 0 })] } } : State).mp 4 1).freeSince = some 0) ∧
    (0 + ms 10 ≤ (ms 10 : Nat)) := by decide +kernel
theorem wit_oduCfg :
    (wGrp5.cmdReady 5 wDesc = true ∧ wGrp5.privileged 5 = true) ∧
    (wOdu2.inst < 20480 ∧ (wGrp5.odu wOdu2.inst).conf = false ∧ wGrp5.connected wOdu2.inst = false ∧ wGrp5.lower wOdu2.inst = []) ∧
    (wOdu2.type ≤ 6 ∧ wOdu2.cls ≤ 2 ∧ classBRefused wOdu2.cls wOdu2.type wOdu2.rate = false ∧ wOdu2.slot ≤ 31 ∧ wOdu2.server = 5) ∧
    ((wOdu2.client = 0 ∨ (wOdu2.client = 1 ∧ wOdu2.type = 5) ∨ ((wOdu2.client = 2 ∨ wOdu2.client = 3) ∧ wOdu2.type = 6 ∧ wOdu2.pt ≠ 0)) ∧ (wOdu2.type = 6 → 0 < wOdu2.rate ∧ flexSlots wOdu2.rate none ≤ flexMax none)) ∧
    (5 < 64 ∧ wGrp5.rbit (Reg.LIN_GRP_CFG_ENABLED 5) = true) ∧
    (wOdu2.tsCount = slotsNeeded wOdu2.type wOdu2.rate none ∧ wOdu2.ts.length = wOdu2.tsCount ∧ wOdu2.tu.length = 4 * wOdu2.tsCount) ∧
    (wOdu2.rateWin ≤ 128 ∧ (wOdu2.fillTarget = 0 ∨ (25 ≤ wOdu2.fillTarget ∧ wOdu2.fillTarget ≤ 75)) ∧ (wOdu2.fillGain = 0 ∨ (6 ≤ wOdu2.fillGain ∧ wOdu2.fillGain ≤ 31))) ∧
    (wOdu2.ts.Nodup ∧ wOdu2.tu.Nodup ∧ (∀ x ∈ wOdu2.ts, 1 ≤ x ∧ x ≤ 20 * wGrp5.grpN 5) ∧ (∀ x ∈ wOdu2.tu, x < 20480)) ∧
    ((∀ j ∈ wGrp5.odusUsed, (wGrp5.odu j).server = 5 → ∀ x ∈ wOdu2.ts, x ∉ (wGrp5.odu j).ts)) ∧
    ((∀ j ∈ wGrp5.odusUsed, (wGrp5.odu j).inHo = none → ∀ x ∈ wOdu2.tu, x ∉ (wGrp5.odu j).tu)) ∧
    (((wGrp5.chargedOn wOdu2.slot).map fun j => (wGrp5.odu j).tus).sum + 4 * wOdu2.tsCount ≤ 640) ∧
    ((wGrp5.oduSet 5 wOdu2.inst (oduOf wOdu2 (wGrp5.odu wOdu2.inst))).classATu 0 ≤ 5120 ∧ (wGrp5.oduSet 5 wOdu2.inst (oduOf wOdu2 (wGrp5.odu wOdu2.inst))).classATu 1 ≤ 5120) ∧
    ((wGrp5.oduSet 5 wOdu2.inst (oduOf wOdu2 (wGrp5.odu wOdu2.inst))).deskewRoom [(0, (wGrp5.oduSet 5 wOdu2.inst (oduOf wOdu2 (wGrp5.odu wOdu2.inst))).pairX 0 wOdu2.inst), (1, (wGrp5.oduSet 5 wOdu2.inst (oduOf wOdu2 (wGrp5.odu wOdu2.inst))).pairX 1 wOdu2.inst)] = true) ∧
    ((wGrp5.oduSet 5 wOdu2.inst (oduOf wOdu2 (wGrp5.odu wOdu2.inst))).overAdmitted (256 + wOdu2.inst) = none) := by
  refine ⟨?_, ?_, ?_, ?_, ?_, ?_, ?_, ?_, ?_, ?_, ?_, ?_, ?_, ?_⟩ <;> decide +kernel
theorem wit_oduCfgLower :
    (wHo.cmdReady 5 wDesc = true ∧ wHo.privileged 5 = true) ∧
    (wOdu0.inst < 20480 ∧ (wHo.odu wOdu0.inst).conf = false ∧ wHo.connected wOdu0.inst = false ∧ wHo.lower wOdu0.inst = []) ∧
    (wOdu0.server = 32768 + 7 ∧ (wHo.odu 7).conf = true ∧ 7 ≠ wOdu0.inst ∧ (wHo.odu 7).inHo = none ∧ (wHo.odu 7).client = 0 ∧ mapProc wOdu0.type (some (wHo.odu 7).type) ≠ 0) ∧
    (((wHo.cn 0 7).valid = true → (wHo.cn 0 7).kind ≠ 0) ∧ ((wHo.cn 1 7).valid = true → (wHo.cn 1 7).kind ≠ 0)) ∧
    (wOdu0.type ≤ 6 ∧ wOdu0.cls ≤ 2 ∧ classBRefused wOdu0.cls wOdu0.type wOdu0.rate = false ∧ wOdu0.slot ≤ 31 ∧ wOdu0.slot = (wHo.odu 7).slot) ∧
    ((wOdu0.client = 0 ∨ (wOdu0.client = 1 ∧ wOdu0.type = 5) ∨ ((wOdu0.client = 2 ∨ wOdu0.client = 3) ∧ wOdu0.type = 6 ∧ wOdu0.pt ≠ 0)) ∧ (wOdu0.type = 6 → 0 < wOdu0.rate ∧ flexSlots wOdu0.rate (some (wHo.odu 7).type) ≤ flexMax (some (wHo.odu 7).type))) ∧
    (wOdu0.tsCount = slotsNeeded wOdu0.type wOdu0.rate (some (wHo.odu 7).type) ∧ wOdu0.ts.length = wOdu0.tsCount ∧ wOdu0.tu.length = wOdu0.tsCount) ∧
    (wOdu0.rateWin ≤ 128 ∧ (wOdu0.fillTarget = 0 ∨ (25 ≤ wOdu0.fillTarget ∧ wOdu0.fillTarget ≤ 75)) ∧ (wOdu0.fillGain = 0 ∨ (6 ≤ wOdu0.fillGain ∧ wOdu0.fillGain ≤ 31))) ∧
    (wOdu0.ts.Nodup ∧ wOdu0.tu.Nodup ∧ (∀ x ∈ wOdu0.ts, 1 ≤ x ∧ x ≤ slotCount (some (wHo.odu 7).type)) ∧ (∀ x ∈ wOdu0.tu, x < 20480 ∧ x ∈ (wHo.odu 7).tu)) ∧
    ((∀ j ∈ wHo.odusUsed, (wHo.odu j).server = wOdu0.server → ∀ x ∈ wOdu0.ts, x ∉ (wHo.odu j).ts)) ∧
    ((∀ j ∈ wHo.odusUsed, (wHo.odu j).server = wOdu0.server → ∀ x ∈ wOdu0.tu, x ∉ (wHo.odu j).tu)) ∧
    ((wHo.oduSet 5 wOdu0.inst (oduOf wOdu0 (wHo.odu wOdu0.inst))).classATu 0 ≤ 5120 ∧ (wHo.oduSet 5 wOdu0.inst (oduOf wOdu0 (wHo.odu wOdu0.inst))).classATu 1 ≤ 5120) ∧
    ((wHo.oduSet 5 wOdu0.inst (oduOf wOdu0 (wHo.odu wOdu0.inst))).deskewRoom [(0, (wHo.oduSet 5 wOdu0.inst (oduOf wOdu0 (wHo.odu wOdu0.inst))).pairX 0 wOdu0.inst), (1, (wHo.oduSet 5 wOdu0.inst (oduOf wOdu0 (wHo.odu wOdu0.inst))).pairX 1 wOdu0.inst)] = true) ∧
    ((wHo.oduSet 5 wOdu0.inst (oduOf wOdu0 (wHo.odu wOdu0.inst))).overAdmitted (256 + wOdu0.inst) = none) := by
  refine ⟨?_, ?_, ?_, ?_, ?_, ?_, ?_, ?_, ?_, ?_, ?_, ?_, ?_, ?_⟩ <;> decide +kernel
theorem wit_placeHeld :
    (wHo.cmdReady 5 wDesc = true ∧ wHo.privileged 5 = true) ∧
    (({ wOdu2 with inst := 7 } : OduParams).inst < 20480 ∧ (wHo.odu ({ wOdu2 with inst := 7 } : OduParams).inst).conf = true ∧ wHo.connected ({ wOdu2 with inst := 7 } : OduParams).inst = true ∧ (wHo.odu ({ wOdu2 with inst := 7 } : OduParams).inst).place ≠ (oduOf ({ wOdu2 with inst := 7 } : OduParams) (wHo.odu ({ wOdu2 with inst := 7 } : OduParams).inst)).place) ∧
    (({ wOdu2 with inst := 7 } : OduParams).type ≤ 5 ∧ ({ wOdu2 with inst := 7 } : OduParams).cls ≤ 2 ∧ classBRefused ({ wOdu2 with inst := 7 } : OduParams).cls ({ wOdu2 with inst := 7 } : OduParams).type ({ wOdu2 with inst := 7 } : OduParams).rate = false ∧ ({ wOdu2 with inst := 7 } : OduParams).slot ≤ 31 ∧ ({ wOdu2 with inst := 7 } : OduParams).server = 5) ∧
    (({ wOdu2 with inst := 7 } : OduParams).client = 0 ∨ (({ wOdu2 with inst := 7 } : OduParams).client = 1 ∧ ({ wOdu2 with inst := 7 } : OduParams).type = 5)) ∧
    (5 < 64 ∧ wHo.rbit (Reg.LIN_GRP_CFG_ENABLED 5) = true) ∧
    (({ wOdu2 with inst := 7 } : OduParams).tsCount = mapSlots ({ wOdu2 with inst := 7 } : OduParams).type none ∧ ({ wOdu2 with inst := 7 } : OduParams).ts.length = ({ wOdu2 with inst := 7 } : OduParams).tsCount ∧ (∀ x ∈ ({ wOdu2 with inst := 7 } : OduParams).ts, 1 ≤ x ∧ x ≤ 20 * wHo.grpN 5)) ∧
    (({ wOdu2 with inst := 7 } : OduParams).rateWin ≤ 128 ∧ (({ wOdu2 with inst := 7 } : OduParams).fillTarget = 0 ∨ (25 ≤ ({ wOdu2 with inst := 7 } : OduParams).fillTarget ∧ ({ wOdu2 with inst := 7 } : OduParams).fillTarget ≤ 75)) ∧ (({ wOdu2 with inst := 7 } : OduParams).fillGain = 0 ∨ (6 ≤ ({ wOdu2 with inst := 7 } : OduParams).fillGain ∧ ({ wOdu2 with inst := 7 } : OduParams).fillGain ≤ 31))) := by decide +kernel
theorem wit_wrongSlotCount :
    ((wRing.rsetb (Reg.LIN_GRP_CFG_ENABLED 5) true : State).cmdReady 5 wDesc = true ∧ (wRing.rsetb (Reg.LIN_GRP_CFG_ENABLED 5) true : State).privileged 5 = true) ∧
    (({ inst := 20479, type := 2, client := 0, server := 5, cls := 0, rank := 8, slot := 31, rate := 0, tsCount := 3, jcHold := 0, jcResync := 15, rateWin := 128, fillTarget := 0, fillGain := 12, pt := 0, ts := [1, 20], tu := [0, 1, 2, 20479, 4, 5, 6, 7] } : OduParams).inst < 20480 ∧ ({ inst := 20479, type := 2, client := 0, server := 5, cls := 0, rank := 8, slot := 31, rate := 0, tsCount := 3, jcHold := 0, jcResync := 15, rateWin := 128, fillTarget := 0, fillGain := 12, pt := 0, ts := [1, 20], tu := [0, 1, 2, 20479, 4, 5, 6, 7] } : OduParams).type ≤ 5 ∧ ({ inst := 20479, type := 2, client := 0, server := 5, cls := 0, rank := 8, slot := 31, rate := 0, tsCount := 3, jcHold := 0, jcResync := 15, rateWin := 128, fillTarget := 0, fillGain := 12, pt := 0, ts := [1, 20], tu := [0, 1, 2, 20479, 4, 5, 6, 7] } : OduParams).client = 0 ∧ ({ inst := 20479, type := 2, client := 0, server := 5, cls := 0, rank := 8, slot := 31, rate := 0, tsCount := 3, jcHold := 0, jcResync := 15, rateWin := 128, fillTarget := 0, fillGain := 12, pt := 0, ts := [1, 20], tu := [0, 1, 2, 20479, 4, 5, 6, 7] } : OduParams).cls = 0 ∧ ({ inst := 20479, type := 2, client := 0, server := 5, cls := 0, rank := 8, slot := 31, rate := 0, tsCount := 3, jcHold := 0, jcResync := 15, rateWin := 128, fillTarget := 0, fillGain := 12, pt := 0, ts := [1, 20], tu := [0, 1, 2, 20479, 4, 5, 6, 7] } : OduParams).slot ≤ 31 ∧ ({ inst := 20479, type := 2, client := 0, server := 5, cls := 0, rank := 8, slot := 31, rate := 0, tsCount := 3, jcHold := 0, jcResync := 15, rateWin := 128, fillTarget := 0, fillGain := 12, pt := 0, ts := [1, 20], tu := [0, 1, 2, 20479, 4, 5, 6, 7] } : OduParams).server = 5) ∧
    (5 < 64 ∧ (wRing.rsetb (Reg.LIN_GRP_CFG_ENABLED 5) true : State).rbit (Reg.LIN_GRP_CFG_ENABLED 5) = true) ∧
    (({ inst := 20479, type := 2, client := 0, server := 5, cls := 0, rank := 8, slot := 31, rate := 0, tsCount := 3, jcHold := 0, jcResync := 15, rateWin := 128, fillTarget := 0, fillGain := 12, pt := 0, ts := [1, 20], tu := [0, 1, 2, 20479, 4, 5, 6, 7] } : OduParams).tsCount ≠ mapSlots ({ inst := 20479, type := 2, client := 0, server := 5, cls := 0, rank := 8, slot := 31, rate := 0, tsCount := 3, jcHold := 0, jcResync := 15, rateWin := 128, fillTarget := 0, fillGain := 12, pt := 0, ts := [1, 20], tu := [0, 1, 2, 20479, 4, 5, 6, 7] } : OduParams).type none) := by decide +kernel
theorem wit_oduRemove :
    (({ wRing with map := { State.reset.map with odu := [(20479, { conf := true })] } } : State).cmdReady 5 wDesc = true ∧ ({ wRing with map := { State.reset.map with odu := [(20479, { conf := true })] } } : State).privileged 5 = true) ∧
    (20479 < 20480 ∧ (({ wRing with map := { State.reset.map with odu := [(20479, { conf := true })] } } : State).odu 20479).conf = true) ∧
    (({ wRing with map := { State.reset.map with odu := [(20479, { conf := true })] } } : State).connected 20479 = false ∧ ({ wRing with map := { State.reset.map with odu := [(20479, { conf := true })] } } : State).lower 20479 = [] ∧ (({ wRing with map := { State.reset.map with odu := [(20479, { conf := true })] } } : State).plz.conn.any fun x => x.2.valid && x.2.partner == 20479) = false) := by decide +kernel
theorem wit_removalRefused :
    (({ wRing with map := { State.reset.map with odu := [(20479, { conf := true })] }, plz := { State.reset.plz with conn := [(20479, { valid := true })] } } : State).cmdReady 5 wDesc = true ∧ ({ wRing with map := { State.reset.map with odu := [(20479, { conf := true })] }, plz := { State.reset.plz with conn := [(20479, { valid := true })] } } : State).privileged 5 = true) ∧
    (20479 < 20480 ∧ (({ wRing with map := { State.reset.map with odu := [(20479, { conf := true })] }, plz := { State.reset.plz with conn := [(20479, { valid := true })] } } : State).odu 20479).conf = true) ∧
    (({ wRing with map := { State.reset.map with odu := [(20479, { conf := true })] }, plz := { State.reset.plz with conn := [(20479, { valid := true })] } } : State).connected 20479 = true) := by decide +kernel
theorem wit_connBatch :
    (wConn.cmdReady 5 wDesc = true ∧ wConn.privileged 5 = true) ∧
    (([{ op := 1, tx := false, inst := 7 }, { op := 1, tx := true, inst := 7, ddMax := 100 }] : List ConnRec) ≠ [] ∧ ([{ op := 1, tx := false, inst := 7 }, { op := 1, tx := true, inst := 7, ddMax := 100 }] : List ConnRec).length ≤ 1024) ∧
    (∀ r ∈ ([{ op := 1, tx := false, inst := 7 }, { op := 1, tx := true, inst := 7, ddMax := 100 }] : List ConnRec), wConn.recRange ([{ op := 1, tx := false, inst := 7 }, { op := 1, tx := true, inst := 7, ddMax := 100 }] : List ConnRec) r = none ∧ wConn.recCapacity (wConn.placeRecs ([{ op := 1, tx := false, inst := 7 }, { op := 1, tx := true, inst := 7, ddMax := 100 }] : List ConnRec)) ([{ op := 1, tx := false, inst := 7 }, { op := 1, tx := true, inst := 7, ddMax := 100 }] : List ConnRec) r = none) ∧
    (∀ k < ([{ op := 1, tx := false, inst := 7 }, { op := 1, tx := true, inst := 7, ddMax := 100 }] : List ConnRec).length, (([{ op := 1, tx := false, inst := 7 }, { op := 1, tx := true, inst := 7, ddMax := 100 }] : List ConnRec)[k]?.bind (wConn.recState (wConn.placeRecs ([{ op := 1, tx := false, inst := 7 }, { op := 1, tx := true, inst := 7, ddMax := 100 }] : List ConnRec)) ([{ op := 1, tx := false, inst := 7 }, { op := 1, tx := true, inst := 7, ddMax := 100 }] : List ConnRec) k)) = none) ∧
    (([{ op := 1, tx := false, inst := 7 }, { op := 1, tx := true, inst := 7, ddMax := 100 }] : List ConnRec).filter wConn.recActs ≠ []) := by decide +kernel
theorem wit_connBatchIdle :
    (wConn.cmdReady 5 wDesc = true ∧ wConn.privileged 5 = true) ∧
    (({ op := 2, tx := true, inst := 20479 } : ConnRec).op = 2 ∧ ({ op := 2, tx := true, inst := 20479 } : ConnRec).inst < 20480 ∧ (wConn.cn (b2n ({ op := 2, tx := true, inst := 20479 } : ConnRec).tx) ({ op := 2, tx := true, inst := 20479 } : ConnRec).inst).valid = false) := by decide +kernel
theorem wit_connBatchRange :
    (wConn.cmdReady 5 wDesc = true ∧ wConn.privileged 5 = true) ∧
    (([{ op := 1, tx := false, inst := 7 }] : List ConnRec).length < 1024) ∧
    (∀ q ∈ ([{ op := 1, tx := false, inst := 7 }] : List ConnRec), wConn.recRange (([{ op := 1, tx := false, inst := 7 }] : List ConnRec) ++ [({ op := 2, tx := true, inst := 20480 } : ConnRec)]) q = none) ∧
    ((({ op := 2, tx := true, inst := 20480 } : ConnRec).op = 1 ∨ ({ op := 2, tx := true, inst := 20480 } : ConnRec).op = 2) ∧ 20479 < ({ op := 2, tx := true, inst := 20480 } : ConnRec).inst) := by decide +kernel
theorem wit_connBatchShare :
    (wConn2.cmdReady 5 wDesc = true ∧ wConn2.privileged 5 = true) ∧
    (wConn2.recRange [({ op := 1, tx := false, inst := 7, portA := 0x10000000 } : ConnRec)] ({ op := 1, tx := false, inst := 7, portA := 0x10000000 } : ConnRec) = none ∧ ({ op := 1, tx := false, inst := 7, portA := 0x10000000 } : ConnRec).op = 1 ∧ ({ op := 1, tx := false, inst := 7, portA := 0x10000000 } : ConnRec).tx = false ∧ ({ op := 1, tx := false, inst := 7, portA := 0x10000000 } : ConnRec).partner = 0xFFFF ∧ ({ op := 1, tx := false, inst := 7, portA := 0x10000000 } : ConnRec).portA ≠ 0) ∧
    ((wConn2.odu ({ op := 1, tx := false, inst := 7, portA := 0x10000000 } : ConnRec).inst).conf = true ∧ wConn2.moveStands ({ op := 1, tx := false, inst := 7, portA := 0x10000000 } : ConnRec).inst = false ∧ wConn2.kindOf ({ op := 1, tx := false, inst := 7, portA := 0x10000000 } : ConnRec).inst ≠ 1) ∧
    (9 < 20480 ∧ 9 ≠ ({ op := 1, tx := false, inst := 7, portA := 0x10000000 } : ConnRec).inst ∧ (wConn2.cn 0 9).valid = true ∧ (wConn2.cn 0 9).portA = ({ op := 1, tx := false, inst := 7, portA := 0x10000000 } : ConnRec).portA ∧ (wConn2.cn 0 9).partner ≠ ({ op := 1, tx := false, inst := 7, portA := 0x10000000 } : ConnRec).inst) := by decide +kernel
theorem wit_epochConn :
    (({ wConn2 with plz := { wConn2.plz with batch := [.conn [{ op := 1, tx := false, inst := 7 }, { op := 2, tx := false, inst := 9 }], .rotate 3 33] }, hcq := { wConn2.hcq with exec := some ⟨7, 0x0300, .batch true false⟩ } } : State).plz.batch = .conn ([{ op := 1, tx := false, inst := 7 }, { op := 2, tx := false, inst := 9 }] : List ConnRec) :: ([.rotate 3 33] : List BatchWork)) ∧
    (({ wConn2 with plz := { wConn2.plz with batch := [.conn [{ op := 1, tx := false, inst := 7 }, { op := 2, tx := false, inst := 9 }], .rotate 3 33] }, hcq := { wConn2.hcq with exec := some ⟨7, 0x0300, .batch true false⟩ } } : State).hcq.exec = some ⟨7, 0x0300, .batch true false⟩ ∧ ({ wConn2 with plz := { wConn2.plz with batch := [.conn [{ op := 1, tx := false, inst := 7 }, { op := 2, tx := false, inst := 9 }], .rotate 3 33] }, hcq := { wConn2.hcq with exec := some ⟨7, 0x0300, .batch true false⟩ } } : State).hcq.cut = false ∧ ({ wConn2 with plz := { wConn2.plz with batch := [.conn [{ op := 1, tx := false, inst := 7 }, { op := 2, tx := false, inst := 9 }], .rotate 3 33] }, hcq := { wConn2.hcq with exec := some ⟨7, 0x0300, .batch true false⟩ } } : State).hcq.closing = false ∧ ({ wConn2 with plz := { wConn2.plz with batch := [.conn [{ op := 1, tx := false, inst := 7 }, { op := 2, tx := false, inst := 9 }], .rotate 3 33] }, hcq := { wConn2.hcq with exec := some ⟨7, 0x0300, .batch true false⟩ } } : State).privileged 5 = true) ∧
    (true = (([{ op := 1, tx := false, inst := 7 }, { op := 2, tx := false, inst := 9 }] : List ConnRec).any fun r => !r.tx) ∧ false = (([{ op := 1, tx := false, inst := 7 }, { op := 2, tx := false, inst := 9 }] : List ConnRec).any fun r => r.tx)) ∧
    ((∀ r ∈ ([{ op := 1, tx := false, inst := 7 }, { op := 2, tx := false, inst := 9 }] : List ConnRec), r.inst < 20480) ∧ (([{ op := 1, tx := false, inst := 7 }, { op := 2, tx := false, inst := 9 }] : List ConnRec).map fun r => (r.tx, r.inst)).Nodup) := by decide +kernel
theorem wit_move :
    (wConn2.cmdReady 5 wDesc = true ∧ wConn2.privileged 5 = true) ∧
    (0 ≤ 1 ∧ 9 < 20480 ∧ 26 < 32) ∧
    ((wConn2.cn 0 9).valid = true ∧ (wConn2.odu 9).inHo = none ∧ wConn2.moveStands 9 = false ∧ wConn2.slotParts (wConn2.odu 9).slot = []) ∧
    (26 ≠ (wConn2.odu 9).slot ∧ wConn2.rbit (Reg.PLZ_SLOT_MAP_FENCED 26) = false ∧ wConn2.rbit (Reg.PLZ_SLOT_MAP_PEND_VALID 26) = false) ∧
    (∀ x ∈ [0, 1], (wConn2.partnerOf x 9).all (fun p => (wConn2.odu p).slot != 26) = true) ∧
    (wConn2.slotTu 26 + (wConn2.odu 9).tus ≤ 640) ∧
    ((wConn2.copyFault { tx := 0 == 1, inst := 9, old := (wConn2.odu 9).slot, new := 26 } (wConn2.moveCtxs { tx := 0 == 1, inst := 9, old := (wConn2.odu 9).slot, new := 26 })).isNone = true) := by decide +kernel
theorem wit_moveSlot :
    ((wConn.rset (Reg.AVE_MED_STAT_STATE 33) 1 : State).cmdReady 5 wDesc = true ∧ (wConn.rset (Reg.AVE_MED_STAT_STATE 33) 1 : State).privileged 5 = true) ∧
    (0 ≤ 1 ∧ 17 < 32 ∧ (wConn.rset (Reg.AVE_MED_STAT_STATE 33) 1 : State).slotBusy 17 = false ∧ (wConn.rset (Reg.AVE_MED_STAT_STATE 33) 1 : State).rbit (Reg.PLZ_SLOT_MAP_FENCED 17) = false ∧ (wConn.rset (Reg.AVE_MED_STAT_STATE 33) 1 : State).permitHeld 0x0201 17 = false) ∧
    ((wConn.rset (Reg.AVE_MED_STAT_STATE 33) 1 : State).pickSpare = some 33) := by decide +kernel
theorem wit_moveSameSlot :
    (wConn2.cmdReady 5 wDesc = true ∧ wConn2.privileged 5 = true) ∧
    (0 ≤ 1 ∧ 9 < 20480 ∧ (wConn2.odu 9).slot < 32) ∧
    ((wConn2.cn 0 9).valid = true ∧ (wConn2.odu 9).inHo = none ∧ wConn2.moveStands 9 = false ∧ wConn2.slotParts (wConn2.odu 9).slot = []) := by decide +kernel
theorem wit_epochMove :
    (({ (wConn2.rset Reg.PLZ_EPOCH_EPOCH_TX 0xFFFF) with plz := { wConn2.plz with batch := [.move true 9 26] }, hcq := { wConn2.hcq with exec := some ⟨7, 0x0301, .batch false true⟩ } } : State).plz.batch = .move true 9 26 :: ([] : List BatchWork)) ∧
    (({ (wConn2.rset Reg.PLZ_EPOCH_EPOCH_TX 0xFFFF) with plz := { wConn2.plz with batch := [.move true 9 26] }, hcq := { wConn2.hcq with exec := some ⟨7, 0x0301, .batch false true⟩ } } : State).hcq.exec = some ⟨7, 0x0301, .batch false true⟩ ∧ ({ (wConn2.rset Reg.PLZ_EPOCH_EPOCH_TX 0xFFFF) with plz := { wConn2.plz with batch := [.move true 9 26] }, hcq := { wConn2.hcq with exec := some ⟨7, 0x0301, .batch false true⟩ } } : State).hcq.cut = false ∧ ({ (wConn2.rset Reg.PLZ_EPOCH_EPOCH_TX 0xFFFF) with plz := { wConn2.plz with batch := [.move true 9 26] }, hcq := { wConn2.hcq with exec := some ⟨7, 0x0301, .batch false true⟩ } } : State).hcq.closing = false ∧ ({ (wConn2.rset Reg.PLZ_EPOCH_EPOCH_TX 0xFFFF) with plz := { wConn2.plz with batch := [.move true 9 26] }, hcq := { wConn2.hcq with exec := some ⟨7, 0x0301, .batch false true⟩ } } : State).privileged 5 = true) := by decide +kernel
theorem wit_epochRotate :
    (({ (wConn2.rset (Reg.AVE_MED_STAT_STATE 33) 1) with plz := { wConn2.plz with batch := [.rotate 4 33] } } : State).plz.batch = .rotate 4 33 :: ([] : List BatchWork)) ∧
    (({ (wConn2.rset (Reg.AVE_MED_STAT_STATE 33) 1) with plz := { wConn2.plz with batch := [.rotate 4 33] } } : State).privileged 5 = true ∧ 4 < 32 ∧ 33 < 36 ∧ ({ (wConn2.rset (Reg.AVE_MED_STAT_STATE 33) 1) with plz := { wConn2.plz with batch := [.rotate 4 33] } } : State).aveState 33 = 1 ∧ ({ (wConn2.rset (Reg.AVE_MED_STAT_STATE 33) 1) with plz := { wConn2.plz with batch := [.rotate 4 33] } } : State).chargedOn 4 ≠ []) ∧
    ((∀ i ∈ ({ (wConn2.rset (Reg.AVE_MED_STAT_STATE 33) 1) with plz := { wConn2.plz with batch := [.rotate 4 33] } } : State).chargedOn 4, i < 20480)) := by decide +kernel
theorem wit_epochPastLease :
    (({ wConn2.rset Reg.KSK_PAIR_STAT_ROLE 1 with plz := { wConn2.plz with batch := [.move true 9 26] }, hcq := { wConn2.hcq with exec := some ⟨7, 0x0301, .batch false true⟩ } } : State).plz.batch = (.move true 9 26 : BatchWork) :: ([] : List BatchWork) ∧ ({ wConn2.rset Reg.KSK_PAIR_STAT_ROLE 1 with plz := { wConn2.plz with batch := [.move true 9 26] }, hcq := { wConn2.hcq with exec := some ⟨7, 0x0301, .batch false true⟩ } } : State).privileged 5 = false) ∧
    ((∀ slot a, (.move true 9 26 : BatchWork) ≠ .rotate slot a)) ∧
    (({ wConn2.rset Reg.KSK_PAIR_STAT_ROLE 1 with plz := { wConn2.plz with batch := [.move true 9 26] }, hcq := { wConn2.hcq with exec := some ⟨7, 0x0301, .batch false true⟩ } } : State).hcq.exec = some ⟨7, 0x0301, .batch false true⟩ ∧ ({ wConn2.rset Reg.KSK_PAIR_STAT_ROLE 1 with plz := { wConn2.plz with batch := [.move true 9 26] }, hcq := { wConn2.hcq with exec := some ⟨7, 0x0301, .batch false true⟩ } } : State).hcq.cut = false ∧ ({ wConn2.rset Reg.KSK_PAIR_STAT_ROLE 1 with plz := { wConn2.plz with batch := [.move true 9 26] }, hcq := { wConn2.hcq with exec := some ⟨7, 0x0301, .batch false true⟩ } } : State).hcq.closing = false) := by refine ⟨by decide +kernel, (fun _ _ h => by cases h), by decide +kernel⟩
/-- A move of instance 9 from slot 0 to slot 1 stands in phase p: context 4101 takes over from 5. -/
def wMv (p : MovePhase) (cut : Nat) (f : Bool) (x : Option Nat) : State :=
  { wMove { old := 0, new := 1, epoch := 3, live := true, inst := 9, phase := p, period := 100, cutAt := cut, forced := f, ctxs := [(5, 4101)] } with
    jrm := { State.reset.jrm with ctx := [(5, { state := 1 }), (4101, { state := 1, shadow := true, commits := 1, readyAt := x })] } }
theorem wit_moveInstall :
    (((wMove { old := 4, new := 26, epoch := 0x153, live := true, inst := 9 }).mv 9).live = true ∧ ((wMove { old := 4, new := 26, epoch := 0x153, live := true, inst := 9 }).mv 9).phase = .waiting ∧ ((wMove { old := 4, new := 26, epoch := 0x153, live := true, inst := 9 }).mv 9).slice = false ∧ ((wMove { old := 4, new := 26, epoch := 0x153, live := true, inst := 9 }).mv 9).slotMove = none ∧ ((wMove { old := 4, new := 26, epoch := 0x153, live := true, inst := 9 }).mv 9).back = false ∧ ((wMove { old := 4, new := 26, epoch := 0x153, live := true, inst := 9 }).mv 9).install ≤ 5) ∧
    (((wMove { old := 4, new := 26, epoch := 0x153, live := true, inst := 9 }).cn ((wMove { old := 4, new := 26, epoch := 0x153, live := true, inst := 9 }).mv 9).dir ((wMove { old := 4, new := 26, epoch := 0x153, live := true, inst := 9 }).mv 9).inst).valid = true) ∧
    (((wMove { old := 4, new := 26, epoch := 0x153, live := true, inst := 9 }).copyCtxs ((wMove { old := 4, new := 26, epoch := 0x153, live := true, inst := 9 }).mv 9) ((wMove { old := 4, new := 26, epoch := 0x153, live := true, inst := 9 }).moveCtxs ((wMove { old := 4, new := 26, epoch := 0x153, live := true, inst := 9 }).mv 9))).map (·.2) = some ([] : List (Nat × Nat))) := by decide +kernel
theorem wit_moveCutover :
    (((wMv .overlap 0 false (some 150)).mv 9).live = true ∧ ((wMv .overlap 0 false (some 150)).mv 9).phase = .overlap ∧ ((wMv .overlap 0 false (some 150)).mv 9).slice = false ∧ ((wMv .overlap 0 false (some 150)).mv 9).slotMove = none ∧ ((wMv .overlap 0 false (some 150)).mv 9).back = false) ∧
    ((wMv .overlap 0 false (some 150)).moveReady ((wMv .overlap 0 false (some 150)).mv 9) = true ∧ ((wMv .overlap 0 false (some 150)).mv 9).install < 200) ∧
    ((wMv .overlap 0 false (some 150)).releasesPast 200 ((wMv .overlap 0 false (some 150)).mv 9) = true ∧ 200 ≤ ((wMv .overlap 0 false (some 150)).mv 9).install + 2 * ((wMv .overlap 0 false (some 150)).mv 9).period) ∧
    (((wMv .overlap 0 false (some 150)).cn ((wMv .overlap 0 false (some 150)).mv 9).dir ((wMv .overlap 0 false (some 150)).mv 9).inst).valid = true) ∧
    ((((wMv .overlap 0 false (some 150)).mv 9).ctxs.flatMap fun p => [p.1, p.2]).Nodup) := by decide +kernel
theorem wit_moveForced :
    (((wMv .overlap 0 true (some 500)).mv 9).live = true ∧ ((wMv .overlap 0 true (some 500)).mv 9).phase = .overlap ∧ ((wMv .overlap 0 true (some 500)).mv 9).slice = false ∧ ((wMv .overlap 0 true (some 500)).mv 9).slotMove = none ∧ ((wMv .overlap 0 true (some 500)).mv 9).back = false) ∧
    ((wMv .overlap 0 true (some 500)).moveReady ((wMv .overlap 0 true (some 500)).mv 9) = true ∧ ((wMv .overlap 0 true (some 500)).mv 9).install < 200) ∧
    (((wMv .overlap 0 true (some 500)).mv 9).forced = true) ∧
    (((wMv .overlap 0 true (some 500)).cn ((wMv .overlap 0 true (some 500)).mv 9).dir ((wMv .overlap 0 true (some 500)).mv 9).inst).valid = true) := by decide +kernel
theorem wit_moveRetire :
    (((wMv .cut 7 false none).mv 9).live = true ∧ ((wMv .cut 7 false none).mv 9).phase = .cut ∧ ((wMv .cut 7 false none).mv 9).slice = false ∧ ((wMv .cut 7 false none).mv 9).slotMove = none ∧ ((wMv .cut 7 false none).mv 9).back = false ∧ ((wMv .cut 7 false none).mv 9).cutAt < 200) ∧
    (((wMv .cut 7 false none).mv 9).inst < 20480 ∧ ((wMv .cut 7 false none).cn ((wMv .cut 7 false none).mv 9).dir ((wMv .cut 7 false none).mv 9).inst).valid = true ∧ ((wMv .cut 7 false none).odu ((wMv .cut 7 false none).mv 9).inst).inHo ≠ some ((wMv .cut 7 false none).mv 9).inst) := by decide +kernel
theorem wit_moveAbort :
    (((wMv .overlap 0 false none).mv 9).live = true ∧ ((wMv .overlap 0 false none).mv 9).phase = .overlap ∧ ((wMv .overlap 0 false none).mv 9).slice = false ∧ ((wMv .overlap 0 false none).mv 9).slotMove = none ∧ ((wMv .overlap 0 false none).mv 9).back = false ∧ ((wMv .overlap 0 false none).mv 9).forced = false) ∧
    (((wMv .overlap 0 false none).cn ((wMv .overlap 0 false none).mv 9).dir ((wMv .overlap 0 false none).mv 9).inst).valid = true) ∧
    (((wMv .overlap 0 false none).mv 9).install + 2 * ((wMv .overlap 0 false none).mv 9).period ≤ 200) := by decide +kernel
theorem wit_moveNotYet :
    ((wMove { old := 0, new := 1, epoch := 3, live := true, inst := 9, phase := .overlap, period := 100, ctxs := [(5, 4101)] } : State).moveReady ((wMove { old := 0, new := 1, epoch := 3, live := true, inst := 9, phase := .overlap, period := 100, ctxs := [(5, 4101)] } : State).mv 9) = false) := by decide +kernel
theorem wit_connectionChangeApply :
    (1 < 2 ∧ 9 < 20480 ∧ (({ State.reset with plz := { State.reset.plz with conn := [(20489, { valid := true, changed := true, portA := 5 })] } } : State).cn 1 9).changed = true) := by decide +kernel
theorem wit_selectionFast :
    ((wPair { fast := true, at_ := 3 } : State).switchPartner 9 = some 4 ∧ 9 ≠ 4) ∧
    (((wPair { fast := true, at_ := 3 } : State).cn 0 9).req = some ({ fast := true, at_ := 3 } : SelReq) ∧ ({ fast := true, at_ := 3 } : SelReq).fast = true ∧ ({ fast := true, at_ := 3 } : SelReq).at_ < 5) ∧
    ((wPair { fast := true, at_ := 3 } : State).hwSf 9 = false ∨ (wPair { fast := true, at_ := 3 } : State).hwSf 4 = false ∧ ((wPair { fast := true, at_ := 3 } : State).cn 0 4).inhibit = true) := by decide +kernel
theorem wit_selectionCommanded :
    ((wPair { fast := false, at_ := 3 } : State).switchPartner 9 = some 4 ∧ 9 ≠ 4) ∧
    (((wPair { fast := false, at_ := 3 } : State).cn 0 9).req = some ({ fast := false, at_ := 3 } : SelReq) ∧ ({ fast := false, at_ := 3 } : SelReq).fast = false ∧ ({ fast := false, at_ := 3 } : SelReq).at_ < 5) ∧
    ((wPair { fast := false, at_ := 3 } : State).hwSf 9 = false ∨ (wPair { fast := false, at_ := 3 } : State).hwSf 4 = false ∧ ((wPair { fast := false, at_ := 3 } : State).cn 0 4).inhibit = true) := by decide +kernel
theorem wit_selectionHeld :
    (((wPair { fast := false, at_ := 3 }).setMp 9 0 { unlock := true } : State).switchPartner 9 = some 4) ∧
    ((((wPair { fast := false, at_ := 3 }).setMp 9 0 { unlock := true } : State).cn 0 9).req = some ({ fast := false, at_ := 3 } : SelReq) ∧ ({ fast := false, at_ := 3 } : SelReq).fast = false ∧ ({ fast := false, at_ := 3 } : SelReq).at_ < 5) ∧
    (((wPair { fast := false, at_ := 3 }).setMp 9 0 { unlock := true } : State).hwSf 9 = true ∧ (((wPair { fast := false, at_ := 3 }).setMp 9 0 { unlock := true } : State).hwSf 4 = true ∨ (((wPair { fast := false, at_ := 3 }).setMp 9 0 { unlock := true } : State).cn 0 4).inhibit = false)) := by decide +kernel
theorem wit_fastPathTrigger : (wFail false).switchPartner 4 = some 9 ∧ 4 ≠ 9 ∧ ((wFail false).cn 0 4).sel = true ∧ (wFail false).hwSf 4 = true ∧
    ((wFail false).cn 0 9).req = none := by decide +kernel
theorem wit_fastPathTrigger_asks : (wFail false).hwSf 9 = false ∧ ((wFail false).cn 0 4).fastEn = true ∧ ((wFail false).cn 0 9).fastEn = true ∧
    ((wFail false).cn 0 9).inhibit = false := by decide +kernel
theorem wit_fastPathTrigger2 : (wFail true).switchPartner 4 = some 9 ∧ 4 ≠ 9 ∧ ((wFail true).cn 0 4).sel = true ∧ (wFail true).hwSf 4 = true ∧
    ((wFail true).cn 0 9).req = none := by decide +kernel
theorem wit_fastPathTrigger_both : (wFail true).hwSf 9 = true := by decide +kernel
theorem wit_sysPortCfg :
    (wRing.cmdReady 5 wDesc = true) ∧
    (19 < 20 ∧ 2 ≤ 2 ∧ 0 ≤ 2 ∧ 1 ≤ 1 ∧ (2 ≠ 0 → 2 ≤ 7 ∧ 7 ≤ 7)) ∧
    (wRing.grpNamed 19 = false ∧ wRing.anyPermit sysPermits 19 = false) := by decide +kernel
theorem wit_sysPortCfg2 :
    ((wRing.rsetb (Reg.SYP_AL_CFG_ENABLED 17) true : State).cmdReady 5 wDesc = true) ∧
    (2 < 20 ∧ 1 ≤ 2 ∧ 2 ≤ 2 ∧ 0 ≤ 1 ∧ (1 ≠ 0 → 2 ≤ 2 ∧ 2 ≤ 7)) ∧
    ((wRing.rsetb (Reg.SYP_AL_CFG_ENABLED 17) true : State).grpNamed 2 = false ∧ (wRing.rsetb (Reg.SYP_AL_CFG_ENABLED 17) true : State).anyPermit sysPermits 2 = false) := by decide +kernel
theorem wit_arcLinkEnable :
    (((wArc 0).rsetb (Reg.SYP_AL_CFG_ENABLED 16) false : State).cmdReady 5 wDesc = true) ∧
    (16 < 160 ∧ ((wArc 0).rsetb (Reg.SYP_AL_CFG_ENABLED 16) false : State).rbit Reg.SYP_ARC_ID_VALID = true ∧ (((wArc 0).rsetb (Reg.SYP_AL_CFG_ENABLED 16) false : State).sysGrp (16 / 8)).mode = 2 ∧ ((wArc 0).rsetb (Reg.SYP_AL_CFG_ENABLED 16) false : State).alEnabled 16 = false ∧ ((wArc 0).rsetb (Reg.SYP_AL_CFG_ENABLED 16) false : State).alState 16 = 0) := by decide +kernel
theorem wit_arcLinkNoDevid :
    (wRing.cmdReady 5 wDesc = true) ∧
    (159 < 160 ∧ wRing.rbit Reg.SYP_ARC_ID_VALID = false) := by decide +kernel
theorem wit_arcLinkDisable :
    ((wArc 3 : State).cmdReady 5 wDesc = true) ∧
    (16 < 160 ∧ (wArc 3 : State).alEnabled 16 = true) := by decide +kernel
theorem wit_arcLinkDrain :
    ((wArc 3 : State).cmdReady 5 wDesc = true) ∧
    (16 < 160 ∧ (wArc 3 : State).alEnabled 16 = true ∧ (wArc 3 : State).alUp 16 = true) := by decide +kernel
theorem wit_linkFecLock :
    (16 < 160 ∧ ((wArc 0).setAlk 16 { cdr := true, hold := 5 } : State).alEnabled 16 = true ∧ ((wArc 0).setAlk 16 { cdr := true, hold := 5 } : State).alState 16 = 0 ∧ (((wArc 0).setAlk 16 { cdr := true, hold := 5 } : State).alk 16).cdr = true ∧ (((wArc 0).setAlk 16 { cdr := true, hold := 5 } : State).alk 16).hold ≤ 5) := by decide +kernel
theorem wit_linkDelineated :
    (16 < 160 ∧ (wArc 1 : State).alState 16 = 1) := by decide +kernel
theorem wit_linkFecLockLoss :
    (16 < 160 ∧ (wArc 3 : State).alState 16 ≠ 0 ∧ ((wArc 3 : State).alk 16).drainRx = false) := by decide +kernel
theorem wit_linkFecLockLoss2 :
    (16 < 160 ∧ (wArc 1 : State).alState 16 ≠ 0 ∧ ((wArc 1 : State).alk 16).drainRx = false) := by decide +kernel
theorem wit_delineationLoss :
    (16 < 160 ∧ 2 ≤ ((wArc 3).setAlk 16 { bad := 7 } : State).alState 16 ∧ 7 ≤ (((wArc 3).setAlk 16 { bad := 7 } : State).alk 16).bad ∧ (((wArc 3).setAlk 16 { bad := 7 } : State).alk 16).drainRx = false) := by decide +kernel
theorem wit_cellTimeout :
    (16 < 160 ∧ (wArc 3 : State).alUp 16 = true ∧ ((wArc 3 : State).alk 16).lastValid + us 2 ≤ (us 2 : Nat)) := by decide +kernel
theorem wit_cellTimeout2 :
    (16 < 160 ∧ ((wArc 3).setAlk 16 { drainRx := true } : State).alUp 16 = true ∧ (((wArc 3).setAlk 16 { drainRx := true } : State).alk 16).lastValid + us 2 ≤ (us 2 : Nat)) := by decide +kernel
theorem wit_peerRxDown :
    (16 < 160 ∧ ((wArc 3).setAlk 16 { rxDown := 3 } : State).alUp 16 = true ∧ 3 ≤ (((wArc 3).setAlk 16 { rxDown := 3 } : State).alk 16).rxDown ∧ (((wArc 3).setAlk 16 { rxDown := 3 } : State).alk 16).drainRx = false) := by decide +kernel
theorem wit_negTimeout :
    (16 < 160 ∧ (wArc 2 : State).alState 16 = 2 ∧ ((wArc 2 : State).alk 16).since + ms 10 ≤ (ms 10 : Nat)) := by decide +kernel
theorem wit_negTimeout2 :
    (16 < 160 ∧ ((wArc 2).setAlk 16 { negDevid := some 0x101 } : State).alState 16 = 2 ∧ (((wArc 2).setAlk 16 { negDevid := some 0x101 } : State).alk 16).since + ms 10 ≤ (ms 10 : Nat)) := by decide +kernel
theorem wit_holddownEnd :
    (16 < 160 ∧ ((wArc 0).setAlk 16 { hold := 3 } : State).alState 16 = 0 ∧ (((wArc 0).setAlk 16 { hold := 3 } : State).alk 16).hold ≠ 0 ∧ (((wArc 0).setAlk 16 { hold := 3 } : State).alk 16).hold ≤ 5) := by decide +kernel
theorem wit_negotiationAgrees :
    (16 < 160 ∧ wNegSt.alState 16 = 2 ∧ (wNegSt.alk 16).acked = true ∧ (wNegSt.alk 16).choice = some 0x102) ∧
    (wNeg.length = 1024 ∧ cellValid wNeg = true ∧ pcrcOk wNeg = true ∧ cellType wNeg = 4) ∧
    (cellBe wNeg 32 2 ≠ wNegSt.devid) ∧
    (chooseVersion (wNegSt.alk 16).adv (negRecords wNeg) = some 0x102 ∧ 0x102 < 65536) ∧
    (bit (cellBe wNeg 35 1) 1 = true ∧ cellBe wNeg 36 2 = 0x102) := by simp only [wNeg_ok, true_and]; decide +kernel
theorem wit_linkNoCommonVersion :
    (16 < 160 ∧ wNegTwo.alState 16 = 2) ∧
    (wNeg.length = 1024 ∧ cellValid wNeg = true ∧ pcrcOk wNeg = true ∧ cellType wNeg = 4) ∧
    (cellBe wNeg 32 2 ≠ wNegTwo.devid) ∧
    (chooseVersion (wNegTwo.alk 16).adv (negRecords wNeg) = none) := by simp only [wNeg_ok, true_and]; decide +kernel
theorem wit_ownDevid :
    (16 < 160 ∧ wNegOwn.alState 16 = 2) ∧
    (wNeg.length = 1024 ∧ cellValid wNeg = true ∧ pcrcOk wNeg = true ∧ cellType wNeg = 4) ∧
    (cellBe wNeg 32 2 = wNegOwn.devid ∧ wNegOwn.loopPermit 16 = false) := by simp only [wNeg_ok, true_and]; decide +kernel
theorem wit_peerNegotiates :
    (16 < 160 ∧ (wArc 3).alUp 16 = true) ∧
    (wNeg.length = 1024 ∧ cellValid wNeg = true ∧ pcrcOk wNeg = true ∧ cellType wNeg = 4) ∧
    (cellBe wNeg 32 2 ≠ (wArc 3).devid ∧ chooseVersion ((wArc 3).wordN (Reg.SYP_AL_ADV 16)) (negRecords wNeg) = some 0x102) := by simp only [wNeg_ok, true_and]; decide +kernel
theorem wit_versionChoice : rangeOf 0x01000200 = some (0x100, 0x102) ∧ rangeOf 0x01010500 = some (0x101, 0x105) ∧ rangeOf 0x02000200 = some (0x200, 0x202) := by decide
theorem wit_cellInvalid :
    (16 < 160 ∧ 2 ≤ (wArc 3 : State).alState 16 ∧ (List.replicate 1024 0 : List Byte).length = 1024 ∧ cellValid (List.replicate 1024 0 : List Byte) = false) := by decide +kernel
theorem wit_cellVersion :
    (16 < 160 ∧ ((wArc 3).rset (Reg.SYP_AL_STAT_CHOSEN 16) 0x101 : State).alUp 16 = true ∧ wData.length = 1024 ∧ cellValid wData = true ∧ pcrcOk wData = true ∧ cellType wData ≠ 4) ∧
    (cellBe wData 0 2 ≠ ((wArc 3).rset (Reg.SYP_AL_STAT_CHOSEN 16) 0x101 : State).alChosen 16) := by simp only [wData_ok, true_and]; decide +kernel
theorem wit_flowStarts :
    (16 < 160 ∧ (wFlow {} : State).alUp 16 = true ∧ wData.length = 1024 ∧ cellValid wData = true ∧ pcrcOk wData = true ∧ cellType wData = 1) ∧
    (cellBe wData 0 2 = (wFlow {} : State).alChosen 16 ∧ cellBe wData 6 2 = (wFlow {} : State).devid) ∧
    ((wFlow {} : State).flowMatch (cellBe wData 4 2) (cellBe wData 8 3 % 2 ^ 20) = some 9 ∧ arcGroup ((wFlow {} : State).cn 1 9).portA = 16 / 8) ∧
    (((wFlow {} : State).flow 1 9).state ≠ 1) ∧
    (((wFlow {} : State).flow 1 9).due (extendTs (cellBe wData 18 8) 5 (((wFlow {} : State).flow 1 9).offset 5)) ((wFlow {} : State).cn 1 9).playout 5 = false) := by simp only [wData_ok, true_and]; decide +kernel
theorem wit_cellHeld :
    (16 < 160 ∧ (wFlow { state := 1, next := 998 } : State).alUp 16 = true ∧ wData.length = 1024 ∧ cellValid wData = true ∧ pcrcOk wData = true ∧ cellType wData = 1) ∧
    (cellBe wData 0 2 = (wFlow { state := 1, next := 998 } : State).alChosen 16 ∧ cellBe wData 6 2 = (wFlow { state := 1, next := 998 } : State).devid) ∧
    ((wFlow { state := 1, next := 998 } : State).flowMatch (cellBe wData 4 2) (cellBe wData 8 3 % 2 ^ 20) = some 9 ∧ arcGroup ((wFlow { state := 1, next := 998 } : State).cn 1 9).portA = 16 / 8) ∧
    (((wFlow { state := 1, next := 998 } : State).flow 1 9).state = 1 ∧ ((wFlow { state := 1, next := 998 } : State).cn 1 9).altValid = false) ∧
    (((wFlow { state := 1, next := 998 } : State).flow 1 9).fate ((wFlow { state := 1, next := 998 } : State).reservedCells 9) (cellBe wData 12 4) = .hold ∧ ((wFlow { state := 1, next := 998 } : State).flow 1 9).held.length < (wFlow { state := 1, next := 998 } : State).reservedCells 9) ∧
    (((wFlow { state := 1, next := 998 } : State).flow 1 9).due (extendTs (cellBe wData 18 8) 5 (((wFlow { state := 1, next := 998 } : State).flow 1 9).offset 5)) ((wFlow { state := 1, next := 998 } : State).cn 1 9).playout 5 = false) := by simp only [wData_ok, true_and]; decide +kernel
theorem wit_cellLate :
    (16 < 160 ∧ (wFlow { state := 1, next := 998 } : State).alUp 16 = true ∧ wData.length = 1024 ∧ cellValid wData = true ∧ pcrcOk wData = true ∧ cellType wData = 1) ∧
    (cellBe wData 0 2 = (wFlow { state := 1, next := 998 } : State).alChosen 16 ∧ cellBe wData 6 2 = (wFlow { state := 1, next := 998 } : State).devid) ∧
    ((wFlow { state := 1, next := 998 } : State).flowMatch (cellBe wData 4 2) (cellBe wData 8 3 % 2 ^ 20) = some 9 ∧ arcGroup ((wFlow { state := 1, next := 998 } : State).cn 1 9).portA = 16 / 8) ∧
    (((wFlow { state := 1, next := 998 } : State).flow 1 9).state = 1 ∧ ((wFlow { state := 1, next := 998 } : State).cn 1 9).altValid = false) ∧
    (((wFlow { state := 1, next := 998 } : State).flow 1 9).fate ((wFlow { state := 1, next := 998 } : State).reservedCells 9) (cellBe wData 12 4) = .hold) ∧
    (((wFlow { state := 1, next := 998 } : State).flow 1 9).due (extendTs (cellBe wData 18 8) (us 50 + 5 : Nat) (((wFlow { state := 1, next := 998 } : State).flow 1 9).offset (us 50 + 5 : Nat))) ((wFlow { state := 1, next := 998 } : State).cn 1 9).playout (us 50 + 5 : Nat) = true) := by simp only [wData_ok, true_and]; decide +kernel
theorem wit_seqRanges : 665 ≤ 2 ^ 32 - 1024 ∧ 2 ^ 32 - 1024 ≤ seqDiff 999 1000 ∧ seqDiff 1000 1000 < 665 ∧ 665 ≤ seqDiff 1665 1000 ∧ seqDiff 1665 1000 < 2 ^ 32 - 1024 ∧
    (({ next := 1000, held := [⟨1001, 0, []⟩] } : FlowH).held.any fun h => h.seq == 1001) = true := by decide
theorem wit_cellPlayout :
    (((wFlow { state := 1, next := 1002, held := [⟨1003, 0, [1, 2]⟩] } : State).flow 1 9).head = some (⟨1003, 0, [1, 2]⟩ : HeldCell) ∧ ((wFlow { state := 1, next := 1002, held := [⟨1003, 0, [1, 2]⟩] } : State).flow 1 9).due (⟨1003, 0, [1, 2]⟩ : HeldCell).src ((wFlow { state := 1, next := 1002, held := [⟨1003, 0, [1, 2]⟩] } : State).cn 1 9).playout (us 50 : Nat) = true) := by decide +kernel
theorem wit_flowStarved :
    (((wFlow { state := 1 } : State).flow 1 9).state = 1 ∧ ((wFlow { state := 1 } : State).flow 1 9).lastPlay + ((wFlow { state := 1 } : State).odu 9).rateWinTicks ≤ (sec 1 : Nat)) := by decide +kernel
theorem wit_cellSend :
    (16 < 160 ∧ (wArc 3 : State).alEnabled 16 = true ∧ (wArc 3 : State).alUp 16 = true) := by decide +kernel
theorem wit_drainCellSend :
    (16 < 160 ∧ wDrain.alEnabled 16 = true ∧ wDrain.alUp 16 = true ∧ (wDrain.alk 16).drainAt.isSome = true ∧ 0x0102 ≤ wDrain.alChosen 16) := by decide +kernel
/-- ODU 9 comes on interface 0, whose latest frame came at 100, three ticks a byte. -/
def wFlowIn : State :=
  { ((wFlow {}).rset (Reg.LIN_LIF_CFG_TYPE 0) 1).rsetb (Reg.LIN_LIF_CFG_GROUPED 0) true with
    map := { State.reset.map with odu := [(9, { conf := true, ts := [1] })] }
    ave := { State.reset.ave with marks := [(0, { at_ := some 900, before := [100], bytes := 256, period := ⟨3, 1⟩ })] } }
theorem wit_cellSendData :
    (16 < 160 ∧ wFlowIn.alEnabled 16 = true ∧ wFlowIn.alUp 16 = true) ∧
    ((wFlowIn.cn 0 9).arcade = true ∧ (wFlowIn.cn 0 9).changed = false ∧ (wFlowIn.cn 0 9).dual = false ∧ (wFlowIn.cn 0 9).bridge = false ∧ arcPort (wFlowIn.cn 0 9).portA = true ∧ (wFlowIn.cn 0 9).cls ≠ 2) ∧
    (wFlowIn.roleRuns = true ∧ wFlowIn.flowOwner 0 9 = 9 ∧ wFlowIn.flowStopped 9 = false ∧ wFlowIn.replaced 0 (wFlowIn.flowSource 9) = .none ∧
      (wFlowIn.flowEth 9 = true → wFlowIn.localFault (wFlowIn.flowSource 9) = false)) ∧
    (wFlowIn.flowCarries 9 (⟨0, 7, 1⟩ : BytePos).port = true ∧ (wFlowIn.stamp (⟨0, 7, 1⟩ : BytePos).port).byteAt (⟨0, 7, 1⟩ : BytePos).back (⟨0, 7, 1⟩ : BytePos).off = some 121) ∧
    (wFlowIn.nextLink (arcGroup (wFlowIn.cn 0 9).portA) false = some 16) := by decide +kernel
theorem wit_linkStateSend :
    (16 < 160 ∧ (wArc 3 : State).alEnabled 16 = true ∧ (wArc 3 : State).alUp 16 = true) := by decide +kernel
theorem wit_negotiationCellSend :
    (16 < 160 ∧ ((wArc 2).setAlk 16 { choice := some 0x102 } : State).alState 16 = 2 ∧ (((wArc 2).setAlk 16 { choice := some 0x102 } : State).alk 16).choice = some 0x102 ∧ (((wArc 2).setAlk 16 { choice := some 0x102 } : State).alk 16).peerAck = none) := by decide +kernel
theorem wit_timeCellSend :
    (16 < 160 ∧ ((wArc 3).setTp 16 0x213 { txSeq := 7, txLog := [(6, us 10)], txLast := us 10, heard := true, rxAt := 3, rxSeq := 9 } : State).alUp 16 = true ∧ (((wArc 3).setTp 16 0x213 { txSeq := 7, txLog := [(6, us 10)], txLast := us 10, heard := true, rxAt := 3, rxSeq := 9 } : State).timePeers 16).contains 0x213 = true) ∧
    ((((wArc 3).setTp 16 0x213 { txSeq := 7, txLog := [(6, us 10)], txLast := us 10, heard := true, rxAt := 3, rxSeq := 9 } : State).tp 16 0x213).txLog = [] ∨ (((wArc 3).setTp 16 0x213 { txSeq := 7, txLog := [(6, us 10)], txLast := us 10, heard := true, rxAt := 3, rxSeq := 9 } : State).tp 16 0x213).txLast + us 990 ≤ (us 1000 : Nat) ∧ (us 1000 : Nat) ≤ (((wArc 3).setTp 16 0x213 { txSeq := 7, txLog := [(6, us 10)], txLast := us 10, heard := true, rxAt := 3, rxSeq := 9 } : State).tp 16 0x213).txLast + us 1010) := by decide +kernel
theorem wit_drainEnd :
    (16 < 160 ∧ ((wArc 3).setAlk 16 { drainAt := some 5 } : State).alUp 16 = true ∧ (((wArc 3).setAlk 16 { drainAt := some 5 } : State).alk 16).drainAt = some 5 ∧ 5 + us 100 ≤ (us 101 : Nat)) := by decide +kernel
theorem wit_offsetEstimate :
    (16 < 160 ∧ (((wArc 3).setTp 16 0x213 { win := 2, ex := [(804040, ⟨160, 1⟩, 6040), (1804000, ⟨180, 1⟩, 6000)] } : State).tp 16 0x213).win ≤ (((wArc 3).setTp 16 0x213 { win := 2, ex := [(804040, ⟨160, 1⟩, 6040), (1804000, ⟨180, 1⟩, 6000)] } : State).tp 16 0x213).ex.length ∧ leastD (((wArc 3).setTp 16 0x213 { win := 2, ex := [(804040, ⟨160, 1⟩, 6040), (1804000, ⟨180, 1⟩, 6000)] } : State).tp 16 0x213).ex = some (1804000, (⟨180, 1⟩ : Q), ((6000) : Int))) := by decide +kernel
theorem wit_timeCellStale :
    (16 < 160 ∧ ((wArc 3).setTp 16 0x213 { heard := true, rxAt := 3 } : State).alUp 16 = true ∧ (((wArc 3).setTp 16 0x213 { heard := true, rxAt := 3 } : State).timePeers 16).contains 0x213 = true ∧ (((wArc 3).setTp 16 0x213 { heard := true, rxAt := 3 } : State).tp 16 0x213).stale = false) ∧
    (max (((wArc 3).setTp 16 0x213 { heard := true, rxAt := 3 } : State).tp 16 0x213).rxAt (((wArc 3).setTp 16 0x213 { heard := true, rxAt := 3 } : State).alk 16).since + ms 8 ≤ (ms 9 : Nat)) := by decide +kernel
theorem wit_underpassRead :
    (wUnd.burstOk 400 8191 3 = true ∧ (wUnd.page 400).unreadable 8191 = false) ∧
    ((match (.deskew 0 4 1 : UndUse) with | .deskew d x n => !(wUnd.slotBurst d x n 239 == some (400, 8191) && 3 == 3 && wUnd.fcrcFails d x n) | _ => true) = true) := by decide +kernel
theorem wit_underpassReadCorrected :
    (wUnd.burstOk 5 0 0 = true ∧ (wUnd.page 5).unreadable 0 = false) ∧
    (1 ≤ 3 ∧ 3 ≤ 3) ∧
    ((match (.none : UndUse) with | .deskew d x k => !(wUnd.slotBurst d x k 239 == some (5, 0) && 0 == 3 && wUnd.fcrcFails d x k) | _ => true) = true) := by decide +kernel
theorem wit_underpassReadBad :
    (wUnd.burstOk 400 7 3 = true ∧ (wUnd.page 400).unwritten 7 = false) ∧
    ((wUnd.page 400).poison.contains 7 = true ∧ 5 ≤ 5 ∨ 4 ≤ 5 ∧ 5 ≤ 5) := by decide +kernel
theorem wit_underpassReadBad2 :
    ((wUnd.setPage 5 { poison := [7] } : State).burstOk 5 7 3 = true ∧ ((wUnd.setPage 5 { poison := [7] } : State).page 5).unwritten 7 = false) ∧
    (((wUnd.setPage 5 { poison := [7] } : State).page 5).poison.contains 7 = true ∧ 0 ≤ 5 ∨ 4 ≤ 0 ∧ 0 ≤ 5) := by decide +kernel
theorem wit_underpassReadLost :
    ((wUnd.setPage 5 { lost := true } : State).burstOk 5 7 3 = true ∧ ((wUnd.setPage 5 { lost := true } : State).page 5).unwritten 7 = true ∧ 1 ≤ 5) := by decide +kernel
theorem wit_underpassReadImage :
    (({ wUnd.setPage 5 { poison := [7] } with und := { (wUnd.setPage 5 { poison := [7] }).und with rsv := [(5 * 65536, { bw := ⟨100, 1⟩, pages := [5, 400] })] } } : State).burstOk 5 7 3 = true ∧ (({ wUnd.setPage 5 { poison := [7] } with und := { (wUnd.setPage 5 { poison := [7] }).und with rsv := [(5 * 65536, { bw := ⟨100, 1⟩, pages := [5, 400] })] } } : State).page 5).unreadable 7 = true ∧ 0 ≤ 5) ∧
    (({ wUnd.setPage 5 { poison := [7] } with und := { (wUnd.setPage 5 { poison := [7] }).und with rsv := [(5 * 65536, { bw := ⟨100, 1⟩, pages := [5, 400] })] } } : State).pageRsv 5 = some (5, 0)) := by decide +kernel
theorem wit_underpassWrite :
    ((wUnd.setPage 5 { poison := [7], lost := true } : State).burstOk 5 7 3 = true ∧ (List.replicate 64 0xAB : List Byte).length = 64) := by decide +kernel
theorem wit_pageRetire :
    ((wUnd.setPage 5 { ce := List.replicate 16 3 } : State).burstOk 5 0 0 = true ∧ (wUnd.setPage 5 { ce := List.replicate 16 3 } : State).retireCe ≤ (lately ((wUnd.setPage 5 { ce := List.replicate 16 3 } : State).page 5).ce 5 (sec 86400)).length ∧ (wUnd.setPage 5 { ce := List.replicate 16 3 } : State).freePages ≠ 0) ∧
    ((wUnd.setPage 5 { ce := List.replicate 16 3 } : State).pageRsv 5 = some (0, 9)) := by decide +kernel
theorem wit_pageStays : (wFull.burstOk 5 0 0 = true ∧ wFull.retireCe ≤ (lately (wFull.page 5).ce 5 (sec 86400)).length) ∧ wFull.freePages = 0 := by decide +kernel
theorem wit_pcFail :
    (1 < 128 ∧ wUnd.pcUp 1 = true ∧ 1 ≠ 0) ∧
    (0 < 128 ∧ 0 / 32 = 1 / 32 ∧ 0 ≠ 1 ∧ wUnd.pcUp 0 = true) ∧
    (wUnd.rget (Reg.UND_STACK_PC_WORKING (1 / 32)) ≠ 0) := by decide +kernel
theorem wit_pcFailLast :
    (1 < 128 ∧ (wUnd.setWord (Reg.UND_PC_FAIL 0) 0xFFFFFFFD : State).pcUp 1 = true ∧ 2 ≠ 0) ∧
    (∀ j < 128, j / 32 = 1 / 32 → j ≠ 1 → (wUnd.setWord (Reg.UND_PC_FAIL 0) 0xFFFFFFFD : State).pcUp j = false) := by decide +kernel
theorem wit_ceilingRule : 255000 * 128 = 32640000 := by decide
theorem wit_serviceWindow :
    (1 < 128 ∧ wUnd.pcUp 1 = true ∧ (us 3 : Nat) % us 1 = 0) := by decide +kernel
theorem wit_entitlementsComeFirst : (([(1, 5, 0), (2, 7, 0)] : List (Nat × Nat × Nat)).map fun x => (fun _ => 6) x.1).sum ≤ 12 ∧ (2, 7, 0) ∈ ([(1, 5, 0), (2, 7, 0)] : List (Nat × Nat × Nat)) := by decide
theorem wit_ringGeometry : ringPages 8568 = 63 ∧ ringPages 106 = 1 := by decide
theorem wit_qgroupCfg :
    (({ (wRing.rsetb (Reg.UND_STACK_TRAINED 0) true) with und := { State.reset.und with rsv := [(7 * 65536 + 2, { bw := ⟨300, 1⟩, pages := [3, 4] })] } } : State).cmdReady 5 wDesc = true) ∧
    (2 ≤ 2 ∧ 2 ≤ 255 ∧ 1 ≤ 2) ∧
    (({ (wRing.rsetb (Reg.UND_STACK_TRAINED 0) true) with und := { State.reset.und with rsv := [(7 * 65536 + 2, { bw := ⟨300, 1⟩, pages := [3, 4] })] } } : State).que.qs.any (fun p => p.2.mode != 0 && p.2.group == 2) = false) ∧
    ((if 1 = 0 then 8 else if 1 = 1 then 7 else 4) = ({ (wRing.rsetb (Reg.UND_STACK_TRAINED 0) true) with und := { State.reset.und with rsv := [(7 * 65536 + 2, { bw := ⟨300, 1⟩, pages := [3, 4] })] } } : State).spillRow 2 ∧ ({ (wRing.rsetb (Reg.UND_STACK_TRAINED 0) true) with und := { State.reset.und with rsv := [(7 * 65536 + 2, { bw := ⟨300, 1⟩, pages := [3, 4] })] } } : State).rsvBroken (({ (wRing.rsetb (Reg.UND_STACK_TRAINED 0) true) with und := { State.reset.und with rsv := [(7 * 65536 + 2, { bw := ⟨300, 1⟩, pages := [3, 4] })] } } : State).spillRow 2) 2 = false) ∧
    (qle (qadd (rsvSum ({ (wRing.rsetb (Reg.UND_STACK_TRAINED 0) true) with und := { State.reset.und with rsv := [(7 * 65536 + 2, { bw := ⟨300, 1⟩, pages := [3, 4] })] } } : State).und.rsv) (qsub (qint 100) (({ (wRing.rsetb (Reg.UND_STACK_TRAINED 0) true) with und := { State.reset.und with rsv := [(7 * 65536 + 2, { bw := ⟨300, 1⟩, pages := [3, 4] })] } } : State).rsv (({ (wRing.rsetb (Reg.UND_STACK_TRAINED 0) true) with und := { State.reset.und with rsv := [(7 * 65536 + 2, { bw := ⟨300, 1⟩, pages := [3, 4] })] } } : State).spillRow 2) 2).bw)) (qint ({ (wRing.rsetb (Reg.UND_STACK_TRAINED 0) true) with und := { State.reset.und with rsv := [(7 * 65536 + 2, { bw := ⟨300, 1⟩, pages := [3, 4] })] } } : State).ceilMb) = true) ∧
    (1 ≤ (({ (wRing.rsetb (Reg.UND_STACK_TRAINED 0) true) with und := { State.reset.und with rsv := [(7 * 65536 + 2, { bw := ⟨300, 1⟩, pages := [3, 4] })] } } : State).rsv (({ (wRing.rsetb (Reg.UND_STACK_TRAINED 0) true) with und := { State.reset.und with rsv := [(7 * 65536 + 2, { bw := ⟨300, 1⟩, pages := [3, 4] })] } } : State).spillRow 2) 2).pages.length) ∧
    (100 ≠ 0) := by decide +kernel
theorem wit_qgroupPool :
    (wRing.cmdReady 5 wDesc = true) ∧
    (2 ≤ 2 ∧ 2 ≤ 255 ∧ 1 ≤ 2) ∧
    (wRing.que.qs.any (fun p => p.2.mode != 0 && p.2.group == 2) = false) ∧
    ((if 1 = 0 then 8 else if 1 = 1 then 7 else 4) = wRing.spillRow 2 ∧ wRing.rsvBroken (wRing.spillRow 2) 2 = false) ∧
    (qle (qadd (rsvSum wRing.und.rsv) (qsub (qint 0) (wRing.rsv (wRing.spillRow 2) 2).bw)) (qint wRing.ceilMb) = true) ∧
    ((wRing.rsv (wRing.spillRow 2) 2).pages.length < 1 ∧ (wRing.rsv (wRing.spillRow 2) 2).pages.length + wRing.freePages < 1 + 256) := by decide +kernel
theorem wit_qgroupCeiling :
    (wRing.cmdReady 5 wDesc = true) ∧
    (2 ≤ 2 ∧ 2 ≤ 255 ∧ 1 ≤ 2) ∧
    (wRing.que.qs.any (fun p => p.2.mode != 0 && p.2.group == 2) = false) ∧
    ((if 1 = 0 then 8 else if 1 = 1 then 7 else 4) = wRing.spillRow 2 ∧ wRing.rsvBroken (wRing.spillRow 2) 2 = false) ∧
    (qle (qadd (rsvSum wRing.und.rsv) (qsub (qint 4294967295) (wRing.rsv (wRing.spillRow 2) 2).bw)) (qint wRing.ceilMb) = false) := by decide +kernel
theorem wit_protLockout :
    ((wAps 0).cmdReady 5 wDesc = true ∧ (wAps 0).privileged 5 = true) ∧
    (9 < 20480 ∧ (wAps 0).apsCtx 9 = some 5 ∧ (wAps 0).mateOf 1 0 9 = some 4 ∧ 4 ≠ 9) ∧
    (1 ≤ 5 ∧ 5 ≤ 5 ∧ (wAps 0).trailByte ((wAps 0).cx 5).entry0 0xF0 / 16 ≤ cmdRank 5 ∧ cmdRank ((wAps 0).trailByte ((wAps 0).cx 5).entry0 0x36) ≤ cmdRank 5) := by decide +kernel
theorem wit_protClear :
    ((wAps 0x10 : State).cmdReady 5 wDesc = true ∧ (wAps 0x10 : State).privileged 5 = true) ∧
    (9 < 20480 ∧ (wAps 0x10 : State).apsCtx 9 = some 5 ∧ (wAps 0x10 : State).mateOf 1 0 9 = some 4) := by decide +kernel
theorem wit_protOutranked :
    (((wAps 0).trailSet 6 0xF0 1 0xA0 : State).cmdReady 5 wDesc = true ∧ ((wAps 0).trailSet 6 0xF0 1 0xA0 : State).privileged 5 = true) ∧
    (9 < 20480 ∧ ((wAps 0).trailSet 6 0xF0 1 0xA0 : State).apsCtx 9 = some 5 ∧ ((wAps 0).trailSet 6 0xF0 1 0xA0 : State).mateOf 1 0 9 = some 4) ∧
    (1 ≤ 2 ∧ 2 ≤ 5 ∧ cmdRank 2 < ((wAps 0).trailSet 6 0xF0 1 0xA0 : State).trailByte (((wAps 0).trailSet 6 0xF0 1 0xA0 : State).cx 5).entry0 0xF0 / 16) := by decide +kernel
theorem wit_protCode :
    ((wAps 0 : State).cmdReady 5 wDesc = true ∧ (wAps 0 : State).privileged 5 = true) ∧
    (9 < 20480 ∧ 5 < 6) := by decide +kernel
theorem wit_protNoGroup :
    (wRing.cmdReady 5 wDesc = true ∧ wRing.privileged 5 = true) ∧
    (9 < 20480 ∧ 1 ≤ 5) ∧
    (wRing.apsCtx 9 = none ∨ wRing.mateOf 1 0 9 = none) := by decide +kernel
theorem wit_pairRetime :
    ((wSel { state := 2, y := { usable := 4 } } : State).cmdReady 5 wDesc = true ∧ (wSel { state := 2, y := { usable := 4 } } : State).privileged 5 = true) ∧
    (0 ≤ 1 ∧ 4 < 20480 ∧ 1 ≤ 1 ∧ (wSel { state := 2, y := { usable := 4 } } : State).isPair 0 4 = true) ∧
    ((((wSel { state := 2, y := { usable := 4 } } : State).pr 0 4).path (1 == 1)).usable ≠ 0 ∧ 5 ≤ (((wSel { state := 2, y := { usable := 4 } } : State).pr 0 4).path (1 == 1)).usable + 16 * (wSel { state := 2, y := { usable := 4 } } : State).tf 4) := by decide +kernel
theorem wit_pairRetimeRefused :
    ((wAps 0 : State).cmdReady 5 wDesc = true ∧ (wAps 0 : State).privileged 5 = true) ∧
    (0 ≤ 1 ∧ 4 < 20480 ∧ 1 ≤ 1 ∧ (wAps 0 : State).isPair 0 4 = false) := by decide +kernel
/-- The hold-off of a signal fail of the working path is over. -/
def wHold : State := let s := (wAps 0x08).trailSet 7 0x88 1 1; s.setCx 5 { s.cx 5 with scr := [(0x48, 1)], run := some { wRs with rel := 5 } }
/-- The group at a release at 5 with timer state b. -/
def wApsRel (b : Nat) : State := (wAps b).setCx 5 { (wAps b).cx 5 with run := some { wRs with rel := 5 } }
theorem wit_holdoffExpiry :
    (wHold.apsTimerDone 5 5 1 = true) ∧
    (wHold.apsLocal 5 (wHold.cx 5) = (8, some true) ∧ 6 ≤ 8 ∧ (bit ((wHold.cx 5).apsByte 64) 0 = false ∨ wHold.trailByte (wHold.cx 5).entry0 0xF1 % 16 ≤ 8)) := by decide +kernel
theorem wit_holdoffDiscarded :
    ((wApsRel 0x08 : State).apsTimerDone 5 5 1 = true) ∧
    ((wApsRel 0x08 : State).apsLocal 5 ((wApsRel 0x08 : State).cx 5) = (0, none) ∧ (0 < 6 ∨ bit (((wApsRel 0x08 : State).cx 5).apsByte 64) 0 = true ∧ 0 < (wApsRel 0x08 : State).trailByte ((wApsRel 0x08 : State).cx 5).entry0 0xF1 % 16)) := by decide +kernel
theorem wit_wtrExpiry :
    (((wApsRel 0x10).trailSet 6 0xF0 1 0x41 : State).apsTimerDone 5 5 2 = true) := by decide +kernel
theorem wit_fopNrDeclare :
    (wApsFop.apsGroup 5 = some (9, 4) ∧ (wApsFop.cx 5).apsByte 64 % 4 ≠ 0) ∧
    (mread (wApsFop.cx 5).scr apsFop 8 = (sdtsn 0).toNat + 1) ∧
    (bit (wApsFop.trailByte (wApsFop.cx 5).entry0 0xF1) 5 = false ∧ 0 + ms 50 ≤ (ms 50)) := by decide +kernel
theorem wit_firstUsableFrame :
    ((wSel {} : State).isPair 0 4 = true ∧ (wSel {} : State).tf 4 ≠ 0 ∧ ((wSel {} : State).pr 0 4).state = 0) ∧
    ((wPf true).hwSf = false ∧ (0 = 0 → (wSel {} : State).hwSf ((wSel {} : State).pathInst 0 4 true) = false) ∧ frameStat (wPf true).bytes < 5) := by decide +kernel
theorem wHit_meets (z : Nat) :
    ((wHit z).isPair 0 4 = true ∧ (wHit z).tf 4 ≠ 0 ∧ ((wHit z).pr 0 4).state = 1 ∧ ((wHit z).pr 0 4).retime = none ∧ ((wHit z).pr 0 4).noReach < 3) ∧
    ((wPf false).hwSf = false ∧ (0 = 0 → (wHit z).hwSf ((wHit z).pathInst 0 4 true) = false) ∧ (wPf false).errored = false) ∧
    (((((wHit z).pr 0 4).path (!true)).frames.filter fun g => decide (g.arr ≤ 100 ∧ 100 ≤ g.arr + (wHit z).ddMax 0 4) && g.mfas == frameMfas (wPf false).bytes && g.omfi == (if (wHit z).hasOmfi 4 then frameOmfi (wPf false).bytes else 0) && g.sig == z) = [(wSfz z)]) := by
  have ht : (100 : Nat) ≤ 5 + us 10000 := by decide +kernel
  have h7 : frameMfas (wPf false).bytes = 7 := by decide +kernel
  refine ⟨⟨rfl, by show wSelTf ≠ 0; decide +kernel, rfl, rfl, by show 0 < 3; decide⟩, ⟨rfl, fun _ => (by decide +kernel : (wSel {}).hwSf 9 = false), rfl⟩, filter_one _ _ ?_⟩
  have hd : (wHit z).ddMax 0 4 = us 10000 := rfl
  have ho : (wHit z).hasOmfi 4 = false := rfl
  rw [hd, h7, ho]
  simp [wSfz, ht]
theorem wit_searchHit :
    ((wHit (opuSig (wPf false).bytes)).isPair 0 4 = true ∧ (wHit (opuSig (wPf false).bytes)).tf 4 ≠ 0 ∧ ((wHit (opuSig (wPf false).bytes)).pr 0 4).state = 1 ∧ ((wHit (opuSig (wPf false).bytes)).pr 0 4).retime = none ∧ ((wHit (opuSig (wPf false).bytes)).pr 0 4).noReach < 3) ∧
    ((wPf false).hwSf = false ∧ (0 = 0 → (wHit (opuSig (wPf false).bytes)).hwSf ((wHit (opuSig (wPf false).bytes)).pathInst 0 4 true) = false) ∧ (wPf false).errored = false) ∧
    (((((wHit (opuSig (wPf false).bytes)).pr 0 4).path (!true)).frames.filter fun g => decide (g.arr ≤ 100 ∧ 100 ≤ g.arr + (wHit (opuSig (wPf false).bytes)).ddMax 0 4) && g.mfas == frameMfas (wPf false).bytes && g.omfi == (if (wHit (opuSig (wPf false).bytes)).hasOmfi 4 then frameOmfi (wPf false).bytes else 0) && g.sig == opuSig (wPf false).bytes) = [(wSfz (opuSig (wPf false).bytes))]) := wHit_meets _
theorem wit_identicalFrames :
    ((wSel { state := 1, hits := 3, dlast := 95 } : State).isPair 0 4 = true ∧ (wSel { state := 1, hits := 3, dlast := 95 } : State).tf 4 ≠ 0 ∧ ((wSel { state := 1, hits := 3, dlast := 95 } : State).pr 0 4).state = 1 ∧ ((wSel { state := 1, hits := 3, dlast := 95 } : State).pr 0 4).retime = none ∧ ((wSel { state := 1, hits := 3, dlast := 95 } : State).pr 0 4).noReach < 3) ∧
    (((((wSel { state := 1, hits := 3, dlast := 95 } : State).pr 0 4).path (!true)).frames.filter fun g => decide (g.arr ≤ 100 ∧ 100 ≤ g.arr + (wSel { state := 1, hits := 3, dlast := 95 } : State).ddMax 0 4) && g.mfas == frameMfas (wPf false).bytes && g.omfi == (if (wSel { state := 1, hits := 3, dlast := 95 } : State).hasOmfi 4 then frameOmfi (wPf false).bytes else 0) && g.sig == opuSig (wPf false).bytes).length ≠ 1) := by decide +kernel
theorem wit_trackedFrame :
    ((wSel { state := 2, delta := some 95 }).isPair 0 4 = true ∧ (wSel { state := 2, delta := some 95 }).tf 4 ≠ 0 ∧ 2 ≤ ((wSel { state := 2, delta := some 95 }).pr 0 4).state ∧ ((wSel { state := 2, delta := some 95 }).pr 0 4).retime = none ∧ ((wSel { state := 2, delta := some 95 }).pr 0 4).noReach < 3) ∧
    (({ wSf with arr := 100 } : SelFrame).arr = 100 ∧ ({ wSf with arr := 100 } : SelFrame).mfas = frameMfas (wPf false).bytes) := by decide +kernel
theorem wit_descriptorComplete :
    ((wSel { state := 1, x := { frames := [wSf] } } : State).isPair 0 4 = true ∧ (((wSel { state := 1, x := { frames := [wSf] } } : State).pr 0 4).path false).frames = wSf :: ([] : List SelFrame) ∧ wSf.done = false ∧ wSf.arr + 2 * (wSel { state := 1, x := { frames := [wSf] } } : State).tf 4 ≤ (sec 1 : Nat)) := by decide +kernel
theorem wit_pairLock :
    ((wSel { state := 1, hits := 8, dlast := -95 } : State).isPair 0 4 = true ∧ ((wSel { state := 1, hits := 8, dlast := -95 } : State).pr 0 4).state = 1 ∧ 8 ≤ ((wSel { state := 1, hits := 8, dlast := -95 } : State).pr 0 4).hits) := by decide +kernel
theorem wit_pairLoseAlignment :
    ((wSel { state := 2, delta := some 0, x := { aligned := true, frames := List.replicate 3 wSf } } : State).isPair 0 4 = true ∧ ((wSel { state := 2, delta := some 0, x := { aligned := true, frames := List.replicate 3 wSf } } : State).pr 0 4).state = 2) ∧
    (((wSel { state := 2, delta := some 0, x := { aligned := true, frames := List.replicate 3 wSf } } : State).pr 0 4).alone (sec 1 : Nat) false ((wSel { state := 2, delta := some 0, x := { aligned := true, frames := List.replicate 3 wSf } } : State).tf 4) = true ∨ ((wSel { state := 2, delta := some 0, x := { aligned := true, frames := List.replicate 3 wSf } } : State).pr 0 4).alone (sec 1 : Nat) true ((wSel { state := 2, delta := some 0, x := { aligned := true, frames := List.replicate 3 wSf } } : State).tf 4) = true) := by decide +kernel
theorem wit_pairBeyond : ((wSel { state := 2, y := { out := 3 } }).isPair 0 4 = true ∧ ((wSel { state := 2, y := { out := 3 } }).pr 0 4).state = 2 ∧
    3 ≤ (((wSel { state := 2, y := { out := 3 } }).pr 0 4).path true).out) := by decide +kernel
theorem wit_pairReturnLocked :
    ((wSel { state := 3, beyond := true, y := { inSince := some 5 } } : State).isPair 0 4 = true ∧ ((wSel { state := 3, beyond := true, y := { inSince := some 5 } } : State).pr 0 4).state = 3 ∧ (((wSel { state := 3, beyond := true, y := { inSince := some 5 } } : State).pr 0 4).path ((wSel { state := 3, beyond := true, y := { inSince := some 5 } } : State).pr 0 4).beyond).inSince = some 5 ∧ 5 + sec 1 ≤ (sec 2 : Nat)) := by decide +kernel
theorem wit_pairIdle :
    ((wSel { state := 2, x := { aligned := true } } : State).isPair 0 4 = true ∧ ((wSel { state := 2, x := { aligned := true } } : State).pr 0 4).state ≠ 0 ∧ max ((wSel { state := 2, x := { aligned := true } } : State).pr 0 4).x.usable ((wSel { state := 2, x := { aligned := true } } : State).pr 0 4).y.usable + ms 1 ≤ (ms 1 : Nat)) := by decide +kernel
theorem wit_selectorOutput :
    ((wSel { state := 1, lastO := 50000000000 } : State).isPair 0 4 = true ∧ ((wSel { state := 1, lastO := 50000000000 } : State).pr 0 4).state ≠ 0 ∧ (wSel { state := 1, lastO := 50000000000 } : State).tf 4 ≠ 0 ∧ (wSelTf + 50000000000 : Nat) = ((wSel { state := 1, lastO := 50000000000 } : State).pr 0 4).nextO ((wSel { state := 1, lastO := 50000000000 } : State).tf 4)) := by decide +kernel
theorem wit_activityBad :
    (wRef.refEn 3 = true ∧ wRef.refHz 3 ≠ 0) ∧
    (0 = 0 ∨ maxEdges (wRef.refHz 3) < 0) := by decide +kernel
theorem wit_activityBad2 :
    (wRef.refEn 3 = true ∧ wRef.refHz 3 ≠ 0) ∧
    (9 = 0 ∨ maxEdges (wRef.refHz 3) < 9) := by decide +kernel
theorem wit_activityGood :
    ((wRef.rsetb (Reg.TIM_DP_STAT_BRIDGE 2) true : State).refEn 3 = true ∧ (wRef.rsetb (Reg.TIM_DP_STAT_BRIDGE 2) true : State).refHz 3 ≠ 0) ∧
    (6 ≠ 0 ∧ 6 ≤ maxEdges ((wRef.rsetb (Reg.TIM_DP_STAT_BRIDGE 2) true : State).refHz 3)) := by decide +kernel
theorem wit_frequencyGate :
    (wRef.refEn 3 = true ∧ wRef.ocxoLost = false) := by decide +kernel
theorem wit_frequencyGate2 :
    (wRef.refEn 3 = true ∧ wRef.ocxoLost = false) := by decide +kernel
theorem wit_frequencyFrozen :
    ((wRef.rsetb Reg.TIM_LIVE_OCXO_LOST true : State).ocxoLost = true) := by decide +kernel
theorem wit_acceptBelowReject : 5 ≤ State.reset.rget Reg.TIM_MON_CFG_REJECT_DPPM := by decide +kernel
theorem wit_disqualifyActivity :
    ((wRef.setRef 3 { bad := 4 } : State).refEn 3 = true ∧ 4 ≤ ((wRef.setRef 3 { bad := 4 } : State).ref 3).bad ∧ (wRef.setRef 3 { bad := 4 } : State).qstate 3 ≠ 0 ∧ (wRef.setRef 3 { bad := 4 } : State).hostMode = false) := by decide +kernel
theorem wit_disqualifyFrequency :
    ((wRef.setRef 3 { rej := 127 } : State).refEn 3 = true ∧ ((wRef.setRef 3 { rej := 127 } : State).ref 3).bad < 4 ∧ (wRef.setRef 3 { rej := 127 } : State).rejGates 3 ≤ ((wRef.setRef 3 { rej := 127 } : State).ref 3).rej ∧ (wRef.setRef 3 { rej := 127 } : State).ocxoLost = false ∧ (wRef.setRef 3 { rej := 127 } : State).qstate 3 ≠ 0) := by decide +kernel
theorem wit_referenceQualifying :
    (((wRef.rset (Reg.TIM_REF_STAT_QSTATE 3) 0).setRef 3 { good := 4 } : State).refEn 3 = true ∧ ((wRef.rset (Reg.TIM_REF_STAT_QSTATE 3) 0).setRef 3 { good := 4 } : State).qstate 3 = 0 ∧ 4 ≤ (((wRef.rset (Reg.TIM_REF_STAT_QSTATE 3) 0).setRef 3 { good := 4 } : State).ref 3).good) := by decide +kernel
theorem wit_referenceQualified :
    ((wRef.rset (Reg.TIM_REF_STAT_QSTATE 3) 1 : State).refEn 3 = true ∧ (wRef.rset (Reg.TIM_REF_STAT_QSTATE 3) 1 : State).qstate 3 = 1 ∧ ((wRef.rset (Reg.TIM_REF_STAT_QSTATE 3) 1 : State).ref 3).acc + sec ((wRef.rset (Reg.TIM_REF_STAT_QSTATE 3) 1 : State).rget Reg.TIM_MON_CFG_ACC_DWELL_S) ≤ (sec 500 : Nat) ∧ (wRef.rset (Reg.TIM_REF_STAT_QSTATE 3) 1 : State).ocxoLost = false) := by decide +kernel
theorem wit_dpllTakesReference :
    ((wRef.rset (Reg.TIM_REF_STAT_QSTATE 3) 1 : State).refEn 3 = true ∧ (wRef.rset (Reg.TIM_REF_STAT_QSTATE 3) 1 : State).qstate 3 = 1 ∧ ((wRef.rset (Reg.TIM_REF_STAT_QSTATE 3) 1 : State).ref 3).acc + sec ((wRef.rset (Reg.TIM_REF_STAT_QSTATE 3) 1 : State).rget Reg.TIM_MON_CFG_ACC_DWELL_S) ≤ (sec 500 : Nat) ∧ (wRef.rset (Reg.TIM_REF_STAT_QSTATE 3) 1 : State).ocxoLost = false) ∧
    (0 < 8 ∧ 0 ≠ 1 ∧ (wRef.rset (Reg.TIM_REF_STAT_QSTATE 3) 1 : State).manual 0 = false ∧ (wRef.rset (Reg.TIM_REF_STAT_QSTATE 3) 1 : State).cands 0 = [⟨5, 3, 2⟩] ∧ ((wRef.rset (Reg.TIM_REF_STAT_QSTATE 3) 1 : State).dp 0).soft.contains 3 = false) ∧
    ((wRef.rset (Reg.TIM_REF_STAT_QSTATE 3) 1 : State).dpState 0 = 0 ∧ (wRef.rset (Reg.TIM_REF_STAT_QSTATE 3) 1 : State).selRef 0 = 0x1FF ∧ 5 < 16) := by decide +kernel
theorem wit_driftEvaluation :
    ((sec 40 : Nat) % sec 1 = 0 ∧ (wRef.setRef 3 { sum := -9000000, n := 2, hist := List.replicate 12 5 } : State).ocxoLost = false ∧ ((wRef.setRef 3 { sum := -9000000, n := 2, hist := List.replicate 12 5 } : State).tim.refs.map (·.1)).Nodup) ∧
    (3 ∈ (wRef.setRef 3 { sum := -9000000, n := 2, hist := List.replicate 12 5 } : State).tim.refs.map (·.1) ∧ (wRef.setRef 3 { sum := -9000000, n := 2, hist := List.replicate 12 5 } : State).refEn 3 = true ∧ ((wRef.setRef 3 { sum := -9000000, n := 2, hist := List.replicate 12 5 } : State).ref 3).n ≠ 0) := by decide +kernel
theorem wit_lrefMap :
    (wRef.accessFault (⟨1, 1, 0, 0x42404, 4⟩ : Access) = none ∧ (⟨1, 1, 0, 0x42404, 4⟩ : Access).off = Reg.TIM_LREF_MAP 1 ∧ 1 < 128) := by decide +kernel
theorem wit_dpllNarrow :
    (2 < 8 ∧ wRef.dpState 2 = 1 ∧ wRef.dwelt (sec 500 : Nat) 2 ((-7) : Int) = true) := by decide +kernel
theorem wit_dpllLock :
    (2 < 8 ∧ (wRef.rset (Reg.TIM_DP_STAT_STATE 2) 2 : State).dpState 2 = 2 ∧ (wRef.rset (Reg.TIM_DP_STAT_STATE 2) 2 : State).dwelt (sec 500 : Nat) 2 ((-7) : Int) = true) := by decide +kernel
theorem wit_dwellNeeded : wRef.dwelt (sec 500) 2 (-7) = true := by decide +kernel
theorem wit_dpllPhaseLost :
    (2 < 8 ∧ (((wRef.rset (Reg.TIM_DP_STAT_STATE 2) 3).setDp 2 { above := some 7 } : State).dpState 2 = 2 ∨ ((wRef.rset (Reg.TIM_DP_STAT_STATE 2) 3).setDp 2 { above := some 7 } : State).dpState 2 = 3)) ∧
    (10 * ((wRef.rset (Reg.TIM_DP_STAT_STATE 2) 3).setDp 2 { above := some 7 } : State).narrowThr 2 < ((-70000000) : Int).natAbs ∧ (((wRef.rset (Reg.TIM_DP_STAT_STATE 2) 3).setDp 2 { above := some 7 } : State).dp 2).above = some 7 ∧ 7 + ms 100 ≤ (sec 500 : Nat) ∧ ¬ (2 = 1 ∧ ((wRef.rset (Reg.TIM_DP_STAT_STATE 2) 3).setDp 2 { above := some 7 } : State).hostMode = true)) := by decide +kernel
theorem wit_dpllPhaseNear :
    (2 < 8 ∧ (((wRef.rset (Reg.TIM_DP_STAT_STATE 2) 3).setDp 2 { above := some 7 } : State).dpState 2 = 2 ∨ ((wRef.rset (Reg.TIM_DP_STAT_STATE 2) 3).setDp 2 { above := some 7 } : State).dpState 2 = 3) ∧ ¬ (2 = 1 ∧ ((wRef.rset (Reg.TIM_DP_STAT_STATE 2) 3).setDp 2 { above := some 7 } : State).hostMode = true)) ∧
    (((((wRef.rset (Reg.TIM_DP_STAT_STATE 2) 3).setDp 2 { above := some 7 } : State).dp 2).above = none ∨ (5 : Int).natAbs ≤ 10 * ((wRef.rset (Reg.TIM_DP_STAT_STATE 2) 3).setDp 2 { above := some 7 } : State).narrowThr 2)) := by decide +kernel
theorem wit_hostSteers :
    ((wRef.rset (Reg.TIM_DP_CFG_MODE 1) 2).stores4 (⟨⟨1, 2, 0, Reg.TIM_DP1_ADJ_FREQ, 4⟩, 0xFFFFFF00⟩ : HostStore) Reg.TIM_DP1_ADJ_FREQ = true) ∧
    ((wRef.rset (Reg.TIM_DP_CFG_MODE 1) 2).hostMode = true ∧ (⟨⟨1, 2, 0, Reg.TIM_DP1_ADJ_FREQ, 4⟩, 0xFFFFFF00⟩ : HostStore).v < 2 ^ 32) := by decide +kernel
theorem wit_hostSteers2 :
    ((wRef.rset (Reg.TIM_DP_CFG_MODE 1) 2).stores4 (⟨⟨1, 2, 0, Reg.TIM_DP1_ADJ_FREQ, 4⟩, 0x7FFFFF00⟩ : HostStore) Reg.TIM_DP1_ADJ_FREQ = true) ∧
    ((wRef.rset (Reg.TIM_DP_CFG_MODE 1) 2).hostMode = true ∧ (⟨⟨1, 2, 0, Reg.TIM_DP1_ADJ_FREQ, 4⟩, 0x7FFFFF00⟩ : HostStore).v < 2 ^ 32) := by decide +kernel
theorem wit_hostSteersNot :
    ((wRef : State).stores4 ⟨⟨1, 2, 0, Reg.TIM_DP1_ADJ_FREQ, 4⟩, 1⟩ Reg.TIM_DP1_ADJ_FREQ = true) ∧
    (wRef.hostMode = false) := by decide +kernel
theorem wit_hostHoldover :
    (((wRef.rset (Reg.TIM_DP_CFG_MODE 1) 2).rset (Reg.TIM_DP_STAT_STATE 1) 3 : State).hostMode = true ∧ ((wRef.rset (Reg.TIM_DP_CFG_MODE 1) 2).rset (Reg.TIM_DP_STAT_STATE 1) 3 : State).dpState 1 ≠ 4 ∧ (((wRef.rset (Reg.TIM_DP_CFG_MODE 1) 2).rset (Reg.TIM_DP_STAT_STATE 1) 3 : State).tim.steer.all fun a => decide (a + sec 4 ≤ 5)) = true) := by decide +kernel
theorem wit_hostHoldover2 :
    (({ (wRef.rset (Reg.TIM_DP_CFG_MODE 1) 2).rset (Reg.TIM_DP_STAT_STATE 1) 2 with tim := { wRef.tim with steer := some 5 } } : State).hostMode = true ∧ ({ (wRef.rset (Reg.TIM_DP_CFG_MODE 1) 2).rset (Reg.TIM_DP_STAT_STATE 1) 2 with tim := { wRef.tim with steer := some 5 } } : State).dpState 1 ≠ 4 ∧ (({ (wRef.rset (Reg.TIM_DP_CFG_MODE 1) 2).rset (Reg.TIM_DP_STAT_STATE 1) 2 with tim := { wRef.tim with steer := some 5 } } : State).tim.steer.all fun a => decide (a + sec 4 ≤ (sec 4 + 5 : Nat))) = true) := by decide +kernel
theorem wit_hostHoldoverEarly :
    (({ (wRef.rset (Reg.TIM_DP_CFG_MODE 1) 2).rset (Reg.TIM_DP_STAT_STATE 1) 2 with tim := { wRef.tim with steer := some 5 } } : State).hostMode = true ∧ ({ (wRef.rset (Reg.TIM_DP_CFG_MODE 1) 2).rset (Reg.TIM_DP_STAT_STATE 1) 2 with tim := { wRef.tim with steer := some 5 } } : State).tim.steer = some 5 ∧ (sec 4 + 4 : Nat) < 5 + sec 4) := by decide +kernel
theorem wit_todMessage :
    ((((wRef.rset (Reg.TIM_DP_STAT_SEL_REF 1) 3).rsetb Reg.TIM_TIME_CFG_TOD_EN true) : State).rbit Reg.TIM_TIME_CFG_TOD_EN = true ∧ (((wRef.rset (Reg.TIM_DP_STAT_SEL_REF 1) 3).rsetb Reg.TIM_TIME_CFG_TOD_EN true) : State).hostMode = false ∧ (((wRef.rset (Reg.TIM_DP_STAT_SEL_REF 1) 3).rsetb Reg.TIM_TIME_CFG_TOD_EN true) : State).selRef 1 < 16 ∧ todOk wTod = true ∧ (ms 800 : Nat) ≤ 5 + ms 900 ∧ 5 + ms 10 < (ms 800 : Nat)) := by decide +kernel
theorem wit_todMessageBad :
    ((((wRef.rset (Reg.TIM_DP_STAT_SEL_REF 1) 3).rsetb Reg.TIM_TIME_CFG_TOD_EN true) : State).rbit Reg.TIM_TIME_CFG_TOD_EN = true) ∧
    ((((wRef.rset (Reg.TIM_DP_STAT_SEL_REF 1) 3).rsetb Reg.TIM_TIME_CFG_TOD_EN true) : State).hostMode = true ∨ 16 ≤ (((wRef.rset (Reg.TIM_DP_STAT_SEL_REF 1) 3).rsetb Reg.TIM_TIME_CFG_TOD_EN true) : State).selRef 1 ∨ todOk ([1, 2] : List Byte) = false ∨ 5 + ms 900 < (ms 800 : Nat) ∨ (ms 800 : Nat) ≤ 5 + ms 10) := by decide +kernel
theorem wit_todMessageBad2 :
    ((wRef.rsetb Reg.TIM_TIME_CFG_TOD_EN true : State).rbit Reg.TIM_TIME_CFG_TOD_EN = true) ∧
    (todOk wTod = false ∨ 5 + ms 900 < (ms 10 : Nat) ∨ (ms 10 : Nat) ≤ 5 + ms 10) := by decide +kernel
theorem wit_ppsFirst :
    ((wPps false (some ⟨77, 9⟩) : State).hostMode = false ∧ (wPps false (some ⟨77, 9⟩) : State).selRef 1 < 16 ∧ (wPps false (some ⟨77, 9⟩) : State).rbit Reg.TIM_TOD_STAT_TIME_SET = false ∧ (wPps false (some ⟨77, 9⟩) : State).tim.tod = some (⟨77, 9⟩ : TodMsg)) := by decide +kernel
theorem wit_ppsNear :
    ((wPps true none : State).hostMode = false ∧ (wPps true none : State).selRef 1 < 16 ∧ (wPps true none : State).rbit Reg.TIM_TOD_STAT_TIME_SET = true ∧ (wPps true none : State).tim.tod = none) ∧
    ((nearSec (sec 5 + 3 : Nat)).2.natAbs ≤ (wPps true none : State).stepThr) := by decide +kernel
theorem wit_ppsStep :
    (((wPps true none).rsetb Reg.TIM_TIME_CFG_STEP_EN true : State).hostMode = false ∧ ((wPps true none).rsetb Reg.TIM_TIME_CFG_STEP_EN true : State).selRef 1 < 16 ∧ ((wPps true none).rsetb Reg.TIM_TIME_CFG_STEP_EN true : State).rbit Reg.TIM_TOD_STAT_TIME_SET = true ∧ ((wPps true none).rsetb Reg.TIM_TIME_CFG_STEP_EN true : State).tim.tod = none) ∧
    (((wPps true none).rsetb Reg.TIM_TIME_CFG_STEP_EN true : State).stepThr < (nearSec (sec 5 - ms 2 : Nat)).2.natAbs ∧ (nearSec (sec 5 - ms 2 : Nat)).2 < 0 ∧ ((wPps true none).rsetb Reg.TIM_TIME_CFG_STEP_EN true : State).stepEn = true) := by decide +kernel
theorem wit_ppsSlew :
    (((wPps true none).rsetb Reg.TIM_TIME_CFG_STEP_EN true : State).hostMode = false ∧ ((wPps true none).rsetb Reg.TIM_TIME_CFG_STEP_EN true : State).selRef 1 < 16 ∧ ((wPps true none).rsetb Reg.TIM_TIME_CFG_STEP_EN true : State).rbit Reg.TIM_TOD_STAT_TIME_SET = true ∧ ((wPps true none).rsetb Reg.TIM_TIME_CFG_STEP_EN true : State).tim.tod = none) ∧
    (((wPps true none).rsetb Reg.TIM_TIME_CFG_STEP_EN true : State).stepThr < (nearSec (sec 5 + ms 2 : Nat)).2.natAbs ∧ (0 ≤ (nearSec (sec 5 + ms 2 : Nat)).2 ∨ ((wPps true none).rsetb Reg.TIM_TIME_CFG_STEP_EN true : State).stepEn = false)) := by decide +kernel
theorem wit_todConflict :
    (({ wPps true (some ⟨3, 9⟩) with tim := { (wPps true (some ⟨3, 9⟩)).tim with diff := -2, diffRun := 2 } } : State).hostMode = false ∧ ({ wPps true (some ⟨3, 9⟩) with tim := { (wPps true (some ⟨3, 9⟩)).tim with diff := -2, diffRun := 2 } } : State).selRef 1 < 16 ∧ ({ wPps true (some ⟨3, 9⟩) with tim := { (wPps true (some ⟨3, 9⟩)).tim with diff := -2, diffRun := 2 } } : State).rbit Reg.TIM_TOD_STAT_TIME_SET = true ∧ ({ wPps true (some ⟨3, 9⟩) with tim := { (wPps true (some ⟨3, 9⟩)).tim with diff := -2, diffRun := 2 } } : State).tim.tod = some (⟨3, 9⟩ : TodMsg)) ∧
    (((⟨3, 9⟩ : TodMsg).secs : Int) - (nearSec (sec 5 : Nat)).1 = ({ wPps true (some ⟨3, 9⟩) with tim := { (wPps true (some ⟨3, 9⟩)).tim with diff := -2, diffRun := 2 } } : State).tim.diff ∧ ({ wPps true (some ⟨3, 9⟩) with tim := { (wPps true (some ⟨3, 9⟩)).tim with diff := -2, diffRun := 2 } } : State).tim.diff ≠ 0 ∧ 2 ≤ ({ wPps true (some ⟨3, 9⟩) with tim := { (wPps true (some ⟨3, 9⟩)).tim with diff := -2, diffRun := 2 } } : State).tim.diffRun ∧ (({ wPps true (some ⟨3, 9⟩) with tim := { (wPps true (some ⟨3, 9⟩)).tim with diff := -2, diffRun := 2 } } : State).tim.diff < 0 ∨ ({ wPps true (some ⟨3, 9⟩) with tim := { (wPps true (some ⟨3, 9⟩)).tim with diff := -2, diffRun := 2 } } : State).stepEn = false)) ∧
    ((nearSec (sec 5 : Nat)).2.natAbs ≤ ({ wPps true (some ⟨3, 9⟩) with tim := { (wPps true (some ⟨3, 9⟩)).tim with diff := -2, diffRun := 2 } } : State).stepThr) := by decide +kernel
theorem wit_todForward :
    (({ (wPps true (some ⟨8, 9⟩)).rsetb Reg.TIM_TIME_CFG_STEP_EN true with tim := { (wPps true (some ⟨8, 9⟩)).tim with diff := 3, diffRun := 2 } } : State).hostMode = false ∧ ({ (wPps true (some ⟨8, 9⟩)).rsetb Reg.TIM_TIME_CFG_STEP_EN true with tim := { (wPps true (some ⟨8, 9⟩)).tim with diff := 3, diffRun := 2 } } : State).selRef 1 < 16 ∧ ({ (wPps true (some ⟨8, 9⟩)).rsetb Reg.TIM_TIME_CFG_STEP_EN true with tim := { (wPps true (some ⟨8, 9⟩)).tim with diff := 3, diffRun := 2 } } : State).rbit Reg.TIM_TOD_STAT_TIME_SET = true ∧ ({ (wPps true (some ⟨8, 9⟩)).rsetb Reg.TIM_TIME_CFG_STEP_EN true with tim := { (wPps true (some ⟨8, 9⟩)).tim with diff := 3, diffRun := 2 } } : State).tim.tod = some (⟨8, 9⟩ : TodMsg)) ∧
    (((⟨8, 9⟩ : TodMsg).secs : Int) - (nearSec (sec 5 : Nat)).1 = ({ (wPps true (some ⟨8, 9⟩)).rsetb Reg.TIM_TIME_CFG_STEP_EN true with tim := { (wPps true (some ⟨8, 9⟩)).tim with diff := 3, diffRun := 2 } } : State).tim.diff ∧ 0 < ({ (wPps true (some ⟨8, 9⟩)).rsetb Reg.TIM_TIME_CFG_STEP_EN true with tim := { (wPps true (some ⟨8, 9⟩)).tim with diff := 3, diffRun := 2 } } : State).tim.diff ∧ 2 ≤ ({ (wPps true (some ⟨8, 9⟩)).rsetb Reg.TIM_TIME_CFG_STEP_EN true with tim := { (wPps true (some ⟨8, 9⟩)).tim with diff := 3, diffRun := 2 } } : State).tim.diffRun ∧ ({ (wPps true (some ⟨8, 9⟩)).rsetb Reg.TIM_TIME_CFG_STEP_EN true with tim := { (wPps true (some ⟨8, 9⟩)).tim with diff := 3, diffRun := 2 } } : State).stepEn = true) := by decide +kernel
theorem wit_todAgrees :
    ((wPps true (some ⟨5, 9⟩) : State).hostMode = false ∧ (wPps true (some ⟨5, 9⟩) : State).selRef 1 < 16 ∧ (wPps true (some ⟨5, 9⟩) : State).rbit Reg.TIM_TOD_STAT_TIME_SET = true ∧ (wPps true (some ⟨5, 9⟩) : State).tim.tod = some (⟨5, 9⟩ : TodMsg) ∧ (⟨5, 9⟩ : TodMsg).secs = (nearSec (sec 5 : Nat)).1) ∧
    ((nearSec (sec 5 : Nat)).2.natAbs ≤ (wPps true (some ⟨5, 9⟩) : State).stepThr) := by decide +kernel
theorem wit_adjPhaseLoop :
    ((wRef.rset (Reg.TIM_DP_CFG_MODE 1) 2).stores4 (⟨⟨1, 2, 0, Reg.TIM_DP1_ADJ_PHASE, 4⟩, 0xFFFFFFFE⟩ : HostStore) Reg.TIM_DP1_ADJ_PHASE = true) ∧
    ((wRef.rset (Reg.TIM_DP_CFG_MODE 1) 2).hostMode = true ∧ ns (sext (⟨⟨1, 2, 0, Reg.TIM_DP1_ADJ_PHASE, 4⟩, 0xFFFFFFFE⟩ : HostStore).v 32).natAbs ≤ (wRef.rset (Reg.TIM_DP_CFG_MODE 1) 2).stepThr) := by decide +kernel
theorem wit_adjPhaseStep :
    ((wRef.rset (Reg.TIM_DP_CFG_MODE 1) 2 |>.rsetb Reg.TIM_TIME_CFG_STEP_EN true).stores4 (⟨⟨1, 2, 0, Reg.TIM_DP1_ADJ_PHASE, 4⟩, 2000000⟩ : HostStore) Reg.TIM_DP1_ADJ_PHASE = true) ∧
    ((wRef.rset (Reg.TIM_DP_CFG_MODE 1) 2 |>.rsetb Reg.TIM_TIME_CFG_STEP_EN true).hostMode = true ∧ (wRef.rset (Reg.TIM_DP_CFG_MODE 1) 2 |>.rsetb Reg.TIM_TIME_CFG_STEP_EN true).stepThr < ns (sext (⟨⟨1, 2, 0, Reg.TIM_DP1_ADJ_PHASE, 4⟩, 2000000⟩ : HostStore).v 32).natAbs ∧ 0 < sext (⟨⟨1, 2, 0, Reg.TIM_DP1_ADJ_PHASE, 4⟩, 2000000⟩ : HostStore).v 32 ∧ (wRef.rset (Reg.TIM_DP_CFG_MODE 1) 2 |>.rsetb Reg.TIM_TIME_CFG_STEP_EN true).stepEn = true) := by decide +kernel
theorem wit_adjPhaseSlew :
    ((wRef.rset (Reg.TIM_DP_CFG_MODE 1) 2 |>.rsetb Reg.TIM_TIME_CFG_STEP_EN true).stores4 (⟨⟨1, 2, 0, Reg.TIM_DP1_ADJ_PHASE, 4⟩, 0xFFF00000⟩ : HostStore) Reg.TIM_DP1_ADJ_PHASE = true) ∧
    ((wRef.rset (Reg.TIM_DP_CFG_MODE 1) 2 |>.rsetb Reg.TIM_TIME_CFG_STEP_EN true).hostMode = true ∧ (wRef.rset (Reg.TIM_DP_CFG_MODE 1) 2 |>.rsetb Reg.TIM_TIME_CFG_STEP_EN true).stepThr < ns (sext (⟨⟨1, 2, 0, Reg.TIM_DP1_ADJ_PHASE, 4⟩, 0xFFF00000⟩ : HostStore).v 32).natAbs ∧ (sext (⟨⟨1, 2, 0, Reg.TIM_DP1_ADJ_PHASE, 4⟩, 0xFFF00000⟩ : HostStore).v 32 ≤ 0 ∨ (wRef.rset (Reg.TIM_DP_CFG_MODE 1) 2 |>.rsetb Reg.TIM_TIME_CFG_STEP_EN true).stepEn = false)) := by decide +kernel
theorem wit_dtsSnap :
    ((State.reset : State).stores4 ⟨⟨1, 2, 0, Reg.TIM_DTS_SNAP, 4⟩, 1⟩ Reg.TIM_DTS_SNAP = true) ∧
    (bit 1 0 = true) := by decide +kernel
theorem wit_setTime :
    (wRing.cmdReady 5 wDesc = true ∧ wRing.privileged 5 = true) ∧
    (wRing.rbit Reg.TIM_TOD_STAT_TIME_SET = false ∨ false = true) := by decide +kernel
theorem wit_setTimeRefused :
    ((wRing.rsetb Reg.TIM_TOD_STAT_TIME_SET true : State).cmdReady 5 wDesc = true ∧ (wRing.rsetb Reg.TIM_TOD_STAT_TIME_SET true : State).privileged 5 = true) ∧
    ((wRing.rsetb Reg.TIM_TOD_STAT_TIME_SET true : State).rbit Reg.TIM_TOD_STAT_TIME_SET = true) := by decide +kernel
theorem wit_setTimeEffect :
    (({ wRing with hcq := { wRing.hcq with exec := some ⟨7, 0x0004, .setTime 9 false⟩ } } : State).hcq.exec = some ⟨7, 0x0004, .setTime 9 false⟩ ∧ ({ wRing with hcq := { wRing.hcq with exec := some ⟨7, 0x0004, .setTime 9 false⟩ } } : State).hcq.cut = false ∧ ({ wRing with hcq := { wRing.hcq with exec := some ⟨7, 0x0004, .setTime 9 false⟩ } } : State).hcq.closing = false) ∧
    ((sec 3 : Nat) % sec 1 = 0 ∧ ({ wRing with hcq := { wRing.hcq with exec := some ⟨7, 0x0004, .setTime 9 false⟩ } } : State).privileged (sec 3 : Nat) = true) := by decide +kernel
theorem wit_setTimeBack :
    (({ wRing.rsetb Reg.TIM_TOD_STAT_TIME_SET true with hcq := { wRing.hcq with exec := some ⟨7, 0x0004, .setTime 9 true⟩ }, jrm := { wRing.jrm with ctx := [(5, { state := 1, nextRel := sec 31 })] } } : State).hcq.exec = some ⟨7, 0x0004, .setTime 9 true⟩ ∧ ({ wRing.rsetb Reg.TIM_TOD_STAT_TIME_SET true with hcq := { wRing.hcq with exec := some ⟨7, 0x0004, .setTime 9 true⟩ }, jrm := { wRing.jrm with ctx := [(5, { state := 1, nextRel := sec 31 })] } } : State).hcq.cut = false ∧ ({ wRing.rsetb Reg.TIM_TOD_STAT_TIME_SET true with hcq := { wRing.hcq with exec := some ⟨7, 0x0004, .setTime 9 true⟩ }, jrm := { wRing.jrm with ctx := [(5, { state := 1, nextRel := sec 31 })] } } : State).hcq.closing = false) ∧
    ((sec 30 : Nat) % sec 1 = 0 ∧ ({ wRing.rsetb Reg.TIM_TOD_STAT_TIME_SET true with hcq := { wRing.hcq with exec := some ⟨7, 0x0004, .setTime 9 true⟩ }, jrm := { wRing.jrm with ctx := [(5, { state := 1, nextRel := sec 31 })] } } : State).privileged (sec 30 : Nat) = true ∧ sec 9 < (sec 30 : Nat) ∧ ({ wRing.rsetb Reg.TIM_TOD_STAT_TIME_SET true with hcq := { wRing.hcq with exec := some ⟨7, 0x0004, .setTime 9 true⟩ }, jrm := { wRing.jrm with ctx := [(5, { state := 1, nextRel := sec 31 })] } } : State).rbit Reg.TIM_TOD_STAT_TIME_SET = true) := by decide +kernel
theorem wit_setTimePastLease :
    (({ wRing.rset Reg.KSK_PAIR_STAT_ROLE 1 with hcq := { wRing.hcq with exec := some ⟨7, 0x0004, .setTime 9 false⟩ } } : State).hcq.exec = some ⟨7, 0x0004, .setTime 9 false⟩ ∧ ({ wRing.rset Reg.KSK_PAIR_STAT_ROLE 1 with hcq := { wRing.hcq with exec := some ⟨7, 0x0004, .setTime 9 false⟩ } } : State).hcq.cut = false ∧ ({ wRing.rset Reg.KSK_PAIR_STAT_ROLE 1 with hcq := { wRing.hcq with exec := some ⟨7, 0x0004, .setTime 9 false⟩ } } : State).hcq.closing = false) ∧
    ((sec 3 : Nat) % sec 1 = 0 ∧ ({ wRing.rset Reg.KSK_PAIR_STAT_ROLE 1 with hcq := { wRing.hcq with exec := some ⟨7, 0x0004, .setTime 9 false⟩ } } : State).privileged (sec 3 : Nat) = false) := by decide +kernel
theorem wit_hardwarePush :
    (((wQ { wQh with producer := 2, items := [wItem] } : State).q 16).mode = 1 ∧ (((wQ { wQh with producer := 2, items := [wItem] } : State).q 16).producer = 2 ∨ ((wQ { wQh with producer := 2, items := [wItem] } : State).q 16).producer = 6) ∧ ((wQ { wQh with producer := 2, items := [wItem] } : State).q 16).full = false ∧ ((wQ { wQh with producer := 2, items := [wItem] } : State).q 16).group < 256) ∧
    (((wQ { wQh with producer := 2, items := [wItem] } : State).que.waits.all fun w => w.queue != 16) = true) := by decide +kernel
theorem wit_hardwarePushFull :
    (((wQ { wQh with producer := 2, items := List.replicate 63 wItem } : State).q 16).mode = 1 ∧ (((wQ { wQh with producer := 2, items := List.replicate 63 wItem } : State).q 16).producer = 2 ∨ ((wQ { wQh with producer := 2, items := List.replicate 63 wItem } : State).q 16).producer = 6) ∧ ((wQ { wQh with producer := 2, items := List.replicate 63 wItem } : State).q 16).full = true ∧ ((wQ { wQh with producer := 2, items := List.replicate 63 wItem } : State).q 16).group < 256) := by decide +kernel
theorem wit_hardwarePushFull2 :
    (((wQ { wQh with producer := 2, items := List.replicate 63 wItem, marker := some ⟨true, false, false, false, 3, 1, 2⟩ } : State).q 16).mode = 1 ∧ (((wQ { wQh with producer := 2, items := List.replicate 63 wItem, marker := some ⟨true, false, false, false, 3, 1, 2⟩ } : State).q 16).producer = 2 ∨ ((wQ { wQh with producer := 2, items := List.replicate 63 wItem, marker := some ⟨true, false, false, false, 3, 1, 2⟩ } : State).q 16).producer = 6) ∧ ((wQ { wQh with producer := 2, items := List.replicate 63 wItem, marker := some ⟨true, false, false, false, 3, 1, 2⟩ } : State).q 16).full = true ∧ ((wQ { wQh with producer := 2, items := List.replicate 63 wItem, marker := some ⟨true, false, false, false, 3, 1, 2⟩ } : State).q 16).group < 256) := by decide +kernel
theorem wit_hardwarePacket :
    (((wQ { wQh with mode := 2, producer := 2 } : State).q 16).mode = 2 ∧ (((wQ { wQh with mode := 2, producer := 2 } : State).q 16).producer = 2 ∨ ((wQ { wQh with mode := 2, producer := 2 } : State).q 16).producer = 6) ∧ ((wQ { wQh with mode := 2, producer := 2 } : State).q 16).spillFull = false ∧ ((wQ { wQh with mode := 2, producer := 2 } : State).q 16).group < 256) ∧
    (1 ≤ 70 ∧ 70 ≤ 16384 ∧ ([1, 2, 3] : List Item256).length = pktWords 70 ∧ ((wQ { wQh with mode := 2, producer := 2 } : State).q 16).depth + ([1, 2, 3] : List Item256).length < ((wQ { wQh with mode := 2, producer := 2 } : State).q 16).cap) ∧
    (((wQ { wQh with mode := 2, producer := 2 } : State).que.waits.all fun w => w.queue != 16) = true) := by decide +kernel
theorem wit_hardwarePacketDropped :
    (((wQ { wQh with mode := 2, producer := 2, items := List.replicate 62 wItem } : State).q 16).mode = 2 ∧ (((wQ { wQh with mode := 2, producer := 2, items := List.replicate 62 wItem } : State).q 16).producer = 2 ∨ ((wQ { wQh with mode := 2, producer := 2, items := List.replicate 62 wItem } : State).q 16).producer = 6) ∧ ((wQ { wQh with mode := 2, producer := 2, items := List.replicate 62 wItem } : State).q 16).full = false ∧ ((wQ { wQh with mode := 2, producer := 2, items := List.replicate 62 wItem } : State).q 16).group < 256 ∧ ((wQ { wQh with mode := 2, producer := 2, items := List.replicate 62 wItem } : State).q 16).marker = none) ∧
    (1 ≤ 70 ∧ 70 ≤ 16384 ∧ ([1, 2, 3] : List Item256).length = pktWords 70 ∧ ((wQ { wQh with mode := 2, producer := 2, items := List.replicate 62 wItem } : State).q 16).cap ≤ ((wQ { wQh with mode := 2, producer := 2, items := List.replicate 62 wItem } : State).q 16).depth + ([1, 2, 3] : List Item256).length) := by decide +kernel
theorem wit_wrongKind :
    (((wQ { wQh with mode := 2, producer := 2 } : State).q 16).mode = 2 ∧ (((wQ { wQh with mode := 2, producer := 2 } : State).q 16).producer = 2 ∨ ((wQ { wQh with mode := 2, producer := 2 } : State).q 16).producer = 6) ∧ ((wQ { wQh with mode := 2, producer := 2 } : State).q 16).group < 256) := by decide +kernel
theorem wit_depthRule : wQh.spillFull = false := rfl
/-- A queue whose first release lets an open marker in. -/
def wMarked : QueH := { wQh with items := [wItem], marker := some ⟨true, false, false, false, 3, 1, 2⟩ }
theorem wit_markerSealed : wMarked.marker = some ⟨true, false, false, false, 3, 1, 2⟩ ∧ wMarked.pop = some (wItem, (wMarked.pop.getD (wItem, {})).2) := by decide +kernel
theorem wit_watermarkHigh :
    (((((((wQ { wQh with producer := 2 }).rsetb (Reg.QUE_GRP_CFG_WM_EN 2) true).rsetb (Reg.QUE_GRP_CFG_XOFF_OUT_EN 2) true).rset (Reg.QUE_GRP_CFG_XOFF_OUT_SEL 2) 5).setWord (Reg.QUE_GRP_HIGH 2) 1 : State).q 16).mode = 1 ∧ (((((((wQ { wQh with producer := 2 }).rsetb (Reg.QUE_GRP_CFG_WM_EN 2) true).rsetb (Reg.QUE_GRP_CFG_XOFF_OUT_EN 2) true).rset (Reg.QUE_GRP_CFG_XOFF_OUT_SEL 2) 5).setWord (Reg.QUE_GRP_HIGH 2) 1 : State).q 16).producer = 2 ∨ ((((((wQ { wQh with producer := 2 }).rsetb (Reg.QUE_GRP_CFG_WM_EN 2) true).rsetb (Reg.QUE_GRP_CFG_XOFF_OUT_EN 2) true).rset (Reg.QUE_GRP_CFG_XOFF_OUT_SEL 2) 5).setWord (Reg.QUE_GRP_HIGH 2) 1 : State).q 16).producer = 6) ∧ ((((((wQ { wQh with producer := 2 }).rsetb (Reg.QUE_GRP_CFG_WM_EN 2) true).rsetb (Reg.QUE_GRP_CFG_XOFF_OUT_EN 2) true).rset (Reg.QUE_GRP_CFG_XOFF_OUT_SEL 2) 5).setWord (Reg.QUE_GRP_HIGH 2) 1 : State).q 16).full = false ∧ ((((((wQ { wQh with producer := 2 }).rsetb (Reg.QUE_GRP_CFG_WM_EN 2) true).rsetb (Reg.QUE_GRP_CFG_XOFF_OUT_EN 2) true).rset (Reg.QUE_GRP_CFG_XOFF_OUT_SEL 2) 5).setWord (Reg.QUE_GRP_HIGH 2) 1 : State).q 16).group < 256) ∧
    (((((((wQ { wQh with producer := 2 }).rsetb (Reg.QUE_GRP_CFG_WM_EN 2) true).rsetb (Reg.QUE_GRP_CFG_XOFF_OUT_EN 2) true).rset (Reg.QUE_GRP_CFG_XOFF_OUT_SEL 2) 5).setWord (Reg.QUE_GRP_HIGH 2) 1 : State).que.waits.all fun w => w.queue != 16) = true) ∧
    ((((((wQ { wQh with producer := 2 }).rsetb (Reg.QUE_GRP_CFG_WM_EN 2) true).rsetb (Reg.QUE_GRP_CFG_XOFF_OUT_EN 2) true).rset (Reg.QUE_GRP_CFG_XOFF_OUT_SEL 2) 5).setWord (Reg.QUE_GRP_HIGH 2) 1 : State).rbit (Reg.QUE_GRP_CFG_WM_EN ((((((wQ { wQh with producer := 2 }).rsetb (Reg.QUE_GRP_CFG_WM_EN 2) true).rsetb (Reg.QUE_GRP_CFG_XOFF_OUT_EN 2) true).rset (Reg.QUE_GRP_CFG_XOFF_OUT_SEL 2) 5).setWord (Reg.QUE_GRP_HIGH 2) 1 : State).q 16).group) = true ∧ (((((wQ { wQh with producer := 2 }).rsetb (Reg.QUE_GRP_CFG_WM_EN 2) true).rsetb (Reg.QUE_GRP_CFG_XOFF_OUT_EN 2) true).rset (Reg.QUE_GRP_CFG_XOFF_OUT_SEL 2) 5).setWord (Reg.QUE_GRP_HIGH 2) 1 : State).rbit (Reg.QUE_GRP_LIVE_XOFF ((((((wQ { wQh with producer := 2 }).rsetb (Reg.QUE_GRP_CFG_WM_EN 2) true).rsetb (Reg.QUE_GRP_CFG_XOFF_OUT_EN 2) true).rset (Reg.QUE_GRP_CFG_XOFF_OUT_SEL 2) 5).setWord (Reg.QUE_GRP_HIGH 2) 1 : State).q 16).group) = false) ∧
    ((((((wQ { wQh with producer := 2 }).rsetb (Reg.QUE_GRP_CFG_WM_EN 2) true).rsetb (Reg.QUE_GRP_CFG_XOFF_OUT_EN 2) true).rset (Reg.QUE_GRP_CFG_XOFF_OUT_SEL 2) 5).setWord (Reg.QUE_GRP_HIGH 2) 1 : State).wordN (Reg.QUE_GRP_HIGH ((((((wQ { wQh with producer := 2 }).rsetb (Reg.QUE_GRP_CFG_WM_EN 2) true).rsetb (Reg.QUE_GRP_CFG_XOFF_OUT_EN 2) true).rset (Reg.QUE_GRP_CFG_XOFF_OUT_SEL 2) 5).setWord (Reg.QUE_GRP_HIGH 2) 1 : State).q 16).group) ≤ (((((wQ { wQh with producer := 2 }).rsetb (Reg.QUE_GRP_CFG_WM_EN 2) true).rsetb (Reg.QUE_GRP_CFG_XOFF_OUT_EN 2) true).rset (Reg.QUE_GRP_CFG_XOFF_OUT_SEL 2) 5).setWord (Reg.QUE_GRP_HIGH 2) 1 : State).wordN (Reg.QUE_GRP_DEPTH ((((((wQ { wQh with producer := 2 }).rsetb (Reg.QUE_GRP_CFG_WM_EN 2) true).rsetb (Reg.QUE_GRP_CFG_XOFF_OUT_EN 2) true).rset (Reg.QUE_GRP_CFG_XOFF_OUT_SEL 2) 5).setWord (Reg.QUE_GRP_HIGH 2) 1 : State).q 16).group) + 1 ∧ (((((wQ { wQh with producer := 2 }).rsetb (Reg.QUE_GRP_CFG_WM_EN 2) true).rsetb (Reg.QUE_GRP_CFG_XOFF_OUT_EN 2) true).rset (Reg.QUE_GRP_CFG_XOFF_OUT_SEL 2) 5).setWord (Reg.QUE_GRP_HIGH 2) 1 : State).wordN (Reg.QUE_GRP_DEPTH ((((((wQ { wQh with producer := 2 }).rsetb (Reg.QUE_GRP_CFG_WM_EN 2) true).rsetb (Reg.QUE_GRP_CFG_XOFF_OUT_EN 2) true).rset (Reg.QUE_GRP_CFG_XOFF_OUT_SEL 2) 5).setWord (Reg.QUE_GRP_HIGH 2) 1 : State).q 16).group) + 1 < 2 ^ 32) := by decide +kernel
theorem wit_xoffEnds :
    (5 < 16 ∧ (wRing.rsetb (xoffOutBit 5) true : State).xoffHeld 5 = false) ∧
    (tget (fun _ => 0) (wRing.rsetb (xoffOutBit 5) true : State).que.xoffAt 5 + ns (10 * max 1 ((wRing.rsetb (xoffOutBit 5) true : State).rget Reg.QUE_XOFF_OUT_CFG_MIN_HOLD)) ≤ (us 2 : Nat)) := by decide +kernel
theorem wit_xoffStays :
    (5 < 16 ∧ (wRing.rsetb (xoffOutBit 5) true : State).rbit (xoffOutBit 5) = true) ∧
    ((wRing.rsetb (xoffOutBit 5) true : State).xoffHeld 5 = true ∨ 5 < tget (fun _ => 0) (wRing.rsetb (xoffOutBit 5) true : State).que.xoffAt 5 + ns (10 * max 1 ((wRing.rsetb (xoffOutBit 5) true : State).rget Reg.QUE_XOFF_OUT_CFG_MIN_HOLD))) := by decide +kernel
theorem wit_hostPop :
    ((⟨1, 3, 0, 0x1C8300, 64⟩ : Access).bar = 0 ∧ (⟨1, 3, 0, 0x1C8300, 64⟩ : Access).off = 0x1C8000 + 12 * 0x40 ∧ 12 < 256 ∧ (⟨1, 3, 0, 0x1C8300, 64⟩ : Access).size = 64 ∧ (wQ { wQh with items := [wItem, wItem], marker := some ⟨true, false, false, false, 3, 1, 2⟩ } : State).popSlot 12 = some 16) ∧
    (((wQ { wQh with items := [wItem, wItem], marker := some ⟨true, false, false, false, 3, 1, 2⟩ } : State).q 16).consumer = 2 ∧ ((wQ { wQh with items := [wItem, wItem], marker := some ⟨true, false, false, false, 3, 1, 2⟩ } : State).q 16).items = wItem :: ([wItem] : List QItem) ∧ ((wQ { wQh with items := [wItem, wItem], marker := some ⟨true, false, false, false, 3, 1, 2⟩ } : State).q 16).group < 256) := by decide +kernel
theorem wit_hostPopWaits :
    ((⟨1, 3, 0, 0x1C8300, 64⟩ : Access).bar = 0 ∧ (⟨1, 3, 0, 0x1C8300, 64⟩ : Access).off = 0x1C8000 + 12 * 0x40 ∧ 12 < 256 ∧ (⟨1, 3, 0, 0x1C8300, 64⟩ : Access).size = 64 ∧ (wQ wQh : State).popSlot 12 = some 16) ∧
    (((wQ wQh : State).q 16).consumer = 2 ∧ ((wQ wQh : State).q 16).items = []) := by decide +kernel
theorem wit_hostPopServed :
    ((({ wQ { wQh with producer := 2 } with que := { (wQ { wQh with producer := 2 }).que with waits := [⟨12, 16, 5, 9⟩] } } : State).q 16).mode = 1 ∧ ((({ wQ { wQh with producer := 2 } with que := { (wQ { wQh with producer := 2 }).que with waits := [⟨12, 16, 5, 9⟩] } } : State).q 16).producer = 2 ∨ (({ wQ { wQh with producer := 2 } with que := { (wQ { wQh with producer := 2 }).que with waits := [⟨12, 16, 5, 9⟩] } } : State).q 16).producer = 6) ∧ (({ wQ { wQh with producer := 2 } with que := { (wQ { wQh with producer := 2 }).que with waits := [⟨12, 16, 5, 9⟩] } } : State).q 16).full = false ∧ (({ wQ { wQh with producer := 2 } with que := { (wQ { wQh with producer := 2 }).que with waits := [⟨12, 16, 5, 9⟩] } } : State).q 16).group < 256) ∧
    (({ wQ { wQh with producer := 2 } with que := { (wQ { wQh with producer := 2 }).que with waits := [⟨12, 16, 5, 9⟩] } } : State).que.waits = [(⟨12, 16, 5, 9⟩ : PopWait)] ∧ (⟨12, 16, 5, 9⟩ : PopWait).queue = 16 ∧ ((us 1 : Nat) = (⟨12, 16, 5, 9⟩ : PopWait).arrival ∨ (us 1 : Nat) < (⟨12, 16, 5, 9⟩ : PopWait).arrival + ({ wQ { wQh with producer := 2 } with que := { (wQ { wQh with producer := 2 }).que with waits := [⟨12, 16, 5, 9⟩] } } : State).hostStall)) ∧
    ((({ wQ { wQh with producer := 2 } with que := { (wQ { wQh with producer := 2 }).que with waits := [⟨12, 16, 5, 9⟩] } } : State).q 16).items = [] ∧ (({ wQ { wQh with producer := 2 } with que := { (wQ { wQh with producer := 2 }).que with waits := [⟨12, 16, 5, 9⟩] } } : State).q 16).build = [] ∧ (({ wQ { wQh with producer := 2 } with que := { (wQ { wQh with producer := 2 }).que with waits := [⟨12, 16, 5, 9⟩] } } : State).q 16).taken = 0 ∧ (({ wQ { wQh with producer := 2 } with que := { (wQ { wQh with producer := 2 }).que with waits := [⟨12, 16, 5, 9⟩] } } : State).q 16).marker = none) := by decide +kernel
theorem wit_hostPopCoincident :
    ((⟨1, 3, 0, 0x1C8300, 64⟩ : Access).bar = 0 ∧ (⟨1, 3, 0, 0x1C8300, 64⟩ : Access).off = 0x1C8000 + 12 * 0x40 ∧ 12 < 256 ∧ (⟨1, 3, 0, 0x1C8300, 64⟩ : Access).size = 64 ∧ (wShare { wQh with items := List.replicate 63 wItem } : State).popSlot 12 = some 16) ∧
    (((wShare { wQh with items := List.replicate 63 wItem } : State).q 16).consumer = 2 ∧ ((wShare { wQh with items := List.replicate 63 wItem } : State).q 16).mode = 1 ∧ ((wShare { wQh with items := List.replicate 63 wItem } : State).q 16).items = wItem :: (List.replicate 62 wItem : List QItem) ∧ ((wShare { wQh with items := List.replicate 63 wItem } : State).q 16).group < 256 ∧ ((wShare { wQh with items := List.replicate 63 wItem } : State).q 16).marker = none) ∧
    (((wShare { wQh with items := List.replicate 63 wItem } : State).q 16).cap = ((wShare { wQh with items := List.replicate 63 wItem } : State).q 16).depth + 1 ∧ ((wShare { wQh with items := List.replicate 63 wItem } : State).q 16).spillFull = false ∧ (wShare { wQh with items := List.replicate 63 wItem } : State).shareOut ((wShare { wQh with items := List.replicate 63 wItem } : State).q 16).group = false) ∧
    (((wShare { wQh with items := List.replicate 63 wItem } : State).que.waits.all fun w => w.queue != 16) = true) := by refine ⟨by decide +kernel, by decide +kernel, ⟨by decide +kernel, by decide +kernel, wShare_in _ rfl (by decide)⟩, by decide +kernel⟩
theorem wit_hostPopCoincidentMarked :
    ((⟨1, 3, 0, 0x1C8300, 64⟩ : Access).bar = 0 ∧ (⟨1, 3, 0, 0x1C8300, 64⟩ : Access).off = 0x1C8000 + 12 * 0x40 ∧ 12 < 256 ∧ (⟨1, 3, 0, 0x1C8300, 64⟩ : Access).size = 64 ∧ (wShare { wQh with items := List.replicate 63 wItem, marker := some ⟨true, false, false, false, 3, 1, 2⟩ } : State).popSlot 12 = some 16) ∧
    (((wShare { wQh with items := List.replicate 63 wItem, marker := some ⟨true, false, false, false, 3, 1, 2⟩ } : State).q 16).consumer = 2 ∧ ((wShare { wQh with items := List.replicate 63 wItem, marker := some ⟨true, false, false, false, 3, 1, 2⟩ } : State).q 16).mode = 1 ∧ ((wShare { wQh with items := List.replicate 63 wItem, marker := some ⟨true, false, false, false, 3, 1, 2⟩ } : State).q 16).items = wItem :: (List.replicate 62 wItem : List QItem) ∧ ((wShare { wQh with items := List.replicate 63 wItem, marker := some ⟨true, false, false, false, 3, 1, 2⟩ } : State).q 16).group < 256 ∧ ((wShare { wQh with items := List.replicate 63 wItem, marker := some ⟨true, false, false, false, 3, 1, 2⟩ } : State).q 16).marker = some (⟨true, false, false, false, 3, 1, 2⟩ : Marker)) ∧
    (((wShare { wQh with items := List.replicate 63 wItem, marker := some ⟨true, false, false, false, 3, 1, 2⟩ } : State).q 16).cap = ((wShare { wQh with items := List.replicate 63 wItem, marker := some ⟨true, false, false, false, 3, 1, 2⟩ } : State).q 16).depth + 1) := by decide +kernel
theorem wit_hostPopBad :
    ((⟨1, 3, 0, 0x1C8300, 32⟩ : Access).bar = 0 ∧ 0x1C8000 ≤ (⟨1, 3, 0, 0x1C8300, 32⟩ : Access).off ∧ (⟨1, 3, 0, 0x1C8300, 32⟩ : Access).off < 0x1CC000) ∧
    ((⟨1, 3, 0, 0x1C8300, 32⟩ : Access).off % 0x40 ≠ 0 ∨ (⟨1, 3, 0, 0x1C8300, 32⟩ : Access).size ≠ 64 ∨ (wQ wQh : State).popSlot (((⟨1, 3, 0, 0x1C8300, 32⟩ : Access).off - 0x1C8000) / 0x40) = none) := by decide +kernel
theorem wit_hostStallEnd :
    (({ wQ wQh with que := { (wQ wQh).que with waits := [⟨12, 16, 5, 9⟩] } } : State).que.waits = [(⟨12, 16, 5, 9⟩ : PopWait)] ∧ (⟨12, 16, 5, 9⟩ : PopWait).slot = 12 ∧ (⟨12, 16, 5, 9⟩ : PopWait).arrival + ({ wQ wQh with que := { (wQ wQh).que with waits := [⟨12, 16, 5, 9⟩] } } : State).hostStall ≤ (us 3 : Nat)) := by decide +kernel
theorem wit_stallLimit : State.reset.hostStall = us 2 := by decide +kernel
theorem wit_hostPush :
    ((⟨1, 3, 0, 0x1CC100, 32⟩ : Access).bar = 0 ∧ (⟨1, 3, 0, 0x1CC100, 32⟩ : Access).off = 0x1CC000 + 4 * 0x40 ∧ 4 < 64 ∧ (⟨1, 3, 0, 0x1CC100, 32⟩ : Access).size = 32 ∧ (wQ wQh : State).pushSlot 4 = some 16) ∧
    (((wQ wQh : State).q 16).producer = 3 ∧ ((wQ wQh : State).q 16).mode = 1 ∧ ((wQ wQh : State).q 16).full = false ∧ ((wQ wQh : State).q 16).group < 256 ∧ ((wQ wQh : State).que.waits.all fun w => w.queue != 16) = true) := by decide +kernel
theorem wit_hostPushBad :
    ((⟨1, 3, 0, 0x1CC104, 32⟩ : Access).bar = 0 ∧ 0x1CC000 ≤ (⟨1, 3, 0, 0x1CC104, 32⟩ : Access).off ∧ (⟨1, 3, 0, 0x1CC104, 32⟩ : Access).off < 0x1CD000) ∧
    ((⟨1, 3, 0, 0x1CC104, 32⟩ : Access).off % 0x40 ≠ 0 ∨ (⟨1, 3, 0, 0x1CC104, 32⟩ : Access).size ≠ 32 ∨ (wQ wQh : State).pushSlot (((⟨1, 3, 0, 0x1CC104, 32⟩ : Access).off - 0x1CC000) / 0x40) = none) := by decide +kernel
theorem wit_queueCfg :
    (wRing.cmdReady 5 wDesc = true) ∧
    (16 ≤ 16 ∧ 16 ≤ 4095 ∧ 1 ≤ 1 ∧ 1 ≤ 2 ∧ 2 ≤ 2 ∧ 2 ≤ 255) ∧
    (64 ≤ 64 ∧ 64 ≤ 4194304 ∧ 64 % 64 = 0 ∧ 2 ≤ 6 ∧ 3 ≤ 6 ∧ wRing.queueUsed 16 = false) := by decide +kernel
theorem wit_queueUnused :
    (({ wRing with que := { wRing.que with qs := [(16, wQh)] } } : State).cmdReady 5 wDesc = true) ∧
    (16 ≤ 16 ∧ 16 ≤ 4095 ∧ ({ wRing with que := { wRing.que with qs := [(16, wQh)] } } : State).queueUsed 16 = false) := by decide +kernel
theorem wit_queueBusy :
    ((wQ wQh : State).cmdReady 5 wDesc = true) ∧
    (16 ≤ 16 ∧ 16 ≤ 4095 ∧ 1 ≤ 1 ∧ 1 ≤ 2 ∧ 2 ≤ 2 ∧ 2 ≤ 255) ∧
    (64 ≤ 64 ∧ 64 ≤ 4194304 ∧ 64 % 64 = 0 ∧ 2 ≤ 6 ∧ 3 ≤ 6 ∧ (wQ wQh : State).queueUsed 16 = true ∧ ((wQ wQh : State).q 16).mode ≠ 0) := by decide +kernel
theorem wit_queueFixed :
    (wRing.cmdReady 5 wDesc = true) ∧
    (15 < 16) := by decide +kernel
theorem wit_queueCapacity :
    (wRing.cmdReady 5 wDesc = true) ∧
    (16 ≤ 16 ∧ 16 ≤ 4095 ∧ 1 ≤ 1 ∧ 1 ≤ 2 ∧ 2 ≤ 255 ∧ 255 ≤ 255) ∧
    (63 < 64 ∨ 4194304 < 63 ∨ 63 % 64 ≠ 0) := by decide +kernel
theorem wit_popClaim :
    (({ wRing with que := { wRing.que with qs := [(16, { wQh with consumer := 0 })] } } : State).cmdReady 5 wDesc = true) ∧
    (12 ≤ 13 ∧ 13 ≤ 255 ∧ 16 ≤ 16 ∧ 16 ≤ 4095 ∧ (({ wRing with que := { wRing.que with qs := [(16, { wQh with consumer := 0 })] } } : State).q 16).mode ≠ 0 ∧ ((({ wRing with que := { wRing.que with qs := [(16, { wQh with consumer := 0 })] } } : State).q 16).consumer = 0 ∨ (({ wRing with que := { wRing.que with qs := [(16, { wQh with consumer := 0 })] } } : State).q 16).consumer = 2) ∧ (({ wRing with que := { wRing.que with qs := [(16, { wQh with consumer := 0 })] } } : State).q 16).group < 256) ∧
    (({ wRing with que := { wRing.que with qs := [(16, { wQh with consumer := 0 })] } } : State).rbit (Reg.QUE_SLOT_MAP_BOUND 13) = false) ∧
    (∀ i < 256, ({ wRing with que := { wRing.que with qs := [(16, { wQh with consumer := 0 })] } } : State).rbit (Reg.QUE_SLOT_MAP_BOUND i) = true → ({ wRing with que := { wRing.que with qs := [(16, { wQh with consumer := 0 })] } } : State).rget (Reg.QUE_SLOT_MAP_QUEUE i) ≠ 16) := by decide +kernel
theorem wit_popClaimRefused :
    ((wQ wQh : State).cmdReady 5 wDesc = true) ∧
    (12 ≤ 13 ∧ 13 ≤ 255 ∧ 16 ≤ 16 ∧ 16 ≤ 4095 ∧ ((wQ wQh : State).q 16).mode ≠ 0) ∧
    ((wQ wQh : State).rbit (Reg.QUE_SLOT_MAP_BOUND 13) = false) ∧
    (12 < 256 ∧ (wQ wQh : State).popSlot 12 = some 16) := by decide +kernel
theorem wit_pushClaimPacket :
    ((wQ { wQh with mode := 2 } : State).cmdReady 5 wDesc = true) ∧
    (4 ≤ 5 ∧ 5 ≤ 63 ∧ 16 ≤ 16 ∧ 16 ≤ 4095 ∧ ((wQ { wQh with mode := 2 } : State).q 16).mode = 2) ∧
    ((wQ { wQh with mode := 2 } : State).rbit (Reg.QUE_PUSH_MAP_BOUND 5) = false) := by decide +kernel
theorem wit_pushRelease :
    ((wQ { wQh with lentP := true } : State).cmdReady 5 wDesc = true) ∧
    (4 ≤ 4 ∧ 4 ≤ 63 ∧ 16 ≤ 16 ∧ 16 ≤ 4095 ∧ ((wQ { wQh with lentP := true } : State).q 16).mode = 1 ∧ ((wQ { wQh with lentP := true } : State).q 16).group < 256) ∧
    ((wQ { wQh with lentP := true } : State).pushSlot 4 = some 16) := by decide +kernel
theorem wit_pushRelease2 :
    ((wQ wQh : State).cmdReady 5 wDesc = true) ∧
    (4 ≤ 4 ∧ 4 ≤ 63 ∧ 16 ≤ 16 ∧ 16 ≤ 4095 ∧ ((wQ wQh : State).q 16).mode = 1 ∧ ((wQ wQh : State).q 16).group < 256) ∧
    ((wQ wQh : State).pushSlot 4 = some 16) := by decide +kernel
theorem wit_schedulerPriority : (wSs { wQh with consumer := 3, items := List.replicate 31 wItem }).ssPick 0 = some 16 := by decide +kernel
theorem wit_heldGroupsWait : (wSs { wQh with consumer := 3, items := List.replicate 31 wItem }).ssPick 0 = some 16 ∧
    ((wSs { wQh with consumer := 3, items := List.replicate 31 wItem }).que.qs.map (·.1)).Nodup := by decide +kernel
theorem wit_ssSendItems :
    (0 < 2 ∧ (wSs { wQh with consumer := 3, items := List.replicate 31 wItem } : State).rbit (Reg.QUE_SS_CFG_EN 0) = true ∧ ((wSs { wQh with consumer := 3, items := List.replicate 31 wItem } : State).ssp 0).lock = true ∧ (wSs { wQh with consumer := 3, items := List.replicate 31 wItem } : State).ssPick 0 = some 16) ∧
    (((wSs { wQh with consumer := 3, items := List.replicate 31 wItem } : State).q 16).items.head? = some wItem ∧ wItem.kind = 1 ∧ ((wSs { wQh with consumer := 3, items := List.replicate 31 wItem } : State).q 16).marker = none ∧ ((wSs { wQh with consumer := 3, items := List.replicate 31 wItem } : State).q 16).group < 256) := by decide +kernel
theorem wit_ssSendMarker :
    (0 < 2 ∧ (wSs { wQh with consumer := 3, items := [{ wItem with kind := 6 }, wItem] } : State).rbit (Reg.QUE_SS_CFG_EN 0) = true ∧ ((wSs { wQh with consumer := 3, items := [{ wItem with kind := 6 }, wItem] } : State).ssp 0).lock = true ∧ (wSs { wQh with consumer := 3, items := [{ wItem with kind := 6 }, wItem] } : State).ssPick 0 = some 16) ∧
    (((wSs { wQh with consumer := 3, items := [{ wItem with kind := 6 }, wItem] } : State).q 16).items = ({ wItem with kind := 6 } : QItem) :: ([wItem] : List QItem) ∧ ({ wItem with kind := 6 } : QItem).kind = 6 ∧ ((wSs { wQh with consumer := 3, items := [{ wItem with kind := 6 }, wItem] } : State).q 16).marker = none ∧ ((wSs { wQh with consumer := 3, items := [{ wItem with kind := 6 }, wItem] } : State).q 16).group < 256) ∧
    ((wSs { wQh with consumer := 3, items := [{ wItem with kind := 6 }, wItem] }).ssWire 0 ⟨16, 3, ((wSs { wQh with consumer := 3, items := [{ wItem with kind := 6 }, wItem] }).q 16).ssSeq, ({ wItem with kind := 6 } : QItem).dts, 1, false⟩ (({ wItem with kind := 6 } : QItem).record 16) =
      (wSs { wQh with consumer := 3, items := [{ wItem with kind := 6 }, wItem] }).ssWire 0 ⟨16, 3, ((wSs { wQh with consumer := 3, items := [{ wItem with kind := 6 }, wItem] }).q 16).ssSeq, ({ wItem with kind := 6 } : QItem).dts, 1, false⟩ (({ wItem with kind := 6 } : QItem).record 16)) := by decide +kernel
theorem wit_ssSendFragment :
    (0 < 2 ∧ ((wSs { wQh with mode := 2, consumer := 3, items := pktItems 300 (List.replicate 10 5) 4 4 }).rset (Reg.QUE_SS_FRAME_FRAG_MAX 0) 256 : State).rbit (Reg.QUE_SS_CFG_EN 0) = true ∧ (((wSs { wQh with mode := 2, consumer := 3, items := pktItems 300 (List.replicate 10 5) 4 4 }).rset (Reg.QUE_SS_FRAME_FRAG_MAX 0) 256 : State).ssp 0).lock = true ∧ ((wSs { wQh with mode := 2, consumer := 3, items := pktItems 300 (List.replicate 10 5) 4 4 }).rset (Reg.QUE_SS_FRAME_FRAG_MAX 0) 256 : State).ssPick 0 = some 16) ∧
    ((((wSs { wQh with mode := 2, consumer := 3, items := pktItems 300 (List.replicate 10 5) 4 4 }).rset (Reg.QUE_SS_FRAME_FRAG_MAX 0) 256 : State).q 16).items.head? = some ({ data := 5, kind := 2, dts := 4, plen := 300, vis := 4 } : QItem) ∧ ({ data := 5, kind := 2, dts := 4, plen := 300, vis := 4 } : QItem).kind = 2 ∧ (((wSs { wQh with mode := 2, consumer := 3, items := pktItems 300 (List.replicate 10 5) 4 4 }).rset (Reg.QUE_SS_FRAME_FRAG_MAX 0) 256 : State).q 16).fragOfs = 0 ∧ ((wSs { wQh with mode := 2, consumer := 3, items := pktItems 300 (List.replicate 10 5) 4 4 }).rset (Reg.QUE_SS_FRAME_FRAG_MAX 0) 256 : State).rget (Reg.QUE_SS_FRAME_FRAG_MAX 0) < ({ data := 5, kind := 2, dts := 4, plen := 300, vis := 4 } : QItem).plen ∧ (((wSs { wQh with mode := 2, consumer := 3, items := pktItems 300 (List.replicate 10 5) 4 4 }).rset (Reg.QUE_SS_FRAME_FRAG_MAX 0) 256 : State).q 16).group < 256) := by decide +kernel
theorem wit_ssSendNothing :
    (((wSs { wQh with consumer := 3, items := List.replicate 31 wItem }).setSsp 0 {} : State).rbit (Reg.QUE_SS_CFG_EN 0) = false ∨ (((wSs { wQh with consumer := 3, items := List.replicate 31 wItem }).setSsp 0 {} : State).ssp 0).lock = false) := by decide +kernel
theorem wit_ssBatchTimeout :
    (0 < 2 ∧ (wSs { wQh with consumer := 3, items := [wItem] } : State).ssConsumer ((wSs { wQh with consumer := 3, items := [wItem] } : State).q 16).consumer = some 0 ∧ ((wSs { wQh with consumer := 3, items := [wItem] } : State).q 16).items = wItem :: ([] : List QItem) ∧ wItem.kind = 1 ∧ wItem.vis + (wSs { wQh with consumer := 3, items := [wItem] } : State).ssBatch 0 ≤ (us 2 : Nat)) := by decide +kernel
theorem wit_ssLock :
    (0 < 2 ∧ (wOap 0 {} : State).domOn 97 = true) := by decide +kernel
theorem wit_ssLock2 :
    (1 < 2 ∧ (wOap 0 {} : State).domOn 97 = true) := by decide +kernel
theorem wit_ssItems :
    (0 < 2 ∧ (wSs { wQh with producer := 4 } : State).rbit (Reg.QUE_SS_CFG_EN 0) = true ∧ ((wSs { wQh with producer := 4 } : State).ssp 0).lock = true ∧ ({ wFr with kind := 1, countOfs := 1 } : SsFrame).etype ≠ 0x8808) ∧
    (({ wFr with kind := 1, countOfs := 1 } : SsFrame).fcsOk = true ∧ ({ wFr with kind := 1, countOfs := 1 } : SsFrame).dst = (wSs { wQh with producer := 4 } : State).wordN (Reg.QUE_SS_SRC_LO 0) + (wSs { wQh with producer := 4 } : State).wordN (Reg.QUE_SS_SRC_HI 0) % 65536 * 2 ^ 32 ∧ ({ wFr with kind := 1, countOfs := 1 } : SsFrame).etype = (wSs { wQh with producer := 4 } : State).rget (Reg.QUE_SS_FRAME_ETYPE 0)) ∧
    ((wSs { wQh with producer := 4 } : State).rbit (Reg.QUE_SS_CFG_VLAN_EN 0) = false ∧ ({ wFr with kind := 1, countOfs := 1 } : SsFrame).vid = none ∧ ({ wFr with kind := 1, countOfs := 1 } : SsFrame).devid = (wSs { wQh with producer := 4 } : State).rget Reg.SYP_ARC_ID_DEVID) ∧
    (((wSs { wQh with producer := 4 } : State).q ({ wFr with kind := 1, countOfs := 1 } : SsFrame).queue).mode = 1 ∧ ((wSs { wQh with producer := 4 } : State).q ({ wFr with kind := 1, countOfs := 1 } : SsFrame).queue).producer = 4 + 0 ∧ ({ wFr with kind := 1, countOfs := 1 } : SsFrame).kind = 1 ∧ ({ wFr with kind := 1, countOfs := 1 } : SsFrame).countOfs = 1 ∧ 48 ≤ ({ wFr with kind := 1, countOfs := 1 } : SsFrame).payload.length ∧ ((wSs { wQh with producer := 4 } : State).q ({ wFr with kind := 1, countOfs := 1 } : SsFrame).queue).full = false ∧ ((wSs { wQh with producer := 4 } : State).q ({ wFr with kind := 1, countOfs := 1 } : SsFrame).queue).group < 256) ∧
    (((wSs { wQh with producer := 4 } : State).que.waits.all fun w => w.queue != ({ wFr with kind := 1, countOfs := 1 } : SsFrame).queue) = true) := by decide +kernel
theorem wit_ssFragments :
    (0 < 2 ∧ (wShare { wQh with mode := 2, producer := 4, frag := List.replicate 40 7, build := pktItems 40 [1, 2] 3 3 } : State).rbit (Reg.QUE_SS_CFG_EN 0) = true ∧ ((wShare { wQh with mode := 2, producer := 4, frag := List.replicate 40 7, build := pktItems 40 [1, 2] 3 3 } : State).ssp 0).lock = true ∧ ({ wFr with kind := 2, countOfs := 40, last := true } : SsFrame).etype ≠ 0x8808) ∧
    (({ wFr with kind := 2, countOfs := 40, last := true } : SsFrame).fcsOk = true ∧ ({ wFr with kind := 2, countOfs := 40, last := true } : SsFrame).dst = (wShare { wQh with mode := 2, producer := 4, frag := List.replicate 40 7, build := pktItems 40 [1, 2] 3 3 } : State).wordN (Reg.QUE_SS_SRC_LO 0) + (wShare { wQh with mode := 2, producer := 4, frag := List.replicate 40 7, build := pktItems 40 [1, 2] 3 3 } : State).wordN (Reg.QUE_SS_SRC_HI 0) % 65536 * 2 ^ 32 ∧ ({ wFr with kind := 2, countOfs := 40, last := true } : SsFrame).etype = (wShare { wQh with mode := 2, producer := 4, frag := List.replicate 40 7, build := pktItems 40 [1, 2] 3 3 } : State).rget (Reg.QUE_SS_FRAME_ETYPE 0)) ∧
    ((wShare { wQh with mode := 2, producer := 4, frag := List.replicate 40 7, build := pktItems 40 [1, 2] 3 3 } : State).rbit (Reg.QUE_SS_CFG_VLAN_EN 0) = false ∧ ({ wFr with kind := 2, countOfs := 40, last := true } : SsFrame).vid = none ∧ ({ wFr with kind := 2, countOfs := 40, last := true } : SsFrame).devid = (wShare { wQh with mode := 2, producer := 4, frag := List.replicate 40 7, build := pktItems 40 [1, 2] 3 3 } : State).rget Reg.SYP_ARC_ID_DEVID) ∧
    (((wShare { wQh with mode := 2, producer := 4, frag := List.replicate 40 7, build := pktItems 40 [1, 2] 3 3 } : State).q ({ wFr with kind := 2, countOfs := 40, last := true } : SsFrame).queue).mode = 2 ∧ ((wShare { wQh with mode := 2, producer := 4, frag := List.replicate 40 7, build := pktItems 40 [1, 2] 3 3 } : State).q ({ wFr with kind := 2, countOfs := 40, last := true } : SsFrame).queue).producer = 4 + 0 ∧ ({ wFr with kind := 2, countOfs := 40, last := true } : SsFrame).kind = 2 ∧ ({ wFr with kind := 2, countOfs := 40, last := true } : SsFrame).last = true ∧ ({ wFr with kind := 2, countOfs := 40, last := true } : SsFrame).payload ≠ [] ∧ ((wShare { wQh with mode := 2, producer := 4, frag := List.replicate 40 7, build := pktItems 40 [1, 2] 3 3 } : State).q ({ wFr with kind := 2, countOfs := 40, last := true } : SsFrame).queue).group < 256) ∧
    (((wShare { wQh with mode := 2, producer := 4, frag := List.replicate 40 7, build := pktItems 40 [1, 2] 3 3 } : State).q ({ wFr with kind := 2, countOfs := 40, last := true } : SsFrame).queue).frag ≠ [] ∧ ({ wFr with kind := 2, countOfs := 40, last := true } : SsFrame).countOfs = ((wShare { wQh with mode := 2, producer := 4, frag := List.replicate 40 7, build := pktItems 40 [1, 2] 3 3 } : State).q ({ wFr with kind := 2, countOfs := 40, last := true } : SsFrame).queue).frag.length ∧ ((wShare { wQh with mode := 2, producer := 4, frag := List.replicate 40 7, build := pktItems 40 [1, 2] 3 3 } : State).q ({ wFr with kind := 2, countOfs := 40, last := true } : SsFrame).queue).frag.length + ({ wFr with kind := 2, countOfs := 40, last := true } : SsFrame).payload.length ≤ 16384) ∧
    (((wShare { wQh with mode := 2, producer := 4, frag := List.replicate 40 7, build := pktItems 40 [1, 2] 3 3 } : State).q ({ wFr with kind := 2, countOfs := 40, last := true } : SsFrame).queue).spillFull = false ∧ (wShare { wQh with mode := 2, producer := 4, frag := List.replicate 40 7, build := pktItems 40 [1, 2] 3 3 } : State).shareOut ((wShare { wQh with mode := 2, producer := 4, frag := List.replicate 40 7, build := pktItems 40 [1, 2] 3 3 } : State).q ({ wFr with kind := 2, countOfs := 40, last := true } : SsFrame).queue).group = false ∧ ((wShare { wQh with mode := 2, producer := 4, frag := List.replicate 40 7, build := pktItems 40 [1, 2] 3 3 } : State).q ({ wFr with kind := 2, countOfs := 40, last := true } : SsFrame).queue).items.length + ((wShare { wQh with mode := 2, producer := 4, frag := List.replicate 40 7, build := pktItems 40 [1, 2] 3 3 } : State).q ({ wFr with kind := 2, countOfs := 40, last := true } : SsFrame).queue).taken + pktWords (((wShare { wQh with mode := 2, producer := 4, frag := List.replicate 40 7, build := pktItems 40 [1, 2] 3 3 } : State).q ({ wFr with kind := 2, countOfs := 40, last := true } : SsFrame).queue).frag.length + ({ wFr with kind := 2, countOfs := 40, last := true } : SsFrame).payload.length) < ((wShare { wQh with mode := 2, producer := 4, frag := List.replicate 40 7, build := pktItems 40 [1, 2] 3 3 } : State).q ({ wFr with kind := 2, countOfs := 40, last := true } : SsFrame).queue).cap) ∧
    (((wShare { wQh with mode := 2, producer := 4, frag := List.replicate 40 7, build := pktItems 40 [1, 2] 3 3 } : State).que.waits.all fun w => w.queue != ({ wFr with kind := 2, countOfs := 40, last := true } : SsFrame).queue) = true) := by refine ⟨by decide +kernel, by decide +kernel, by decide +kernel, by decide +kernel, by decide +kernel, ⟨by decide +kernel, wShare_in _ rfl (by decide), by decide +kernel⟩, by decide +kernel⟩
theorem wit_ssDropped :
    (0 < 2 ∧ (wSs { wQh with producer := 4 } : State).rbit (Reg.QUE_SS_CFG_EN 0) = true ∧ ((wSs { wQh with producer := 4 } : State).ssp 0).lock = true ∧ ({ wFr with fcsOk := false } : SsFrame).etype ≠ 0x8808) ∧
    (({ wFr with fcsOk := false } : SsFrame).fcsOk = false ∨ ({ wFr with fcsOk := false } : SsFrame).dst ≠ (wSs { wQh with producer := 4 } : State).wordN (Reg.QUE_SS_SRC_LO 0) + (wSs { wQh with producer := 4 } : State).wordN (Reg.QUE_SS_SRC_HI 0) % 65536 * 2 ^ 32 ∨ ({ wFr with fcsOk := false } : SsFrame).etype ≠ (wSs { wQh with producer := 4 } : State).rget (Reg.QUE_SS_FRAME_ETYPE 0) ∨ ({ wFr with fcsOk := false } : SsFrame).devid ≠ (wSs { wQh with producer := 4 } : State).rget Reg.SYP_ARC_ID_DEVID ∨ ((wSs { wQh with producer := 4 } : State).q ({ wFr with fcsOk := false } : SsFrame).queue).producer ≠ 4 + 0) := by decide +kernel
theorem wit_ssDropped2 :
    (0 < 2 ∧ (wSs { wQh with producer := 4 } : State).rbit (Reg.QUE_SS_CFG_EN 0) = true ∧ ((wSs { wQh with producer := 4 } : State).ssp 0).lock = true ∧ ({ wFr with devid := 9 } : SsFrame).etype ≠ 0x8808) ∧
    (({ wFr with devid := 9 } : SsFrame).fcsOk = false ∨ ({ wFr with devid := 9 } : SsFrame).dst ≠ (wSs { wQh with producer := 4 } : State).wordN (Reg.QUE_SS_SRC_LO 0) + (wSs { wQh with producer := 4 } : State).wordN (Reg.QUE_SS_SRC_HI 0) % 65536 * 2 ^ 32 ∨ ({ wFr with devid := 9 } : SsFrame).etype ≠ (wSs { wQh with producer := 4 } : State).rget (Reg.QUE_SS_FRAME_ETYPE 0) ∨ ({ wFr with devid := 9 } : SsFrame).devid ≠ (wSs { wQh with producer := 4 } : State).rget Reg.SYP_ARC_ID_DEVID ∨ ((wSs { wQh with producer := 4 } : State).q ({ wFr with devid := 9 } : SsFrame).queue).producer ≠ 4 + 0) := by decide +kernel
theorem wit_ssControl :
    (0 < 2 ∧ (wSs wQh : State).rbit (Reg.QUE_SS_CFG_EN 0) = true ∧ ((wSs wQh : State).ssp 0).lock = true ∧ ({ wFr with etype := 0x8808 } : SsFrame).etype = 0x8808) := by decide +kernel
/-- An overhead whose MFAS is m. -/
def wOh (m : Byte) : List Byte := (List.replicate 64 3).set 6 m
/-- Port 2 as wOap, whose source, slice 4, has just released a frame with MFAS m at 9. -/
def wOapIn (st : Nat) (p : OapPort) (m : Byte) : State :=
  { wOap st p with jrm := { State.reset.jrm with trail := [(0, 1), (2, 4), (4, 0x2A)] }, frm := { State.reset.frm with rx := [(4, (9, wOh m))] } }
theorem wit_oapFrame :
    (2 < 8 ∧ (wOap 2 { drop := [⟨3, 7, [1, 2, 3, 4, 5, 6, 7]⟩, ⟨5, 8, [1, 2, 3, 4, 5, 6, 7]⟩] }).rbit (Reg.OAP_CFG_EN 2) = true ∧ (wOap 2 { drop := [⟨3, 7, [1, 2, 3, 4, 5, 6, 7]⟩, ⟨5, 8, [1, 2, 3, 4, 5, 6, 7]⟩] }).rbit (Reg.OAP_CFG_DROP_EN 2) = true ∧ (wOap 2 { drop := [⟨3, 7, [1, 2, 3, 4, 5, 6, 7]⟩, ⟨5, 8, [1, 2, 3, 4, 5, 6, 7]⟩] }).oapState 2 = oapRunning) ∧
    ([(⟨3, 7, [1, 2, 3, 4, 5, 6, 7]⟩ : DropRec)] = (((wOap 2 { drop := [⟨3, 7, [1, 2, 3, 4, 5, 6, 7]⟩, ⟨5, 8, [1, 2, 3, 4, 5, 6, 7]⟩] }).port 2).drop.filter fun r => decide (r.avail < 5)).take (rMax ((wOap 2 { drop := [⟨3, 7, [1, 2, 3, 4, 5, 6, 7]⟩, ⟨5, 8, [1, 2, 3, 4, 5, 6, 7]⟩] }).oapL 2) ((wOap 2 { drop := [⟨3, 7, [1, 2, 3, 4, 5, 6, 7]⟩, ⟨5, 8, [1, 2, 3, 4, 5, 6, 7]⟩] }).dropMask 2))) ∧
    ([1, 7, 1, 2, 3, 4, 5, 6, 7] = BitVec.ofNat 8 [(⟨3, 7, [1, 2, 3, 4, 5, 6, 7]⟩ : DropRec)].length :: [(⟨3, 7, [1, 2, 3, 4, 5, 6, 7]⟩ : DropRec)].flatMap (fun r => BitVec.ofNat 8 r.tag :: r.bytes)) := by decide +kernel
theorem wit_rMaxRule : 1 ≤ 128 := by decide +kernel
theorem test_rMax : rMax 128 0x3F80 = 15 := by decide +kernel
theorem wit_oapEarly :
    (2 < 8 ∧ (wOap 2 { drop := [⟨3, 7, [1, 2]⟩], open_ := true, placed := 1 } : State).rbit (Reg.OAP_CFG_EN 2) = true ∧ ((wOap 2 { drop := [⟨3, 7, [1, 2]⟩], open_ := true, placed := 1 } : State).port 2).open_ = true) := by decide +kernel
theorem wit_oapFill :
    (2 < 8 ∧ (wOap 3 {} : State).rbit (Reg.OAP_CFG_EN 2) = true ∧ (wOap 3 {} : State).oapState 2 = oapLost) := by decide +kernel
theorem wit_oapComplete :
    (2 < 8 ∧ ((wOap 2 { drop := [⟨3, 7, [1, 2]⟩, ⟨9, 8, [1, 2]⟩], open_ := true, placed := 1 } : State).port 2).open_ = true) := by decide +kernel
theorem wit_oapInsert :
    (2 < 8 ∧ ((wOap 2 { open_ := true } : State).port 2).open_ = true ∧ (wOap 2 { open_ := true } : State).rbit (Reg.OAP_CFG_INS_EN 2) = true) ∧
    (2 ≤ rMax ((wOap 2 { open_ := true } : State).oapL 2) ((wOap 2 { open_ := true } : State).insMask 2) ∧ ([⟨1, [3], 2⟩, ⟨2, [3], 2⟩] : List InsRec).length = 2 ∧ ((wOap 2 { open_ := true } : State).port 2).ins.length + 2 ≤ 16 ∧ ((wOap 2 { open_ := true } : State).oapState 2 ≠ oapArmed ∨ ((wOap 2 { open_ := true } : State).port 2).start ≠ none)) := by decide +kernel
theorem wit_oapInsertBad :
    (2 < 8 ∧ ((wOap 2 { open_ := true } : State).port 2).open_ = true ∧ (wOap 2 { open_ := true } : State).rbit (Reg.OAP_CFG_INS_EN 2) = true ∧ rMax ((wOap 2 { open_ := true } : State).oapL 2) ((wOap 2 { open_ := true } : State).insMask 2) < 8) := by decide +kernel
theorem wit_oapInsertFull :
    (2 < 8 ∧ ((wOap 2 { open_ := true, ins := List.replicate 16 ⟨1, [3], 2⟩ } : State).port 2).open_ = true ∧ (wOap 2 { open_ := true, ins := List.replicate 16 ⟨1, [3], 2⟩ } : State).rbit (Reg.OAP_CFG_INS_EN 2) = true ∧ 1 ≤ rMax ((wOap 2 { open_ := true, ins := List.replicate 16 ⟨1, [3], 2⟩ } : State).oapL 2) ((wOap 2 { open_ := true, ins := List.replicate 16 ⟨1, [3], 2⟩ } : State).insMask 2) ∧ ((wOap 2 { open_ := true, ins := List.replicate 16 ⟨1, [3], 2⟩ } : State).port 2).ins.length = 16 ∧ ((wOap 2 { open_ := true, ins := List.replicate 16 ⟨1, [3], 2⟩ } : State).oapState 2 ≠ oapArmed ∨ ((wOap 2 { open_ := true, ins := List.replicate 16 ⟨1, [3], 2⟩ } : State).port 2).start ≠ none)) := by decide +kernel
theorem wit_armedInsertDiscards :
    (2 < 8 ∧ ((wOap 1 { open_ := true } : State).port 2).open_ = true ∧ (wOap 1 { open_ := true } : State).oapState 2 = oapArmed ∧ ((wOap 1 { open_ := true } : State).port 2).start = none) := by decide +kernel
theorem wit_insertRule : (7 + 256 - 8 % 256) % 256 = 255 ∧ (8 + 256 - 8 % 256) % 256 = 0 ∧ (9 + 256 - 8 % 256) % 256 = 1 := by decide
theorem wit_fsMissing :
    (2 < 8 ∧ (wOap 2 {} : State).rbit (Reg.OAP_CFG_EN 2) = true ∧ (wOap 2 {} : State).oapState 2 ≠ oapLost) := by decide +kernel
theorem wit_dropRecord :
    (2 < 8 ∧ (wOapIn 2 {} 7).rbit (Reg.OAP_CFG_EN 2) = true ∧ (wOapIn 2 {} 7).rbit (Reg.OAP_CFG_DROP_EN 2) = true ∧ (wOapIn 2 {} 7).oapState 2 = oapRunning ∧ ((wOapIn 2 {} 7).port 2).drop.length < 16) ∧
    ((wOapIn 2 {} 7).oapSource 9 2 (wOh 7) = true ∧ ((wOh 7).getD 6 0).toNat = 7 ∧ 8 ≤ 9) := by decide +kernel
theorem wit_dropRecordFull :
    (2 < 8 ∧ (wOapIn 2 { drop := List.replicate 16 ⟨3, 7, [1, 2]⟩ } 7).rbit (Reg.OAP_CFG_EN 2) = true ∧ (wOapIn 2 { drop := List.replicate 16 ⟨3, 7, [1, 2]⟩ } 7).rbit (Reg.OAP_CFG_DROP_EN 2) = true ∧ (wOapIn 2 { drop := List.replicate 16 ⟨3, 7, [1, 2]⟩ } 7).oapState 2 = oapRunning ∧ 16 ≤ ((wOapIn 2 { drop := List.replicate 16 ⟨3, 7, [1, 2]⟩ } 7).port 2).drop.length) ∧
    ((wOapIn 2 { drop := List.replicate 16 ⟨3, 7, [1, 2]⟩ } 7).oapSource 9 2 (wOh 7) = true ∧ ((wOh 7).getD 6 0).toNat = 7 ∧ 8 ≤ 9) := by decide +kernel
theorem wit_ratioClear :
    (2 < 8 ∧ (((wOap 2 { lastDrop := 5 }).rsetb (Reg.OAP_LIVE_RATIO_OOR 2) true : State).port 2).lastDrop + ms 1 ≤ (ms 2 : Nat)) := by decide +kernel
theorem wit_ratioWindow :
    (2 < 8 ∧ (wOap 2 { frames := 860, pframes := 195 } : State).rbit (Reg.OAP_CFG_EN 2) = true ∧ (ms 2 : Nat) % ms 1 = 0 ∧ ((wOap 2 { frames := 860, pframes := 195 } : State).port 2).pframes ≠ 0 ∧ ((wOap 2 { frames := 860, pframes := 195 } : State).port 2).frames * 256 / ((wOap 2 { frames := 860, pframes := 195 } : State).port 2).pframes ≤ 0xFFFF) := by decide +kernel
theorem wit_portsApart : 1 < 8 ∧ 1 ≠ 2 ∧ Instr.realign 5 2 ∈ [Instr.portFrameStart 5 2 false, .portFrameComplete 5 2 0 [], .fsMissing 5 2, .dropRecordAvailable 5 2 0 0 [],
      .ratioOorClear 5 2, .ratioWindow 5 2, .clkLost 5 2, .realign 5 2] := by simp
theorem wit_go :
    ((wOap 1 {} : State).domOn 97 = true ∧ (wOap 1 {} : State).rbit Reg.OAP_START_PENDING = false) := by decide +kernel
theorem wit_goIgnored :
    (((wOap 1 {}).rsetb Reg.OAP_START_PENDING true : State).domOn 97 = true ∧ ((wOap 1 {}).rsetb Reg.OAP_START_PENDING true : State).rbit Reg.OAP_START_PENDING = true) ∧
    (((wOap 1 {}).rsetb Reg.OAP_START_PENDING true : State).cget Ctr.OAP_START_IGNORED < 2 ^ 48) := by decide +kernel
theorem wit_goIgnored2 :
    (((wOap 1 {}).rsetb Reg.OAP_START_PENDING true : State).domOn 97 = true ∧ ((wOap 1 {}).rsetb Reg.OAP_START_PENDING true : State).rbit Reg.OAP_START_PENDING = true) ∧
    (((wOap 1 {}).rsetb Reg.OAP_START_PENDING true : State).cget Ctr.OAP_START_IGNORED < 2 ^ 48) := by decide +kernel
theorem wit_oapStart :
    ((wRing.rset (Reg.PWR_DOM_STATE 97) 2 : State).cmdReady 5 wDesc = true) ∧
    ((wRing.rset (Reg.PWR_DOM_STATE 97) 2 : State).domOn 97 = true ∧ (wRing.rset (Reg.PWR_DOM_STATE 97) 2 : State).rbit Reg.OAP_START_PENDING = false) := by decide +kernel
/-- Port 2 is armed for the next start; slice 0 of group 5 is at MFAS 0. -/
def wStart : State :=
  { ((((wGrp 100 700 false).setWord (Reg.OAP_CFG 2) (0x23 + 0x3F * 64)).rset (Reg.OAP_STAT_STATE 2) 1).rset Reg.OAP_START_GROUP 5).rsetb Reg.OAP_START_PENDING true with
    frm := { State.reset.frm with al := [(0, { on := true, st := .inFrame, mfas := { have_ := true } })] } }
theorem wit_startInstant :
    (wStart.rbit Reg.OAP_START_PENDING = true ∧ wStart.sliceGrp 0 = some (wStart.rget Reg.OAP_START_GROUP) ∧ wStart.oap.trig ≤ 5) ∧
    ((wStart.al (sliceKey 0)).on = true ∧ (wStart.al (sliceKey 0)).st = .inFrame) ∧
    ((wStart.al (sliceKey 0)).mfas.have_ = true ∧ (wStart.al (sliceKey 0)).mfas.out = false ∧ (wStart.al (sliceKey 0)).mfas.ref = 0) := by decide +kernel
theorem wit_armedDiscards :
    (2 < 8 ∧ (wOap 1 { start := some 9 } : State).rbit (Reg.OAP_CFG_EN 2) = true ∧ (wOap 1 { start := some 9 } : State).oapState 2 = oapArmed ∧ ((wOap 1 { start := some 9 } : State).port 2).start.all (fun x => decide (8 < x)) = true) := by decide +kernel
theorem wit_armedDiscards2 :
    (2 < 8 ∧ (wOap 1 {} : State).rbit (Reg.OAP_CFG_EN 2) = true ∧ (wOap 1 {} : State).oapState 2 = oapArmed ∧ ((wOap 1 {} : State).port 2).start.all (fun x => decide (8 < x)) = true) := by decide +kernel
theorem wit_armedKeeps :
    (2 < 8 ∧ (wOapIn 1 { start := some 8 } 7).rbit (Reg.OAP_CFG_EN 2) = true ∧ (wOapIn 1 { start := some 8 } 7).rbit (Reg.OAP_CFG_DROP_EN 2) = true ∧ (wOapIn 1 { start := some 8 } 7).oapState 2 = oapArmed) ∧
    (((wOapIn 1 { start := some 8 } 7).port 2).start = some 8 ∧ 8 ≤ 8 ∧ ((wOapIn 1 { start := some 8 } 7).port 2).drop = []) ∧
    ((wOapIn 1 { start := some 8 } 7).oapSource 9 2 (wOh 7) = true ∧ ((wOh 7).getD 6 0).toNat = 7 ∧ 8 ≤ 9) := by decide +kernel
theorem wit_armedRuns :
    (2 < 8 ∧ ((wOap 1 { drop := [⟨3, 7, [1, 2]⟩] }).rsetb (Reg.OAP_CFG_START_ARM 2) true : State).rbit (Reg.OAP_CFG_EN 2) = true ∧ ((wOap 1 { drop := [⟨3, 7, [1, 2]⟩] }).rsetb (Reg.OAP_CFG_START_ARM 2) true : State).rbit (Reg.OAP_CFG_DROP_EN 2) = true ∧ (((wOap 1 { drop := [⟨3, 7, [1, 2]⟩] }).rsetb (Reg.OAP_CFG_START_ARM 2) true : State).oapState 2 = oapArmed ∨ ((wOap 1 { drop := [⟨3, 7, [1, 2]⟩] }).rsetb (Reg.OAP_CFG_START_ARM 2) true : State).oapState 2 = oapRealign)) ∧
    ((((wOap 1 { drop := [⟨3, 7, [1, 2]⟩] }).rsetb (Reg.OAP_CFG_START_ARM 2) true : State).port 2).drop = [(⟨3, 7, [1, 2]⟩ : DropRec)] ∧ (⟨3, 7, [1, 2]⟩ : DropRec).avail < 5 ∧ 1 ≤ rMax (((wOap 1 { drop := [⟨3, 7, [1, 2]⟩] }).rsetb (Reg.OAP_CFG_START_ARM 2) true : State).oapL 2) (((wOap 1 { drop := [⟨3, 7, [1, 2]⟩] }).rsetb (Reg.OAP_CFG_START_ARM 2) true : State).dropMask 2)) := by decide +kernel
theorem wit_armedRuns2 :
    (2 < 8 ∧ ((wOap 4 { drop := [⟨3, 0, [1, 2]⟩] }) : State).rbit (Reg.OAP_CFG_EN 2) = true ∧ ((wOap 4 { drop := [⟨3, 0, [1, 2]⟩] }) : State).rbit (Reg.OAP_CFG_DROP_EN 2) = true ∧ (((wOap 4 { drop := [⟨3, 0, [1, 2]⟩] }) : State).oapState 2 = oapArmed ∨ ((wOap 4 { drop := [⟨3, 0, [1, 2]⟩] }) : State).oapState 2 = oapRealign)) ∧
    ((((wOap 4 { drop := [⟨3, 0, [1, 2]⟩] }) : State).port 2).drop = [(⟨3, 0, [1, 2]⟩ : DropRec)] ∧ (⟨3, 0, [1, 2]⟩ : DropRec).avail < 5 ∧ 1 ≤ rMax (((wOap 4 { drop := [⟨3, 0, [1, 2]⟩] }) : State).oapL 2) (((wOap 4 { drop := [⟨3, 0, [1, 2]⟩] }) : State).dropMask 2)) := by decide +kernel
theorem wit_clkLost :
    (2 < 8 ∧ (wOap 2 { drop := [⟨3, 7, [1, 2]⟩], ins := [⟨1, [3], 2⟩] } : State).rbit (Reg.OAP_CFG_EN 2) = true ∧ (wOap 2 { drop := [⟨3, 7, [1, 2]⟩], ins := [⟨1, [3], 2⟩] } : State).oapState 2 ≠ oapLost) := by decide +kernel
theorem wit_realign :
    (2 < 8 ∧ (wOap 3 { realign := 5 } : State).domOn 97 = true ∧ (wOap 3 { realign := 5 } : State).oapState 2 = oapLost ∧ ((wOap 3 { realign := 5 } : State).port 2).realign + ms 1 ≤ (ms 1 + 5)) := by decide +kernel
theorem wit_realignRuns :
    (2 < 8 ∧ (wOapIn 4 { realign := 4 } 0).rbit (Reg.OAP_CFG_EN 2) = true ∧ (wOapIn 4 { realign := 4 } 0).rbit (Reg.OAP_CFG_DROP_EN 2) = true ∧ (wOapIn 4 { realign := 4 } 0).oapState 2 = oapRealign) ∧
    (((wOapIn 4 { realign := 4 } 0).port 2).realign < 8 ∧ ((wOapIn 4 { realign := 4 } 0).port 2).drop = []) ∧
    ((wOapIn 4 { realign := 4 } 0).oapSource 9 2 (wOh 0) = true ∧ (wOh 0).getD 6 0 = 0 ∧ 8 ≤ 9) := by decide +kernel
theorem wit_oapEnable :
    (((wOap 0 {}).setWord (Reg.OAP_CFG 2) 0 : State).accessFault (⟨1, 1, 0, 0x200200, 4⟩ : Access) = none ∧ (⟨1, 1, 0, 0x200200, 4⟩ : Access).off = Reg.OAP_CFG 2 ∧ 2 < 8 ∧ ((wOap 0 {}).setWord (Reg.OAP_CFG 2) 0 : State).rbit (Reg.OAP_CFG_EN 2) = false) ∧
    (bit (0x3F * 64 + 3 : Nat) 0 = true ∧ bit (0x3F * 64 + 3 : Nat) 2 = false ∧ (bit (0x3F * 64 + 3 : Nat) 1 = true → 1 ≤ rMax (bits (0x3F * 64 + 3 : Nat) 6 10 + 1) (((wOap 0 {}).setWord (Reg.OAP_CFG 2) 0 : State).dropMask 2))) ∧
    (((⟨1, 1, 0, 0x200200, 4⟩ : Access).size = 8 → 1 ≤ ((wOap 0 {}).setWord (Reg.OAP_CFG 2) 0 : State).layer (bits (0x3F * 64 + 3 : Nat) 32 16) ∧ ((wOap 0 {}).setWord (Reg.OAP_CFG 2) 0 : State).layer (bits (0x3F * 64 + 3 : Nat) 32 16) ≤ 4)) := by decide +kernel
theorem wit_oapEnable2 :
    ((((wOap 0 {}).setWord (Reg.OAP_CFG 2) 0).trailSet 6 0 1 4 : State).accessFault (⟨1, 1, 0, 0x200200, 8⟩ : Access) = none ∧ (⟨1, 1, 0, 0x200200, 8⟩ : Access).off = Reg.OAP_CFG 2 ∧ 2 < 8 ∧ (((wOap 0 {}).setWord (Reg.OAP_CFG 2) 0).trailSet 6 0 1 4 : State).rbit (Reg.OAP_CFG_EN 2) = false) ∧
    (bit (0x3F * 64 + 0x23 + 6 * 2 ^ 32 : Nat) 0 = true ∧ bit (0x3F * 64 + 0x23 + 6 * 2 ^ 32 : Nat) 2 = false ∧ (bit (0x3F * 64 + 0x23 + 6 * 2 ^ 32 : Nat) 1 = true → 1 ≤ rMax (bits (0x3F * 64 + 0x23 + 6 * 2 ^ 32 : Nat) 6 10 + 1) ((((wOap 0 {}).setWord (Reg.OAP_CFG 2) 0).trailSet 6 0 1 4 : State).dropMask 2))) ∧
    (((⟨1, 1, 0, 0x200200, 8⟩ : Access).size = 8 → 1 ≤ (((wOap 0 {}).setWord (Reg.OAP_CFG 2) 0).trailSet 6 0 1 4 : State).layer (bits (0x3F * 64 + 0x23 + 6 * 2 ^ 32 : Nat) 32 16) ∧ (((wOap 0 {}).setWord (Reg.OAP_CFG 2) 0).trailSet 6 0 1 4 : State).layer (bits (0x3F * 64 + 0x23 + 6 * 2 ^ 32 : Nat) 32 16) ≤ 4)) := by decide +kernel
theorem wit_oapDisable :
    ((wOap 2 { drop := [⟨3, 7, [1, 2]⟩] } : State).accessFault (⟨1, 1, 0, 0x200200, 4⟩ : Access) = none ∧ (⟨1, 1, 0, 0x200200, 4⟩ : Access).size = 4 ∧ (⟨1, 1, 0, 0x200200, 4⟩ : Access).off = Reg.OAP_CFG 2 ∧ 2 < 8 ∧ (wOap 2 { drop := [⟨3, 7, [1, 2]⟩] } : State).rbit (Reg.OAP_CFG_EN 2) = true) ∧
    ((0x3F * 64 + 6 : Nat) % 2 ^ 16 = (wOap 2 { drop := [⟨3, 7, [1, 2]⟩] } : State).wordN (Reg.OAP_CFG 2) % 2 ^ 16 - 1) := by decide +kernel
theorem wit_oapDisableWide :
    ((wOap 2 { drop := [⟨3, 7, [1, 2]⟩] } : State).accessFault (⟨1, 1, 0, 0x200200, 8⟩ : Access) = none ∧ (⟨1, 1, 0, 0x200200, 8⟩ : Access).size = 8 ∧ (⟨1, 1, 0, 0x200200, 8⟩ : Access).off = Reg.OAP_CFG 2 ∧ 2 < 8 ∧ (wOap 2 { drop := [⟨3, 7, [1, 2]⟩] } : State).rbit (Reg.OAP_CFG_EN 2) = true) := by decide +kernel
theorem wit_oapCfgHeld :
    ((wOap 2 {} : State).accessFault (⟨1, 1, 0, 0x200200, 4⟩ : Access) = none ∧ (⟨1, 1, 0, 0x200200, 4⟩ : Access).off = Reg.OAP_CFG 2 ∧ 2 < 8 ∧ (wOap 2 {} : State).rbit (Reg.OAP_CFG_EN 2) = true) ∧
    (bits 7 6 10 ≠ (wOap 2 {} : State).rget (Reg.OAP_CFG_SLOTS_M1 2)) := by decide +kernel
theorem wit_oapMask :
    (((wOap 0 {}).setWord (Reg.OAP_CFG 2) 0 : State).accessFault (⟨1, 1, 0, 0x200208, 8⟩ : Access) = none ∧ (⟨1, 1, 0, 0x200208, 8⟩ : Access).off = Reg.OAP_DROP_MASK_LO 2 ∧ 2 < 8 ∧ ((wOap 0 {}).setWord (Reg.OAP_CFG 2) 0 : State).rbit (Reg.OAP_CFG_EN 2) = false ∧ ((wOap 0 {}).setWord (Reg.OAP_CFG 2) 0 : State).rbit (Reg.OAP_CFG_DROP_EN 2) = false) := by decide +kernel
theorem wit_oapMaskRefused :
    (((wOap 0 {}).setWord (Reg.OAP_CFG 2) 0 : State).accessFault (⟨1, 1, 0, 0x200210, 4⟩ : Access) = none ∧ (⟨1, 1, 0, 0x200210, 4⟩ : Access).off = Reg.OAP_INS_MASK_LO 2 ∧ 2 < 8 ∧ ((wOap 0 {}).setWord (Reg.OAP_CFG 2) 0 : State).rbit (Reg.OAP_CFG_EN 2) = false ∧ 0x3FC0 % 128 ≠ 0) := by decide +kernel
theorem wit_oapSource :
    ((((wOap 0 {}).setWord (Reg.OAP_CFG 2) 0).trailSet 6 0 1 4 : State).accessFault (⟨1, 1, 0, 0x200204, 4⟩ : Access) = none ∧ (⟨1, 1, 0, 0x200204, 4⟩ : Access).off = Reg.OAP_SRC 2 ∧ 2 < 8 ∧ (((wOap 0 {}).setWord (Reg.OAP_CFG 2) 0).trailSet 6 0 1 4 : State).rbit (Reg.OAP_CFG_EN 2) = false ∧ (((wOap 0 {}).setWord (Reg.OAP_CFG 2) 0).trailSet 6 0 1 4 : State).rbit (Reg.OAP_CFG_INS_EN 2) = false) ∧
    (1 ≤ (((wOap 0 {}).setWord (Reg.OAP_CFG 2) 0).trailSet 6 0 1 4 : State).layer (6 % 65536) ∧ (((wOap 0 {}).setWord (Reg.OAP_CFG 2) 0).trailSet 6 0 1 4 : State).layer (6 % 65536) ≤ 4) := by decide +kernel
theorem wit_oapSourceBad :
    (((wOap 0 {}).setWord (Reg.OAP_CFG 2) 0 : State).accessFault (⟨1, 1, 0, 0x200204, 4⟩ : Access) = none ∧ (⟨1, 1, 0, 0x200204, 4⟩ : Access).off = Reg.OAP_SRC 2 ∧ 2 < 8 ∧ ((wOap 0 {}).setWord (Reg.OAP_CFG 2) 0 : State).rbit (Reg.OAP_CFG_EN 2) = false) ∧
    (((wOap 0 {}).setWord (Reg.OAP_CFG 2) 0 : State).layer (6 % 65536) = 0 ∨ 4 < ((wOap 0 {}).setWord (Reg.OAP_CFG 2) 0 : State).layer (6 % 65536)) := by decide +kernel
theorem wit_oapOverlap :
    (((wOap 2 {}).setWord (Reg.OAP_INS_MASK_LO 3) 0x80 : State).accessFault (⟨1, 1, 0, 0x200300, 4⟩ : Access) = none ∧ (⟨1, 1, 0, 0x200300, 4⟩ : Access).off = Reg.OAP_CFG 3 ∧ 3 < 8 ∧ 2 < 8 ∧ 2 ≠ 3 ∧ ((wOap 2 {}).setWord (Reg.OAP_INS_MASK_LO 3) 0x80 : State).rbit (Reg.OAP_CFG_EN 3) = false ∧ bit (0x3F * 64 + 5 : Nat) 2 = true) ∧
    (((wOap 2 {}).setWord (Reg.OAP_INS_MASK_LO 3) 0x80 : State).rbit (Reg.OAP_CFG_INS_EN 2) = true ∧ ((wOap 2 {}).setWord (Reg.OAP_INS_MASK_LO 3) 0x80 : State).rget (Reg.OAP_SRC_ENTRY 2) = ((wOap 2 {}).setWord (Reg.OAP_INS_MASK_LO 3) 0x80 : State).rget (Reg.OAP_SRC_ENTRY 3) ∧ (((wOap 2 {}).setWord (Reg.OAP_INS_MASK_LO 3) 0x80 : State).insMask 2 &&& ((wOap 2 {}).setWord (Reg.OAP_INS_MASK_LO 3) 0x80 : State).insMask 3) ≠ 0) := by decide +kernel
theorem wit_sesRule : sesOf false 128458 856383 = true ∧ sesOf false 128457 856383 = false ∧ endPar false false 128457 = [1, 0, 128457, 0] := by decide +kernel
theorem wit_farEndRule : ({ s := 3, nDef := true, fDef := true } : SecAcc).nDef = true ∧ ({ s := 3, nDef := true, fDef := true } : SecAcc).bad = false ∧ ({} : BinRec).par.length = 8 ∧
    (∀ x ∈ ({} : BinRec).par, x ≤ 0xFFFFFFFF) := by decide +kernel
theorem wit_availabilityRule : unavailAt { secs := (List.range 10).map fun k => { s := 5 + k, nDef := true } } 5 false SecAcc.nSes = true := by decide +kernel
theorem wit_pmSettles : settles wPm (sec 20) 6 ∧ (secOf (sec 20) - 9) % 900 ≠ wPm.pm.ofs15 % 900 := wPm_settles
theorem wit_pmBinCompletes : settles wPm (sec 909) 6 ∧ (secOf (sec 909) - 9) % 900 = wPm.pm.ofs15 % 900 := wPm_completes
/-- The same with an alert at one errored second. -/
def wPmTca : State := wPm.setWord (Reg.PMN_TCA_SET15 0 0) 1
theorem wPmTca_settles : settles wPmTca (sec 20) 6 := by decide +kernel
theorem wit_pmAlert : settles wPmTca (sec 20) 6 ∧
    ((secOf (sec 20) - 9) % 900 ≠ wPmTca.pm.ofs15 % 900 ∧ 0 < 8) ∧
    (0 < wPmTca.tca ((wPmTca.pmE 6).profile % 64) 0 0 ∧ (wPmTca.pmE 6).profile < 64) ∧
    (wPmTca.tca ((wPmTca.pmE 6).profile % 64) 0 0 ≤ (settledBin (pmAt wPmTca 6 (secOf (sec 20) - 1)) (secOf (sec 20) - 10)).par.getD 0 0) ∧
    (bit8 (wPmTca.pmE 6).cur15.raised 0 = false ∧ bit8 (wPmTca.pmE 6).stand 0 = false) :=
  ⟨wPmTca_settles, by decide +kernel, by decide +kernel, by decide +kernel, by decide +kernel⟩
theorem wit_resetThreshold : State.reset.tcaReset 0 0 = 0 := by decide +kernel
theorem wit_pmCfg :
    ((wRing.trailSet 6 0 1 4 : State).cmdReady 5 wDesc = true) ∧
    (6 ≤ 65535 ∧ 9 ≤ 63 ∧ (wRing.trailSet 6 0 1 4 : State).layer 6 ≠ 0) := by decide +kernel
theorem wit_pmCfgUnused :
    (wRing.cmdReady 5 wDesc = true) ∧
    (6 ≤ 65535 ∧ 9 ≤ 63 ∧ wRing.layer 6 = 0) := by decide +kernel
theorem wit_eventLog :
    (({ State.reset with evl := { State.reset.evl with pend := [⟨3, 5, 0x8400, 0, 9⟩, ⟨4, 2, 0x500A, 5, 9⟩] } } : State).evl.pend = (⟨3, 5, 0x8400, 0, 9⟩ : EvRec) :: ([⟨4, 2, 0x500A, 5, 9⟩] : List EvRec) ∧ ({ State.reset with evl := { State.reset.evl with pend := [⟨3, 5, 0x8400, 0, 9⟩, ⟨4, 2, 0x500A, 5, 9⟩] } } : State).rbit Reg.EVL_LIVE_RING_OFF = false) := by decide +kernel
theorem wit_eventRingOff :
    (({ State.reset with evl := { State.reset.evl with pend := [⟨3, 5, 0x8400, 0, 9⟩] } }.rsetb Reg.EVL_LIVE_RING_OFF true : State).evl.pend = (⟨3, 5, 0x8400, 0, 9⟩ : EvRec) :: ([] : List EvRec) ∧ ({ State.reset with evl := { State.reset.evl with pend := [⟨3, 5, 0x8400, 0, 9⟩] } }.rsetb Reg.EVL_LIVE_RING_OFF true : State).rbit Reg.EVL_LIVE_RING_OFF = true) := by decide +kernel
theorem wit_eventQueued :
    (({ State.reset with evl := { State.reset.evl with pend := [⟨3, 2, 0x4001, 6, 9⟩] } } : State).evl.pend = (⟨3, 2, 0x4001, 6, 9⟩ : EvRec) :: ([] : List EvRec) ∧ bit (({ State.reset with evl := { State.reset.evl with pend := [⟨3, 2, 0x4001, 6, 9⟩] } } : State).rget Reg.EVL_CFG_Q_MASK) (⟨3, 2, 0x4001, 6, 9⟩ : EvRec).sev = true) ∧
    (7 = (if 0x4000 ≤ (⟨3, 2, 0x4001, 6, 9⟩ : EvRec).code ∧ (⟨3, 2, 0x4001, 6, 9⟩ : EvRec).code < 0x5000 then 7 else (⟨3, 2, 0x4001, 6, 9⟩ : EvRec).sev) ∧ 7 < 8) ∧
    ((({ State.reset with evl := { State.reset.evl with pend := [⟨3, 2, 0x4001, 6, 9⟩] } } : State).q 7).mode = 1 ∧ (({ State.reset with evl := { State.reset.evl with pend := [⟨3, 2, 0x4001, 6, 9⟩] } } : State).q 7).full = false ∧ (({ State.reset with evl := { State.reset.evl with pend := [⟨3, 2, 0x4001, 6, 9⟩] } } : State).q 7).group < 256 ∧ (({ State.reset with evl := { State.reset.evl with pend := [⟨3, 2, 0x4001, 6, 9⟩] } } : State).que.waits.all fun w => w.queue != 7) = true) := by decide +kernel
theorem wit_eventMirrored :
    (({ State.reset with evl := { State.reset.evl with pend := [⟨3, 1, 0x3181, 6, 9⟩] } } : State).evl.pend = (⟨3, 1, 0x3181, 6, 9⟩ : EvRec) :: ([] : List EvRec) ∧ ({ State.reset with evl := { State.reset.evl with pend := [⟨3, 1, 0x3181, 6, 9⟩] } } : State).rget Reg.EVL_CFG_LOGBOOK_SEV ≠ 7 ∧ (⟨3, 1, 0x3181, 6, 9⟩ : EvRec).sev ≤ ({ State.reset with evl := { State.reset.evl with pend := [⟨3, 1, 0x3181, 6, 9⟩] } } : State).rget Reg.EVL_CFG_LOGBOOK_SEV ∧ 0 < ({ State.reset with evl := { State.reset.evl with pend := [⟨3, 1, 0x3181, 6, 9⟩] } } : State).evl.bucket) := by decide +kernel
theorem wit_eventSkipped :
    (({ State.reset with evl := { State.reset.evl with bucket := 0, pend := [⟨3, 1, 0x3181, 6, 9⟩] } } : State).evl.pend = (⟨3, 1, 0x3181, 6, 9⟩ : EvRec) :: ([] : List EvRec) ∧ ({ State.reset with evl := { State.reset.evl with bucket := 0, pend := [⟨3, 1, 0x3181, 6, 9⟩] } } : State).rget Reg.EVL_CFG_LOGBOOK_SEV ≠ 7 ∧ (⟨3, 1, 0x3181, 6, 9⟩ : EvRec).sev ≤ ({ State.reset with evl := { State.reset.evl with bucket := 0, pend := [⟨3, 1, 0x3181, 6, 9⟩] } } : State).rget Reg.EVL_CFG_LOGBOOK_SEV ∧ ({ State.reset with evl := { State.reset.evl with bucket := 0, pend := [⟨3, 1, 0x3181, 6, 9⟩] } } : State).evl.bucket = 0) := by decide +kernel
theorem wit_mirrorWrite :
    (({ State.reset with evl := { State.reset.evl with mirror := [(9, ⟨⟨3, 1, 0x3181, 6, 9⟩, 0, 0, true, true, true⟩)] } } : State).evl.mirror = (9, (⟨⟨3, 1, 0x3181, 6, 9⟩, 0, 0, true, true, true⟩ : LogRec)) :: ([] : List (Nat × LogRec))) := by decide +kernel
theorem wit_bucketNotice :
    (0 < ({ State.reset with evl := { State.reset.evl with bucket := 0, skipped := 4, skipSeq := 9 } } : State).evl.skipped ∧ ({ State.reset with evl := { State.reset.evl with bucket := 0, skipped := 4, skipSeq := 9 } } : State).evl.skipped < 2 ^ 32 ∧ 0 < ({ State.reset with evl := { State.reset.evl with bucket := 0, skipped := 4, skipSeq := 9 } } : State).evl.bucket + ((ms 3 : Nat) - ({ State.reset with evl := { State.reset.evl with bucket := 0, skipped := 4, skipSeq := 9 } } : State).evl.lastRefill) / us 500) := by decide +kernel
theorem wit_liveExpires :
    (({ State.reset with pulses := [⟨Reg.TIM_LIVE, 21, 7⟩] }.rsetb Reg.TIM_LIVE_TIME_STEP true : State).pulses.find? (fun x => decide (x.addr = (Reg.TIM_LIVE : Nat) ∧ x.bit = 21 ∧ x.until_ ≤ 9)) = some (⟨Reg.TIM_LIVE, 21, 7⟩ : Pulse)) := by decide +kernel
theorem wit_liveStays :
    (({ State.reset with pulses := [⟨Reg.TIM_LIVE, 21, 7⟩] }.rsetb Reg.TIM_LIVE_TIME_STEP true : State).pulses.find? (fun x => decide (x.addr = (Reg.TIM_LIVE : Nat) ∧ x.bit = 21 ∧ x.until_ ≤ 6)) = none) := by decide +kernel
theorem wit_unitMatch :
    (4 < 32 ∧ (wCv 0 { exp := 0xCBF43926, guard := 0x85 } : State).domOn 98 = true ∧ (wCv 0 { exp := 0xCBF43926, guard := 0x85 } : State).rbit (Reg.CVU_CFG_EN 4) = true ∧ ((wCv 0 { exp := 0xCBF43926, guard := 0x85 } : State).cvUnitLen 4).all (fun x => wNine.length == x) = true) ∧
    ((wCv 0 { exp := 0xCBF43926, guard := 0x85 } : State).cvExpect 5 4 wNine = .value 0xCBF43926 (some 0x85 : Option Nat) ∧ (some 0x85 : Option Nat).all (fun y => y == cvGuard ((wCv 0 { exp := 0xCBF43926, guard := 0x85 } : State).cvW 4) 0xCBF43926) = true ∧ crc ((wCv 0 { exp := 0xCBF43926, guard := 0x85 } : State).cvParam 4) ((wCv 0 { exp := 0xCBF43926, guard := 0x85 } : State).cvData 4 wNine) = 0xCBF43926 % 2 ^ (wCv 0 { exp := 0xCBF43926, guard := 0x85 } : State).cvW 4) := by decide +kernel
theorem wit_unitMatch2 :
    (4 < 32 ∧ (wCv 2 { fifo := [(0xCBF43926, 0x85, 4)] } : State).domOn 98 = true ∧ (wCv 2 { fifo := [(0xCBF43926, 0x85, 4)] } : State).rbit (Reg.CVU_CFG_EN 4) = true ∧ ((wCv 2 { fifo := [(0xCBF43926, 0x85, 4)] } : State).cvUnitLen 4).all (fun x => wNine.length == x) = true) ∧
    ((wCv 2 { fifo := [(0xCBF43926, 0x85, 4)] } : State).cvExpect 5 4 wNine = .value 0xCBF43926 (some 0x85 : Option Nat) ∧ (some 0x85 : Option Nat).all (fun y => y == cvGuard ((wCv 2 { fifo := [(0xCBF43926, 0x85, 4)] } : State).cvW 4) 0xCBF43926) = true ∧ crc ((wCv 2 { fifo := [(0xCBF43926, 0x85, 4)] } : State).cvParam 4) ((wCv 2 { fifo := [(0xCBF43926, 0x85, 4)] } : State).cvData 4 wNine) = 0xCBF43926 % 2 ^ (wCv 2 { fifo := [(0xCBF43926, 0x85, 4)] } : State).cvW 4) := by decide +kernel
theorem wit_unitMatch3 :
    (4 < 32 ∧ (wCv 1 {} : State).domOn 98 = true ∧ (wCv 1 {} : State).rbit (Reg.CVU_CFG_EN 4) = true ∧ ((wCv 1 {} : State).cvUnitLen 4).all (fun x => (wNine ++ [0xCB, 0xF4, 0x39, 0x26] : List Byte).length == x) = true) ∧
    ((wCv 1 {} : State).cvExpect 5 4 (wNine ++ [0xCB, 0xF4, 0x39, 0x26] : List Byte) = .value 0xCBF43926 none ∧ none.all (fun y => y == cvGuard ((wCv 1 {} : State).cvW 4) 0xCBF43926) = true ∧ crc ((wCv 1 {} : State).cvParam 4) ((wCv 1 {} : State).cvData 4 (wNine ++ [0xCB, 0xF4, 0x39, 0x26] : List Byte)) = 0xCBF43926 % 2 ^ (wCv 1 {} : State).cvW 4) := by decide +kernel
theorem wit_unitMismatch :
    (4 < 32 ∧ (wCv 0 { exp := 0xCBF43927, guard := 0x84, index := 6 } : State).domOn 98 = true ∧ (wCv 0 { exp := 0xCBF43927, guard := 0x84, index := 6 } : State).rbit (Reg.CVU_CFG_EN 4) = true ∧ ((wCv 0 { exp := 0xCBF43927, guard := 0x84, index := 6 } : State).cvUnitLen 4).all (fun x => wNine.length == x) = true) ∧
    ((wCv 0 { exp := 0xCBF43927, guard := 0x84, index := 6 } : State).cvExpect 5 4 wNine = .value 0xCBF43927 (some 0x84 : Option Nat) ∧ (some 0x84 : Option Nat).all (fun y => y == cvGuard ((wCv 0 { exp := 0xCBF43927, guard := 0x84, index := 6 } : State).cvW 4) 0xCBF43927) = true ∧ crc ((wCv 0 { exp := 0xCBF43927, guard := 0x84, index := 6 } : State).cvParam 4) ((wCv 0 { exp := 0xCBF43927, guard := 0x84, index := 6 } : State).cvData 4 wNine) ≠ 0xCBF43927 % 2 ^ (wCv 0 { exp := 0xCBF43927, guard := 0x84, index := 6 } : State).cvW 4) := by decide +kernel
theorem wit_unitMismatch2 :
    (4 < 32 ∧ (((wCv 0 { exp := 0xCBF43927, guard := 0x84, index := 6 }).setWord (Reg.CVU_STATUS 4) 1).rsetb (Reg.CVU_CFG_FREEZE 4) true : State).domOn 98 = true ∧ (((wCv 0 { exp := 0xCBF43927, guard := 0x84, index := 6 }).setWord (Reg.CVU_STATUS 4) 1).rsetb (Reg.CVU_CFG_FREEZE 4) true : State).rbit (Reg.CVU_CFG_EN 4) = true ∧ ((((wCv 0 { exp := 0xCBF43927, guard := 0x84, index := 6 }).setWord (Reg.CVU_STATUS 4) 1).rsetb (Reg.CVU_CFG_FREEZE 4) true : State).cvUnitLen 4).all (fun x => wNine.length == x) = true) ∧
    ((((wCv 0 { exp := 0xCBF43927, guard := 0x84, index := 6 }).setWord (Reg.CVU_STATUS 4) 1).rsetb (Reg.CVU_CFG_FREEZE 4) true : State).cvExpect 5 4 wNine = .value 0xCBF43927 (some 0x84 : Option Nat) ∧ (some 0x84 : Option Nat).all (fun y => y == cvGuard ((((wCv 0 { exp := 0xCBF43927, guard := 0x84, index := 6 }).setWord (Reg.CVU_STATUS 4) 1).rsetb (Reg.CVU_CFG_FREEZE 4) true : State).cvW 4) 0xCBF43927) = true ∧ crc ((((wCv 0 { exp := 0xCBF43927, guard := 0x84, index := 6 }).setWord (Reg.CVU_STATUS 4) 1).rsetb (Reg.CVU_CFG_FREEZE 4) true : State).cvParam 4) ((((wCv 0 { exp := 0xCBF43927, guard := 0x84, index := 6 }).setWord (Reg.CVU_STATUS 4) 1).rsetb (Reg.CVU_CFG_FREEZE 4) true : State).cvData 4 wNine) ≠ 0xCBF43927 % 2 ^ (((wCv 0 { exp := 0xCBF43927, guard := 0x84, index := 6 }).setWord (Reg.CVU_STATUS 4) 1).rsetb (Reg.CVU_CFG_FREEZE 4) true : State).cvW 4) := by decide +kernel
theorem wit_unitCorrupt :
    (4 < 32 ∧ (wCv 2 { fifo := [(0xCBF43927, 0x85, 4)] } : State).domOn 98 = true ∧ (wCv 2 { fifo := [(0xCBF43927, 0x85, 4)] } : State).rbit (Reg.CVU_CFG_EN 4) = true ∧ ((wCv 2 { fifo := [(0xCBF43927, 0x85, 4)] } : State).cvUnitLen 4).all (fun x => wNine.length == x) = true) ∧
    ((wCv 2 { fifo := [(0xCBF43927, 0x85, 4)] } : State).cvExpect 5 4 wNine = .value 0xCBF43927 (some 0x85) ∧ 0x85 ≠ cvGuard ((wCv 2 { fifo := [(0xCBF43927, 0x85, 4)] } : State).cvW 4) 0xCBF43927) := by decide +kernel
theorem wit_unitNoExpect :
    (4 < 32 ∧ (wCv 2 {} : State).domOn 98 = true ∧ (wCv 2 {} : State).rbit (Reg.CVU_CFG_EN 4) = true ∧ ((wCv 2 {} : State).cvUnitLen 4).all (fun x => wNine.length == x) = true) ∧
    ((wCv 2 {} : State).cvExpect 5 4 wNine = .missing) := by decide +kernel
theorem wit_unitNoExpect2 :
    (4 < 32 ∧ (wCv 2 { fifo := [(3, 4, 5)] } : State).domOn 98 = true ∧ (wCv 2 { fifo := [(3, 4, 5)] } : State).rbit (Reg.CVU_CFG_EN 4) = true ∧ ((wCv 2 { fifo := [(3, 4, 5)] } : State).cvUnitLen 4).all (fun x => wNine.length == x) = true) ∧
    ((wCv 2 { fifo := [(3, 4, 5)] } : State).cvExpect 5 4 wNine = .missing) := by decide +kernel
theorem wit_unitNoExpect3 :
    (4 < 32 ∧ (wCv 1 {} : State).domOn 98 = true ∧ (wCv 1 {} : State).rbit (Reg.CVU_CFG_EN 4) = true ∧ ((wCv 1 {} : State).cvUnitLen 4).all (fun x => ([1, 2, 3, 4] : List Byte).length == x) = true) ∧
    ((wCv 1 {} : State).cvExpect 5 4 ([1, 2, 3, 4] : List Byte) = .missing) := by decide +kernel
theorem wit_unitDone :
    (4 < 32 ∧ (wCv 3 {} : State).domOn 98 = true ∧ (wCv 3 {} : State).rbit (Reg.CVU_CFG_EN 4) = true ∧ ((wCv 3 {} : State).cvUnitLen 4).all (fun x => wNine.length == x) = true) ∧
    ((wCv 3 {} : State).rget (Reg.CVU_CFG_EXP_SRC 4) = 3) := by decide +kernel
theorem wit_unitOff :
    ((State.reset : State).domOn 98 = false ∨ (State.reset : State).rbit (Reg.CVU_CFG_EN 4) = false) := by decide +kernel
theorem wit_expectedValue : (wCv 1 {}).rget (Reg.CVU_CFG_EXP_SRC 4) = 1 ∧ (wCv 1 {}).cvW 4 = 32 ∧ (wCv 0 {}).rget (Reg.CVU_CFG_EXP_SRC 4) = 0 := by decide +kernel
theorem wit_guardDetects : 15 < 16 ∧ 16 ≤ 64 ∧ 0x29B1 < 2 ^ 16 := by decide +kernel
theorem wit_expGuard :
    (((wCv 0 {}).setWord (Reg.CVU_EXP_LO 4) 0x29B1 : State).accessFault (⟨1, 1, 0, 0x240428, 4⟩ : Access) = none ∧ (⟨1, 1, 0, 0x240428, 4⟩ : Access).off = Reg.CVU_EXP_GUARD 4 ∧ 4 < 32) := by decide +kernel
theorem wit_fifoGuard :
    ((wCv 2 {} : State).accessFault (⟨1, 1, 0, 0x240438, 4⟩ : Access) = none ∧ (⟨1, 1, 0, 0x240438, 4⟩ : Access).off = Reg.CVU_FIFO_GUARD 4 ∧ 4 < 32 ∧ ((wCv 2 {} : State).cv 4).fifo.length < 16) := by decide +kernel
theorem wit_fifoFull :
    ((wCv 2 { fifo := List.replicate 16 (1, 2, 3) } : State).accessFault (⟨1, 1, 0, 0x240438, 4⟩ : Access) = none ∧ (⟨1, 1, 0, 0x240438, 4⟩ : Access).off = Reg.CVU_FIFO_GUARD 4 ∧ 4 < 32 ∧ 16 ≤ ((wCv 2 { fifo := List.replicate 16 (1, 2, 3) } : State).cv 4).fifo.length) := by decide +kernel
theorem wit_testGo :
    (4 < 32 ∧ ((wCv 0 {}).rsetb (Reg.CVU_CFG_EN 4) false : State).domOn 98 = true ∧ ((wCv 0 {}).rsetb (Reg.CVU_CFG_EN 4) false : State).rbit (Reg.CVU_CFG_EN 4) = false) := by decide +kernel
theorem wit_testGoIgnored :
    ((wCv 0 {} : State).rbit (Reg.CVU_CFG_EN 4) = true) := by decide +kernel
theorem wit_fifoEmptied :
    (4 < 32 ∧ (wCv 2 { fifo := [(1, 2, 3)] } : State).domOn 98 = true) := by decide +kernel
theorem wit_cvuCfg :
    (((wCv 0 { index := 9 }).rsetb (Reg.CVU_CFG_EN 4) false : State).accessFault (⟨1, 1, 0, 0x240400, 8⟩ : Access) = none ∧ (⟨1, 1, 0, 0x240400, 8⟩ : Access).off = Reg.CVU_CFG 4 ∧ 4 < 32 ∧ ((wCv 0 { index := 9 }).rsetb (Reg.CVU_CFG_EN 4) false : State).rbit (Reg.CVU_CFG_EN 4) = false) ∧
    (bit (0x3F + 2 ^ 32 * 3 : Nat) 0 = true ∧ tapAllows (if (⟨1, 1, 0, 0x240400, 8⟩ : Access).size = 8 then bits (0x3F + 2 ^ 32 * 3 : Nat) 32 4 else ((wCv 0 { index := 9 }).rsetb (Reg.CVU_CFG_EN 4) false : State).rget (Reg.CVU_TAP_TAP 4)) (bits (0x3F + 2 ^ 32 * 3 : Nat) 9 2) = true) := by decide +kernel
theorem wit_cvuCfgClears :
    ((wCv 0 {} : State).accessFault (⟨1, 1, 0, 0x240400, 4⟩ : Access) = none ∧ (⟨1, 1, 0, 0x240400, 4⟩ : Access).size = 4 ∧ (⟨1, 1, 0, 0x240400, 4⟩ : Access).off = Reg.CVU_CFG 4 ∧ 4 < 32 ∧ (wCv 0 {} : State).rbit (Reg.CVU_CFG_EN 4) = true ∧ (0x3E : Nat) < 2 ^ 32) ∧
    (bit (0x3E : Nat) 0 = false ∧ tapAllows ((wCv 0 {} : State).rget (Reg.CVU_TAP_TAP 4)) (bits (0x3E : Nat) 9 2) = true) := by decide +kernel
theorem wit_cvuCfgClearsWide :
    ((wCv 0 {} : State).accessFault (⟨1, 1, 0, 0x240400, 8⟩ : Access) = none ∧ (⟨1, 1, 0, 0x240400, 8⟩ : Access).size = 8 ∧ (⟨1, 1, 0, 0x240400, 8⟩ : Access).off = Reg.CVU_CFG 4 ∧ 4 < 32 ∧ (wCv 0 {} : State).rbit (Reg.CVU_CFG_EN 4) = true ∧ (bit (0x3E : Nat) 0 = false → tapAllows (bits (0x3E : Nat) 32 4) (bits (0x3E : Nat) 9 2) = true)) := by decide +kernel
theorem wit_cvuCfgHeld :
    ((wCv 0 {} : State).accessFault (⟨1, 1, 0, 0x240400, 4⟩ : Access) = none ∧ (⟨1, 1, 0, 0x240400, 4⟩ : Access).off = Reg.CVU_CFG 4 ∧ 4 < 32 ∧ (wCv 0 {} : State).rbit (Reg.CVU_CFG_EN 4) = true ∧ bit 0x3F 0 = true) := by decide +kernel
theorem wit_cvuTap :
    (((wCv 0 {}).rsetb (Reg.CVU_CFG_EN 4) false : State).accessFault (⟨1, 1, 0, 0x240404, 4⟩ : Access) = none ∧ (⟨1, 1, 0, 0x240404, 4⟩ : Access).off = Reg.CVU_TAP 4 ∧ 4 < 32 ∧ ((wCv 0 {}).rsetb (Reg.CVU_CFG_EN 4) false : State).rbit (Reg.CVU_CFG_EN 4) = false ∧ 0x56 < 2 ^ 21) ∧
    (tapAllows (0x56 % 16) (((wCv 0 {}).rsetb (Reg.CVU_CFG_EN 4) false : State).rget (Reg.CVU_CFG_FRAMING 4)) = true) := by decide +kernel
theorem wit_cvuTapRefused :
    (((wCv 0 {}).rsetb (Reg.CVU_CFG_EN 4) false : State).accessFault (⟨1, 1, 0, 0x240404, 4⟩ : Access) = none ∧ (⟨1, 1, 0, 0x240404, 4⟩ : Access).off = Reg.CVU_TAP 4 ∧ 4 < 32 ∧ ((wCv 0 {}).rsetb (Reg.CVU_CFG_EN 4) false : State).rbit (Reg.CVU_CFG_EN 4) = false) ∧
    (8 ≤ 4 % 16 ∨ (((wCv 0 {}).rsetb (Reg.CVU_CFG_EN 4) false : State).rget (Reg.CVU_CFG_FRAMING 4) = 1 ∧ (4 % 16 = 4 ∨ 4 % 16 = 5)) ∨ (((wCv 0 {}).rsetb (Reg.CVU_CFG_EN 4) false : State).rget (Reg.CVU_CFG_FRAMING 4) = 2 ∧ 4 % 16 ≠ 4 ∧ 4 % 16 ≠ 5 ∧ 4 % 16 ≠ 6)) := by decide +kernel
theorem wit_leaseRenewed :
    ((wLease 1 (ms 10) : State).leaseAt (ms 2 : Nat) = true) := by decide +kernel
theorem wit_leaseRenewalLate :
    ((wLease 1 (ms 10) : State).rbit Reg.KSK_LEASE_VALID = false ∨ (wLease 1 (ms 10) : State).dtsWords Reg.KSK_LEASE_EXP0 ≤ dts96 (ms 10 : Nat)) := by decide +kernel
theorem wit_leaseLapses :
    ((wLease 1 (ms 10) : State).rbit Reg.KSK_LEASE_VALID = true ∧ (wLease 1 (ms 10) : State).dtsWords Reg.KSK_LEASE_EXP0 ≤ dts96 (ms 10 : Nat)) := by decide +kernel
theorem wit_leaseGranted :
    (({ State.reset with red := { State.reset.red with kPrev := some 1, kLapse := 5, kReset := [1] } } : State).rbit Reg.KSK_LEASE_VALID = false ∧ (({ State.reset with red := { State.reset.red with kPrev := some 1, kLapse := 5, kReset := [1] } } : State).red.kPrev = none ∨ ({ State.reset with red := { State.reset.red with kPrev := some 1, kLapse := 5, kReset := [1] } } : State).red.kLapse + us 100 ≤ (us 101 : Nat))) ∧
    (({ State.reset with red := { State.reset.red with kPrev := some 1, kLapse := 5, kReset := [1] } } : State).grantTo true true = some 0 ∧ 0 < 2) := by decide +kernel
theorem wit_leaseGuard :
    (({ State.reset with red := { State.reset.red with kPrev := some 1, kLapse := 5 } } : State).red.kPrev.isSome = true ∧ (us 99 : Nat) < ({ State.reset with red := { State.reset.red with kPrev := some 1, kLapse := 5 } } : State).red.kLapse + us 100) := by decide +kernel
theorem wit_grantRule : State.reset.grantable 0 = true ∧ State.reset.grantable 1 = true := by decide +kernel
theorem wit_kioskReload :
    (({ (State.reset.rset (Reg.PWR_DOM_STATE 96) 2) with red := { State.reset.red with kReset := [1, 0] } } : State).red.kReset = 1 :: [0] ∧ 1 < 2 ∧
      ({ (State.reset.rset (Reg.PWR_DOM_STATE 96) 2) with red := { State.reset.red with kReset := [1, 0] } } : State).domOn (95 + 1) = true) := by decide +kernel
theorem wit_foreignWriteRefused :
    ((wLease 1 (ms 10) : State).rbit Reg.KSK_LEASE_VALID = false ∨ (wLease 1 (ms 10) : State).holder ≠ 0) := by decide +kernel
theorem wit_aonFence :
    ((wRole 2 : State).role ≠ 4) := by decide +kernel
theorem wit_heartbeat :
    ((wRole 2 : State).pairOn = true ∧ (wRole 2 : State).red.hbLast.all (fun a => decide (a + us 19 ≤ (us 40 : Nat) ∧ (us 40 : Nat) ≤ a + us 21)) = true) := by decide +kernel
theorem wit_heartbeatRecord : ((wRole 2).hbRecord 5).length = 32 := by decide +kernel
theorem wit_mateHeartbeat :
    (({ wRole 2 with red := { (wRole 2).red with images := [(0, [])] } } : State).pairOn = true ∧ ({ wRole 2 with red := { (wRole 2).red with images := [(0, [])] } } : State).red.mlp.isSome = true ∧ ((wRole 1).hbRecord 5 : List Byte).length = 32 ∧ crc crc32 (((wRole 1).hbRecord 5 : List Byte).take 28) = ofBe (((wRole 1).hbRecord 5 : List Byte).drop 28)) := by decide +kernel
theorem wit_mateHeartbeatBad :
    (crc crc32 (((List.replicate 32 0) : List Byte).take 28) ≠ ofBe (((List.replicate 32 0) : List Byte).drop 28)) := by decide +kernel
theorem wit_heartbeatWindow :
    (({ wRole 2 with red := { (wRole 2).red with hbPins := { missed := 2, up := true } } } : State).pairOn = true ∧ (us 40 : Nat) % us 20 = 0) ∧
    (({ wRole 2 with red := { (wRole 2).red with hbPins := { missed := 2, up := true } } } : State).cget Ctr.KSK_HB_MISSED < 2 ^ 48) := by decide +kernel
theorem wit_pathRule : ({ missed := 2, up := true } : HbPath).window.lost = true ∧ ({ seen := true, good := 9, lost := true } : HbPath).window.up = true := by decide +kernel
theorem wit_mlpChosen :
    (({ wMate with red := { wMate.red with mlp := none } } : State).pairOn = true ∧ ({ wMate with red := { wMate.red with mlp := none } } : State).domOn 90 = true ∧ ({ wMate with red := { wMate.red with mlp := none } } : State).red.mlp = none ∧ chooseVersion ({ wMate with red := { wMate.red with mlp := none } } : State).red.mlpRange ([0x01000000] : List Nat) = some 0x100) := by decide +kernel
theorem wit_mlpNone :
    (({ wMate with red := { wMate.red with mlp := none } } : State).pairOn = true ∧ ({ wMate with red := { wMate.red with mlp := none } } : State).domOn 90 = true ∧ ({ wMate with red := { wMate.red with mlp := none } } : State).red.mlp = none) ∧
    (chooseVersion ({ wMate with red := { wMate.red with mlp := none } } : State).red.mlpRange ([0x01000000] : List Nat) = none ∨ ((some 0x101 : Option Nat).isSome = true ∧ chooseVersion ({ wMate with red := { wMate.red with mlp := none } } : State).red.mlpRange ([0x01000000] : List Nat) ≠ (some 0x101 : Option Nat))) := by decide +kernel
theorem wit_mlpNone2 :
    (({ wMate with red := { wMate.red with mlp := none } } : State).pairOn = true ∧ ({ wMate with red := { wMate.red with mlp := none } } : State).domOn 90 = true ∧ ({ wMate with red := { wMate.red with mlp := none } } : State).red.mlp = none) ∧
    (chooseVersion ({ wMate with red := { wMate.red with mlp := none } } : State).red.mlpRange ([0x02000000] : List Nat) = none ∨ (((none) : Option Nat).isSome = true ∧ chooseVersion ({ wMate with red := { wMate.red with mlp := none } } : State).red.mlpRange ([0x02000000] : List Nat) ≠ ((none) : Option Nat))) := by decide +kernel
theorem wit_renewTakesOver :
    ((wRole 1 : State).refHeard (us 9 : Nat) (us 7 : Nat) 0 = true ∧ (wRole 1 : State).role = 1 ∧ (wRole 1 : State).red.fenceOut = false ∧ tcanon (fun _ => ({} : CtxH)) (wRole 1 : State).jrm.ctx = true) := by decide +kernel
theorem wit_renewExtends :
    ((wRole 2 : State).refHeard (us 9 : Nat) (us 7 : Nat) 0 = true ∧ ((wRole 2 : State).role = 2 ∨ (wRole 2 : State).role = 3)) ∧
    (tcanon (fun _ => ({} : CtxH)) (wRole 2 : State).jrm.ctx = true ∧ Memory.wf (wRole 2 : State).jrm.trail = true) := by decide +kernel
theorem wit_renewExtends2 :
    ((wRole 3 : State).refHeard (us 9 : Nat) (us 7 : Nat) 0 = true ∧ ((wRole 3 : State).role = 2 ∨ (wRole 3 : State).role = 3)) ∧
    (tcanon (fun _ => ({} : CtxH)) (wRole 3 : State).jrm.ctx = true ∧ Memory.wf (wRole 3 : State).jrm.trail = true) := by decide +kernel
theorem wit_renewNothing :
    ((wRole 4 : State).role = 0 ∨ (wRole 4 : State).role = 4 ∨ (wRole 4 : State).refHeard (us 9 : Nat) (us 7 : Nat) 0 = false) := by decide +kernel
theorem wit_renewNothing2 :
    ((wRole 1 : State).role = 0 ∨ (wRole 1 : State).role = 4 ∨ (wRole 1 : State).refHeard (us 8 : Nat) (us 7 : Nat) 0 = false) := by decide +kernel
theorem wit_releaseGivesUp :
    ((wRole 2 : State).refHeard (us 9 : Nat) (us 7 : Nat) 0 = true ∧ ((wRole 2 : State).role = 2 ∨ (wRole 2 : State).role = 3) ∧ (wRole 2 : State).red.mlp.isSome = true ∧ tcanon (fun _ => ({} : CtxH)) (wRole 2 : State).jrm.ctx = true) := by decide +kernel
theorem wit_presentHeard :
    ((wRole 2 : State).refHeard (us 9 : Nat) (us 7 : Nat) 1 = true) := by decide +kernel
theorem wit_refBadCounted :
    ((wRole 2 : State).refHeard (us 9 : Nat) 0 1 = true) := by decide +kernel
theorem wit_lapseStandby :
    (({ (wRole 2).setDtsWords Reg.KSK_PAIR_EXP0 (us 207) with red := { (wRole 2).red with present := some (us 100) } } : State).role = 2 ∧ ({ (wRole 2).setDtsWords Reg.KSK_PAIR_EXP0 (us 207) with red := { (wRole 2).red with present := some (us 100) } } : State).dtsWords Reg.KSK_PAIR_EXP0 ≠ 0 ∧ ({ (wRole 2).setDtsWords Reg.KSK_PAIR_EXP0 (us 207) with red := { (wRole 2).red with present := some (us 100) } } : State).dtsWords Reg.KSK_PAIR_EXP0 ≤ dts96 (us 207 : Nat)) ∧
    (({ (wRole 2).setDtsWords Reg.KSK_PAIR_EXP0 (us 207) with red := { (wRole 2).red with present := some (us 100) } } : State).red.present = some (us 100 : Nat) ∧ (us 100 : Nat) ≤ ofDts96 (({ (wRole 2).setDtsWords Reg.KSK_PAIR_EXP0 (us 207) with red := { (wRole 2).red with present := some (us 100) } } : State).dtsWords Reg.KSK_PAIR_EXP0) ∧ ofDts96 (({ (wRole 2).setDtsWords Reg.KSK_PAIR_EXP0 (us 207) with red := { (wRole 2).red with present := some (us 100) } } : State).dtsWords Reg.KSK_PAIR_EXP0) < (us 100 : Nat) + us 200) := by decide +kernel
theorem wit_lapseOrphan :
    (((wRole 2).setDtsWords Reg.KSK_PAIR_EXP0 (us 207) : State).role = 2 ∧ ((wRole 2).setDtsWords Reg.KSK_PAIR_EXP0 (us 207) : State).dtsWords Reg.KSK_PAIR_EXP0 ≠ 0 ∧ ((wRole 2).setDtsWords Reg.KSK_PAIR_EXP0 (us 207) : State).dtsWords Reg.KSK_PAIR_EXP0 ≤ dts96 (us 207 : Nat)) ∧
    (((wRole 2).setDtsWords Reg.KSK_PAIR_EXP0 (us 207) : State).red.present.all (fun a => decide (a + us 200 ≤ ofDts96 (((wRole 2).setDtsWords Reg.KSK_PAIR_EXP0 (us 207) : State).dtsWords Reg.KSK_PAIR_EXP0))) = true) := by decide +kernel
theorem wit_lapseFenced :
    (((wRole 4).setDtsWords Reg.KSK_PAIR_EXP0 (us 207) : State).role = 4 ∧ ((wRole 4).setDtsWords Reg.KSK_PAIR_EXP0 (us 207) : State).dtsWords Reg.KSK_PAIR_EXP0 ≠ 0 ∧ ((wRole 4).setDtsWords Reg.KSK_PAIR_EXP0 (us 207) : State).dtsWords Reg.KSK_PAIR_EXP0 ≤ dts96 (us 208 : Nat)) := by decide +kernel
theorem wit_pairCfg :
    ((wRing.setWord Reg.SYP_ARC_ID_DEVID.addr 0x10101 : State).cmdReady 5 wDesc = true ∧ (wRing.setWord Reg.SYP_ARC_ID_DEVID.addr 0x10101 : State).privileged 5 = true) ∧
    (1 ≤ 1 ∧ (wRing.setWord Reg.SYP_ARC_ID_DEVID.addr 0x10101 : State).rbit Reg.SYP_ARC_ID_VALID = true) := by decide +kernel
theorem wit_pairCfgEarly :
    (wRing.cmdReady 5 wDesc = true ∧ wRing.privileged 5 = true) ∧
    (1 ≤ 1 ∧ wRing.rbit Reg.SYP_ARC_ID_VALID = false) := by decide +kernel
theorem wit_epochSent :
    ((wRole 2 : State).pairOn = true ∧ ((wRole 2 : State).role = 2 ∨ (wRole 2 : State).role = 3) ∧ (us 200 : Nat) % us 100 = 0 ∧ (wRole 2 : State).red.mlp.isSome = true) := by decide +kernel
theorem wit_epochNotCut :
    ((us 200 : Nat) % us 100 ≠ 0 ∨ ((wRole 1 : State).role ≠ 2 ∧ (wRole 1 : State).role ≠ 3)) := by decide +kernel
theorem wit_epochNotCut2 :
    ((us 250 : Nat) % us 100 ≠ 0 ∨ ((wRole 2 : State).role ≠ 2 ∧ (wRole 2 : State).role ≠ 3)) := by decide +kernel
theorem wit_deltaRebuilds : (([(1, .aps 5), (2, .aps 6)] : Tbl LineData).map (·.1)).Nodup ∧ (([(2, .aps 6)] : Tbl LineData).map (·.1)).Nodup := by decide
theorem wit_epochApplied :
    ((wRole 1 : State).pairOn = true ∧ (wRole 1 : State).role = 1 ∧ (wRole 1 : State).red.mlp.isSome = true ∧ (wRole 1 : State).red.bufBad = false ∧ (wRole 1 : State).red.rxBad = false) ∧
    ((⟨1, 0, us 200, false, false, 0, [(5, some (.ctx [7] 0 [] [] [])), (2 ^ 22 + 3, some (.aps 77))]⟩ : EpochMsg).base = (wRole 1 : State).red.applied ∧ (⟨1, 0, us 200, false, false, 0, [(5, some (.ctx [7] 0 [] [] [])), (2 ^ 22 + 3, some (.aps 77))]⟩ : EpochMsg).continued = false) := by decide +kernel
theorem wit_epochContext :
    ((wRole 1 : State).pairOn = true ∧ (wRole 1 : State).role = 1 ∧ (wRole 1 : State).red.mlp.isSome = true ∧ (wRole 1 : State).red.bufBad = false ∧ (wRole 1 : State).red.rxBad = false ∧ (wRole 1 : State).red.rxSeries = [] ∧ 5 < 2 ^ 20) := by decide +kernel
theorem wit_epochSeries :
    ((wRole 1 : State).pairOn = true ∧ (wRole 1 : State).role = 1 ∧ (wRole 1 : State).red.mlp.isSome = true ∧ (wRole 1 : State).red.bufBad = false ∧ (wRole 1 : State).red.rxBad = false) ∧
    ((⟨1, 0, us 200, true, false, 0, [(2 ^ 22 + 3, some (.aps 77))]⟩ : EpochMsg).base = (wRole 1 : State).red.applied ∧ (⟨1, 0, us 200, true, false, 0, [(2 ^ 22 + 3, some (.aps 77))]⟩ : EpochMsg).continued = true) := by decide +kernel
theorem wit_epochRejected :
    ((wRole 1 : State).pairOn = true ∧ (wRole 1 : State).role = 1 ∧ (wRole 1 : State).red.mlp.isSome = true) ∧
    (true = false ∨ true = false ∨ (⟨1, 9, us 200, false, false, 0, []⟩ : EpochMsg).base ≠ (wRole 1 : State).red.applied) := by decide +kernel
theorem wit_epochRejected2 :
    ((wRole 1 : State).pairOn = true ∧ (wRole 1 : State).role = 1 ∧ (wRole 1 : State).red.mlp.isSome = true) ∧
    (true = false ∨ false = false ∨ (⟨1, 0, us 200, false, false, 0, []⟩ : EpochMsg).base ≠ (wRole 1 : State).red.applied) := by decide +kernel
theorem wit_standbyStale :
    ((wRole 1 : State).role = 1 ∧ (wRole 1 : State).red.appliedAt + ms 1 ≤ (ms 1 : Nat)) := by decide +kernel
theorem wit_standbyFresh :
    ((wRole 1 : State).role ≠ 1 ∨ 5 < (wRole 1 : State).red.appliedAt + ms 1) := by decide +kernel
theorem wit_imageLoad :
    (wRing.cmdReady 5 wDesc = true) ∧
    (0xFFFF < (⟨0x10000, 0x100, 10, 0, true, [5]⟩ : ImageFile).routine ∧ (⟨0x10000, 0x100, 10, 0, true, [5]⟩ : ImageFile).signed = true ∧ (⟨0x10000, 0x100, 10, 0, true, [5]⟩ : ImageFile).code.length ≤ 8192) := by decide +kernel
theorem wit_imageUnsigned :
    (wRing.cmdReady 5 wDesc = true) ∧
    (0xFFFF < (⟨0x10000, 0x100, 10, 0, false, [5]⟩ : ImageFile).routine ∧ (⟨0x10000, 0x100, 10, 0, false, [5]⟩ : ImageFile).signed = false) := by decide +kernel
theorem wit_imageLong :
    (wRing.cmdReady 5 wDesc = true) ∧
    (0xFFFF < (⟨0x10000, 0x100, 10, 0, true, List.replicate 8193 5⟩ : ImageFile).routine ∧ (⟨0x10000, 0x100, 10, 0, true, List.replicate 8193 5⟩ : ImageFile).signed = true ∧ 8192 < (⟨0x10000, 0x100, 10, 0, true, List.replicate 8193 5⟩ : ImageFile).code.length) := by refine ⟨by decide +kernel, by decide, rfl, ?_⟩; show 8192 < (List.replicate 8193 (5 : DWord)).length; rw [List.length_replicate]; decide
theorem wit_bind :
    (wBind.cmdReady 5 wDesc = true) ∧
    (5 ≤ 131071 ∧ (wBind.cx 5).state = 0 ∧ wBlock.jabi = 0x0100 ∧ wBind.blockRange wBlock (blockBytes wBlock) = none ∧ (wBind.imageOf wBlock.routine).jabi = 0x0100) ∧
    ((stdRow wBlock.routine).isSome = true → wBind.rbit Reg.PWR_BOOT_LIB_FAIL = false) ∧
    (wBlock.routine = 0x20 → wBind.apsState 5 (blockBytes wBlock) = false) ∧
    ((wBlock.qs.take wBlock.qCount).all (fun x => !wBind.queueTaken 5 x) = true) ∧
    (overClass (wBind.admitItem { state := 1, bind := { wcsc := (wBind.imageOf wBlock.routine).wcsc, divLog2 := wBlock.divLog2, tt := wBlock.tt.take wBlock.ttCount } } :: wBind.engineItems (engineOf 5) 5) = none) := by decide +kernel
theorem wit_admissionLimit : overClass [] = none := rfl
theorem wit_bindOver :
    (wBindBig.cmdReady 5 wDesc = true) ∧
    (5 ≤ 131071 ∧ wBlock.jabi = 0x0100 ∧ wBindBig.blockRange wBlock (blockBytes wBlock) = none ∧ (wBindBig.imageOf wBlock.routine).jabi = 0x0100) ∧
    ((stdRow wBlock.routine).isSome = false ∧ (wBlock.qs.take wBlock.qCount).all (fun x => !wBindBig.queueTaken 5 x) = true) ∧
    (overClass (wBindBig.admitItem { state := 1, bind := { wcsc := (wBindBig.imageOf wBlock.routine).wcsc, divLog2 := wBlock.divLog2, tt := wBlock.tt.take wBlock.ttCount } } :: wBindBig.engineItems (engineOf 5) 5) = some (⟨(wBindBig.admitItem { bind := { tt := [(0, 0)] } }).rate, 0, 10 ^ 9⟩ : AdmitItem)) := by decide +kernel
theorem wit_bindVersion :
    (wBind.cmdReady 5 wDesc = true) ∧
    (5 ≤ 131071 ∧ ({ wBlock with jabi := 0x200 } : BindBlock).jabi ≠ 0x0100) := by decide +kernel
theorem wit_bindNoLibrary :
    (({ wBind with regs := wBind.regs ++ [(Reg.PWR_BOOT_LIB_FAIL.addr, 64)] } : State).cmdReady 5 wDesc = true) ∧
    (5 ≤ 131071 ∧ wStdBlock.jabi = 0x0100 ∧ ({ wBind with regs := wBind.regs ++ [(Reg.PWR_BOOT_LIB_FAIL.addr, 64)] } : State).blockRange wStdBlock (blockBytes wStdBlock) = none ∧ (({ wBind with regs := wBind.regs ++ [(Reg.PWR_BOOT_LIB_FAIL.addr, 64)] } : State).imageOf wStdBlock.routine).jabi = 0x0100) ∧
    ((stdRow wStdBlock.routine).isSome = true ∧ ({ wBind with regs := wBind.regs ++ [(Reg.PWR_BOOT_LIB_FAIL.addr, 64)] } : State).rbit Reg.PWR_BOOT_LIB_FAIL = true) := by decide +kernel
theorem wit_bindRange :
    (wBind.cmdReady 5 wDesc = true) ∧
    (131071 < 131072) := by decide +kernel
theorem wit_unbind :
    (({ wRing with jrm := wRel.jrm } : State).cmdReady 5 wDesc = true) ∧
    (5 ≤ 131071 ∧ (({ wRing with jrm := wRel.jrm } : State).cx 5).state ≠ 0) := by decide +kernel
theorem wit_unbindFree :
    (wRing.cmdReady 5 wDesc = true) ∧
    (5 ≤ 131071 ∧ (wRing.cx 5).state = 0) := by decide +kernel
theorem wit_permitGranted :
    ((wHeld 0x0103 0 : State).cmdReady 5 wDesc = true) ∧
    (0x0101 ≤ 0x0104 ∧ 0x0104 ≤ 0x0105 ∧ 0 ≤ 127 ∧ (wHeld 0x0103 0 : State).lifType 0 ≠ 0 ∧ (0x0104 = 0x0101 ∨ (wHeld 0x0103 0 : State).lifConnected 0 = false)) ∧
    ((wHeld 0x0103 0 : State).permitClash 0x0104 0 = none ∧ (∃ n, n < 512 ∧ (wHeld 0x0103 0 : State).permitAt n = none)) := by exact ⟨by decide +kernel, by decide +kernel, by decide +kernel, ⟨1, by decide +kernel⟩⟩
theorem wit_permitKeeps :
    ((wHeld 0x0103 0 : State).cmdReady 5 wDesc = true) ∧
    (0 < 512 ∧ ((wHeld 0x0103 0 : State).permitAt 0).isSome = true ∧ (∃ m, m < 512 ∧ (wHeld 0x0103 0 : State).permitAt m = none)) := by exact ⟨by decide +kernel, ⟨by decide +kernel, by decide +kernel, 1, by decide +kernel⟩⟩
theorem wit_permitSelftest :
    (((wHeld 0x0103 0).rset (Reg.AVE_MED_STAT_STATE 33) 1 : State).cmdReady 5 wDesc = true) ∧
    (33 < 36 ∧ ((wHeld 0x0103 0).rset (Reg.AVE_MED_STAT_STATE 33) 1 : State).aveState 33 = 1 ∧ ((wHeld 0x0103 0).rset (Reg.AVE_MED_STAT_STATE 33) 1 : State).permitClash 0x0202 33 = none ∧ (∃ n, n < 512 ∧ ((wHeld 0x0103 0).rset (Reg.AVE_MED_STAT_STATE 33) 1 : State).permitAt n = none)) := by exact ⟨by decide +kernel, ⟨by decide +kernel, by decide +kernel, by decide +kernel, 1, by decide +kernel⟩⟩
theorem wit_permitBusy :
    ((wHeld 0x0201 7 : State).cmdReady 5 wDesc = true) ∧
    ((permitKind 0x0202).isSome = true ∧ 0x0202 ≠ 0x0201 ∧ 0x0202 ≠ 0x0301 ∧ 33 ≤ ((permitKind 0x0202).map PermitKind.top).getD 0) ∧
    ((wHeld 0x0201 7 : State).permitClash 0x0202 33 = some ((0x0201, 7) : Nat × Nat)) := by decide +kernel
theorem wit_permitBusy2 :
    ((wHeld 0x0105 0 : State).cmdReady 5 wDesc = true) ∧
    ((permitKind 0x0104).isSome = true ∧ 0x0104 ≠ 0x0201 ∧ 0x0104 ≠ 0x0301 ∧ 0 ≤ ((permitKind 0x0104).map PermitKind.top).getD 0) ∧
    ((wHeld 0x0105 0 : State).permitClash 0x0104 0 = some ((0x0105, 0) : Nat × Nat)) := by decide +kernel
theorem wit_clashRule : (wHeld 0x0201 7).permitClash 0x0202 33 = some (0x0201, 7) ∧ (wHeld 0x0201 7).permitClash 0x0104 0 = none := by decide +kernel
theorem wit_lineConflicts : 0x0101 ≤ 0x0103 ∧ 0x0103 ≤ 0x0105 ∧ 0x0101 ≤ 0x0105 ∧ 0x0105 ≤ 0x0105 := by decide
theorem wit_otherConflicts : 0x0112 ≤ 0x0113 ∧ 0x0113 ≤ 0x0114 := by decide
theorem wit_permitCode :
    (wRing.cmdReady 5 wDesc = true) ∧
    (permitKind 0x0301 = none ∨ 0x0301 = 0x0201 ∨ 0x0301 = 0x0301) := by decide +kernel
theorem wit_permitCode2 :
    (wRing.cmdReady 5 wDesc = true) ∧
    (permitKind 0x0106 = none ∨ 0x0106 = 0x0201 ∨ 0x0106 = 0x0301) := by decide +kernel
theorem wit_permitTarget :
    (wRing.cmdReady 5 wDesc = true) ∧
    (permitKind 0x0202 = some (.selftest : PermitKind) ∧ 0x0202 ≠ 0x0201 ∧ 0x0202 ≠ 0x0301 ∧ (.selftest : PermitKind).top < 36) := by decide +kernel
theorem wit_permitCondition :
    (wRing.cmdReady 5 wDesc = true) ∧
    (0x0101 ≤ 0x0104 ∧ 0x0104 ≤ 0x0105 ∧ 3 ≤ 127 ∧ wRing.permitClash 0x0104 3 = none) ∧
    (wRing.lifType 3 = 0 ∨ 0x0104 ≠ 0x0101 ∧ wRing.lifConnected 3 = true) := by decide +kernel
theorem wit_permitReleased :
    ((wHeld 0x0104 0 : State).cmdReady 5 wDesc = true) ∧
    ((permitKind 0x0104).isSome = true ∧ 0x0104 ≠ 0x0201 ∧ 0x0104 ≠ 0x0301 ∧ (wHeld 0x0104 0 : State).permitHeld 0x0104 0 = true) := by decide +kernel
theorem wit_permitNotHeld :
    ((wHeld 0x0104 0 : State).cmdReady 5 wDesc = true) ∧
    ((permitKind 0x0103).isSome = true ∧ 0x0103 ≠ 0x0201 ∧ 0x0103 ≠ 0x0301 ∧ (wHeld 0x0104 0 : State).permitHeld 0x0103 0 = false) := by decide +kernel
theorem wit_lbClear :
    ((wHeld 0x0302 0 : State).permitHeld 0x0302 0 = true) := by decide +kernel
theorem wit_lbClearNone :
    ((wHeld 0x0104 0 : State).permitHeld 0x0302 0 = false) := by decide +kernel
theorem wit_scrubPage :
    (wUnd.dueWork 0 (ns 1757812500) 5 = true) ∧
    (wUnd.mnt.sweep < 49152 ∧ wUnd.pcUp (pcOf wUnd.mnt.sweep) = true) := by decide +kernel
theorem wit_scrubPage2 :
    ((({ wUnd with mnt := { wUnd.mnt with sweep := 49151, last := [(0, 6)] } } : State).rsetb (Reg.UND_STACK_TRAINED 3) true : State).dueWork 0 (ns 1757812500) (ns 1757812500 + 5 : Nat) = true) ∧
    ((({ wUnd with mnt := { wUnd.mnt with sweep := 49151, last := [(0, 6)] } } : State).rsetb (Reg.UND_STACK_TRAINED 3) true : State).mnt.sweep < 49152 ∧ (({ wUnd with mnt := { wUnd.mnt with sweep := 49151, last := [(0, 6)] } } : State).rsetb (Reg.UND_STACK_TRAINED 3) true : State).pcUp (pcOf (({ wUnd with mnt := { wUnd.mnt with sweep := 49151, last := [(0, 6)] } } : State).rsetb (Reg.UND_STACK_TRAINED 3) true : State).mnt.sweep) = true) := by decide +kernel
theorem wit_scrubSkips :
    (({ wUnd.setWord (Reg.UND_PC_FAIL 0) 1 with mnt := { wUnd.mnt with sweep := 383 } } : State).dueWork 0 (ns 1757812500) 5 = true) ∧
    (({ wUnd.setWord (Reg.UND_PC_FAIL 0) 1 with mnt := { wUnd.mnt with sweep := 383 } } : State).mnt.sweep + 1 < 49152 ∧ ({ wUnd.setWord (Reg.UND_PC_FAIL 0) 1 with mnt := { wUnd.mnt with sweep := 383 } } : State).pcUp (pcOf ({ wUnd.setWord (Reg.UND_PC_FAIL 0) 1 with mnt := { wUnd.mnt with sweep := 383 } } : State).mnt.sweep) = false ∧ ({ wUnd.setWord (Reg.UND_PC_FAIL 0) 1 with mnt := { wUnd.mnt with sweep := 383 } } : State).pcUp (pcOf (({ wUnd.setWord (Reg.UND_PC_FAIL 0) 1 with mnt := { wUnd.mnt with sweep := 383 } } : State).mnt.sweep + 1)) = true) := by decide +kernel
theorem wit_scrubFinds :
    (wUnd.dueWork 0 (ns 1757812500) 5 = true) ∧
    (wUnd.mnt.sweep < 49152 ∧ wUnd.pcUp (pcOf wUnd.mnt.sweep) = true ∧ wUnd.burstOk wUnd.mnt.sweep 3 2 = true ∧ (wUnd.page wUnd.mnt.sweep).unreadable 3 = false) ∧
    (1 ≤ 2 ∧ 2 ≤ 3) := by decide +kernel
theorem wit_scrubPoison :
    (({ wUnd.setPage 5 { poison := [7] } with mnt := { wUnd.mnt with sweep := 5 } } : State).dueWork 0 (ns 1757812500) 5 = true) ∧
    (({ wUnd.setPage 5 { poison := [7] } with mnt := { wUnd.mnt with sweep := 5 } } : State).mnt.sweep < 49152 ∧ ({ wUnd.setPage 5 { poison := [7] } with mnt := { wUnd.mnt with sweep := 5 } } : State).pcUp (pcOf ({ wUnd.setPage 5 { poison := [7] } with mnt := { wUnd.mnt with sweep := 5 } } : State).mnt.sweep) = true ∧ ({ wUnd.setPage 5 { poison := [7] } with mnt := { wUnd.mnt with sweep := 5 } } : State).burstOk ({ wUnd.setPage 5 { poison := [7] } with mnt := { wUnd.mnt with sweep := 5 } } : State).mnt.sweep 7 0 = true ∧ (({ wUnd.setPage 5 { poison := [7] } with mnt := { wUnd.mnt with sweep := 5 } } : State).page ({ wUnd.setPage 5 { poison := [7] } with mnt := { wUnd.mnt with sweep := 5 } } : State).mnt.sweep).poison = [7]) := by decide +kernel
theorem wit_workEarly : State.dueWork { State.reset with mnt := { State.reset.mnt with last := [(0, 6), (1, 6), (3, 6)] } } 0 (ns 1757812500) 7 = false := by decide +kernel
theorem wit_sramOther :
    (wUnd.dueWork 1 (sec 1) 5 = true) := by decide +kernel
theorem wit_mapScrub :
    (wUnd.dueWork 2 (sec 1) 5 = true) := by decide +kernel
theorem wit_sramHalf :
    ((wRot 0 : State).dueWork 1 (sec 1) 5 = true) ∧
    (33 < 36 ∧ 1 < 2 ∧ (wRot 0 : State).fenceable 33 = true) := by decide +kernel
theorem wit_sramPlaza :
    ((wRole 2 : State).dueWork 1 (sec 1) 5 = true) ∧
    ((wRole 2 : State).role ≠ 4) := by decide +kernel
theorem wit_thermal :
    (wUnd.dueWork 3 (ms 1) 5 = true) ∧
    (((List.replicate 63 (-40) ++ [400]) : List Int).length = 64 ∧ ((List.replicate 63 (-40) ++ [400]) : List Int).all (fun v => decide (-2048 ≤ v ∧ v ≤ 2047)) = true) := by decide +kernel
theorem wit_thermal2 :
    (wUnd.dueWork 3 (ms 1) 5 = true) ∧
    ((List.replicate 64 399 : List Int).length = 64 ∧ (List.replicate 64 399 : List Int).all (fun v => decide (-2048 ≤ v ∧ v ≤ 2047)) = true) := by decide +kernel
theorem wit_thermalLog :
    (({ State.reset with regs := [(Reg.MNT_TEMP_CFG, 100)] } : State).dueWork 3 (ms 1) 5 = true) ∧
    (9 < 64 ∧ (4 : Int) * (({ State.reset with regs := [(Reg.MNT_TEMP_CFG, 100)] } : State).rget Reg.MNT_TEMP_CFG_TEMP_WARN : Int) ≤ ((400) : Int) ∧ ((400) : Int) ≤ 2047 ∧ 0 < ({ State.reset with regs := [(Reg.MNT_TEMP_CFG, 100)] } : State).rget Reg.MNT_TEMP_CFG_TEMP_WARN ∧ ({ State.reset with regs := [(Reg.MNT_TEMP_CFG, 100)] } : State).rbit Reg.MNT_LIVE_TEMP_WARN = false) := by decide +kernel
theorem wit_thermalSlew :
    (({ State.reset with regs := [(Reg.MNT_TEMP_CFG, 100)], mnt := { State.reset.mnt with temps := [(9, [(5, 40)])], last := [(3, 6)] } } : State).dueWork 3 (ms 1) (ms 10 : Nat) = true) ∧
    (9 < 64 ∧ (5, ((40) : Int)) ∈ tget (fun _ => []) ({ State.reset with regs := [(Reg.MNT_TEMP_CFG, 100)], mnt := { State.reset.mnt with temps := [(9, [(5, 40)])], last := [(3, 6)] } } : State).mnt.temps 9 ∧ 5 ≤ (ms 10 : Nat) ∧ (ms 10 : Nat) < 5 + ms 10 ∧ 4 < (((40) : Int) - ((45) : Int)).natAbs ∧ -2048 ≤ ((45) : Int) ∧ ((45) : Int) ≤ 2047) ∧
    ((List.range 9).all (fun j => (tget (fun _ => []) ({ State.reset with regs := [(Reg.MNT_TEMP_CFG, 100)], mnt := { State.reset.mnt with temps := [(9, [(5, 40)])], last := [(3, 6)] } } : State).mnt.temps j).all fun p => decide ((p.2 - 0).natAbs ≤ 4)) = true ∧ ({ State.reset with regs := [(Reg.MNT_TEMP_CFG, 100)], mnt := { State.reset.mnt with temps := [(9, [(5, 40)])], last := [(3, 6)] } } : State).rbit Reg.MNT_LIVE_TEMP_SLEW = false) := by decide +kernel
theorem wit_thermalSteady :
    (({ State.reset with regs := [(Reg.MNT_TEMP_CFG, 100)], mnt := { State.reset.mnt with temps := [(9, [(5, 40), (4, 90)])] } } : State).dueWork 3 (ms 1) ((ms 10 + 4) : Nat) = true) ∧
    ((List.range 64).all (fun k => (tget (fun _ => []) ({ State.reset with regs := [(Reg.MNT_TEMP_CFG, 100)], mnt := { State.reset.mnt with temps := [(9, [(5, 40), (4, 90)])] } } : State).mnt.temps k).all fun p => decide (p.1 + ms 10 ≤ ((ms 10 + 4) : Nat) ∨ (p.2 - ((44) : Int)).natAbs ≤ 4)) = true) := by decide +kernel
theorem wit_snapshotTaken :
    ((sec 60 : Nat) % sec 60 = 0 ∧ (wHeld 0x0104 0 : State).permitHeld 0x0302 0 = false ∧ (wHeld 0x0104 0 : State).permitHeld 0x0301 0 = false ∧ 80 ≤ 100 ∧ ((wHeld 0x0104 0 : State).permitAt 511) = none) := by decide +kernel
theorem wit_snapshotTaken2 :
    ((sec 60 : Nat) % sec 60 = 0 ∧ ({ wHeld 0x0104 0 with mnt := { (wHeld 0x0104 0).mnt with snap0 := some (wRing.snapshot 9) } } : State).permitHeld 0x0302 0 = false ∧ ({ wHeld 0x0104 0 with mnt := { (wHeld 0x0104 0).mnt with snap0 := some (wRing.snapshot 9) } } : State).permitHeld 0x0301 0 = false ∧ 3 ≤ 100 ∧ (({ wHeld 0x0104 0 with mnt := { (wHeld 0x0104 0).mnt with snap0 := some (wRing.snapshot 9) } } : State).permitAt 511) = none) := by decide +kernel
theorem wit_snapshotFails :
    ((sec 60 : Nat) % sec 60 = 0 ∧ (true = false ∨ (wHeld 0x0302 0 : State).permitHeld 0x0302 0 = true)) := by decide +kernel
theorem wit_snapshotWear :
    ((sec 60 : Nat) % sec 60 = 0 ∧ 80 ≤ 120 ∧ (wHeld 0x0302 0 : State).rbit Reg.MNT_LIVE_LB_WEAR = false) := by decide +kernel
theorem wit_snapshotElsewhere :
    ((sec 61 : Nat) % sec 60 ≠ 0) := by decide +kernel
theorem wit_rotation :
    ((wRot (sec 20000) : State).rbit Reg.MNT_CFG_ROT_EN = true ∧ (sec 10800 : Nat) % sec 1 = 0 ∧ secOf (sec 10800 : Nat) % 86400 = min 86399 ((wRot (sec 20000) : State).rget Reg.MNT_CFG_ROT_SEC)) ∧
    ((wRot (sec 20000) : State).longestSlot = some 7 ∧ (wRot (sec 20000) : State).rotDefers (sec 10800 : Nat) 7 = false ∧ (wRot (sec 20000) : State).pickSpare = some 33 ∧ ((wRot (sec 20000) : State).permitAt 511) = none) := by decide +kernel
theorem wit_rotationChoice : (wRot 0).longestSlot = some 7 ∧ (wRot 0).pickSpare = some 33 := by decide +kernel
theorem wit_rotationDeferred :
    ((wRot 5 : State).rbit Reg.MNT_CFG_ROT_EN = true ∧ (sec 10800 : Nat) % sec 1 = 0 ∧ secOf (sec 10800 : Nat) % 86400 = min 86399 ((wRot 5 : State).rget Reg.MNT_CFG_ROT_SEC) ∧ (wRot 5 : State).longestSlot = some 7) ∧
    (((List.range 36).filter fun a => (wRot 5 : State).aveState a = 1).length < 2 ∨ ((wRot 5 : State).permitClash 0x0201 7).isSome = true ∨ (wRot 5 : State).ave.exh ≠ [] ∨ (wRot 5 : State).leaseAt (sec 10800 : Nat) = false) := by decide +kernel
theorem wit_rotationOff :
    ((wRot 5 : State).rbit Reg.MNT_CFG_ROT_EN = false ∨ (sec 10801 : Nat) % sec 1 ≠ 0 ∨ secOf (sec 10801 : Nat) % 86400 ≠ min 86399 ((wRot 5 : State).rget Reg.MNT_CFG_ROT_SEC)) := by decide +kernel
theorem wit_rotationRetried :
    (({ wRot (sec 20000) with mnt := { (wRot 0).mnt with retry := some (sec 14400), rotUntil := sec 97200 } } : State).rbit Reg.MNT_CFG_ROT_EN = true ∧ ({ wRot (sec 20000) with mnt := { (wRot 0).mnt with retry := some (sec 14400), rotUntil := sec 97200 } } : State).mnt.retry = some (sec 14400 : Nat) ∧ (sec 14400 : Nat) ≤ (sec 14400 : Nat) ∧ (sec 14400 : Nat) < ({ wRot (sec 20000) with mnt := { (wRot 0).mnt with retry := some (sec 14400), rotUntil := sec 97200 } } : State).mnt.rotUntil) ∧
    (({ wRot (sec 20000) with mnt := { (wRot 0).mnt with retry := some (sec 14400), rotUntil := sec 97200 } } : State).longestSlot = some 7 ∧ ({ wRot (sec 20000) with mnt := { (wRot 0).mnt with retry := some (sec 14400), rotUntil := sec 97200 } } : State).rotDefers (sec 14400 : Nat) 7 = false ∧ ({ wRot (sec 20000) with mnt := { (wRot 0).mnt with retry := some (sec 14400), rotUntil := sec 97200 } } : State).pickSpare = some 33 ∧ (({ wRot (sec 20000) with mnt := { (wRot 0).mnt with retry := some (sec 14400), rotUntil := sec 97200 } } : State).permitAt 511) = none) := by decide +kernel
theorem wit_rotationNoRetry :
    ((wRot 5 : State).mnt.retry = none) := by decide +kernel
theorem wit_telemetryCfg :
    ((wQ { wQh with mode := 2, producer := 2 } : State).cmdReady 5 wDesc = true) ∧
    (0x83 ≤ 255 ∧ 1 ≤ 5 ∧ 5 ≤ 60000 ∧ 16 ≤ 4095 ∧ ((wQ { wQh with mode := 2, producer := 2 } : State).q 16).mode = 2 ∧ ((wQ { wQh with mode := 2, producer := 2 } : State).q 16).producer = 2) := by decide +kernel
theorem wit_telemetryRefused :
    ((wQ wQh : State).cmdReady 5 wDesc = true) ∧
    (0x83 ≤ 255 ∧ 1 ≤ 5 ∧ 5 ≤ 60000 ∧ (((wQ wQh : State).q 16).mode ≠ 2 ∨ ((wQ wQh : State).q 16).producer ≠ 2)) := by decide +kernel
theorem wit_telemetryPacket :
    ((wTele 0x80 { wQh with mode := 2, producer := 2 } : State).mnt.tele.cadence ≠ 0 ∧ (ms 10 : Nat) % ms (wTele 0x80 { wQh with mode := 2, producer := 2 } : State).mnt.tele.cadence = 0) ∧
    (((wTele 0x80 { wQh with mode := 2, producer := 2 } : State).q (wTele 0x80 { wQh with mode := 2, producer := 2 } : State).mnt.tele.queue).mode = 2 ∧ ((wTele 0x80 { wQh with mode := 2, producer := 2 } : State).q (wTele 0x80 { wQh with mode := 2, producer := 2 } : State).mnt.tele.queue).spillFull = false ∧ ((wTele 0x80 { wQh with mode := 2, producer := 2 } : State).q (wTele 0x80 { wQh with mode := 2, producer := 2 } : State).mnt.tele.queue).group < 256) ∧
    (((wTele 0x80 { wQh with mode := 2, producer := 2 } : State).q (wTele 0x80 { wQh with mode := 2, producer := 2 } : State).mnt.tele.queue).depth + (teleWords ((wTele 0x80 { wQh with mode := 2, producer := 2 } : State).telePacket (ms 10 : Nat))).length < ((wTele 0x80 { wQh with mode := 2, producer := 2 } : State).q (wTele 0x80 { wQh with mode := 2, producer := 2 } : State).mnt.tele.queue).cap) ∧
    (((wTele 0x80 { wQh with mode := 2, producer := 2 } : State).que.waits.all fun w => w.queue != (wTele 0x80 { wQh with mode := 2, producer := 2 } : State).mnt.tele.queue) = true) := by decide +kernel
theorem wit_telemetryHeader : (wTele 0x80 wQh).telePacket (ms 10) ≠ [] := by decide +kernel
theorem wit_telemetryDropped :
    ((wTele 0x80 { wQh with mode := 2, producer := 2, items := List.replicate 63 wItem } : State).mnt.tele.cadence ≠ 0 ∧ (ms 10 : Nat) % ms (wTele 0x80 { wQh with mode := 2, producer := 2, items := List.replicate 63 wItem } : State).mnt.tele.cadence = 0) ∧
    (((wTele 0x80 { wQh with mode := 2, producer := 2, items := List.replicate 63 wItem } : State).q (wTele 0x80 { wQh with mode := 2, producer := 2, items := List.replicate 63 wItem } : State).mnt.tele.queue).mode = 2 ∧ ((wTele 0x80 { wQh with mode := 2, producer := 2, items := List.replicate 63 wItem } : State).q (wTele 0x80 { wQh with mode := 2, producer := 2, items := List.replicate 63 wItem } : State).mnt.tele.queue).full = true ∧ ((wTele 0x80 { wQh with mode := 2, producer := 2, items := List.replicate 63 wItem } : State).q (wTele 0x80 { wQh with mode := 2, producer := 2, items := List.replicate 63 wItem } : State).mnt.tele.queue).group < 256) := by decide +kernel
theorem wit_telemetryOff :
    ((wTele 0x80 wQh : State).mnt.tele.cadence = 0 ∨ (ms 11 : Nat) % ms (wTele 0x80 wQh : State).mnt.tele.cadence ≠ 0) := by decide +kernel
theorem wit_thermalTrip :
    (tget (fun _ => 0) ({ wHeld 0x0104 0 with mnt := { State.reset.mnt with hot := [(9, 5)] } } : State).mnt.hot 9 ≠ 0 ∧ tget (fun _ => 0) ({ wHeld 0x0104 0 with mnt := { State.reset.mnt with hot := [(9, 5)] } } : State).mnt.hot 9 + ms 1 ≤ (ms 2 : Nat)) := by decide +kernel
theorem wit_thermalNoTrip :
    (tget (fun _ => 0) ({ wHeld 0x0104 0 with mnt := { State.reset.mnt with hot := [(9, 5)] } } : State).mnt.hot 9 = 0 ∨ (ms 1 : Nat) < tget (fun _ => 0) ({ wHeld 0x0104 0 with mnt := { State.reset.mnt with hot := [(9, 5)] } } : State).mnt.hot 9 + ms 1) := by decide +kernel
theorem wit_porRelease :
    (({ State.reset with regs := [(Reg.PWR_BOOT, 0)] } : State).pwr.held = true) := by decide +kernel
theorem wit_porReleaseAgain :
    ((wOn 5 true : State).pwr.held = false) := by decide +kernel
theorem wit_domainFault :
    (98 < 99 ∧ (wOn 5 false : State).rget (Reg.PWR_DOM_STATE 98) ≠ 0) := by decide +kernel
theorem wit_domainFault2 :
    (90 < 99 ∧ (wOn 5 false : State).rget (Reg.PWR_DOM_STATE 90) ≠ 0) := by decide +kernel
theorem wit_domainFaultAvenue :
    (67 < 72 ∧ ((wRot 0).rset (Reg.PWR_DOM_STATE 67) 2 : State).rget (Reg.PWR_DOM_STATE 67) ≠ 0 ∧ ((wRot 0).rset (Reg.PWR_DOM_STATE 67) 2 : State).fenceable (67 / 2) = true ∧ (((wRot 0).rset (Reg.PWR_DOM_STATE 67) 2 : State).domFaults 5 67).length < 2) := by decide +kernel
theorem wit_domainFaultLine :
    (72 ≤ 73 ∧ 73 < 80 ∧ ((State.reset.rset (Reg.PWR_DOM_STATE 73) 2).rsetb (Reg.LIN_LANE_STAT_CDR_LOCK 20) true : State).rget (Reg.PWR_DOM_STATE 73) ≠ 0 ∧ 20 / 16 = 73 - 72) := by decide +kernel
theorem wit_domainFaultStack :
    (91 ≤ 92 ∧ 92 < 95 ∧ (wOn 5 false : State).rget (Reg.PWR_DOM_STATE 92) ≠ 0 ∧ (wOn 5 false : State).role ≠ 4) := by decide +kernel
theorem wit_domainFaultHolder :
    (95 ≤ 95 ∧ 95 < 97 ∧ (wRun (ms 10) none : State).rget (Reg.PWR_DOM_STATE 95) ≠ 0 ∧ (wRun (ms 10) none : State).leaseAt 5 = true) := by decide +kernel
theorem wit_domainFaultHolder2 :
    (95 ≤ 96 ∧ 96 < 97 ∧ (wRun (ms 10) none : State).rget (Reg.PWR_DOM_STATE 96) ≠ 0 ∧ (wRun (ms 10) none : State).leaseAt 5 = true) := by decide +kernel
theorem wit_domainFaultPorts :
    ((wOap 2 {} : State).rget (Reg.PWR_DOM_STATE 97) ≠ 0 ∧ 2 < 8 ∧ (wOap 2 {} : State).rbit (Reg.OAP_CFG_EN 2) = true) := by decide +kernel
theorem wit_domainFaultThird :
    (67 < 99 ∧ ({ wOn 5 false with pwr := { (wOn 5 false).pwr with faults := [(67, [5, 9])] } } : State).rget (Reg.PWR_DOM_STATE 67) ≠ 0 ∧ 2 ≤ (({ wOn 5 false with pwr := { (wOn 5 false).pwr with faults := [(67, [5, 9])] } } : State).domFaults (sec 86399 : Nat) 67).length) := by decide +kernel
theorem wit_domainFaultOff :
    (99 ≤ 67 ∨ (State.reset : State).rget (Reg.PWR_DOM_STATE 67) = 0) := by decide +kernel
theorem wit_domainReturn :
    (98 < 91 ∨ 95 ≤ 98 ∧ 98 < 99) ∧
    (({ State.reset.rsetb (Reg.CVU_CFG_EN 4) true with pwr := { State.reset.pwr with faults := [(98, [3])] } } : State).rget (Reg.PWR_DOM_STATE 98) = 0 ∧ ({ State.reset.rsetb (Reg.CVU_CFG_EN 4) true with pwr := { State.reset.pwr with faults := [(98, [3])] } } : State).rbit (Reg.PWR_DOM_RETIRED 98) = false ∧ tget (fun _ => []) ({ State.reset.rsetb (Reg.CVU_CFG_EN 4) true with pwr := { State.reset.pwr with faults := [(98, [3])] } } : State).pwr.faults 98 ≠ []) := by decide +kernel
theorem wit_domainStaysOff :
    (91 ≤ 92 ∧ 92 < 95 ∨ ({ State.reset with pwr := { State.reset.pwr with faults := [(92, [3])] } } : State).rbit (Reg.PWR_DOM_RETIRED 92) = true) := by decide +kernel
theorem wit_stageFirst :
    ((wOn 0 false : State).pwr.held = false ∧ (wOn 0 false : State).rbit Reg.PWR_BOOT_BOOT_FAIL = false ∧ (wOn 0 false : State).rget Reg.PWR_BOOT_STAGE = 0 ∧ ((ms 3 : Nat) - (wOn 0 false : State).pwr.began) / ms 1 < 65536) := by decide +kernel
theorem wit_stageOrder :
    ((wOn 2 false : State).pwr.held = true ∨ (wOn 2 false : State).rbit Reg.PWR_BOOT_BOOT_FAIL = true ∨ 2 ≠ (wOn 2 false : State).rget Reg.PWR_BOOT_STAGE + 1) := by decide +kernel
theorem wit_stageKiosk :
    ((wOn 1 false : State).pwr.held = false ∧ (wOn 1 false : State).rbit Reg.PWR_BOOT_BOOT_FAIL = false ∧ (wOn 1 false : State).rget Reg.PWR_BOOT_STAGE = 1) ∧
    ((if ({ wFind with rejA := some 2 } : StageFind).active = true then ({ wFind with rejA := some 2 } : StageFind).rejB else ({ wFind with rejA := some 2 } : StageFind).rejA) = none ∨ (if ({ wFind with rejA := some 2 } : StageFind).active = true then ({ wFind with rejA := some 2 } : StageFind).rejA else ({ wFind with rejA := some 2 } : StageFind).rejB) = none) ∧
    ((wOn 1 false : State).red.kPrev = none ∧ (wOn 1 false : State).rbit Reg.KSK_LEASE_VALID = false ∧ (wOn 1 false : State).grantable 0 = true) := by decide +kernel
theorem wit_stageKiosk2 :
    ((wOn 1 false : State).pwr.held = false ∧ (wOn 1 false : State).rbit Reg.PWR_BOOT_BOOT_FAIL = false ∧ (wOn 1 false : State).rget Reg.PWR_BOOT_STAGE = 1) ∧
    ((if wFind.active = true then wFind.rejB else wFind.rejA) = none ∨ (if wFind.active = true then wFind.rejA else wFind.rejB) = none) ∧
    ((wOn 1 false : State).red.kPrev = none ∧ (wOn 1 false : State).rbit Reg.KSK_LEASE_VALID = false ∧ (wOn 1 false : State).grantable 0 = true) := by decide +kernel
theorem wit_stageBootFail :
    ((wOn 1 false : State).pwr.held = false ∧ (wOn 1 false : State).rbit Reg.PWR_BOOT_BOOT_FAIL = false ∧ (wOn 1 false : State).rget Reg.PWR_BOOT_STAGE = 1 ∧ ({ wFind with rejA := some 2, rejB := some 0 } : StageFind).rejA = some 2 ∧ ({ wFind with rejA := some 2, rejB := some 0 } : StageFind).rejB = some 0) := by decide +kernel
theorem wit_stageStacks :
    ((wOn 2 false : State).pwr.held = false ∧ (wOn 2 false : State).rbit Reg.PWR_BOOT_BOOT_FAIL = false ∧ (wOn 2 false : State).rget Reg.PWR_BOOT_STAGE = 2 ∧ 3 < 4 ∧ (wOn 2 false : State).rbit Reg.PWR_BOOT_LIB_FAIL = false) := by decide +kernel
theorem wit_stageSlots :
    ((wOn 3 false : State).pwr.held = false ∧ (wOn 3 false : State).rbit Reg.PWR_BOOT_BOOT_FAIL = false ∧ (wOn 3 false : State).rget Reg.PWR_BOOT_STAGE = 3) ∧
    ((List.range 72).all (fun d => !(wOn 3 false : State).rbit (Reg.PWR_DOM_RETIRED d)) = true ∧ (wOn 3 false : State).ave = State.reset.ave ∧ (wOn 3 false : State).jrm.ctx = [] ∧ (wOn 3 false : State).plz.conn = [] ∧
      (List.range 36).all (fun a => (wOn 3 false : State).aveState a != 4) = true) ∧
    (32 ≤ ((List.range 36).filter fun a => !(({ wFind with halves := [10, 67] } : StageFind).halves.contains (2 * a) || ({ wFind with halves := [10, 67] } : StageFind).halves.contains (2 * a + 1))).length) := by decide +kernel
theorem wit_stageService :
    (((wOn 4 false).rsetb Reg.KSK_LEASE_VALID true : State).pwr.held = false ∧ ((wOn 4 false).rsetb Reg.KSK_LEASE_VALID true : State).rbit Reg.PWR_BOOT_BOOT_FAIL = false ∧ ((wOn 4 false).rsetb Reg.KSK_LEASE_VALID true : State).rget Reg.PWR_BOOT_STAGE = 4 ∧ ((wOn 4 false).rsetb Reg.KSK_LEASE_VALID true : State).pwr.strap = false ∧ ((wOn 4 false).rsetb Reg.KSK_LEASE_VALID true : State).role = 0) := by decide +kernel
theorem wit_stageService2 :
    (({ wOn 4 false with red := { State.reset.red with pairNext := true } } : State).pwr.held = false ∧ ({ wOn 4 false with red := { State.reset.red with pairNext := true } } : State).rbit Reg.PWR_BOOT_BOOT_FAIL = false ∧ ({ wOn 4 false with red := { State.reset.red with pairNext := true } } : State).rget Reg.PWR_BOOT_STAGE = 4 ∧ ({ wOn 4 false with red := { State.reset.red with pairNext := true } } : State).pwr.strap = false ∧ ({ wOn 4 false with red := { State.reset.red with pairNext := true } } : State).role = 0) := by decide +kernel
theorem wit_stageSkipped :
    ((wOn 4 true : State).pwr.held = false ∧ (wOn 4 true : State).rbit Reg.PWR_BOOT_BOOT_FAIL = false ∧ (wOn 4 true : State).rget Reg.PWR_BOOT_STAGE = 4 ∧ (wOn 4 true : State).pwr.strap = true) ∧
    ((wOn 4 true : State).usableSnap wFind = none ∨ (∃ n, (wOn 4 true : State).usableSnap wFind = some n ∧ (n.hcp ≠ (wOn 4 true : State).red.hcpRange / 2 ^ 24 ∨ n.jabi ≠ (wOn 4 true : State).red.jabiRange / 2 ^ 24))) := by exact ⟨by decide +kernel, .inl (by decide +kernel)⟩
theorem wit_stageRestored :
    (({ wOn 4 true with mnt := { State.reset.mnt with snap0 := some ({ wBind with red := { wBind.red with pairNext := true } }.snapshot (sec 60)) } } : State).pwr.held = false ∧ ({ wOn 4 true with mnt := { State.reset.mnt with snap0 := some ({ wBind with red := { wBind.red with pairNext := true } }.snapshot (sec 60)) } } : State).rbit Reg.PWR_BOOT_BOOT_FAIL = false ∧ ({ wOn 4 true with mnt := { State.reset.mnt with snap0 := some ({ wBind with red := { wBind.red with pairNext := true } }.snapshot (sec 60)) } } : State).rget Reg.PWR_BOOT_STAGE = 4 ∧ ({ wOn 4 true with mnt := { State.reset.mnt with snap0 := some ({ wBind with red := { wBind.red with pairNext := true } }.snapshot (sec 60)) } } : State).pwr.strap = true) ∧
    (({ wOn 4 true with mnt := { State.reset.mnt with snap0 := some ({ wBind with red := { wBind.red with pairNext := true } }.snapshot (sec 60)) } } : State).usableSnap wFind = some (({ wBind with red := { wBind.red with pairNext := true } }.snapshot (sec 60)) : SnapH) ∧ (({ wBind with red := { wBind.red with pairNext := true } }.snapshot (sec 60)) : SnapH).hcp = ({ wOn 4 true with mnt := { State.reset.mnt with snap0 := some ({ wBind with red := { wBind.red with pairNext := true } }.snapshot (sec 60)) } } : State).red.hcpRange / 2 ^ 24 ∧ (({ wBind with red := { wBind.red with pairNext := true } }.snapshot (sec 60)) : SnapH).jabi = ({ wOn 4 true with mnt := { State.reset.mnt with snap0 := some ({ wBind with red := { wBind.red with pairNext := true } }.snapshot (sec 60)) } } : State).red.jabiRange / 2 ^ 24) := by decide +kernel
theorem wit_newestCopy : wFind.seal0 = true ∧ wFind.seal1 = true := by decide
theorem wit_resetCmd :
    (wRing.cmdReady 5 wDesc = true) ∧
    (0x13 = 2 ∨ 0x10 ≤ 0x13 ∧ 0x13 ≤ 0x13 ∨ 0x13 = 1 ∧ wRing.role ≠ 2 ∧ wRing.role ≠ 3) := by decide +kernel
theorem wit_resetGivesUp :
    (({ wRing.rset Reg.KSK_PAIR_STAT_ROLE 2 with red := { wRing.red with fenceOut := false, mlp := some 0x100 } } : State).cmdReady 5 wDesc = true) ∧
    (({ wRing.rset Reg.KSK_PAIR_STAT_ROLE 2 with red := { wRing.red with fenceOut := false, mlp := some 0x100 } } : State).role = 2 ∨ ({ wRing.rset Reg.KSK_PAIR_STAT_ROLE 2 with red := { wRing.red with fenceOut := false, mlp := some 0x100 } } : State).role = 3) := by decide +kernel
theorem wit_resetCode :
    (wRing.cmdReady 5 wDesc = true) ∧
    (resetCodes.contains 0x14 = false) := by decide +kernel
theorem wit_resetFull :
    ((wRun (ms 10) (some (1, us 100)) : State).hcq.reset = some (1, (us 100 : Nat)) ∧ (us 100 : Nat) ≤ (us 100 : Nat)) := by decide +kernel
theorem wit_resetHandover :
    ((wRun (ms 10) (some (2, us 100)) : State).hcq.reset = some (2, (us 100 : Nat)) ∧ (us 100 : Nat) ≤ (us 100 : Nat) ∧ (wRun (ms 10) (some (2, us 100)) : State).leaseAt (us 100 : Nat) = true) := by decide +kernel
theorem wit_resetStack :
    (1 < 4 ∧ (wRun (ms 10) (some (17, us 100)) : State).hcq.reset = some (16 + 1, (us 100 : Nat)) ∧ (us 100 : Nat) ≤ (us 100 : Nat)) := by decide +kernel
theorem wit_resetNone :
    ((wRun (ms 10) (some (17, us 100)) : State).hcq.reset.all (fun r => decide ((us 99 : Nat) < r.2)) = true) := by decide +kernel
theorem wit_stackRetrained :
    (1 < 4 ∧ ({ wRun (ms 10) none with pwr := { State.reset.pwr with retrain := [2, 1] } } : State).pwr.retrain.contains 1 = true) := by decide +kernel
theorem wit_stackNotRetraining :
    ((wRun (ms 10) none : State).pwr.retrain.contains 1 = false) := by decide +kernel
theorem wit_pinTransition :
    (5 < 58 ∧ (wPin 5 { seen := true } false true false : State).pwr.held = false ∧ (wPin 5 { seen := true } false true false : State).pinLevel 5 = !true ∧ ((wPin 5 { seen := true } false true false : State).pin 5).seen = true) := by decide +kernel
theorem wit_pinTransition2 :
    (57 < 58 ∧ (wPin 57 { seen := true } true true false : State).pwr.held = false ∧ (wPin 57 { seen := true } true true false : State).pinLevel 57 = !false ∧ ((wPin 57 { seen := true } true true false : State).pin 57).seen = true) := by decide +kernel
theorem wit_pinFirst :
    (5 < 58 ∧ (wPin 5 {} false false false : State).pwr.held = false ∧ ((wPin 5 {} false false false : State).pin 5).seen = false ∧ (wPin 5 {} false false false : State).rbit (pinBit Reg.PWR_IN_CHATTER 5) = false ∧ (wPin 5 {} false false false : State).rbit (pinBit Reg.PWR_IN_STUCK 5) = false) ∧
    ((wPin 5 {} false false false : State).pinLevel 5 = false) := by decide +kernel
theorem wit_pinSame :
    (((wPin 5 { seen := true } true false true : State).pin 5).seen = true ∧ (wPin 5 { seen := true } true false true : State).pinLevel 5 = true) := by decide +kernel
theorem wit_pinSafeRule : (wPin 5 {} false false false).pinSafe 5 = true := by decide +kernel
theorem wit_pinSettings : (State.reset.conditioning 53) = ⟨3, 4, us 1280, us 102400, some (ms 16, some true)⟩ := by decide +kernel
theorem wit_pinStuck :
    (53 < 58 ∧ ((wPin 53 { seen := true } true false false : State).pin 53).seen = true ∧ (wPin 53 { seen := true } true false false : State).rbit (pinBit Reg.PWR_IN_STUCK 53) = false ∧ ((wPin 53 { seen := true } true false false : State).conditioning 53).stuck = some ((ms 16 : Nat), ((some true) : Option Bool))) ∧
    (((wPin 53 { seen := true } true false false : State).pin 53).since + (ms 16 : Nat) ≤ (ms 16 : Nat) ∧ (((some true) : Option Bool) = none ∨ ((some true) : Option Bool) = some ((wPin 53 { seen := true } true false false : State).pinLevel 53))) := by decide +kernel
theorem wit_pinStuck2 :
    (57 < 58 ∧ ((wPin 57 { seen := true } false false false : State).pin 57).seen = true ∧ (wPin 57 { seen := true } false false false : State).rbit (pinBit Reg.PWR_IN_STUCK 57) = false ∧ ((wPin 57 { seen := true } false false false : State).conditioning 57).stuck = some ((us 60 : Nat), ((none) : Option Bool))) ∧
    (((wPin 57 { seen := true } false false false : State).pin 57).since + (us 60 : Nat) ≤ (us 60 : Nat) ∧ (((none) : Option Bool) = none ∨ ((none) : Option Bool) = some ((wPin 57 { seen := true } false false false : State).pinLevel 57))) := by decide +kernel
theorem wit_pinNotStuck :
    (((wPin 53 { seen := true } false false false : State).conditioning 53).stuck.all (fun x => decide ((sec 16 : Nat) < ((wPin 53 { seen := true } false false false : State).pin 53).since + x.1 ∨ x.2 = some (!(wPin 53 { seen := true } false false false : State).pinLevel 53))) = true) := by decide +kernel
theorem wit_pinNotStuck2 :
    (((wPin 5 { seen := true } true false false : State).conditioning 5).stuck.all (fun x => decide ((sec 16 : Nat) < ((wPin 5 { seen := true } true false false : State).pin 5).since + x.1 ∨ x.2 = some (!(wPin 5 { seen := true } true false false : State).pinLevel 5))) = true) := by decide +kernel
theorem wit_chatterEnds :
    (33 < 58 ∧ (wPin 33 { seen := true } true false true : State).rbit (pinBit Reg.PWR_IN_CHATTER 33) = true ∧ ((wPin 33 { seen := true } true false true : State).pin 33).since + ((wPin 33 { seen := true } true false true : State).conditioning 33).quiet ≤ (us 800 : Nat)) := by decide +kernel
theorem wit_chatterGoesOn :
    (33 < 58 ∧ ((us 800 - 1) : Nat) < ((wPin 33 { seen := true } true false true : State).pin 33).since + ((wPin 33 { seen := true } true false true : State).conditioning 33).quiet) := by decide +kernel
theorem wit_pinCfg :
    ((wPin 5 { seen := true, trans := [5, 3] } true false true : State).accessFault (⟨1, 1, 0, 0x340814, 4⟩ : Access) = none ∧ (⟨1, 1, 0, 0x340814, 4⟩ : Access).off = Reg.PWR_IN_CFG 5 ∧ (⟨1, 1, 0, 0x340814, 4⟩ : Access).size = 4 ∧ 5 < 54 ∧ 0x123456 < 2 ^ 24) := by decide +kernel
theorem wit_pinCfgFixed :
    ((wPin 55 { seen := true, trans := [5, 3] } true false true : State).accessFault (⟨1, 1, 0, 0x3408DC, 4⟩ : Access) = none ∧ (⟨1, 1, 0, 0x3408DC, 4⟩ : Access).off = Reg.PWR_IN_CFG 55 ∧ (⟨1, 1, 0, 0x3408DC, 4⟩ : Access).size = 4 ∧ 54 ≤ 55 ∧ 55 < 64) := by decide +kernel

theorem wit_stdTtiAccepted :
    (stdCommits (wStd 0x01 [(0, 1), (2, 4)] (wSeen 7 3) wRs) 5 5 6 3 wRs) ∧
    (((wStd 0x01 [(0, 1), (2, 4)] (wSeen 7 3) wRs).cx 5).bind.routine ∈ [0x01, 0x02, 0x10] ∨ (((wStd 0x01 [(0, 1), (2, 4)] (wSeen 7 3) wRs).cx 5).bind.routine = 0x11 ∧ (wStd 0x01 [(0, 1), (2, 4)] (wSeen 7 3) wRs).trailByte 3 1 % 4 ≠ 0)) ∧
    (3 ≤ ((wStd 0x01 [(0, 1), (2, 4)] (wSeen 7 3) wRs).cx 5).wb 0x9B) := by decide +kernel
theorem wit_stdTim :
    (stdCommits (wStd 0x11 [(0, 1), (1, 5), (2, 4)] (wSeen 7 3) wRs) 5 5 6 3 wRs) ∧
    (((wStd 0x11 [(0, 1), (1, 5), (2, 4)] (wSeen 7 3) wRs).cx 5).bind.routine ∈ [0x01, 0x02, 0x10] ∨ (((wStd 0x11 [(0, 1), (1, 5), (2, 4)] (wSeen 7 3) wRs).cx 5).bind.routine = 0x11 ∧ (wStd 0x11 [(0, 1), (1, 5), (2, 4)] (wSeen 7 3) wRs).trailByte 3 1 % 4 ≠ 0)) ∧
    (3 ≤ ((wStd 0x11 [(0, 1), (1, 5), (2, 4)] (wSeen 7 3) wRs).cx 5).wb 0x9B) ∧
    (1 = bits ((wStd 0x11 [(0, 1), (1, 5), (2, 4)] (wSeen 7 3) wRs).trailByte 3 1) 2 2) := by decide +kernel
theorem wit_stdStat :
    (stdCommits (wStd 0x10 [(0, 1), (2, 4)] (wSeen 7 3) wRs) 5 5 6 3 wRs) ∧
    (((wStd 0x10 [(0, 1), (2, 4)] (wSeen 7 3) wRs).cx 5).bind.routine ∈ [0x02, 0x10]) ∧
    (3 ≤ ((wStd 0x10 [(0, 1), (2, 4)] (wSeen 7 3) wRs).cx 5).wb 0x97) := by decide +kernel
theorem wit_stdStatStays :
    (stdCommits (wStd 0x02 [(0, 1), (2, 4)] (wSeen 7 2) wRs) 5 5 6 3 wRs) ∧
    (((wStd 0x02 [(0, 1), (2, 4)] (wSeen 7 2) wRs).cx 5).bind.routine ∈ [0x02, 0x10]) ∧
    (((wStd 0x02 [(0, 1), (2, 4)] (wSeen 7 2) wRs).cx 5).wb 0x97 < 3) := by decide +kernel
theorem wit_stdTcm :
    (stdCommits (wStd 0x11 [(0, 1), (1, 2), (2, 4)] (wSeen 0 3) wRs) 5 5 6 3 wRs) ∧
    (((wStd 0x11 [(0, 1), (1, 2), (2, 4)] (wSeen 0 3) wRs).cx 5).bind.routine = 0x11 ∧ (wStd 0x11 [(0, 1), (1, 2), (2, 4)] (wSeen 0 3) wRs).trailByte 3 1 % 4 ≠ 0) ∧
    (3 ≤ ((wStd 0x11 [(0, 1), (1, 2), (2, 4)] (wSeen 0 3) wRs).cx 5).wb 0x97) := by decide +kernel
theorem wit_stdTransparent :
    (stdCommits (wStd 0x11 [(0, 1), (2, 4)] (wSeen 7 3) wRs) 5 5 6 3 wRs) ∧
    (((wStd 0x11 [(0, 1), (2, 4)] (wSeen 7 3) wRs).cx 5).bind.routine = 0x11 ∧ (wStd 0x11 [(0, 1), (2, 4)] (wSeen 7 3) wRs).trailByte 3 1 % 4 = 0) := by decide +kernel
theorem wit_stdControls :
    (stdCommits (wStd 0x10 [(0, 1), (2, 4)] (wSeen 5 3) wRs) 5 5 6 3 wRs) ∧
    (((wStd 0x10 [(0, 1), (2, 4)] (wSeen 5 3) wRs).cx 5).bind.routine = 0x10) ∧
    (3 ≤ ((wStd 0x10 [(0, 1), (2, 4)] (wSeen 5 3) wRs).cx 5).wb 0x97) := by decide +kernel
theorem wit_stdControls_ais :
    stdCommits (wStd 0x10 [(0, 1), (2, 4)] (wSeen 7 3) wRs) 5 5 6 3 wRs ∧ ((wStd 0x10 [(0, 1), (2, 4)] (wSeen 7 3) wRs).cx 5).wb 0x96 = 7 := by
  decide +kernel
theorem wit_stdEvent :
    (stdCommits (wStd 0x10 [(0, 1), (2, 4)] (wSeen 7 3) wRs) 5 5 6 3 wRs) ∧
    (((wStd 0x10 [(0, 1), (2, 4)] (wSeen 7 3) wRs).cx 5).bind.routine ∈ [0x02, 0x10]) ∧
    (3 ≤ ((wStd 0x10 [(0, 1), (2, 4)] (wSeen 7 3) wRs).cx 5).wb 0x97 ∧ ((wStd 0x10 [(0, 1), (2, 4)] (wSeen 7 3) wRs).cx 5).wb 0x96 = 7) ∧
    (bits ((wStd 0x10 [(0, 1), (2, 4)] (wSeen 7 3) wRs).trailByte 3 0xC0) 0 2 < 2 ∧ bit ((wStd 0x10 [(0, 1), (2, 4)] (wSeen 7 3) wRs).trailByte 3 0xC0) 2 = false ∧ wRs.g3bit 1 = false) := by decide +kernel
theorem wit_stdPlm :
    (stdCommits (wStd 0x03 [(0, 1), (2, 4)] (wSeen 7 3) wRs) 5 5 6 3 wRs) ∧
    (((wStd 0x03 [(0, 1), (2, 4)] (wSeen 7 3) wRs).cx 5).bind.routine = 0x03) ∧
    (3 ≤ ((wStd 0x03 [(0, 1), (2, 4)] (wSeen 7 3) wRs).cx 5).wb 0x9D) := by decide +kernel
theorem wit_stdMsi :
    (0 = (({} : CtxH).bind.param.getD (66 + 2 * 4) 0).toNat + 256 * (({} : CtxH).bind.param.getD (67 + 2 * 4) 0).toNat) := by decide +kernel
theorem wit_stdMsi_disabled :
    32768 = (({ bind := { param := List.replicate 67 0 ++ [0x80] } } : CtxH).bind.param.getD (66 + 2 * 0) 0).toNat +
      256 * (({ bind := { param := List.replicate 67 0 ++ [0x80] } } : CtxH).bind.param.getD (67 + 2 * 0) 0).toNat := by decide +kernel
theorem wit_stdDegrade :
    (scGet wDegH ({ wRs with rel := sec 9 } : RunSt) scSec 8 ≠ 0 ∧ scGet wDegH ({ wRs with rel := sec 9 } : RunSt) scSec 8 ≠ secOf ({ wRs with rel := sec 9 } : RunSt).rel + 1) ∧
    (7 = (wStd 0x10 [(0, 1), (2, 4), (0x32, 7)] (wSeen 7 3) wRs).trailByte wDegH.entry0 0x32 % 16 ∧ 2 ≤ 7 ∧ 7 ≤ 10) := by decide +kernel
theorem wit_stdDegrade_bad :
    scGet { wDegH with scr := [(scSec, 2), (scBlk, 1), (scBad, 6)] } wRs scTsf 1 = 0 ∧
    (wStd 0x10 [(0x32, 7)] (wSeen 7 3) wRs).trailGet 3 0x30 2 % 1024 * scGet { wDegH with scr := [(scSec, 2), (scBlk, 1), (scBad, 6)] } wRs scFrm 4 <
      scGet { wDegH with scr := [(scSec, 2), (scBlk, 1), (scBad, 6)] } wRs scBlk 4 * 1000 ∧
    7 ≤ scGet { wDegH with scr := [(scSec, 2), (scBlk, 1), (scBad, 6)] } wRs scBad 1 + 1 := by decide +kernel
theorem wit_stdDegrade_good :
    scGet { wDegH with scr := [(scSec, 2), (scGood, 6)] } wRs scTsf 1 = 0 ∧
    scGet { wDegH with scr := [(scSec, 2), (scGood, 6)] } wRs scBlk 4 * 1000 ≤
      (wStd 0x10 [(0x32, 7)] (wSeen 7 3) wRs).trailGet 3 0x30 2 % 1024 * scGet { wDegH with scr := [(scSec, 2), (scGood, 6)] } wRs scFrm 4 ∧
    7 ≤ scGet { wDegH with scr := [(scSec, 2), (scGood, 6)] } wRs scGood 1 + 1 := by decide +kernel
theorem wit_stdDegrade_held :
    scGet { wDegH with scr := [(scSec, 2), (scTsf, 1), (scBad, 6)] } wRs scTsf 1 ≠ 0 ∧
    scGet { wDegH with scr := [(scSec, 2), (scTsf, 1), (scBad, 6)] } wRs scBad 1 < 7 ∧
    scGet { wDegH with scr := [(scSec, 2), (scTsf, 1), (scBad, 6)] } wRs scGood 1 < 7 := by decide +kernel
theorem wit_stdLate :
    (((wStd 0x10 [(0, 1), (2, 4)] (wSeen 7 3) wRs).setCx 5 { (wStd 0x10 [(0, 1), (2, 4)] (wSeen 7 3) wRs).cx 5 with nextRel := 6 }).running 5 5 = some wRs ∧ (stdRow (((wStd 0x10 [(0, 1), (2, 4)] (wSeen 7 3) wRs).setCx 5 { (wStd 0x10 [(0, 1), (2, 4)] (wSeen 7 3) wRs).cx 5 with nextRel := 6 }).cx 5).bind.routine).isSome = true ∧ ((((wStd 0x10 [(0, 1), (2, 4)] (wSeen 7 3) wRs).setCx 5 { (wStd 0x10 [(0, 1), (2, 4)] (wSeen 7 3) wRs).cx 5 with nextRel := 6 }).cx 5).bind.tt.headD (0, 0)).2 ≠ 0 ∧ (((wStd 0x10 [(0, 1), (2, 4)] (wSeen 7 3) wRs).setCx 5 { (wStd 0x10 [(0, 1), (2, 4)] (wSeen 7 3) wRs).cx 5 with nextRel := 6 }).cx 5).nextRel ≤ 6) := by decide +kernel
theorem wit_stdApsAccepted :
    (bit (wApsH.apsByte 64) 6 = true ∧ hwTsf (wApsH.wb 0x94) = false ∧ (wStd 0x20 [(0, 1), (2, 4)] (wSeen 7 3) wRs).trailByte wApsH.entry0 0x88 &&& 0x27 = 0 ∧ bit ((wStd 0x20 [(0, 1), (2, 4)] (wSeen 7 3) wRs).trailGet wApsH.entry0 0x80 4) 0 = false ∧ (wStd 0x20 [(0, 1), (2, 4)] (wSeen 7 3) wRs).hwSf ((wStd 0x20 [(0, 1), (2, 4)] (wSeen 7 3) wRs).instanceOf wApsH.entry0) = false) := by decide +kernel
theorem wit_stdApsAccepted_again :
    bit (scGet { wApsH with scr := [(scFlags, 8)] } wRs scFlags 1) 3 = true ∧
    scGet { wApsH with scr := [(scFlags, 8)] } wRs 0x60 4 = CtxH.wle { wApsH with scr := [(scFlags, 8)] } 0x34 4 := by decide +kernel
theorem wit_stdApsDecides : 4 < 5 := by decide
theorem wit_stdApsDecides_far : 4 < 8 ∧ 8 < 10 := by decide

/-! ### Terms that the form checks refuse (17 Tables HST-2, HST-6) -/

/-- A host access of good form. -/
def wAcc : Access := ⟨1, 1, 0, 0x300000, 4⟩
/-- A Side Street frame of good form. -/
def wSsF : SsFrame := ⟨64, true, 0, 0x1234, none, 5, 16, 1, 0, true, [], 3⟩
/-- The parameters of an ODU0. -/
def wOduP : OduParams := ⟨7, 0, 0, 0, 2, 8, 4, 0, 1, 3, 3, 8, 50, 0, 0, [1], []⟩
theorem test_wf_good : (Instr.registerWrite 5 wAcc 1).wf = true ∧ (Instr.ssFrameReceived 5 0 wSsF).wf = true ∧ (Instr.oduCfg 5 wDesc wOduP).wf = true ∧
    (Instr.bind 5 wDesc 5 wBlock).wf = true ∧ (Instr.trailCfg 5 wDesc 0 1 wTrail).wf = true := by decide
theorem test_wf_access_req : (Instr.registerWrite 5 { wAcc with req := 65536 } 1).wf = false := by decide
theorem test_wf_access_bar : (Instr.bar2Read 5 { wAcc with bar := 6 }).wf = false := by decide
theorem test_wf_access_size : (Instr.rcFieldRead 5 { wAcc with size := 0 }).wf = false := by decide
theorem test_wf_desc_tag : (Instr.unbind 5 { wDesc with tag := 4294967296 } 5).wf = false := by decide
theorem test_wf_desc_hcp : (Instr.unbind 5 { wDesc with hcp := 65536 } 5).wf = false := by decide
theorem test_wf_desc_resv : (Instr.unbind 5 { wDesc with resv := some 4294967295 } 5).wf = false := by decide
theorem test_wf_flexo_gid : (Instr.frameReceived 5 (.flexo 0 1048576 1 [])).wf = false := by decide
theorem test_wf_flexo_pid : (Instr.frameReceived 5 (.flexo 0 1 256 [])).wf = false := by decide
theorem test_wf_otn_overhead : (Instr.frameReceived 5 (.otn 4 [1, 2] 0 .plain)).wf = false := by decide
theorem test_wf_side_street : (Instr.ssFrameReceived 5 0 { wSsF with etype := 65536 }).wf = false ∧ (Instr.ssFrameReceived 5 0 { wSsF with devid := 65536 }).wf = false ∧
    (Instr.ssFrameReceived 5 0 { wSsF with queue := 65536 }).wf = false ∧ (Instr.ssFrameReceived 5 0 { wSsF with kind := 256 }).wf = false := by decide
theorem test_wf_packet : (Instr.hardwarePush 5 16 (.packet 33 [1])).wf = false := by decide
theorem test_wf_block : (Instr.bind 5 wDesc 5 { wBlock with jabi := 65536 }).wf = false ∧ (Instr.bind 5 wDesc 5 { wBlock with routine := 4294967296 }).wf = false ∧ (Instr.bind 5 wDesc 5 { wBlock with length := 65536 }).wf = false ∧
    (Instr.bind 5 wDesc 5 { wBlock with ttCount := 2 }).wf = false ∧ (Instr.bind 5 wDesc 5 { wBlock with qCount := 1 }).wf = false := by decide
theorem test_wf_odu : (Instr.oduCfg 5 wDesc { wOduP with inst := 65536 }).wf = false ∧ (Instr.oduCfg 5 wDesc { wOduP with rate := 4294967296 }).wf = false ∧
    (Instr.oduCfg 5 wDesc { wOduP with tsCount := 2 }).wf = false := by decide
theorem test_wf_lengths : (Instr.insertionPoint 5 4 [1] 0).wf = false ∧ (Instr.cellReceived 5 0 0 0 [1]).wf = false ∧ (Instr.underpassWrite 5 5 0 0 [1]).wf = false ∧
    (Instr.mateHeartbeatRecord 5 [1]).wf = false ∧ (Instr.thermalSample 5 [40]).wf = false ∧ (Instr.trailCfg 5 wDesc 0 1 [1]).wf = false := by decide
/-! ### Values that the spec states -/

/-- The check values of the bytes "123456789" under the parameters of 08 R233: 0x29B1 for HCRC, 0xCBF43926 for PCRC. -/
theorem test_crc_checks : crc crc16 wNine = 0x29B1 ∧ crc crc32 wNine = 0xCBF43926 := by decide +kernel

end Sys2Proof.Tests
end

/-! ## What LIVE and STATUS bits change -/
namespace Sys2Proof.Machine
open Sys2Proof

/-- From s to u nothing changes but register words, STATUS records, LIVE pulses and the events offered. -/
def State.FlagsOnly (s u : State) : Prop := u = { s with regs := u.regs, stat := u.stat, pulses := u.pulses, evl := u.evl }

namespace State.FlagsOnly

theorem refl (s : State) : s.FlagsOnly s := rfl
theorem trans {s u z : State} (h : s.FlagsOnly u) (k : u.FlagsOnly z) : s.FlagsOnly z := by
  unfold State.FlagsOnly at h k ⊢
  rw [k, h]

section
variable {s u : State} (h : s.FlagsOnly u)
include h
theorem dts : u.dts = s.dts := by rw [State.FlagsOnly] at h; rw [h]
theorem ctrs : u.ctrs = s.ctrs := by rw [State.FlagsOnly] at h; rw [h]
theorem irq : u.irq = s.irq := by rw [State.FlagsOnly] at h; rw [h]
theorem out : u.out = s.out := by rw [State.FlagsOnly] at h; rw [h]
theorem red : u.red = s.red := by rw [State.FlagsOnly] at h; rw [h]
theorem hcq : u.hcq = s.hcq := by rw [State.FlagsOnly] at h; rw [h]
end

end State.FlagsOnly

theorem State.setWord_flagsOnly (s : State) (a w : Nat) : s.FlagsOnly (s.setWord a w) := rfl
theorem State.rset_flagsOnly (s : State) (f : RF) (v : Nat) : s.FlagsOnly (s.rset f v) := s.setWord_flagsOnly _ _
theorem State.rsetb_flagsOnly (s : State) (f : RF) (b : Bool) : s.FlagsOnly (s.rsetb f b) := s.setWord_flagsOnly _ _
theorem State.setDtsWords_flagsOnly (s : State) (a t : Nat) : s.FlagsOnly (s.setDtsWords a t) :=
  ((s.setWord_flagsOnly _ _).trans (State.setWord_flagsOnly _ _ _)).trans (State.setWord_flagsOnly _ _ _)
theorem State.offer_flagsOnly (s : State) (e : EvRec) : s.FlagsOnly (s.offer e) := rfl
theorem State.log_flagsOnly (s : State) (t c x y : Nat) : s.FlagsOnly (s.log t c x y) := s.offer_flagsOnly _
theorem State.setStat_flagsOnly (s : State) (a : Nat) (r : StatRec) : s.FlagsOnly (s.setStat a r) := rfl
theorem State.statSet_flagsOnly (s : State) (a b t : Nat) : s.FlagsOnly (s.statSet a b t) := by
  unfold State.statSet
  dsimp only
  split
  · exact .refl s
  · have h := (s.setStat_flagsOnly a ⟨(b, t) :: (s.statRec a).sets, (s.statRec a).clrs⟩).trans (State.setWord_flagsOnly _ a (s.wordN a ||| 2 ^ b))
    split
    · exact h.trans (State.setDtsWords_flagsOnly _ _ _)
    · exact h
theorem State.liveRaw_flagsOnly (s : State) (t : Nat) (f : RF) (src : Nat) (on : Bool) : s.FlagsOnly (s.liveRaw t f src on) := by
  unfold State.liveRaw
  dsimp only
  split
  · exact .refl s
  · have h : s.FlagsOnly ((s.rsetb f on).log t (liveCode ((blockOf f.addr).getD 0) f.lo on) src f.addr) :=
      (s.rsetb_flagsOnly f on).trans (State.log_flagsOnly _ _ _ _ _)
    split
    · exact h.trans (State.statSet_flagsOnly _ _ _ _)
    · exact h
theorem State.statFollow_flagsOnly (s : State) (t a : Nat) : s.FlagsOnly (s.statFollow t a) := by
  unfold State.statFollow
  split
  · exact .trans (s.rsetb_flagsOnly _ _) (State.liveRaw_flagsOnly _ _ _ _ _)
  · exact .refl s
theorem State.live_flagsOnly (s : State) (t : Nat) (f : RF) (src : Nat) (on : Bool) : s.FlagsOnly (s.live t f src on) :=
  (s.liveRaw_flagsOnly t f src on).trans (State.statFollow_flagsOnly _ _ _)
theorem State.pulseFor_flagsOnly (s : State) (t : Nat) (f : RF) (src d : Nat) : s.FlagsOnly (s.pulseFor t f src d) :=
  ((s.live_flagsOnly t f src true).trans (State.statSet_flagsOnly _ _ _ _)).trans rfl
theorem State.pulse_flagsOnly (s : State) (t : Nat) (f : RF) (src : Nat) : s.FlagsOnly (s.pulse t f src) := s.pulseFor_flagsOnly t f src _

@[simp] theorem State.live_dts (s : State) (t : Nat) (f : RF) (src : Nat) (on : Bool) : (s.live t f src on).dts = s.dts :=
  (s.live_flagsOnly t f src on).dts
@[simp] theorem State.pulse_dts (s : State) (t : Nat) (f : RF) (src : Nat) : (s.pulse t f src).dts = s.dts := (s.pulse_flagsOnly t f src).dts

/-! ## The device count under a refused access and a steering write -/

@[simp] theorem State.violate_dts (s : State) (t : Nat) (a : Access) (w : Bool) (r : Nat) (ca : Bool) : (s.violate t a w r ca).dts = s.dts := by
  unfold State.violate
  dsimp only
  split <;> simp
@[simp] theorem State.refuse_dts (s : State) (t : Nat) (a : Access) (w : Bool) (r : Nat) (ca : Bool) : (s.refuse t a w r ca).dts = s.dts := by
  simp [State.refuse]
@[simp] theorem State.refuseWrite_dts (s : State) (t : Nat) (a : Access) (r : Option Nat) : (s.refuseWrite t a r).dts = s.dts := by
  cases r with
  | some x => exact s.refuse_dts _ _ _ _ _
  | none => exact State.refuse_dts _ _ _ _ _ _
/-- A host access keeps the count where its effect does: a refusal moves no time. -/
theorem hostAccess_dts {t : Nat} {a : Access} {w : Bool} {f : State → State} {s : State} (h : s.accessFault a = none → (f s).dts = s.dts) :
    (hostAccess t a w f s).dts = s.dts := by
  unfold hostAccess
  split
  · exact s.refuse_dts _ _ _ _ _
  · exact h ‹_›

@[simp] theorem State.statShow_dts (s : State) (t k : Nat) (x y : Bool) : (s.statShow t k x y).dts = s.dts := by
  unfold State.statShow
  split <;> rfl
@[simp] theorem State.dpTo_dts (s : State) (t d st : Nat) : (s.dpTo t d st).dts = s.dts := by
  unfold State.dpTo
  dsimp only
  split
  · rfl
  · split <;> simp
@[simp] theorem State.dpFreq_dts (s : State) (d : Nat) (x : Int) : (s.dpFreq d x).dts = s.dts := by
  unfold State.dpFreq
  split <;> rfl
@[simp] theorem State.steered_dts (s : State) (t : Nat) : (s.steered t).dts = s.dts := by
  unfold State.steered
  dsimp only
  split
  · exact State.dpTo_dts _ _ _ _
  · rfl
/-- A frequency steering write moves no time (11 R363). -/
@[simp] theorem State.adjFreq_dts (s : State) (t v : Nat) : (s.adjFreq t v).dts = s.dts := by
  unfold State.adjFreq
  dsimp only
  split <;> simp

/-! ## The words of a host access -/

/-- A 4-byte access is one word. -/
theorem accWords_four {a : Access} (v : Nat) (h : a.size = 4) : accWords a v = [(a.off, bits v 0 32)] := by
  simp [accWords, h, List.range_succ]
/-- An 8-byte access is two words. -/
theorem accWords_eight {a : Access} (v : Nat) (h : a.size = 8) : accWords a v = [(a.off, bits v 0 32), (a.off + 4, bits v 32 32)] := by
  simp [accWords, h, List.range_succ]

/-- A 4-byte steering write of the frequency moves no time: the one word it covers is TIM_DP1_ADJ_FREQ. -/
theorem hostWrite_adjFreq_dts {a : Access} (t v : Nat) (s : State) (h : a.size = 4) : (hostWrite (· == .adjFreq) t a v s).dts = s.dts := by
  unfold hostWrite
  simp only [hostWords, accWords_four v h, List.map_cons, List.map_nil, List.any_cons, List.any_nil, Bool.or_false, List.foldl_cons, List.foldl_nil]
  split
  · rfl
  · rename_i own
    split
    · exact s.refuseWrite_dts _ _ _
    · cases e : specialAt a.off with
      | none => simp [e] at own
      | some x =>
        obtain ⟨k, n⟩ := x
        have hk : k = .adjFreq := by simpa [e] using own
        subst hk
        simp only [State.hostWord, e]
        exact s.adjFreq_dts t _

/-! ## Every command completes, at its instant -/

/-- Every command leaves what the end of a step makes of some state. -/
theorem exec_ended (c : Instr) (s : State) : ∃ (z : State) (n : Nat), exec c s = .next (s.ended z n) := by
  cases c <;> exact ⟨_, _, rfl⟩

/-- A command that comes about at an instant ends there, or where the count was if that is later; a 4-byte write of TIM_DP1_ADJ_FREQ apart, which
has the form of a step that sets the time. -/
theorem exec_of_instantOf {c : Instr} {t : Nat} (h : instantOf c = some t) (s : State) :
    (∃ z, exec c s = .next (s.ended z (max s.dts t))) ∨ ∃ w, c = .timDp1AdjFreqWrite t w ∧ w.acc.size = 4 := by
  cases c with
  | timDp1AdjFreqWrite u w =>
    have hw : w.acc.size = 4 ∧ u = t := by simpa [instantOf] using h
    exact .inr ⟨w, by rw [hw.2], hw.1⟩
  | _ => cases h <;> exact .inl ⟨_, rfl⟩

/-- Settles O2: every command is an effect within a step, and only the steps that set the time take their count from the effect. -/
theorem everyCommandCompletesAtItsInstant : Obligations.EveryCommandCompletesAtItsInstant := by
  refine ⟨fun c s => ?_, fun c s t h => ?_⟩
  · obtain ⟨z, n, e⟩ := exec_ended c s
    exact ⟨_, e⟩
  · obtain ⟨z, e⟩ | ⟨w, rfl, hw⟩ := exec_of_instantOf h s
    · exact ⟨_, e, rfl⟩
    · exact .of_timeEvent rfl (hostAccess_dts fun _ => hostWrite_adjFreq_dts t w.v _ hw)

end Sys2Proof.Machine

/-! ## A host write that nothing refuses -/
namespace Sys2Proof.Machine
open Sys2Proof Sys2Proof.Claims

@[simp] theorem State.accessFault_at (s : State) (t : Nat) (a : Access) : (s.at_ t).accessFault a = s.accessFault a := rfl

/-- An access that R503 takes acts. -/
theorem hostAccess_accepted {t : Nat} {a : Access} {w : Bool} {f : State → State} {s : State} (h : s.accessFault a = none) :
    hostAccess t a w f s = f s := by
  simp only [hostAccess, h]

/-- An access that R503 takes is of 4 or 8 bytes, and aligned. -/
theorem State.size_of_accessFault {s : State} {a : Access} (h : s.accessFault a = none) : (a.size = 4 ∨ a.size = 8) ∧ a.off % a.size = 0 := by
  refine Decidable.byContradiction fun c => ?_
  have c' : ¬ (a.size = 4 ∨ a.size = 8) ∨ a.off % a.size ≠ 0 := by omega
  unfold State.accessFault at h
  rw [if_pos c'] at h
  split at h
  · cases h
  · split at h <;> cases h

/-- A 4-byte write of a register with a row of its own acts by its rule. -/
theorem hostWrite_four {own : Special → Bool} {a : Access} {x : Special} {i : Nat} (t v : Nat) (s : State) (hs : a.size = 4)
    (hx : specialAt a.off = some (x, i)) (ho : own x = true) (hf : ∀ z, s.hostFault z a.off (listedBits a.off (bits v 0 32)) = none) :
    hostWrite own t a v s = s.hostWord t a a.off (listedBits a.off (bits v 0 32)) := by
  simp [hostWrite, hostWords, accWords_four v hs, hx, ho, hf]

/-- An 8-byte write whose first word has a row of its own acts by the rule of each word, one after the other. -/
theorem hostWrite_eight {own : Special → Bool} {a : Access} {x : Special} {i : Nat} (t v : Nat) (s : State) (hs : a.size = 8)
    (hx : specialAt a.off = some (x, i)) (ho : own x = true) (hf : ∀ z, s.hostFault z a.off (listedBits a.off (bits v 0 32)) = none)
    (hf2 : ∀ z, s.hostFault z (a.off + 4) (listedBits (a.off + 4) (bits v 32 32)) = none) :
    hostWrite own t a v s =
      (s.hostWord t a a.off (listedBits a.off (bits v 0 32))).hostWord t a (a.off + 4) (listedBits (a.off + 4) (bits v 32 32)) := by
  simp [hostWrite, hostWords, accWords_eight v hs, hx, ho, hf, hf2]

/-- A register whose write no rule of its own refuses, of the kinds met here. -/
def neverRefused (k : Special) : Bool := k == .plain || k == .status || k == .cmdPi || k == .cplCi || k == .irqAck
/-- A word with no register, or of such a register, is never refused. -/
theorem State.hostFault_neverRefused {o : Nat} (h : ∀ k n, specialAt o = some (k, n) → neverRefused k = true) (s z : State) (v : Nat) :
    s.hostFault z o v = none := by
  unfold State.hostFault
  cases e : specialAt o with
  | none =>
    have : rowAt o = none := by simpa [specialAt] using e
    simp [State.wordFault, this]
  | some p =>
    obtain ⟨k, n⟩ := p
    have hk := h k n e
    obtain ⟨⟨r, i, j⟩, hr, hp⟩ := Option.map_eq_some_iff.1 e
    obtain rfl : r.special = k := congrArg Prod.fst hp
    simp only [neverRefused, Bool.or_eq_true, beq_iff_eq] at hk
    rcases hk with (((hk | hk) | hk) | hk) | hk <;> simp [State.wordFault, hr, hk]
/-- A word that is tied to no rule stores what its fields take. -/
theorem State.hostWord_untied {o : Nat} (h : ∀ k n, specialAt o = some (k, n) → k = .plain) (s : State) (t v : Nat) (a : Access) :
    s.hostWord t a o v = s.writeWord t o v := by
  unfold State.hostWord
  cases e : specialAt o with
  | none => rfl
  | some p =>
    obtain ⟨k, n⟩ := p
    obtain rfl := h k n e
    rfl

/-- An offset with no register stores nothing (00 R3). -/
theorem State.writeWord_unmapped {o : Nat} (h : rowAt o = none) (s : State) (t v : Nat) : s.writeWord t o v = s := by
  simp only [State.writeWord, h]
/-- A register that no other rule ties stores what its fields take, and nothing follows (00 R4). -/
theorem State.writeWord_plain {o : Nat} {r : RegRow} {i j : Nat} (hr : rowAt o = some (r, i, j)) (hp : r.special = .plain)
    (ht : r.base ∉ tiedRows) (hm : r.base ≠ Reg.MNT_CFG) (s : State) (t v : Nat) :
    s.writeWord t o v = s.setWord o (rowStore r (s.wordN o) v) := by
  simp only [tiedRows, List.mem_cons, List.not_mem_nil, or_false, not_or] at ht
  obtain ⟨h1, h2, h3, h4, h5, h6, h7, h8⟩ := ht
  simp [State.writeWord, State.wordFollow, hr, hp, ownRow, rowBounds, lrefRate, h1, h2, h3, h4, h5, h6, h7, h8, hm]

/-- Two fields share no bit. -/
def FieldRow.apart (f g : FieldRow) : Bool := f.lo + f.w ≤ g.lo || g.lo + g.w ≤ f.lo
/-- The fields of a register share no bit and lie within its word. -/
def fieldsApart (l : List FieldRow) : Prop := l.Pairwise (fun f g => f.apart g = true) ∧ ∀ f ∈ l, f.lo + f.w ≤ 32

/-- Fields stored apart from a range leave it. -/
theorem bits_storeFields_apart {lo w : Nat} (old v : Nat) (l : List FieldRow) (h : ∀ g ∈ l, lo + w ≤ g.lo ∨ g.lo + g.w ≤ lo) (x : Nat) :
    bits (l.foldl (fun x f => setBits x f.lo f.w (fieldStore f old v)) x) lo w = bits x lo w := by
  induction l generalizing x with
  | nil => rfl
  | cons g l ih =>
    rw [List.foldl_cons, ih (fun k hk => h k (List.mem_cons_of_mem _ hk))]
    rcases h g List.mem_cons_self with hg | hg
    · exact bits_setBits_below hg
    · exact bits_setBits_above hg
/-- Each field of a register holds what it stores of a write. -/
theorem bits_storeFields {f : FieldRow} (old v : Nat) {l : List FieldRow} (hf : f ∈ l) (h : l.Pairwise (fun f g => f.apart g = true)) (x : Nat) :
    bits (l.foldl (fun x f => setBits x f.lo f.w (fieldStore f old v)) x) f.lo f.w = fieldStore f old v % 2 ^ f.w := by
  induction l generalizing x with
  | nil => cases hf
  | cons g l ih =>
    obtain ⟨hg, hl⟩ := List.pairwise_cons.1 h
    rw [List.foldl_cons]
    rcases List.mem_cons.1 hf with rfl | hf
    · rw [bits_storeFields_apart old v l fun k hk => by simpa [FieldRow.apart] using hg k hk, bits_setBits_same]
    · exact ih hf hl _
/-- What the fields of a word store is a word. -/
theorem storeFields_lt (old v : Nat) {l : List FieldRow} (h : ∀ f ∈ l, f.lo + f.w ≤ 32) {x : Nat} (hx : x < 2 ^ 32) :
    l.foldl (fun x f => setBits x f.lo f.w (fieldStore f old v)) x < 2 ^ 32 := by
  induction l generalizing x with
  | nil => exact hx
  | cons g l ih =>
    rw [List.foldl_cons]
    exact ih (fun k hk => h k (List.mem_cons_of_mem _ hk)) (setBits_lt (h g List.mem_cons_self) hx)

/-- A read-only field of a register that no rule ties keeps its value under a write of its word (00 R4). -/
theorem State.rget_writeWord_ro {o : Nat} {r : RegRow} {i j : Nat} {f : FieldRow} (hr : rowAt o = some (r, i, j)) (hp : r.special = .plain)
    (ht : r.base ∉ tiedRows) (hm : r.base ≠ Reg.MNT_CFG) (ha : fieldsApart r.fields) (hf : f ∈ r.fields) (ho : f.acc = .ro) (s : State) (t v : Nat) :
    (s.writeWord t o v).rget ⟨o, f.lo, f.w⟩ = s.rget ⟨o, f.lo, f.w⟩ := by
  have e : fieldStore f (s.wordN o) v % 2 ^ f.w = bits (s.wordN o) f.lo f.w := by
    simp only [fieldStore, ho]
    exact Nat.mod_mod _ _
  have lt : rowStore r (s.wordN o) v < 2 ^ 32 := storeFields_lt _ _ ha.2 (Nat.two_pow_pos 32)
  rw [State.writeWord_plain hr hp ht hm, State.rget, State.wordN_setWord_same, Nat.mod_eq_of_lt lt]
  exact (bits_storeFields _ _ hf ha.1 0).trans e

/-- A host write whose first word has a row of its own and whose second, in an 8-byte access, is tied to no rule: what holds of the first
word's effect, with or without the second word stored, holds of the step. -/
theorem Runs.of_hostWrite {c : Instr} {s : State} {P : State → Prop} {own : Special → Bool} {t v i : Nat} {a : Access} {x : Special}
    (e : exec c s = event t (hostAccess t a true (hostWrite own t a v)) s) (h : s.accessFault a = none) (hx : specialAt a.off = some (x, i))
    (ho : own x = true) (hf : ∀ z, (s.at_ t).hostFault z a.off (listedBits a.off (bits v 0 32)) = none)
    (h2 : a.off % 8 = 0 → ∀ k n, specialAt (a.off + 4) = some (k, n) → k = .plain)
    (p4 : P (s.ended ((s.at_ t).hostWord t a a.off (listedBits a.off (bits v 0 32))) (max s.dts t)))
    (p8 : a.off % 8 = 0 → ∀ y, P (s.ended (((s.at_ t).hostWord t a a.off (listedBits a.off (bits v 0 32))).writeWord t (a.off + 4) y) (max s.dts t))) :
    Runs c s P := by
  refine .of_event e ?_
  rw [hostAccess_accepted (s := s.at_ t) h]
  obtain ⟨hs | hs, hal⟩ := s.size_of_accessFault h
  · rwa [hostWrite_four t v _ hs hx ho hf]
  · rw [hs] at hal
    rw [hostWrite_eight t v _ hs hx ho hf (fun z => State.hostFault_neverRefused (fun k n e => by rw [h2 hal k n e]; rfl) _ z _), State.hostWord_untied (h2 hal)]
    exact p8 hal _

/-! ## The words that LIVE bits change -/

/-- A LIVE bit's change touches the five words from its register on, queue groups apart. -/
theorem State.wordN_live_off (s : State) {f : RF} {c : Nat} (t src : Nat) (on : Bool) (h : c < f.addr ∨ f.addr + 16 < c)
    (n : famIndex (f.addr + 4) (Reg.QUE_GRP_STATUS 0) 256 0x40 1 4 = none) : (s.live t f src on).wordN c = s.wordN c :=
  s.wordN_live_ne t src on (by omega) (by omega) (by omega) (by omega) (by omega) n
/-- A timed pulse touches the five words from its register on, queue groups apart. -/
theorem State.wordN_pulseFor_off (s : State) {f : RF} {c : Nat} (t src d : Nat) (h : c < f.addr ∨ f.addr + 16 < c)
    (n : famIndex (f.addr + 4) (Reg.QUE_GRP_STATUS 0) 256 0x40 1 4 = none) : (s.pulseFor t f src d).wordN c = s.wordN c :=
  (State.wordN_statSet_ne _ _ _ (by omega) (by omega) (by omega) (by omega)).trans (s.wordN_live_off t src true h n)

/-! ## The command ring: showing that it is full, and writing a completion (17 R508, R509) -/

/-- An offset lies outside HCQ_LIVE, HCQ_STATUS and its first-set DTS. -/
def offHcqLive (a : Nat) : Bool := a < Reg.HCQ_LIVE || Reg.HCQ_LIVE + 16 < a
theorem offHcqLive_iff {a : Nat} : offHcqLive a = true ↔ a < 0x20040 ∨ 0x20050 < a := by
  simp only [offHcqLive, Bool.or_eq_true, decide_eq_true_eq]
  exact Iff.rfl

/-- Outside its LIVE registers CPL_FULL changes no word. -/
theorem State.wordN_fullShow (s : State) (t : Nat) {c : Nat} (h : offHcqLive c = true) : (s.fullShow t).wordN c = s.wordN c :=
  s.wordN_live_off t 0 _ (offHcqLive_iff.1 h) (by decide)
theorem State.rget_fullShow (s : State) (t : Nat) {f : RF} (h : offHcqLive f.addr = true) : (s.fullShow t).rget f = s.rget f := by
  rw [State.rget, State.wordN_fullShow s t h, State.rget]
theorem State.rbit_fullShow (s : State) (t : Nat) {f : RF} (h : offHcqLive f.addr = true) : (s.fullShow t).rbit f = s.rbit f := by
  rw [State.rbit, State.rget_fullShow s t h, State.rbit]
theorem State.fullShow_flagsOnly (s : State) (t : Nat) : s.FlagsOnly (s.fullShow t) := s.live_flagsOnly _ _ _ _

/-- A completion leaves the device; beside that only CPL_PI and the ring's LIVE registers change. -/
theorem State.putCpl_flagsOnly (s : State) (t : Nat) (c : CplRec) :
    (s.emit (.completion (s.rget Reg.CPL_PI_V % 2 ^ s.ringLog) (c.bytes (decide (s.rget Reg.CPL_PI_V / 2 ^ s.ringLog % 2 = 0))))).FlagsOnly
      (s.putCpl t c) := by
  unfold State.putCpl
  dsimp only
  refine .trans (State.rset_flagsOnly _ Reg.CPL_PI_V ((s.rget Reg.CPL_PI_V + 1) % 65536)) ?_
  refine .trans (State.pulseFor_flagsOnly _ t Reg.HCQ_LIVE_CPL 0 (us 1)) ?_
  split
  · exact State.fullShow_flagsOnly _ _
  · exact (State.pulse_flagsOnly _ _ _ _).trans (State.fullShow_flagsOnly _ _)
theorem State.putCpl_out (s : State) (t : Nat) (c : CplRec) :
    (s.putCpl t c).out = .completion (s.rget Reg.CPL_PI_V % 2 ^ s.ringLog) (c.bytes (decide (s.rget Reg.CPL_PI_V / 2 ^ s.ringLog % 2 = 0))) :: s.out :=
  (s.putCpl_flagsOnly t c).out
@[simp] theorem State.putCpl_hcq (s : State) (t : Nat) (c : CplRec) : (s.putCpl t c).hcq = s.hcq := (s.putCpl_flagsOnly t c).hcq
@[simp] theorem State.putCpl_red (s : State) (t : Nat) (c : CplRec) : (s.putCpl t c).red = s.red := (s.putCpl_flagsOnly t c).red

/-- The words of a completion: CPL_PI takes the next index, and all others off the ring's LIVE registers stay. -/
theorem State.wordN_putCpl (s : State) (t : Nat) (c : CplRec) {a : Nat} (h : offHcqLive a = true) :
    (s.putCpl t c).wordN a = (s.rset Reg.CPL_PI_V ((s.rget Reg.CPL_PI_V + 1) % 65536)).wordN a := by
  have cpl (z : State) : (z.pulseFor t Reg.HCQ_LIVE_CPL 0 (us 1)).wordN a = z.wordN a :=
    z.wordN_pulseFor_off t 0 _ (offHcqLive_iff.1 h) (by decide)
  have error (z : State) : (z.pulse t Reg.HCQ_LIVE_ERROR 0).wordN a = z.wordN a :=
    z.wordN_pulseFor_off t 0 _ (offHcqLive_iff.1 h) (by decide)
  unfold State.putCpl
  dsimp only
  rw [State.wordN_fullShow _ _ h]
  split
  · exact cpl _
  · exact (error _).trans (cpl _)
theorem State.wordN_putCpl_ne (s : State) (t : Nat) (c : CplRec) {a : Nat} (h : offHcqLive a = true) (n : a ≠ Reg.CPL_PI) :
    (s.putCpl t c).wordN a = s.wordN a := by rw [State.wordN_putCpl s t c h, State.wordN_rset_ne s _ n]
theorem State.rget_putCpl_ne (s : State) (t : Nat) (c : CplRec) {f : RF} (h : offHcqLive f.addr = true) (n : f.addr ≠ Reg.CPL_PI) :
    (s.putCpl t c).rget f = s.rget f := by rw [State.rget, State.wordN_putCpl_ne s t c h n, State.rget]
theorem State.rbit_putCpl_ne (s : State) (t : Nat) (c : CplRec) {f : RF} (h : offHcqLive f.addr = true) (n : f.addr ≠ Reg.CPL_PI) :
    (s.putCpl t c).rbit f = s.rbit f := by rw [State.rbit, State.rget_putCpl_ne s t c h n, State.rbit]
/-- CPL_PI advances by one with a completion (R509). -/
theorem State.rget_putCpl_piIndex (s : State) (t : Nat) (c : CplRec) :
    (s.putCpl t c).rget Reg.CPL_PI_V = (s.rget Reg.CPL_PI_V + 1) % 65536 := by
  have h := s.rget_rset_same (f := Reg.CPL_PI_V) ((s.rget Reg.CPL_PI_V + 1) % 65536) (by decide)
  rw [State.rget, State.wordN_putCpl s t c (by decide)]
  simpa [Reg.CPL_PI_V, State.rget] using h

/-! ## The course of a command (17 R509 to R515) -/

/-- The state in which the effect of a command begins: CMD_CI has passed its descriptor. -/
def State.taken (s : State) : State := s.rset Reg.CMD_CI_V ((s.rget Reg.CMD_CI_V + 1) % 65536)

@[simp] theorem State.taken_red (s : State) : s.taken.red = s.red := rfl
@[simp] theorem State.taken_hcq (s : State) : s.taken.hcq = s.hcq := rfl
theorem State.wordN_taken_ne (s : State) {a : Nat} (n : a ≠ Reg.CMD_CI) : s.taken.wordN a = s.wordN a := s.wordN_rset_ne _ n
theorem State.rget_taken_ne (s : State) {f : RF} (n : f.addr ≠ Reg.CMD_CI) : s.taken.rget f = s.rget f := s.rget_rset_ne _ n
theorem State.rbit_taken_ne (s : State) {f : RF} (n : f.addr ≠ Reg.CMD_CI) : s.taken.rbit f = s.rbit f := by
  rw [State.rbit, State.rget_taken_ne s n, State.rbit]

/-- A command that passes the checks runs its own effect. -/
theorem State.cmdCheck_of_cmdReady {s : State} {t : Nat} {d : Desc} (h : s.cmdReady t d = true) (f : State → CmdRes) :
    s.taken.cmdCheck t d false false f = f s.taken := by
  simp only [State.cmdReady, Bool.and_eq_true, beq_iff_eq, Bool.not_eq_true', Option.isNone_iff_eq_none] at h
  obtain ⟨⟨⟨⟨-, hello⟩, hcp⟩, resv⟩, fetch⟩ := h
  have hello' : s.taken.rbit Reg.HCQ_STAT_HELLO_DONE = true := by rw [State.rbit_taken_ne s (by decide)]; exact hello
  have hcp' : s.taken.rget Reg.HCQ_STAT_HCP = d.hcp := by rw [State.rget_taken_ne s (by decide), hcp]
  simp [State.cmdCheck, rangeFirst, hello', hcp', resv, fetch]
/-- HELLO before a version is chosen passes the checks where its descriptor names no other byte and is read. -/
theorem State.cmdCheck_hello {s : State} {d : Desc} (t : Nat) (hello : s.rbit Reg.HCQ_STAT_HELLO_DONE = false)
    (hd : d.resv = none ∧ d.fetchFail = false) (f : State → CmdRes) : s.taken.cmdCheck t d true false f = f s.taken := by
  have hello' : s.taken.rbit Reg.HCQ_STAT_HELLO_DONE = false := by rw [State.rbit_taken_ne s (by decide)]; exact hello
  simp [State.cmdCheck, rangeFirst, hello', hd.1, hd.2]
theorem State.ringReady_of_cmdReady {s : State} {t : Nat} {d : Desc} (h : s.cmdReady t d = true) : s.ringReady t = true := by
  simp only [State.cmdReady, Bool.and_eq_true] at h
  exact h.1.1.1.1

/-- A command that takes effect writes an OK completion with its RESULT. -/
theorem State.runCmd_ok {s : State} {t : Nat} (h : s.ringReady t = true) {op : Nat} {d : Desc} {hello priv : Bool} {f : State → CmdRes} {z : State}
    {r : Nat} (e : s.taken.cmdCheck t d hello priv f = .ok z r) : s.runCmd t op d hello priv f = z.putCpl t ⟨d.tag, 0, op, noOfs, t, r⟩ := by
  unfold State.taken at e
  simp [State.runCmd, State.runCmdAt, h, e]
/-- A command that is turned away writes a completion with its status and changes nothing else. -/
theorem State.runCmd_err {s : State} {t : Nat} (h : s.ringReady t = true) {op : Nat} {d : Desc} {hello priv : Bool} {f : State → CmdRes}
    {st o r : Nat} (e : s.taken.cmdCheck t d hello priv f = .err st o r) :
    s.runCmd t op d hello priv f = s.taken.putCpl t ⟨d.tag, st, op, o, t, r⟩ := by
  unfold State.taken at e ⊢
  simp [State.runCmd, State.runCmdAt, h, e]

/-- What a command's effect may not touch: the ring's size and indices. -/
def State.ringKept (s z : State) : Prop := ∀ a ∈ [Reg.HCQ_CTL, Reg.CMD_CI, Reg.CPL_PI], z.wordN a = s.wordN a

/-- A command whose effect leaves the ring alone reads one descriptor and writes one completion. -/
theorem State.completes_putCpl {s z : State} (h : s.taken.ringKept z) (t : Nat) (c : CplRec) : s.completes (z.putCpl t c) c := by
  have ctl : z.wordN Reg.HCQ_CTL = s.wordN Reg.HCQ_CTL := (h _ (by simp)).trans (s.wordN_taken_ne (by decide))
  have ci : z.rget Reg.CMD_CI_V = s.taken.rget Reg.CMD_CI_V := by rw [State.rget, h _ (by simp [Reg.CMD_CI_V, Reg.CMD_CI]), State.rget]
  have pi : z.rget Reg.CPL_PI_V = s.rget Reg.CPL_PI_V := by
    rw [State.rget, h _ (by simp [Reg.CPL_PI_V, Reg.CPL_PI]), ← State.rget, State.rget_taken_ne s (by decide)]
  have log : z.ringLog = s.ringLog := by
    have e : z.rget Reg.HCQ_CTL_RING_LOG2 = s.rget Reg.HCQ_CTL_RING_LOG2 := congrArg (bits · 1 4) ctl
    simp only [State.ringLog, e]
  refine ⟨?_, ?_, ?_⟩
  · rw [State.rget_putCpl_ne z t c (by decide) (by decide), ci]
    exact (s.rget_rset_same _ (by decide)).trans (Nat.mod_mod _ _)
  · rw [State.rget_putCpl_piIndex, pi]
  · rw [State.putCpl_out, pi, log]
    exact List.mem_cons_self
/-- A completion stands after the step that wrote it. -/
theorem State.completes_ended {s z : State} {c : CplRec} (h : s.completes z c) (y : State) (n : Nat) : s.completes (y.ended z n) c := by
  obtain ⟨ci, pi, out⟩ := h
  exact ⟨by rw [State.rget_ended, ci], by rw [State.rget_ended, pi], y.out_ended z n out⟩

/-- A command that passes the checks, takes effect and leaves the ring alone: what holds of its effect with the completion written holds of
the step. -/
theorem Runs.of_ok {i : Instr} {s z : State} {P : State → Prop} {t op r : Nat} {d : Desc} {f : State → CmdRes}
    (e : exec i s = event t (fun s => s.runCmd t op d false false f) s) (h : s.cmdReady t d = true) (hf : f (s.at_ t).taken = .ok z r)
    (hp : P (s.ended (z.putCpl t ⟨d.tag, 0, op, noOfs, t, r⟩) (max s.dts t))) : Runs i s P := by
  have h' : (s.at_ t).cmdReady t d = true := h
  refine .of_event e ?_
  rwa [State.runCmd_ok (State.ringReady_of_cmdReady h') ((State.cmdCheck_of_cmdReady h' f).trans hf)]
/-- A command that passes the checks and is refused by its own. -/
theorem Runs.of_err {i : Instr} {s : State} {P : State → Prop} {t op st o r : Nat} {d : Desc} {f : State → CmdRes}
    (e : exec i s = event t (fun s => s.runCmd t op d false false f) s) (h : s.cmdReady t d = true) (hf : f (s.at_ t).taken = .err st o r)
    (hp : P (s.ended ((s.at_ t).taken.putCpl t ⟨d.tag, st, op, o, t, r⟩) (max s.dts t))) : Runs i s P := by
  have h' : (s.at_ t).cmdReady t d = true := h
  refine .of_event e ?_
  rwa [State.runCmd_err (State.ringReady_of_cmdReady h') ((State.cmdCheck_of_cmdReady h' f).trans hf)]

end Sys2Proof.Machine

/-! ## Writes of the ring registers (17 R508, R509, R517) -/
namespace Sys2Proof.Machine
open Sys2Proof

/-- What a write brings to the fields that the map lists. -/
theorem listedBits_of_fields {a : Nat} {l : List FieldRow} (h : (rowAt a).map (·.1.fields) = some l) (v : Nat) :
    listedBits a v = l.foldl (fun x f => setBits x f.lo f.w (bits v f.lo f.w)) 0 := by
  obtain ⟨⟨r, i, j⟩, hr, rfl⟩ := Option.map_eq_some_iff.1 h
  simp only [listedBits, hr]
/-- A register with one field from bit 0. -/
theorem listedBits_one {a w n : Nat} {x : Acc} {l : Option (Nat × Nat)} (h : (rowAt a).map (·.1.fields) = some [⟨0, w, x, n, l⟩]) (hw : w ≤ 32)
    (v : Nat) : listedBits a (bits v 0 32) = v % 2 ^ w := by
  rw [listedBits_of_fields h]
  simp [setBits, bits, Nat.mod_mod_of_dvd _ (Nat.pow_dvd_pow 2 hw)]
/-- HCQ_CTL holds EN and RING_LOG2, its five low bits. -/
theorem listedBits_hcqCtl (v : Nat) : listedBits Reg.HCQ_CTL (bits v 0 32) = v % 32 := by
  rw [listedBits_of_fields (l := [⟨0, 1, .rw, 0, none⟩, ⟨1, 4, .rw, 4, none⟩]) (by decide)]
  simp only [List.foldl_cons, List.foldl_nil, setBits, bits]
  omega

/-- CMD_CI in the register map. -/
def cmdCiRow : RegRow := ⟨"CMD_CI", 0x20024, 1, 0x4, 1, 0x4, .plain, 0, [⟨0, 16, .ro, 0, none⟩]⟩
/-- HCQ_STAT in the register map. -/
def hcqStatRow : RegRow :=
  ⟨"HCQ_STAT", 0x20004, 1, 0x4, 1, 0x4, .plain, 0, [⟨0, 1, .ro, 0, none⟩, ⟨1, 1, .ro, 0, none⟩, ⟨2, 1, .ro, 0, none⟩, ⟨16, 16, .ro, 0, none⟩]⟩
theorem rowAt_cmdCi : rowAt Reg.CMD_CI = some (cmdCiRow, 0, 0) := by decide
theorem rowAt_hcqStat : rowAt Reg.HCQ_STAT = some (hcqStatRow, 0, 0) := by decide

/-- A host write of CMD_CI leaves the index. -/
theorem State.rget_writeWord_cmdCi (s : State) (t y : Nat) : (s.writeWord t Reg.CMD_CI y).rget Reg.CMD_CI_V = s.rget Reg.CMD_CI_V :=
  State.rget_writeWord_ro (f := ⟨0, 16, .ro, 0, none⟩) rowAt_cmdCi rfl (by decide) (by decide) ⟨by decide, by decide⟩ (by decide) rfl s t y
/-- A host write of HCQ_STAT leaves HELLO_DONE. -/
theorem State.rget_writeWord_helloDone (s : State) (t y : Nat) :
    (s.writeWord t Reg.HCQ_STAT y).rget Reg.HCQ_STAT_HELLO_DONE = s.rget Reg.HCQ_STAT_HELLO_DONE :=
  State.rget_writeWord_ro (f := ⟨2, 1, .ro, 0, none⟩) rowAt_hcqStat rfl (by decide) (by decide) ⟨by decide, by decide⟩ (by decide) rfl s t y
/-- A host write of CMD_CI leaves the other words. -/
theorem State.wordN_writeWord_cmdCi (s : State) (t y : Nat) {c : Nat} (h : c ≠ Reg.CMD_CI) : (s.writeWord t Reg.CMD_CI y).wordN c = s.wordN c := by
  rw [State.writeWord_plain rowAt_cmdCi rfl (by decide) (by decide), State.wordN_setWord_ne _ _ h]
theorem State.rget_writeWord_cmdCi_ne (s : State) (t y : Nat) {f : RF} (h : f.addr ≠ Reg.CMD_CI) : (s.writeWord t Reg.CMD_CI y).rget f = s.rget f := by
  rw [State.rget, State.wordN_writeWord_cmdCi s t y h, State.rget]
/-- A host write of HCQ_STAT leaves the other words. -/
theorem State.rget_writeWord_hcqStat_ne (s : State) (t y : Nat) {f : RF} (h : f.addr ≠ Reg.HCQ_STAT) :
    (s.writeWord t Reg.HCQ_STAT y).rget f = s.rget f := by
  rw [State.writeWord_plain rowAt_hcqStat rfl (by decide) (by decide), State.rget, State.wordN_setWord_ne _ _ h, State.rget]
theorem State.rbit_writeWord_hcqStat_ne (s : State) (t y : Nat) {f : RF} (h : f.addr ≠ Reg.HCQ_STAT) :
    (s.writeWord t Reg.HCQ_STAT y).rbit f = s.rbit f := by rw [State.rbit, State.rget_writeWord_hcqStat_ne s t y h, State.rbit]
theorem State.rbit_writeWord_helloDone (s : State) (t y : Nat) :
    (s.writeWord t Reg.HCQ_STAT y).rbit Reg.HCQ_STAT_HELLO_DONE = s.rbit Reg.HCQ_STAT_HELLO_DONE := by
  rw [State.rbit, State.rget_writeWord_helloDone, State.rbit]

/-- The kind of the register at an offset, as `Runs.of_hostWrite` asks for it. -/
theorem plain_of_specialAt {o : Nat} (h : (specialAt o).all (fun p => p.1 == .plain) = true) (k : Special) (n : Nat)
    (e : specialAt o = some (k, n)) : k = .plain := by simpa [e] using h
/-- A register of a kind that no rule refuses takes every write. -/
theorem State.hostFault_of_specialAt {o : Nat} (h : (specialAt o).all (fun p => neverRefused p.1) = true) (s z : State) (v : Nat) :
    s.hostFault z o v = none :=
  State.hostFault_neverRefused (fun k n e => by simpa [e] using h) s z v

theorem specialAt_cmdPi : specialAt Reg.CMD_PI = some (.cmdPi, 0) := by decide
theorem specialAt_cplCi : specialAt Reg.CPL_CI = some (.cplCi, 0) := by decide
theorem specialAt_hcqCtl : specialAt Reg.HCQ_CTL = some (.hcqCtl, 0) := by decide
theorem specialAt_irqAck : specialAt Reg.SYS_IRQ_ACK = some (.irqAck, 0) := by decide

/-- An index within the ring is taken (R508). -/
theorem State.cmdPiStore_room {s : State} {v : Nat} (h : idxDiff (v % 65536) (s.rget Reg.CMD_CI_V) ≤ 2 ^ s.ringLog) (t : Nat) (a : Access) :
    s.cmdPiStore t a v = (s.rset Reg.CMD_PI_V (v % 65536)).fullShow t := if_neg (Nat.not_lt.2 h)

theorem cmdPiWrite_holds : Claims.cmdPiWrite := by
  intro s t a v h ha hi
  have hv : listedBits Reg.CMD_PI (bits v 0 32) = v % 65536 :=
    listedBits_one (w := 16) (n := 0) (x := .rw) (l := none) (by decide) (by decide) v
  have hw : (s.at_ t).hostWord t a Reg.CMD_PI (v % 65536) = ((s.at_ t).rset Reg.CMD_PI_V (v % 65536)).fullShow t := by
    simp only [State.hostWord, specialAt_cmdPi]
    rw [State.cmdPiStore_room (by rw [Nat.mod_mod]; exact hi), Nat.mod_mod]
  refine .of_hostWrite (own := (· == .cmdPi)) (x := .cmdPi) (i := 0) rfl h (ha ▸ specialAt_cmdPi) rfl
    (fun z => State.hostFault_of_specialAt (by rw [ha]; decide) _ z _) (fun _ => plain_of_specialAt (by rw [ha]; decide)) ?_ (fun _ y => ?_)
  · rw [ha, hv, hw]
    simp (disch := decide) [State.rget_fullShow, State.wordN_fullShow, State.rget_rset_same, State.rget_rset_ne, State.wordN_rset_ne, Reg.CMD_PI_V]
  · rw [ha, hv, hw, show Reg.CMD_PI + 4 = Reg.CMD_CI from rfl]
    simp (disch := decide) [State.rget_writeWord_cmdCi, State.rget_writeWord_cmdCi_ne, State.wordN_writeWord_cmdCi, State.rget_fullShow,
      State.wordN_fullShow, State.rget_rset_same, State.rget_rset_ne, State.wordN_rset_ne, Reg.CMD_PI_V]

theorem cplCiWrite_holds : Claims.cplCiWrite := by
  intro s t a v h ha
  have hv : listedBits Reg.CPL_CI (bits v 0 32) = v % 65536 :=
    listedBits_one (w := 16) (n := 0) (x := .rw) (l := none) (by decide) (by decide) v
  have hw : (s.at_ t).hostWord t a Reg.CPL_CI (v % 65536) = ((s.at_ t).rset Reg.CPL_CI_V (v % 65536)).fullShow t := by
    simp only [State.hostWord, specialAt_cplCi, State.cplCiStore, Nat.mod_mod]
  have odd : a.off % 8 ≠ 0 := by rw [ha]; decide
  refine .of_hostWrite (own := (· == .cplCi)) (x := .cplCi) (i := 0) rfl h (ha ▸ specialAt_cplCi) rfl
    (fun z => State.hostFault_of_specialAt (by rw [ha]; decide) _ z _) (fun e => absurd e odd) ?_ (fun e => absurd e odd)
  rw [ha, hv, hw]
  simp (disch := decide) [State.rget_fullShow, State.rget_rset_same, State.rget_rset_ne, Reg.CPL_CI_V]

/-! ### HCQ_CTL -/

theorem bit_mod_32 (v : Nat) : bit (v % 32) 0 = bit v 0 := by
  rw [bit, show (32 : Nat) = 2 ^ 5 from rfl, Nat.testBit_mod_two_pow]; simp [bit]
theorem bits_mod_32 (v : Nat) : bits (v % 32) 1 4 = bits v 1 4 := by
  simp only [bits]
  omega
theorem State.rbit_rset_ne (s : State) {f g : RF} (v : Nat) (h : g.addr ≠ f.addr) : (s.rset f v).rbit g = s.rbit g := by
  rw [State.rbit, State.rget_rset_ne s v h, State.rbit]

/-- A write of HCQ_CTL while the ring is off stores RING_LOG2 and EN. -/
theorem State.hcqCtlStore_off {s : State} (h : s.rbit Reg.HCQ_CTL_EN = false) (t v : Nat) :
    s.hcqCtlStore t v = ((s.rset Reg.HCQ_CTL_RING_LOG2 (bits v 1 4)).rsetb Reg.HCQ_CTL_EN (bit v 0)).fullShow t := by
  simp [State.hcqCtlStore, h]
/-- A write that clears EN with no command in execution closes the ring. -/
theorem State.hcqCtlStore_close {s : State} {v : Nat} (h : s.rbit Reg.HCQ_CTL_EN = true) (hv : bit v 0 = false) (hx : s.hcq.exec = none) (t : Nat) :
    s.hcqCtlStore t v = ((s.rset Reg.HCQ_CTL_RING_LOG2 (bits v 1 4)).rsetb Reg.HCQ_CTL_EN false).ringClose t := by
  simp [State.hcqCtlStore, h, hv, hx]

theorem State.rget_ringClose_index (s : State) (t : Nat) {f : RF}
    (h : f = Reg.CMD_PI_V ∨ f = Reg.CMD_CI_V ∨ f = Reg.CPL_PI_V ∨ f = Reg.CPL_CI_V) : (s.ringClose t).rget f = 0 := by
  rcases h with rfl | rfl | rfl | rfl <;>
    simp (disch := decide) [State.ringClose, State.rget_fullShow, State.rget_rset_same, State.rget_rset_ne, State.rsetb]
theorem State.rbit_ringClose_helloDone (s : State) (t : Nat) : (s.ringClose t).rbit Reg.HCQ_STAT_HELLO_DONE = false := by
  have h (z : State) : (z.rset Reg.HCQ_STAT_HCP 0).rbit Reg.HCQ_STAT_HELLO_DONE = z.rbit Reg.HCQ_STAT_HELLO_DONE := by
    rw [State.rbit, State.rget_rset_apart (f := Reg.HCQ_STAT_HCP) (g := Reg.HCQ_STAT_HELLO_DONE) z 0 rfl (by decide) (by decide), State.rbit]
  simp only [State.ringClose]
  rw [State.rbit_fullShow _ _ (by decide), h, State.rbit_rsetb_same _ _ (by decide) rfl]
theorem State.rbit_ringClose_en (s : State) (t : Nat) : (s.ringClose t).rbit Reg.HCQ_CTL_EN = s.rbit Reg.HCQ_CTL_EN := by
  simp (disch := decide) [State.ringClose, State.rbit_fullShow, State.rbit_rset_ne, State.rsetb]

/-- A write of HCQ_CTL is refused only where it changes RING_LOG2 of a ring that is on (R517). -/
theorem State.hostFault_hcqCtl {s : State} {v : Nat} (h : s.rbit Reg.HCQ_CTL_EN = true → bits v 1 4 = s.rget Reg.HCQ_CTL_RING_LOG2) (z : State) :
    s.hostFault z Reg.HCQ_CTL (v % 32) = none := by
  simp only [State.hostFault, specialAt_hcqCtl, State.hcqCtlFault, bits_mod_32]
  exact if_neg fun c => c.2 (h c.1)

theorem hcqCtlWrite_holds : Claims.hcqCtlWrite := by
  intro s t a v h ha off
  have hw : (s.at_ t).hostWord t a Reg.HCQ_CTL (v % 32) =
      (((s.at_ t).rset Reg.HCQ_CTL_RING_LOG2 (bits v 1 4)).rsetb Reg.HCQ_CTL_EN (bit v 0)).fullShow t := by
    simp only [State.hostWord, specialAt_hcqCtl]
    rw [State.hcqCtlStore_off (s := s.at_ t) off, bits_mod_32, bit_mod_32]
  have log (z : State) : ((z.rset Reg.HCQ_CTL_RING_LOG2 (bits v 1 4)).rsetb Reg.HCQ_CTL_EN (bit v 0)).rget Reg.HCQ_CTL_RING_LOG2 = bits v 1 4 := by
    rw [State.rsetb, State.rget_rset_apart (f := Reg.HCQ_CTL_EN) (g := Reg.HCQ_CTL_RING_LOG2) _ _ rfl (by decide) (by decide),
      State.rget_rset_same _ _ (by decide)]
    exact Nat.mod_mod _ _
  have en (z : State) : ((z.rset Reg.HCQ_CTL_RING_LOG2 (bits v 1 4)).rsetb Reg.HCQ_CTL_EN (bit v 0)).rbit Reg.HCQ_CTL_EN = bit v 0 :=
    State.rbit_rsetb_same _ _ (by decide) rfl
  refine .of_hostWrite (own := (· == .hcqCtl)) (x := .hcqCtl) (i := 0) rfl h (ha ▸ specialAt_hcqCtl) rfl (fun z => ?_)
    (fun _ => plain_of_specialAt (by rw [ha]; decide)) ?_ (fun _ y => ?_)
  · rw [ha, listedBits_hcqCtl]
    exact State.hostFault_hcqCtl (s := s.at_ t) (fun on => by rw [State.rbit_at, off] at on; cases on) z
  · rw [ha, listedBits_hcqCtl, hw]
    simp (disch := decide) only [State.rbit_ended, State.rget_ended, State.rget_fullShow, State.rbit_fullShow, log, en, and_self]
  · rw [ha, listedBits_hcqCtl, hw, show Reg.HCQ_CTL + 4 = Reg.HCQ_STAT from rfl]
    simp (disch := decide) only [State.rbit_ended, State.rget_ended, State.rget_writeWord_hcqStat_ne, State.rbit_writeWord_hcqStat_ne,
      State.rget_fullShow, State.rbit_fullShow, log, en, and_self]

theorem ringDisabled_holds : Claims.ringDisabled := by
  intro s t a v h ha on hv hx
  obtain ⟨on, hlog⟩ := on
  have hw : (s.at_ t).hostWord t a Reg.HCQ_CTL (v % 32) =
      (((s.at_ t).rset Reg.HCQ_CTL_RING_LOG2 (bits v 1 4)).rsetb Reg.HCQ_CTL_EN false).ringClose t := by
    simp only [State.hostWord, specialAt_hcqCtl]
    rw [State.hcqCtlStore_close (s := s.at_ t) on (by rw [bit_mod_32, hv]) hx, bits_mod_32]
  have en (z : State) : (z.rsetb Reg.HCQ_CTL_EN false).rbit Reg.HCQ_CTL_EN = false := State.rbit_rsetb_same _ _ (by decide) rfl
  refine .of_hostWrite (own := (· == .hcqCtl)) (x := .hcqCtl) (i := 0) rfl h (ha ▸ specialAt_hcqCtl) rfl (fun z => ?_)
    (fun _ => plain_of_specialAt (by rw [ha]; decide)) ?_ (fun _ y => ?_)
  · rw [ha, listedBits_hcqCtl]
    exact State.hostFault_hcqCtl (s := s.at_ t) (fun _ => hlog) z
  · rw [ha, listedBits_hcqCtl, hw]
    simp [State.rget_ringClose_index, State.rbit_ringClose_helloDone, State.rbit_ringClose_en, en]
  · rw [ha, listedBits_hcqCtl, hw, show Reg.HCQ_CTL + 4 = Reg.HCQ_STAT from rfl]
    simp (disch := decide) [State.rget_writeWord_hcqStat_ne, State.rbit_writeWord_hcqStat_ne, State.rbit_writeWord_helloDone,
      State.rget_ringClose_index, State.rbit_ringClose_helloDone, State.rbit_ringClose_en, en]

/-! ### Ring addresses -/

/-- A ring address is stored aligned while the ring is off (R517). -/
theorem hcqBaseWrite_holds : Claims.hcqBaseWrite := by
  intro s t a v h hs ha off
  have hx : ∃ n, specialAt a.off = some (.hcqBase, n) := by
    simp only [List.mem_cons, List.not_mem_nil, or_false] at ha
    rcases ha with e | e | e | e <;> rw [e] <;> exact ⟨0, by decide⟩
  have hv : listedBits a.off (bits v 0 32) = v % 2 ^ 32 := by
    simp only [List.mem_cons, List.not_mem_nil, or_false] at ha
    rcases ha with e | e | e | e <;> rw [e] <;>
      exact listedBits_one (w := 32) (n := 0) (x := .rw) (l := none) (by decide) (by decide) v
  obtain ⟨n, hx⟩ := hx
  have hf (z : State) : (s.at_ t).hostFault z a.off (listedBits a.off (bits v 0 32)) = none := by
    simp only [State.hostFault, hx, State.rbit_at, off]
    rfl
  refine .of_event rfl ?_
  rw [hostAccess_accepted (s := s.at_ t) h, hostWrite_four t v _ hs hx rfl hf, hv]
  simp only [State.hostWord, hx, State.hcqBaseStore]
  refine ⟨?_, fun c hc => ?_⟩
  · rw [State.wordN_ended, State.wordN_setWord_same]
    refine Nat.mod_eq_of_lt ?_
    have lt : v % 2 ^ 32 < 2 ^ 32 := Nat.mod_lt _ (Nat.two_pow_pos 32)
    have le (k : Nat) : v % 2 ^ 32 / k * k ≤ v % 2 ^ 32 := Nat.div_mul_le_self _ _
    split
    · exact Nat.lt_of_le_of_lt (le 64) lt
    · split
      · exact Nat.lt_of_le_of_lt (le 32) lt
      · exact lt
  · rw [State.wordN_ended, State.wordN_setWord_ne _ _ hc]; rfl

end Sys2Proof.Machine

/-! ## The end of a step: what an armed vector does (17 R520) -/
namespace Sys2Proof.Machine
open Sys2Proof

theorem State.vecMasked_of_regs {s u : State} (h : u.regs = s.regs) (v : Nat) : u.vecMasked v = s.vecMasked v := by
  have e (f : RF) : u.rget f = s.rget f := by simp only [State.rget, State.wordN, State.word, h]
  simp only [State.vecMasked, State.rbit, e]
theorem State.msixOut_of_regs {s u : State} (h : u.regs = s.regs) (v : Nat) : u.msixOut v = s.msixOut v := by
  simp only [State.msixOut, State.wordN, State.word, h]

/-- Messages of vectors withdraw none that has left before. -/
theorem State.out_msixSends {o : Out} (l : List Nat) {s : State} (h : o ∈ s.out) : o ∈ (l.foldl State.msixSend s).out := by
  induction l generalizing s with
  | nil => exact h
  | cons v r ih =>
    refine ih ?_
    unfold State.msixSend
    split
    · exact h
    · exact List.mem_cons_of_mem _ h
/-- An unmasked vector among those that send has its message leave. -/
theorem State.msixOut_mem_msixSends {v : Nat} {l : List Nat} (hv : v ∈ l) {s : State} (hm : s.vecMasked v = false) :
    s.msixOut v ∈ (l.foldl State.msixSend s).out := by
  induction l generalizing s with
  | nil => cases hv
  | cons w r ih =>
    rw [List.foldl_cons]
    rcases List.mem_cons.1 hv with rfl | hr
    · refine State.out_msixSends r ?_
      unfold State.msixSend
      rw [if_neg (by simp [hm])]
      exact List.mem_cons_self
    · have same := s.msixSend_regs w
      rw [← State.msixOut_of_regs same]
      exact ih hr (by rw [State.vecMasked_of_regs same, hm])
/-- Pending bits that are set stay set while vectors send. -/
theorem State.pba_msixSends {v : Nat} (l : List Nat) {s : State} (h : s.irq.pba.getLsbD v = true) :
    (l.foldl State.msixSend s).irq.pba.getLsbD v = true := by
  induction l generalizing s with
  | nil => exact h
  | cons w r ih =>
    refine ih ?_
    unfold State.msixSend
    split
    · simp [h]
    · exact h
/-- A masked vector among those that send has its pending bit set. -/
theorem State.pba_mem_msixSends {v : Nat} (h64 : v < 64) {l : List Nat} (hv : v ∈ l) {s : State} (hm : s.vecMasked v = true) :
    (l.foldl State.msixSend s).irq.pba.getLsbD v = true := by
  induction l generalizing s with
  | nil => cases hv
  | cons w r ih =>
    rw [List.foldl_cons]
    rcases List.mem_cons.1 hv with rfl | hr
    · refine State.pba_msixSends r ?_
      unfold State.msixSend
      rw [if_pos hm]
      rw [BitVec.getLsbD_or, BitVec.natCast_eq_ofNat, BitVec.getLsbD_ofNat, Nat.testBit_shiftLeft]
      simp [h64]
    · exact ih hr (by rw [State.vecMasked_of_regs (s.msixSend_regs w), hm])

/-- No vector fires where none that is armed has its cause at 1. -/
theorem State.noneFires {s : State} (h : causes s.regs (rollup s.regs) &&& s.irq.armed = 0) :
    ((List.range 64).filter fun v => (causes s.regs (rollup s.regs) &&& s.irq.armed).getLsbD v) = [] :=
  List.filter_eq_nil_iff.2 fun v _ => by simp only [h, BitVec.ofNat_eq_ofNat, BitVec.getLsbD_zero, Bool.false_eq_true, not_false_eq_true]
/-- The vectors that fire at the end of a step send one after another. -/
theorem State.settle_out (s : State) : s.settle.out =
    (((List.range 64).filter fun v => (causes s.regs (rollup s.regs) &&& s.irq.armed).getLsbD v).foldl State.msixSend s).out := by
  unfold State.settle
  dsimp only
  split
  · rename_i none
    rw [State.noneFires none, List.foldl_nil]
  · rfl
theorem State.settle_pba (s : State) : s.settle.irq.pba =
    (((List.range 64).filter fun v => (causes s.regs (rollup s.regs) &&& s.irq.armed).getLsbD v).foldl State.msixSend s).irq.pba := by
  unfold State.settle
  dsimp only
  split
  · rename_i none
    rw [State.noneFires none, List.foldl_nil]
  · rfl
/-- After a step a vector is armed where it was and its cause is 0. -/
theorem State.settle_armed (s : State) {v : Nat} (h : v < 64) :
    s.settle.irq.armed.getLsbD v = (s.irq.armed.getLsbD v && !(causes s.regs (rollup s.regs)).getLsbD v) := by
  have e : s.settle.irq.armed = s.irq.armed &&& ~~~(causes s.regs (rollup s.regs) &&& s.irq.armed) := rfl
  rw [e, BitVec.getLsbD_and, BitVec.getLsbD_not, BitVec.getLsbD_and]
  cases s.irq.armed.getLsbD v <;> simp [h]

/-- An acknowledged vector is armed until its cause is 1, and then sends or is pending (R520). -/
theorem sysIrqAckWrite_holds : Claims.sysIrqAckWrite := by
  intro s t a v wf h ha hv
  have hl : listedBits Reg.SYS_IRQ_ACK (bits v 0 32) = v := by
    rw [listedBits_one (w := 6) (n := 0) (x := .wo) (l := none) (by decide) (by decide) v]
    exact Nat.mod_eq_of_lt hv
  have hw : (s.at_ t).hostWord t a Reg.SYS_IRQ_ACK v = (s.at_ t).irqAck v := by simp only [State.hostWord, specialAt_irqAck]
  have hz : ((s.at_ t).irqAck v).tidy = (s.at_ t).irqAck v := State.tidy_wf wf
  have armed : ((s.at_ t).irqAck v).irq.armed.getLsbD v = true := by simp [State.irqAck, Nat.mod_eq_of_lt hv, hv]
  have fires (hc : (causes s.regs (rollup s.regs)).getLsbD v = true) :
      v ∈ (List.range 64).filter fun w => (causes s.regs (rollup s.regs) &&& ((s.at_ t).irqAck v).irq.armed).getLsbD w := by
    simp [hv, hc, armed]
  have ends : (s.ended ((s.at_ t).irqAck v) (max s.dts t)).irq.armed.getLsbD v = !(causes s.regs (rollup s.regs)).getLsbD v ∧
      ((causes s.regs (rollup s.regs)).getLsbD v = true → s.vecMasked v = false → s.msixOut v ∈ (s.ended ((s.at_ t).irqAck v) (max s.dts t)).out) ∧
      ((causes s.regs (rollup s.regs)).getLsbD v = true → s.vecMasked v = true →
        (s.ended ((s.at_ t).irqAck v) (max s.dts t)).irq.pba.getLsbD v = true) := by
    simp only [State.ended, hz]
    refine ⟨?_, fun hc hm => ?_, fun hc hm => ?_⟩
    · rw [State.settle_armed _ hv, armed]; rfl
    · rw [State.settle_out]; exact State.msixOut_mem_msixSends (s := (s.at_ t).irqAck v) (fires hc) hm
    · rw [State.settle_pba]; exact State.pba_mem_msixSends (s := (s.at_ t).irqAck v) hv (fires hc) hm
  refine .of_hostWrite (own := (· == .irqAck)) (x := .irqAck) (i := 0) rfl h (ha ▸ specialAt_irqAck) rfl
    (fun z => State.hostFault_of_specialAt (by rw [ha]; decide) _ z _) (fun _ => plain_of_specialAt (by rw [ha]; decide)) ?_ (fun _ y => ?_)
  · rw [ha, hl, hw]
    exact ends
  · rw [ha, hl, hw, State.writeWord_unmapped (by decide)]
    exact ends

/-! ## HELLO and the journal (17 R510; 19 R544) -/

theorem exec_hello (t : Nat) (d : Desc) (rng : Nat) (s : State) :
    exec (.hello t d rng) s = event t (fun s => (s.runCmd t 1 d true false (helloRun t rng)).replay t) s := rfl
theorem exec_versionRange (t : Nat) (d : Desc) (iface link rng : Nat) (s : State) :
    exec (.versionRange t d iface link rng) s = event t (fun s => s.runCmd t 2 d false false (versionRangeRun iface link rng)) s := rfl
theorem exec_setDevid (t : Nat) (d : Desc) (v : Nat) (s : State) :
    exec (.setDevid t d v) s = event t (fun s => s.runCmd t 3 d false false (setDevidRun v)) s := rfl
theorem exec_undefinedOpcode (t : Nat) (d : Desc) (op : Nat) (s : State) : exec (.undefinedOpcode t d op) s =
    event t (fun s => s.runCmd t op { d with resv := none, fetchFail := false } false false fun _ => .err 0xA noOfs 0) s := rfl

/-- HELLO writes the completion of its effect, and then the journal is replayed. -/
theorem Runs.of_hello {s : State} {P : State → Prop} {t rng : Nat} {d : Desc} {z : State} {c : CplRec}
    (hz : (s.at_ t).runCmd t 1 d true false (helloRun t rng) = z.putCpl t c)
    (hp : P (s.ended ((z.putCpl t c).replay t) (max s.dts t))) : Runs (.hello t d rng) s P := by
  refine .of_event (exec_hello t d rng s) ?_
  rwa [hz]

/-- The state after a HELLO that chooses version x. -/
def State.helloDone (s : State) (t x : Nat) : State :=
  ((s.taken.rsetb Reg.HCQ_STAT_HELLO_DONE true).rset Reg.HCQ_STAT_HCP x).log t 0x6010 0 x

/-- HELLO with a common version completes with it (R510). -/
theorem State.runCmd_hello_ok {s : State} {t rng x : Nat} {d : Desc} (ready : s.ringReady t = true)
    (hello : s.rbit Reg.HCQ_STAT_HELLO_DONE = false) (hd : d.resv = none ∧ d.fetchFail = false) (hx : commonOf s.red.hcpRange rng = some x) :
    s.runCmd t 1 d true false (helloRun t rng) = (s.helloDone t x).putCpl t ⟨d.tag, 0, 1, noOfs, t, x⟩ := by
  refine State.runCmd_ok ready ((State.cmdCheck_hello t hello hd _).trans ?_)
  have hello' : s.taken.rbit Reg.HCQ_STAT_HELLO_DONE = false := by rw [State.rbit_taken_ne s (by decide), hello]
  simp [helloRun, hello', hx, State.helloDone]
/-- HELLO without one is turned away. -/
theorem State.runCmd_hello_none {s : State} {t rng : Nat} {d : Desc} (ready : s.ringReady t = true)
    (hello : s.rbit Reg.HCQ_STAT_HELLO_DONE = false) (hd : d.resv = none ∧ d.fetchFail = false) (hx : commonOf s.red.hcpRange rng = none) :
    s.runCmd t 1 d true false (helloRun t rng) = s.taken.putCpl t ⟨d.tag, 1, 1, noOfs, t, 0⟩ := by
  refine State.runCmd_err ready ((State.cmdCheck_hello t hello hd _).trans ?_)
  have hello' : s.taken.rbit Reg.HCQ_STAT_HELLO_DONE = false := by rw [State.rbit_taken_ne s (by decide), hello]
  simp [helloRun, hello', hx]

theorem State.rbit_helloDone (s : State) (t x : Nat) : (s.helloDone t x).rbit Reg.HCQ_STAT_HELLO_DONE = true := by
  have h := (s.taken.rsetb Reg.HCQ_STAT_HELLO_DONE true).rget_rset_apart (f := Reg.HCQ_STAT_HCP) (g := Reg.HCQ_STAT_HELLO_DONE) x rfl
    (by decide) (by decide)
  rw [State.helloDone, State.rbit_log, State.rbit, h, ← State.rbit, State.rbit_rsetb_same _ _ (by decide) rfl]
theorem State.rget_helloDone_hcp (s : State) (t : Nat) {x : Nat} (h : x < 65536) : (s.helloDone t x).rget Reg.HCQ_STAT_HCP = x := by
  rw [State.helloDone, State.rget_log, State.rget_rset_same _ _ (by decide)]
  exact Nat.mod_eq_of_lt h
/-- HELLO touches HCQ_STAT, and no index of the ring. -/
theorem State.ringKept_helloDone (s : State) (t x : Nat) : s.taken.ringKept (s.helloDone t x) := by
  intro a ha
  have n : a ≠ Reg.HCQ_STAT := by rintro rfl; revert ha; decide
  rw [State.helloDone, State.wordN_log, State.wordN_rset_ne _ _ n, State.wordN_rsetb_ne _ _ n]

/-- A common version fits the HCP field. -/
theorem commonOf_lt {a b x : Nat} (h : commonOf a b = some x) : x < 65536 := by
  have top {r l k : Nat} (hr : rangeOf r = some (l, k)) : k < 65536 := by
    unfold rangeOf at hr
    split at hr
    · cases hr
    · cases hr
      have h1 : bits r 24 8 < 2 ^ 8 := Nat.mod_lt _ (by decide)
      have h2 : bits r 8 8 < 2 ^ 8 := Nat.mod_lt _ (by decide)
      omega
  unfold commonOf at h
  split at h
  · rename_i l k m n hl _
    have := top hl
    split at h
    · cases h; omega
    · cases h
  · cases h

theorem State.replay_of_empty {s : State} (h : s.hcq.journal = []) (t : Nat) : s.replay t = s := by simp [State.replay, h]
theorem State.replay_before_hello {s : State} (h : s.rbit Reg.HCQ_STAT_HELLO_DONE = false) (t : Nat) : s.replay t = s := by
  simp [State.replay, h]
/-- After HELLO the journal is empty, its records written in turn. -/
theorem State.replay_after_hello {s : State} (h : s.rbit Reg.HCQ_STAT_HELLO_DONE = true) (t : Nat) :
    s.replay t = s.hcq.journal.foldl (fun z c => z.putCpl t c) { s with hcq := { s.hcq with journal := [] } } := by
  by_cases hj : s.hcq.journal = []
  · rw [State.replay_of_empty hj, hj, List.foldl_nil, ← hj]
  · simp [State.replay, h, hj]

theorem State.putCpls_hcq (l : List CplRec) (s : State) (t : Nat) : (l.foldl (fun z c => z.putCpl t c) s).hcq = s.hcq := by
  induction l generalizing s with
  | nil => rfl
  | cons c r ih => rw [List.foldl_cons, ih, State.putCpl_hcq]
theorem State.out_putCpls {o : Out} (l : List CplRec) {s : State} (t : Nat) (h : o ∈ s.out) : o ∈ (l.foldl (fun z c => z.putCpl t c) s).out := by
  induction l generalizing s with
  | nil => exact h
  | cons c r ih => exact ih (by rw [State.putCpl_out]; exact List.mem_cons_of_mem _ h)
/-- Each record written one after another leaves the device, at some position and with some phase. -/
theorem State.completion_mem_putCpls {c : CplRec} {l : List CplRec} (hc : c ∈ l) (s : State) (t : Nat) :
    ∃ n p, Out.completion n (c.bytes p) ∈ (l.foldl (fun z c => z.putCpl t c) s).out := by
  induction l generalizing s with
  | nil => cases hc
  | cons d r ih =>
    rw [List.foldl_cons]
    rcases List.mem_cons.1 hc with rfl | hr
    · exact ⟨_, _, State.out_putCpls r t (by rw [State.putCpl_out]; exact List.mem_cons_self)⟩
    · exact ih hr _

theorem hello_holds : Claims.hello := by
  intro s t d rng x ready hello hd journal hx
  refine .of_hello (State.runCmd_hello_ok (s := s.at_ t) ready hello hd hx) ?_
  rw [State.replay_of_empty (by rw [State.putCpl_hcq]; exact journal)]
  refine ⟨?_, ?_, State.completes_ended (State.completes_putCpl (s := s.at_ t) (State.ringKept_helloDone _ _ _) _ _) _ _⟩
  · rw [State.rbit_ended, State.rbit_putCpl_ne _ _ _ (by decide) (by decide), State.rbit_helloDone]
  · rw [State.rget_ended, State.rget_putCpl_ne _ _ _ (by decide) (by decide), State.rget_helloDone_hcp _ _ (commonOf_lt hx)]

theorem journalReplayed_holds : Claims.journalReplayed := by
  intro s t d rng x ready hello hd hx
  refine .of_hello (State.runCmd_hello_ok (s := s.at_ t) ready hello hd hx) ?_
  rw [State.replay_after_hello (by rw [State.rbit_putCpl_ne _ _ _ (by decide) (by decide), State.rbit_helloDone])]
  refine ⟨fun c hc => ?_, ?_⟩
  · have hc' : c ∈ (((s.at_ t).helloDone t x).putCpl t ⟨d.tag, 0, 1, noOfs, t, x⟩).hcq.journal := by rw [State.putCpl_hcq]; exact hc
    obtain ⟨n, p, hn⟩ := State.completion_mem_putCpls hc' _ t
    refine List.any_eq_true.2 ⟨_, s.out_ended _ _ hn, ?_⟩
    cases p <;> simp
  · rw [State.ended_hcq, State.putCpls_hcq]

theorem noCommonVersion_holds : Claims.noCommonVersion := by
  intro s t d rng ready hello hd hx
  have still : ((s.at_ t).taken.putCpl t ⟨d.tag, 1, 1, noOfs, t, 0⟩).rbit Reg.HCQ_STAT_HELLO_DONE = false := by
    rw [State.rbit_putCpl_ne _ _ _ (by decide) (by decide), State.rbit_taken_ne _ (by decide)]; exact hello
  refine .of_hello (State.runCmd_hello_none (s := s.at_ t) ready hello hd hx) ?_
  rw [State.replay_before_hello still]
  exact ⟨by rw [State.rbit_ended, still],
    State.completes_ended (State.completes_putCpl (s := s.at_ t) (fun _ _ => rfl) _ _) _ _⟩

/-! ## The version commands, and an undefined opcode -/

/-- The advertised records of links stand in SYP_AL_ADV alone. -/
theorem State.wordN_setAdvs (l : List Nat) (rng : Nat) {a : Nat} (h : a < 0x110000) (s : State) :
    (l.foldl (fun z k => z.rset (Reg.SYP_AL_ADV_V k) rng) s).wordN a = s.wordN a := by
  induction l generalizing s with
  | nil => rfl
  | cons k r ih => rw [List.foldl_cons, ih, State.wordN_rset_ne s rng (by simp only [Reg.SYP_AL_ADV_V]; omega)]
/-- Each link of a list has its record set. -/
theorem State.rget_setAdvs {k : Nat} {l : List Nat} (hk : k ∈ l) {rng : Nat} (h : rng < 2 ^ 32) (s : State) :
    (l.foldl (fun z k => z.rset (Reg.SYP_AL_ADV_V k) rng) s).rget (Reg.SYP_AL_ADV_V k) = rng := by
  have keep (r : List Nat) (z : State) (hz : z.rget (Reg.SYP_AL_ADV_V k) = rng) :
      (r.foldl (fun z k => z.rset (Reg.SYP_AL_ADV_V k) rng) z).rget (Reg.SYP_AL_ADV_V k) = rng := by
    induction r generalizing z with
    | nil => exact hz
    | cons j r ih =>
      refine ih _ ?_
      by_cases e : j = k
      · rw [e, State.rget_rset_same z rng (Nat.le_refl _)]; exact Nat.mod_eq_of_lt h
      · rw [State.rget_rset_ne z rng (by simp only [Reg.SYP_AL_ADV_V]; omega), hz]
  induction l generalizing s with
  | nil => cases hk
  | cons j r ih =>
    rw [List.foldl_cons]
    rcases List.mem_cons.1 hk with rfl | hr
    · exact keep r _ ((State.rget_rset_same s rng (Nat.le_refl _)).trans (Nat.mod_eq_of_lt h))
    · exact ih hr _

/-- VERSION_RANGE of the links: the record advertised at their next bring-up. -/
theorem versionRangeRun_links {link rng : Nat} (hl : link < 160 ∨ link = 0xFF) (hn : narrows 0x01000200 rng = true) (s : State) :
    versionRangeRun 2 link rng s = .ok ((if link = 0xFF then List.range 160 else [link]).foldl (fun z l => z.rset (Reg.SYP_AL_ADV_V l) rng) s) 0 := by
  have hl' : ¬ (160 ≤ link ∧ link ≠ 255) := by omega
  simp [versionRangeRun, hn, hl']
/-- VERSION_RANGE of the HCP, JABI or MLP. -/
theorem versionRangeRun_device {iface link rng : Nat} (h3 : iface ≤ 3) (h2 : iface ≠ 2) (hn : narrows 0x01000000 rng = true) (s : State) :
    versionRangeRun iface link rng s = .ok { s with red := if iface = 0 then { s.red with hcpRange := rng }
      else if iface = 1 then { s.red with jabiRange := rng } else { s.red with mlpRange := rng } } 0 := by
  simp [versionRangeRun, hn, h2, Nat.not_lt.2 h3]

theorem versionRange_holds : Claims.versionRange := by
  intro s t d iface link rng ready h3 hl hn h32
  by_cases h2 : iface = 2
  · subst h2
    refine .of_ok (exec_versionRange ..) ready (versionRangeRun_links (hl rfl) hn _) ⟨nofun, nofun, nofun, fun _ l hl160 hll => ?_, ?_⟩
    · have mem : l ∈ (if link = 0xFF then List.range 160 else [link]) := by
        split
        · exact List.mem_range.2 hl160
        · rcases hll with rfl | e
          · exact List.mem_cons_self
          · contradiction
      have off : offHcqLive (Reg.SYP_AL_ADV_V l).addr = true := offHcqLive_iff.2 (.inr (by simp only [Reg.SYP_AL_ADV_V]; omega))
      rw [State.rget_ended, State.rget_putCpl_ne _ _ _ off (by simp only [Reg.SYP_AL_ADV_V, Reg.CPL_PI]; omega), State.rget_setAdvs mem h32]
    · refine State.completes_ended (State.completes_putCpl (s := s.at_ t) (fun a ha => ?_) _ _) _ _
      refine State.wordN_setAdvs _ _ ?_ _
      simp only [List.mem_cons, List.not_mem_nil, or_false] at ha
      rcases ha with rfl | rfl | rfl <;> decide
  · rw [if_neg h2] at hn
    refine .of_ok (exec_versionRange ..) ready (versionRangeRun_device h3 h2 hn _) ⟨fun e => ?_, fun e => ?_, fun e => ?_, fun e => absurd e h2, ?_⟩
    · rw [State.ended_red, State.putCpl_red, if_pos e]
    · rw [State.ended_red, State.putCpl_red, if_neg (by omega), if_pos e]
    · rw [State.ended_red, State.putCpl_red, if_neg (by omega), if_neg (by omega)]
    · exact State.completes_ended (State.completes_putCpl (s := s.at_ t) (fun _ _ => by simp only [State.wordN, State.word]) _ _) _ _

/-- SET_DEVID while no link is enabled. -/
theorem setDevidRun_ok {s : State} (h : (List.range 160).any s.alEnabled = false) (v : Nat) :
    setDevidRun v s = .ok ((s.rset Reg.SYP_ARC_ID_DEVID (v % 65536)).rsetb Reg.SYP_ARC_ID_VALID true) 0 := by
  simp only [setDevidRun, h]
  rfl

theorem setDevid_holds : Claims.setDevid := by
  intro s t d v ready off
  have off' : (List.range 160).any (s.at_ t).taken.alEnabled = false := by
    rw [← off]
    refine congrArg _ (funext fun l => ?_)
    exact (s.at_ t).rbit_taken_ne (by simp only [Reg.SYP_AL_CFG_ENABLED, Reg.CMD_CI]; omega)
  refine .of_ok (exec_setDevid ..) ready (setDevidRun_ok off' v) ⟨?_, ?_, ?_⟩
  · rw [State.rget_ended, State.rget_putCpl_ne _ _ _ (by decide) (by decide), State.rsetb,
      State.rget_rset_apart (f := Reg.SYP_ARC_ID_VALID) (g := Reg.SYP_ARC_ID_DEVID) _ _ rfl (by decide) (by decide),
      State.rget_rset_same _ _ (by decide)]
    exact Nat.mod_mod _ _
  · rw [State.rbit_ended, State.rbit_putCpl_ne _ _ _ (by decide) (by decide), State.rbit_rsetb_same _ _ (by decide) rfl]
  · refine State.completes_ended (State.completes_putCpl (s := s.at_ t) (fun a ha => ?_) _ _) _ _
    have n : a ≠ Reg.SYP_ARC_ID := by rintro rfl; revert ha; decide
    rw [State.wordN_rsetb_ne _ _ n, State.wordN_rset_ne _ _ n]

/-- The ring's block holds the offsets from 0x20000 to 0x3FFFC. -/
theorem blockOf_ring {c : Nat} (l : 0x20000 ≤ c) (h : c < 0x40000) : blockOf c = some 2 := by
  have h0 : ¬ c < 0x10000 := by omega
  have h1 : ¬ c < 0x20000 := by omega
  simp only [blockOf, h0, h1, h, if_true, if_false]

theorem undefinedOpcode_holds : Claims.undefinedOpcode := by
  intro s t d op ready
  have ready' : s.cmdReady t { d with resv := none, fetchFail := false } = true := by
    simp only [State.cmdReady, Bool.and_eq_true] at ready ⊢
    exact ⟨⟨ready.1.1, rfl⟩, rfl⟩
  refine .of_err (exec_undefinedOpcode ..) ready' rfl ⟨State.completes_ended (State.completes_putCpl (s := s.at_ t) (fun _ _ => rfl) _ _) _ _, fun c hc => ?_⟩
  have out : c < 0x20000 ∨ 0x40000 ≤ c := by
    refine Decidable.byContradiction fun k => ?_
    exact hc (blockOf_ring (by omega) (by omega))
  rw [State.wordN_ended, State.wordN_putCpl_ne _ _ _ (offHcqLive_iff.2 (by omega)) (by simp only [Reg.CPL_PI]; omega),
    State.wordN_taken_ne _ (by simp only [Reg.CMD_CI]; omega)]
  rfl

/-- Settles O14: each register write acts by its own rule, and each command reads one descriptor and writes one completion. -/
theorem ringRegistersAndVersions : Obligations.RingRegistersAndVersions :=
  ⟨cmdPiWrite_holds, cplCiWrite_holds, hcqCtlWrite_holds, ringDisabled_holds, hcqBaseWrite_holds, sysIrqAckWrite_holds, hello_holds,
    journalReplayed_holds, noCommonVersion_holds, versionRange_holds, setDevid_holds, undefinedOpcode_holds⟩

end Sys2Proof.Machine

/-! ## A write of ones to STATUS bits that no field lists (00 R608) -/
namespace Sys2Proof.Machine
open Sys2Proof

theorem exec_statusWrite (t : Nat) (a : Access) (v : Nat) (s : State) :
    exec (.statusWrite t a v) s = event t (hostAccess t a true (hostWrite (· == .status) t a v)) s := rfl

/-- A STATUS write of zeros leaves the word. -/
theorem State.wordN_statWrite_zero (s : State) (a t : Nat) : (s.statWrite a 0 t).wordN a = s.wordN a := by
  have stored (z : State) : (z.setWord a (s.wordN a &&& (2 ^ 32 - 1 - 0 % 2 ^ 32) ||| (setsWord ((s.statRec a).sets.filter
      fun p => ¬ (bit 0 p.1 ∧ p.2 < t)) &&& 0))).wordN a = s.wordN a := by
    rw [State.wordN_setWord_same, Nat.and_zero, Nat.or_zero, Nat.zero_mod, Nat.sub_zero, Nat.and_two_pow_sub_one_eq_mod, Nat.mod_mod]
    exact Nat.mod_eq_of_lt (s.wordN_lt a)
  unfold State.statWrite
  dsimp only
  split
  · split
    · rw [State.wordN_setDtsWords_ne _ _ (by omega) (by omega) (by omega)]
      exact stored _
    · exact stored _
  · exact stored _

/-- The device with bit 5 of SYS_STATUS set, a bit that the register has no field for. -/
def unlistedSet : State := State.reset.setWord Reg.SYS_STATUS 0x20
/-- A 4-byte access to SYS_STATUS. -/
def sysStatusAccess : Access := ⟨0, 0, 0, Reg.SYS_STATUS, 4⟩

theorem accessFault_sysStatus : unlistedSet.accessFault sysStatusAccess = none := by decide
theorem specialAt_sysStatus : specialAt Reg.SYS_STATUS = some (.status, 0) := by decide
/-- SYS_STATUS lists bits 0 and 1: a write of bit 5 writes no bit. -/
theorem listedBits_sysStatus : listedBits Reg.SYS_STATUS (bits 0x20 0 32) = 0 := by decide

/-- A write of one to the unlisted bit leaves it. -/
theorem statusWrite_unlisted {u : State} (h : exec (.statusWrite 0 sysStatusAccess 0x20) unlistedSet = .next u) :
    u.wordN Reg.SYS_STATUS = 0x20 := by
  rw [exec_statusWrite, event] at h
  injection h with h
  rw [← h, State.wordN_ended, hostAccess_accepted (s := unlistedSet.at_ 0) accessFault_sysStatus,
    hostWrite_four (x := .status) (i := 0) 0 _ _ rfl specialAt_sysStatus rfl (fun z => State.hostFault_neverRefused
      (fun k n e => by cases specialAt_sysStatus.symm.trans e; rfl) _ z _)]
  show ((unlistedSet.at_ 0).hostWord 0 sysStatusAccess Reg.SYS_STATUS (listedBits Reg.SYS_STATUS (bits 0x20 0 32))).wordN Reg.SYS_STATUS = 0x20
  simp only [State.hostWord, specialAt_sysStatus, listedBits_sysStatus]
  rw [State.statFollow_id _ _ (by decide), State.wordN_statWrite_zero]
  exact State.wordN_setWord_same _ _ _

/-- Refutes O12: `Claims.statusWrite` speaks of every bit below 32, and a write stores the listed bits alone. A bit of SYS_STATUS without a
field, set with no setting recorded, stays set when one is written to it; no run reaches such a word, but the claim has no premise that
keeps it out. -/
theorem not_hostAccessesAct : ¬ Obligations.HostAccessesAct := by
  intro ⟨_, _, _, status, _, _, _⟩
  obtain ⟨u, hu, hb, -, -⟩ := status unlistedSet 0 sysStatusAccess 0x20 0 5 accessFault_sysStatus (by decide) (by decide)
  have kept : u.wordN sysStatusAccess.off = 0x20 := statusWrite_unlisted hu
  rw [kept, show (unlistedSet.statRec sysStatusAccess.off).sets = [] from rfl] at hb
  exact absurd hb (by decide)

end Sys2Proof.Machine

/-! ## A rising link that shows DRAINED (08 R246) -/
namespace Sys2Proof.Machine
open Sys2Proof

theorem exec_linkFecLock (t l corr : Nat) (s : State) : exec (.linkFecLock t l corr) s = event t (linkFecLockEffect t l corr) s := rfl

theorem State.rget_setAlk (s : State) (l : Nat) (h : ArcLink) (f : RF) : (s.setAlk l h).rget f = s.rget f := rfl
/-- LINK_DOWN leaves a link's REASON. -/
theorem State.rget_alLive_reason (s : State) (t l : Nat) (hl : l < 160) :
    (s.alLive t l).rget (Reg.SYP_AL_STAT_REASON l) = s.rget (Reg.SYP_AL_STAT_REASON l) := by
  have n : famIndex ((Reg.SYP_AL_LIVE_LINK_DOWN l).addr + 4) (Reg.QUE_GRP_STATUS 0) 256 0x40 1 4 = none :=
    if_pos (by simp only [Reg.SYP_AL_LIVE_LINK_DOWN, Reg.QUE_GRP_STATUS]; omega)
  rw [State.rget, State.alLive, State.wordN_live_off _ _ _ _ (.inl (by simp only [Reg.SYP_AL_STAT_REASON, Reg.SYP_AL_LIVE_LINK_DOWN]; omega)) n,
    State.rget]
/-- A link that enters a state below UP shows the reason it is given. -/
theorem State.rget_alEnter_reason (s : State) (t st : Nat) {l reason : Nat} (hl : l < 160) (hr : reason < 16) :
    (s.alEnter t l st reason).rget (Reg.SYP_AL_STAT_REASON l) = reason := by
  have fits : (Reg.SYP_AL_STAT_REASON l).lo + (Reg.SYP_AL_STAT_REASON l).w ≤ (Reg.SYP_AL_STAT_CHOSEN l).lo := Nat.le_refl 8
  have inWord : (Reg.SYP_AL_STAT_CHOSEN l).lo + (Reg.SYP_AL_STAT_CHOSEN l).w ≤ 32 := Nat.le_of_ble_eq_true rfl
  rw [State.alEnter, State.rget_alLive_reason _ _ _ hl, State.rget_setAlk,
    State.rget_rset_apart (f := Reg.SYP_AL_STAT_CHOSEN l) (g := Reg.SYP_AL_STAT_REASON l) _ _ rfl inWord (.inl fits),
    State.rget_rset_same _ _ (Nat.le_trans fits (by omega))]
  exact Nat.mod_eq_of_lt hr

/-- FEC lock on a link that shows DRAINED leaves DRAINED shown. -/
theorem linkFecLock_drained {s u : State} {t l corr : Nat}
    (pre : l < 160 ∧ s.alEnabled l = true ∧ s.alState l = 0 ∧ (s.alk l).cdr = true ∧ (s.alk l).hold ≤ t)
    (drained : s.rget (Reg.SYP_AL_STAT_REASON l) = 11) (h : exec (.linkFecLock t l corr) s = .next u) :
    u.rget (Reg.SYP_AL_STAT_REASON l) = 11 := by
  obtain ⟨hl, en, st, cdr, hold⟩ := pre
  have acts : linkFecLockEffect t l corr (s.at_ t) = ((s.at_ t).cadd (Ctr.SYP_FEC_CW_CORR l) corr).alEnter t l 1 ((s.at_ t).risingReason l 3) := by
    unfold linkFecLockEffect
    dsimp only
    refine if_neg ?_
    rintro (c | c | c | c | c)
    · omega
    · exact c en
    · exact c st
    · exact c cdr
    · exact absurd hold (Nat.not_le.2 c)
  have keeps : (s.at_ t).risingReason l 3 = 11 := if_pos drained
  rw [exec_linkFecLock, event] at h
  injection h with h
  rw [← h, State.rget_ended, acts, keeps, State.rget_alEnter_reason _ _ _ hl (by decide)]

/-- The device with link 0 enabled, DOWN with reason DRAINED, and its receiver locked. -/
def drainedLink : State :=
  ((State.reset.setWord (Reg.SYP_AL_CFG 0) 1).setWord (Reg.SYP_AL_STAT 0) (11 * 16)).setAlk 0 { cdr := true }

/-- Refutes O34: `Claims.linkFecLock` puts REASON at 3 (DELINEATION) at every FEC lock, but a link that rises from a drain shows 11
(DRAINED) until it is UP or lost anew (R246). -/
theorem not_arcadeLinksComeUpAndGoDown : ¬ Obligations.ArcadeLinksComeUpAndGoDown := by
  intro ⟨_, _, _, _, _, fecLock, _⟩
  have pre : 0 < 160 ∧ drainedLink.alEnabled 0 = true ∧ drainedLink.alState 0 = 0 ∧ (drainedLink.alk 0).cdr = true ∧ (drainedLink.alk 0).hold ≤ 0 := by
    decide
  obtain ⟨u, hu, -, reason, -⟩ := fecLock drainedLink 0 0 0 pre
  have drained : u.rget (Reg.SYP_AL_STAT_REASON 0) = 11 := linkFecLock_drained pre (by decide) hu
  exact absurd (drained.symm.trans reason) (by decide)

end Sys2Proof.Machine

/-! ## The queue of waiting commands (01 R44; 17 R514) -/
namespace Sys2Proof.Machine
open Sys2Proof Sys2Proof.Claims

/-- A command goes before another exactly when both carry one DTS and it ranks first. -/
theorem ahead_iff {c d : Instr} : ahead c d = true ↔ (∃ t, dtsOf c = some t ∧ dtsOf d = some t) ∧ orderRank c < orderRank d := by
  simp only [ahead, Bool.and_eq_true, beq_iff_eq, decide_eq_true_eq, Option.isSome_iff_exists]
  exact and_congr_left fun _ => ⟨fun ⟨⟨t, h⟩, e⟩ => ⟨t, h, e ▸ h⟩, fun ⟨t, h, k⟩ => ⟨⟨t, h⟩, h.trans k.symm⟩⟩

theorem ahead_trans {a b c : Instr} (h : ahead a b = true) (k : ahead b c = true) : ahead a c = true := by
  obtain ⟨⟨t, ha, hb⟩, ab⟩ := ahead_iff.1 h
  obtain ⟨⟨u, hb', hc⟩, bc⟩ := ahead_iff.1 k
  obtain rfl : t = u := Option.some.inj (hb.symm.trans hb')
  exact ahead_iff.2 ⟨⟨t, ha, hc⟩, Nat.lt_trans ab bc⟩

theorem ahead_asymm {a b : Instr} (h : ahead a b = true) : ahead b a = false :=
  Bool.eq_false_iff.2 fun k => Nat.lt_asymm (ahead_iff.1 h).2 (ahead_iff.1 k).2

/-- A command enters a queue before the first that it goes before, else last. -/
theorem enter_place (c : Instr) (q : List Instr) :
    ∃ l r, q = l ++ r ∧ enter c q = l ++ c :: r ∧ (∀ d ∈ l, ahead c d = false) ∧ ∀ d ∈ r.head?, ahead c d = true := by
  induction q with
  | nil => exact ⟨[], [], rfl, rfl, by simp, by simp⟩
  | cons x q ih =>
    unfold enter
    split
    case isTrue h => exact ⟨[], x :: q, rfl, rfl, by simp, by simpa using h⟩
    case isFalse h =>
      obtain ⟨l, r, rfl, e, before, after⟩ := ih
      exact ⟨x :: l, r, rfl, by rw [e]; rfl, List.forall_mem_cons.2 ⟨Bool.eq_false_iff.2 h, before⟩, after⟩

/-- A queue in its order stays in it when a command enters. -/
theorem enter_pairwise {c : Instr} {q : List Instr} (h : q.Pairwise fun a b => ahead b a = false) :
    (enter c q).Pairwise fun a b => ahead b a = false := by
  obtain ⟨l, r, rfl, e, before, after⟩ := enter_place c q
  obtain ⟨hl, hr, hlr⟩ := List.pairwise_append.1 h
  have behind : ∀ d ∈ r, ahead d c = false := by
    cases r with
    | nil => simp
    | cons x r =>
      have hx : ahead c x = true := after x rfl
      refine List.forall_mem_cons.2 ⟨ahead_asymm hx, fun d hd => Bool.eq_false_iff.2 fun k => ?_⟩
      exact Bool.eq_false_iff.1 ((List.pairwise_cons.1 hr).1 d hd) (ahead_trans k hx)
  rw [e]
  exact List.pairwise_append.2 ⟨hl, List.pairwise_cons.2 ⟨behind, hr⟩, fun a ha => List.forall_mem_cons.2 ⟨before a ha, hlr a ha⟩⟩

/-- What goes before none of the commands up to c enters a queue behind c. -/
theorem enter_behind {c d : Instr} {l r : List Instr} (hl : ∀ x ∈ l, ahead d x = false) (hc : ahead d c = false) :
    ∃ m r', enter d (l ++ c :: r) = l ++ c :: m ++ d :: r' := by
  induction l with
  | nil =>
    obtain ⟨m, r', rfl, e, -, -⟩ := enter_place d r
    exact ⟨m, r', by simp [enter, hc, e]⟩
  | cons x l ih =>
    obtain ⟨hx, hl⟩ := List.forall_mem_cons.1 hl
    obtain ⟨m, r', e⟩ := ih hl
    exact ⟨m, r', by simp [enter, hx, e]⟩

/-- What enters a queue goes before a waiting command that it goes before. -/
theorem enter_before {c d : Instr} (h : ahead c d = true) (l r : List Instr) :
    ∃ l' m, enter c (l ++ d :: r) = l' ++ c :: m ++ d :: r := by
  induction l with
  | nil => exact ⟨[], [], by simp [enter, h]⟩
  | cons x l ih =>
    by_cases hx : ahead c x = true
    · exact ⟨[], x :: l, by simp [enter, hx]⟩
    · obtain ⟨l', m, e⟩ := ih
      exact ⟨x :: l', m, by simp [enter, hx, e]⟩

theorem frontRuns_holds : Claims.frontRuns := fun _ _ _ => rfl

theorem idles_holds : Claims.idles := by
  intro s h
  rw [step, h]

theorem queueKept_holds : Claims.queueKept := by
  intro c s u h
  obtain ⟨z, n, e⟩ := exec_ended c s
  obtain rfl : s.ended z n = u := by simpa [e] using h
  rfl

theorem arrivalPlace_holds : Claims.arrivalPlace := fun c s => enter_place c s.pending

theorem orderKept_holds : Claims.orderKept := fun _ _ => enter_pairwise

theorem firstRanksFirst_holds : Claims.firstRanksFirst := by
  intro c d s t ⟨hc, hd, rank⟩
  have first : ahead c d = true := ahead_iff.2 ⟨⟨t, hc, hd⟩, rank⟩
  constructor
  · obtain ⟨l, r, -, e, before, -⟩ := enter_place c s.pending
    have stays : ∀ x ∈ l, ahead d x = false := fun x hx =>
      Bool.eq_false_iff.2 fun k => Bool.eq_false_iff.1 (before x hx) (ahead_trans first k)
    obtain ⟨m, r', e'⟩ := enter_behind (r := r) stays (ahead_asymm first)
    exact ⟨l, m, r', by rw [← e', ← e]; rfl⟩
  · obtain ⟨l, r, -, e, -, -⟩ := enter_place d s.pending
    obtain ⟨l', m, e'⟩ := enter_before first l r
    exact ⟨l', m, r, by rw [← e', ← e]; rfl⟩

/-! ### The ranks -/

theorem orderRank_domainFault_avenue {d : Nat} (h : d < 72) (t x : Nat) : orderRank (.domainFault t d x) = 3 := if_pos h
theorem orderRank_domainFault_stack {d : Nat} (l : 91 ≤ d) (h : d < 95) (t x : Nat) : orderRank (.domainFault t d x) = 2 :=
  (if_neg (by omega)).trans (if_pos ⟨l, h⟩)
theorem orderRank_domainFault_other {d : Nat} (l : 72 ≤ d) (h : d < 91 ∨ 95 ≤ d) (t x : Nat) : orderRank (.domainFault t d x) = 0 :=
  (if_neg (by omega)).trans (if_neg (by omega))
theorem orderRank_domainFault_lt (t d x : Nat) : orderRank (.domainFault t d x) < 9 := by
  simp only [orderRank]
  split
  · decide
  · split <;> decide

/-- A command of the ring has rank 9 (17 R514). -/
theorem orderRank_of_ringCmd {c : Instr} (h : (ringCmd c).isSome = true) : orderRank c = 9 := by
  cases c <;> simp [ringCmd] at h <;> rfl

theorem commandsRankLast_holds : Claims.commandsRankLast := by
  refine ⟨fun _ => orderRank_of_ringCmd, fun c => ?_, fun t d x a r0 x0 r1 x1 => ⟨orderRank_domainFault_lt t d x, fun ⟨l, h⟩ => ?_, ?_⟩,
    fun t a r0 x0 r1 x1 k x page bad w d h e y => ⟨Nat.one_lt_two, rfl, Nat.lt_succ_self 2, rfl, rfl, fun l h => ?_, fun h => ?_⟩⟩
  · cases c with
    | domainFault t d x => exact .inl (orderRank_domainFault_lt t d x)
    | registerWrite t a v =>
      simp only [orderRank]
      split <;> simp
    | _ => simp [orderRank, ringCmd]
  · rw [orderRank_domainFault_other l h]
    exact Nat.one_pos
  · rintro (h | ⟨l, h⟩)
    · rw [orderRank_domainFault_avenue h]
      exact (by decide : 1 < 3)
    · rw [orderRank_domainFault_stack l h]
      exact Nat.one_lt_two
  · exact orderRank_domainFault_stack l h t y
  · exact orderRank_domainFault_avenue h t y

/-- Settles O1: a step is exec of the front command, every command ends with the queue it began with, and `enter` holds the queue in order. -/
theorem stepTakesTheFrontCommand : Obligations.StepTakesTheFrontCommand :=
  ⟨frontRuns_holds, idles_holds, queueKept_holds, arrivalPlace_holds, orderKept_holds, firstRanksFirst_holds, commandsRankLast_holds⟩

end Sys2Proof.Machine

/-! ## A write of MNT_CFG under a PRBS permit (18 R524) -/
namespace Sys2Proof.Machine
open Sys2Proof

/-- The device with a line PRBS permit held for interface 0. -/
def prbsHeld : State := (State.reset.rsetb (Reg.MNT_PERMIT_FLAGS_VALID 0) true).rset (Reg.MNT_PERMIT_CODE 0) 0x0104
/-- A 4-byte access to MNT_CFG. -/
def mntCfgAccess : Access := ⟨0, 0, 0, Reg.MNT_CFG, 4⟩

theorem prbsHeld_wf : prbsHeld.wf = true := by decide +kernel
/-- Background work with the adaptation of interface 0's lanes held since tick 1. -/
theorem mntCfgWrite_mnt : (registerWriteEffect 1 mntCfgAccess (2 ^ 18) (prbsHeld.at_ 1)).mnt = { prbsHeld.mnt with frozen := [(0x0104, 0, 1)] } := by
  decide +kernel
theorem accessFault_mntCfg : prbsHeld.accessFault mntCfgAccess = none := by decide

theorem exec_registerWrite (t : Nat) (a : Access) (v : Nat) (s : State) :
    exec (.registerWrite t a v) s = event t (hostAccess t a true (registerWriteEffect t a v)) s := rfl

/-- A REGISTER_WRITE of ADAPT_FREEZE under the permit holds the adaptation of its lanes (R524). -/
theorem registerWrite_holdsAdaptation {u : State} (h : exec (.registerWrite 1 mntCfgAccess (2 ^ 18)) prbsHeld = .next u) :
    u.mnt.frozen = [(0x0104, 0, 1)] := by
  rw [exec_registerWrite, event] at h
  injection h with h
  rw [← h, State.ended_mnt, hostAccess_accepted (s := prbsHeld.at_ 1) accessFault_mntCfg, mntCfgWrite_mnt]

/-- Refutes O11: `partsOf` gives REGISTER_WRITE the line ports and the timing alone, but one that sets ADAPT_FREEZE in MNT_CFG while a line
PRBS permit is held stops the adaptation of the permit's lanes (R524), which is kept with the background work (`mnt`). -/
theorem not_commandsOfOneUnitKeepTheOthers : ¬ Obligations.CommandsOfOneUnitKeepTheOthers := by
  intro ⟨apart, _, _⟩
  obtain ⟨u, hu, kept⟩ := apart (.registerWrite 1 mntCfgAccess (2 ^ 18)) [.lin, .tim] prbsHeld rfl prbsHeld_wf
  have mnt : u.mnt = prbsHeld.mnt := of_decide_eq_true (kept .mnt (by decide))
  have frozen : u.mnt.frozen = [(0x0104, 0, 1)] := registerWrite_holdsAdaptation hu
  rw [mnt] at frozen
  exact absurd frozen (by decide)

end Sys2Proof.Machine

/-! ## An ODU4 that stands in an OTU4 itself: no GMP maps it (04 R131; 06 R190, R192) -/
namespace Sys2Proof.Machine
open Sys2Proof

theorem exec_gmpPeriodRx (t i jc12 jc45 : Nat) (jc3 jc6 : Byte) (slip : Bool) (s : State) :
    exec (.gmpPeriodRx t i jc12 jc45 jc3 jc6 slip) s = event t (gmpPeriodRxEffect t i jc12 jc45 jc3 jc6 slip) s := rfl

/-- An ODU4 that is all of an OTU4's slice has no demapper of its own: a GMP period of it is none. -/
theorem gmpPeriodRxEffect_direct {s : State} {i : Nat} (h : (s.odu i).direct = true) (t jc12 jc45 : Nat) (jc3 jc6 : Byte) (slip : Bool) :
    gmpPeriodRxEffect t i jc12 jc45 jc3 jc6 slip s = s :=
  if_pos (.inr h)

/-- The device with ODU 4 configured as the ODU4 of an OTU4 on slice 0: its SERVER is 256 + 0. -/
def otu4Odu : State :=
  { State.reset with map := { State.reset.map with odu := [(4, { conf := true, type := 5, server := 256, ts := List.range' 1 20 })] } }

/-- Its GMP_PERIOD_RX with a slip leaves its demapper as it was, without a slip. -/
theorem gmpPeriodRx_otu4Odu {u : State} (h : exec (.gmpPeriodRx 0 4 0 0 0 0 true) otu4Odu = .next u) : (u.mp 4 0).slip = false := by
  rw [exec_gmpPeriodRx, event, gmpPeriodRxEffect_direct (s := otu4Odu.at_ 0) (by decide)] at h
  injection h with h
  rw [← h, State.mp, State.ended_map]
  decide

/-- Refutes O30: `Claims.fifoSlips` says of every configured ODU that its demapper's FIFO slips are counted, but no GMP and no AMP maps an
ODU4 that stands in an OTU4 itself (04 R131), so its GMP_PERIOD_RX changes nothing; `gmpPeriodRx`, `gmpHeld`, `gmpReplaced` and `gmpPeriodTx`
leave that ODU in too. -/
theorem not_mappersAndDemappersFollowGmp : ¬ Obligations.MappersAndDemappersFollowGmp := by
  intro ⟨_, _, _, slips, _⟩
  obtain ⟨u, hu, -, slip, -⟩ := slips otu4Odu 0 4 0 0 0 0 (by decide)
  exact absurd slip (by rw [gmpPeriodRx_otu4Odu hu]; decide)

end Sys2Proof.Machine

/-! ## ODU_CFG of a slot that an accepted MOVE fills (01 R32; 06 R175) -/
namespace Sys2Proof.Machine
open Sys2Proof

theorem exec_oduCfg (t : Nat) (d : Desc) (p : OduParams) (s : State) :
    exec (.oduCfg t d p) s = event t (fun s => s.runCmd t 0x0200 d false true (oduCfgRun t p)) s := rfl

theorem State.FlagsOnly.map {s u : State} (h : s.FlagsOnly u) : u.map = s.map := by rw [State.FlagsOnly] at h; rw [h]
@[simp] theorem State.putCpl_map (s : State) (t : Nat) (c : CplRec) : (s.putCpl t c).map = s.map := (s.putCpl_flagsOnly t c).map
@[simp] theorem State.taken_map (s : State) : s.taken.map = s.map := rfl

/-- Reading a descriptor leaves the pair role and its lease. -/
theorem State.privileged_taken (s : State) (t : Nat) : s.taken.privileged t = s.privileged t := by
  have role : s.taken.role = s.role := s.rget_taken_ne (by decide)
  have exp : s.taken.dtsWords Reg.KSK_PAIR_EXP0 = s.dtsWords Reg.KSK_PAIR_EXP0 := by
    simp (disch := decide) only [State.dtsWords, State.wordN_taken_ne]
  rw [State.privileged, role, exp, State.privileged]
/-- A command marked P that passes the checks runs its own effect. -/
theorem State.cmdCheck_of_privileged {s : State} {t : Nat} {d : Desc} (h : s.cmdReady t d = true) (p : s.privileged t = true) (f : State → CmdRes) :
    s.taken.cmdCheck t d false true f = f s.taken := by
  rw [← State.cmdCheck_of_cmdReady h f]
  simp [State.cmdCheck, s.privileged_taken, p]

/-- A command with a check that fails is refused. -/
theorem guarded_err {l : List (Bool × Nat × Nat)} {c : Bool × Nat × Nat} (m : c ∈ l) (h : c.1 = true) (r : CmdRes) :
    ∃ st o, guarded l r = .err st o 0 := by
  obtain ⟨x, hx⟩ := Option.isSome_iff_exists.1 (List.find?_isSome.2 ⟨c, m, h⟩)
  exact ⟨x.2.1, x.2.2, by simp [guarded, firstErr, hx]⟩

/-- The TU that a slot owes once command p is taken: its own, and those of every other ODU due there. -/
def State.tuWith (s : State) (p : OduParams) : Nat :=
  ((s.duesOn p.slot).filter (· != p.inst)).foldl (fun n j => n + (s.odu j).tus) (oduOf p (s.odu p.inst)).tus

/-- ODU_CFG in a group is refused where its slot would owe more than 640 TU. -/
theorem oduCfgRun_slotFull {s : State} {p : OduParams} (g : p.server < 32768) (full : 640 < s.tuWith p) (t : Nat) :
    ∃ st o, oduCfgRun t p s = .err st o 0 := by
  have big : decide (640 < if p.server < 32768 then s.tuWith p else 0) = true := by rw [if_pos g]; exact decide_eq_true full
  unfold oduCfgRun
  dsimp only
  split
  case h_1 h =>
    obtain ⟨st, o, e⟩ : ∃ st o, CmdRes.ok _ _ = .err st o 0 := h ▸ guarded_err (List.mem_of_getElem? (i := 18) rfl) big _
    cases e
  case h_2 => exact guarded_err (List.mem_of_getElem? (i := 18) rfl) big _

/-- ODU_CFG of an ODU in a group whose slot would owe more than 640 TU configures nothing. -/
theorem oduCfg_slotFull {s u : State} {t : Nat} {d : Desc} {p : OduParams} (ready : s.cmdReady t d = true) (priv : s.privileged t = true)
    (g : p.server < 32768) (full : 640 < s.tuWith p) (h : exec (.oduCfg t d p) s = .next u) : u.map = s.map := by
  obtain ⟨st, o, e⟩ := oduCfgRun_slotFull (s := (s.at_ t).taken) g full t
  have e' : (s.at_ t).taken.cmdCheck t d false true (oduCfgRun t p) = .err st o 0 :=
    (State.cmdCheck_of_privileged (s := s.at_ t) ready priv _).trans e
  rw [exec_oduCfg, event, State.runCmd_err (State.ringReady_of_cmdReady (s := s.at_ t) ready) e'] at h
  injection h with h
  rw [← h, State.ended_map, State.putCpl_map]
  rfl

/-- A Kiosk with a lease has one descriptor waiting in its ring, at HCP 1.0; groups 5 and 6 are enabled, group 6 with eight slices. -/
def ringWithGroups : State :=
  (((((((((State.reset.setDtsWords Reg.KSK_LEASE_EXP0 (sec 9)).rsetb Reg.KSK_LEASE_VALID true).rsetb Reg.HCQ_CTL_EN true).rsetb
    Reg.HCQ_STAT_READY true).rsetb Reg.HCQ_STAT_HELLO_DONE true).rset Reg.HCQ_STAT_HCP 0x100).rset Reg.CMD_PI_V 1).rsetb
    (Reg.LIN_GRP_CFG_ENABLED 5) true).rsetb (Reg.LIN_GRP_CFG_ENABLED 6) true).rset (Reg.LIN_GRP_CFG_N_M1 6) 7
/-- ODU 9, an ODUflex in the 160 slots of group 6, is on slot 3, and its accepted MOVE to slot 4 waits for its epoch instant. -/
def moveToSlot4 : State :=
  { ringWithGroups with
    map := { State.reset.map with
      odu := [(9, { conf := true, type := 6, server := 6, slot := 3, rate := 835000000, ts := List.range' 1 160, tu := List.range' 100 640 })] }
    plz := { State.reset.plz with conn := [(9, { valid := true, slot0 := 3 })], batch := [.move false 9 4] } }
/-- The descriptor of the command. -/
def oduCfgDesc : Desc := ⟨7, 0x100, none, false⟩
/-- A new ODU0 of group 5 on slot 4. -/
def odu0OnSlot4 : OduParams :=
  { inst := 20, type := 0, client := 0, server := 5, cls := 0, rank := 8, slot := 4, rate := 0, tsCount := 1, jcHold := 0, jcResync := 0,
    rateWin := 0, fillTarget := 0, fillGain := 0, pt := 0, ts := [1], tu := [0, 1, 2, 3] }

/-- Slot 4 has no charge yet, but owes the 640 TU of the MOVE. -/
theorem tuWith_moveToSlot4 : moveToSlot4.chargedOn 4 = [] ∧ 640 < moveToSlot4.tuWith odu0OnSlot4 := by decide +kernel

/-- Refutes O31: `Claims.oduCfg` counts what is charged against the slot, but a slot owes its 640 TU to the ODUs that an accepted MOVE brings
there too (01 R32), and ODU_CFG beyond them is refused with E_CAPACITY. -/
theorem not_odusAreConfiguredAndRemoved : ¬ Obligations.OdusAreConfiguredAndRemoved := by
  intro ⟨cfg, _⟩
  obtain ⟨u, hu, -, conf, -⟩ := cfg moveToSlot4 5 oduCfgDesc odu0OnSlot4 5 (by decide +kernel) (by decide +kernel) (by decide +kernel)
    (by decide +kernel) (by decide +kernel) (by decide +kernel) (by decide +kernel) (by decide +kernel) (by decide +kernel) (by decide +kernel)
    (by decide +kernel) (by decide +kernel) (by decide +kernel) (by decide +kernel)
  have kept : u.map = moveToSlot4.map := oduCfg_slotFull (by decide +kernel) (by decide +kernel) (by decide) tuWith_moveToSlot4.2 hu
  rw [State.odu, kept] at conf
  exact absurd conf (by decide +kernel)

end Sys2Proof.Machine

/-! ## A late cell of a starved flow (08 R262, R263) -/
namespace Sys2Proof.Machine
open Sys2Proof

theorem exec_cellReceived (t l corr uncorr : Nat) (c : List Byte) (s : State) :
    exec (.cellReceived t l corr uncorr c) s = event t (cellReceivedEffect t l corr uncorr c) s := rfl

/-- Link l has received a valid cell at t, with no codeword of note since the cell before. -/
def State.heard (s : State) (t l : Nat) : State :=
  let s0 := (s.cadd (Ctr.SYP_FEC_CW_CORR l) 0).cadd (Ctr.SYP_FEC_CW_UNCORR l) 0
  (s0.setAlk l { s0.alk l with bad := 0, lastValid := t }).cinc (Ctr.SYP_CELLS_RX l)

/-- A sound data cell of the chosen version for this device, of a flow whose group has the link, is taken by that flow (08 R235, R251). -/
theorem cellReceivedEffect_data {s : State} {l i : Nat} {c : List Byte}
    (cell : l < 160 ∧ s.alUp l = true ∧ c.length = 1024 ∧ cellValid c = true ∧ pcrcOk c = true ∧ cellType c = 1)
    (here : cellBe c 0 2 = s.alChosen l ∧ cellBe c 6 2 = s.devid)
    (flow : s.flowMatch (cellBe c 4 2) (cellBe c 8 3 % 2 ^ 20) = some i ∧ arcGroup (s.cn 1 i).portA = l / 8) (t : Nat) :
    cellReceivedEffect t l 0 0 c s = (s.heard t l).flowTake t l i (cellBe c 4 2) c := by
  obtain ⟨hl, up, len, valid, pcrc, ty⟩ := cell
  obtain ⟨ver, dst⟩ := here
  obtain ⟨hi, grp⟩ := flow
  have st : s.alState l = 3 := by simpa [State.alUp] using up
  have pass : ¬ (160 ≤ l ∨ s.alState l < 2 ∨ c.length ≠ 1024) := by omega
  have taken : cellReceivedEffect t l 0 0 c s = (s.heard t l).cellTake t l c := by
    simp only [cellReceivedEffect, if_neg pass, valid, pcrc, if_true]
    rfl
  have up' : (s.heard t l).alUp l = true := up
  have ver' : cellBe c 0 2 = (s.heard t l).alChosen l := ver
  have dst' : cellBe c 6 2 = (s.heard t l).devid := dst
  have hi' : (s.heard t l).flowMatch (cellBe c 4 2) (cellBe c 8 3 % 2 ^ 20) = some i := hi
  have grp' : arcGroup ((s.heard t l).cn 1 i).portA = l / 8 := grp
  rw [taken]
  simp [-Nat.reducePow, State.cellTake, State.dataTake, ty, pcrc, up', ver', dst', hi', grp']

/-- A starved flow drops a cell below NEXT_SEQ that it has not played: it is late, and starts nothing (08 R262). -/
theorem flowTake_starved_late {s : State} {i : Nat} {c : List Byte} (st : (s.flow 1 i).state = 2)
    (late : (s.flow 1 i).fate (s.reservedCells i) (cellBe c 12 4) = .late) (t l source : Nat) : s.flowTake t l i source c = s.flowLate i := by
  simp [State.flowTake, st, late]

theorem State.flow_flowLate (s : State) (i : Nat) :
    (s.flowLate i).flow 1 i = { s.flow 1 i with late := ((s.flow 1 i).late + 1) % 2 ^ 32 } := tget_tput_same _ _ _

/-- A sound data cell that a starved flow finds late leaves it starved (08 R262). -/
theorem cellReceived_starved_late {s u : State} {t l i : Nat} {c : List Byte}
    (cell : l < 160 ∧ s.alUp l = true ∧ c.length = 1024 ∧ cellValid c = true ∧ pcrcOk c = true ∧ cellType c = 1)
    (here : cellBe c 0 2 = s.alChosen l ∧ cellBe c 6 2 = s.devid)
    (flow : s.flowMatch (cellBe c 4 2) (cellBe c 8 3 % 2 ^ 20) = some i ∧ arcGroup (s.cn 1 i).portA = l / 8)
    (st : (s.flow 1 i).state = 2) (late : (s.flow 1 i).fate (s.reservedCells i) (cellBe c 12 4) = .late)
    (h : exec (.cellReceived t l 0 0 c) s = .next u) : (u.flow 1 i).state = 2 := by
  have effect : cellReceivedEffect t l 0 0 c (s.at_ t) = ((s.at_ t).heard t l).flowLate i :=
    (cellReceivedEffect_data (s := s.at_ t) cell here flow t).trans (flowTake_starved_late (s := (s.at_ t).heard t l) st late t l _)
  rw [exec_cellReceived, event, effect] at h
  injection h with h
  rw [← h, State.flow, State.ended_arc, ← State.flow, State.flow_flowLate]
  exact st

/-- Link 16 is UP at ALP 1.2 with device 0x213 as its peer; flow 5 of its group, of entry 9, is starved with NEXT_SEQ 1,001. -/
def starvedFlow : State :=
  { (((State.reset.setWord Reg.SYP_ARC_ID_DEVID.addr 0x10101).rset (Reg.SYP_AL_STAT_STATE 16) 3).rset (Reg.SYP_AL_STAT_CHOSEN 16) 0x102).rset
      (Reg.SYP_AL_PEER_PEER_DEVID 16) 0x213 with
    plz := { State.reset.plz with conn := [(20489, { valid := true, portA := 0x20200005, peerA := 0x213, playout := 50 })] }
    map := { State.reset.map with odu := [(9, { conf := true, type := 5 })] }
    arc := { State.reset.arc with flows := [(20489, { state := 2, next := 1001 })] } }
/-- A data cell of that flow with SEQ 1,000. -/
def lateCell : List Byte := cellBytes { ver := 0x102, type := 1, src := 0x213, dst := 0x101, flow := 5, seq := 1000, len := 992, ts := 0 } []

theorem lateCell_sound : starvedFlow.alUp 16 = true ∧ lateCell.length = 1024 ∧ cellValid lateCell = true ∧ pcrcOk lateCell = true ∧
    cellType lateCell = 1 := by
  obtain ⟨hcrc, pcrc⟩ : hcrcOk lateCell = true ∧ pcrcOk lateCell = true := cellBytes_checked _ _
  exact ⟨by decide +kernel, cellBytes_length _ _, by rw [cellValid, hcrc]; decide +kernel, pcrc, by decide +kernel⟩
theorem lateCell_here : cellBe lateCell 0 2 = starvedFlow.alChosen 16 ∧ cellBe lateCell 6 2 = starvedFlow.devid := by decide +kernel
theorem lateCell_flow : starvedFlow.flowMatch (cellBe lateCell 4 2) (cellBe lateCell 8 3 % 2 ^ 20) = some 9 ∧
    arcGroup (starvedFlow.cn 1 9).portA = 16 / 8 := by decide +kernel
theorem lateCell_late : (starvedFlow.flow 1 9).fate (starvedFlow.reservedCells 9) (cellBe lateCell 12 4) = .late := by decide +kernel

/-- Refutes O35: `Claims.flowStarts` says that every cell not yet due starts a flow that is not ACTIVE, but a starved flow judges a cell against
NEXT_SEQ first: one within the 1,024 numbers below it is late or a second copy, and starts nothing (R262). -/
theorem not_arcadeCellsAndFlows : ¬ Obligations.ArcadeCellsAndFlows := by
  intro ⟨_, _, starts, _⟩
  obtain ⟨u, hu, active, -⟩ := starts starvedFlow 5 16 9 lateCell ⟨by decide, lateCell_sound⟩ lateCell_here lateCell_flow (by decide +kernel)
    (by decide +kernel)
  have starved : (u.flow 1 9).state = 2 :=
    cellReceived_starved_late ⟨by decide, lateCell_sound⟩ lateCell_here lateCell_flow rfl lateCell_late hu
  exact absurd (starved.symm.trans active) (by decide)

end Sys2Proof.Machine

/-! ## A batch that ends a partnership whose other entry moves (07 R209, R222) -/
namespace Sys2Proof.Machine
open Sys2Proof

theorem exec_connBatch (t : Nat) (d : Desc) (count : Nat) (recs : List ConnRec) (resv : Option Nat) (s : State) :
    exec (.connBatch t d count recs resv) s = event t (fun s => s.runCmd t 0x0300 d false true (connBatchRun count recs resv)) s := rfl

/-- A message of a vector is no completion. -/
theorem State.completion_mem_msixSends {n b : Nat} {l : List Nat} {s : State} (h : Out.completion n b ∈ (l.foldl State.msixSend s).out) :
    Out.completion n b ∈ s.out := by
  induction l generalizing s with
  | nil => exact h
  | cons v r ih =>
    have sent : Out.completion n b ∈ (s.msixSend v).out := ih h
    unfold State.msixSend at sent
    split at sent
    · exact sent
    · simpa [State.emit, State.msixOut] using sent
/-- The end of a step writes no completion. -/
theorem State.completion_mem_ended {n b k : Nat} {s z : State} (h : Out.completion n b ∈ (s.ended z k).out) : Out.completion n b ∈ z.out := by
  have settled : Out.completion n b ∈ z.tidy.settle.out := h
  rw [State.settle_out] at settled
  have tidied := State.completion_mem_msixSends settled
  rwa [State.tidy_out] at tidied

/-- A batch whose records are in range and one of which is in no state to be accepted is refused at the offset of that record's field. -/
theorem connBatchRun_state {s : State} {l : List ConnRec} {o : Nat} (len : l ≠ [] ∧ l.length ≤ 1024) (range : ∀ r ∈ l, s.recRange l r = none)
    (state : recErr eState l (s.recState (s.placeRecs l) l) = (true, eState, o)) : connBatchRun l.length l none s = .err eState o 0 := by
  have inRange : recErr eRange l (fun _ r => s.recRange l r) = (false, 0, 0) := by
    have none : (l.zipIdx.findSome? fun x => (s.recRange l x.1).map fun o => 24 * x.2 + o) = none :=
      List.findSome?_eq_none_iff.2 fun x hx => by rw [range x.1 (List.fst_mem_of_mem_zipIdx hx)]; rfl
    simp only [recErr, none]
  have count : (l.length == 0 || decide (1024 < l.length)) = false := by simpa using len
  simp only [connBatchRun, List.take_length, inRange, state, count]
  rfl

/-- Entries 5 and 6 are partners, the move of ODU 6 from slot 4 to slot 9 is in its overlap, and entry 7 has a flow of group 0 as its PORT_A. -/
def pairMoving : State :=
  { ringWithGroups with
    sysg := [(0, { mode := 2 })]
    map := { State.reset.map with
      odu := [(5, { conf := true, slot := 3 }), (6, { conf := true, slot := 4 }), (7, { conf := true, slot := 3 })] }
    plz := { State.reset.plz with
      conn := [(5, { valid := true, slot0 := 3, partner := 6 }), (6, { valid := true, slot0 := 4, partner := 5, route1 := true, slot1 := 9 }),
        (7, { valid := true, slot0 := 3, portA := 0x20000001 })]
      moves := [(6, { inst := 6, old := 4, new := 9, phase := .overlap, live := true })] } }
/-- The record that ends the partnership of entry 5 and gives it the endpoint of entry 7. -/
def takesPortOf7 : ConnRec := { op := 1, tx := false, inst := 5, portA := 0x20000001 }

theorem pairMoving_range : pairMoving.recRange [takesPortOf7] takesPortOf7 = none := by decide +kernel
theorem taken_range : (pairMoving.at_ 5).taken.recRange [takesPortOf7] takesPortOf7 = none := by decide +kernel
/-- The batch ends a partnership with an ODU that moves: the fault is at PARTNER, byte 6 of the record, below PORT_A, byte 8. -/
theorem taken_state : recErr eState [takesPortOf7]
    ((pairMoving.at_ 5).taken.recState ((pairMoving.at_ 5).taken.placeRecs [takesPortOf7]) [takesPortOf7]) = (true, eState, bufOfs 6) := by
  decide +kernel

theorem connBatchRun_taken : connBatchRun 1 [takesPortOf7] none (pairMoving.at_ 5).taken = .err eState (bufOfs 6) 0 :=
  connBatchRun_state (l := [takesPortOf7]) ⟨List.cons_ne_nil _ _, by decide⟩ (List.forall_mem_singleton.2 taken_range) taken_state

/-- Its CONN_BATCH writes one completion, with E_STATE at PARTNER. -/
theorem connBatch_pairMoving {u : State} {n b : Nat} (h : exec (.connBatch 5 oduCfgDesc 1 [takesPortOf7] none) pairMoving = .next u)
    (written : Out.completion n b ∈ u.out) : b = (⟨7, eState, 0x0300, bufOfs 6, 5, 0⟩ : CplRec).bytes true := by
  have ready : (pairMoving.at_ 5).cmdReady 5 oduCfgDesc = true := by decide +kernel
  have priv : (pairMoving.at_ 5).privileged 5 = true := by decide +kernel
  have phase : decide ((pairMoving.at_ 5).taken.rget Reg.CPL_PI_V / 2 ^ (pairMoving.at_ 5).taken.ringLog % 2 = 0) = true := by decide +kernel
  rw [exec_connBatch, event, State.runCmd_err (State.ringReady_of_cmdReady ready)
    ((State.cmdCheck_of_privileged ready priv _).trans connBatchRun_taken)] at h
  injection h with h
  rw [← h] at written
  have only := State.completion_mem_ended written
  rw [State.putCpl_out, phase, show (pairMoving.at_ 5).taken.out = [] from rfl, List.mem_singleton] at only
  exact (Out.completion.inj only).2

/-- Refutes O32: `Claims.connBatchShare` puts the fault of a shared PORT_A at byte 8 of its record whatever partner the entry had, but a record
that ends a partnership with an ODU in a move (R222) is at fault at PARTNER, byte 6, which is lower. -/
theorem not_connectionsAndMovesTakeAnEpoch : ¬ Obligations.ConnectionsAndMovesTakeAnEpoch := by
  intro ⟨_, _, _, share, _⟩
  obtain ⟨u, hu, ⟨-, -, written⟩, -⟩ := share pairMoving 5 7 oduCfgDesc takesPortOf7 (by decide +kernel)
    ⟨pairMoving_range, rfl, rfl, rfl, by decide⟩ (by decide +kernel) (by decide +kernel)
  have other := connBatch_pairMoving hu written
  exact absurd other (by decide +kernel)

end Sys2Proof.Machine

/-! ## A move of an ODU number that the map has no entry for (07 R208, R218) -/
namespace Sys2Proof.Machine
open Sys2Proof

theorem exec_moveInstall (t m : Nat) (s : State) : exec (.moveInstall t m) s = event t (moveInstallEffect t m) s := rfl
theorem State.cn_ended (s z : State) (n d i : Nat) : (s.ended z n).cn d i = z.cn d i := by rw [State.cn, State.ended_plz, State.cn]

/-- A receive move of ODU 20,480 waits for its install; ODU 0 is carried in that ODU and has a transmit entry. -/
def moveBeyondMap : State :=
  { State.reset with
    map := { State.reset.map with odu := [(0, { conf := true, server := 32768 + 20480 })] }
    plz := { State.reset.plz with
      conn := [(20480, { valid := true })]
      moves := [(20480, { inst := 20480, new := 1, epoch := 1, epochTx := 2, live := true })] } }

/-- Receive entry 20,480 is transmit entry 0, whose route 1 has the transmit epoch. -/
theorem moveInstall_moveBeyondMap {u : State} (h : exec (.moveInstall 0 20480) moveBeyondMap = .next u) : (u.cn 0 20480).epoch1 = 2 := by
  rw [exec_moveInstall, event] at h
  injection h with h
  rw [← h, State.cn_ended]
  decide +kernel

/-- Refutes O33: `Claims.moveInstall` does not bound the ODU number of a move, as `Claims.moveRetire` does, and the map has entries for numbers
below 20,480 alone (R208). What would be receive entry 20,480 is transmit entry 0; if ODU 0 is carried in ODU 20,480 and moves with it, the
entry takes the transmit epoch. No run reaches such a move, but the claim has no premise that keeps it out. -/
theorem not_movesInstallCutOverAndRetire : ¬ Obligations.MovesInstallCutOverAndRetire := by
  intro ⟨install, _⟩
  obtain ⟨u, hu, -, entry, -⟩ := install moveBeyondMap 0 20480 [] (by decide +kernel) (by decide +kernel) (by decide +kernel)
  have transmit : (u.cn 0 20480).epoch1 = 2 := moveInstall_moveBeyondMap hu
  have receive : (u.cn 0 20480).epoch1 = 1 := congrArg ConnH.epoch1 entry
  exact absurd (transmit.symm.trans receive) (by decide)

end Sys2Proof.Machine

/-! ## A queue group that gives up pages (09 R272, R285) -/
namespace Sys2Proof.Machine
open Sys2Proof

theorem exec_qgroupCfg (t : Nat) (d : Desc) (g cls mb pages : Nat) (s : State) :
    exec (.qgroupCfg t d g cls mb pages) s = event t (fun s => s.runCmd t 0x0601 d false false (qgroupCfgRun t g cls mb pages)) s := rfl

/-! ### What leaves the reservations -/

theorem State.FlagsOnly.und {s u : State} (h : s.FlagsOnly u) : u.und = s.und := by rw [State.FlagsOnly] at h; rw [h]
@[simp] theorem State.live_und (s : State) (t : Nat) (f : RF) (src : Nat) (on : Bool) : (s.live t f src on).und = s.und :=
  (s.live_flagsOnly t f src on).und
@[simp] theorem State.sticky_und (s : State) (t : Nat) (f : RF) : (s.sticky t f).und = s.und :=
  ((s.statSet_flagsOnly _ _ _).trans (State.statFollow_flagsOnly _ _ _)).und
@[simp] theorem State.putCpl_und (s : State) (t : Nat) (c : CplRec) : (s.putCpl t c).und = s.und := (s.putCpl_flagsOnly t c).und
@[simp] theorem State.taken_und (s : State) : s.taken.und = s.und := rfl

@[simp] theorem State.xoffAssert_und (s : State) (t n : Nat) : (s.xoffAssert t n).und = s.und := by
  unfold State.xoffAssert
  split <;> rfl
@[simp] theorem State.xoffRelease_und (s : State) (t n : Nat) : (s.xoffRelease t n).und = s.und := by
  unfold State.xoffRelease
  dsimp only
  split <;> rfl
@[simp] theorem State.watermark_und (s : State) (t g was : Nat) : (s.watermark t g was).und = s.und := by
  simp only [State.watermark, apply_ite State.und, State.xoffRelease_und, State.xoffAssert_und, State.sticky_und, State.live_und, State.cinc_und,
    ite_self]
/-- A queue that changes leaves the Underpass. -/
@[simp] theorem State.qset_und (s : State) (t q : Nat) (h : QueH) : (s.qset t q h).und = s.und := by
  simp only [State.qset, apply_ite State.und, State.live_und, State.watermark_und, State.setWord_und, ite_self]

/-- Steps that leave the Underpass leave it one after the other. -/
theorem State.foldl_und {α : Type} {f : State → α → State} (h : ∀ z a, (f z a).und = z.und) (l : List α) (s : State) :
    (l.foldl f s).und = s.und := by
  induction l generalizing s with
  | nil => rfl
  | cons a l ih => exact (ih (f s a)).trans (h s a)
@[simp] theorem State.requeue_und (s : State) (t : Nat) : (s.requeue t).und = s.und := State.foldl_und (fun _ _ => State.qset_und _ _ _ _) _ s
@[simp] theorem State.rings_und (s : State) : s.rings.und = s.und := by
  unfold State.rings
  exact State.foldl_und (fun _ _ => State.setPr_und _ _ _ _) _ s
@[simp] theorem State.rowShow_und (s : State) (row : Nat) : (s.rowShow row).und = s.und := by
  simp only [State.rowShow, State.rset_und, State.rsetb_und]
/-- What shows the totals of the Underpass leaves its reservations and pages. -/
@[simp] theorem State.undShow_und (s : State) (t : Nat) : (s.undShow t).und = s.und := by
  have rows (z : State) : ((List.range 9).foldl State.rowShow z).und = z.und := State.foldl_und State.rowShow_und _ z
  simp only [State.undShow, State.requeue_und, State.rings_und, State.live_und, apply_ite State.und, rows, State.rset_und, ite_self]

/-- Two states with one Underpass have the same reservations. -/
theorem State.rsv_congr {s z : State} (h : s.und = z.und) (row k : Nat) : s.rsv row k = z.rsv row k := by rw [State.rsv, h, State.rsv]
@[simp] theorem State.rsv_setRsv_same (s : State) (row k : Nat) (h : RsvH) : (s.setRsv row k h).rsv row k = h := tget_tput_same _ _ _
theorem State.rsv_ended (s z : State) (n row k : Nat) : (s.ended z n).rsv row k = z.rsv row k := by rw [State.rsv, State.und_ended, State.rsv]

/-! ### QGROUP_CFG with no more pages than the group has -/

/-- A reservation of bandwidth that shrinks keeps pages dealt round its pseudo-channels (09 R272). -/
theorem State.giveRsv_shrink {s : State} {row k n : Nat} {bw : Q} (h : n ≤ (s.rsv row k).pages.length) (hn : n ≠ 0) :
    s.giveRsv row k bw n = s.setRsv row k { s.rsv row k with bw := bw, pages := s.keepPages (s.rsv row k).pages n } := by
  have some_ : ¬ (n = 0 ∧ bw = qint 0) := fun e => hn e.1
  simp only [State.giveRsv, if_pos h, if_neg some_]

/-- A command whose checks all pass takes effect. -/
theorem guarded_pass {l : List (Bool × Nat × Nat)} (h : ∀ c ∈ l, c.1 = false) (r : CmdRes) : guarded l r = r := by
  have none : l.find? (·.1) = none := List.find?_eq_none.2 fun c hc => Bool.eq_false_iff.1 (h c hc)
  simp only [guarded, firstErr, none, Option.map_none]

section
variable {s : State} {g cls mb pages : Nat}
  (range : 2 ≤ g ∧ g ≤ 255 ∧ cls ≤ 2) (idle : (s.que.qs.any fun p => p.2.mode != 0 && p.2.group == g) = false)
  (stays : (if cls = 0 then 8 else if cls = 1 then 7 else 4) = s.spillRow g)
  (fits : qle (qadd (rsvSum s.und.rsv) (s.rsvRaise (s.spillRow g) g (qint mb))) (qint s.ceilMb) = true)
  (shrinks : pages ≤ (s.rsv (s.spillRow g) g).pages.length)
include range idle stays fits shrinks

/-- QGROUP_CFG of an idle group that keeps its row, within the ceiling and with no more pages than it has, gives what it asks for. -/
theorem qgroupCfgRun_sameRow (t : Nat) : qgroupCfgRun t g cls mb pages s =
    .ok (((s.rset (Reg.QUE_GRP_CFG_CLASS g) cls).giveRsv (s.spillRow g) g (qint mb) pages).undShow t) 0 := by
  have pool : s.poolGives ((pages : Int) - (s.rsv (s.spillRow g) g).pages.length) = true := by
    rw [State.poolGives, decide_eq_true (by omega), Bool.true_or]
  have lowest : decide (g < 2) = false := decide_eq_false (by omega)
  have highest : decide (255 < g) = false := decide_eq_false (by omega)
  have class_ : decide (2 < cls) = false := decide_eq_false (by omega)
  simp only [qgroupCfgRun, stays, if_true]
  refine guarded_pass ?_ _
  simp only [List.forall_mem_cons, lowest, highest, class_, idle, fits, pool, Bool.or_false, Bool.not_true, true_and]
  exact List.forall_mem_nil _

/-- The pages that the group keeps then. -/
theorem qgroupCfgRun_keepPages (t : Nat) (hn : pages ≠ 0) : ∃ z, qgroupCfgRun t g cls mb pages s = .ok z 0 ∧
    (z.rsv (s.spillRow g) g).pages = s.keepPages (s.rsv (s.spillRow g) g).pages pages := by
  refine ⟨_, qgroupCfgRun_sameRow range idle stays fits shrinks t, ?_⟩
  rw [State.rsv_congr (State.undShow_und _ t), State.giveRsv_shrink (s := s.rset (Reg.QUE_GRP_CFG_CLASS g) cls) shrinks hn, State.rsv_setRsv_same]
  rfl
end

/-- Pseudo-channels 0 and 1 work, and queue group 2 has two pages in each. -/
def groupOnTwoChannels : State :=
  { ((ringWithGroups.rsetb (Reg.UND_STACK_TRAINED 0) true).rset (Reg.UND_STACK_PC_WORKING 0) 2).setWord (Reg.UND_PC_FAIL 0) 0xFFFFFFFC with
    und := { State.reset.und with rsv := [(7 * 65536 + 2, { bw := ⟨300, 1⟩, pages := [0, 1, 384, 385] })] } }

/-- Group 2 in row 7 with two pages keeps one page in each pseudo-channel, as R272 has it. -/
theorem qgroupCfg_onTwoChannels {u : State} (h : exec (.qgroupCfg 5 oduCfgDesc 2 1 100 2) groupOnTwoChannels = .next u) :
    (u.rsv 7 2).pages = [0, 384] := by
  have ready : (groupOnTwoChannels.at_ 5).cmdReady 5 oduCfgDesc = true := by decide +kernel
  have row : (groupOnTwoChannels.at_ 5).taken.spillRow 2 = 7 := by decide +kernel
  obtain ⟨z, ok, kept⟩ := qgroupCfgRun_keepPages (s := (groupOnTwoChannels.at_ 5).taken) (g := 2) (cls := 1) (mb := 100) (pages := 2)
    (by decide) (by decide +kernel) (by decide +kernel) (by decide +kernel) (by decide +kernel) 5 (by decide)
  rw [exec_qgroupCfg, event, State.runCmd_ok (State.ringReady_of_cmdReady ready) ((State.cmdCheck_of_cmdReady ready _).trans ok)] at h
  injection h with h
  rw [← h, State.rsv_ended, State.rsv_congr (State.putCpl_und _ _ _), ← row, kept]
  decide +kernel

/-- Refutes O36: `Claims.qgroupCfg` says that a group that gives up pages keeps the first of its region, but it keeps pages of every pseudo-channel
in turn, since no pseudo-channel may hold more than ⌈q ÷ W⌉ of a region's q pages (R272). Of pages 0, 1, 384 and 385 of two working
pseudo-channels two stay: 0 and 384, where the first two lie in one pseudo-channel. -/
theorem not_underpassReadsWritesAndReservations : ¬ Obligations.UnderpassReadsWritesAndReservations := by
  intro ⟨_, _, _, _, _, _, _, _, _, _, _, _, _, _, cfg, _, _⟩
  obtain ⟨u, hu, -, -, -, firstTwo⟩ := cfg groupOnTwoChannels 5 oduCfgDesc 2 1 100 2 (by decide +kernel) (by decide) (by decide +kernel)
    (by decide +kernel) (by decide +kernel) (by decide +kernel) (by decide)
  have row : groupOnTwoChannels.spillRow 2 = 7 := by decide +kernel
  rw [row, qgroupCfg_onTwoChannels hu] at firstTwo
  exact absurd firstTwo (by decide +kernel)

end Sys2Proof.Machine

/-! ## WTR ends in a 1:1 unidirectional group whose far end asks for the bridge (10 R308, R313, R315) -/
namespace Sys2Proof.Machine
open Sys2Proof

theorem exec_wtrExpiry (t c : Nat) (s : State) : exec (.wtrExpiry t c) s = event t (wtrExpiryEffect t c) s := rfl

/-- Receive entries 4 and 9 are a Class B pair. Context 5 runs APS_LIN for it on entry 6, the one of ODU 9, revertive and 1:1 unidirectional, and has
its release at 5. The traffic is selected on P, the far end asks for the bridge with SF-W, rank 8, and WTR, rank 4, has run out. -/
def wtrWithBridge : State :=
  let run : RunSt := { rel := 5, per := 9, g := List.replicate 32 0, p := 0, st := [0, 0, 0, 0] }
  let bind : CtxBind := { routine := 0x20, tt := [(6, 1), (7, 0)], param := List.replicate 64 0 ++ [0x46] ++ List.replicate 15 0 }
  let s : State :=
    { State.reset with
      plz := { State.reset.plz with
        conn := [(4, { valid := true, cls := 1, partner := 9, portA := 5 }),
          (9, { valid := true, cls := 1, partner := 4, portA := 5, sel := true })] }
      jrm := { State.reset.jrm with ctx := [(5, { state := 1, bind := bind, run := some run })] } }
  let entries := ((s.trailSet 6 0 1 4).trailSet 6 2 2 9).trailSet 7 2 2 4
  ((entries.trailSet 6 0xF0 1 0x43).trailSet 6 0xF1 1 0x08).trailSet 6 0xF2 1 0x10

/-- WTR_EXPIRY selects W with rank 0 and leaves BRIDGE_P as the far end has it: byte 0xF0 is 2. -/
theorem wtrExpiry_wtrWithBridge {u : State} (h : exec (.wtrExpiry 5 5) wtrWithBridge = .next u) : u.trailByte 6 0xF0 = 2 := by
  rw [exec_wtrExpiry, event] at h
  injection h with h
  rw [← h, State.trailByte_ended]
  decide +kernel

/-- Refutes O37: `Claims.wtrExpiry` says that byte 0xF0 is 0 when WTR has ended, but NR selects W (R315) and gives the rank and SELECT_P alone. In
a 1:1 unidirectional group BRIDGE_P, bit 1 of that byte, is as the far end asks (R308, R313): with its request accepted the byte is 2. -/
theorem not_linearProtectionTimersAndCommands : ¬ Obligations.LinearProtectionTimersAndCommands := by
  intro ⟨_, _, _, _, _, _, _, _, _, wtr, _⟩
  obtain ⟨u, hu, cleared, -⟩ := wtr wtrWithBridge 5 5 (by decide +kernel)
  have entry : (wtrWithBridge.cx 5).entry0 = 6 := by decide +kernel
  rw [entry, wtrExpiry_wtrWithBridge hu] at cleared
  exact absurd cleared (by decide)

end Sys2Proof.Machine

/-! ## The state of a pair under a step of its selector (10 R318 to R328) -/
namespace Sys2Proof.Machine
open Sys2Proof

/-! ### Paths and pairs -/

@[simp] theorem PairH.path_setPath_same (h : PairH) (p : Bool) (v : PathH) : (h.setPath p v).path p = v := by cases p <;> rfl
@[simp] theorem PairH.path_setPath_other (h : PairH) (p : Bool) (v : PathH) : (h.setPath p v).path (!p) = h.path (!p) := by cases p <;> rfl
@[simp] theorem PairH.setPath_state (h : PairH) (p : Bool) (v : PathH) : (h.setPath p v).state = h.state := by cases p <;> rfl
@[simp] theorem PairH.setPath_hits (h : PairH) (p : Bool) (v : PathH) : (h.setPath p v).hits = h.hits := by cases p <;> rfl
@[simp] theorem PairH.setPath_dlast (h : PairH) (p : Bool) (v : PathH) : (h.setPath p v).dlast = h.dlast := by cases p <;> rfl
@[simp] theorem PairH.setPath_delta (h : PairH) (p : Bool) (v : PathH) : (h.setPath p v).delta = h.delta := by cases p <;> rfl
@[simp] theorem PairH.setPath_sel (h : PairH) (p : Bool) (v : PathH) : (h.setPath p v).sel = h.sel := by cases p <;> rfl
@[simp] theorem PairH.setPath_gap (h : PairH) (p : Bool) (v : PathH) : (h.setPath p v).gap = h.gap := by cases p <;> rfl
@[simp] theorem PairH.setPath_skipped (h : PairH) (p : Bool) (v : PathH) : (h.setPath p v).skipped = h.skipped := by cases p <;> rfl
theorem PairH.to_setPath (h : PairH) (p : Bool) (v : PathH) (t st : Nat) : (h.setPath p v).to t st = (h.to t st).setPath p v := by
  simp only [PairH.to, PairH.setPath_state]
  split
  · rfl
  · cases p <;> rfl
/-- A pair whose STATE changes. -/
theorem PairH.to_ne {h : PairH} {st : Nat} (ne : h.state ≠ st) (t : Nat) : h.to t st = { h with state := st, chg := t } := if_neg ne

@[simp] theorem State.pr_setPr_same (s : State) (d x : Nat) (h : PairH) : (s.setPr d x h).pr d x = h := tget_tput_same _ _ _
@[simp] theorem State.pr_at (s : State) (t d x : Nat) : (s.at_ t).pr d x = s.pr d x := rfl
@[simp] theorem State.pr_ended (s z : State) (n d x : Nat) : (s.ended z n).pr d x = z.pr d x := by rw [State.pr, State.ended_pair, State.pr]

/-! ### The timers of a pair (10 R323 to R328, Table PRT-7) -/

section
variable {s : State} {d x : Nat} (pair : s.isPair d x = true)
include pair

/-- Eight hits lock a pair in SEARCH. -/
theorem pairLockEffect_hits (t : Nat) (search : (s.pr d x).state = 1) (hits : 8 ≤ (s.pr d x).hits) :
    pairLockEffect t d x s = s.setPr d x { s.pr d x with
      state := 2, chg := t, delta := some (s.pr d x).dlast, hits := 0, relocks := sat 0xFFFF ((s.pr d x).relocks + 1)
      x := { (s.pr d x).x with aligned := true, out := 0, inSince := none }
      y := { (s.pr d x).y with aligned := true, out := 0, inSince := none }
      ring := if 0 < (s.pr d x).dlast then false else if (s.pr d x).dlast < 0 then true else (s.pr d x).ring } := by
  have go : ¬ (¬ s.isPair d x = true ∨ (s.pr d x).state ≠ 1 ∨ (s.pr d x).hits < 8) := by simp [pair, search, hits]
  have ne : (s.pr d x).state ≠ 2 := by omega
  simp only [pairLockEffect, if_neg go, PairH.to_ne ne]

/-- A path without partners takes the path that is not selected out of alignment. -/
theorem pairLoseAlignmentEffect_alone (t : Nat) (locked : (s.pr d x).state = 2)
    (alone : (s.pr d x).alone t false (s.tf x) = true ∨ (s.pr d x).alone t true (s.tf x) = true) :
    pairLoseAlignmentEffect t d x s = s.setPr d x ({ s.pr d x with hits := 0, state := 1, chg := t }.setPath (!(s.pr d x).sel)
      { (s.pr d x).path (!(s.pr d x).sel) with aligned := false }) := by
  have go : ¬ (¬ s.isPair d x = true ∨ (s.pr d x).state ≠ 2 ∨
      ¬ ((s.pr d x).alone t false (s.tf x) = true ∨ (s.pr d x).alone t true (s.tf x) = true)) := by simp [pair, locked, alone]
  have ne : ({ s.pr d x with hits := 0 } : PairH).state ≠ 1 := by simp [locked]
  simp only [pairLoseAlignmentEffect, if_neg go, PairH.to_setPath, PairH.to_ne ne]

theorem pairBeyondEffect_out (t : Nat) {p : Bool} (locked : (s.pr d x).state = 2) (out : 3 ≤ ((s.pr d x).path p).out) :
    pairBeyondEffect t d x p s = s.setPr d x { s.pr d x with state := 3, chg := t, beyond := p } := by
  have go : ¬ (¬ s.isPair d x = true ∨ (s.pr d x).state ≠ 2 ∨ ((s.pr d x).path p).out < 3) := by simp [pair, locked, out]
  have ne : (s.pr d x).state ≠ 3 := by omega
  simp only [pairBeyondEffect, if_neg go, PairH.to_ne ne]

theorem pairReturnLockedEffect_second {t a : Nat} (beyond : (s.pr d x).state = 3)
    (since : ((s.pr d x).path (s.pr d x).beyond).inSince = some a) (ended : a + sec 1 ≤ t) :
    pairReturnLockedEffect t d x s = s.setPr d x { s.pr d x with state := 2, chg := t } := by
  have second : (((s.pr d x).path (s.pr d x).beyond).inSince.any fun a => decide (a + sec 1 ≤ t)) = true :=
    (Option.any_eq_true _ _).2 ⟨a, since, decide_eq_true ended⟩
  have go : ¬ (¬ s.isPair d x = true ∨ (s.pr d x).state ≠ 3 ∨
      ¬ (((s.pr d x).path (s.pr d x).beyond).inSince.any fun a => decide (a + sec 1 ≤ t)) = true) :=
    not_or.2 ⟨Classical.not_not.2 pair, not_or.2 ⟨Classical.not_not.2 beyond, Classical.not_not.2 second⟩⟩
  have ne : (s.pr d x).state ≠ 2 := by rw [beyond]; decide
  rw [pairReturnLockedEffect]
  exact (if_neg go).trans (by rw [PairH.to_ne ne])

theorem pairIdleEffect_quiet {t : Nat} (held : (s.pr d x).state ≠ 0) (quiet : max (s.pr d x).x.usable (s.pr d x).y.usable + ms 1 ≤ t) :
    pairIdleEffect t d x s = s.setPr d x { s.pr d x with
      state := 0, chg := t, hits := 0, delta := none, aisOut := true, noReach := 0
      x := { (s.pr d x).x with aligned := false }, y := { (s.pr d x).y with aligned := false } } := by
  have go : ¬ (¬ s.isPair d x = true ∨ (s.pr d x).state = 0 ∨ t < max (s.pr d x).x.usable (s.pr d x).y.usable + ms 1) := by
    simp only [pair, not_true_eq_false, false_or, not_or]; exact ⟨held, by omega⟩
  simp only [pairIdleEffect, if_neg go, PairH.to_ne held]
end

/-- A path in BEYOND has grade 0 (R327, R328). -/
theorem State.grade_beyond (s : State) (d x : Nat) {h : PairH} {p : Bool} (beyond : h.state = 3 ∧ h.beyond = p) (o tf : Nat) :
    s.grade d x h p o tf = 0 := by
  unfold State.grade
  split
  · rfl
  · exact if_pos (.inr (.inr (.inl beyond)))

theorem pairLock_holds : Claims.pairLock := by
  intro s t d x ⟨pair, search, hits⟩
  refine .of_event rfl ?_
  rw [pairLockEffect_hits (s := s.at_ t) pair t search hits, State.pr_ended, State.pr_setPr_same]
  exact ⟨rfl, rfl, rfl, rfl, rfl, rfl, rfl, fun later => if_pos later,
    fun earlier => (if_neg (Int.lt_asymm earlier)).trans (if_pos earlier)⟩

theorem pairLoseAlignment_holds : Claims.pairLoseAlignment := by
  intro s t d x ⟨pair, locked⟩ alone
  refine .of_event rfl ?_
  rw [pairLoseAlignmentEffect_alone (s := s.at_ t) pair t locked alone, State.pr_ended, State.pr_setPr_same, State.pr_at]
  have selected : ∀ h v, (PairH.setPath h (!(s.pr d x).sel) v).path (s.pr d x).sel = h.path (s.pr d x).sel := fun h v => by
    simpa using h.path_setPath_other (!(s.pr d x).sel) v
  refine ⟨PairH.setPath_state .., ?_, selected _ _, PairH.setPath_hits .., PairH.setPath_sel ..⟩
  rw [PairH.path_setPath_same]

theorem pairBeyond_holds : Claims.pairBeyond := by
  intro s t d x p ⟨pair, locked, out⟩
  refine .of_event rfl ?_
  rw [pairBeyondEffect_out (s := s.at_ t) pair t locked out, State.pr_ended, State.pr_setPr_same]
  exact ⟨rfl, rfl, rfl, fun o => State.grade_beyond _ d x ⟨rfl, rfl⟩ o _⟩

theorem pairReturnLocked_holds : Claims.pairReturnLocked := by
  intro s t d x a ⟨pair, beyond, since, ended⟩
  refine .of_event rfl ?_
  rw [pairReturnLockedEffect_second (s := s.at_ t) pair beyond since ended, State.pr_ended, State.pr_setPr_same, State.pr_at]

theorem pairIdle_holds : Claims.pairIdle := by
  intro s t d x ⟨pair, held, quiet⟩
  refine .of_event rfl ?_
  rw [pairIdleEffect_quiet (s := s.at_ t) pair held quiet, State.pr_ended, State.pr_setPr_same]
  exact ⟨rfl, rfl, rfl, rfl, rfl, rfl⟩

/-! ### What the ring of a pair stores (10 R318) -/

/-- From s to u nothing changes but the Underpass. -/
def State.UndOnly (s u : State) : Prop := u = { s with und := u.und }
theorem State.UndOnly.trans {s u z : State} (h : s.UndOnly u) (k : u.UndOnly z) : s.UndOnly z := by
  unfold State.UndOnly at h k ⊢
  rw [k, h]

theorem State.storeSlot_undOnly (s : State) (d x seq j : Nat) (b : List Byte) : s.UndOnly (s.storeSlot d x seq j b) := by
  unfold State.storeSlot
  split <;> rfl
theorem State.storeFrame_undOnly (s : State) (d x seq : Nat) (b : List Byte) : s.UndOnly (s.storeFrame d x seq b) := by
  unfold State.storeFrame
  induction List.range ((min 15296 b.length + 63) / 64) generalizing s with
  | nil => rfl
  | cons j l ih => exact (s.storeSlot_undOnly d x seq j _).trans (ih _)

/-- DESCRIPTOR_COMPLETE completes the oldest frame that is due; the slot of the ring is in the Underpass. -/
theorem descriptorCompleteEffect_undOnly {s : State} {d x : Nat} (pair : s.isPair d x = true) (t : Nat) (p : Bool) :
    (s.setPr d x ((s.pr d x).setPath p { (s.pr d x).path p with frames := completeFirst t (s.tf x) ((s.pr d x).path p).frames })).UndOnly
      (descriptorCompleteEffect t d x p s) := by
  have go : ¬ ¬ s.isPair d x = true := Classical.not_not.2 pair
  simp only [descriptorCompleteEffect, if_neg go]
  split
  · exact State.storeSlot_undOnly _ _ _ _ _ _
  · rfl

theorem descriptorComplete_holds : Claims.descriptorComplete := by
  intro s t d x p f r ⟨pair, frames, waits, due⟩
  have done : completeFirst t (s.tf x) ((s.pr d x).path p).frames = { f with done := true } :: r := by
    rw [frames, completeFirst, if_neg (by simp [waits]), if_pos due]
  have eff := descriptorCompleteEffect_undOnly (s := s.at_ t) pair t p
  have complete : (descriptorCompleteEffect t d x p (s.at_ t)).pr d x =
      (s.pr d x).setPath p { (s.pr d x).path p with frames := { f with done := true } :: r } := by
    rw [eff, ← done]
    exact State.pr_setPr_same ..
  refine .of_event rfl ?_
  simp only [State.pr_ended, complete, PairH.path_setPath_same, PairH.path_setPath_other, State.wordN_ended, State.cget_ended, true_and]
  intro c
  rw [eff]
  exact ⟨rfl, rfl⟩

end Sys2Proof.Machine

/-! ## A frame that reaches the selector (10 R318 to R325) -/
namespace Sys2Proof.Machine
open Sys2Proof

/-- A frame as the selector keeps it. -/
def State.arrived (s : State) (t d x : Nat) (p : Bool) (f : PairFrame) : SelFrame :=
  { arr := t, mfas := frameMfas f.bytes, omfi := if s.hasOmfi x then frameOmfi f.bytes else 0, sig := opuSig f.bytes, stat := frameStat f.bytes
    fdts := f.fdts, seq := (s.pr d x).written, hwSf := f.hwSf || (d == 0 && s.hwSf (s.pathInst d x p)), errored := f.errored
    ring := (s.pr d x).ring == p && !(s.pr d x).unbuf, bytes := f.bytes }
/-- A pair with a frame that has arrived on a path. -/
def PairH.keep (h : PairH) (p : Bool) (g : SelFrame) : PairH :=
  { h.setPath p { h.path p with frames := (h.path p).frames ++ [g], usable := if g.usable then g.arr else (h.path p).usable } with
    written := if g.ring then (h.written + 1) % 2 ^ 32 else h.written }
/-- What the pair makes of an arrival: a hit or none in SEARCH, the partner in LOCKED and BEYOND. -/
def State.pairHeard (s : State) (t d x : Nat) (p : Bool) (f : PairFrame) : PairH :=
  let h := (s.pr d x).keep p (s.arrived t d x p f)
  if (s.pr d x).state = 1 then s.searchPair d x p (s.arrived t d x p f) h
  else if 2 ≤ (s.pr d x).state then h.track p (s.arrived t d x p f) (s.tf x) else h
/-- The state with the arrival in the pair and, on the ring path, in the ring. -/
def State.takeIn (s : State) (t d x : Nat) (p : Bool) (f : PairFrame) : State :=
  (if (s.arrived t d x p f).ring then s.storeFrame d x (s.pr d x).written f.bytes else s).setPr d x (s.pairHeard t d x p f)

@[simp] theorem State.pr_takeIn (s : State) (t d x : Nat) (p : Bool) (f : PairFrame) : (s.takeIn t d x p f).pr d x = s.pairHeard t d x p f :=
  State.pr_setPr_same ..
theorem State.tf_takeIn (s : State) (t d x : Nat) (p : Bool) (f : PairFrame) : (s.takeIn t d x p f).tf x = s.tf x := by
  unfold State.takeIn
  split
  · rw [s.storeFrame_undOnly]
    rfl
  · rfl

@[simp] theorem PairH.keep_state (h : PairH) (p : Bool) (g : SelFrame) : (h.keep p g).state = h.state := PairH.setPath_state ..
@[simp] theorem PairH.keep_hits (h : PairH) (p : Bool) (g : SelFrame) : (h.keep p g).hits = h.hits := PairH.setPath_hits ..
@[simp] theorem PairH.keep_dlast (h : PairH) (p : Bool) (g : SelFrame) : (h.keep p g).dlast = h.dlast := PairH.setPath_dlast ..
@[simp] theorem PairH.keep_delta (h : PairH) (p : Bool) (g : SelFrame) : (h.keep p g).delta = h.delta := PairH.setPath_delta ..
@[simp] theorem PairH.keep_gap (h : PairH) (p : Bool) (g : SelFrame) : (h.keep p g).gap = h.gap := PairH.setPath_gap ..
@[simp] theorem PairH.keep_skipped (h : PairH) (p : Bool) (g : SelFrame) : (h.keep p g).skipped = h.skipped := PairH.setPath_skipped ..
@[simp] theorem PairH.keep_frames (h : PairH) (p : Bool) (g : SelFrame) : ((h.keep p g).path p).frames = (h.path p).frames ++ [g] :=
  congrArg PathH.frames (PairH.path_setPath_same ..)
@[simp] theorem PairH.keep_other (h : PairH) (p : Bool) (g : SelFrame) : (h.keep p g).path (!p) = h.path (!p) := PairH.path_setPath_other ..

section
variable {s : State} {t d x : Nat} {p : Bool} {f : PairFrame} (pair : s.isPair d x = true) (tf : s.tf x ≠ 0)
include pair tf

/-- An arrival is taken in; it sets the output timing where a retime waits for it or no timing reaches a usable frame (R321). -/
theorem selectorFrameArrivalEffect_eq : selectorFrameArrivalEffect t d x p f s =
    if (s.pr d x).retime = some p ∨ ((s.arrived t d x p f).usable = true ∧ ((s.pr d x).state = 0 ∨ 3 ≤ (s.pr d x).noReach))
    then (s.takeIn t d x p f).retimePair t d x p (s.arrived t d x p f) else s.takeIn t d x p f :=
  if_neg (not_or.2 ⟨Classical.not_not.2 pair, tf⟩)

/-- With an output timing in reach and no retime waiting, the arrival is taken in and nothing more. -/
theorem selectorFrameArrivalEffect_held (on : (s.pr d x).state ≠ 0) (still : (s.pr d x).retime = none) (near : (s.pr d x).noReach < 3) :
    (selectorFrameArrivalEffect t d x p f s).pr d x = s.pairHeard t d x p f := by
  have stays : ¬ ((s.pr d x).retime = some p ∨ ((s.arrived t d x p f).usable = true ∧ ((s.pr d x).state = 0 ∨ 3 ≤ (s.pr d x).noReach))) := by
    simp [still, on, near]
  rw [selectorFrameArrivalEffect_eq pair tf, if_neg stays, State.pr_takeIn]
end

/-! ### The search (R323) -/

/-- The candidates are frames of the other path that came no more than DD_MAX before, with the same MFAS, OMFI and signature. -/
theorem State.candidates_arrived (s : State) (t d x : Nat) (p : Bool) (f : PairFrame) :
    s.candidates d x ((s.pr d x).keep p (s.arrived t d x p f)) p (s.arrived t d x p f) =
      ((s.pr d x).path (!p)).frames.filter fun g => decide (g.arr ≤ t ∧ t ≤ g.arr + s.ddMax d x) && g.mfas == frameMfas f.bytes &&
        g.omfi == (if s.hasOmfi x then frameOmfi f.bytes else 0) && g.sig == opuSig f.bytes := by
  simp only [State.candidates, PairH.keep_other]
  rfl

/-- A count of hits grows by one where P holds, else it starts anew. -/
theorem hits_next (n : Nat) (P : Prop) [Decidable P] : (if 0 < n ∧ ¬ P then 0 else n) + 1 = if n ≠ 0 ∧ P then n + 1 else 1 := by
  by_cases P <;> cases n <;> simp_all
/-- One candidate is a hit: the first of a new count, unless its difference is that of the last one within half a frame. -/
theorem State.searchPair_one {s : State} {d x : Nat} {p : Bool} {f c : SelFrame} {h : PairH} (sound : (f.hwSf || f.errored) = false)
    (one : s.candidates d x h p f = [c]) : s.searchPair d x p f h =
      let dl : Int := if p then (f.arr : Int) - c.arr else (c.arr : Int) - f.arr
      { h with hits := if h.hits ≠ 0 ∧ (dl - h.dlast).natAbs ≤ s.tf x / 2 then h.hits + 1 else 1, dlast := dl } := by
  simp only [State.searchPair, sound, one, Bool.false_eq_true, if_false, within, decide_eq_true_eq, hits_next]
/-- No candidate, or several, leave the count. -/
theorem State.searchPair_notOne {s : State} {d x : Nat} {p : Bool} {f : SelFrame} {h : PairH} (many : (s.candidates d x h p f).length ≠ 1) :
    s.searchPair d x p f h = h := by
  unfold State.searchPair
  split
  · rfl
  · split
    · rename_i one
      exact absurd (congrArg List.length one) many
    · rfl

theorem searchHit_holds : Claims.searchHit := by
  intro s t d x p f c ⟨pair, tf, search, still, near⟩ ⟨noSf, noHwSf, noError⟩ one
  have sound : ((s.arrived t d x p f).hwSf || (s.arrived t d x p f).errored) = false := by
    simpa [State.arrived, noSf, noError] using noHwSf
  have hit := State.searchPair_one sound ((s.candidates_arrived t d x p f).trans one)
  have heard : s.pairHeard t d x p f = _ := (if_pos search).trans hit
  have eff := (selectorFrameArrivalEffect_held (s := s.at_ t) (p := p) (f := f) pair tf (by rw [State.pr_at, search]; decide) still near).trans heard
  refine .of_event rfl ?_
  rw [State.pr_ended, eff]
  refine ⟨rfl, ?_, ?_, ?_⟩
  · simp only [PairH.keep_hits, PairH.keep_dlast]
  · exact (PairH.keep_state ..).trans search
  · exact (congrArg List.length (PairH.keep_frames ..)).trans List.length_append

theorem identicalFrames_holds : Claims.identicalFrames := by
  intro s t d x p f ⟨pair, tf, search, still, near⟩ many
  have none := State.searchPair_notOne (h := (s.pr d x).keep p (s.arrived t d x p f)) (by rw [State.candidates_arrived]; exact many)
  have heard : s.pairHeard t d x p f = _ := (if_pos search).trans none
  have eff := (selectorFrameArrivalEffect_held (s := s.at_ t) (p := p) (f := f) pair tf (by rw [State.pr_at, search]; decide) still near).trans heard
  refine .of_event rfl ?_
  rw [State.pr_ended, eff]
  exact ⟨PairH.keep_hits .., (PairH.keep_state ..).trans search⟩

/-! ### Tracking (R325) -/

@[simp] theorem PathH.mark_length (h : PathH) (a : Nat) : (h.mark a).frames.length = h.frames.length := List.length_map _
/-- Every frame of a path that arrived at a is marked. -/
theorem PathH.mated_mark {h : PathH} {a : Nat} {y : SelFrame} (m : y ∈ (h.mark a).frames) (e : y.arr = a) : y.mated = true := by
  obtain ⟨f, -, rfl⟩ := List.mem_map.1 m
  split at e
  · rw [if_pos ‹_›]
  · exact absurd e ‹_›
theorem PathH.any_mark {h : PathH} {f : SelFrame} (m : f ∈ h.frames) :
    ((h.mark f.arr).frames.any fun y => y.arr == f.arr && y.mated) = true :=
  List.any_eq_true.2 ⟨{ f with mated := true }, List.mem_map.2 ⟨f, m, if_pos rfl⟩, by simp⟩

/-- The partner of a frame depends on its arrival and MFAS alone. -/
theorem PairH.mate_congr (h : PairH) (p : Bool) {f g : SelFrame} (arr : f.arr = g.arr) (mfas : f.mfas = g.mfas) (tf : Nat) :
    h.mate p f tf = h.mate p g tf := by simp only [PairH.mate, arr, mfas]
theorem PairH.mate_keep (h : PairH) (p : Bool) (g f : SelFrame) (tf : Nat) : (h.keep p g).mate p f tf = h.mate p f tf := by
  simp only [PairH.mate, PairH.shift, PairH.keep_delta, PairH.keep_other]

/-- A frame and its partner find each other, and their difference is the new Δ. -/
theorem PairH.track_mate {h : PairH} {p : Bool} {f c : SelFrame} {tf : Nat} (m : h.mate p f tf = some c) :
    (h.track p f tf).state = h.state ∧ (h.track p f tf).delta = some (if p then (f.arr : Int) - c.arr else (c.arr : Int) - f.arr) ∧
    (h.track p f tf).path p = (h.path p).mark f.arr ∧ (h.track p f tf).path (!p) = (h.path (!p)).mark c.arr := by
  have track : h.track p f tf = { (h.setPath p ((h.path p).mark f.arr)).setPath (!p) ((h.path (!p)).mark c.arr) with
      delta := some (if p then (f.arr : Int) - c.arr else (c.arr : Int) - f.arr) } := by simp only [PairH.track, m]
  rw [track]
  cases p <;> exact ⟨rfl, rfl, rfl, rfl⟩
theorem PairH.track_alone {h : PairH} {p : Bool} {f : SelFrame} {tf : Nat} (m : h.mate p f tf = none) : h.track p f tf = h := by
  simp only [PairH.track, m]

theorem trackedFrame_holds : Claims.trackedFrame := by
  intro s t d x p f g ⟨pair, tf, locked, still, near⟩ ⟨arr, mfas⟩
  have heard : s.pairHeard t d x p f = ((s.pr d x).keep p (s.arrived t d x p f)).track p (s.arrived t d x p f) (s.tf x) :=
    (if_neg (by omega)).trans (if_pos locked)
  have eff := (selectorFrameArrivalEffect_held (s := s.at_ t) (p := p) (f := f) pair tf (by rw [State.pr_at]; omega) still near).trans heard
  have partner : ((s.pr d x).keep p (s.arrived t d x p f)).mate p (s.arrived t d x p f) (s.tf x) = (s.pr d x).mate p g (s.tf x) :=
    (PairH.mate_keep ..).trans (PairH.mate_congr _ _ arr.symm mfas.symm _)
  refine .of_event rfl ?_
  rw [State.pr_ended, eff, ← partner]
  cases m : ((s.pr d x).keep p (s.arrived t d x p f)).mate p (s.arrived t d x p f) (s.tf x) with
  | none =>
    rw [PairH.track_alone m]
    exact ⟨PairH.keep_delta .., nofun, nofun, PairH.keep_state .., by simp⟩
  | some c =>
    obtain ⟨state, delta, own, other⟩ := PairH.track_mate m
    rw [state, delta, own, other]
    refine ⟨rfl, fun e he y hy ye => ?_, fun _ => ?_, PairH.keep_state .., by simp⟩
    · cases he
      exact PathH.mated_mark hy ye
    · exact PathH.any_mark (f := s.arrived t d x p f) (by simp)

/-! ### The first usable frame (R319 to R321) -/

@[simp] theorem State.pr_log (s : State) (t code src detail d x : Nat) : (s.log t code src detail).pr d x = s.pr d x := rfl
/-- The output timing of an idle pair is set to a path: with no timing held nothing shifts, so there is no gap and no frame is skipped. -/
theorem State.retimePair_idle {s : State} {d x : Nat} (idle : (s.pr d x).state = 0) (t : Nat) (p : Bool) (f : SelFrame) :
    (s.retimePair t d x p f).pr d x = { s.pr d x with
      state := 1, chg := t, anchor := p, sel := p, lastO := f.arr + 4 * s.tf x - s.tf x, aConst := ((f.arr + 4 * s.tf x : Nat) : Int) - f.fdts
      noReach := 0, retime := none, hits := 0
      x := { (s.pr d x).x with aligned := !p }, y := { (s.pr d x).y with aligned := p } } := by
  simp [State.retimePair, idle, PairH.to, State.fresh]

/-- Without a hardware signal fail, and with STAT below 5, a frame is usable. -/
theorem State.usable_arrived {s : State} {t d x : Nat} {p : Bool} {f : PairFrame} (noSf : f.hwSf = false)
    (noHwSf : d = 0 → s.hwSf (s.pathInst d x p) = false) (stat : frameStat f.bytes < 5) : (s.arrived t d x p f).usable = true := by
  have noFail : (s.arrived t d x p f).hwSf = false := by simpa [State.arrived, noSf] using noHwSf
  have kept : (s.arrived t d x p f).stat = frameStat f.bytes := rfl
  simp only [SelFrame.usable, noFail, kept, Bool.not_false, Bool.true_and, Bool.and_eq_true, bne_iff_ne]
  omega

/-- The first usable frame of an idle pair is kept and sets the output timing. -/
theorem selectorFrameArrivalEffect_first {s : State} {t d x : Nat} {p : Bool} {f : PairFrame} (pair : s.isPair d x = true) (tf : s.tf x ≠ 0)
    (idle : (s.pr d x).state = 0) (usable : (s.arrived t d x p f).usable = true) :
    let h := (s.pr d x).keep p (s.arrived t d x p f)
    (selectorFrameArrivalEffect t d x p f s).pr d x = { h with
      state := 1, chg := t, anchor := p, sel := p, lastO := t + 4 * s.tf x - s.tf x, aConst := ((t + 4 * s.tf x : Nat) : Int) - f.fdts
      noReach := 0, retime := none, hits := 0, x := { h.x with aligned := !p }, y := { h.y with aligned := p } } := by
  have heard : (s.takeIn t d x p f).pr d x = (s.pr d x).keep p (s.arrived t d x p f) := by
    rw [State.pr_takeIn, State.pairHeard, if_neg (by omega), if_neg (by omega)]
  have timed := State.retimePair_idle (by rw [heard, PairH.keep_state, idle]) t p (s.arrived t d x p f)
  rw [heard, State.tf_takeIn] at timed
  rw [selectorFrameArrivalEffect_eq pair tf, if_pos (.inr ⟨usable, .inl idle⟩)]
  exact timed

theorem firstUsableFrame_holds : Claims.firstUsableFrame := by
  intro s t d x p f ⟨pair, tf, idle⟩ ⟨noSf, noHwSf, stat⟩
  have eff := selectorFrameArrivalEffect_first (s := s.at_ t) (t := t) pair tf idle (State.usable_arrived noSf noHwSf stat)
  have period : (s.at_ t).tf x = s.tf x := rfl
  have next : t + 4 * s.tf x - s.tf x + s.tf x = t + 4 * s.tf x := by omega
  refine .of_event rfl ?_
  rw [State.pr_ended, eff, period]
  refine ⟨rfl, rfl, rfl, rfl, next, rfl, ?_, ?_, PairH.keep_gap .., PairH.keep_skipped ..⟩
  · cases p <;> rfl
  · cases p <;> rfl

end Sys2Proof.Machine

/-! ## An output frame (10 R320, R327) -/
namespace Sys2Proof.Machine
open Sys2Proof

/-! ### What is sent -/

/-- What the tributary stages of both partners are fed changes, of any pair, the bytes that fill no token yet. -/
theorem State.pr_feedBoth (s : State) (d x : Nat) (b : List Byte) : ∃ r, (s.feedBoth x b).pr d x = { s.pr d x with rest := r } := by
  by_cases transmit : d = 1
  · subst transmit
    exact ⟨_, tget_tput_same ..⟩
  · have ne : d * 20480 + x ≠ 1 * 20480 + x := by omega
    exact ⟨(s.pr d x).rest, tget_tput_ne (d := fun _ => ({} : PairH)) s.pair _ ne⟩

section
variable (s : State) (d x : Nat) (c : Option Bool) (f : Option SelFrame) (o tf ts : Nat)

/-- Of the pair, a frame sent changes the MFAS that goes on and the bytes that fill no token. -/
theorem State.pr_sendFrame : ∃ m r, (s.sendFrame d x c f o tf ts).pr d x = { s.pr d x with mfas := m, rest := r } := by
  unfold State.sendFrame
  dsimp only
  split
  · exact ⟨_, (s.pr d x).rest, State.pr_setPr_same ..⟩
  · obtain ⟨r, fed⟩ := State.pr_feedBoth ((s.setPr d x { s.pr d x with mfas := _ }).emit _) d x _
    exact ⟨_, r, fed.trans (congrArg (fun h : PairH => { h with rest := r }) (State.pr_setPr_same s d x _))⟩
theorem State.out_sendFrame : ∃ m b, Out.selected d x (if d = 0 then (s.cn 0 x).out else 0) c m ts b ∈ (s.sendFrame d x c f o tf ts).out := by
  unfold State.sendFrame
  dsimp only
  split <;> exact ⟨_, _, List.mem_cons_self⟩
end

/-! ### The choice -/

section
variable (s : State) (d x : Nat) (h : PairH) (o tf : Nat)

/-- ODU-AIS is sent when both paths grade 0. -/
theorem State.choose_isNone : (s.choose d x h o tf).isNone = true ↔ s.grade d x h false o tf = 0 ∧ s.grade d x h true o tf = 0 := by
  unfold State.choose
  dsimp only
  split
  · rename_i both
    exact iff_of_true rfl both
  · rename_i graded
    have sent (q : Bool) : (some q).isNone = true ↔ s.grade d x h false o tf = 0 ∧ s.grade d x h true o tf = 0 :=
      iff_of_false Bool.false_ne_true graded
    split
    · exact sent false
    · split
      · exact sent true
      · exact sent h.sel

/-- The path of the higher grade, and on equal grades the path it was. -/
theorem State.choose_getD : (s.choose d x h o tf).getD h.sel =
    if s.grade d x h true o tf < s.grade d x h false o tf then false
    else if s.grade d x h false o tf < s.grade d x h true o tf then true else h.sel := by
  unfold State.choose
  dsimp only
  split
  · rename_i both
    simp [both.1, both.2]
  · split
    · rfl
    · split <;> rfl
end

/-- A pair whose frame leaves at t. -/
def State.sentPair (s : State) (t d x : Nat) : PairH :=
  let h := s.pr d x
  let tf := s.tf x
  let c := s.choose d x h t tf
  let span := (max 16 (s.ringSlots d x) + 1) * tf
  { h with
    lastO := t, sel := c.getD h.sel, aisOut := c.isNone, ais := if c.isNone then (h.ais + 1) % 2 ^ 32 else h.ais
    switches := if c.getD h.sel ≠ h.sel then (h.switches + 1) % 2 ^ 32 else h.switches
    noReach := if s.inReach d x h false t tf || s.inReach d x h true t tf then 0 else h.noReach + 1
    x := (h.x.reach t (s.pathOut d x h false t tf) (s.inReach d x h false t tf)).prune t span
    y := (h.y.reach t (s.pathOut d x h true t tf) (s.inReach d x h true t tf)).prune t span }

theorem State.sel_sentPair (s : State) (t d x : Nat) : (s.sentPair t d x).sel =
    if s.grade d x (s.pr d x) true t (s.tf x) < s.grade d x (s.pr d x) false t (s.tf x) then false
    else if s.grade d x (s.pr d x) false t (s.tf x) < s.grade d x (s.pr d x) true t (s.tf x) then true else (s.pr d x).sel :=
  s.choose_getD d x (s.pr d x) t (s.tf x)
theorem State.aisOut_sentPair (s : State) (t d x : Nat) : (s.sentPair t d x).aisOut = true ↔
    s.grade d x (s.pr d x) false t (s.tf x) = 0 ∧ s.grade d x (s.pr d x) true t (s.tf x) = 0 :=
  s.choose_isNone d x (s.pr d x) t (s.tf x)
/-- The path sent: the selected one, unless it is ODU-AIS. -/
theorem State.choose_sentPair (s : State) (t d x : Nat) : s.choose d x (s.pr d x) t (s.tf x) =
    if (s.sentPair t d x).aisOut = true then none else some (s.sentPair t d x).sel := by
  have whole (c : Option Bool) (q : Bool) : c = if c.isNone = true then none else some (c.getD q) := by cases c <;> rfl
  exact whole _ _

section
variable {s : State} {t d x : Nat} (pair : s.isPair d x = true) (on : (s.pr d x).state ≠ 0) (tf : s.tf x ≠ 0)
  (due : t = (s.pr d x).nextO (s.tf x))
include pair on tf due

/-- At O(k) the frame of the path chosen is sent. -/
theorem selectorOutputEffect_due : selectorOutputEffect t d x s =
    (s.setPr d x (s.sentPair t d x)).sendFrame d x (s.choose d x (s.pr d x) t (s.tf x))
      ((s.choose d x (s.pr d x) t (s.tf x)).bind fun q => (s.pr d x).frameAt q t (s.tf x)) t (s.tf x) ((t : Int) - (s.pr d x).aConst).toNat :=
  if_neg (not_or.2 ⟨Classical.not_not.2 pair, not_or.2 ⟨on, not_or.2 ⟨tf, Classical.not_not.2 due⟩⟩⟩)
theorem selectorOutputEffect_pair : ∃ m r, (selectorOutputEffect t d x s).pr d x = { s.sentPair t d x with mfas := m, rest := r } := by
  rw [selectorOutputEffect_due pair on tf due]
  have sent := State.pr_sendFrame (s.setPr d x (s.sentPair t d x)) d x
  rw [State.pr_setPr_same] at sent
  exact sent ..
theorem selectorOutputEffect_out : ∃ m b, Out.selected d x (if d = 0 then (s.cn 0 x).out else 0)
    (if (s.sentPair t d x).aisOut = true then none else some (s.sentPair t d x).sel) m ((t : Int) - (s.pr d x).aConst).toNat b ∈
      (selectorOutputEffect t d x s).out := by
  rw [selectorOutputEffect_due pair on tf due, ← State.choose_sentPair]
  exact State.out_sendFrame ..
end

theorem selectorOutput_holds : Claims.selectorOutput := by
  intro s t d x ⟨pair, on, tf, due⟩
  obtain ⟨m, r, sent⟩ := selectorOutputEffect_pair (s := s.at_ t) pair on tf due
  obtain ⟨mfas, bytes, out⟩ := selectorOutputEffect_out (s := s.at_ t) pair on tf due
  have sel := (s.at_ t).sel_sentPair t d x
  refine .of_event rfl ?_
  rw [State.pr_ended, sent]
  refine ⟨rfl, fun xAbove => ?_, fun yAbove => ?_, fun equal => ?_, (s.at_ t).aisOut_sentPair t d x, rfl, rfl, mfas, bytes,
    State.out_ended s _ _ out⟩
  · exact sel.trans (if_pos xAbove)
  · exact sel.trans ((if_neg (Nat.lt_asymm yAbove)).trans (if_pos yAbove))
  · exact sel.trans ((if_neg (Nat.not_lt.2 (Nat.le_of_eq equal))).trans (if_neg (Nat.not_lt.2 (Nat.le_of_eq equal.symm))))

/-- Settles O38: for each step of a pair's selector an equation says what it makes of the pair (the timers) or of the pair and the arrival or the
frame that leaves, and each claim reads its fields off that equation. -/
theorem theHitlessSelectorLosesNoFrame : Obligations.TheHitlessSelectorLosesNoFrame :=
  ⟨firstUsableFrame_holds, searchHit_holds, identicalFrames_holds, trackedFrame_holds, descriptorComplete_holds, pairLock_holds,
    pairLoseAlignment_holds, pairBeyond_holds, pairReturnLocked_holds, pairIdle_holds, selectorOutput_holds⟩

end Sys2Proof.Machine
